-- ==== Sys2Proof/Word.lean ====
section
/-!
DEFINITION. The word types of the BT4 and nothing else: bytes, the 16, 32 and 64-bit words of registers and
records, 40-bit ACC35 containers and 44-bit device physical addresses (spec/01_package.md R6, R22).
-/
namespace Sys2Proof

/-- One byte. -/
abbrev Byte := BitVec 8
/-- A 16-bit word. -/
abbrev W16 := BitVec 16
/-- A 32-bit word: a vector lane, half a register. -/
abbrev W32 := BitVec 32
/-- A 64-bit word: a register, a scalar register, eight bytes of a record. -/
abbrev W64 := BitVec 64
/-- A 40-bit ACC35 container (R47). -/
abbrev W40 := BitVec 40

end Sys2Proof
end

