-- ==== Sys2Proof/Types.lean ====
section
/-!
DEFINITION. The operand types of commands: messages that arrive, samples that are read, counts of clocks that the
environment measures (notes/assumptions/2.md).
-/
namespace Sys2Proof

/-- Clocks that a vector-engine instruction waited, by cause (R147); counted by the environment. -/
structure VeWaits where
  lagg : Nat := 0
  mem : Nat := 0
  dep : Nat := 0
  deriving DecidableEq, Repr

/-- Clocks that the matrix array stalled before an event, by cause (R97, R112), and the clocks a tile operation waited
to issue (R237). -/
structure MxaWaits where
  drain : Nat := 0
  lagg : Nat := 0
  peat : Nat := 0
  hold : Nat := 0
  opnd : Nat := 0
  waited : Nat := 0
  deriving DecidableEq, Repr

/-- What the boot checks of R504 find in a firmware image (R502): the cryptography is the environment's. -/
structure ImageFacts where
  headerOk : Bool := false
  keyIndex : Nat := 0
  keyMatches : Bool := false
  sigOk : Bool := false
  bodyOk : Bool := false
  svn : Nat := 0
  version : Nat := 0
  deriving DecidableEq, Repr

/-- A 1 s window of a port's FEC decoder (R391, R395): corrected bits, codewords, uncorrectable codewords, corrected
symbols by lane. -/
structure PortWindow where
  bits : Nat
  codewords : Nat := 0
  uncorr : Nat := 0
  syms : List Nat := []
  deriving DecidableEq, Repr

/-- What the package measures over a frame slot (R438, R455): the mean draw of the Liram rails and of the rest as FP32
watts, energies in microjoules (by cluster what its rail took, by queue what its commands took of the cluster rails and of
the others, each with its share of the conversion loss), edges suppressed by thermal stretching, bytes granted at each
crossbar output and class (index 4d + c) beyond those of the messages between dies, and the scale-table entries (partition ×
65,536 + entry) that the hub's cache wrote back (R262). -/
structure SlotMeasure where
  liram : W32 := 0
  rest : W32 := 0
  total : Nat := 0
  unattr : Nat := 0
  recovery : Nat := 0
  guest : List Nat := []
  cluster : List Nat := []
  queue : List Nat := []
  uncore : List Nat := []
  thermClk : Nat := 0
  xbar : List Nat := []
  scaleWb : List Nat := []
  deriving DecidableEq, Repr

/-- A sample of every diode in 0.1 °C (R444, R496): two diodes per core in order of p, then the other 96. -/
structure ThermalRead where
  core : List Int
  other : List Int
  deriving DecidableEq, Repr

/-- How a UCIe module trained (R324, R325): whether it runs at its rate, and its bad lanes, bit 64 d + i for lane i of
direction d: those that failed the lane test, at a package reset those newly bad. -/
structure ModTest where
  link : Nat
  mod : Nat
  trained : Bool := true
  lanes : Nat := 0
  deriving DecidableEq, Repr

/-- What a drain meets as it starts (R93, R113): the time since the last tick in ns, and the 64-bit words found uncorrectable
in the Peat entry that it reads. -/
structure DrainInput where
  dt : Nat
  words : List Nat := []
  deriving DecidableEq, Repr

/-- What a request meets as it is issued (R163, R173): the time since the last tick in ns, and the lines whose staged or
cached copy it finds uncorrectable. -/
structure IssueInput where
  dt : Nat
  bad : List Nat := []
  deriving DecidableEq, Repr

/-- A Causeway flit that fails its CRC, or the flits with a bit in codeword `cw`, which the decoder could not correct (R359,
R367): the port, and by VC the flits of packets not yet whole that arrived intact before it. -/
structure CwError where
  port : Fin 64
  got : List Nat := []
  cw : Option Nat := none
  deriving DecidableEq, Repr

/-- What discovery finds at a guest site that answers (R336, R337): whether it accepts KGP, the rates in GT/s that it
supports, which of its modules support x64 (bit m), its identity block. -/
structure GuestFind where
  site : Nat
  kgp : Bool
  rates : List Nat
  wide : Nat
  ident : List Byte
  deriving DecidableEq, Repr

/-- What the power-on sequence measures and tests (R461 to R467). Modules, stacks and cores that are not listed pass;
a failing core is listed with its test item and operating point, a failing stack with 0 interface or 1 repair. -/
structure SeqInput where
  entryOk : Bool := true
  stageOk : Bool := true
  railOk : Bool := true
  kTestOk : Bool := true
  mods : List ModTest := []
  guests : List GuestFind := []
  railFail : List Nat := []
  stackFail : List (Nat × Nat) := []
  coreFail : List (Nat × Nat × Nat) := []
  uncoreFail : List Nat := []
  deriving DecidableEq, Repr

/-- A management medium (R511). -/
inductive Medium where
  | i3c | ethernet | pcie
  deriving DecidableEq, Repr

/-- A link control message (R380). Times are in units of 1/256 ns. -/
inductive CtlMsg where
  | timeReq (seq t1 : Nat)
  | timeRsp (seq t2 t3 : Nat)
  | beacon (master backup hops tick sel : Nat)
  | candidate (dev : Nat) (now : Bool) (seq : Nat)
  | hold (group h origin cause : Nat)
  | abort (group status origin : Nat)
  | period (tc sel : Nat)
  | portId (dev port cap : Nat)
  deriving DecidableEq, Repr

/-- A flit of a pair contribution (R365, R409): GROUP and SSEQ of the trailer, the S header, the lead chunk's BYTES
and VERSION where FIDX is 0, and the data bytes. `rsv` holds when a reserved bit is set. -/
structure SFlit where
  group : Nat
  sseq : Nat
  srcM : Nat
  dstM : Nat
  seq : Nat
  epoch : Nat
  op : Nat
  fidx : Nat
  pmap : Nat
  last : Bool
  phase2 : Bool
  rsv : Bool := false
  bytes : Nat := 0
  version : Nat := 0
  data : List Byte := []
  deriving DecidableEq, Repr

/-- A collective control chunk (R413). -/
structure CollCtl where
  code : Nat
  sender : Nat
  seq : Nat
  epoch : Nat
  first : Nat := 0
  count : Nat := 0
  deriving DecidableEq, Repr

/-- A B-class packet (R369, R370) with the VC of its flits: byte enables and poison bits are empty lists where the
header says that the chunks are absent. `group` is the group of a COLL or COLL_CTL packet's collective, `floors` the
flits that took a floor credit; `back` holds, while a packet is being forwarded, the port and the VC it came in on and the
floor credits still to be returned there (R372). -/
structure Packet where
  ptype : Nat
  dst : Nat
  src : Nat
  vc : Nat := 0
  via : Nat := 0
  rphase : Nat := 0
  tid : Nat := 0
  nlines : Nat := 0
  stat : Nat := 0
  hops : Nat := 0
  laddr : Nat := 0
  be : List Bool := []
  pmap : List Bool := []
  data : List Byte := []
  token : W64 := 0
  flit : Option SFlit := none
  ctl : Option CollCtl := none
  group : Nat := 0
  floors : Nat := 0
  back : Option (Nat × Nat × Nat) := none
  deriving DecidableEq, Repr

end Sys2Proof
end

