-- ==== Sys2Proof/Syntax.lean ====
section
/-!
DEFINITION. The commands of the block: one constructor per row of spec/opcode_table.json, in its order, with the
row's operands.
-/
namespace Sys2Proof

/-- The commands. -/
inductive Instr where
  /-- VIN_APPLIED (R450). -/
  | vinApplied (mv : Int) (slew : Fin 4) (dbg : Bool)
  /-- VIN_REMOVED (R450). -/
  | vinRemoved
  /-- CONTROLLER_BOOT (R504). -/
  | controllerBoot (c selfTest : Bool)
  /-- INITIAL_CLAIM_TIMEOUT (R492). -/
  | initialClaimTimeout
  /-- HEARTBEAT_TIMEOUT (R492). -/
  | heartbeatTimeout (c : Bool)
  /-- WATCHDOG_EXPIRY (R492). -/
  | watchdogExpiry (c : Bool)
  /-- HANDOVER (R492). -/
  | handover
  /-- MANAGEMENT_WRITE (R494). -/
  | managementWrite (block : Nat) (c : Bool)
  /-- LOG_ENTRY (R497). -/
  | logEntry (code : Fin 65536) (inst : Fin 256) (src : Fin 16) (sev : Fin 4) (ctrl : Bool) (args : List W64)
  /-- LOG_SUPPRESS_WINDOW (R500). -/
  | logSuppressWindow (code : Fin 65536) (inst : Fin 256)
  /-- LOG_PERSIST (R500). -/
  | logPersist
  /-- REQUEST_UPDATE (R505). -/
  | requestUpdate (m : Medium) (j : ImageFacts)
  /-- FIRMWARE_VERIFY (R505). -/
  | firmwareVerify (m : Medium)
  /-- ACTIVATE_FIRMWARE (R505). -/
  | activateFirmware (m : Medium)
  /-- TRIAL_TIMEOUT (R505). -/
  | trialTimeout
  /-- FW_COMMIT (R505). -/
  | fwCommit (m : Medium)
  /-- SVN_COMMIT (R508). -/
  | svnCommit (m : Medium)
  /-- GET_STATE (R514). -/
  | getState (m : Medium)
  /-- SET_STATE (R514). -/
  | setState (m : Medium) (req : Nat) (x : SeqInput) (unmet : Fin 4)
  /-- DIE_LINK_WINDOW (R468). -/
  | dieLinkWindow (l : Fin 6) (m : Fin 16) (trained : Bool) (lanes : Nat)
  /-- PORT_DROPPED (R469). -/
  | portDropped (k : Fin 64)
  /-- SEQUENCE_TIME_LIMIT (R461). -/
  | sequenceTimeLimit
  /-- READY (R470). -/
  | ready (ms : Nat)
  /-- OMC_HANDOVER (R514). -/
  | omcHandover (m : Medium)
  /-- READ_REG (R514). -/
  | readReg (m : Medium) (pg ofs : Nat)
  /-- LOG_READ (R514). -/
  | logRead (m : Medium) (seq n : Nat)
  /-- LOG_FLASH_READ (R514). -/
  | logFlashRead (m : Medium) (place n : Nat)
  /-- ETH_CFG (R512). -/
  | ethCfg (m : Medium) (enable dhcp : Bool) (addr mask gateway : W32) (allow : List W32)
  /-- ETH_DATAGRAM (R512). -/
  | ethDatagram (peer : W32)
  /-- GET_VERSION (R509). -/
  | getVersion (m : Medium)
  /-- GET_CAPABILITIES (R509). -/
  | getCapabilities (m : Medium)
  /-- NEGOTIATE_ALGORITHMS (R509). -/
  | negotiateAlgorithms (m : Medium) (p384 sha384 : Bool)
  /-- GET_DIGESTS (R509). -/
  | getDigests (m : Medium)
  /-- GET_CERTIFICATE (R509). -/
  | getCertificate (m : Medium) (slot : Fin 8) (n : Nat)
  /-- CHALLENGE (R509). -/
  | challenge (m : Medium) (slot : Fin 8)
  /-- GET_MEASUREMENTS (R510). -/
  | getMeasurements (m : Medium) (index : Nat) (signed : Bool)
  /-- GET_SENSOR_READING (R496). -/
  | getSensorReading (m : Medium) (id : Nat)
  /-- MCTP_CONTROL (R511). -/
  | mctpControl (m : Medium) (eid : Option Byte)
  /-- I3C_ISOLATE (R513). -/
  | i3cIsolate (scl sda : Bool)
  /-- I3C_REJOIN (R513). -/
  | i3cRejoin
  /-- LSM_ISOLATE (R563). -/
  | lsmIsolate (b : Fin 2)
  /-- LSM_INTERRUPT (R557). -/
  | lsmInterrupt (e : Fin 16) (feed : Fin 4) (flags : W32)
  /-- THERMISTOR_SAMPLE (R447). -/
  | thermistorSample (mv0 mv1 : Nat)
  /-- THERMAL_SAMPLE (R445). -/
  | thermalSample (r : ThermalRead)
  /-- COOL_FLOW_LOW (R446). -/
  | coolFlowLow (us : Nat)
  /-- INPUT_FAULT (R448). -/
  | inputFault (kind : Fin 4) (reading : Nat)
  /-- REMOTE_SENSE_OPEN (R448). -/
  | remoteSenseOpen
  /-- STAGE_FAIL (R449). -/
  | stageFail (j : Fin 24)
  /-- RAIL_OVERCURRENT (R448). -/
  | railOvercurrent (r : Fin 50) (reading : Nat)
  /-- DROOP_DETECT (R434). -/
  | droopDetect (c : Fin 32)
  /-- DROOP_PERSIST (R479). -/
  | droopPersist (p : Fin 256)
  /-- DIODE_MISMATCH (R479). -/
  | diodeMismatch (p : Fin 256)
  /-- FAST_LIMITER_SAMPLE (R442). -/
  | fastLimiterSample (watts vin10 clk : Nat)
  /-- REFCLK_B_LOSS (R569). -/
  | refclkBLoss
  /-- REFCLK_B_RETURN (R569). -/
  | refclkBReturn
  /-- REFCLK_A_LOSS (R569). -/
  | refclkALoss
  /-- PERST (R566). -/
  | perst
  /-- FUNCTION_LEVEL_RESET (R549). -/
  | functionLevelReset (f : Fin 9)
  /-- FLR_TIMEOUT (R549). -/
  | flrTimeout
  /-- VF_ENABLE_CLEAR (R519). -/
  | vfEnableClear
  /-- DORMANT_REQUEST (R451). -/
  | dormantRequest
  /-- WAKE_REQUEST (R453). -/
  | wakeRequest
  /-- STANDBY_REQUEST (R452). -/
  | standbyRequest
  /-- STANDBY_DRAIN_TIMEOUT (R452). -/
  | standbyDrainTimeout
  /-- PWR_CTRL_WRITE (R459). -/
  | pwrCtrlWrite (v : W64)
  /-- SLUICE_TICK (R204). -/
  | sluiceTick (m : SlotMeasure)
  /-- HINT_EXPIRY (R440). -/
  | hintExpiry (q : Fin 64)
  /-- OVERRUN (R206). -/
  | overrun (q : Fin 64)
  /-- HOLD_LIMIT_ABORT (R210). -/
  | holdLimitAbort (gid : Fin 65536)
  /-- PERIOD_REQUEST (R199). -/
  | periodRequest (v : W64) (dt : Nat)
  /-- PERIOD_CHANGE (R199). -/
  | periodChange (m : SlotMeasure)
  /-- PERIOD_ADOPTION (R578). -/
  | periodAdoption (m : SlotMeasure)
  /-- MASTER_TAKEOVER (R201). -/
  | masterTakeover
  /-- TIME_EXCHANGE_MISSING (R203). -/
  | timeExchangeMissing
  /-- TIME_REQ (R202). -/
  | timeReq (k : Fin 64) (seq t2 t3 : Nat)
  /-- TIME_RSP (R202). -/
  | timeRsp (k : Fin 64) (seq t2 t3 t4 : Nat)
  /-- BEACON (R381). -/
  | beacon (k : Fin 64) (m b : Fin 262144) (hops : Fin 16) (tick sel dt : Nat)
  /-- CANDIDATE (R200). -/
  | candidate (k : Fin 64) (dev : Fin 262144) (now : Bool) (seq : Nat)
  /-- HOLD (R207). -/
  | holdMsg (k : Fin 64) (gid : Fin 65536) (h : Nat) (origin : Fin 262144) (cause : Nat)
  /-- ABORT (R210). -/
  | abortMsg (k : Fin 64) (gid : Fin 65536) (st : Fin 256) (origin : Fin 262144)
  /-- PERIOD (R199). -/
  | periodMsg (k : Fin 64) (tc sel : Nat)
  /-- QUEUE_ENABLE (R529). -/
  | queueEnable (f : Fin 9) (q : Fin 64)
  /-- QUEUE_DISABLE (R530). -/
  | queueDisable (f : Fin 9) (q : Fin 64)
  /-- DISABLE_COMPLETE (R530). -/
  | disableComplete (q : Fin 64)
  /-- SQ_TAIL (R534). -/
  | sqTail (f : Fin 9) (q : Fin 64) (v : W64)
  /-- CQ_HEAD (R534). -/
  | cqHead (f : Fin 9) (q : Fin 64) (v : W64)
  /-- COMMAND_FETCH (R196). -/
  | commandFetch (q : Fin 64)
  /-- NOP (R229). -/
  | nop (q : Fin 64) (n : Nat)
  /-- TILE (R239). -/
  | tile (q : Fin 64) (n : Nat)
  /-- TILE_ISSUE (R81). -/
  | tileIssue (p : Fin 256) (w : MxaWaits)
  /-- TILE_COMPLETE (R80). -/
  | tileComplete (p : Fin 256)
  /-- DRAIN (R243). -/
  | drain (q : Fin 64) (n : Nat)
  /-- PEAT_FLUSH (R108). -/
  | peatFlush (q : Fin 64) (n : Nat)
  /-- DRAIN_START (R93). -/
  | drainStart (p : Fin 256) (w : DrainInput)
  /-- SCALE_ANSWER (R271). -/
  | scaleAnswer (p : Fin 256) (cold dt : Nat)
  /-- SCALE_WAIT_TIMEOUT (R272). -/
  | scaleWaitTimeout (p : Fin 256)
  /-- WISP_RESULT (R277). -/
  | wispResult (p : Fin 256)
  /-- PARITY_ERROR (R113). -/
  | parityError (p : Fin 256) (unit : Fin 4)
  /-- VE_PROG (R244). -/
  | veProg (q : Fin 64) (n : Nat)
  /-- VE_ILLEGAL_INSTRUCTION (R118). -/
  | veIllegalInstruction (p : Fin 256) (w : VeWaits)
  /-- VE_NOP (R122). -/
  | veNop (p : Fin 256) (w : VeWaits)
  /-- END (R116). -/
  | endProg (p : Fin 256) (w : VeWaits)
  /-- BR (R122). -/
  | br (p : Fin 256) (w : VeWaits)
  /-- BZ (R122). -/
  | bz (p : Fin 256) (w : VeWaits)
  /-- BNZ (R122). -/
  | bnz (p : Fin 256) (w : VeWaits)
  /-- BLT (R122). -/
  | blt (p : Fin 256) (w : VeWaits)
  /-- LOOP (R122). -/
  | loopS (p : Fin 256) (w : VeWaits)
  /-- SETVL (R122). -/
  | setvl (p : Fin 256) (w : VeWaits)
  /-- SETVLI (R122). -/
  | setvli (p : Fin 256) (w : VeWaits)
  /-- ADD (R122). -/
  | add (p : Fin 256) (w : VeWaits)
  /-- SUB (R122). -/
  | sub (p : Fin 256) (w : VeWaits)
  /-- MUL (R122). -/
  | mul (p : Fin 256) (w : VeWaits)
  /-- AND (R122). -/
  | andS (p : Fin 256) (w : VeWaits)
  /-- OR (R122). -/
  | orS (p : Fin 256) (w : VeWaits)
  /-- XOR (R122). -/
  | xorS (p : Fin 256) (w : VeWaits)
  /-- SHL (R122). -/
  | shl (p : Fin 256) (w : VeWaits)
  /-- SHR (R122). -/
  | shr (p : Fin 256) (w : VeWaits)
  /-- SAR (R122). -/
  | sar (p : Fin 256) (w : VeWaits)
  /-- SMIN (R122). -/
  | smin (p : Fin 256) (w : VeWaits)
  /-- SMAX (R122). -/
  | smax (p : Fin 256) (w : VeWaits)
  /-- ADDI (R122). -/
  | addi (p : Fin 256) (w : VeWaits)
  /-- LI (R122). -/
  | li (p : Fin 256) (w : VeWaits)
  /-- LSH (R122). -/
  | lsh (p : Fin 256) (w : VeWaits)
  /-- FADD (R123). -/
  | fadd (p : Fin 256) (w : VeWaits)
  /-- FMUL (R123). -/
  | fmul (p : Fin 256) (w : VeWaits)
  /-- FMAX (R123). -/
  | fmax (p : Fin 256) (w : VeWaits)
  /-- FMIN (R123). -/
  | fmin (p : Fin 256) (w : VeWaits)
  /-- SACC (R124). -/
  | sacc (p : Fin 256) (w : VeWaits)
  /-- W2F (R133). -/
  | w2f (p : Fin 256) (w : VeWaits)
  /-- F2W (R122). -/
  | f2w (p : Fin 256) (w : VeWaits)
  /-- VEXT (R122). -/
  | vext (p : Fin 256) (w : VeWaits)
  /-- SLD (R122). -/
  | sld (p : Fin 256) (w : VeWaits)
  /-- SST (R122). -/
  | sst (p : Fin 256) (w : VeWaits)
  /-- STRD (R122). -/
  | strd (p : Fin 256) (w : VeWaits)
  /-- STCLR (R122). -/
  | stclr (p : Fin 256) (w : VeWaits)
  /-- VADD_F (R123). -/
  | vaddF (p : Fin 256) (w : VeWaits)
  /-- VSUB_F (R123). -/
  | vsubF (p : Fin 256) (w : VeWaits)
  /-- VMUL_F (R123). -/
  | vmulF (p : Fin 256) (w : VeWaits)
  /-- VFMA_F (R123). -/
  | vfmaF (p : Fin 256) (w : VeWaits)
  /-- VFMS_F (R123). -/
  | vfmsF (p : Fin 256) (w : VeWaits)
  /-- VFNMA_F (R123). -/
  | vfnmaF (p : Fin 256) (w : VeWaits)
  /-- VMIN_F (R123). -/
  | vminF (p : Fin 256) (w : VeWaits)
  /-- VMAX_F (R123). -/
  | vmaxF (p : Fin 256) (w : VeWaits)
  /-- VABS_F (R123). -/
  | vabsF (p : Fin 256) (w : VeWaits)
  /-- VNEG_F (R123). -/
  | vnegF (p : Fin 256) (w : VeWaits)
  /-- VCPS_F (R123). -/
  | vcpsF (p : Fin 256) (w : VeWaits)
  /-- VMOV (R123). -/
  | vmov (p : Fin 256) (w : VeWaits)
  /-- VBC (R122). -/
  | vbc (p : Fin 256) (w : VeWaits)
  /-- VSEL (R122). -/
  | vsel (p : Fin 256) (w : VeWaits)
  /-- VADD_B (R123). -/
  | vaddB (p : Fin 256) (w : VeWaits)
  /-- VSUB_B (R123). -/
  | vsubB (p : Fin 256) (w : VeWaits)
  /-- VMUL_B (R123). -/
  | vmulB (p : Fin 256) (w : VeWaits)
  /-- VFMA_B (R123). -/
  | vfmaB (p : Fin 256) (w : VeWaits)
  /-- VMIN_B (R123). -/
  | vminB (p : Fin 256) (w : VeWaits)
  /-- VMAX_B (R123). -/
  | vmaxB (p : Fin 256) (w : VeWaits)
  /-- VABS_B (R123). -/
  | vabsB (p : Fin 256) (w : VeWaits)
  /-- VNEG_B (R123). -/
  | vnegB (p : Fin 256) (w : VeWaits)
  /-- VADD_I (R122). -/
  | vaddI (p : Fin 256) (w : VeWaits)
  /-- VSUB_I (R122). -/
  | vsubI (p : Fin 256) (w : VeWaits)
  /-- VMUL_I (R122). -/
  | vmulI (p : Fin 256) (w : VeWaits)
  /-- VADDS_I (R122). -/
  | vaddsI (p : Fin 256) (w : VeWaits)
  /-- VSUBS_I (R122). -/
  | vsubsI (p : Fin 256) (w : VeWaits)
  /-- VAND (R122). -/
  | vand (p : Fin 256) (w : VeWaits)
  /-- VOR (R122). -/
  | vor (p : Fin 256) (w : VeWaits)
  /-- VXOR (R122). -/
  | vxor (p : Fin 256) (w : VeWaits)
  /-- VSHL (R122). -/
  | vshl (p : Fin 256) (w : VeWaits)
  /-- VSHR (R122). -/
  | vshr (p : Fin 256) (w : VeWaits)
  /-- VSAR (R122). -/
  | vsar (p : Fin 256) (w : VeWaits)
  /-- VMIN_I (R122). -/
  | vminI (p : Fin 256) (w : VeWaits)
  /-- VMAX_I (R122). -/
  | vmaxI (p : Fin 256) (w : VeWaits)
  /-- VIOTA (R122). -/
  | viota (p : Fin 256) (w : VeWaits)
  /-- VCMP_F (R123). -/
  | vcmpF (p : Fin 256) (w : VeWaits)
  /-- VCMP_I (R122). -/
  | vcmpI (p : Fin 256) (w : VeWaits)
  /-- VNAN (R122). -/
  | vnan (p : Fin 256) (w : VeWaits)
  /-- MAND (R122). -/
  | mand (p : Fin 256) (w : VeWaits)
  /-- MOR (R122). -/
  | mor (p : Fin 256) (w : VeWaits)
  /-- MXOR (R122). -/
  | mxor (p : Fin 256) (w : VeWaits)
  /-- MANDN (R122). -/
  | mandn (p : Fin 256) (w : VeWaits)
  /-- MNOT (R122). -/
  | mnot (p : Fin 256) (w : VeWaits)
  /-- MVL (R122). -/
  | mvl (p : Fin 256) (w : VeWaits)
  /-- MPOP (R122). -/
  | mpop (p : Fin 256) (w : VeWaits)
  /-- MFIRST (R122). -/
  | mfirst (p : Fin 256) (w : VeWaits)
  /-- MLD (R122). -/
  | mld (p : Fin 256) (w : VeWaits)
  /-- MST (R122). -/
  | mst (p : Fin 256) (w : VeWaits)
  /-- VEXP2 (R131). -/
  | vexp2 (p : Fin 256) (w : VeWaits)
  /-- VLOG2 (R131). -/
  | vlog2 (p : Fin 256) (w : VeWaits)
  /-- VRCP (R131). -/
  | vrcp (p : Fin 256) (w : VeWaits)
  /-- VRSQ (R131). -/
  | vrsq (p : Fin 256) (w : VeWaits)
  /-- VSQRT (R131). -/
  | vsqrt (p : Fin 256) (w : VeWaits)
  /-- VTANH (R131). -/
  | vtanh (p : Fin 256) (w : VeWaits)
  /-- VSIG (R131). -/
  | vsig (p : Fin 256) (w : VeWaits)
  /-- VSILU (R131). -/
  | vsilu (p : Fin 256) (w : VeWaits)
  /-- VGELU (R131). -/
  | vgelu (p : Fin 256) (w : VeWaits)
  /-- RSUM (R127). -/
  | rsum (p : Fin 256) (w : VeWaits)
  /-- RSSQ (R127). -/
  | rssq (p : Fin 256) (w : VeWaits)
  /-- RMAX (R128). -/
  | rmax (p : Fin 256) (w : VeWaits)
  /-- RMIN (R128). -/
  | rmin (p : Fin 256) (w : VeWaits)
  /-- RAMAX (R128). -/
  | ramax (p : Fin 256) (w : VeWaits)
  /-- RSUM_W (R127). -/
  | rsumW (p : Fin 256) (w : VeWaits)
  /-- RSSQ_W (R127). -/
  | rssqW (p : Fin 256) (w : VeWaits)
  /-- ARGMAX (R128). -/
  | argmax (p : Fin 256) (w : VeWaits)
  /-- RSUM_I (R128). -/
  | rsumI (p : Fin 256) (w : VeWaits)
  /-- VPERM (R129). -/
  | vperm (p : Fin 256) (w : VeWaits)
  /-- VPERMH (R129). -/
  | vpermh (p : Fin 256) (w : VeWaits)
  /-- VSLDN (R130). -/
  | vsldn (p : Fin 256) (w : VeWaits)
  /-- VSLUP (R130). -/
  | vslup (p : Fin 256) (w : VeWaits)
  /-- VCOMP (R130). -/
  | vcomp (p : Fin 256) (w : VeWaits)
  /-- VEXPD (R130). -/
  | vexpd (p : Fin 256) (w : VeWaits)
  /-- VREV (R130). -/
  | vrev (p : Fin 256) (w : VeWaits)
  /-- VF2I (R133). -/
  | vf2i (p : Fin 256) (w : VeWaits)
  /-- VI2F (R133). -/
  | vi2f (p : Fin 256) (w : VeWaits)
  /-- VPACK (R133). -/
  | vpack (p : Fin 256) (w : VeWaits)
  /-- VUNLO (R133). -/
  | vunlo (p : Fin 256) (w : VeWaits)
  /-- VUNHI (R133). -/
  | vunhi (p : Fin 256) (w : VeWaits)
  /-- VQNT (R122). -/
  | vqnt (p : Fin 256) (w : VeWaits)
  /-- WADD (R124). -/
  | wadd (p : Fin 256) (w : VeWaits)
  /-- WADDF (R124). -/
  | waddf (p : Fin 256) (w : VeWaits)
  /-- WFROM (R138). -/
  | wfrom (p : Fin 256) (w : VeWaits)
  /-- WTO (R138). -/
  | wto (p : Fin 256) (w : VeWaits)
  /-- WFROMI (R138). -/
  | wfromi (p : Fin 256) (w : VeWaits)
  /-- VLD (R136). -/
  | vld (p : Fin 256) (w : VeWaits)
  /-- VST (R136). -/
  | vst (p : Fin 256) (w : VeWaits)
  /-- VLDS (R122). -/
  | vlds (p : Fin 256) (w : VeWaits)
  /-- VSTS (R122). -/
  | vsts (p : Fin 256) (w : VeWaits)
  /-- VLDX (R122). -/
  | vldx (p : Fin 256) (w : VeWaits)
  /-- VSTX (R122). -/
  | vstx (p : Fin 256) (w : VeWaits)
  /-- VLDC_F (R135). -/
  | vldcF (p : Fin 256) (w : VeWaits)
  /-- VLDC_I (R135). -/
  | vldcI (p : Fin 256) (w : VeWaits)
  /-- VSTC_F (R135). -/
  | vstcF (p : Fin 256) (w : VeWaits)
  /-- VSTC_I (R135). -/
  | vstcI (p : Fin 256) (w : VeWaits)
  /-- SPL_LD (R138). -/
  | splLd (p : Fin 256) (w : VeWaits)
  /-- SPL_ST (R138). -/
  | splSt (p : Fin 256) (w : VeWaits)
  /-- SPL_FOLD (R139). -/
  | splFold (p : Fin 256) (w : VeWaits)
  /-- LWAIT (R141). -/
  | lwait (p : Fin 256) (w : VeWaits)
  /-- LPEEK (R141). -/
  | lpeek (p : Fin 256) (w : VeWaits)
  /-- LLD (R143). -/
  | lld (p : Fin 256) (w : VeWaits)
  /-- LLDW (R143). -/
  | lldw (p : Fin 256) (w : VeWaits)
  /-- LREL (R144). -/
  | lrel (p : Fin 256) (w : VeWaits)
  /-- GATHER (R156). -/
  | gather (q : Fin 64) (n : Nat)
  /-- PREFETCH (R169). -/
  | prefetch (q : Fin 64) (n : Nat)
  /-- HERON_REQUEST_ISSUE (R163). -/
  | heronRequestIssue (p : Fin 256) (e pf : Bool) (w : IssueInput)
  /-- PAGE_WALK (R154). -/
  | pageWalk (p : Fin 256) (e : Bool)
  /-- HERON_READ_RESPONSE (R164). -/
  | heronReadResponse (p : Fin 256) (e : Bool) (id dt : Nat) (data : List Byte) (err : Bool)
  /-- HERON_WRITE_ACK (R164). -/
  | heronWriteAck (p : Fin 256) (e : Bool) (id : Nat)
  /-- PREFETCH_FILL (R172). -/
  | prefetchFill (p : Fin 256) (j : Nat)
  /-- SCRUB (R180). -/
  | scrub (a : Nat) (found : Fin 3)
  /-- REDUCE_SCATTER (R405). -/
  | reduceScatter (q : Fin 64) (n : Nat)
  /-- ALL_GATHER (R400). -/
  | allGather (q : Fin 64) (n : Nat)
  /-- ALL_REDUCE (R401). -/
  | allReduce (q : Fin 64) (n : Nat)
  /-- BROADCAST (R400). -/
  | broadcast (q : Fin 64) (n : Nat)
  /-- ALL_TO_ALL (R400). -/
  | allToAll (q : Fin 64) (n : Nat)
  /-- SEQ_RING (R425). -/
  | seqRing (q : Fin 64) (n : Nat)
  /-- AMAX_MAX (R406). -/
  | amaxMax (q : Fin 64) (n : Nat)
  /-- PARAM_GATHER (R420). -/
  | paramGather (q : Fin 64) (n : Nat)
  /-- S_WINDOW_OPEN (R377). -/
  | sWindowOpen (k : Fin 64) (e : Fin 256) (n : Nat)
  /-- S_SLOT_MISS (R416). -/
  | sSlotMiss (j : Nat)
  /-- RESERVE_WINDOW (R379). -/
  | reserveWindow (k : Fin 64) (e : Fin 256) (n : Nat)
  /-- S_FLIT_RECEIVE (R378). -/
  | sFlitReceive (k : Fin 64) (f : SFlit) (full : Bool)
  /-- COLL (R413). -/
  | coll (k : Fin 64) (p : Packet) (full : Bool)
  /-- RESEND (R415). -/
  | resend (k : Fin 64) (p : Packet)
  /-- ACK (R415). -/
  | ack (k : Fin 64) (p : Packet)
  /-- REISSUE (R421). -/
  | reissue (k : Fin 64) (p : Packet)
  /-- UPDATE (R250). -/
  | update (q : Fin 64) (n : Nat)
  /-- UPDATE_ARM (R308). -/
  | updateArm
  /-- UPDATE_WRITE_PHASE (R298). -/
  | updateWritePhase (ns : Nat)
  /-- SCALE_CLEAR (R267). -/
  | scaleClear (q : Fin 64) (n : Nat)
  /-- SCALE_LOAD (R267). -/
  | scaleLoad (q : Fin 64) (n : Nat)
  /-- SCALE_STORE (R267). -/
  | scaleStore (q : Fin 64) (n : Nat)
  /-- SCALE_RESCALE (R267). -/
  | scaleRescale (q : Fin 64) (n : Nat)
  /-- HINT (R440). -/
  | hint (q : Fin 64) (n : Nat)
  /-- FENCE_SIGNAL (R217). -/
  | fenceSignal (q : Fin 64) (n : Nat)
  /-- FENCE_WAIT (R218). -/
  | fenceWait (q : Fin 64) (n : Nat)
  /-- TICK_WAIT (R198). -/
  | tickWait (q : Fin 64) (n : Nat)
  /-- EPOCH (R221). -/
  | epoch (q : Fin 64) (n : Nat)
  /-- RD (R348). -/
  | rd (j : Nat)
  /-- RD_RC (R348). -/
  | rdRc (j : Nat)
  /-- RSP (R348). -/
  | rsp (j : Nat)
  /-- WR (R349). -/
  | wr (j : Nat)
  /-- WR_ACK (R349). -/
  | wrAck (j : Nat)
  /-- INV (R349). -/
  | inv (j : Nat)
  /-- INV_ACK (R349). -/
  | invAck (j : Nat)
  /-- INV_DONE (R349). -/
  | invDone (j : Nat)
  /-- EVICT_NOTE (R348). -/
  | evictNote (j : Nat)
  /-- FDEC (R346). -/
  | fdec (j : Nat)
  /-- LINK_REPLAY (R331). -/
  | linkReplay (l : Fin 6) (m : Fin 16) (ack : Nat)
  /-- MODULE_DOWN (R332). -/
  | moduleDown (l : Fin 6) (m : Fin 16) (cause : Fin 3)
  /-- LINK_MONITOR_WINDOW (R333). -/
  | linkMonitorWindow (l : Fin 6) (m : Fin 16)
  /-- GUEST_ADMIT (R338). -/
  | guestAdmit (g : Fin 2) (v : W64)
  /-- GUEST_ADMIT_ACK (R338). -/
  | guestAdmitAck (g : Fin 2)
  /-- GUEST_REMOVE (R344). -/
  | guestRemove (g : Fin 2) (v : W64)
  /-- GUEST_RAIL_OFF (R344). -/
  | guestRailOff (g : Fin 2)
  /-- GUEST_REQUEST (R342). -/
  | guestRequest (g : Fin 2) (wr : Bool) (dva : W64) (n : Nat) (data : List Byte) (be pm : List Bool)
  /-- GUEST_POWER_SAMPLE (R343). -/
  | guestPowerSample (g : Fin 2) (w10 : Nat)
  /-- PORT_ENABLE (R361). -/
  | portEnable (k : Fin 64)
  /-- PORT_DISABLE (R393). -/
  | portDisable (k : Fin 64)
  /-- PORT_UP (R364). -/
  | portUp (k : Fin 64) (nd : Fin 262144) (np : Fin 64) (rt pipe : Nat)
  /-- PORT_TRAINING_FAIL (R362). -/
  | portTrainingFail (k : Fin 64) (cause : Nat)
  /-- PORT_RETRAIN (R362). -/
  | portRetrain (k : Fin 64)
  /-- PORT_DOWN (R364). -/
  | portDown (k : Fin 64) (cause : Nat)
  /-- BER_WINDOW (R391). -/
  | berWindow (k : Fin 64) (w : PortWindow)
  /-- SCHED_COMMIT (R376). -/
  | schedCommit (k : Fin 64)
  /-- CAUSEWAY_REPLAY (R367). -/
  | causewayReplay (k : Fin 64) (ack : Nat)
  /-- PACKET_ROUTE (R386). -/
  | packetRoute (k : Fin 64) (p : Packet)
  /-- RD_REQ (R384). -/
  | rdReq (k : Fin 64) (p : Packet)
  /-- RD_RSP (R385). -/
  | rdRsp (k : Fin 64) (p : Packet)
  /-- CW_WR (R384). -/
  | cwWr (k : Fin 64) (p : Packet)
  /-- CW_WR_ACK (R385). -/
  | cwWrAck (k : Fin 64) (p : Packet)
  /-- FENCE_SIG (R217). -/
  | fenceSig (k : Fin 64) (p : Packet)
  /-- FENCE_ACK (R385). -/
  | fenceAck (k : Fin 64) (p : Packet)
  /-- FABRIC_TIMEOUT (R385). -/
  | fabricTimeout (tid : Fin 65536)
  /-- FAB_CFG_WRITE (R383). -/
  | fabCfgWrite (v : W64)
  /-- MEMBER_TABLE_WRITE (R397). -/
  | memberTableWrite (j : Fin 96) (self : Bool) (v : W64)
  /-- CORE_RESET (R476). -/
  | coreReset (p : Fin 256)
  /-- CLUSTER_RESET (R477). -/
  | clusterReset (c : Fin 256)
  /-- PARTITION_RESET (R478). -/
  | partitionReset (n : Fin 256)
  /-- PARTITION_CLUSTER_RESETS (R478). -/
  | partitionClusterResets (n : Fin 8)
  /-- FENCE_CORE_REQUEST (R479). -/
  | fenceCoreRequest (p : Fin 256)
  /-- FENCE_CLUSTER_REQUEST (R479). -/
  | fenceClusterRequest (c : Fin 256)
  /-- INJECT_CS_UNCORR (R525). -/
  | injectCsUncorr (p : Fin 256)
  /-- INJECT_DRAIN_PARITY (R525). -/
  | injectDrainParity (p : Fin 256)
  /-- INJECT_VE_PARITY (R525). -/
  | injectVeParity (p : Fin 256)
  /-- INJECT_MXA_PARITY (R525). -/
  | injectMxaParity (p : Fin 256)
  /-- INJECT_REG_PARITY (R525). -/
  | injectRegParity (pg : Fin 16384)
  /-- PARTITION_MAP_WRITE (R538). -/
  | partitionMapWrite (r : Fin 4) (v : W64)
  /-- FENCE_MAP_WRITE (R539). -/
  | fenceMapWrite (j : Fin 32) (v : W64)
  /-- FENCE_CNT_WRITE (R540). -/
  | fenceCntWrite (j : Fin 256) (v : W64)
  /-- BAR4_BASE_WRITE (R541). -/
  | bar4BaseWrite (v : W64)
  /-- BAR4_READ (R541). -/
  | bar4Read (f : Fin 9) (o n : Nat)
  /-- BAR4_WRITE (R541). -/
  | bar4Write (f : Fin 9) (o : Nat) (data : List Byte) (ep : Bool)
  /-- XLAT_ROOT_WRITE (R545). -/
  | xlatRootWrite (c : Fin 64) (v : W64)
  /-- XLAT_INV (R546). -/
  | xlatInv (c : Fin 64) (v : W64)
  /-- XLAT_INV_COMPLETE (R546). -/
  | xlatInvComplete (c : Fin 64)
  /-- REGISTER_WRITE (R522). -/
  | registerWrite (f : Fin 9) (ofs dt : Nat) (data : List Byte)
  /-- UCIE_CRC_ERR (R331). -/
  | ucieCrcErr (l : Fin 6) (m : Fin 16)
  /-- UCIE_REPLAY_FLIT (R331). -/
  | ucieReplayFlit (l : Fin 6) (m : Fin 16) (seq : Nat)
  /-- UCIE_FLIT_ACK (R331). -/
  | ucieFlitAck (l : Fin 6) (m : Fin 16) (ack tx rx stall : Nat)
  /-- CW_CRC_ERR (R367). -/
  | cwCrcErr (e : CwError)
  /-- CW_REPLAY_FLIT (R367). -/
  | cwReplayFlit (k : Fin 64) (seq : Nat)
  /-- CW_FLIT_ACK (R367). -/
  | cwFlitAck (k : Fin 64) (ack stall : Nat)
  /-- CREDIT_RETURN (R372). -/
  | creditReturn (k : Fin 64) (floors : List Nat) (shared stall : Nat)
  /-- DROOP_END (R434). -/
  | droopEnd (c : Fin 32)
  /-- PARITY_AGE_OUT (R482). -/
  | parityAgeOut (p : Fin 256)
  /-- WAKE_COMPLETE (R453). -/
  | wakeComplete
  /-- DORMANT_ENTRY_COMPLETE (R451). -/
  | dormantEntryComplete
  /-- CORE_RESET_END (R476). -/
  | coreResetEnd (p : Fin 256)
  /-- CLUSTER_RESET_END (R477). -/
  | clusterResetEnd (c : Fin 32)
  /-- LSM_REJOIN (R563). -/
  | lsmRejoin (b : Fin 2)
  /-- PERST_RELEASE (R566). -/
  | perstRelease
  /-- ALERT_TIMEOUT (R557). -/
  | alertTimeout
  /-- REMOTE_SENSE_RESTORED (R448). -/
  | remoteSenseRestored
  /-- VF_ENABLE (R519). -/
  | vfEnable (n : Fin 9)
  /-- BAR4_RESIZE (R541). -/
  | bar4Resize (k : Fin 12)
  /-- REGISTER_READ (R522). -/
  | registerRead (f : Fin 9) (ofs dt n : Nat)
  /-- TAP_CLOCK (R564). -/
  | tapClock (seven tms tdi trst : Bool)
  deriving DecidableEq, Repr

end Sys2Proof
end

