-- ==== Sys2Proof/Decode.lean ====
section
/-!
DEFINITION. The command that a word of spec/opcode_table.json spells. The table gives no row a bit, so no word spells a
command: the block takes its commands as they are, not as encoded words.
-/
namespace Sys2Proof

/-- The command that a word of `nbits` bits spells: none, for every row of the table is without bits. -/
def decodeTableWord (_nbits _w : Nat) : Option Instr := none

end Sys2Proof
end

