-- ==== Sys2Proof/Config.lean ====
section
/-!
DEFINITION. The values that the spec leaves open, as constants with no body (notes/assumptions/1.md): a statement
that mentions one holds for every value of it.
-/
namespace Sys2Proof.Config

/-- The candidate encoding that the special-function unit proposes for the operation numbered `op` on operand bits
`x`; the model uses it only where it lies inside the error bound of R131 (spec/04_vector_engine.md). -/
opaque sfuCandidate (op x : Nat) : Nat

/-- The `n`-th free byte of an undefined result buffer (R210, R223, R421): drawn with the counter `freeN` of the
state. -/
opaque freeByte (n : Nat) : Byte

/-- The `n`-th free choice among `k` alternatives that the spec leaves to the implementation. -/
opaque freeChoice (n k : Nat) : Nat

/-- The `n`-th free 64-bit word (a value the spec gives no rule for). -/
opaque freeWord (n : Nat) : W64

/-- Whether a page of a block type for which R525 gives no rule (PSCHED, RTG) reads IN_SERVICE. -/
opaque inService (type inst : Nat) : Bool

/-- Whether TICK.STAT.OFFSET rounds an offset in 1/256 ns up (R225 gives no rounding). -/
opaque offsetUp (offset : Int) : Bool

/-- The length of the test access port's instruction register (R564 leaves it open). -/
opaque tapIrLen : Nat

/-- The instruction that the shifted bits select: 0 IDCODE, 1 BYPASS, 2 SAMPLE/PRELOAD, 3 EXTEST, 4 CLAMP, 5 HIGHZ, 6 a
private one (R564 leaves the codes open). -/
opaque tapInstr (bits : List Bool) : Nat

/-- The length of the boundary register (R564 leaves it open). -/
opaque tapBoundary : Nat

/-- The 32-bit value of a poisoned integer element in its low bits, and in bit 32 whether it counts as saturated, for cell
`i` of the operation drawn with counter `n` (R75 defines neither). -/
opaque poisonCell (n i : Nat) : BitVec 33

/-- The clock, from the start of its first K-block's load, that a transposed operation has reached when a register is
read `dt` ns into a tick and `n` free values have been drawn (no command says at which clock a read falls). -/
opaque holdClock (n dt : Nat) : Nat

/-- The SCALE_EXP of a kind for an FP32 magnitude and a margin that R260 gives none for. -/
opaque freeExp (kind x margin : Nat) : BitVec 16

end Sys2Proof.Config
end

