-- ==== Sys2Proof/Machine/Bits.lean ====
section
/-!
DEFINITION. Bit fields, sign extension, byte order (R6: little-endian) and sparse tables.
-/
namespace Sys2Proof.Machine

/-- Bits `[hi:lo]` of a number. -/
def bits (x hi lo : Nat) : Nat := (x >>> lo) % 2 ^ (hi + 1 - lo)

/-- Bit `i` of a number. -/
def bit (x i : Nat) : Bool := x.testBit i

/-- A one-bit field of the value of a Boolean. -/
def b2n (b : Bool) : Nat := if b then 1 else 0

/-- `x` with bit `i` made `b`. -/
def putBit (x i : Nat) (b : Bool) : Nat :=
  x - (b2n (x.testBit i)) * 2 ^ i + (b2n b) * 2 ^ i

/-- `x` with bits `[hi:lo]` replaced by the low bits of `v`. -/
def putBits (x hi lo v : Nat) : Nat :=
  x - (bits x hi lo) * 2 ^ lo + (v % 2 ^ (hi + 1 - lo)) * 2 ^ lo

/-- The two's-complement value of the low `w` bits of `x`. -/
def sext (w x : Nat) : Int :=
  let y := x % 2 ^ w
  if y < 2 ^ (w - 1) then (y : Int) else (y : Int) - (2 ^ w : Nat)

/-- The low `w` bits of an integer's two's-complement representation. -/
def toBits (w : Nat) (i : Int) : Nat := (i % ((2 ^ w : Nat) : Int)).toNat

/-- `n` bytes of `x`, least significant first (R6). -/
def toLE : Nat → Nat → List Byte
  | 0, _ => []
  | n + 1, x => BitVec.ofNat 8 (x % 256) :: toLE n (x / 256)

/-- The number whose bytes are `bs`, least significant first (R6). -/
def ofLE : List Byte → Nat
  | [] => 0
  | b :: bs => b.toNat + 256 * ofLE bs

/-- The number of set bits among the low `w` bits. -/
def popCount : Nat → Nat → Nat
  | 0, _ => 0
  | w + 1, x => b2n (x.testBit w) + popCount w x

/-- The lowest set bit of `x` below `n`, counting from `i`. -/
def firstBitFrom : Nat → Nat → Nat → Option Nat
  | 0, _, _ => none
  | n + 1, i, x => if x.testBit i then some i else firstBitFrom n (i + 1) x

/-- The list `[0, …, n - 1]`. -/
def upTo (n : Nat) : List Nat := List.range n

/-- Least multiple of `k` at or above `x` (`k` nonzero). -/
def ceilTo (x k : Nat) : Nat := (x + k - 1) / k * k

/-- Quotient rounded up. -/
def ceilDiv (x k : Nat) : Nat := (x + k - 1) / k

/-- A sparse table: what is not listed reads as a default given at each read. -/
abbrev Tab (α : Type) := List (Nat × α)

/-- The value a table lists first at a key, or the default. -/
def tabGet {α : Type} : Tab α → α → Nat → α
  | [], d, _ => d
  | (k, v) :: t, d, i => if k = i then v else tabGet t d i

/-- The table with a key's value replaced, in rising order of keys. -/
def tabSet {α : Type} : Tab α → Nat → α → Tab α
  | [], i, v => [(i, v)]
  | (k, w) :: t, i, v =>
    if k = i then (k, v) :: t
    else if i < k then (i, v) :: (k, w) :: t
    else (k, w) :: tabSet t i v

/-- Whether a table lists a key. -/
def tabHas {α : Type} (t : Tab α) (i : Nat) : Bool := t.any (fun c => c.1 == i)

/-- The table without a key. -/
def tabErase {α : Type} (t : Tab α) (i : Nat) : Tab α := t.filter (fun c => !(c.1 == i))

/-- A sorted set of numbers with `i` put in. -/
def setIns : List Nat → Nat → List Nat
  | [], i => [i]
  | k :: t, i => if k = i then k :: t else if i < k then i :: k :: t else k :: setIns t i

/-- A set of numbers with `i` taken out. -/
def setDel (l : List Nat) (i : Nat) : List Nat := l.filter (fun k => !(k == i))

/-- Fold a function over the numbers below `n`, rising. -/
def forUp {σ : Type} (n : Nat) (f : Nat → σ → σ) (s : σ) : σ :=
  (List.range n).foldl (fun a i => f i a) s

end Sys2Proof.Machine
end

