-- ==== Sys2Proof/Machine/Num.lean ====
section
/-!
DEFINITION. Number formats and the one conversion rule (spec/02_number_formats.md R41 to R68). An exact value is a
dyadic number with a sign, so every step before the final rounding is exact.
-/
namespace Sys2Proof.Machine

/-- An exact value: NaN, a signed infinity, or `(-1)^neg × m × 2^e` (`m = 0` is a signed zero, R45). -/
inductive Val where
  | nan
  | inf (neg : Bool)
  | fin (neg : Bool) (m : Nat) (e : Int)
  deriving DecidableEq, Repr

/-- Scalar types a value is decoded from or encoded to: the scalar formats of R41, and the MXINT8 element. -/
inductive Sty where
  | fp32 | fp16 | bf16 | e4m3 | e5m2 | e3m2 | e2m3 | e2m1 | mxi8 | int8 | int4 | int32 | acc35
  deriving DecidableEq, Repr

/-- The sixteen formats of R41. -/
inductive Fmt where
  | fp32 | fp16 | bf16 | e4m3 | e5m2 | e3m2 | e2m3 | e2m1 | mxfp8 | mxfp6 | mxfp4 | mxint8 | int8 | int4 | int32
  | acc35
  deriving DecidableEq, Repr

/-- R41: the format of a 4-bit format code. -/
def fmtOf (c : Nat) : Fmt :=
  match c % 16 with
  | 0 => .fp32 | 1 => .fp16 | 2 => .bf16 | 3 => .e4m3 | 4 => .e5m2 | 5 => .e3m2 | 6 => .e2m3 | 7 => .e2m1
  | 8 => .mxfp8 | 9 => .mxfp6 | 10 => .mxfp4 | 11 => .mxint8 | 12 => .int8 | 13 => .int4 | 14 => .int32
  | _ => .acc35

/-- R41: the code of a format. -/
def fmtCode : Fmt → Nat
  | .fp32 => 0 | .fp16 => 1 | .bf16 => 2 | .e4m3 => 3 | .e5m2 => 4 | .e3m2 => 5 | .e2m3 => 6 | .e2m1 => 7
  | .mxfp8 => 8 | .mxfp6 => 9 | .mxfp4 => 10 | .mxint8 => 11 | .int8 => 12 | .int4 => 13 | .int32 => 14
  | .acc35 => 15

/-- Whether a format is an MX format, stored as elements and E8M0 block scales. -/
def fmtMx : Fmt → Bool
  | .mxfp8 => true | .mxfp6 => true | .mxfp4 => true | .mxint8 => true | _ => false

/-- R42: the element type of a format under the ELEM field. -/
def fmtElem (f : Fmt) (elem : Bool) : Sty :=
  match f with
  | .fp32 => .fp32 | .fp16 => .fp16 | .bf16 => .bf16 | .e4m3 => .e4m3 | .e5m2 => .e5m2 | .e3m2 => .e3m2
  | .e2m3 => .e2m3 | .e2m1 => .e2m1 | .int8 => .int8 | .int4 => .int4 | .int32 => .int32 | .acc35 => .acc35
  | .mxfp8 => if elem then .e5m2 else .e4m3
  | .mxfp6 => if elem then .e3m2 else .e2m3
  | .mxfp4 => .e2m1
  | .mxint8 => .mxi8

/-- R42: ELEM is legal for the format (it must be 0 but for MXFP8 and MXFP6). -/
def elemOk (f : Fmt) (elem : Bool) : Bool :=
  match f with
  | .mxfp8 => true | .mxfp6 => true | _ => !elem

/-- R41: the storage width of one element in bits. -/
def styBits : Sty → Nat
  | .fp32 => 32 | .fp16 => 16 | .bf16 => 16 | .e4m3 => 8 | .e5m2 => 8 | .e3m2 => 6 | .e2m3 => 6 | .e2m1 => 4
  | .mxi8 => 8 | .int8 => 8 | .int4 => 4 | .int32 => 32 | .acc35 => 40

/-- Storage bits of one element of a format, its block scale apart. -/
def fmtBits (f : Fmt) : Nat := styBits (fmtElem f false)

/-- How a floating-point format spends its all-ones exponent (R43). -/
inductive Specials where
  | ieee | nanOnly | allFinite
  deriving DecidableEq, Repr

/-- The parameters of a floating-point format (R43): exponent bits, fraction bits, bias, special encodings. -/
structure Flt where
  eb : Nat
  mb : Nat
  bias : Nat
  sp : Specials
  deriving DecidableEq, Repr

/-- R43: the parameters of each floating-point type; none for the integer types. -/
def fltOf : Sty → Option Flt
  | .fp32 => some ⟨8, 23, 127, .ieee⟩
  | .fp16 => some ⟨5, 10, 15, .ieee⟩
  | .bf16 => some ⟨8, 7, 127, .ieee⟩
  | .e4m3 => some ⟨4, 3, 7, .nanOnly⟩
  | .e5m2 => some ⟨5, 2, 15, .ieee⟩
  | .e3m2 => some ⟨3, 2, 3, .allFinite⟩
  | .e2m3 => some ⟨2, 3, 1, .allFinite⟩
  | .e2m1 => some ⟨2, 1, 1, .allFinite⟩
  | .acc35 => some ⟨10, 24, 511, .ieee⟩
  | _ => none

/-- R46: the width of an integer type and the exponent of its unit (2⁻⁶ for MXINT8 elements). -/
def intOf : Sty → Nat × Int
  | .int8 => (8, 0) | .int4 => (4, 0) | .int32 => (32, 0) | .mxi8 => (8, -6) | _ => (32, 0)

/-- R43, R44: the value of an encoding in a floating-point format. -/
def decodeFlt (p : Flt) (x : Nat) : Val :=
  let s := x.testBit (p.eb + p.mb)
  let e := bits x (p.eb + p.mb - 1) p.mb
  let f := x % 2 ^ p.mb
  let top := 2 ^ p.eb - 1
  if e = top ∧ p.sp = .ieee then (if f = 0 then .inf s else .nan)
  else if e = top ∧ p.sp = .nanOnly ∧ f = 2 ^ p.mb - 1 then .nan
  else if e = 0 then .fin s f (1 - (p.bias : Int) - p.mb)
  else .fin s (2 ^ p.mb + f) ((e : Int) - p.bias - p.mb)

/-- The exact value of an integer times a power of two. -/
def ofIntExp (i : Int) (e : Int) : Val := .fin (decide (i < 0)) i.natAbs e

/-- Step 1 of the conversion rule: the exact value of a scalar encoding. A POISON container reads as NaN (R49). -/
def decodeS (t : Sty) (x : Nat) : Val :=
  match fltOf t with
  | some p => if t = .acc35 ∧ x.testBit 39 then .nan else decodeFlt p x
  | none => ofIntExp (sext (intOf t).1 x) (intOf t).2

/-- The rounding mode with its generator value: RND 0, or RND 1 with `u` (R54). -/
inductive Rnd where
  | rne
  | sr (u : Nat)
  deriving DecidableEq, Repr

/-- R54: `m × 2^e` rounded to a multiple of `2^q`, in units of `2^q`. -/
def roundAt (r : Rnd) (m : Nat) (e q : Int) : Nat :=
  if q ≤ e then m * 2 ^ (e - q).toNat
  else
    let sh := (q - e).toNat
    let lo := m / 2 ^ sh
    let rem := m % 2 ^ sh
    match r with
    | .rne => if 2 ^ sh < 2 * rem ∨ (2 * rem = 2 ^ sh ∧ lo % 2 = 1) then lo + 1 else lo
    | .sr u => if u < 2 ^ 32 * rem / 2 ^ sh then lo + 1 else lo

/-- The exponent of the leading bit of `m × 2^e` (`m` nonzero). -/
def leadExp (m : Nat) (e : Int) : Int := (m.log2 : Int) + e

/-- Whether `a × 2^i < b × 2^j`, exactly. -/
def dyLt (a : Nat) (i : Int) (b : Nat) (j : Int) : Bool :=
  if i ≤ j then decide (a < b * 2 ^ (j - i).toNat) else decide (a * 2 ^ (i - j).toNat < b)

/-- The spacing exponent of a floating-point format's continued grid at `m × 2^e` (R54). -/
def quantum (p : Flt) (m : Nat) (e : Int) : Int :=
  let emin : Int := 1 - (p.bias : Int) - p.mb
  if m = 0 then emin else max emin (leadExp m e - p.mb)

/-- The largest finite magnitude of a format, as significand and exponent (R43). -/
def fltMax (p : Flt) : Nat × Int :=
  match p.sp with
  | .ieee => (2 ^ (p.mb + 1) - 1, ((2 ^ p.eb - 2 : Nat) : Int) - p.bias - p.mb)
  | .nanOnly => (2 ^ (p.mb + 1) - 2, ((2 ^ p.eb - 1 : Nat) : Int) - p.bias - p.mb)
  | .allFinite => (2 ^ (p.mb + 1) - 1, ((2 ^ p.eb - 1 : Nat) : Int) - p.bias - p.mb)

/-- The exponent and fraction bits of a magnitude `k × 2^q` that lies on the format's grid. -/
def packMag (p : Flt) (k : Nat) (q : Int) : Nat :=
  let kq := if k = 2 ^ (p.mb + 1) then (2 ^ p.mb, q + 1) else (k, q)
  if kq.1 < 2 ^ p.mb then kq.1
  else (kq.2 + p.mb + p.bias).toNat * 2 ^ p.mb + (kq.1 - 2 ^ p.mb)

/-- An encoding with the two conversion events of R65. -/
structure Enc where
  bits : Nat
  ovf : Bool := false
  nanIn : Bool := false
  deriving DecidableEq, Repr

/-- R43: the canonical NaN, sign clear. -/
def nanBits (p : Flt) : Nat :=
  match p.sp with
  | .ieee => (2 ^ p.eb - 1) * 2 ^ p.mb + 2 ^ (p.mb - 1)
  | .nanOnly => 2 ^ (p.eb + p.mb) - 1
  | .allFinite => 0

/-- The encoding of a signed infinity in a format that has one. -/
def infBits (p : Flt) (s : Bool) : Nat := b2n s * 2 ^ (p.eb + p.mb) + (2 ^ p.eb - 1) * 2 ^ p.mb

/-- The encoding of the largest finite magnitude with a sign. -/
def maxBits (p : Flt) (s : Bool) : Nat :=
  b2n s * 2 ^ (p.eb + p.mb) + packMag p (fltMax p).1 (fltMax p).2

/-- R54, R55: a finite overflow or an infinity without an encoding, under NOV. -/
def fltOverflow (p : Flt) (s nov : Bool) : Enc :=
  if nov && p.sp == .ieee then ⟨infBits p s, true, false⟩
  else if nov && p.sp == .nanOnly then ⟨nanBits p, true, false⟩
  else ⟨maxBits p s, true, false⟩

/-- The conversion rule for a floating-point target (R54, R55). -/
def encodeFlt (p : Flt) (v : Val) (r : Rnd) (nov : Bool) : Enc :=
  match v with
  | .nan => if p.sp = .allFinite then ⟨0, false, true⟩ else ⟨nanBits p, false, false⟩
  | .inf s => if p.sp = .ieee then ⟨infBits p s, false, false⟩ else fltOverflow p s nov
  | .fin s m e =>
    let q := quantum p m e
    let k := roundAt r m e q
    if dyLt (fltMax p).1 (fltMax p).2 k q then fltOverflow p s nov
    else ⟨b2n s * 2 ^ (p.eb + p.mb) + packMag p k q, false, false⟩

/-- The conversion rule for an integer target: saturating whatever NOV holds (R46, R55, R56). MXINT8 elements
saturate symmetrically. -/
def encodeInt (t : Sty) (v : Val) (r : Rnd) : Enc :=
  let w := (intOf t).1
  let lim (s : Bool) : Nat := if s && t != .mxi8 then 2 ^ (w - 1) else 2 ^ (w - 1) - 1
  let put (s : Bool) (k : Nat) : Nat := toBits w (if s then -(k : Int) else k)
  match v with
  | .nan => ⟨0, false, true⟩
  | .inf s => ⟨put s (lim s), true, false⟩
  | .fin s m e =>
    let k := roundAt r m e (intOf t).2
    if lim s < k then ⟨put s (lim s), true, false⟩ else ⟨put s k, false, false⟩

/-- Step 2 of the conversion rule: a value encoded in a scalar target. -/
def encodeS (t : Sty) (v : Val) (r : Rnd) (nov : Bool) : Enc :=
  match fltOf t with
  | some p => encodeFlt p v r nov
  | none => encodeInt t v r

/-- R68: conversion between scalar types; equal types copy, with no event. -/
def convertS (src dst : Sty) (x : Nat) (r : Rnd) (nov : Bool) : Enc :=
  if src = dst then ⟨x, false, false⟩ else encodeS dst (decodeS src x) r nov

/-- A value times a power of two. -/
def Val.scale (v : Val) (k : Int) : Val :=
  match v with
  | .fin s m e => .fin s m (e + k)
  | v => v

/-- R53: an MX element under its block scale. -/
def decodeMx (t : Sty) (scale x : Nat) : Val :=
  if scale = 255 then .nan else (decodeS t x).scale ((scale : Int) - 127)

/-- Whether a value is NaN. -/
def Val.isNan : Val → Bool
  | .nan => true | _ => false

/-- Whether a value is infinite. -/
def Val.isInf : Val → Bool
  | .inf _ => true | _ => false

/-- Whether a value is a zero. -/
def Val.isZero : Val → Bool
  | .fin _ m _ => m == 0 | _ => false

/-- The sign bit of a value (clear for NaN). -/
def Val.neg? : Val → Bool
  | .nan => false | .inf s => s | .fin s _ _ => s

/-- The magnitude with the sign clear. -/
def Val.abs : Val → Val
  | .nan => .nan | .inf _ => .inf false | .fin _ m e => .fin false m e

/-- The value with its sign changed. -/
def Val.negate : Val → Val
  | .nan => .nan | .inf s => .inf (!s) | .fin s m e => .fin (!s) m e

/-- A finite value as an integer times `2^e`. -/
def signed (s : Bool) (m : Nat) : Int := if s then -(m : Int) else m

/-- Strict order of two values that are not NaN, the zeros equal. -/
def Val.lt : Val → Val → Bool
  | .nan, _ => false
  | _, .nan => false
  | .inf s, .inf t => s && !t
  | .inf s, .fin _ _ _ => s
  | .fin _ _ _, .inf t => !t
  | .fin s m e, .fin t n f =>
    let lo := min e f
    decide (signed s m * (2 ^ (e - lo).toNat : Nat) < signed t n * (2 ^ (f - lo).toNat : Nat))

/-- Whether two values, neither NaN, are equal as numbers. -/
def Val.numEq (a b : Val) : Bool := !a.isNan && !b.isNan && !a.lt b && !b.lt a

/-- The greater magnitude of two (NaN ignored by the callers). -/
def maxMag (a b : Val) : Val := if a.abs.lt b.abs then b.abs else a.abs

/-- An exact sum; a zero sum of opposite signs is positive, of like signs keeps the sign, and opposite infinities
give NaN. -/
def Val.add : Val → Val → Val
  | .nan, _ => .nan
  | _, .nan => .nan
  | .inf s, .inf t => if s = t then .inf s else .nan
  | .inf s, .fin _ _ _ => .inf s
  | .fin _ _ _, .inf t => .inf t
  | .fin s m e, .fin t n f =>
    let lo := min e f
    let i := signed s m * (2 ^ (e - lo).toNat : Nat) + signed t n * (2 ^ (f - lo).toNat : Nat)
    if i = 0 then .fin (s && t) 0 lo else .fin (decide (i < 0)) i.natAbs lo

/-- An exact product; zero times infinity is NaN. -/
def Val.mul : Val → Val → Val
  | .nan, _ => .nan
  | _, .nan => .nan
  | .inf s, .inf t => .inf (s != t)
  | .inf s, .fin t m _ => if m = 0 then .nan else .inf (s != t)
  | .fin s m _, .inf t => if m = 0 then .nan else .inf (s != t)
  | .fin s m e, .fin t n f => .fin (s != t) (m * n) (e + f)

/-- Round to nearest even in a scalar type; a finite overflow gives infinity (ordinary IEEE arithmetic). -/
def rneTo (t : Sty) (v : Val) : Nat := (encodeS t v .rne true).bits

/-- emax of an MX element type (R59 step 3). -/
def mxEmax : Sty → Int
  | .e4m3 => 8 | .e5m2 => 15 | .e3m2 => 4 | .e2m3 => 2 | .e2m1 => 2 | _ => 0

/-- The largest finite value of an MX element type. -/
def mxElemMax (t : Sty) (s : Bool) : Val :=
  match fltOf t with
  | some p => .fin s (fltMax p).1 (fltMax p).2
  | none => .fin s 127 (-6)

/-- An encoded MX block: scale byte, element codes and the block's events (R60). -/
structure MxBlock where
  scale : Nat
  elems : List Nat
  ovf : Bool
  nanIn : Bool
  deriving DecidableEq, Repr

/-- The largest magnitude of a list of values. -/
def maxMags (vs : List Val) : Val := vs.foldl maxMag (.fin false 0 0)

/-- R59: the block exponent X for a largest magnitude. -/
def mxExp (t : Sty) : Val → Int
  | .fin _ m e => if m = 0 then -127 else max (-127) (min 127 (leadExp m e - mxEmax t))
  | _ => -127

/-- R59, R60: one MX block encoded from its source values and roundings. -/
def encodeMx (t : Sty) (vs : List (Val × Rnd)) (nov : Bool) : MxBlock :=
  let dead (o n : Bool) : MxBlock := ⟨255, vs.map (fun _ => 0), o, n⟩
  if vs.any (fun v => v.1.isNan) then dead false true
  else if nov && vs.any (fun v => v.1.isInf) then dead true false
  else
    let hadInf := vs.any (fun v => v.1.isInf)
    let fin (v : Val) : Val := match v with
      | .inf s => (mxElemMax t s).scale 127
      | v => v
    let ws := vs.map (fun v => (fin v.1, v.2))
    let x := mxExp t (maxMags (ws.map Prod.fst))
    let es := ws.map (fun v => encodeS t (v.1.scale (-x)) v.2 false)
    ⟨(x + 127).toNat, es.map Enc.bits, hadInf || (x == 127 && es.any Enc.ovf), false⟩

/-- Rotate a 32-bit word left. -/
def rotl32 (x : W32) (k : Nat) : W32 := (x <<< k) ||| (x >>> (32 - k))

/-- One round of the quag generator (R62) on words a, b, c, d. -/
def quagRound (site : Nat) (i : Nat) (w : W32 × W32 × W32 × W32) : W32 × W32 × W32 × W32 :=
  match w with
  | (a, b, c, d) =>
    let a := a + b
    let d := rotl32 (d ^^^ a) 16
    let c := c + d
    let b := rotl32 (b ^^^ c) 12
    let a := a + b
    let d := rotl32 (d ^^^ a) 8
    let c := c + d
    let b := rotl32 (b ^^^ c) 7
    let k := (BitVec.ofNat 32 (0x9E3779B9 * (i + 1))) ^^^ (BitVec.ofNat 32 (site * 0x01010101))
    (b, c, d, a ^^^ k)

/-- R62: the stochastic-rounding generator. -/
def quag (seed tid idx site : Nat) : Nat :=
  let w := forUp 10 (quagRound site)
    (BitVec.ofNat 32 seed, BitVec.ofNat 32 (seed >>> 32), BitVec.ofNat 32 idx,
      (BitVec.ofNat 32 tid <<< 12) ||| BitVec.ofNat 32 (idx >>> 32))
  (w.1 + w.2.2.1).toNat

/-- The rounding of one element under RND and the generator inputs (R57, R64). -/
def rndOf (rnd : Bool) (seed tid idx site : Nat) : Rnd :=
  if rnd then .sr (quag seed tid idx site) else .rne

/-- R50: element `i` of a packed array of `w`-bit elements held as one little-endian number. -/
def elemAt (w x i : Nat) : Nat := bits x (w * i + w - 1) (w * i)

/-- R50: a list of `w`-bit elements packed into one little-endian number. -/
def packElems (w : Nat) : List Nat → Nat
  | [] => 0
  | e :: es => e % 2 ^ w + 2 ^ w * packElems w es

/-- R50: the stored bytes of a row of `n` elements of a type: 4-bit rows padded to an even count, 6-bit rows to a
multiple of four. -/
def rowBytes (t : Sty) (n : Nat) : Nat :=
  match styBits t with
  | 4 => (n + 1) / 2
  | 6 => (n + 3) / 4 * 3
  | w => n * w / 8

/-- R66: the operand class of a format: 0 wide float, 1 narrow float, 2 MX float, 3 MX integer, 4 integer. -/
def operandClass : Fmt → Option Nat
  | .fp32 => some 0 | .bf16 => some 0 | .fp16 => some 0
  | .e4m3 => some 1 | .e5m2 => some 1 | .e3m2 => some 1 | .e2m3 => some 1 | .e2m1 => some 1
  | .mxfp8 => some 2 | .mxfp6 => some 2 | .mxfp4 => some 2
  | .mxint8 => some 3
  | .int8 => some 4 | .int4 => some 4
  | .int32 => none | .acc35 => none

/-- R66: four times the MAC rate of a format, in MACs per cell per clock (0: no MXA operand). -/
def macRate4 : Fmt → Nat
  | .fp32 => 1 | .bf16 => 4 | .fp16 => 4
  | .e4m3 => 8 | .e5m2 => 8 | .e3m2 => 8 | .e2m3 => 8 | .e2m1 => 16
  | .mxfp8 => 8 | .mxfp6 => 8 | .mxfp4 => 16 | .mxint8 => 8 | .int8 => 8 | .int4 => 16
  | .int32 => 0 | .acc35 => 0

/-- R66: the pair rate times four, none where the pair is not one class. -/
def pairRate4 (a b : Fmt) : Option Nat :=
  match operandClass a, operandClass b with
  | some i, some j => if i = j then some (min (macRate4 a) (macRate4 b)) else none
  | _, _ => none

/-- POISON of a container. -/
def poisonBit : Nat := 2 ^ 39
/-- The ACC35 canonical NaN with POISON set. -/
def poisonNan : Nat := 2 ^ 39 + 0x3FF800000

end Sys2Proof.Machine
end

