-- ==== Sys2Proof/Machine/StCore.lean ====
section
/-!
DEFINITION. The state of one core: matrix array, Peat store, lagg queue, vector engine, Heron engines, RAS
(spec/03_matrix_array.md, 04_vector_engine.md, 05_core_memory_gather.md, 15_bringup_reset_yield.md).
-/
namespace Sys2Proof.Machine

/-- Counters of one register page, by register offset; 64 bits wide, wrapping. An unlisted counter is 0. -/
abbrev Ctrs := Tab W64

/-- A command: its queue and its record number counted from the queue's enable. -/
structure CmdRef where
  q : Nat
  n : Nat
  deriving DecidableEq, Repr

/-- R83: the states of an accumulator bank. -/
inductive BankSt where
  | free | opened | draining
  deriving DecidableEq, Repr

/-- An accumulator bank (R69, R76, R84): state, class, owning queue and 128 × 128 elements, row-major. An element is
a 40-bit container (R47): ACC35 with POISON, or the 32-bit integer of R75 in its low half with POISON. An element
beyond the list is +0. -/
structure Bank where
  st : BankSt := .free
  int : Bool := false
  owner : Nat := 0
  tile : List W40 := []
  deriving DecidableEq, Repr

/-- R104, R105: the states of a Peat entry. -/
inductive PeatSt where
  | empty | held | tied | lost
  deriving DecidableEq, Repr

/-- One Peat entry: state, owner, tie tag, remaining-use count and tile. -/
structure Peat where
  st : PeatSt := .empty
  owner : Nat := 0
  tag : Nat := 0
  count : Nat := 0
  tile : List W40 := []
  deriving DecidableEq, Repr

/-- One lagg slot (R95, R141, R143): element codes row-major with 128 (MX: padded N) elements per row, the scale
bytes of an MX format four per row, and which codes lie in a poisoned 64-bit word. -/
structure LaggSlot where
  taken : Bool := false
  ready : Bool := false
  seq : W32 := 0
  m : Nat := 0
  n : Nat := 0
  fmt : Nat := 0
  elem : Bool := false
  queue : Nat := 0
  codes : List W40 := []
  scales : List Byte := []
  pois : List Bool := []
  spois : List Bool := []
  deriving DecidableEq, Repr

/-- A tile operation that has issued and not completed (R80), with what its completion reports (R237) and, on a
transpose port, its walk over the hold sides (R98 to R103): the port (0 none, 1 TRANS_A, 2 TRANS_B), K, the group size and
length, the side of its first K-block, and whether that loaded before clock 0. -/
structure TileOp where
  ref : CmdRef
  bank : Nat
  g : Nat
  waited : Nat
  ovf : Nat
  poison : Bool
  port : Nat := 0
  k : Nat := 0
  gsize : Nat := 1
  gclk : Nat := 1
  first : Nat := 0
  fill : Bool := false
  deriving DecidableEq, Repr

/-- A drain at the head of the MXA stream that has begun to close and waits for its lagg slot or its scale
(R95, R272); `since` is the tick number at its dispatch. -/
structure DrainWait where
  ref : CmdRef
  since : Nat
  deriving DecidableEq, Repr

/-- A scaling drain between its two passes (R271): its values after stage 3, its largest finite magnitude and its amax
as FP32, which elements overflowed in pass 1, what its pass 1 reports, and whether the hub has answered. -/
structure ScalingDrain where
  ref : CmdRef
  vals : List W40
  t : Val
  amax : W32
  overs : List Bool := []
  cold : Bool
  wispSel : Bool
  poison : Bool
  answered : Bool := false
  deriving DecidableEq, Repr

/-- A selected Wisp tile whose error is being computed (R277, R279). -/
structure WispTask where
  tid : Nat
  row0 : Nat
  col0 : Nat
  part : Nat
  rs : List W16
  qs : List Val
  deriving DecidableEq, Repr

/-- The matrix array of a core with everything in its stream. `side0` and `side1` are the two sides of the hold registers,
cell (i, j) at 128 i + j, `port` the port of the last operation that was not zero-size, `lastSide` the side of the last
K-block (R98, R103). `scaleCache` holds the SCALE_EXP values read, the latest first, by partition × 65,536 + entry
(R266). -/
structure Mxa where
  bankA : Bank := {}
  bankB : Bank := {}
  side0 : List W16 := []
  side1 : List W16 := []
  lastSide : Nat := 1
  port : Nat := 0
  waiting : List CmdRef := []
  issued : List TileOp := []
  drainWait : Option DrainWait := none
  scaling : Option ScalingDrain := none
  lastQ : Nat := 63
  lagg : Tab LaggSlot := []
  laggHead : Nat := 0
  laggNext : Nat := 0
  laggSeq : W32 := 0
  peat : Tab Peat := []
  coldBuf : List W16 := []
  offer : W32 := 0
  wisp : Option WispTask := none
  scaleCache : List (Nat × Int) := []
  deriving DecidableEq, Repr

/-- R146: the states of the vector engine. -/
inductive VeSt where
  | idle | running | waitLagg | stopped
  deriving DecidableEq, Repr

/-- The vector engine (R114 to R116, R146). An unlisted V or S register is zero and an unlisted mask register all
ones, as at the start of a program (R115); `pois` holds once the program has consumed poison (R184, R236). -/
structure Ve where
  v : Tab (BitVec 8192) := []
  mask : Tab (BitVec 256) := []
  s : Tab W64 := []
  vl : Nat := 256
  stat : BitVec 5 := 0
  pois : Bool := false
  pc : BitVec 23 := 0
  st : VeSt := .idle
  queue : Nat := 0
  cmd : Option CmdRef := none
  slotTaken : Bool := false
  ovf : Nat := 0
  nanIn : Nat := 0
  issued : Nat := 0
  last : BitVec 5 := 0
  waiting : List CmdRef := []
  lastQ : Nat := 63
  deriving DecidableEq, Repr

/-- A Heron request by its core, engine and number. -/
structure ReqId where
  p : Nat
  eng : Nat
  id : Nat
  deriving DecidableEq, Repr

/-- One piece of a Heron request, inside one line: far-side address, core-store offset and length in bytes; `wait` holds
while a message or a prefetch in flight is to bring or acknowledge it. -/
structure HSeg where
  far : Nat
  near : Nat
  len : Nat
  wait : Bool
  deriving DecidableEq, Repr

/-- An outstanding demand request (R162, R163): its first far-side byte (physical, or at the target `dev`), its length,
the stream-order number of its first run or element, and the pieces that have not been delivered or acknowledged. -/
structure HReq where
  id : Nat
  wr : Bool
  dev : Option Nat
  far : Nat
  total : Nat
  num : Nat
  segs : List HSeg
  deriving DecidableEq, Repr

/-- A place in a command's stream: segment (ragged), run or element, bytes of it that are behind, and its stream-order
number (R158 to R160, R165). -/
structure HCur where
  seg : Nat := 0
  pos : Nat := 0
  ofs : Nat := 0
  num : Nat := 0
  deriving DecidableEq, Repr

/-- The command running on a Heron engine (R155, R165, R167): the places of its demand and prefetch streams, its
outstanding demand requests, and what its completion reports; `ahead` lists the lines that its prefetch stream has passed
with the place of their last byte (R169), `guestErr` and `discard` hold once it has logged such an access. -/
structure HRun where
  ref : CmdRef
  cur : HCur := {}
  allIssued : Bool := false
  fault : Option (Nat × Nat) := none
  out : List HReq := []
  pfCur : HCur := {}
  pfEnd : Bool := false
  ahead : List (Nat × Nat × Nat) := []
  bytes : Nat := 0
  reqs : Nat := 0
  poison : Bool := false
  poisLines : Nat := 0
  segDropped : Nat := 0
  pfGen : Nat := 0
  pfDone : Nat := 0
  pfDropped : Nat := 0
  pfPresent : Nat := 0
  guestErr : Bool := false
  discard : Bool := false
  deriving DecidableEq, Repr

/-- One Heron engine: its stream, its running command, the DVA of the walk it waits for, and its STATE (R185). -/
structure HEng where
  waiting : List CmdRef := []
  run : Option HRun := none
  st : Nat := 0
  queue : Nat := 0
  walk : Option Nat := none
  lastQ : Nat := 63
  nextId : Nat := 0
  deriving DecidableEq, Repr

/-- A leaf held in a TLB (R154, R546). -/
structure Leaf where
  ctx : Nat
  va : Nat
  size : Nat
  pa : Nat
  r : Bool
  w : Bool
  deriving DecidableEq, Repr

/-- A line in the staging buffer (R168): its address, whether a demand has used it, and the queue that prefetched
it. -/
structure StageLine where
  addr : Nat
  used : Bool
  queue : Nat
  deriving DecidableEq, Repr

/-- A prefetched line in flight (R169, R172): its address, the engine and request that hold a slot for it, its command,
whether it comes from another die, the demand requests that have merged with it, and the PREFETCH commands that named the
line while it was in flight. -/
structure PfLine where
  addr : Nat
  eng : Nat
  req : Nat
  ref : CmdRef
  remote : Bool
  waiters : List ReqId := []
  watch : List CmdRef := []
  deriving DecidableEq, Repr

/-- The memory side of a core: both Heron engines, TLB, staging buffer, prefetches in flight. -/
structure Heron where
  h0 : HEng := {}
  h1 : HEng := {}
  tlb : List Leaf := []
  stage : List StageLine := []
  flight : List PfLine := []
  deriving DecidableEq, Repr

/-- What CORE.RAS_STAT and fencing need (R475, R482, R489). `parity` lists the uptimes in ns of the recorded PARITY
halts inside the 24 h window, `uncorr` the uptime and the word of each uncorrectable error found; the `inj` fields are errors injected and not yet met (R525). -/
structure Ras where
  fenceCause : Nat := 0
  resets : Nat := 0
  lastParityTick : W32 := 0
  parity : List Nat := []
  uncorr : List (Nat × Nat) := []
  inReset : Bool := false
  injCs : Bool := false
  injDrain : Bool := false
  injVe : Bool := false
  injMxa : Bool := false
  deriving DecidableEq, Repr

/-- One core. -/
structure Core where
  mxa : Mxa := {}
  ve : Ve := {}
  heron : Heron := {}
  ras : Ras := {}
  ctr : Ctrs := []
  deriving DecidableEq, Repr

end Sys2Proof.Machine
end

