-- ==== Sys2Proof/Machine/StHub.lean ====
section
/-!
DEFINITION. The state of queues, fences, scale tables, translation, the host interface, register page headers and the
event log (spec/06_command_model.md, 08_training_numerics.md, 16_bittern_management.md, 17_host_registers.md).
-/
namespace Sys2Proof.Machine

/-- R188: the states of a queue. -/
inductive QueueSt where
  | disabled | running | stopped
  deriving DecidableEq, Repr

/-- Where a fetched record stands: fetched, dispatched to its stream (waiting), started, or completed with a
status. -/
inductive RecSt where
  | fetched | waiting | started
  | done (status : Nat)
  deriving DecidableEq, Repr

/-- A fetched command record (R227): its number since the enable, its 512 bits, where it stands, and
the tick number at its dispatch (`at_`). -/
structure Rec where
  n : Nat
  word : BitVec 512
  st : RecSt
  at_ : Nat := 0
  deriving DecidableEq, Repr

/-- A running frame (R192, R194): first record, length, start tick, closing tick, whether its hold point (closing
tick for an ungrouped queue) has passed with it unfinished, the closing tick for which that was raised, and whether its
closing tick has passed. -/
structure Frame where
  first : Nat
  len : Nat
  startTick : Nat
  closing : Nat
  late : Bool := false
  held : Nat := 0
  closed : Bool := false
  deriving DecidableEq, Repr

/-- One command queue (R187, R527 to R534): its property registers, state, counts since enable, fetched records and
running frame. `next` is the number of the first record after the last FRAME_LAST record of a started frame, `gcount`
the group tick count (R204). -/
structure Queue where
  ctrl : W64 := 0
  ring : W64 := 0
  cring : W64 := 0
  origin : W64 := 0
  irq : W64 := 0
  st : QueueSt := .disabled
  draining : Bool := false
  stopCode : Nat := 0
  epoch : Nat := 0
  collSeq : Nat := 0
  fetched : Nat := 0
  completed : Nat := 0
  sqTail : W32 := 0
  cqHead : W32 := 0
  recs : List Rec := []
  next : Nat := 0
  frame : Option Frame := none
  gcount : Nat := 0
  ctr : Ctrs := []
  deriving DecidableEq, Repr

/-- One fence counter (R216, R539). -/
structure Fence where
  val : BitVec 38 := 0
  owner : Nat := 0
  remote : Bool := false
  deriving DecidableEq, Repr

/-- One scale-table entry (R264, R265) in its cleared state by default. FP32 values are held as their encodings. `late`
holds, from the start of a commit on, what drains have recorded since (R270): amax and overflows. -/
structure Entry where
  hist : Tab W32 := []
  pend : W32 := 0
  stepOvf : Nat := 0
  ovfCnt : Nat := 0
  commits : W32 := 0
  exp : Int := 0
  coldScaled : Bool := false
  force : Bool := false
  scaleSet : Bool := false
  scaling : Bool := false
  srcA : Nat := 0xFFFF
  srcB : Nat := 0xFFFF
  count : Nat := 0
  head : Nat := 0
  kind : Nat := 0
  coldMargin : Nat := 3
  backoffs : Nat := 0
  infSteps : Nat := 0
  originRow : Nat := 0
  originCol : Nat := 0
  wispExc : Nat := 0
  wispStep : W32 := 0
  late : Option (W32 × Nat) := none
  deriving DecidableEq, Repr

/-- The scale tables (key: partition × 65,536 + entry) and the NUMX page (R262, R280, R281); `dirty` lists the entries that
the hub's cache has not written back since they changed (R262). -/
structure Numx where
  tab : Tab Entry := []
  dirty : List Nat := []
  base : Tab W64 := []
  wisp : Tab W64 := []
  ctr : Ctrs := []
  deriving DecidableEq, Repr

/-- One translation context (R545, R546): ROOT, the range of a pending invalidation, completed invalidations and
counters; `walks` lists the engines, as 2 p + e, whose walks started before the pending invalidation. -/
structure Xlat where
  root : W64 := 0
  inv : Option W64 := none
  done : W32 := 0
  walks : List Nat := []
  ctr : Ctrs := []
  deriving DecidableEq, Repr

/-- One MSI-X table entry with its pending bit (R517, R547). -/
structure Msix where
  addr : W64 := 0
  data : W32 := 0
  masked : Bool := true
  pending : Bool := false
  deriving DecidableEq, Repr

/-- The host interface (R517 to R519, R536 to R541, R549). MSI-X entries are keyed by function × 128 + vector; `partPend`
and `fencePend` hold writes of PART_MAP and FENCE_MAP until the next tick, `flrs` the functions under reset. -/
structure HostIf where
  irqStat : BitVec 8 := 0
  irqMask : BitVec 8 := 0
  bar4Base : W64 := 0
  bar4Log : Nat := 36
  vfCtx : W64 := 0
  vfEnable : Bool := false
  numVfs : Nat := 0
  linkUp : Bool := false
  perst : Bool := false
  refclkA : Bool := true
  msix : Tab Msix := []
  partPend : Tab W64 := []
  fencePend : Tab W64 := []
  flrs : List Nat := []
  ctr : Ctrs := []
  deriving DecidableEq, Repr

/-- The header registers of one page that hold state (R525); `ofs` is ERR_OFS, `upper` the half latched by R8. -/
structure Page where
  err : BitVec 5 := 0
  ofs : Nat := 0
  mask : BitVec 5 := 0
  evt : W64 := 0
  deriving DecidableEq, Repr

/-- What submits an event-log entry (R498, R499). -/
structure LogIn where
  code : Nat
  inst : Nat := 0
  src : Nat := 0
  sev : Nat := 0
  ctrl : Bool := false
  args : List Nat := []
  deriving DecidableEq, Repr

/-- An event-log entry as the log engine stores it (R498). -/
structure LogEntry where
  ev : LogIn
  seq : Nat
  auth : Nat
  tick : Nat
  uptime : Nat
  deriving DecidableEq, Repr

/-- One CODE and INSTANCE in its 1 s suppression window (R500): arrivals entered or counted. -/
structure LogWin where
  code : Nat
  inst : Nat
  start : Nat
  count : Nat
  deriving DecidableEq, Repr

/-- The log engine (R497, R500, R516): the ring newest first, the newest SEQ, LOG.SEL, the persistence queue oldest
first, the flash records newest first with their BOOTS, the suppression windows, PERSIST_LOST. -/
structure Log where
  ring : List LogEntry := []
  seq : Nat := 0
  sel : W64 := 0
  persist : List LogEntry := []
  flash : List (LogEntry × Nat) := []
  wins : List LogWin := []
  lost : W64 := 0
  deriving DecidableEq, Repr

end Sys2Proof.Machine
end

