-- ==== Sys2Proof/Machine/StFab.lean ====
section
/-!
DEFINITION. The state of the Causeway ports and switch (spec/12_causeway_fabric.md), of the collective engine
(spec/13_collectives_sharding.md) and of the update unit (spec/10_sign_update.md).
-/
namespace Sys2Proof.Machine

/-- R361: the states of a port. -/
inductive PortSt where
  | disabled | training | up | down
  deriving DecidableEq, Repr

/-- A sequenced flit that is not yet acknowledged (R367): a B flit of a packet or a control message. -/
inductive SeqFlit where
  | b (p : Packet) (idx : Nat) (floor : Bool)
  | ctl (m : CtlMsg)
  deriving DecidableEq, Repr

/-- What the trailer of a flit that leaves a port says (R365): SEQ, ACK_SEQ, NAK, FTYPE, and of a B flit VC, FLOOR, HEAD
and TAIL. -/
structure Trail where
  seq : Nat
  ack : Nat
  nak : Bool
  ftype : Nat
  vc : Nat := 0
  floor : Bool := false
  head : Bool := false
  tail : Bool := false
  deriving DecidableEq, Repr

/-- An S flit in transit (R378): the ports that have not sent their copy, and those of them on which a primary window has
closed without it or a tick has ended (R379). -/
structure Transit where
  flit : SFlit
  inPort : Nat
  outs : List Nat
  late : List Nat := []
  deriving DecidableEq, Repr

/-- One Causeway port (R361 to R395). `txSeq` is the SEQ of the next sequenced flit, `rxSeq` the last one received in
order, `replay` the unacknowledged flits oldest first, `cq` the control messages and `bq` the packets queued for the
port, these with the flits already sent of each; `opened` the schedule
entries whose windows have opened in this tick; `usable` holds from the first tick after the port comes Up, and
`firstWin` until its first complete window after coming Up has closed. `part` counts by VC the flits received of packets
that have not arrived whole, `replays` the replays in a row of one flit (R364); `laser` tells whether the port's feed is
enabled (R358). -/
structure Port where
  st : PortSt := .disabled
  cause : Nat := 0
  nbrDev : Nat := 0
  nbrPort : Nat := 0
  lengthM : Nat := 0
  marginal : Bool := false
  marginLogged : Bool := false
  commit : Bool := false
  en : Bool := true
  retrain : Bool := true
  firstWin : Bool := false
  floor : Tab Nat := []
  shared : Nat := 0
  txSeq : Nat := 0
  rxSeq : Nat := 4095
  discarding : Bool := false
  nak : Bool := false
  part : Tab Nat := []
  replays : Nat := 0
  laser : Bool := false
  replay : List SeqFlit := []
  cq : List CtlMsg := []
  bq : List (Packet × Nat) := []
  transit : List Transit := []
  shadow : Tab W64 := []
  table : Tab W64 := []
  opened : List Nat := []
  usable : Bool := false
  ctr : Ctrs := []
  deriving DecidableEq, Repr

/-- A group slot (R374): SLOT and FWD registers, ORIGIN and COUNT. -/
structure FSlot where
  slot : W64 := 0
  fwd : W64 := 0
  origin : W64 := 0
  count : Nat := 0
  deriving DecidableEq, Repr

/-- What an outstanding fabric request belongs to (R385). -/
inductive ReqFor where
  | heron (p eng id : Nat)
  | fence (c : CmdRef)
  deriving DecidableEq, Repr

/-- An outstanding fabric request: its TID, destination device and owner; `wr` for a write. -/
structure FabReq where
  tid : Nat
  dev : Nat
  wr : Bool
  owner : ReqFor
  deriving DecidableEq, Repr

/-- The Causeway switch: FAB, FGRP, RTL, RTG and CWIN pages, group-slot writes that wait for a tick, outstanding
requests, and by port the flits in its B-class receive pool of 2,400 (R371). Port pages are keyed by port. -/
structure Fab where
  cfg : W64 := 0xC40040641
  ports : Tab Port := []
  slots : Tab FSlot := []
  slotPend : Tab W64 := []
  rtl : Tab W64 := []
  rtg : Tab W64 := []
  cwin : Tab W64 := []
  reqs : List FabReq := []
  tid : Nat := 0
  pools : Tab Nat := []
  ctr : Ctrs := []
  deriving DecidableEq, Repr

/-- A contribution to send (R409): destination member, phase, VERSION of its lead chunk, its bytes as far as they may be
sent (R425) with their poison, its length, flits sent, the flits that were ready when a primary window closed or a tick ended
(R379), whether its ACK has arrived, and whether a REISSUE waits for a write phase to end (R420, R421). -/
structure SendC where
  dst : Nat
  phase2 : Bool := false
  version : Nat := 0
  data : List (Byte × Bool)
  total : Nat
  sent : Nat := 0
  late : Nat := 0
  acked : Bool := false
  reissue : Bool := false
  deriving DecidableEq, Repr

/-- A contribution to receive (R414, R415, R421): source member, phase, its length, kept flits by FIDX as bytes and poison
map, version mismatches met, whether it waits for a new lead flit after one, and whether it is over (acknowledged). -/
structure RecvC where
  src : Nat
  phase2 : Bool := false
  total : Nat
  flits : Tab (List Byte × Nat) := []
  misses : Nat := 0
  waitLead : Bool := false
  done : Bool := false
  deriving DecidableEq, Repr

/-- A collective in flight at this member (R399 to R426): its command, partition, identity and member table, the share
of each member (R401, R402), for ALL_TO_ALL the count received from each, this member's part as read at the start, DST,
the excluded elements of its share (R303), whether it has yet to read its shard (R420), its contributions, blocks of a ring
that are complete, the phase and result share of an ALL_REDUCE, whether its results are written, and what its completion
reports. -/
structure Coll where
  ref : CmdRef
  part : Nat
  group : Nat
  seq : Nat
  epoch : Nat
  op : Nat
  sched : Nat
  self : Nat
  devs : List Nat
  shares : List Nat
  recvN : List Nat := []
  own : List (Byte × Bool) := []
  dst : Nat := 0
  dstLen : Nat := 0
  excl : Nat × Nat := (0, 0)
  unread : Bool := false
  sends : List SendC := []
  recvs : List RecvC := []
  ring : Nat := 0
  phase : Nat := 1
  result : List (Byte × Bool) := []
  fin : Bool := false
  missed : Bool := false
  reissued : Bool := false
  holdBase : Nat := 0
  ovf : Nat := 0
  nanIn : Nat := 0
  poison : Bool := false
  elems : Nat := 0
  deriving DecidableEq, Repr

/-- A run of 4,096 elements in the hand-off buffer (R309, R423): its tags, the record number of its reduce-scatter, its
index, its bytes with their poison. -/
structure HandRun where
  q : Nat
  n : Nat
  seq : Nat
  epoch : Nat
  idx : Nat
  data : List (Byte × Bool)
  deriving DecidableEq, Repr

/-- The collective engine (R396 to R428): member-table registers by offset, writes that wait for a tick, MCRC and
VALID of each slot, the members read from each table, collectives in flight in start order, kept flits of collectives
not yet started, the next SSEQ of each group, the queue that was served last (R191), counters. -/
structure Ce where
  reg : Tab W64 := []
  pend : Tab W64 := []
  mcrc : Tab W32 := []
  valid : List Nat := []
  members : Tab (List Nat) := []
  colls : List Coll := []
  early : List SFlit := []
  sseq : Tab Nat := []
  lastQ : Nat := 63
  ctr : Ctrs := []
  deriving DecidableEq, Repr

/-- A shard header (R290). -/
structure Shard where
  version : W32 := 0
  epochTag : Nat := 0
  tensor : Nat := 0
  base : Nat := 0
  exclFirst : Nat := 0
  exclCount : Nat := 0
  hits : W64 := 0
  deriving DecidableEq, Repr

/-- An armed update (R308): its command, its header as read at arming, the record number of its paired
reduce-scatter, and the physical address of each 4 KiB block of its arrays as translated at arming. -/
structure UpdRun where
  ref : CmdRef
  hdr : Shard
  rs : Option Nat := none
  map : Tab Nat := []
  deriving DecidableEq, Repr

/-- The update unit (R308 to R315): the armed update, the hand-off buffer, the fields of UPD.STAT. -/
structure Upd where
  run : Option UpdRun := none
  hand : List HandRun := []
  queue : Nat := 0
  epoch : Nat := 0
  rule : Nat := 0
  lastQ : Nat := 63
  ctr : Ctrs := []
  deriving DecidableEq, Repr

end Sys2Proof.Machine
end

