-- ==== Sys2Proof/Machine/StLink.lean ====
section
/-!
DEFINITION. The state of the hub crossbar, the die-to-die links, the guest sites and the messages in flight between
dies (spec/11_hub_die_links.md).
-/
namespace Sys2Proof.Machine

/-- One UCIe module (R323 to R333, R353, R354): its state as LINK.MOD_STATE codes it, the MARGINAL mark and whether it
has been logged since power-on, and its link-layer state: SEQ of the next data flit, last SEQ received in order,
whether the receiver discards, whether NAK is set in the next outgoing flit, unacknowledged flits; `base` is CRC_ERR at
the start of the monitor's window. -/
structure Module where
  st : Nat := 0
  marginal : Bool := false
  logged : Bool := false
  txSeq : Nat := 0
  rxSeq : Nat := 1023
  discarding : Bool := false
  nak : Bool := false
  unacked : Nat := 0
  base : Nat := 0
  ctr : Ctrs := []
  deriving DecidableEq, Repr

/-- A die-to-die link, L0 to L3, G0, G1 (R353): modules by number, the steering table fixed at the last training as
module numbers (R327), THRESH, version, STEPPING code of the far die. -/
structure Link where
  mods : Tab Module := []
  steering : List Nat := []
  thresh : Nat := 1000
  version : Nat := 0
  stepping : Nat := 0
  deriving DecidableEq, Repr

/-- A guest site (R336 to R344): GUEST.CTRL, the fields of GUEST.STAT, the identity block, XLATE_FAULT, the last
samples of its rail in 0.1 W newest first, samples in a row above 1.1 and 1.5 times the budget, whether ADMIT has
been sent, whether its removal has begun, and its rail's limit in watts. -/
structure Guest where
  ctrl : W64 := 0
  st : Nat := 0
  reason : Nat := 0
  rate : Nat := 0
  ident : List Byte := []
  faults : W64 := 0
  samples : List Nat := []
  excess : Nat := 0
  high : Nat := 0
  admitting : Bool := false
  removing : Bool := false
  railW : Nat := 0
  deriving DecidableEq, Repr

/-- The crossbar (R321, R322): XBAR_CFG in force, writes that wait for a tick, granted bytes by register offset. -/
structure Xbar where
  cfg : Tab W64 := []
  pend : Tab W64 := []
  bytes : Ctrs := []
  deriving DecidableEq, Repr

/-- A directory or memory message in flight between dies (R347): type, line, the die whose remote cache it concerns,
FLAG, whether an RD goes to K or an INV to K, the demand request it serves (none for a prefetch), and the bytes it
carries: those of a WR from offset `ofs` of the line, those of an RSP whole, with a poison bit per 8 bytes of the line. -/
structure DieMsg where
  mtype : Nat
  line : Nat
  die : Nat
  flag : Bool := false
  toK : Bool := false
  req : Option ReqId := none
  ofs : Nat := 0
  data : List Byte := []
  bad : List Bool := []
  deriving DecidableEq, Repr

/-- A write at its home whose line's copies are being invalidated (R349). -/
structure HomeWr where
  req : Option ReqId
  line : Nat
  deriving DecidableEq, Repr

end Sys2Proof.Machine
end

