-- ==== Sys2Proof/Machine/StMgmt.lean ====
section
/-!
DEFINITION. The state of the Bittern management subsystem (spec/16_bittern_management.md,
spec/18_electrical_package.md).
-/
namespace Sys2Proof.Machine

/-- R515: the states of a management controller. -/
inductive CtlSt where
  | resetting | acting | standby | recovery
  deriving DecidableEq, Repr

/-- One controller: state, the image slot it runs, the highest epoch it has seen, the epoch it last claimed (R492 to
R494). -/
structure Ctl where
  st : CtlSt := .resetting
  slot : Option Nat := none
  seen : Nat := 0
  claim : Nat := 0
  deriving DecidableEq, Repr

/-- R494: an authority key, epoch and controller (false BMA, true BMB). -/
structure AuthKey where
  epoch : Nat := 0
  bmb : Bool := false
  deriving DecidableEq, Repr

/-- R505: the states of an image slot. -/
inductive SlotSt where
  | empty | valid | trial | confirmed | bad
  deriving DecidableEq, Repr

/-- An image slot: its state and its image (R504, R506). -/
structure Slot where
  st : SlotSt := .empty
  img : ImageFacts := {}
  deriving DecidableEq, Repr

/-- R509: how far an SPDM exchange has come. -/
inductive SpdmSt where
  | none | version | capabilities | negotiated
  deriving DecidableEq, Repr

/-- R564: the test access port's states (IEEE 1149.1). -/
inductive TapSt where
  | tlr | rti | selDr | capDr | shDr | ex1Dr | pauDr | ex2Dr | updDr
  | selIr | capIr | shIr | ex1Ir | pauIr | ex2Ir | updIr
  deriving DecidableEq, Repr

/-- R564: the instructions of the test access port; `priv` is a private one. -/
inductive TapIr where
  | idcode | bypass | sample | extest | clamp | highz | priv
  deriving DecidableEq, Repr

/-- The test access port: controller state, instruction, the shift registers of instructions and data (next bit out
first) and the level of tdo. -/
structure Tap where
  st : TapSt := .tlr
  ir : TapIr := .idcode
  irShift : List Bool := []
  dr : List Bool := []
  tdo : Bool := false
  deriving DecidableEq, Repr

/-- R512: the management Ethernet settings. -/
structure EthCfg where
  enable : Bool := false
  dhcp : Bool := false
  addr : W32 := 0
  mask : W32 := 0
  gateway : W32 := 0
  allow : List W32 := []
  deriving DecidableEq, Repr

/-- The Bittern subsystem: the controllers, the authority key that every block has latched, the stale keys that have
been logged, whether epoch 1 has been claimed, the image slots, the trial's slot, the slot in transfer, whether a
verified image waits for activation, fused security values, Ethernet, isolated buses, SPDM exchanges and endpoint
identifiers by medium, the sampled straps, the test port in use (0 none, 1 1149.1, 2 1149.7), sensor readings, the
end of alert_n and the BMGT counters. -/
structure Bittern where
  bma : Ctl := {}
  bmb : Ctl := {}
  key : AuthKey := {}
  staleLogged : List AuthKey := []
  claimedOnce : Bool := false
  slot0 : Slot := {}
  slot1 : Slot := {}
  primary : Nat := 0
  trial : Option Nat := none
  xfer : Option Nat := none
  verified : Bool := false
  svnMin : Nat := 0
  revoke : BitVec 4 := 0
  boots : Nat := 0
  eth : EthCfg := {}
  i3cIsolated : Bool := false
  lsmIsolated : BitVec 2 := 0
  spdm : Tab SpdmSt := []
  eid : Tab Byte := []
  slew : Nat := 0
  dbgEn : Bool := false
  tapPort : Nat := 0
  tap : Tap := {}
  sensors : Tab Int := []
  alertUntil : Option Nat := none
  ctr : Tab W64 := []
  deriving DecidableEq, Repr

end Sys2Proof.Machine
end

