-- ==== Sys2Proof/Machine/StTick.lean ====
section
/-!
DEFINITION. The state of the tick (spec/06_command_model.md R197 to R210, R225, R226, R578), of the AGT
(spec/01_package.md R32 to R40) and of the coherence directory (spec/11_hub_die_links.md R345, R346).
-/
namespace Sys2Proof.Machine

/-- R450: the package states. -/
inductive PkgSt where
  | off | standby | active | dormant | tripped
  deriving DecidableEq, Repr

/-- R1: the part numbers BT4-4032-X, BT4-4032-S, BT4-3024-S and BT4-4032-N. -/
inductive Part where
  | p4032x | p4032s | p3024s | p4032n
  deriving DecidableEq, Repr

/-- A collective group as the tick sees it (R207, R210): tick numbers marked as hold ticks, consecutive hold ticks
met. -/
structure Group where
  holds : List Nat := []
  consec : Nat := 0
  deriving DecidableEq, Repr

/-- The parent of a package (R202): the port that leads to it, its device identifier and its hops to the master. -/
structure Parent where
  port : Nat
  dev : Nat
  hops : Nat
  deriving DecidableEq, Repr

/-- The tick (R197 to R203, R225, R226). Times are in ns of domain time; `change` is the announced period change
(Tc, select), `adopt` a pending adoption (R578). `lone` holds while the package is the master of a domain of one that
nobody has joined; `neighbours` gives the hops to the master by port. `offset`, `slew` and `stepBy` are in units of
1/256 ns: the last offset, what is left to slew, the step due at the next boundary. `sync` is the sequence and t1 of
the outstanding TIME_REQ, `good` the exchanges in a row within 25 ns, `missed` the periods since the last exchange with
the parent, `quiet` the periods since the last time flit of the master. -/
structure Tick where
  time : Nat := 0
  last : Nat := 0
  sel : Nat := 2
  req : Nat := 0
  change : Option (Nat × Nat) := none
  adopt : Option (Nat × Nat) := none
  master : Option Nat := none
  backup : Option Nat := none
  cands : List Nat := []
  parent : Option Parent := none
  lone : Bool := true
  candSeq : Nat := 0
  neighbours : Tab Nat := []
  offset : Int := 0
  slew : Int := 0
  stepBy : Int := 0
  sync : Option (Nat × Nat) := none
  syncSeq : Nat := 0
  lock : Nat := 2
  good : Nat := 0
  missed : Nat := 0
  quiet : Nat := 0
  eligible : Bool := true
  refclkB : Bool := true
  holdover : Bool := false
  groups : Tab Group := []
  seen : List (Nat × Nat × Nat) := []
  ctr : Ctrs := []
  deriving DecidableEq, Repr

/-- The settled and dynamic AGT fields that are not read from other state (R36): whether the table is valid,
GENERATION, capability words, steppings, enabled operating points, core bitmaps, dies and stacks in service; `links` and
`guests` are LINK[0..5] and GUEST[0..1] as the last update wrote them (R35, R39). -/
structure Agt where
  valid : Bool := false
  generation : W64 := 0
  cap : Nat := 0
  capDie : List Nat := [0, 0, 0, 0, 0]
  stepping : List Nat := [0, 0, 0, 0, 0]
  opEn : BitVec 16 := 0xFFFF
  fuseBad : BitVec 256 := 0
  testBad : BitVec 256 := 0
  enabled : BitVec 256 := 0
  lateFenced : BitVec 256 := 0
  diesActive : BitVec 4 := 0
  stacksActive : BitVec 32 := 0
  links : List Nat := []
  guests : List Nat := []
  deriving DecidableEq, Repr

/-- A line in a remote cache (R173): its address and, while it is a prefetch that no demand has used, the core and
queue that prefetched it. -/
structure RcLine where
  addr : Nat
  pf : Option (Nat × Nat)
  deriving DecidableEq, Repr

/-- The coherence state of one Liram die: its remote cache and its presence filter (R173, R346). -/
structure Die where
  rc : List RcLine := []
  filter : Tab Nat := []
  deriving DecidableEq, Repr

/-- One directory entry (R345): line, sharers, the dies whose fill is pending, those of them that were invalidated
while pending (R350), the remote caches that still owe an INV_ACK, and whether the home waits for INV_DONE. The list
of entries is kept least recently used first. -/
structure DirEntry where
  line : Nat
  sharers : BitVec 4
  fill : BitVec 4 := 0
  dead : BitVec 4 := 0
  acks : BitVec 4 := 0
  home : Bool := false
  deriving DecidableEq, Repr

end Sys2Proof.Machine
end

