-- ==== Sys2Proof/Machine/StPwr.lean ====
section
/-!
DEFINITION. The state of the cap controller and the protections (spec/14_power_thermal.md), of bring-up and resets
(spec/15_bringup_reset_yield.md), and the fuses (R463).
-/
namespace Sys2Proof.Machine

/-- A phase hint (R440): `ticks` is its TICKS field, `left` the slots that remain of them; `on` once a tick has brought
it into force. -/
structure Hint where
  q : Nat
  phase : Nat
  load : Nat
  ticks : Nat
  left : Nat
  on : Bool := false
  deriving DecidableEq, Repr

/-- The PWR page and the cap controller (R436 to R460). Watts held as FP32 encodings are `W32`. `next` is a PWR.CTRL
value waiting for the next tick; `fast10` is ten times the fast limiter's S, `draws` its 100 ns samples of the last 1 ms
newest first, `fastN` those taken since the cap last changed; `hot` and `cool` are what the last thermal sample found,
`over106` the samples in a row at 106 °C by sensor (R445). -/
structure Pwr where
  entering : Bool := false
  wakeWait : Bool := false
  waking : Bool := false
  exiting : Bool := false
  capW : Nat := 4300
  hintEn : Bool := true
  opMax : Nat := 15
  next : Option W64 := none
  curOp : Nat := 0
  nextOp : Nat := 0
  idleN : Nat := 0
  idleNext : Bool := false
  idleNow : Bool := false
  thermCeil : Nat := 15
  hot : Bool := false
  cool : Bool := false
  coolTicks : Nat := 0
  therm103 : List Nat := []
  over106 : Tab Nat := []
  droop : List Nat := []
  stagesBad : BitVec 24 := 0
  rsenseLost : Bool := false
  vin10 : Nat := 0
  pinW : Nat := 0
  fast10 : Nat := 0
  draws : List Nat := []
  fastN : Nat := 0
  tripCause : Nat := 0
  tripTick : Nat := 0
  hints : List Hint := []
  phaseMem : Tab W32 := []
  refLiram : W32 := 0
  refRest : W32 := 0
  refOp : Nat := 0
  pIdle : W32 := 0x44834000
  govern : Nat := 0
  inletLogged : List Nat := []
  sensorLogged : List Nat := []
  rangeLogged : Bool := false
  ctr : Ctrs := []
  deriving DecidableEq, Repr

/-- A reset or fence request of the host, held for step 4 of the next tick (R474, R479): SCOPE and TARGET. -/
structure ScopeReq where
  scope : Nat
  target : Nat
  deriving DecidableEq, Repr

/-- A module of a die link in its ready windows (R468): the windows begun. -/
structure ReadyWin where
  link : Nat
  mod : Nat
  second : Bool
  deriving DecidableEq, Repr

/-- Bring-up and resets (R461 to R488). `run` holds while a sequence is in progress, `passed` once one has
begun since Off, `wins` the modules whose ready windows have not ended, `wait` what the sequence measures while it waits
at step 2 for its clock, `tests` the failing tests, `off` the cores that a ready of this power cycle left not enabled on
a test verdict or with their die (R38), `ports` the ports that have not met R469, `lateDies` the dies fenced
since ready (R484). -/
structure Bring where
  result : Nat := 0
  step : Nat := 0
  failCause : Nat := 0
  cold : Bool := false
  belowGrade : Bool := false
  portsDropped : Nat := 0
  disagree : Nat := 0
  diesFenced : BitVec 4 := 0
  lateDies : BitVec 4 := 0
  retrained : Nat := 0
  readyMs : Nat := 0
  run : Bool := false
  passed : Bool := false
  wait : Option SeqInput := none
  tests : List (Nat × Nat × Nat) := []
  off : BitVec 256 := 0
  wins : List ReadyWin := []
  ports : List Nat := []
  resets : List ScopeReq := []
  fences : List ScopeReq := []
  coreResets : List Nat := []
  clusterResets : List Nat := []
  partWait : List Nat := []
  partResets : List Nat := []
  railOc : Tab (List Nat) := []
  ctr : Ctrs := []
  deriving DecidableEq, Repr

/-- R335: the capability word of a Liram die, or of the K-die, by its stepping code. -/
def capWord (kolden : Bool) (stepping : Nat) : Nat :=
  match kolden, stepping with
  | false, 0 => 0x17B7 | false, 1 => 0x1FBF | true, 0 => 0x2D7F | true, 1 => 0x2FFF | _, _ => 0x3FFF

/-- One copy of a die's fuses (R463): whether its CRC is good, stepping, capability word, core defects, the fused
voltages in mV of a core at OP0 to OP15 where they differ from the limits of R432, the lane maps of its modules, and
(K-die) the part number, none when it is not one of R1. -/
structure FuseCopy where
  crcOk : Bool := true
  stepping : Nat := 0x10
  cap : Nat := capWord false stepping
  bad : BitVec 64 := 0
  volts : Tab (List Nat) := []
  lanes : Tab Nat := []
  part : Option Part := some .p4032x
  deriving DecidableEq, Repr

/-- The fuses of the package: both copies of the K-die and of each Liram die. -/
structure Fuse where
  ka : FuseCopy := {}
  kb : FuseCopy := {}
  la : Tab FuseCopy := []
  lb : Tab FuseCopy := []
  deriving DecidableEq, Repr

end Sys2Proof.Machine
end

