-- ==== Sys2Proof/Machine/State.lean ====
section
/-!
DEFINITION. The whole state of the block as plain data, the faults, the refusals and the state after reset.
-/
namespace Sys2Proof.Machine

/-- Why the block stops with a fault. The spec reports every error of this block through codes, logs and interrupts
(R255, R499, R525), so no command faults. -/
inductive Fault where
  /-- Raised by no command (safe). -/
  | none
  deriving DecidableEq, Repr

/-- Why a command is refused. -/
inductive Refusal where
  /-- Raised by exec's arm of a command that has no meaning yet (safe: nothing is claimed of it). -/
  | notModelled (mnemonic : String)
  /-- Raised by TAP_CLOCK when an open test port would capture for a private instruction, whose effect the spec does not
  give (R564) (safe: nothing is claimed of it). -/
  | privateTest
  deriving DecidableEq, Repr

/-- A response to the sender of a command: an OMC, PLDM, SPDM, PCIe or register-read answer, as a code and bytes. -/
structure Reply where
  code : Nat
  data : List Byte
  deriving DecidableEq, Repr

/-- Something the package sends: an MSI-X message of a function's vector; a control message, a packet or an S flit on
a Causeway port; the trailer of a sequenced flit, or of the flit that carries an acknowledgement or NAK; a replay of a
port's unacknowledged flits; B-class credits returned on a port; the enable of a port's feed, on a laser management bus; a
write, with a poison bit for each line, or a read passed to a guest window, and a KGP message to a guest die. -/
inductive Out where
  | msix (fn vec : Nat)
  | ctl (port : Nat) (m : CtlMsg)
  | packet (port : Nat) (p : Packet)
  | sflit (port : Nat) (f : SFlit)
  | trailer (port : Nat) (t : Trail)
  | replay (port count : Nat)
  | feed (bus port : Nat) (on : Bool)
  | credit (port vc floor shared : Nat)
  | guestWr (site ofs : Nat) (data : List Byte) (pmap : List Bool)
  | guestRd (site ofs len : Nat)
  | guestMsg (site kind arg : Nat) (data : List Byte)
  deriving DecidableEq, Repr

/-- The hub's streams (R190, R211): dispatched collectives and updates in stream order. -/
structure HubQ where
  coll : List CmdRef := []
  upd : List CmdRef := []
  deriving DecidableEq, Repr

structure State where
  pst : PkgSt
  uptime : Nat
  agt : Agt
  partNo : Part
  partOf : Tab Nat
  mem : List Host.Cell
  poison : List Nat
  latent : List Nat
  hbmCorr : Ctrs
  cores : Tab Core
  dies : Tab Die
  dir : List DirEntry
  dirCtr : Ctrs
  links : Tab Link
  guests : Tab Guest
  xbar : Xbar
  msgs : List DieMsg
  homeWr : List HomeWr
  queues : Tab Queue
  hubq : HubQ
  fences : Tab Fence
  numx : Numx
  xlat : Tab Xlat
  host : HostIf
  pages : Tab Page
  log : Log
  tick : Tick
  fab : Fab
  ce : Ce
  upd : Upd
  pwr : Pwr
  bring : Bring
  fuse : Fuse
  bit : Bittern
  freeN : Nat
  reply : Option Reply
  sent : List Out
  pending : List Instr
  deriving DecidableEq, Repr

/-- R450, R460, R492: the package in Standby, VSB just come up at the first entry from Off, with nothing running; both
controllers are booting, no image is staged, the fuses show no defect, and no command waits (notes/assumptions/3.md,
4.md). -/
def State.reset : State := {
  pst := .standby, uptime := 0, agt := {}, partNo := .p4032x, partOf := [], mem := [], poison := [], latent := [], hbmCorr := []
  cores := [], dies := [], dir := [], dirCtr := [], links := [], guests := [], xbar := {}, msgs := [], homeWr := []
  queues := [], hubq := {}, fences := [], numx := {}, xlat := [], host := {}, pages := [], log := {}
  tick := {}, fab := {}, ce := {}, upd := {}, pwr := {}, bring := {}, fuse := {}, bit := { boots := 1 }
  freeN := 0, reply := none, sent := [], pending := [] }

end Sys2Proof.Machine
end

