-- ==== Sys2Proof/Machine/Ops.lean ====
section
/-!
DEFINITION. The shared operations over the state: access to numbered units, byte memory with poison, address regions
and translation, interrupts, page errors and the event log.
-/
namespace Sys2Proof.Machine

/-! ### Numbered units -/

/-- Core `p`. -/
def State.core (s : State) (p : Nat) : Core := tabGet s.cores {} p
/-- The state with core `p` replaced. -/
def State.setCore (s : State) (p : Nat) (c : Core) : State := { s with cores := tabSet s.cores p c }
/-- Queue `q`. -/
def State.queue (s : State) (q : Nat) : Queue := tabGet s.queues {} q
/-- The state with queue `q` replaced. -/
def State.setQueue (s : State) (q : Nat) (x : Queue) : State := { s with queues := tabSet s.queues q x }
/-- Fence counter `i`. -/
def State.fence (s : State) (i : Nat) : Fence := tabGet s.fences {} i
/-- The state with fence counter `i` replaced. -/
def State.setFence (s : State) (i : Nat) (f : Fence) : State := { s with fences := tabSet s.fences i f }
/-- Translation context `c`. -/
def State.ctx (s : State) (c : Nat) : Xlat := tabGet s.xlat {} c
/-- The state with translation context `c` replaced. -/
def State.setCtx (s : State) (c : Nat) (x : Xlat) : State := { s with xlat := tabSet s.xlat c x }
/-- The header of register page `n`. -/
def State.page (s : State) (n : Nat) : Page := tabGet s.pages {} n
/-- The state with the header of page `n` replaced. -/
def State.setPage (s : State) (n : Nat) (x : Page) : State := { s with pages := tabSet s.pages n x }
/-- Liram die `d`. -/
def State.die (s : State) (d : Nat) : Die := tabGet s.dies {} d
/-- The state with die `d` replaced. -/
def State.setDie (s : State) (d : Nat) (x : Die) : State := { s with dies := tabSet s.dies d x }
/-- Group `g` as the tick sees it. -/
def State.group (s : State) (g : Nat) : Group := tabGet s.tick.groups {} g
/-- The state with group `g` replaced. -/
def State.setGroup (s : State) (g : Nat) (x : Group) : State :=
  { s with tick := { s.tick with groups := tabSet s.tick.groups g x } }
/-- Scale-table entry `t` of partition `n`. -/
def State.entry (s : State) (n t : Nat) : Entry := tabGet s.numx.tab {} (n * 65536 + t)
/-- The state with scale-table entry `t` of partition `n` replaced. -/
def State.setEntry (s : State) (n t : Nat) (e : Entry) : State :=
  { s with numx := { s.numx with
      tab := tabSet s.numx.tab (n * 65536 + t) e, dirty := setIns s.numx.dirty (n * 65536 + t) } }

/-- A counter's value. -/
def ctrGet (c : Ctrs) (o : Nat) : W64 := tabGet c 0 o
/-- A counter advanced by `n`, wrapping modulo 2⁶⁴. -/
def ctrAdd (c : Ctrs) (o n : Nat) : Ctrs := if n = 0 then c else tabSet c o (tabGet c 0 o + BitVec.ofNat 64 n)

/-- Counter `o` of core `p`'s page advanced by `n` (R112, R147, R186). -/
def coreCtr (s : State) (p o n : Nat) : State :=
  if n = 0 then s else s.setCore p { s.core p with ctr := ctrAdd (s.core p).ctr o n }
/-- Counter `o` of queue `q`'s page advanced by `n` (R527). -/
def queueCtr (s : State) (q o n : Nat) : State :=
  if n = 0 then s else s.setQueue q { s.queue q with ctr := ctrAdd (s.queue q).ctr o n }
/-- Counter `o` of the TICK page advanced by `n` (R226). -/
def tickCtr (s : State) (o n : Nat) : State :=
  { s with tick := { s.tick with ctr := ctrAdd s.tick.ctr o n } }
/-- Counter `o` of the NUMX page advanced by `n` (R280). -/
def numxCtr (s : State) (o n : Nat) : State :=
  { s with numx := { s.numx with ctr := ctrAdd s.numx.ctr o n } }
/-- Counter `o` of the HOST page advanced by `n` (R536). -/
def hostCtr (s : State) (o n : Nat) : State :=
  { s with host := { s.host with ctr := ctrAdd s.host.ctr o n } }
/-- Counter `o` of context `c`'s page advanced by `n` (R545). -/
def ctxCtr (s : State) (c o n : Nat) : State :=
  if n = 0 then s else s.setCtx c { s.ctx c with ctr := ctrAdd (s.ctx c).ctr o n }
/-- Counter `o` of the BMGT page advanced by `n` (R515). -/
def bmgtCtr (s : State) (o n : Nat) : State :=
  { s with bit := { s.bit with ctr := ctrAdd s.bit.ctr o n } }
/-- Counter `o` of the DIR page advanced by `n` (R355). -/
def dirBump (s : State) (o n : Nat) : State := { s with dirCtr := ctrAdd s.dirCtr o n }

/-! ### Free values -/

/-- The next free choice among `k` alternatives, and the state that has drawn it. -/
def drawChoice (s : State) (k : Nat) : Nat × State :=
  (Config.freeChoice s.freeN k % k, { s with freeN := s.freeN + 1 })

/-- `n` free bytes, and the state that has drawn them. -/
def drawBytes (s : State) (n : Nat) : List Byte × State :=
  ((upTo n).map (fun i => Config.freeByte (s.freeN + i)), { s with freeN := s.freeN + n })

/-! ### Byte memory -/

/-- The byte a memory holds at an address; an unlisted address reads 0 (R461 step 11). -/
def cellGet (m : List Host.Cell) (a : Nat) : Byte := tabGet m 0 a

/-- Memory with one byte replaced, in canonical form: addresses rising, no zero listed. -/
def cellSet (m : List Host.Cell) (a : Nat) (b : Byte) : List Host.Cell :=
  if b = 0 then tabErase m a else tabSet m a b

/-- Memory with a run of bytes replaced. -/
def cellsSet (m : List Host.Cell) (a : Nat) : List Byte → List Host.Cell
  | [] => m
  | b :: bs => cellsSet (cellSet m a b) (a + 1) bs

/-- The canonical form: strictly rising addresses, no entry equal to what an unlisted address reads as. -/
def Memory.wf (m : List Host.Cell) : Bool :=
  match m with
  | [] => true
  | (a, b) :: t => b != 0 && t.all (fun c => decide (a < c.1)) && Memory.wf t

/-- The byte at a device physical address. -/
def readByte (s : State) (a : Nat) : Byte := cellGet s.mem a

/-- `n` bytes from a device physical address. -/
def readBytes (s : State) (a n : Nat) : List Byte := (upTo n).map (fun i => readByte s (a + i))

/-- `n` bytes from a device physical address as a little-endian number (R6). -/
def readLE (s : State) (a n : Nat) : Nat := ofLE (readBytes s a n)

/-! ### Address regions (R22, R148, R341, R521) -/

/-- Base of core `p`'s core-store window (R148). -/
def csBase (p : Nat) : Nat := 0x80000000000 + p * 0x800000
/-- R148: the first 6 MiB of a window hold the core store. -/
def csSize : Nat := 6291456
/-- Whether an address lies in some core-store window. -/
def inCs (a : Nat) : Bool := decide (0x80000000000 ≤ a) && decide (a < 0x88000000000)
/-- The core whose window holds an address. -/
def csCore (a : Nat) : Nat := (a - 0x80000000000) / 0x800000
/-- The offset of an address in its core-store window. -/
def csOfs (a : Nat) : Nat := (a - 0x80000000000) % 0x800000
/-- Whether an address lies in the HBM range (R22). -/
def inHbm (a : Nat) : Bool := decide (a < 0x20000000000)
/-- The home die of an HBM address (R22). -/
def homeDie (a : Nat) : Nat := a >>> 39
/-- The home stack of an HBM address (R22). -/
def homeStack (a : Nat) : Nat := 8 * (a >>> 39) + ((a >>> 12) % 8)
/-- Whether an address lies in register space (R521). -/
def inRegs (a : Nat) : Bool := decide (0xC0000000000 ≤ a) && decide (a < 0xC0010000000)
/-- The guest site whose window region holds an address (R341). -/
def guestOf (a : Nat) : Option Nat :=
  if 0xD0000000000 ≤ a ∧ a < 0xE0000000000 then some 0
  else if 0xE0000000000 ≤ a ∧ a < 0xF0000000000 then some 1 else none

/-- R1: bytes of one stack of the part. -/
def stackBytes (p : Part) : Nat :=
  match p with
  | .p4032x => 0x1000000000 | .p4032n => 0x1000000000 | .p4032s => 0xC00000000 | .p3024s => 0xC00000000
/-- R1: the Liram dies a part number enables. -/
def partDies (p : Part) : Nat := match p with | .p3024s => 3 | _ => 4
/-- R1: the Causeway ports a part number enables. -/
def partPorts (p : Part) : Nat :=
  match p with | .p3024s => 48 | .p4032n => 32 | _ => 64
/-- R1: the least number of enabled cores of a part number. -/
def partMinCores (p : Part) : Nat :=
  match p with | .p4032x => 240 | .p4032s => 224 | .p3024s => 168 | .p4032n => 240
/-- R36: TDP in watts of a part number. -/
def partTdp (p : Part) : Nat := match p with | .p3024s => 3400 | _ => 4300

/-- R484: the home die of an address was fenced after ready: reads answer poisoned, writes are discarded (R332). -/
def lateDie (s : State) (a : Nat) : Bool := inHbm a && s.bring.lateDies.getLsbD (homeDie a)

/-- R2, R22: an HBM byte is enabled: its die is present and in service, its offset within the stacks' capacity, its
stack in service; or its die left service only after ready. -/
def hbmOk (s : State) (a : Nat) : Bool :=
  inHbm a && decide (homeDie a < partDies s.partNo) && decide (a % 0x8000000000 < 8 * stackBytes s.partNo)
    && (lateDie s a || (s.agt.diesActive.getLsbD (homeDie a) && s.agt.stacksActive.getLsbD (homeStack a)))

/-- What the target of a physical access refuses it with: HBM_RANGE, CS_RANGE or CORE_FENCED (R149, R544). -/
def paStatus (s : State) (a : Nat) : Option Nat :=
  if inHbm a then (if hbmOk s a then none else some 0x25)
  else if inCs a then
    if csSize ≤ csOfs a then some 0x22
    else if s.agt.enabled.getLsbD (csCore a) then none else some 0xA0
  else if inRegs a then none
  else if (guestOf a).isSome then none
  else some 0x25

/-! ### Poison (R180 to R184) -/

/-- The poison unit that holds an address: 8 bytes of a core store, 64 bytes of HBM. -/
def unitSize (a : Nat) : Nat := if inCs a then 8 else 64
/-- The first address of the unit that holds `a`. -/
def unitOf (a : Nat) : Nat := a / unitSize a * unitSize a
/-- The units that a run of `n` bytes touches. -/
def unitsOf (a n : Nat) : List Nat :=
  if n = 0 then []
  else
    let z := unitSize a
    (upTo ((a + n - 1) / z - a / z + 1)).map (fun k => (a / z + k) * z)

/-- Whether a later reader of the unit sees poison. -/
def unitBad (s : State) (u : Nat) : Bool := s.poison.contains u || s.latent.contains u || lateDie s u

/-- Whether any byte of a run is poisoned. -/
def rangeBad (s : State) (a n : Nat) : Bool := (unitsOf a n).any (unitBad s)

/-- R182: after a store of valid bytes, a wholly written unit is clean and a partly written one keeps its poison. -/
def keepUnits (l : List Nat) (a n : Nat) : List Nat :=
  l.filter (fun u => !(decide (a ≤ u) && decide (u + unitSize u ≤ a + n)))

/-- The 64-byte lines that a run touches. -/
def linesOf (a n : Nat) : List Nat :=
  if n = 0 then [] else (upTo ((a + n - 1) / 64 - a / 64 + 1)).map (fun k => (a / 64 + k) * 64)

/-! ### Coherence of copies (R172, R175) -/

/-- R172: a core's staged line `l` leaves the staging buffer; unused, it counts EVICT_UNUSED on the core and its
queue. -/
def unstage (s : State) (p l : Nat) : State :=
  let h := (s.core p).heron
  match h.stage.find? (fun x => x.addr == l) with
  | none => s
  | some x =>
    let s := s.setCore p { s.core p with heron := { h with stage := h.stage.filter (fun y => !(y.addr == l)) } }
    if x.used then s else queueCtr (coreCtr s p 0x1B8 1) x.queue 0x178 1

/-- Die `d`'s remote cache loses line `l`; an unused prefetch counts EVICT_UNUSED. -/
def uncache (s : State) (d l : Nat) : State :=
  let x := s.die d
  match x.rc.find? (fun y => y.addr == l) with
  | none => s
  | some y =>
    let s := s.setDie d { x with rc := x.rc.filter (fun z => !(z.addr == l)) }
    match y.pf with
    | some (p, q) => queueCtr (coreCtr s p 0x1B8 1) q 0x178 1
    | none => s

/-- R346: the index of a line's presence-filter counter. -/
def filterIdx (l : Nat) : Nat := (Nat.xor (l / 64) (l >>> 28)) % 4194304

/-- R346: one FDEC at the home of a line. -/
def filterDec (s : State) (l : Nat) : State :=
  let d := homeDie l
  let x := s.die d
  let c := tabGet x.filter 0 (filterIdx l)
  if c = 255 ∨ c = 0 then s else s.setDie d { x with filter := tabSet x.filter (filterIdx l) (c - 1) }

/-- Bit `k` of a sharer vector. -/
def dieBit (k : Nat) : BitVec 4 := BitVec.ofNat 4 (2 ^ k)

/-- The state with the directory entry of line `l` changed. -/
def mapDir (s : State) (l : Nat) (f : DirEntry → DirEntry) : State :=
  { s with dir := s.dir.map (fun x => if x.line == l then f x else x) }

/-- The directory entry of line `l` is deallocated and its home is sent FDEC (R345, R346). -/
def dropDir (s : State) (l : Nat) : State := filterDec { s with dir := s.dir.filter (fun x => !(x.line == l)) } l

/-- R349, R350: K invalidates every copy of a line that its directory records: a copy that is still being filled is
delivered without being installed, and the entry then stays until the fill ends. -/
def recallLine (s : State) (l : Nat) : State :=
  match s.dir.find? (fun e => e.line == l) with
  | none => dirBump s 0x128 1
  | some e =>
    let held := e.sharers &&& ~~~e.fill
    let s := dirBump s 0x120 (popCount 4 held.toNat)
    let s := forUp 4 (fun k t => if held.getLsbD k then uncache t k l else t) s
    if e.fill = 0 then dropDir s l else mapDir s l (fun x => { x with sharers := x.fill, dead := x.fill })

/-- R175, R349: every copy of an HBM line is invalidated before a write to it is acknowledged: staging copies of the
home die's cores, and the remote copies through K while the line's filter counter is not zero. -/
def invalidateLine (s : State) (l : Nat) : State :=
  let d := homeDie l
  let s := s.cores.foldl (fun t c => if c.1 / 64 = d then unstage t c.1 l else t) s
  if tabGet (s.die d).filter 0 (filterIdx l) = 0 then s else recallLine (dirBump s 0x118 1) l

/-- Bytes and poison of a store at a device physical address, before copies are invalidated; discarded where the home
die was fenced after ready. -/
def storeBytes (s : State) (a : Nat) (bs : List Byte) (bad : Bool) : State :=
  let n := bs.length
  if n = 0 || lateDie s a then s
  else { s with
    mem := cellsSet s.mem a bs
    poison := if bad then (unitsOf a n).foldl setIns s.poison else keepUnits s.poison a n
    latent := keepUnits s.latent a n }

/-- A store of bytes at a device physical address in HBM or a core store, poisoned or valid; discarded where the home
die was fenced after ready. An injected core-store
error strikes the first 64-bit word written (R525). -/
def writeMem (s : State) (a : Nat) (bs : List Byte) (bad : Bool) : State :=
  let n := bs.length
  if n = 0 || lateDie s a then s
  else
    let s := storeBytes s a bs bad
    if inCs a then
      let p := csCore a
      if (s.core p).ras.injCs then
        let c := s.core p
        { s.setCore p { c with ras := { c.ras with injCs := false } } with latent := setIns s.latent (unitOf a) }
      else s
    else if inHbm a then (linesOf a n).foldl invalidateLine s
    else s

/-- Adjacent runs of a list of stores joined into one (R182: one instruction's contiguous bytes are one store). -/
def joinRuns : List (Nat × List Byte) → List (Nat × List Byte)
  | [] => []
  | (a, x) :: t =>
    match joinRuns t with
    | (b, y) :: u => if a + x.length = b then (a, x ++ y) :: u else (a, x) :: (b, y) :: u
    | [] => [(a, x)]

/-- A list of stores of valid bytes, in order. -/
def writeRuns (s : State) (ws : List (Nat × List Byte)) : State :=
  (joinRuns ws).foldl (fun t w => writeMem t w.1 w.2 false) s

/-! ### Interrupts and page errors (R525, R537, R547) -/

/-- An MSI-X message of a function's vector: sent, held pending while the entry is masked, or lost while the link is
down (R518, R547). -/
def sendMsix (s : State) (fn vec : Nat) : State :=
  let k := fn * 128 + vec
  let e := tabGet s.host.msix {} k
  if !s.host.linkUp then s
  else if e.masked then { s with host := { s.host with msix := tabSet s.host.msix k { e with pending := true } } }
  else { s with sent := s.sent ++ [.msix fn vec] }

/-- R537: cause bit `b` of HOST.IRQ_STAT is set, with one message if it was clear and unmasked. -/
def raiseIrq (s : State) (b : Nat) : State :=
  if s.host.irqStat.getLsbD b then s
  else
    let s := { s with host := { s.host with irqStat := s.host.irqStat ||| BitVec.ofNat 8 (2 ^ b) } }
    if s.host.irqMask.getLsbD b then s else sendMsix s 0 (72 + b)

/-- R525: PAGE_ERR bit `b` of a page records an event at offset `ofs` (bits 2 to 0 record the offset); an unmasked
bit that was clear raises ERR. -/
def pageErr (s : State) (pg b ofs : Nat) : State :=
  let x := s.page pg
  let was := x.err.getLsbD b
  let s := s.setPage pg { x with
    err := x.err ||| BitVec.ofNat 5 (2 ^ b)
    ofs := if b ≤ 2 then ofs % 4096 else x.ofs
    evt := x.evt + 1 }
  if was || x.mask.getLsbD b then s else raiseIrq s 4

/-- R10, R525: a register write ignored by a rule of its block (WRITE_IGNORED). -/
def writeIgnored (s : State) (pg ofs : Nat) : State := pageErr s pg 0 ofs
/-- R522: an access refused (BAD_ACCESS). -/
def badAccess (s : State) (pg ofs : Nat) : State := pageErr s pg 1 ofs
/-- R524: a write refused to a foreign function (FOREIGN). -/
def foreignWrite (s : State) (pg ofs : Nat) : State := pageErr s pg 2 ofs

/-! ### The event log (R497 to R500) -/

/-- R497, R500: an entry that is not suppressed enters the ring; a critical one also enters the persistence queue and
raises the LOG cause and alert_n (R557). -/
def logStore (s : State) (e : LogIn) : State :=
  let x : LogEntry := {
    ev := e
    seq := s.log.seq + 1
    auth := s.bit.key.epoch
    tick := if s.pst = .active then s.tick.last % 2 ^ 32 else 0
    uptime := s.uptime / 1000 }
  let l : Log := { s.log with ring := (x :: s.log.ring).take 16384, seq := s.log.seq + 1 }
  if e.sev = 3 then
    let l : Log := if l.persist.length < 256 then { l with persist := l.persist ++ [x] } else { l with lost := l.lost + 1 }
    raiseIrq { s with log := l, bit := { s.bit with alertUntil := some (s.uptime + 10000000) } } 6
  else { s with log := l }

/-- R500: an entry arrives; a CODE and INSTANCE that arrives more than 16 times within 1 s is counted instead, unless
it is critical. -/
def logAdd (s : State) (e : LogIn) : State :=
  if e.sev = 3 then logStore s e
  else
    match s.log.wins.find? (fun w => w.code == e.code && w.inst == e.inst) with
    | none =>
      logStore { s with log := { s.log with wins := s.log.wins ++ [⟨e.code, e.inst, s.uptime, 1⟩] } } e
    | some w =>
      if w.start + 1000000000 ≤ s.uptime ∧ w.count ≤ 16 then
        let ws := s.log.wins.map (fun v =>
          if v.code == e.code && v.inst == e.inst then { v with start := s.uptime, count := 1 } else v)
        logStore { s with log := { s.log with wins := ws } } e
      else
        let ws := s.log.wins.map (fun v =>
          if v.code == e.code && v.inst == e.inst then { v with count := v.count + 1 } else v)
        let s := { s with log := { s.log with wins := ws } }
        if w.count < 16 then logStore s e else s

/-- R184, R525: the first detection of an uncorrectable error in a unit: the unit is poisoned, counted in CS_UNCORR of
its core, and logged as MEM_UNCORR. The code of the unit in ARG1 is free: the spec gives none. -/
def detectUnit (s : State) (u : Nat) : State :=
  if s.latent.contains u then
    let k := (Config.freeWord s.freeN).toNat
    let s := { s with latent := setDel s.latent u, poison := setIns s.poison u, freeN := s.freeN + 1 }
    if inCs u then
      let p := csCore u
      let c := s.core p
      let s := s.setCore p { c with
        ctr := ctrAdd c.ctr 0x1D0 1
        ras := { c.ras with uncorr := c.ras.uncorr ++ [(s.uptime, u)] } }
      logAdd s { code := 0x32, inst := p, src := 1, sev := 2, args := [u, k] }
    else
      logAdd s { code := 0x32, inst := homeStack u, src := 3, sev := 2, args := [u, k] }
  else s

/-- Detection over every unit that a read of `n` bytes touches. -/
def detect (s : State) (a n : Nat) : State := (unitsOf a n).foldl detectUnit s

/-! ### Translation (R543, R544) -/

/-- Why a page-table entry cannot be used, decided on its raw value at a level: VALID clear, a reserved bit, a
misaligned ADDR, LEAF at level 0 or clear at level 3. -/
def pteOk (lvl w : Nat) : Bool :=
  let leaf := w.testBit 1
  let addr := bits w 43 8 * 256
  let align := if leaf then (match lvl with | 1 => 2 ^ 30 | 2 => 2 ^ 21 | _ => 2 ^ 16)
    else (match lvl with | 2 => 256 | _ => 4096)
  w.testBit 0 && bits w 63 44 == 0 && bits w 7 4 == 0 && addr % align == 0
    && !(leaf && lvl == 0) && !(!leaf && lvl == 3)

/-- Bytes of the table that a level's non-leaf entry points to. -/
def tableBytes (lvl : Nat) : Nat := if lvl = 2 then 256 else 4096

/-- The index of a DVA at a level (R543). -/
def dvaIndex (lvl dva : Nat) : Nat :=
  match lvl with
  | 0 => bits dva 47 39 | 1 => bits dva 38 30 | 2 => bits dva 29 21 | _ => bits dva 20 16

/-- The page size of a leaf at a level. -/
def leafSize (lvl : Nat) : Nat := match lvl with | 1 => 2 ^ 30 | 2 => 2 ^ 21 | _ => 2 ^ 16

/-- One walk from a table at `tbl`, with `fuel` levels left, at level `lvl`. -/
def walkFrom (s : State) (c dva : Nat) : Nat → Nat → Nat → Option Leaf
  | 0, _, _ => none
  | fuel + 1, lvl, tbl =>
    let ea := tbl + 8 * dvaIndex lvl dva
    let w := readLE s ea 8
    if !hbmOk s ea || rangeBad s ea 8 || !pteOk lvl w then none
    else if w.testBit 1 then
      let z := leafSize lvl
      some ⟨c, dva / z * z, z, bits w 43 8 * 256, w.testBit 2, w.testBit 3⟩
    else
      let t := bits w 43 8 * 256
      if hbmOk s t && hbmOk s (t + tableBytes lvl - 1) then walkFrom s c dva fuel (lvl + 1) t else none

/-- R543: the leaf that maps a DVA in a context, if any. -/
def walk (s : State) (c dva : Nat) : Option Leaf :=
  let r := (s.ctx c).root.toNat
  if r.testBit 63 then walkFrom s c (dva % 2 ^ 48) 4 0 (bits r 43 12 * 4096) else none

/-- Whether a leaf maps a DVA of a context. -/
def Leaf.maps (l : Leaf) (c dva : Nat) : Bool :=
  l.ctx == c && decide (l.va ≤ dva) && decide (dva < l.va + l.size)

/-- The physical address a leaf gives a DVA. -/
def Leaf.addr (l : Leaf) (dva : Nat) : Nat := l.pa + (dva - l.va)

/-- The result of translating one access: a physical address, or the status it faults with. -/
inductive Xres where
  | pa (a : Nat)
  | fault (st : Nat)
  deriving DecidableEq, Repr

/-- R154: the leaf grants the access, or it fails with PERMISSION_FAULT. -/
def leafGrant (l : Leaf) (dva : Nat) (wr : Bool) : Xres :=
  if (if wr then l.w else l.r) then .pa (l.addr dva) else .fault 0x21

/-- A demand translation by a unit that keeps no leaf (the hub engines, the rings): R543, R154, R544. -/
def xlate (s : State) (c dva : Nat) (wr : Bool) : Xres :=
  match walk s c dva with
  | none => .fault 0x20
  | some l =>
    match leafGrant l dva wr with
    | .fault x => .fault x
    | .pa a => match paStatus s a with
      | some x => .fault x
      | none => .pa a

/-- The pieces of a run of `n` bytes that lie in one 64-byte line each. -/
def pieces (a n : Nat) : List (Nat × Nat) :=
  (linesOf a n).map (fun l => (max a l, min (a + n) (l + 64) - max a l))

/-- What a translated read of a run delivers: its bytes, whether any is poisoned, and the first fault. -/
structure VRead where
  data : List Byte := []
  bad : Bool := false
  fault : Option Nat := none
  deriving DecidableEq, Repr

/-- A read of `n` bytes at a DVA of a context by a hub engine. Register space and guest windows are not read this way:
they answer with HBM_RANGE (R544). -/
def vread (s : State) (c dva n : Nat) : VRead :=
  (pieces dva n).foldl (fun r pc =>
    match r.fault with
    | some _ => r
    | none =>
      match xlate s c pc.1 false with
      | .fault x => { r with fault := some x }
      | .pa a =>
        if inHbm a || inCs a then
          { r with data := r.data ++ readBytes s a pc.2, bad := r.bad || rangeBad s a pc.2 }
        else { r with fault := some 0x25 }) {}

/-- R184: detection over what such a read reaches. -/
def vdetect (s : State) (c dva n : Nat) : State :=
  (pieces dva n).foldl (fun t pc =>
    match xlate s c pc.1 false with
    | .fault _ => t
    | .pa a => if inHbm a || inCs a then detect t a pc.2 else t) s

/-- The first fault that a write of `n` bytes at a DVA would meet. -/
def vwriteFault (s : State) (c dva n : Nat) : Option Nat :=
  (pieces dva n).foldl (fun r pc =>
    match r with
    | some x => some x
    | none =>
      match xlate s c pc.1 true with
      | .fault x => some x
      | .pa a => if inHbm a || inCs a then none else some 0x25) none

/-- A write of bytes at a DVA of a context: every piece that translates is written. -/
def vwrite (s : State) (c dva : Nat) (bs : List Byte) (bad : Bool) : State :=
  (pieces dva bs.length).foldl (fun t pc =>
    match xlate t c pc.1 true with
    | .fault _ => t
    | .pa a => if inHbm a || inCs a then writeMem t a ((bs.drop (pc.1 - dva)).take pc.2) bad else t) s

/-- R545: a hub engine's access to a run of DVAs counts one walk per 64 KiB page and a demand fault. -/
def vnote (s : State) (c dva n : Nat) (f : Option Nat) : State :=
  let pages := if n = 0 then 0 else (dva + n - 1) / 65536 - dva / 65536 + 1
  ctxCtr (ctxCtr s c 0x118 pages) c 0x120 (if f = some 0x20 ∨ f = some 0x21 then 1 else 0)

end Sys2Proof.Machine
end

