-- ==== Sys2Proof/Machine/FabOps.lean ====
section
/-!
DEFINITION. What the Causeway ports and the switch share: control messages, flooding, credits, link retry, routing
(spec/12_causeway_fabric.md).
-/
namespace Sys2Proof.Machine

/-- Port `k`. -/
def State.port (s : State) (k : Nat) : Port := tabGet s.fab.ports {} k
/-- The state with port `k` replaced. -/
def State.setPort (s : State) (k : Nat) (x : Port) : State :=
  { s with fab := { s.fab with ports := tabSet s.fab.ports k x } }
/-- Counter `o` of port `k`'s page advanced by `n` (R395). -/
def portCtr (s : State) (k o n : Nat) : State :=
  if n = 0 then s else s.setPort k { s.port k with ctr := ctrAdd (s.port k).ctr o n }
/-- Counter `o` of the FAB page advanced by `n` (R392). -/
def fabCtr (s : State) (o n : Nat) : State := { s with fab := { s.fab with ctr := ctrAdd s.fab.ctr o n } }
/-- Counter `o` of the CE page advanced by `n` (R428). -/
def ceCtr (s : State) (o n : Nat) : State := { s with ce := { s.ce with ctr := ctrAdd s.ce.ctr o n } }

/-- FAB.CFG.DEVICE_ID (R392). -/
def devId (s : State) : Nat := bits s.fab.cfg.toNat 63 46
/-- FAB.CFG.P_G. -/
def fabPG (s : State) : Nat := bits s.fab.cfg.toNat 34 29
/-- FAB.CFG.NG. -/
def fabNG (s : State) : Nat := bits s.fab.cfg.toNat 45 35
/-- The group of a device identifier (R383). -/
def devGroup (d : Nat) : Nat := d / 256
/-- The position of a device in its group (R383). -/
def devPos (d : Nat) : Nat := d % 256

/-- Whether a port is Up. -/
def portUp (s : State) (k : Nat) : Bool := (s.port k).st == .up
/-- The ports that are Up, ascending. -/
def upPorts (s : State) : List Nat := (upTo 64).filter (portUp s)
/-- PORTS_UP as a mask. -/
def upMask (s : State) : Nat := packElems 1 ((upTo 64).map (fun k => b2n (portUp s k)))
/-- R389: whether a port is a global port of the reference topology. -/
def globalPort (s : State) (k : Nat) : Bool := decide (30 ≤ k) && decide (k < 30 + fabPG s)

/-! ### Sending (R366, R367, R372) -/

/-- R369: the flits of a packet. -/
def packetFlits (p : Packet) : Nat :=
  if p.ptype = 0x10 then 2
  else
    let lines := if p.ptype = 2 ∨ p.ptype = 3 then 4 * p.nlines else 0
    let one := if p.ptype = 5 ∨ p.ptype = 0x11 then 1 else 0
    let be := if p.be.isEmpty then 0 else ceilDiv p.nlines 2
    let pm := if p.pmap.isEmpty then 0 else 1
    ceilDiv (1 + be + pm + lines + one) 15

/-- R367: the replay buffer's flits. -/
def replayCap : Nat := 3072

/-- B credits a port holds for a VC. -/
def Port.credits (x : Port) (v : Nat) : Nat := tabGet x.floor 0 v + x.shared

/-- Flits still queued on a port. -/
def Port.queued (x : Port) : Nat := x.bq.foldl (fun n e => n + (packetFlits e.1 - e.2)) 0

/-- The first packet of a port's queue that is the first of its VC and has a credit. -/
def Port.nextB (x : Port) : Option (Packet × Nat) :=
  x.bq.find? (fun e =>
    decide (0 < x.credits e.1.vc)
      && (match x.bq.find? (fun f => f.1.vc == e.1.vc) with | some f => f == e | none => false))

/-- R365, R367: the trailer of the next flit of a type: its SEQ, the acknowledgement and NAK of the port's receiver. -/
def Port.trail (x : Port) (ftype : Nat) : Trail := { seq := x.txSeq, ack := x.rxSeq, nak := x.nak, ftype := ftype }

/-- R371, R372: `n` flits of VC `v` leave port `j`'s receive pool, and their credits go back, `fl` of them floor credits. -/
def creditBack (s : State) (j v n fl : Nat) : State :=
  if n = 0 then s
  else
    let s := { s with fab := { s.fab with pools := tabSet s.fab.pools j (tabGet s.fab.pools 0 j - n) } }
    if portUp s j then { s with sent := s.sent ++ [.credit j v (min n fl) (n - min n fl)] } else s

/-- R372: one flit of a packet that was received by this package is forwarded out of its buffer. -/
def flitForwarded (s : State) (p : Packet) : State :=
  match p.back with
  | none => s
  | some b => creditBack s b.1 b.2.1 1 b.2.2

/-- A packet of which one more flit has left, with a floor credit or not. -/
def packetSent (p : Packet) (fl : Bool) : Packet :=
  { p with floors := p.floors + b2n fl, back := p.back.map (fun b => (b.1, b.2.1, b.2.2 - 1)) }

/-- One sequenced flit leaves a port: its next control message first, else the next B flit that holds a credit. -/
def pumpOne (s : State) (k : Nat) : State :=
  let x := s.port k
  if x.st ≠ .up ∨ replayCap ≤ x.replay.length then s
  else
    match x.cq with
    | m :: t =>
      let s := s.setPort k { x with cq := t, replay := x.replay ++ [.ctl m], txSeq := (x.txSeq + 1) % 4096 }
      { portCtr s k 0x158 1 with sent := s.sent ++ [.trailer k (x.trail 4), .ctl k m] }
    | [] =>
      match x.nextB with
      | none => s
      | some e =>
        let v := e.1.vc
        let fl := decide (0 < tabGet x.floor 0 v)
        let done := decide (packetFlits e.1 ≤ e.2 + 1)
        let t := { x.trail 1 with vc := v, floor := fl, head := e.2 == 0, tail := done }
        let p := packetSent e.1 fl
        let x := { x with
          floor := if fl then tabSet x.floor v (tabGet x.floor 0 v - 1) else x.floor
          shared := if fl then x.shared else x.shared - 1
          replay := x.replay ++ [.b e.1 e.2 fl]
          txSeq := (x.txSeq + 1) % 4096
          bq := if done then x.bq.erase e else x.bq.map (fun f => if f == e then (p, f.2 + 1) else f) }
        let s := portCtr (s.setPort k x) k 0x148 1
        flitForwarded { s with sent := s.sent ++ .trailer k t :: (if done then [.packet k { p with back := none }] else []) } e.1

/-- Everything a port can send now leaves it. -/
def pump (s : State) (k : Nat) : State :=
  forUp ((s.port k).queued + (s.port k).cq.length) (fun _ t => pumpOne t k) s

/-- A control message is sent on a port if it is Up. -/
def sendCtl (s : State) (k : Nat) (m : CtlMsg) : State :=
  if portUp s k then pump (s.setPort k { s.port k with cq := (s.port k).cq ++ [m] }) k else s

/-- R380: a flooded message goes out on every Up port but the one on which it arrived. -/
def flood (s : State) (from_ : Option Nat) (m : CtlMsg) : State :=
  (upPorts s).foldl (fun t k => if from_ = some k then t else sendCtl t k m) s

/-- The valid group slot of a group (R374). -/
def slotOf (s : State) (gid : Nat) : Option (Nat × FSlot) :=
  s.fab.slots.find? (fun e => e.2.slot.getLsbD 63 && bits e.2.slot.toNat 61 46 == gid)

/-- R380: a message of a group goes out along the FWD mask of its slot, not back where it came from. -/
def forwardGroup (s : State) (from_ : Option Nat) (gid : Nat) (m : CtlMsg) : State :=
  match slotOf s gid with
  | none => s
  | some e => (upPorts s).foldl (fun t k =>
      if from_ = some k ∨ !e.2.fwd.getLsbD k then t else sendCtl t k m) s

/-- R380: whether an ABORT of a group and an origin was forwarded before, and the state that remembers it. DESIGN CHOICE
(notes/assumptions/12.md): it is remembered for 64 periods, as the same origin may abort the group again later. -/
def firstAbort (s : State) (gid origin : Nat) : Bool × State :=
  let k := gid * 2 ^ 18 + origin
  if s.tick.seen.any (fun e => e.1 == 6 && e.2.1 == k) then (false, s)
  else (true, { s with tick := { s.tick with seen := s.tick.seen ++ [(6, k, s.tick.last)] } })

/-- R380: whether a message with a key was forwarded before, and the state that remembers it. -/
def firstSeen (s : State) (k : Nat × Nat × Nat) : Bool × State :=
  if s.tick.seen.contains k then (false, s)
  else (true, { s with tick := { s.tick with seen := s.tick.seen ++ [k] } })

/-! ### Receiving sequenced flits (R367, R372) -/

/-- R367: `n` sequenced flits arrive intact and in order on a port; its next flit acknowledges them. -/
def rxFlits (s : State) (k n : Nat) : State :=
  let x := s.port k
  let x := { x with rxSeq := (x.rxSeq + n) % 4096 }
  let s := s.setPort k x
  { s with sent := s.sent ++ [.trailer k (x.trail 0)] }

/-- R367, R371: a packet has arrived whole in a port's receive pool, some of its flits perhaps before. -/
def arrive (s : State) (k : Nat) (p : Packet) : State :=
  let x := s.port k
  let n := packetFlits p - tabGet x.part 0 p.vc
  let s := { s with fab := { s.fab with pools := tabSet s.fab.pools k (tabGet s.fab.pools 0 k + n) } }
  rxFlits (s.setPort k { x with part := tabErase x.part p.vc }) k n

/-- The credits of a packet that has left the receive buffer are returned. -/
def returnCredits (s : State) (k : Nat) (p : Packet) : State := creditBack s k p.vc (packetFlits p) p.floors

/-! ### Routing (R386 to R388) -/

/-- R386: the port mask of a packet at this package, before the AND with PORTS_UP. -/
def routeMask (s : State) (dst via rphase : Nat) : Nat :=
  let tg := if rphase = 1 then via else devGroup dst
  if tg = devGroup (devId s) then (tabGet s.fab.rtl 0 (devPos dst)).toNat else (tabGet s.fab.rtg 0 tg).toNat

/-- R386: the port a packet leaves on: the most credits free for its VC, the lowest number on a tie. -/
def routePort (s : State) (mask vc : Nat) : Option Nat :=
  ((upPorts s).filter (fun k => mask.testBit k)).foldl (fun b k =>
    match b with
    | none => some k
    | some j => if (s.port j).credits vc < (s.port k).credits vc then some k else some j) none

/-- R387: whether a packet type is a request. -/
def isRequest (t : Nat) : Bool := [1, 3, 5, 0x10, 0x11].contains t

/-- R387: the answer with STAT 2 that a discarded request gets, if its type has an answer. -/
def unreachAnswer (p : Packet) : Option Packet :=
  let a (t : Nat) : Packet := { ptype := t, dst := p.src, src := p.dst, tid := p.tid, stat := 2, vc := 3 }
  match p.ptype with
  | 1 => some (a 2) | 3 => some (a 4) | 5 => some (a 6) | _ => none

/-- A packet is queued on a port and sent as its credits allow. -/
def queuePacket (s : State) (k : Nat) (p : Packet) : State :=
  pump (s.setPort k { s.port k with bq := (s.port k).bq ++ [(p, 0)] }) k

/-- R388: the group a request is sent through, if its source routes it non-minimally. -/
def nonMinimal (s : State) (p : Packet) (mask : Nat) : Option Nat × State :=
  let vs := (upTo (fabNG s)).filter (fun v => v != devGroup (devId s) && v != devGroup p.dst)
  if !s.fab.cfg.getLsbD 0 || !isRequest p.ptype || p.ptype = 5 || vs.isEmpty then (none, s)
  else
    let d := drawChoice s vs.length
    let v := vs.getD d.1 0
    let s := d.2
    match routePort s mask p.vc, routePort s (tabGet s.fab.rtg 0 v).toNat p.vc with
    | some a, some b =>
      if 2 * (s.port b).queued + bits s.fab.cfg.toNat 27 12 < (s.port a).queued then (some v, s) else (none, s)
    | _, _ => (none, s)

/-- A packet that this package originates enters the fabric; the second component is false where no route exists. -/
def inject (s : State) (p : Packet) : State × Bool :=
  let mask := routeMask s p.dst 0 0
  let nm := nonMinimal s p mask
  let s := nm.2
  let q : Packet := match nm.1 with | some v => { p with via := v, rphase := 1 } | none => p
  match routePort s (routeMask s q.dst q.via q.rphase) q.vc with
  | some k => (queuePacket s k q, true)
  | none => (fabCtr s 0x108 1, false)

/-- R385: a request enters the fabric under a fresh TID and waits for its answer; false where no route exists. -/
def sendRequest (s : State) (p : Packet) (dev : Nat) (wr : Bool) (owner : ReqFor) : State × Bool :=
  let tid := s.fab.tid
  let s := { s with fab := { s.fab with tid := (tid + 1) % 65536 } }
  let r := inject s { p with tid := tid, dst := dev, src := devId s }
  if r.2 then
    ({ r.1 with fab := { r.1.fab with
        reqs := r.1.fab.reqs ++ [{ tid := tid, dev := dev, wr := wr, owner := owner }] } }, true)
  else (r.1, false)

/-- The outstanding request of a TID and destination, and the state without it. -/
def takeRequest (s : State) (tid dev : Nat) : Option (FabReq × State) :=
  match s.fab.reqs.find? (fun r => r.tid == tid && r.dev == dev) with
  | none => none
  | some r => some (r, { s with fab := { s.fab with reqs := s.fab.reqs.filter (fun x => x != r) } })

end Sys2Proof.Machine
end

