-- ==== Sys2Proof/Machine/Queue.lean ====
section
/-!
DEFINITION. Queues, frames, command records and completion records (spec/06_command_model.md R187 to R195, R211,
R212; spec/07_command_reference.md R227 to R236; spec/17_host_registers.md R527 to R532).
-/
namespace Sys2Proof.Machine

/-! ### The fields of QUEUE.CTRL (R528) and of a record (R228) -/

/-- GROUP of a queue. -/
def Queue.group (x : Queue) : Nat := bits x.ctrl.toNat 63 48
/-- GROUP_EN of a queue. -/
def Queue.groupEn (x : Queue) : Bool := x.ctrl.toNat.testBit 47
/-- The hold guard H in ns. -/
def Queue.guard (x : Queue) : Nat := 256 * bits x.ctrl.toNat 46 39
/-- CTX of a queue. -/
def Queue.ctxNo (x : Queue) : Nat := bits x.ctrl.toNat 38 33
/-- FUNC of a queue. -/
def Queue.func (x : Queue) : Nat := bits x.ctrl.toNat 32 29
/-- PARTITION of a queue. -/
def Queue.part (x : Queue) : Nat := bits x.ctrl.toNat 28 26
/-- LOG_SIZE of a queue. -/
def Queue.logSize (x : Queue) : Nat := bits x.ctrl.toNat 25 21
/-- Records of the command ring. -/
def Queue.size (x : Queue) : Nat := 2 ^ x.logSize
/-- CPL_VEC of a queue. -/
def Queue.cplVec (x : Queue) : Nat := bits x.irq.toNat 7 0
/-- STOP_VEC of a queue. -/
def Queue.stopVec (x : Queue) : Nat := bits x.irq.toNat 15 8
/-- L of R192: the longest frame. -/
def Queue.maxFrame (x : Queue) : Nat := min 4096 x.size

/-- Bits `[hi:lo]` of a record. -/
def Rec.f (r : Rec) (hi lo : Nat) : Nat := bits r.word.toNat hi lo
/-- One bit of a record. -/
def Rec.b (r : Rec) (i : Nat) : Bool := r.word.toNat.testBit i
/-- OPCODE. -/
def Rec.opcode (r : Rec) : Nat := r.f 7 0
/-- FRAME_LAST. -/
def Rec.last (r : Rec) : Bool := r.b 10
/-- ORDER. -/
def Rec.order (r : Rec) : Bool := r.b 11
/-- SKIP_ERR. -/
def Rec.skipErr (r : Rec) : Bool := r.b 13
/-- DEP. -/
def Rec.dep (r : Rec) : Nat := r.f 39 32
/-- CORE. -/
def Rec.coreNo (r : Rec) : Nat := r.f 47 40
/-- TAG. -/
def Rec.tag (r : Rec) : Nat := r.f 63 48
/-- The 64-bit word `n` of a record (R227). -/
def Rec.w (r : Rec) (n : Nat) : Nat := r.f (64 * n + 63) (64 * n)

/-- Whether a record has completed. -/
def Rec.isDone (r : Rec) : Bool := match r.st with | .done _ => true | _ => false
/-- Whether a record completed with a nonzero status. -/
def Rec.failed (r : Rec) : Bool := match r.st with | .done x => x != 0 | _ => false
/-- Whether a record waits to be dispatched. -/
def Rec.isFetched (r : Rec) : Bool := match r.st with | .fetched => true | _ => false

/-- R229: the opcodes of core commands. -/
def coreOpcode (o : Nat) : Bool := [1, 2, 3, 4, 8, 9].contains o
/-- R229: the defined opcodes. -/
def knownOpcode (o : Nat) : Bool :=
  [0, 1, 2, 3, 4, 8, 9, 0x10, 0x11, 0x18, 0x19, 0x1A, 0x1B, 0x1C, 0x1D].contains o
/-- R212: the opcodes that start as if ORDER were set and hold back later commands. -/
def fenceOpcode (o : Nat) : Bool := [0x1A, 0x1B, 0x1D].contains o

/-- A record of a queue, by its number. -/
def findRec (s : State) (c : CmdRef) : Option Rec := (s.queue c.q).recs.find? (fun r => r.n == c.n)

/-- The state with a record changed. -/
def mapRec (s : State) (c : CmdRef) (f : Rec → Rec) : State :=
  let x := s.queue c.q
  s.setQueue c.q { x with recs := x.recs.map (fun r => if r.n == c.n then f r else r) }

/-- The state with a record's standing changed. -/
def setRecSt (s : State) (c : CmdRef) (st : RecSt) : State := mapRec s c (fun r => { r with st := st })

/-- Whether a record is a LINK reduce-scatter (R251). -/
def Rec.isLinkRs (r : Rec) : Bool := r.opcode == 0x10 && bits r.word.toNat 83 80 == 0 && r.b 92

/-- The count of records the doorbell has made available, as a full count. -/
def Queue.avail (x : Queue) : Nat := x.fetched + (x.sqTail.toNat + 2 ^ 32 - x.fetched % 2 ^ 32) % 2 ^ 32

/-- The DVA of record `n` of a queue. -/
def Queue.recVa (x : Queue) (n : Nat) : Nat := bits x.ring.toNat 47 6 * 64 + 64 * (n % x.size)

/-- The records of a queue's running frame. -/
def frameRecs (x : Queue) : List Rec :=
  match x.frame with
  | none => []
  | some f => x.recs.filter (fun r => decide (f.first ≤ r.n) && decide (r.n < f.first + f.len))

/-! ### Streams (R211) -/

/-- The stream of a record: a number for the unit and one for the core. Heron commands that name no engine share both
engines' streams. -/
def streamOf (r : Rec) : Nat × Nat :=
  match r.opcode with
  | 1 => (1, r.coreNo) | 2 => (1, r.coreNo) | 3 => (1, r.coreNo)
  | 4 => (2, r.coreNo)
  | 8 => (3 + r.f 286 285, r.coreNo) | 9 => (3 + r.f 286 285, r.coreNo)
  | 0x10 => (8, 0) | 0x11 => (9, 0)
  | _ => (10, 0)

/-- Whether two records belong to streams that keep command order between them. -/
def sameStream (a b : Rec) : Bool :=
  let x := streamOf a
  let y := streamOf b
  if 3 ≤ x.1 ∧ x.1 ≤ 6 ∧ 3 ≤ y.1 ∧ y.1 ≤ 6 then x.2 == y.2 && (x.1 == y.1 || x.1 == 3 || y.1 == 3)
  else x == y

/-- R195, R211, R212, R218: a fetched record of a running frame may start: earlier commands of its stream are
dispatched, every earlier fence or epoch change has completed, and its own ORDER and DEP waits are over. A DEP that
reaches outside the frame waits for nothing (it fails validation). -/
def mayStart (x : Queue) (r : Rec) : Bool :=
  let fr := frameRecs x
  let before := fr.filter (fun e => decide (e.n < r.n))
  r.isFetched
    && fr.any (fun e => e.n == r.n)
    && before.all (fun e => !(fenceOpcode e.opcode) || e.isDone)
    && before.all (fun e => !(e.isFetched && sameStream e r))
    && (!(r.order || fenceOpcode r.opcode) || before.all Rec.isDone)
    && before.all (fun e => !(r.dep != 0 && e.n + r.dep == r.n) || e.isDone)

/-- R230: a command that `r` waits for completed with a nonzero status. -/
def depFailed (x : Queue) (r : Rec) : Bool :=
  let before := (frameRecs x).filter (fun e => decide (e.n < r.n))
  r.skipErr && before.any (fun e =>
    e.failed && (r.order || fenceOpcode r.opcode || (r.dep != 0 && e.n + r.dep == r.n)))

/-- R231 steps 1 to 4, in the order of the header's field map (R228): the status a record fails with, 0 when it
passes. -/
def headerStatus (s : State) (q : Nat) (r : Rec) : Nat :=
  let x := s.queue q
  let pos := match x.frame with | some f => r.n - f.first | none => 0
  if !knownOpcode r.opcode then 0x01
  else if !coreOpcode r.opcode && r.coreNo != 0 then 0x02
  else if pos < r.dep then 0x04
  else if r.f 31 14 != 0 || r.f 9 8 != 0 then 0x02
  else if depFailed x r then 0x05
  else if coreOpcode r.opcode && !s.agt.enabled.getLsbD r.coreNo then 0xA0
  else if coreOpcode r.opcode && tabGet s.partOf 255 (r.coreNo / 8) != x.part then 0xA1
  else 0

/-! ### Completions (R235, R236) -/

/-- What a command's completion reports beside its identity. -/
structure Cpl where
  status : Nat := 0
  res0 : Nat := 0
  res1 : Nat := 0
  res2 : Nat := 0
  poison : Bool := false
  cold : Bool := false
  unpaired : Bool := false
  deriving DecidableEq, Repr

/-- R237: a count saturated at the largest value of a field of `w` bits. -/
def satW (w n : Nat) : Nat := min n (2 ^ w - 1)

/-- The 256 bits of a completion record (R236). -/
def cplWord (s : State) (q : Nat) (r : Rec) (c : Cpl) : Nat :=
  let x := s.queue q
  let late := match x.frame with | some f => f.late && decide (r.n < f.first + f.len) | none => false
  let phase := (x.completed / x.size) % 2 == 0
  let w0 := c.status + b2n late * 2 ^ 8 + b2n c.poison * 2 ^ 9 + b2n c.cold * 2 ^ 10 + b2n phase * 2 ^ 11
    + b2n c.unpaired * 2 ^ 12 + q * 2 ^ 16 + r.opcode * 2 ^ 24 + (r.n % x.size) * 2 ^ 32 + r.tag * 2 ^ 48
  w0 + (s.tick.last % 2 ^ 32) * 2 ^ 64 + (c.res0 % 2 ^ 32) * 2 ^ 96 + (c.res1 % 2 ^ 64) * 2 ^ 128
    + (c.res2 % 2 ^ 64) * 2 ^ 192

/-- The frame of a queue is over when every one of its commands has completed (R194): its records are dropped. -/
def closeFrame (s : State) (q : Nat) : State :=
  let x := s.queue q
  match x.frame with
  | none => s
  | some f =>
    if (frameRecs x).all Rec.isDone && decide ((frameRecs x).length = f.len) then
      let s := { s with upd := { s.upd with hand := s.upd.hand.filter (fun h => h.q != q) } }
      s.setQueue q { x with frame := none, recs := x.recs.filter (fun r => decide (f.first + f.len ≤ r.n)) }
    else s

/-- One completion is written to the completion ring through the queue's context, then its interrupt is raised. The
second component says whether the write failed (RING_FAULT, R234). -/
def postOne (s : State) (c : CmdRef) (v : Cpl) : State × Bool :=
  match findRec s c with
  | none => (s, false)
  | some r =>
    if r.isDone then (s, false)
    else
      let x := s.queue c.q
      let va := bits x.cring.toNat 47 6 * 64 + 32 * (x.completed % x.size)
      let bs := toLE 32 (cplWord s c.q r v)
      let f := vwriteFault s x.ctxNo va 32
      let bad := f.isSome
      let s := vnote (if bad then s else vwrite s x.ctxNo va bs false) x.ctxNo va 32 f
      let s := s.setQueue c.q { s.queue c.q with completed := x.completed + 1 }
      let s := setRecSt s c (.done v.status)
      let s := if r.b 12 && !bad then sendMsix s x.func x.cplVec else s
      (s, bad)

/-- References of a queue taken out of a stream. -/
def dropRefs (q : Nat) (keep : List Nat) (l : List CmdRef) : List CmdRef :=
  l.filter (fun c => !(c.q == q) || keep.contains c.n)

/-- Commands of a queue that wait in the streams of a core are taken out of them. -/
def Core.purge (c : Core) (q : Nat) : Core :=
  { c with
    mxa := { c.mxa with
      waiting := dropRefs q (match c.mxa.drainWait, c.mxa.scaling with
        | some w, _ => [w.ref.n]
        | none, some w => [w.ref.n]
        | none, none => []) c.mxa.waiting }
    ve := { c.ve with waiting := dropRefs q [] c.ve.waiting }
    heron := { c.heron with
      h0 := { c.heron.h0 with waiting := dropRefs q [] c.heron.h0.waiting }
      h1 := { c.heron.h1 with waiting := dropRefs q [] c.heron.h1.waiting } } }

/-- R233, R235: the records of a queue up to number `n` that have not been fetched are read, so that each can post its
completion. A record that cannot be read posts free bits. -/
def fetchTo (s : State) (q n : Nat) : State :=
  forUp (n - (s.queue q).fetched) (fun _ t =>
    let x := t.queue q
    let v := vread t x.ctxNo (x.recVa x.fetched) 64
    let d := if v.fault.isSome || v.bad then drawBytes t 64 else (v.data, t)
    d.2.setQueue q { x with
      fetched := x.fetched + 1, recs := x.recs ++ [⟨x.fetched, BitVec.ofNat 512 (ofLE d.1), .fetched, 0⟩] }) s

/-- What the completion of a command that ends with a status of its own reports: a LINK reduce-scatter that it breaks is
unpaired (R251, R310). -/
def ownStatus (r : Rec) (st : Nat) : Cpl := { status := st, unpaired := r.isLinkRs && st != 0 }

/-- R233: some commands of a queue that have not started complete as `cpl` says, and leave their streams. -/
def failRecs (s : State) (q : Nat) (rs : List Rec) (cpl : Rec → Cpl) : State :=
  let ns := rs.filter (fun r => match r.st with | .fetched => true | .waiting => true | _ => false)
  let s := { s with
    cores := s.cores.map (fun c => (c.1, c.2.purge q))
    hubq := { s.hubq with coll := dropRefs q [] s.hubq.coll, upd := dropRefs q [] s.hubq.upd } }
  closeFrame (ns.foldl (fun t r => (postOne t ⟨q, r.n⟩ (cpl r)).1) s) q

/-- R233: the commands of a queue's running frame that have not started, unfetched ones too, complete with a status. -/
def failUnstarted (s : State) (q st : Nat) : State :=
  let s := match (s.queue q).frame with
    | some f => fetchTo s q (f.first + f.len)
    | none => s
  failRecs s q (frameRecs (s.queue q)) (fun r => ownStatus r st)

/-- R233: at a state exit every command of a queue that the doorbell has made available and that has not started completes
with STATE_EXIT. -/
def exitQueue (s : State) (q : Nat) : State :=
  if (s.queue q).st = .disabled then s
  else
    let s := fetchTo s q (s.queue q).avail
    failRecs s q (s.queue q).recs (fun r => ownStatus r 0x80)

/-- R188, R233, R234, R531: a running queue stops with a stop code; its unstarted commands complete with
QUEUE_STOPPED, and the message of STOP_VEC is sent. -/
def stopQueue (s : State) (q code : Nat) : State :=
  let x := s.queue q
  if x.st = .running then
    let s := s.setQueue q { x with st := .stopped, stopCode := code }
    let s := failUnstarted s q 0xA4
    sendMsix s x.func x.stopVec
  else s

/-- R235: a command completes: its completion is posted (a completion that cannot be written stops the queue with
RING_FAULT), and its frame closes when it was the last. -/
def complete (s : State) (c : CmdRef) (v : Cpl) : State :=
  let r := postOne s c v
  let s := if r.2 then stopQueue r.1 c.q 0x26 else r.1
  closeFrame s c.q

/-- A command completes with a status alone. -/
def completeSt (s : State) (c : CmdRef) (st : Nat) : State := complete s c { status := st }

/-! ### Round robin (R191) -/

/-- Among the references of a stream, the first of the queue that follows the last served queue in cyclic order and
has a reference that `ok` accepts as its queue's first. -/
def pickRef (l : List CmdRef) (lastQ : Nat) (ok : CmdRef → Bool) : Option CmdRef :=
  let heads := (upTo 64).filterMap (fun k =>
    l.find? (fun c => c.q == (lastQ + 1 + k) % 64))
  heads.find? ok

end Sys2Proof.Machine
end

