-- ==== Sys2Proof/Machine/Wire.lean ====
section
/-!
DEFINITION. The formats on the wires: CRC-32, the flits, messages and classes of the Kolden link layer
(spec/11_hub_die_links.md R318, R328 to R331, R347), the flits, packet headers, S headers and control messages of
Causeway (spec/12_causeway_fabric.md R365, R369, R370, R380; spec/13_collectives_sharding.md R409, R413). Encoders write
the fields at the bits of the field maps; decoders answer none where the spec has the receiver treat a flit as failing
its CRC or discard a message.
-/
namespace Sys2Proof.Machine

/-! ### Shared parts -/

/-- One byte of the reflected CRC-32 of polynomial 0x04C1_1DB7. -/
def crcByte (c : Nat) (b : Byte) : Nat :=
  forUp 8 (fun _ x => if x % 2 = 1 then Nat.xor (x / 2) 0xEDB88320 else x / 2) (Nat.xor c b.toNat)

/-- CRC-32 with initial and final value 0xFFFF_FFFF (R36). -/
def crc32 (bs : List Byte) : Nat := Nat.xor (bs.foldl crcByte 0xFFFFFFFF) 0xFFFFFFFF

/-- A word whose fields are given as high bit, low bit and value. -/
def fieldWord (fs : List (Nat × Nat × Nat)) : Nat :=
  fs.foldl (fun w f => w + f.2.2 % 2 ^ (f.1 + 1 - f.2.1) * 2 ^ f.2.1) 0

/-- Bit `k` of each entry of a list of Booleans, as a number. -/
def boolBits (l : List Bool) : Nat := ((upTo l.length).zip l).foldl (fun n e => n + b2n e.2 * 2 ^ e.1) 0

/-- A chunk of 16 bytes, and whether it is a header. -/
structure WChunk where
  hdr : Bool
  data : List Byte
  deriving DecidableEq, Repr

/-- A header chunk of a word. -/
def hdrChunk (w : Nat) : WChunk := ⟨true, toLE 16 w⟩
/-- Bytes as data chunks, the last one filled with zeros. -/
def dataChunksOf (bs : List Byte) : List WChunk :=
  (upTo (ceilDiv bs.length 16)).map (fun k => ⟨false, (bs.drop (16 * k) ++ List.replicate 16 0).take 16⟩)
/-- Byte enables, 64 bits per line and two lines per chunk (R330, R369). -/
def beChunks (be : List Bool) : List WChunk :=
  dataChunksOf ((upTo (ceilDiv be.length 8)).map (fun k => BitVec.ofNat 8 (boolBits ((be.drop (8 * k)).take 8))))
/-- A poison-map chunk: bit i for line i (R330, R369). -/
def pmapChunk (pm : List Bool) : WChunk := ⟨false, toLE 16 (boolBits pm)⟩
/-- Chunks in flits of 15. -/
def inFlits (cs : List WChunk) : List (List WChunk) := (upTo (ceilDiv cs.length 15)).map (fun k => (cs.drop (15 * k)).take 15)
/-- The 240 bytes of a flit's chunks; places without a chunk are zero. -/
def chunkBytes (cs : List WChunk) : List Byte := (cs.flatMap (fun (c : WChunk) => c.data) ++ List.replicate 240 0).take 240
/-- A flit of 256 bytes from its chunks and the low 96 bits of its trailer: the CRC of bytes 0 to 251 ends it. -/
def flitBytes (cs : List WChunk) (low : Nat) : List Byte :=
  let b := chunkBytes cs ++ toLE 12 low
  b ++ toLE 4 (crc32 b)
/-- R331, R365: whether a flit of 256 bytes carries the CRC of its bytes 0 to 251. -/
def crcGood (bs : List Byte) : Bool := bs.length == 256 && ofLE (bs.drop 252) == crc32 (bs.take 252)
/-- The low 96 bits of a flit's trailer. -/
def trailerOf (bs : List Byte) : Nat := ofLE ((bs.drop 240).take 12)

/-! ### The Kolden link layer -/

/-- R318: the kinds of traffic that the crossbar tells apart. -/
inductive Traffic where
  | directory | fenceSignal | register | interrupt
  | collScheduled
  | heron | remoteFill | drain | fabricB | update | guestMaster | collOther
  | pcieMem | bittern | scaleWriteBack
  deriving DecidableEq, Repr

/-- R318: the class of a kind of traffic, X0 to X3. -/
def Traffic.cls : Traffic → Nat
  | .directory => 0 | .fenceSignal => 0 | .register => 0 | .interrupt => 0
  | .collScheduled => 1
  | .heron => 2 | .remoteFill => 2 | .drain => 2 | .fabricB => 2 | .update => 2 | .guestMaster => 2 | .collOther => 2
  | .pcieMem => 3 | .bittern => 3 | .scaleWriteBack => 3

/-- R347: the message types that are not reserved. -/
def knownMtype (t : Nat) : Bool := (decide (1 ≤ t) && decide (t ≤ 0xA)) || (decide (0x10 ≤ t) && decide (t ≤ 0x13))

/-- R318, R347: the class of a message between dies: a data response travels in the class of its request's traffic, a
demand of Heron or a fill of a remote cache; every other type in X0. -/
def DieMsg.cls (m : DieMsg) : Nat :=
  if m.mtype = 3 then (if m.req.isSome then Traffic.heron.cls else Traffic.remoteFill.cls) else Traffic.directory.cls

/-- R330: the fields of a message header. -/
structure MsgHeader where
  mtype : Nat
  cls : Nat
  dlen : Nat
  bemap : Bool
  pmap : Bool
  stat : Nat
  tid : Nat
  srcid : Nat
  nlines : Nat
  flag : Bool
  addr : Nat
  deriving DecidableEq, Repr

/-- R330: the header chunk's 128 bits. -/
def MsgHeader.word (h : MsgHeader) : Nat :=
  fieldWord [(127, 120, h.mtype), (119, 118, h.cls), (117, 109, h.dlen), (108, 108, b2n h.bemap), (107, 107, b2n h.pmap),
    (106, 104, h.stat), (103, 88, h.tid), (87, 72, h.srcid), (71, 65, h.nlines), (64, 64, b2n h.flag), (63, 20, h.addr)]

/-- R330, R347: the header that a word holds; none where its MTYPE is reserved. -/
def MsgHeader.ofWord (w : Nat) : Option MsgHeader :=
  if knownMtype (bits w 127 120) then
    some ⟨bits w 127 120, bits w 119 118, bits w 117 109, w.testBit 108, w.testBit 107, bits w 106 104, bits w 103 88,
      bits w 87 72, bits w 71 65, w.testBit 64, bits w 63 20⟩
  else none

/-- The bytes of a message's line that it carries, as byte enables; none where it carries the whole line. -/
def DieMsg.be (m : DieMsg) : List Bool :=
  if m.data.isEmpty || m.data.length == 64 then []
  else (upTo 64).map (fun i => decide (m.ofs ≤ i) && decide (i < m.ofs + m.data.length))

/-- The data of a message at its place in the line. -/
def DieMsg.lineData (m : DieMsg) : List Byte :=
  if m.data.isEmpty then [] else (List.replicate m.ofs 0 ++ m.data ++ List.replicate 64 0).take 64

/-- R330: the header of a message about one line; the requester is a core of a die, or the hub. -/
def DieMsg.header (m : DieMsg) : MsgHeader := {
  mtype := m.mtype, cls := m.cls, dlen := if m.data.isEmpty then 0 else 4
  bemap := !m.be.isEmpty, pmap := m.bad.any id
  stat := if m.mtype = 3 && !m.bad.isEmpty && m.bad.all id then 1 else 0
  tid := match m.req with | some r => r.id % 65536 | none => 0
  srcid := match m.req with | some r => r.p / 64 * 256 + r.p % 256 | none => m.die * 256
  nlines := 1, flag := m.flag, addr := m.line }

/-- R330: a message's chunks in order: header, byte enables, poison map, data. -/
def DieMsg.chunks (m : DieMsg) : List WChunk :=
  hdrChunk m.header.word :: (beChunks m.be ++ (if m.bad.any id then [pmapChunk [true]] else []) ++ dataChunksOf m.lineData)

/-- R328: a flit of a module, with the chunks in use from place 0 on. -/
structure UFlit where
  seq : Nat
  ack : Nat
  nak : Bool
  ftype : Nat
  chunks : List WChunk
  deriving DecidableEq, Repr

/-- R328: the low 96 bits of the trailer. -/
def UFlit.low (f : UFlit) : Nat :=
  fieldWord [(95, 86, f.seq), (85, 76, f.ack), (75, 75, b2n f.nak), (74, 72, f.ftype), (71, 57, 2 ^ f.chunks.length - 1),
    (56, 42, boolBits (f.chunks.map (fun c => c.hdr)))]

/-- R328, R331: the 256 bytes of a flit. -/
def UFlit.bytes (f : UFlit) : List Byte := flitBytes f.chunks f.low

/-- The chunks that a flit's bytes hold at the places of two maps. -/
def chunksAt (bs : List Byte) (valid hdr : Nat) : List WChunk :=
  ((upTo 15).filter (fun c => valid.testBit c)).map (fun c => ⟨hdr.testBit c, (bs.drop (16 * c)).take 16⟩)

/-- R328, R331, R347: the flit that 256 bytes hold; none where the CRC fails, the FTYPE is reserved or a header chunk
names a reserved MTYPE. -/
def UFlit.ofBytes (bs : List Byte) : Option UFlit :=
  let w := trailerOf bs
  let cs := chunksAt bs (bits w 71 57) (bits w 56 42)
  if crcGood bs && decide (bits w 74 72 < 4) && cs.all (fun c => !c.hdr || (MsgHeader.ofWord (ofLE c.data)).isSome) then
    some ⟨bits w 95 86, bits w 85 76, w.testBit 75, bits w 74 72, cs⟩
  else none

/-- R331: the flit that a module sends when it has no data flit: the next SEQ, its acknowledgement and NAK. -/
def Module.idleFlit (x : Module) : UFlit := ⟨x.txSeq, x.rxSeq, x.nak, 0, []⟩

/-- R330, R331: the data flits that carry messages, from a module's next SEQ on. -/
def Module.dataFlits (x : Module) (ms : List DieMsg) : List UFlit :=
  let fs := inFlits (ms.flatMap DieMsg.chunks)
  ((upTo fs.length).zip fs).map (fun e => ⟨(x.txSeq + e.1) % 1024, x.rxSeq, x.nak, 1, e.2⟩)

/-- R329: the unit interval and the data lane of bit `b` of a flit on a module of state `st`: full width, or half width
on its low or its high half. -/
def ucieLane (st b : Nat) : Nat × Nat :=
  match st with
  | 1 => (b / 64, b % 64)
  | 3 => (b / 32, 32 + b % 32)
  | _ => (b / 32, b % 32)

/-- R329: the bit that a module of a state sends in a unit interval on a data lane. -/
def ucieBit (st : Nat) (f : UFlit) (ui lane : Nat) : Option Bool :=
  ((upTo 2048).find? (fun b => ucieLane st b == (ui, lane))).map (fun b => (f.bytes.getD (b / 8) 0).toNat.testBit (b % 8))

/-! ### Causeway -/

/-- R365: the trailer of a Causeway flit but for its CRC, with the flit's chunks. -/
structure CFlit where
  seq : Nat
  ack : Nat
  nak : Bool
  ftype : Nat
  vc : Nat := 0
  floor : Bool := false
  crShared : Nat := 0
  crFloor : List Nat := []
  head : Bool := false
  tail : Bool := false
  group : Nat := 0
  sseq : Nat := 0
  chunks : List WChunk
  deriving DecidableEq, Repr

/-- R365: the low 96 bits of the trailer. -/
def CFlit.low (f : CFlit) : Nat :=
  fieldWord ([(95, 84, f.seq), (83, 72, f.ack), (71, 71, b2n f.nak), (70, 68, f.ftype), (67, 65, f.vc), (64, 64, b2n f.floor),
    (63, 60, f.crShared), (47, 47, b2n f.head), (46, 46, b2n f.tail), (45, 30, f.group), (29, 15, f.sseq)]
    ++ (upTo 6).map (fun v => (49 + 2 * v, 48 + 2 * v, f.crFloor.getD v 0)))

/-- R365: the 256 bytes of a flit. -/
def CFlit.bytes (f : CFlit) : List Byte := flitBytes f.chunks f.low

/-- R365: the flit that 256 bytes hold; none where the CRC fails or the FTYPE, the VC of a B flit or a reserved bit is not
one that the field map allows. -/
def CFlit.ofBytes (bs : List Byte) : Option CFlit :=
  let w := trailerOf bs
  let t := bits w 70 68
  let b := t == 1 || t == 2
  if crcGood bs && decide (t < 5) && !(b && decide (6 ≤ bits w 67 65)) && bits w 14 0 == 0 then
    some { seq := bits w 95 84, ack := bits w 83 72, nak := w.testBit 71, ftype := t, vc := bits w 67 65
           floor := w.testBit 64, crShared := bits w 63 60
           crFloor := (upTo 6).map (fun v => bits w (49 + 2 * v) (48 + 2 * v)), head := w.testBit 47, tail := w.testBit 46
           group := bits w 45 30, sseq := bits w 29 15, chunks := chunksAt bs (2 ^ 15 - 1) 0 }
  else none

/-- R370: the packet header's 128 bits. -/
def packetHeader (p : Packet) : Nat :=
  fieldWord [(127, 122, p.ptype), (121, 104, p.dst), (103, 86, p.src), (85, 76, p.via), (75, 74, p.rphase), (73, 58, p.tid),
    (57, 51, p.nlines), (50, 49, p.stat), (48, 48, b2n !p.pmap.isEmpty), (47, 47, b2n !p.be.isEmpty), (46, 43, p.hops),
    (37, 0, p.laddr)]

/-- R370: a packet with the fields of a header and no other chunks. -/
def packetOf (w : Nat) : Packet :=
  { ptype := bits w 127 122, dst := bits w 121 104, src := bits w 103 86, via := bits w 85 76, rphase := bits w 75 74
    tid := bits w 73 58, nlines := bits w 57 51, stat := bits w 50 49, hops := bits w 46 43, laddr := bits w 37 0 }

/-- R409: the S header of a flit. -/
def sHeader (f : SFlit) : Nat :=
  fieldWord [(127, 110, f.srcM), (109, 92, f.dstM), (91, 76, f.seq), (75, 60, f.epoch), (59, 56, f.op), (55, 32, f.fidx),
    (31, 18, f.pmap), (17, 17, b2n f.last), (16, 16, b2n f.phase2), (0, 0, b2n f.rsv)]

/-- R409: the lead chunk of a contribution's first flit. -/
def sLead (f : SFlit) : Nat := fieldWord [(127, 88, f.bytes), (87, 56, f.version)]

/-- R409: the chunks of an S flit: S header, lead chunk in flit 0, data. -/
def sChunks (f : SFlit) : List WChunk :=
  hdrChunk (sHeader f) :: ((if f.fidx = 0 then [hdrChunk (sLead f)] else []) ++ dataChunksOf f.data)

/-- R365, R409: an S flit from its trailer and its chunks; `rsv` holds where a reserved bit of the S header or the lead
chunk is set. -/
def sFlitOf (c : CFlit) : SFlit :=
  let ch (i : Nat) : List Byte := (c.chunks.getD i ⟨false, []⟩).data
  let w := ofLE (ch 0)
  let l := ofLE (ch 1)
  let first := bits w 55 32 == 0
  { group := c.group, sseq := c.sseq, srcM := bits w 127 110, dstM := bits w 109 92, seq := bits w 91 76
    epoch := bits w 75 60, op := bits w 59 56, fidx := bits w 55 32, pmap := bits w 31 18, last := w.testBit 17
    phase2 := w.testBit 16, rsv := bits w 15 0 != 0 || (first && bits l 55 0 != 0)
    bytes := if first then bits l 127 88 else 0, version := if first then bits l 87 56 else 0
    data := (c.chunks.drop (if first then 2 else 1)).flatMap (fun x => x.data) }

/-- R413: the control chunk of a COLL_CTL packet. -/
def collCtlWord (c : CollCtl) : Nat :=
  fieldWord [(127, 124, c.code), (123, 106, c.sender), (105, 90, c.seq), (89, 74, c.epoch), (73, 50, c.first), (49, 26, c.count)]

/-- R369, R413: the chunks of a packet after its header: byte enables, poison map and data, the token of a fence signal,
the flit of a COLL packet, or the control chunk of a COLL_CTL packet. -/
def packetBody (p : Packet) : List WChunk :=
  beChunks p.be ++ (if p.pmap.isEmpty then [] else [pmapChunk p.pmap]) ++ dataChunksOf p.data
    ++ (if p.ptype = 5 then [⟨false, toLE 16 p.token.toNat⟩] else [])
    ++ (match p.flit with | some f => sChunks f | none => []) ++ (match p.ctl with | some c => [⟨false, toLE 16 (collCtlWord c)⟩] | none => [])

/-- R369: a packet's chunks. -/
def packetChunks (p : Packet) : List WChunk := hdrChunk (packetHeader p) :: packetBody p

/-- R380: a control message's 128 bits. -/
def ctlWord : CtlMsg → Nat
  | .timeReq n t1 => fieldWord [(127, 120, 1), (119, 112, n), (111, 56, t1)]
  | .timeRsp n t2 t3 => fieldWord [(127, 120, 2), (119, 112, n), (111, 56, t2), (55, 0, t3)]
  | .beacon m b h t sel => fieldWord [(127, 120, 3), (119, 102, m), (101, 84, b), (83, 80, h), (79, 16, t), (15, 13, sel)]
  | .candidate d now n => fieldWord [(127, 120, 4), (119, 102, d), (101, 101, b2n now), (100, 69, n)]
  | .hold g h o c => fieldWord [(127, 120, 5), (119, 104, g), (103, 40, h), (39, 22, o), (21, 20, c)]
  | .abort g st o => fieldWord [(127, 120, 6), (119, 104, g), (103, 96, st), (95, 78, o)]
  | .period tc sel => fieldWord [(127, 120, 7), (119, 56, tc), (55, 53, sel)]
  | .portId d k cap => fieldWord [(127, 120, 8), (119, 102, d), (101, 96, k), (95, 80, cap)]

/-- R380: the control message that 128 bits hold; none where the CTYPE is reserved or a reserved bit is set. -/
def ctlOf (w : Nat) : Option CtlMsg :=
  match bits w 127 120 with
  | 1 => if bits w 55 0 = 0 then some (.timeReq (bits w 119 112) (bits w 111 56)) else none
  | 2 => some (.timeRsp (bits w 119 112) (bits w 111 56) (bits w 55 0))
  | 3 => if bits w 12 0 = 0 then
      some (.beacon (bits w 119 102) (bits w 101 84) (bits w 83 80) (bits w 79 16) (bits w 15 13)) else none
  | 4 => if bits w 68 0 = 0 then some (.candidate (bits w 119 102) (w.testBit 101) (bits w 100 69)) else none
  | 5 => if bits w 19 0 = 0 then some (.hold (bits w 119 104) (bits w 103 40) (bits w 39 22) (bits w 21 20)) else none
  | 6 => if bits w 77 0 = 0 then some (.abort (bits w 119 104) (bits w 103 96) (bits w 95 78)) else none
  | 7 => if bits w 52 0 = 0 then some (.period (bits w 119 56) (bits w 55 53)) else none
  | 8 => if bits w 79 0 = 0 then some (.portId (bits w 119 102) (bits w 101 96) (bits w 95 80)) else none
  | _ => none

/-- R360: the codeword number and the 10-bit payload symbol and bit of it that carry bit `b` of the `n`-th flit. -/
def fecPlace (n b : Nat) : Nat × Nat × Nat :=
  let x := 2048 * n + b
  (x / 5140, x % 5140 / 10, x % 10)

/-- R359: whether the `n`-th flit has a bit in codeword `c`. -/
def flitInCodeword (n c : Nat) : Bool := decide (2048 * n < 5140 * (c + 1)) && decide (5140 * c < 2048 * (n + 1))

/-! ### Messages between dies in flight -/

/-- The die of an HBM line or of a core store. -/
def msgTarget (l : Nat) : Nat := if inHbm l then homeDie l else csCore l / 64

/-- R318, R347: the crossbar output by which a message between dies reaches its end, none for one that ends at K. -/
def DieMsg.output (m : DieMsg) : Option Nat :=
  match m.mtype with
  | 1 => if m.toK then none else some (msgTarget m.line)
  | 2 => some (homeDie m.line)
  | 3 => some m.die
  | 4 => some (msgTarget m.line)
  | 5 => some m.die
  | 6 => if m.toK then none else some m.die
  | 8 => some m.die
  | 10 => some m.die
  | _ => none

/-- R330: how many chunks a message about one line has. -/
def DieMsg.size (m : DieMsg) : Nat :=
  1 + b2n (!m.data.isEmpty && m.data.length != 64) + b2n (m.bad.any id) + (if m.data.isEmpty then 0 else 4)

/-- A message between dies is sent: it is granted its bytes at its output in its class (R318, R322). -/
def sendMsg (s : State) (m : DieMsg) : State :=
  let x := s.xbar
  { s with
    msgs := s.msgs ++ [m]
    xbar := match m.output with
      | some d => { x with bytes := ctrAdd x.bytes (0x200 + 32 * d + 8 * m.cls) (16 * m.size) }
      | none => x }

end Sys2Proof.Machine
end

