-- ==== Sys2Proof/Machine/Reset.lean ====
section
/-!
DEFINITION. What core resets, cluster resets and fences do (spec/15_bringup_reset_yield.md R474 to R482;
spec/03_matrix_array.md R113).
-/
namespace Sys2Proof.Machine

/-- A counter of the BRING page advanced by `n` (R486). -/
def bringCtr (s : State) (o n : Nat) : State :=
  { s with bring := { s.bring with ctr := ctrAdd s.bring.ctr o n } }

/-- R326: a module is usable at full or half width. -/
def Module.usable (m : Module) : Bool := m.st == 1 || m.st == 2 || m.st == 3
/-- How many modules of a link satisfy a test. -/
def Link.count (l : Link) (f : Module → Bool) : Nat := (l.mods.filter (fun e => f e.2)).length
/-- R39: the usable bandwidth of a link in GB/s, fixed at its last training: 128 GB/s for each entry of the steering table. -/
def Link.bandwidth (l : Link) : Nat := 128 * l.steering.length
/-- R36: LINK[n] of the AGT. -/
def Link.agtWord (x : Link) : Nat :=
  x.count (fun m => m.st == 1) + x.count (fun m => m.st == 2 || m.st == 3) * 2 ^ 8
    + x.count (fun m => m.st == 4 || m.st == 5) * 2 ^ 16 + x.bandwidth * 2 ^ 32

/-- GUEST.CTRL.BUDGET_W. -/
def Guest.budget (x : Guest) : Nat := bits x.ctrl.toNat 55 48
/-- GUEST.CTRL.WIN_LOG. -/
def Guest.winLog (x : Guest) : Nat := bits x.ctrl.toNat 45 40
/-- R341: the base of a site's window. -/
def guestBase (g : Nat) : Nat := if g = 0 then 0xD0000000000 else 0xE0000000000
/-- R36: GUEST[g] of the AGT. -/
def Guest.agtWord (x : Guest) (g : Nat) : Nat :=
  let st := match x.st with | 2 => 1 | 3 => 2 | 4 => 3 | _ => 0
  if x.st = 2 then st + x.budget * 2 ^ 8 + (if x.winLog = 0 then 0 else guestBase g) * 2 ^ 64 else st

/-- R33, R35, R470: one update of the AGT's dynamic section, LINK and GUEST with it. Before ready nothing is written, and
GENERATION stays. -/
def agtUpdate (s : State) (f : Agt → Agt) : State :=
  let a := f s.agt
  { s with agt := { a with
      generation := if a.valid then a.generation + 2 else a.generation
      links := (upTo 6).map (fun l => (tabGet s.links {} l).agtWord)
      guests := (upTo 2).map (fun g => (tabGet s.guests {} g).agtWord g) } }

/-- Whether core `p` is enabled. -/
def coreOn (s : State) (p : Nat) : Bool := s.agt.enabled.getLsbD p

/-- The commands that execute on a core (R475): they have begun and not completed. -/
def executing (c : Core) : List CmdRef :=
  c.mxa.issued.map (fun o => o.ref)
    ++ (match c.mxa.drainWait with | some w => [w.ref] | none => [])
    ++ (match c.mxa.scaling with | some w => [w.ref] | none => [])
    ++ (match c.ve.cmd with | some r => [r] | none => [])
    ++ (match c.heron.h0.run with | some r => [r.ref] | none => [])
    ++ (match c.heron.h1.run with | some r => [r.ref] | none => [])

/-- The commands that wait in the streams of a core. -/
def waitingOn (c : Core) : List CmdRef :=
  c.mxa.waiting ++ c.ve.waiting ++ c.heron.h0.waiting ++ c.heron.h1.waiting

/-- R172: every line in a core's staging buffer is discarded; unused ones count EVICT_UNUSED. -/
def unstageAll (s : State) (p : Nat) : State :=
  (s.core p).heron.stage.foldl (fun t x => unstage t p x.addr) s

/-- R172, R475: prefetch fills that are still on their way to a core are absorbed; those that no demand has met count
EVICT_UNUSED. A demand of another core that had merged with one asks for its line again. -/
def dropFlight (s : State) (p : Nat) : State :=
  let h := (s.core p).heron
  let s := s.setCore p { s.core p with heron := { h with flight := [] } }
  h.flight.foldl (fun t f =>
    if f.waiters.isEmpty then queueCtr (coreCtr t p 0x1B8 1) f.ref.q 0x178 1
    else
      let ws := f.waiters.filter (fun w => w.p != p)
      ws.foldl (fun u w => sendMsg u { mtype := 1, line := f.addr, die := w.p / 64, toK := true, req := some w }) t) s

/-- R113: a Held or Tied Peat entry becomes Lost; a lost split-K entry matches no tie tag. -/
def Peat.lose (e : Peat) : Peat :=
  match e.st with
  | .held => { st := .lost, owner := e.owner, tag := 65536 }
  | .tied => { st := .lost, owner := e.owner, tag := e.tag }
  | _ => e

/-- A Heron engine after a reset: what waits stays. -/
def HEng.afterReset (e : HEng) : HEng := { waiting := e.waiting, lastQ := e.lastQ, nextId := e.nextId }

/-- R474: what a core reset leaves of a core: waiting commands, Peat entries as Lost, RAS state. -/
def Core.afterReset (c : Core) : Core :=
  let gone := (executing c)
  { mxa := {
      waiting := c.mxa.waiting.filter (fun r => !gone.contains r)
      lastQ := c.mxa.lastQ
      peat := c.mxa.peat.map (fun e => (e.1, e.2.lose)) }
    ve := { waiting := c.ve.waiting, lastQ := c.ve.lastQ }
    heron := { h0 := c.heron.h0.afterReset, h1 := c.heron.h1.afterReset }
    ras := { c.ras with resets := min (c.ras.resets + 1) 255, inReset := true } }

/-- The core-store cells of a core become zero and clean (R477 step 5). -/
def clearStore (s : State) (p : Nat) : State :=
  let b := csBase p
  let out (a : Nat) : Bool := decide (a < b) || decide (b + 0x800000 ≤ a)
  { s with
    mem := s.mem.filter (fun c => out c.1)
    poison := s.poison.filter out
    latent := s.latent.filter out }

/-- A core halts and its volatile state is reset; its executing commands complete with a status (R474, R475). -/
def haltCore (s : State) (p st : Nat) : State :=
  let refs := executing (s.core p)
  let s := dropFlight (unstageAll s p) p
  let s := s.setCore p (s.core p).afterReset
  refs.foldl (fun t r => completeSt t r st) s

/-- R476: a core reset. A reset that covers the core already absorbs it (R485). -/
def resetCore (s : State) (p st : Nat) : State :=
  if !coreOn s p || (s.core p).ras.inReset then s
  else
    let s := bringCtr (haltCore s p st) 0x120 1
    { s with bring := { s.bring with coreResets := s.bring.coreResets ++ [p] } }

/-- The cores of a cluster. -/
def clusterCores (c : Nat) : List Nat := (upTo 8).map (fun i => 8 * c + i)

/-- R477: the cores of a cluster are halted and their stores cleared; a Lost Peat entry holds no tile. -/
def haltCluster (s : State) (c st : Nat) : State :=
  (clusterCores c).foldl (fun t p =>
    if !coreOn t p then t
    else
      let t := if s.bring.clusterResets.contains c then t else haltCore t p st
      clearStore t p) s

/-- R477, R485: a cluster reset, merged into one that covers the cluster already. -/
def resetCluster (s : State) (c st : Nat) : State :=
  if s.bring.clusterResets.contains c || !(clusterCores c).any (coreOn s) then s
  else
    let s := bringCtr (haltCluster s c st) 0x128 1
    { s with bring := { s.bring with
        clusterResets := s.bring.clusterResets ++ [c]
        coreResets := s.bring.coreResets.filter (fun p => p / 8 != c) } }

/-- R480: a core is fenced: the AGT is updated, then its executing commands complete with `st` and its waiting ones
with CORE_FENCED, and the fence is logged. -/
def fenceCore (s : State) (p cause st : Nat) : State :=
  if !coreOn s p then s
  else
    let b := BitVec.ofNat 256 (2 ^ p)
    let s := agtUpdate s (fun a => { a with enabled := a.enabled &&& ~~~b, lateFenced := a.lateFenced ||| b })
    let c := s.core p
    let refs := executing c
    let waits := (waitingOn c).filter (fun r => !refs.contains r)
    let s := dropFlight (unstageAll s p) p
    let s := clearStore (s.setCore p {
      ras := { c.ras with fenceCause := cause, inReset := false }
      ctr := (s.core p).ctr }) p
    let s := { s with bring := { s.bring with coreResets := s.bring.coreResets.filter (fun x => x != p) } }
    let s := refs.foldl (fun t r => completeSt t r st) s
    let s := waits.foldl (fun t r => completeSt t r 0xA0) s
    let s := raiseIrq s 1
    logAdd s { code := 0x30, inst := p, src := 1, sev := 3, args := [cause] }

/-- 24 h in ns. -/
def dayNs : Nat := 86400000000000

/-- R113, R482: a PARITY halt: recorded, logged, and answered by a core reset, or by a fence at the third event of a
24 h window. Errors inside the same halt count as one event. -/
def parityHalt (s : State) (p unit : Nat) : State :=
  if s.pst ≠ .active || !coreOn s p || (s.core p).ras.inReset || s.bring.clusterResets.contains (p / 8) then s
  else
    let c := s.core p
    let seen := c.ras.parity.filter (fun t => decide (s.uptime < t + dayNs)) ++ [s.uptime]
    let s := s.setCore p { c with ras := { c.ras with parity := seen, lastParityTick := BitVec.ofNat 32 s.tick.last } }
    let s := bringCtr s 0x138 1
    let s := logAdd s { code := 0x31, inst := p, src := 1, sev := 2, args := [unit] }
    if 3 ≤ seen.length then fenceCore s p 4 0xA2 else resetCore s p 0xA2

/-- R479: whether a core has shown uncorrectable errors at three distinct words within 24 h. -/
def sramBad (s : State) (p : Nat) : Bool :=
  let l := (s.core p).ras.uncorr.filter (fun x => decide (s.uptime < x.1 + dayNs))
  decide (3 ≤ (l.foldl (fun d x => setIns d x.2) ([] : List Nat)).length)

/-- R479: every enabled core whose SRAM detector has fired is fenced. -/
def sramSweep (s : State) : State :=
  s.cores.foldl (fun t c => if sramBad t c.1 then fenceCore t c.1 5 0xA0 else t) s

end Sys2Proof.Machine
end

