-- ==== Sys2Proof/Machine/CeTable.lean ====
section
/-!
DEFINITION. The member tables of the collective engine (spec/13_collectives_sharding.md R396 to R398).
-/
namespace Sys2Proof.Machine

/-- Whether a list names one number twice. -/
def hasDup : List Nat → Bool
  | [] => false
  | x :: t => t.contains x || hasDup t

/-- CE.MTAB of a slot. -/
def mtab (s : State) (i : Nat) : Nat := (tabGet s.ce.reg 0 (0x100 + 16 * i)).toNat
/-- N of a slot's member table. -/
def tableN (s : State) (i : Nat) : Nat := bits (mtab s i) 63 45
/-- SELF of a slot. -/
def tableSelf (s : State) (i : Nat) : Nat := bits (tabGet s.ce.reg 0 (0x108 + 16 * i)).toNat 17 0

/-- R397: the engine reads the member table of a slot, computes MCRC and settles VALID. -/
def tableLoad (s : State) (i : Nat) : State :=
  let n := tableN s i
  let a := bits (mtab s i) 43 6 * 64
  let s := detect s a (4 * n)
  let ok := (linesOf a (4 * n)).all (fun l => hbmOk s l && !lateDie s l) && !rangeBad s a (4 * n)
  let bs := if ok then readBytes s a (4 * n) else []
  let ms := (upTo (bs.length / 4)).map (fun k => ofLE ((bs.drop (4 * k)).take 4))
  let self := tableSelf s i
  let good := ok && decide (self < n) && ms.getD self 0 == devId s && !hasDup ms && ms.all (fun d => decide (d < 262144))
  let s := { s with ce := { s.ce with
      mcrc := tabSet s.ce.mcrc i (if ok then BitVec.ofNat 32 (crc32 bs) else 0)
      members := tabSet s.ce.members i (if good then ms else [])
      valid := if good then setIns s.ce.valid i else setDel s.ce.valid i } }
  if good then s else pageErr s 0xA 0 (0x108 + 16 * i)

/-- R397: writes of member-table registers take effect, and the tables they name are read. -/
def tablesApply (s : State) : State :=
  let slots := s.ce.pend.foldl (fun l e => setIns l ((e.1 - 0x100) / 16)) ([] : List Nat)
  let s := { s with ce := { s.ce with
      reg := s.ce.pend.foldl (fun t e => tabSet t e.1 e.2) s.ce.reg, pend := [] } }
  slots.foldl tableLoad s

end Sys2Proof.Machine
end

