-- ==== Sys2Proof/Machine/Groups.lean ====
section
/-!
DEFINITION. Collective groups: member queues, hold requests and group aborts (spec/06_command_model.md R205 to R210;
spec/10_sign_update.md R310; spec/13_collectives_sharding.md R419).
-/
namespace Sys2Proof.Machine

/-- The enabled queue of this package that is its member of a group (R529). -/
def memberQ (s : State) (gid : Nat) : Option Nat :=
  (s.queues.find? (fun e => e.2.groupEn && e.2.group == gid && e.2.st != .disabled)).map (fun e => e.1)

/-- The tick number step of a period select (R197). -/
def tickStep (sel : Nat) : Nat := 2 ^ sel
/-- The period in ns (R197). -/
def periodNs (sel : Nat) : Nat := 4096 * 2 ^ sel

/-- The number of the tick after the last one. -/
def nextTick (s : State) : Nat := s.tick.last + tickStep s.tick.sel

/-- Whether tick `tk` is a hold tick of a group at this package (R207); a package idle tick is one for the groups of which
the package is a member (R208). -/
def groupHeld (s : State) (gid tk : Nat) : Bool :=
  (s.pwr.idleNow && (memberQ s gid).isSome) || (s.group gid).holds.contains tk

/-- R207: a tick is marked a hold tick of a group. -/
def markHold (s : State) (gid h : Nat) : State :=
  let g := s.group gid
  s.setGroup gid { g with holds := setIns g.holds h }

/-- R206 to R208: this package sends a hold request for a group and marks the tick itself. -/
def requestHold (s : State) (gid h cause : Nat) : State :=
  let s := markHold s gid h
  let f := firstSeen s (5, gid, h)
  if f.1 then forwardGroup f.2 none gid (.hold gid h (devId s) cause) else s

/-- A run of free bytes is what an undefined result buffer holds (R210). -/
def freeResult (s : State) (q va n : Nat) : State :=
  if n = 0 then s
  else
    let d := drawBytes s n
    vwrite d.2 (d.2.queue q).ctxNo va d.1 false

/-- A collective in flight is taken out of the engine and completes with an abort's status; its result is
undefined. -/
def abortColl (s : State) (c : Coll) (st : Nat) : State :=
  let s := { s with
    ce := { s.ce with colls := s.ce.colls.filter (fun x => x.ref != c.ref) }
    upd := { s.upd with hand := s.upd.hand.filter (fun h => !(h.q == c.ref.q && h.n == c.ref.n)) } }
  completeSt (freeResult s c.ref.q c.dst c.dstLen) c.ref st

/-- R210: what a late frame of a queue has not finished completes with OVERRUN. -/
def failLate (s : State) (q : Nat) : State :=
  match (s.queue q).frame with
  | none => s
  | some f =>
    if !f.late then s
    else
      let s := fetchTo s q (f.first + f.len)
      let s := failRecs s q (frameRecs (s.queue q)) (fun _ => { status := 0x64 })
      ((frameRecs (s.queue q)).filter (fun r => !r.isDone)).foldl (fun t r => completeSt t ⟨q, r.n⟩ 0x64) s

/-- R210, R310: what a group abort does at this package: collectives and updates of the member queue that are in
flight complete with the status, and the queue stops; the abort of R210's 64 hold ticks ends its late frame. -/
def abortLocal (s : State) (gid st : Nat) : State :=
  match memberQ s gid with
  | none => s
  | some q =>
    let s := { s with ce := { s.ce with early := s.ce.early.filter (fun f => f.group != gid) } }
    let s := (s.ce.colls.filter (fun c => c.ref.q == q)).foldl (fun t c => abortColl t c st) s
    let waits := (s.hubq.coll ++ s.hubq.upd).filter (fun r => r.q == q)
    let s := { s with hubq := {
      coll := s.hubq.coll.filter (fun r => r.q != q), upd := s.hubq.upd.filter (fun r => r.q != q) } }
    let s := waits.foldl (fun t r => completeSt t r st) s
    let s := match s.upd.run with
      | some u =>
        if u.ref.q = q ∧ u.rs.isSome then completeSt { s with upd := { s.upd with run := none } } u.ref st else s
      | none => s
    let s := { s with upd := { s.upd with hand := s.upd.hand.filter (fun h => h.q != q) } }
    stopQueue (if st = 0x64 then failLate s q else s) q st

/-- R210, R419: an abort that this package originates leaves it. -/
def announceAbort (s : State) (gid st : Nat) : State :=
  let f := firstAbort s gid (devId s)
  if f.1 then forwardGroup f.2 none gid (.abort gid st (devId s)) else s

/-- R210: this package sends a group abort and applies it. -/
def sendAbort (s : State) (gid st : Nat) : State := abortLocal (announceAbort s gid st) gid st

/-- A queue's group, where it has one, is aborted. -/
def abortOf (s : State) (q st : Nat) : State :=
  let x := s.queue q
  if x.groupEn then sendAbort s x.group st else s

end Sys2Proof.Machine
end

