-- ==== Sys2Proof/Machine/Elect.lean ====
section
/-!
DEFINITION. The tick master, its backup and the parent (spec/06_command_model.md R200 to R203; spec/12_causeway_fabric.md
R381).
-/
namespace Sys2Proof.Machine

/-- R200: whether this package is a candidate. -/
def selfCand (s : State) : Bool := s.pst == .active && s.tick.refclkB && s.tick.eligible

/-- The candidates of the domain that this package knows, itself among them where it is one. -/
def candidates (s : State) : List Nat :=
  if selfCand s then setIns s.tick.cands (devId s) else setDel s.tick.cands (devId s)

/-- R200: the candidate that an election makes the master: the lowest of group 0, else the lowest. -/
def bestOf (l : List Nat) : Option Nat :=
  match l.find? (fun d => d / 256 == 0) with
  | some d => some d
  | none => l.head?

/-- Whether this package is the tick master. -/
def isMaster (s : State) : Bool := s.tick.master == some (devId s)

/-- R203: a package that becomes master has no parent and is locked. -/
def becomeMaster (s : State) : State :=
  { s with tick := { s.tick with
      master := some (devId s), parent := none, offset := 0, slew := 0, stepBy := 0, sync := none, lock := 0
      missed := 0, quiet := 0 } }

/-- R200: this package forms a domain of one. -/
def domainOfOne (s : State) : State :=
  let s := becomeMaster s
  { s with tick := { s.tick with backup := none, cands := [], neighbours := [], lone := true } }

/-- R200, R201: the master stays while there is one; the backup is the next candidate under the election's rule. -/
def reelect (s : State) : State :=
  if s.pst ≠ .active then s
  else if (upPorts s).isEmpty then domainOfOne s
  else
    let cs := candidates s
    let m := match s.tick.master with | some m => some m | none => bestOf cs
    let b := bestOf (match m with | some m => setDel cs m | none => cs)
    let was := isMaster s
    let s := { s with tick := { s.tick with master := m, backup := b } }
    if isMaster s && !was then becomeMaster s else s

/-- R201: mastership passes to the backup, or to an election where there is none. -/
def passMaster (s : State) : State := reelect { s with tick := { s.tick with master := s.tick.backup, quiet := 0 } }

/-- R200: domain time goes on without some devices, which are no candidates any more; with no master left, an election takes
place. -/
def withoutMaster (s : State) (gone : List Nat) : State :=
  reelect { s with tick := { s.tick with
    cands := s.tick.cands.filter (fun d => !gone.contains d), master := none, backup := none, quiet := 0, lone := false } }

/-- R200, R201: the master has been silent for four periods or more. Its backup takes over; without a backup an election
takes place. DESIGN CHOICE (notes/assumptions/12.md): a package that has met eight silent periods takes the backup to be
lost too, which the spec gives no time for. -/
def masterLost (s : State) : State :=
  match s.tick.master with
  | none => s
  | some m =>
    if s.pst ≠ .active ∨ isMaster s ∨ s.tick.quiet < 4 then s
    else
      match s.tick.backup with
      | none => withoutMaster s [m]
      | some b =>
        if b = devId s then
          reelect (becomeMaster { s with tick := { s.tick with cands := setDel s.tick.cands m, lone := false } })
        else if 8 ≤ s.tick.quiet then withoutMaster s [m, b]
        else s

/-- This package announces whether it is a candidate now (R200, R380). -/
def announce (s : State) : State :=
  let n := (s.tick.candSeq + 1) % 2 ^ 32
  let s := { s with tick := { s.tick with candSeq := n } }
  let f := firstSeen s (4, devId s, n)
  flood f.2 none (.candidate (devId s) (selfCand s) n)

/-- R381: the parent is the neighbour with the fewest hops, the lowest device identifier on a tie. -/
def chooseParent (s : State) : State :=
  if isMaster s then s
  else
    let ps := s.tick.neighbours.filter (fun e => portUp s e.1)
    let p := ps.foldl (fun (b : Option Parent) e =>
      let d := (s.port e.1).nbrDev
      match b with
      | none => some ⟨e.1, d, e.2⟩
      | some x => if e.2 < x.hops ∨ (e.2 = x.hops ∧ d < x.dev) then some ⟨e.1, d, e.2⟩ else some x) none
    { s with tick := { s.tick with parent := p } }

/-- What a change of a port's state does to the domain: a port that came up carries the announcement of a candidate, a
port that left Up leads to no parent. -/
def portDomain (s : State) (k : Nat) : State :=
  if s.pst ≠ .active then s
  else if portUp s k then reelect (if selfCand s then announce s else s)
  else reelect (chooseParent { s with tick := { s.tick with neighbours := tabErase s.tick.neighbours k } })

end Sys2Proof.Machine
end

