-- ==== Sys2Proof/Machine/PortOps.lean ====
section
/-!
DEFINITION. What changes a Causeway port's state, and the fabric target's checks (spec/12_causeway_fabric.md R361 to
R364, R383 to R397).
-/
namespace Sys2Proof.Machine

/-- PORT.STAT.STATE (R393). -/
def portCode : PortSt → Nat
  | .disabled => 0 | .training => 1 | .up => 2 | .down => 3

/-- The register page of port `k`. -/
def portPage (k : Nat) : Nat := 0x200 + k

/-- R1: whether the part number enables port `k`. -/
def portPresent (s : State) (k : Nat) : Bool := decide (k < partPorts s.partNo)

/-- R364: a change of state updates the AGT, is logged, and raises the LINK cause. -/
def portChanged (s : State) (k : Nat) : State :=
  let x := s.port k
  let s := agtUpdate s (fun a => a)
  let s := logAdd s { code := 0x50, inst := k, src := 5, sev := if x.st = .down then 1 else 0,
                      args := [portCode x.st, x.cause] }
  raiseIrq s 2

/-- R394: what a port loses when it leaves Up. -/
def Port.drop (x : Port) : Port :=
  { x with cq := [], bq := [], replay := [], usable := false, nak := false, discarding := false, part := [], replays := 0 }

/-- R394: the B flits that were queued for a port are discarded: those received by this package leave their buffers, and so
do the flits of packets that the port has not received whole. -/
def dropQueued (s : State) (k : Nat) : State :=
  let x := s.port k
  let s := x.bq.foldl (fun t e =>
    match e.1.back with
    | some b => creditBack t b.1 b.2.1 (packetFlits e.1 - e.2) b.2.2
    | none => t) s
  let n := x.part.foldl (fun a e => a + e.2) 0
  { s with fab := { s.fab with pools := tabSet s.fab.pools k (tabGet s.fab.pools 0 k - n) } }

/-- R358, R563: Bittern enables or disables a port's feed over its laser management bus; an isolated bus carries nothing. -/
def feedSet (s : State) (k : Nat) (on : Bool) : State :=
  let x := s.port k
  if x.laser = on ∨ s.bit.lsmIsolated.getLsbD (k / 32) then s
  else
    let s := s.setPort k { x with laser := on }
    { s with sent := s.sent ++ [.feed (k / 32) k on] }

/-- A port takes a state with a cause; a feed that failed is disabled (R572). -/
def portSet (s : State) (k : Nat) (st : PortSt) (cause : Nat) : State :=
  let was := (s.port k).st
  let s := dropQueued s k
  let s := portChanged (s.setPort k { (s.port k).drop with st := st, cause := cause }) k
  let s := if st = .down ∧ cause = 3 then feedSet s k false else s
  if was = .up ∨ st = .up then portDomain s k else s

/-- Whether ports may train and come Up: in Active, and in a power-on sequence; in Dormant the lasers are off (R451). -/
def portsRun (s : State) : Bool := (s.pst == .active && !s.pwr.entering) || s.bring.run

/-- R358, R361, R391, R395: training starts: the feed is enabled; counters but BER_LAST, and MARGINAL, are cleared. -/
def portTrain (s : State) (k : Nat) : State :=
  let s := feedSet s k true
  let x := s.port k
  let s := s.setPort k { x with
    marginal := false, marginLogged := false, firstWin := false
    ctr := tabSet [] 0x110 (ctrGet x.ctr 0x110) }
  portSet s k .training 0

/-- R361: PORT.CTRL.EN becomes 1; where ports may not train, the port is Down until they may (R451). -/
def portEnable (s : State) (k : Nat) : State :=
  if !portPresent s k then writeIgnored s (portPage k) 0x108
  else
    let was := (s.port k).en
    let s := s.setPort k { s.port k with en := true }
    if was && (s.port k).st != .disabled then s
    else if portsRun s then portTrain s k else portSet s k .down 8

/-- R393: PORT.CTRL.EN becomes 0: the port is Disabled at once. -/
def portDisable (s : State) (k : Nat) : State :=
  if !portPresent s k then writeIgnored s (portPage k) 0x108
  else
    let s := s.setPort k { s.port k with en := false }
    if (s.port k).st = .disabled then s else portSet s k .disabled 8

/-- R376: SCHED_COMMIT. -/
def portCommit (s : State) (k : Nat) : State :=
  if portPresent s k then s.setPort k { s.port k with commit := true } else writeIgnored s (portPage k) 0x108

/-- R393: a write of PORT.CTRL. -/
def portCtrlWrite (s : State) (k v : Nat) : State :=
  if !portPresent s k then writeIgnored s (portPage k) 0x108
  else
    let s := s.setPort k { s.port k with retrain := v.testBit 1 }
    let s := if v.testBit 0 then portEnable s k else portDisable s k
    if v.testBit 2 then portCommit s k else s

/-! ### The reference topology (R389) -/

/-- The far end of global slot G of a group, as its group, slot offset and round; none where it is not connected. -/
def globalFar (ng pg g slot : Nat) : Option (Nat × Nat) :=
  if ng ≤ 1 then none
  else
    let n := 256 * pg / (ng - 1)
    let e := 256 * pg - n * (ng - 1)
    let e2 := e / 2 * 2
    let dr : Option (Nat × Nat) :=
      if slot < n * (ng - 1) then some (1 + slot % (ng - 1), slot / (ng - 1))
      else
        let i := slot - n * (ng - 1)
        if i < e2 then some (if i < e2 / 2 then 1 + i else ng - e2 + i, n) else none
    match dr with
    | none => none
    | some (d, r) =>
      let far := ng - d
      let slotOf : Nat :=
        if r < n then r * (ng - 1) + (far - 1)
        else n * (ng - 1) + (if far ≤ e2 / 2 then far - 1 else far + e2 - ng)
      some ((g + d) % ng, slotOf)

/-- R389: the neighbour's device identifier and port that the cabling rule gives for port `k`. -/
def expectNbr (s : State) (k : Nat) : Option (Nat × Nat) :=
  let dev := devId s
  let g := devGroup dev
  let pos := devPos dev
  let x := pos % 16
  let y := pos / 16
  if k < 15 then some (256 * g + 16 * y + (x + 1 + k) % 16, 14 - k)
  else if k < 30 then some (256 * g + 16 * ((y + 1 + (k - 15)) % 16) + x, 44 - k)
  else if globalPort s k then
    let pg := fabPG s
    match globalFar (fabNG s) pg g (pg * pos + (k - 30)) with
    | some (h, slot) => some (256 * h + slot / pg, 30 + slot % pg)
    | none => none
  else none

/-- R361, R380: the PORT_ID and the 16 TIME_REQs that a port sends in training step 4; the times are free. -/
def trainingFlits (s : State) (k : Nat) : State :=
  let ms : List CtlMsg := .portId (devId s) k (s.agt.cap % 2 ^ 16)
    :: (upTo 16).map (fun i => .timeReq i ((Config.freeWord (s.freeN + i)).toNat % 2 ^ 56))
  portCtr { s with sent := s.sent ++ ms.map (Out.ctl k), freeN := s.freeN + 16 } k 0x158 17

/-- R362, R363, R372: training ends with the neighbour's identity and the measured round trip, in units of
1/256 ns. -/
def portUpWith (s : State) (k nd np rt pipe : Nat) : State :=
  if (s.port k).st ≠ .training ∨ !portsRun s then s
  else
    let s := trainingFlits s k
    let s := s.setPort k { s.port k with nbrDev := nd, nbrPort := np }
    if nd = devId s then portSet s k .down 4
    else if s.fab.cfg.getLsbD 28 && expectNbr s k != some (nd, np) then portSet s k .down 5
    else
      let s := s.setPort k { s.port k with
        lengthM := ((rt - pipe) + 1280) / 2560
        floor := (upTo 6).map (fun v => (v, 32)), shared := 2208, txSeq := 0, rxSeq := 4095, firstWin := true }
      portSet s k .up 0

/-- R391, R469: a 1 s window closes; the first after coming Up is the ready window of a power-on sequence. -/
def portWindow (s : State) (k : Nat) (w : PortWindow) : State :=
  let x := s.port k
  if x.st ≠ .up then s
  else
    let c := tabSet x.ctr 0x110 (BitVec.ofNat 64 w.bits)
    let c := ctrAdd (ctrAdd c 0x118 w.codewords) 0x120 w.uncorr
    let c := forUp 4 (fun l t => ctrAdd t (0x128 + 8 * l) (w.syms.getD l 0)) c
    let high := decide (17000000 < w.bits)
    let s := s.setPort k { x with
      ctr := c, firstWin := false, marginal := x.marginal || high, marginLogged := x.marginLogged || high }
    let s := if high && !x.marginLogged then logAdd s { code := 0x51, inst := k, src := 5, sev := 1, args := [w.bits] } else s
    let s := if s.bring.run && x.firstWin && decide (w.bits < 17000000) then
      { s with bring := { s.bring with ports := setDel s.bring.ports k } } else s
    if 85000000 < w.bits || (s.bring.run && x.firstWin && decide (17000000 ≤ w.bits)) then portSet s k .down 7 else s

/-! ### Registers of the switch -/

/-- R383, R392: a write of FAB.CFG. -/
def fabCfgWrite (s : State) (v : Nat) : State :=
  let idle := (upTo 64).all (fun k => (s.port k).st == .disabled || (s.port k).st == .down)
  let ng := bits v 45 35
  let ok := idle && decide (1 ≤ ng) && decide (ng ≤ 1024) && [0, 2, 18, 34].contains (bits v 34 29) && bits v 11 4 != 0
  if !ok then writeIgnored s 0xB 0x100
  else
    let s := if bits v 3 1 = 0 then s else badAccess s 0xB 0x100
    let d := devId s
    let s := { s with fab := { s.fab with cfg := BitVec.ofNat 64 (putBits v 3 1 0) } }
    if devId s = d then s else agtUpdate s (fun a => a)

/-- The group of an FGRP slot. -/
def slotGroup (x : FSlot) : Nat := bits x.slot.toNat 61 46

/-- R397: whether a Running queue has the group of slot `i`. -/
def slotBusy (s : State) (i : Nat) : Bool :=
  let f := tabGet s.fab.slots {} i
  s.queues.any (fun e => e.2.st == .running && e.2.groupEn && e.2.group == slotGroup f)

/-- R397, R428: a write of CE.MTAB (`self` false) or CE.MSELF of slot `i` waits for the next tick. -/
def memberWrite (s : State) (i : Nat) (self : Bool) (v : Nat) : State :=
  let o := 0x100 + 16 * i + (if self then 8 else 0)
  if slotBusy s i || (!self && decide (262144 < bits v 63 45)) then writeIgnored s 0xA o
  else
    let rsv := if self then bits v 31 19 != 0 else v.testBit 44 || bits v 5 0 != 0
    let s := if rsv then badAccess s 0xA o else s
    let v := if self then bits v 17 0 else putBits (putBits v 44 44 0) 5 0 0
    { s with ce := { s.ce with pend := tabSet s.ce.pend o (BitVec.ofNat 64 v) } }

/-! ### The fabric target (R384, R385) -/

/-- Whether window `w` admits an access to `n` bytes at `a` from `src`. -/
def windowAdmits (s : State) (w src a n : Nat) (wr : Bool) : Bool :=
  let base := (tabGet s.fab.cwin 0 (0x100 + 16 * w)).toNat
  let span := (tabGet s.fab.cwin 0 (0x108 + 16 * w)).toNat
  let sr := (tabGet s.fab.cwin 0 (0x500 + 8 * w)).toNat
  base.testBit 63 && base.testBit (if wr then 61 else 62)
    && decide (bits base 43 16 * 65536 ≤ a) && decide (a + n ≤ bits span 43 16 * 65536)
    && decide (bits sr 17 0 ≤ src) && decide (src ≤ bits sr 49 32)

/-- R148, R384: the STAT a fabric access is answered with at its target: 3 outside the windows, HBM and the core stores, 1 in
a range that is not enabled or of a fenced die. -/
def targetStat (s : State) (src a n : Nat) (wr : Bool) : Nat :=
  let mem (x : Nat) : Bool := inHbm x || (inCs x && decide (csOfs x < csSize))
  if !((upTo 64).any (fun w => windowAdmits s w src a n wr)) || !(mem a && mem (a + n - 1)) then 3
  else if (linesOf a n).any (fun l => (paStatus s l).isSome || lateDie s l) then 1 else 0

/-- The lines of a fabric access as read at the target, with the poison of each; detection happens. -/
def targetRead (s : State) (a n : Nat) : State × List Byte × List Bool :=
  let s := detect s a n
  (s, readBytes s a n, (linesOf a n).map (fun l => rangeBad s l 64))

/-- Runs of enabled bytes: the offsets a write of bytes with enables covers, as maximal runs. -/
def enabledRuns (be : List Bool) (bs : List Byte) (a : Nat) : List (Nat × List Byte) :=
  joinRuns (((upTo bs.length).filter (fun i => be.getD i true)).map (fun i => (a + i, [bs.getD i 0])))

/-- R177, R384: a fabric write at its target, line by line; a line whose poison bit is set is written poisoned. -/
def targetWrite (s : State) (a : Nat) (bs : List Byte) (be pm : List Bool) : State :=
  (linesOf a bs.length).foldl (fun t l =>
    let o := l - a
    (enabledRuns ((be.drop o).take 64) ((bs.drop o).take 64) l).foldl
      (fun u w => writeMem u w.1 w.2 (pm.getD (o / 64) false)) t) s

end Sys2Proof.Machine
end

