-- ==== Sys2Proof/Machine/LinkOps.lean ====
section
/-!
DEFINITION. Die-to-die links, fencing a die, and guest sites (spec/11_hub_die_links.md R323 to R344, R352;
spec/15_bringup_reset_yield.md R484).
-/
namespace Sys2Proof.Machine

/-- Link `l`: 0 to 3 are L0 to L3, 4 and 5 are G0 and G1 (R353). -/
def State.link (s : State) (l : Nat) : Link := tabGet s.links {} l
/-- The state with link `l` replaced. -/
def State.setLink (s : State) (l : Nat) (x : Link) : State := { s with links := tabSet s.links l x }
/-- Module `m` of link `l`. -/
def State.module (s : State) (l m : Nat) : Module := tabGet (s.link l).mods {} m
/-- The state with module `m` of link `l` replaced. -/
def State.setModule (s : State) (l m : Nat) (x : Module) : State :=
  s.setLink l { s.link l with mods := tabSet (s.link l).mods m x }
/-- Guest site `g`. -/
def State.guest (s : State) (g : Nat) : Guest := tabGet s.guests {} g
/-- The state with guest site `g` replaced. -/
def State.setGuest (s : State) (g : Nat) (x : Guest) : State := { s with guests := tabSet s.guests g x }

/-- The register page of link `l`. -/
def linkPage (l : Nat) : Nat := 0x10 + l
/-- The register page of guest site `g`. -/
def guestPage (g : Nat) : Nat := 0x18 + g
/-- Modules of a link: 16 for a Liram die, 4 for a guest site (R316). -/
def linkMods (l : Nat) : Nat := if l < 4 then 16 else 4

/-- R326: the usable modules of a link. -/
def Link.usable (l : Link) : Nat := l.count Module.usable
/-- R327: a training fixes the steering table: two consecutive entries for a full-width module and one for a half-width
one, in module order. -/
def Link.trained (l : Link) : Link :=
  { l with steering := l.mods.flatMap (fun e => if e.2.st = 1 then [e.1, e.1] else if e.2.usable then [e.1] else []) }
/-- R327: the module that carries the messages about an address. -/
def Link.carrier (l : Link) (a : Nat) : Option Nat := l.steering[(a >>> 12) % l.steering.length]?

/-! ### Fencing a die (R352, R484) -/

/-- R352: every remote copy of a die's lines is invalidated and deallocated, and its own remote cache and filter leave
service. A write of another die's line that waited for this die's copy alone gets its INV_DONE, and the writes that waited
at this home are answered (R349). -/
def forgetDie (s : State) (d : Nat) : State :=
  let s := s.dir.foldl (fun t e =>
    if homeDie e.line = d then
      let t := forUp 4 (fun k u => if e.sharers.getLsbD k then uncache u k e.line else u) t
      { t with dir := t.dir.filter (fun x => !(x.line == e.line)) }
    else t) s
  let s := (s.die d).rc.foldl (fun t x => uncache t d x.addr) s
  let s := s.dir.foldl (fun t e =>
    if e.sharers.getLsbD d then
      let b := dieBit d
      if e.sharers &&& ~~~b = 0 then
        let t := dropDir t e.line
        if e.home then sendMsg t { mtype := 8, line := e.line, die := homeDie e.line } else t
      else mapDir t e.line (fun x => { x with
        sharers := x.sharers &&& ~~~b, fill := x.fill &&& ~~~b, dead := x.dead &&& ~~~b, acks := x.acks &&& ~~~b })
    else t) s
  let gone := s.homeWr.filter (fun h => homeDie h.line == d)
  let s := gone.foldl (fun t h => sendMsg t { mtype := 5, line := h.line, die := (match h.req with | some w => w.p / 64 | none => d), req := h.req })
    { s with homeWr := s.homeWr.filter (fun h => homeDie h.line != d) }
  s.setDie d {}

/-- The cores of a die. -/
def dieCores (d : Nat) : List Nat := (upTo 64).map (fun i => 64 * d + i)

/-- R484: a die is fenced after ready: its cores are fenced with cause 9, its stacks leave service, its clusters leave
their partitions. -/
def fenceDie (s : State) (d : Nat) : State :=
  if !s.agt.diesActive.getLsbD d then s
  else
    let s := agtUpdate s (fun a => { a with
      diesActive := a.diesActive &&& ~~~dieBit d
      stacksActive := a.stacksActive &&& ~~~(BitVec.ofNat 32 (0xFF * 2 ^ (8 * d))) })
    let s := (dieCores d).foldl (fun t p => fenceCore t p 9 0xA0) s
    let s := forgetDie s d
    let s := { s with bring := { s.bring with lateDies := s.bring.lateDies ||| dieBit d } }
    let s := forUp 8 (fun c t => { t with partOf := tabSet t.partOf (8 * d + c) 255 }) s
    let s := raiseIrq s 1
    logAdd s { code := 0x43, inst := d, src := 2, sev := 3, args := [5] }

/-- R332: a command's write to a die fenced after ready logs one entry with the first such address and its queue. -/
def noteDiscard (s : State) (q : Nat) (addrs : List Nat) : State :=
  match addrs.find? (lateDie s) with
  | some a => logAdd s { code := 0x44, inst := 0, src := 9, sev := 2, args := [a, q] }
  | none => s

/-! ### Guest sites -/

/-- A byte of a guest's identity block (R337). -/
def Guest.idByte (x : Guest) (i : Nat) : Nat := (x.ident.getD i 0).toNat
/-- GUEST.CTRL.CTX. -/
def Guest.ctxNo (x : Guest) : Nat := bits x.ctrl.toNat 39 32
/-- GUEST.CTRL.MASTER_EN. -/
def Guest.master (x : Guest) : Bool := x.ctrl.getLsbD 2

/-- A site's STATE changes: the AGT shows it and the GUEST cause is raised (R537). -/
def guestState (s : State) (g st : Nat) : State :=
  raiseIrq (agtUpdate (s.setGuest g { s.guest g with st := st }) (fun a => a)) 7

/-- R336 to R338: a site is refused with a REASON and its rail is switched off. -/
def guestRefuse (s : State) (g reason : Nat) : State :=
  let s := s.setGuest g { s.guest g with reason := reason, admitting := false, railW := 0 }
  logAdd (guestState s g 3) { code := 0x61, inst := g, src := 6, sev := 1, args := [reason] }

/-- R344: the removal of a site starts. -/
def guestRemove (s : State) (g reason : Nat) : State :=
  let x := s.guest g
  if (x.st = 1 ∨ x.st = 2) ∧ !x.removing then
    s.setGuest g { x with removing := true, admitting := false, reason := reason }
  else s

/-- R338: the number of the first check that fails, 0 when all pass. -/
def admitCheck (s : State) (g : Nat) : Nat :=
  let x := s.guest g
  let w := x.winLog
  if x.st ≠ 1 ∨ x.removing then 1
  else if x.budget < x.idByte 6 ∨ 75 < x.budget then 2
  else if !((w == 0 && x.idByte 7 == 0) || (decide (x.idByte 7 ≤ w) && decide (w ≤ 40) && w != 0)) then 3
  else if x.master ∧ !(x.idByte 8).testBit 0 then 4
  else if x.master ∧ 64 ≤ x.ctxNo then 5
  else 0

/-- R338, R339: a write of GUEST.CTRL. -/
def guestCtrlWrite (s : State) (g v : Nat) : State :=
  let x := s.guest g
  if x.st ≠ 1 ∧ !v.testBit 1 then writeIgnored s (guestPage g) 0x100
  else
    let rsv := bits v 63 56 != 0 || bits v 47 46 != 0 || bits v 31 3 != 0
    let s := if rsv then badAccess s (guestPage g) 0x100 else s
    let keep := bits v 55 48 * 2 ^ 48 + bits v 45 40 * 2 ^ 40 + bits v 39 32 * 2 ^ 32 + 4 * b2n (v.testBit 2)
    let s := s.setGuest g { s.guest g with ctrl := BitVec.ofNat 64 keep }
    if v.testBit 1 then guestRemove s g 9
    else if v.testBit 0 then
      let r := admitCheck s g
      if r ≠ 0 then guestRefuse s g r
      else
        let x := s.guest g
        let s := s.setGuest g { x with admitting := true, railW := x.budget }
        { s with sent := s.sent ++ [.guestMsg g 0x11 x.budget (toLE 8 (guestBase g))] }
    else s

/-- R341: whether an access at an address of a site's region is passed to the guest. -/
def guestServes (s : State) (g a : Nat) : Bool :=
  let x := s.guest g
  x.st == 2 && !x.removing && (x.idByte 8).testBit 1 && x.winLog != 0 && decide (a - guestBase g < 2 ^ x.winLog)

/-- R183, R330: the poison map of a write to a site's window from `a` on, a bit for each line, empty where none is poisoned;
under link version 1 one poisoned line marks them all. -/
def guestMap (s : State) (g a : Nat) (bad : List Bool) : List Bool :=
  let m := (pieces a bad.length).map (fun pc => ((bad.drop (pc.1 - a)).take pc.2).any id)
  if !m.any id then [] else if (s.link (4 + g)).version = 1 then m.map (fun _ => true) else m

/-- R342: where a guest's request lands: `some` physical address when it is served. -/
def guestTarget (s : State) (c dva n : Nat) (wr : Bool) : Xres :=
  match xlate s c dva wr with
  | .fault f => .fault f
  | .pa a => if (inHbm a || inCs a) && (paStatus s (a + n - 1)).isNone then .pa a else .fault 0x25

/-- R342: a guest's request for `n` lines at a line-aligned DVA, served or refused. Under link version 1 one poisoned
line marks every line of an answer. -/
def guestServe (s : State) (g : Nat) (wr : Bool) (dva n : Nat) (data : List Byte) (be pm : List Bool) : State :=
  let x := s.guest g
  let a0 := dva % 2 ^ 48 / 64 * 64
  let n := 64 * n
  if !(s.pst == .active && x.st == 2 && !x.removing && x.master) || n = 0 || a0 / 4096 ≠ (a0 + n - 1) / 4096 then s
  else
    let r := guestTarget s x.ctxNo a0 n wr
    let s := vnote s x.ctxNo a0 n (match r with | .fault f => some f | .pa _ => none)
    match r with
    | .fault _ =>
      let s := s.setGuest g { s.guest g with faults := x.faults + 1 }
      { s with sent := s.sent ++ [.guestMsg g 0x13 0 []] }
    | .pa a =>
      if wr then
        let s := targetWrite s a ((data ++ List.replicate n 0).take n) be pm
        { s with sent := s.sent ++ [.guestMsg g 0x05 0 []] }
      else
        let r := targetRead s a n
        let s := r.1
        let bad := if (s.link (4 + g)).version = 1 ∧ r.2.2.any id then r.2.2.map (fun _ => true) else r.2.2
        sramSweep { s with sent := s.sent ++ [.guestMsg g 0x03 (packElems 1 (bad.map b2n)) r.2.1] }

/-- The 1 ms average of a rail's samples times their number: R343 compares without rounding. -/
def sampleSum (l : List Nat) : Nat := l.foldl (· + ·) 0

/-- Whether the average of the samples exceeds a bound in 0.1 W. -/
def avgOver (l : List Nat) (b : Nat) : Bool := decide (b * l.length < sampleSum l)

/-- R343: a 10 µs sample of a guest's rail, in 0.1 W. -/
def guestSample (s : State) (g w10 : Nat) : State :=
  let x := s.guest g
  let new := (w10 :: x.samples).take 100
  let b := x.budget
  let x' : Guest := { x with
    samples := new
    excess := if avgOver new (11 * b) then x.excess + 1 else 0
    high := if 15 * b < w10 then x.high + 1 else 0 }
  let s := s.setGuest g x'
  if x.st ≠ 2 ∨ x.removing then s.setGuest g { x' with excess := 0, high := 0 }
  else
    let s := if avgOver new (10 * b) && !avgOver x.samples (10 * b) then
      { s with sent := s.sent ++ [.guestMsg g 0x12 b []] } else s
    if 10000 ≤ x'.excess ∨ 10 ≤ x'.high then guestRemove s g 10 else s

/-! ### Module events -/

/-- R332: a module goes down outside a training; the cause is counted from 1 in the order of R332. -/
def moduleDown (s : State) (l m cause : Nat) : State :=
  let x := s.module l m
  if !x.usable then s
  else
    let s := s.setModule l m { x with st := 5 }
    let s := logAdd s { code := 0x41, inst := l, src := 4, sev := 3, args := [m, cause + 1] }
    let s := raiseIrq s 2
    if l < 4 then fenceDie s l else guestRemove s (l - 4) 11

/-- R333: a module's monitor window ends. -/
def monitorWindow (s : State) (l m : Nat) : State :=
  let x := s.module l m
  if !x.usable then s
  else
    let tot := (ctrGet x.ctr 0x208).toNat
    let n := tot - x.base
    if (s.link l).thresh < n then
      let s := s.setModule l m { x with base := tot, marginal := true, logged := true }
      let s := if x.logged then s else logAdd s { code := 0x40, inst := l, src := 4, sev := 1, args := [m, n] }
      raiseIrq s 2
    else s.setModule l m { x with base := tot }

/-- R331: the sender frees what is acknowledged; an ACK_SEQ outside the replay buffer frees none. -/
def Module.ack (x : Module) (ack : Nat) : Module :=
  let oldest := (x.txSeq + 1024 - x.unacked % 1024) % 1024
  let n := (ack % 1024 + 1025 - oldest) % 1024
  if n ≤ x.unacked then { x with unacked := x.unacked - n } else x

end Sys2Proof.Machine
end

