-- ==== Sys2Proof/Machine/ScaleTab.lean ====
section
/-!
DEFINITION. The scale tables: entry images, SCALE operations, drain records, scale answers and commits
(spec/08_training_numerics.md R260 to R274).
-/
namespace Sys2Proof.Machine

/-- The FP32 encoding of +infinity. -/
def infF32 : W32 := 0x7F800000

/-- A count of `w` bits advanced by `n`, saturating. -/
def satAdd (w a n : Nat) : Nat := min (a + n) (2 ^ w - 1)

/-- R265: FLAGS of an entry. -/
def Entry.flags (e : Entry) : Nat :=
  b2n e.scaleSet * 2 + b2n e.force * 4 + b2n e.coldScaled * 8 + b2n e.scaling * 16

/-- R264: the 128-byte image of an entry. -/
def Entry.image (e : Entry) : List Byte :=
  (upTo 16).flatMap (fun i => toLE 4 (tabGet e.hist 0 i).toNat)
    ++ toLE 4 e.pend.toNat ++ toLE 4 e.stepOvf ++ toLE 4 e.ovfCnt ++ toLE 4 e.commits.toNat
    ++ toLE 2 (toBits 16 e.exp) ++ toLE 2 e.flags ++ toLE 2 e.srcA ++ toLE 2 e.srcB
    ++ toLE 1 e.count ++ toLE 1 e.head ++ toLE 1 e.kind ++ toLE 1 e.coldMargin
    ++ toLE 2 e.backoffs ++ toLE 2 e.infSteps ++ toLE 8 (e.originRow + e.originCol * 2 ^ 36)
    ++ toLE 4 e.wispExc ++ toLE 4 e.wispStep.toNat ++ toLE 16 0

/-- R264: the entry of a 128-byte image held as a number. -/
def entryOf (x : Nat) : Entry :=
  let at_ (o n : Nat) : Nat := bits x (8 * o + 8 * n - 1) (8 * o)
  { hist := (upTo 16).map (fun i => (i, BitVec.ofNat 32 (at_ (4 * i) 4)))
    pend := BitVec.ofNat 32 (at_ 0x40 4), stepOvf := at_ 0x44 4, ovfCnt := at_ 0x48 4
    commits := BitVec.ofNat 32 (at_ 0x4C 4), exp := sext 16 (at_ 0x50 2)
    scaleSet := (at_ 0x52 2).testBit 1, force := (at_ 0x52 2).testBit 2, coldScaled := (at_ 0x52 2).testBit 3
    srcA := at_ 0x54 2, srcB := at_ 0x56 2, count := at_ 0x58 1, head := at_ 0x59 1, kind := at_ 0x5A 1
    coldMargin := at_ 0x5B 1, backoffs := at_ 0x5C 2, infSteps := at_ 0x5E 2
    originRow := bits (at_ 0x60 8) 35 0, originCol := bits (at_ 0x60 8) 59 36
    wispExc := at_ 0x68 4, wispStep := BitVec.ofNat 32 (at_ 0x6C 4) }

/-- R267: whether SOP 1 may load an image. -/
def imageOk (x : Nat) : Bool :=
  let at_ (o n : Nat) : Nat := bits x (8 * o + 8 * n - 1) (8 * o)
  let e := entryOf x
  let f := at_ 0x52 2
  decide (e.count ≤ 16) && decide (e.head ≤ 15) && decide (e.kind ≤ 4)
    && decide (1 ≤ e.coldMargin) && decide (e.coldMargin ≤ 8)
    && bits f 15 4 == 0 && bits f 0 0 == 0 && bits (at_ 0x60 8) 63 60 == 0 && at_ 0x70 16 == 0
    && !(e.scaleSet && decide (e.count < 16) && !e.coldScaled)

/-- R266: every core's copy of an entry leaves its scale cache. -/
def scaleInval (s : State) (n t : Nat) : State :=
  { s with cores := s.cores.map (fun (c : Nat × Core) =>
      (c.1, { c.2 with mxa := { c.2.mxa with scaleCache := c.2.mxa.scaleCache.filter (fun x => x.1 != n * 65536 + t) } })) }

/-- R266: a core reads an entry's SCALE_EXP and keeps it in its scale cache of 64 entries. -/
def scaleRead (s : State) (p n t : Nat) : State :=
  let e := s.entry n t
  let k := n * 65536 + t
  if !e.scaleSet || decide (65535 ≤ t) then s
  else
    let c := s.core p
    s.setCore p { c with mxa := { c.mxa with
      scaleCache := ((k, e.exp) :: c.mxa.scaleCache.filter (fun x => x.1 != k)).take 64 } }

/-- R260, R266: the SCALE_EXP of an entry as a core reads it: from its scale cache, or from the hub; none without
SCALE_SET. -/
def scaleExp (s : State) (p n t : Nat) : Option Int :=
  match (s.core p).mxa.scaleCache.find? (fun x => x.1 == n * 65536 + t) with
  | some x => some x.2
  | none => if (s.entry n t).scaleSet then some (s.entry n t).exp else none

/-- R262: the hub writes back the entries `ks` that have changed to the backing stores of their partitions. A store that is
no memory takes none, and an entry being scaled waits. -/
def scaleWriteBack (s : State) (ks : List Nat) : State :=
  ks.foldl (fun t k =>
    let n := k / 65536
    let e := t.entry n (k % 65536)
    let a := bits (tabGet t.numx.base 0 n).toNat 43 23 * 2 ^ 23 + 128 * (k % 65536)
    if !t.numx.dirty.contains k || e.scaling then t
    else
      let t := { t with numx := { t.numx with dirty := setDel t.numx.dirty k } }
      if hbmOk t a && hbmOk t (a + 127) then writeMem t a e.image false else t) s

/-- An entry is written, and the cores' copies are invalidated (R266). -/
def putEntry (s : State) (n t : Nat) (e : Entry) : State := (scaleInval s n t).setEntry n t e

/-! ### Scale exponents (R260) -/

/-- emax of R260 for a tensor kind. -/
def kindEmax (k : Nat) : Int := if k = 3 then 15 else 8

/-- R260: target, for the magnitudes it is stated for. -/
def target (kind : Nat) (x : Val) (m : Nat) : Option Int :=
  match x with
  | .fin s k e =>
    if k = 0 then some 0
    else if s then none
    else some (min (max (kindEmax kind - leadExp k e - m) (-126)) 127)
  | _ => none

/-- The greater of two history values; NaN prevails. -/
def histMax2 (a b : Val) : Val := if a.isNan || b.isNan then .nan else if a.lt b then b else a

/-- The greatest of an entry's history slots `k` (R269, R271): +0 where there is none. -/
def Entry.histMax (e : Entry) (ks : List Nat) : Val :=
  match ks.map (fun k => decodeS .fp32 (tabGet e.hist 0 k).toNat) with
  | [] => .fin false 0 0
  | v :: vs => vs.foldl histMax2 v

/-- The filled history slots of an entry: HEAD and the COUNT - 1 before it. -/
def Entry.filled (e : Entry) : List Nat := (upTo e.count).map (fun i => (e.head + 16 - i) % 16)

/-- R260: the exponent for a magnitude. Where the spec states none (a history value that is NaN, infinite or negative, which
only a SOP 1 image can bring) it is a free function of the kind, the value and the margin (R282). -/
def scaleFor (kind : Nat) (v : Val) (margin : Nat) : Int :=
  (target kind v margin).getD (sext 16 (Config.freeExp kind (rneTo .fp32 v) margin).toNat)

/-- The greater of two FP32 magnitudes held as encodings; a NaN takes no part (R91, R268). -/
def amaxMax (a b : W32) : W32 :=
  let x := decodeS .fp32 a.toNat
  let y := decodeS .fp32 b.toNat
  if x.isNan then b else if y.isNan then a else if x.lt y then b else a

/-! ### Records, answers and commits -/

/-- R268, R270: a drain's amax and overflows are recorded into an entry, and while a commit is under way also for the step
that follows; `kind` assigns the kind of an unassigned one. -/
def recordAmax (s : State) (n t : Nat) (kind : Nat) (amax : W32) (ovf : Nat) : State :=
  let e := s.entry n t
  s.setEntry n t { e with
    kind := if e.kind = 0 then kind else e.kind
    pend := amaxMax e.pend amax
    late := e.late.map (fun l => (amaxMax l.1 amax, satAdd 32 l.2 ovf))
    stepOvf := satAdd 32 e.stepOvf ovf
    ovfCnt := satAdd 32 e.ovfCnt ovf }

/-- R271 step 2: the hub sets the scale of a cold step from the largest finite magnitude `tv` of the scaling drain's
tile. -/
def scaleAnswer (s : State) (n i : Nat) (tv : Val) : State :=
  let e := s.entry n i
  let m := if e.force then tv else histMax2 (e.histMax e.filled) tv
  putEntry s n i { e with exp := scaleFor e.kind m e.coldMargin, scaleSet := true, coldScaled := true, force := false, scaling := false }

/-- R269: whether an entry is warm at a commit. -/
def Entry.warm (e : Entry) : Bool := e.count == 16 && e.scaleSet && !e.force

/-- R269: whether a commit leaves the scale of an entry to its history. -/
def Entry.byHistory (e : Entry) : Bool := decide (1 ≤ e.kind) && decide (e.kind ≤ 3) && e.count == 16 && !e.force

/-- R270: the commit of some entries takes their records; what drains record from now on counts toward the next step. -/
def commitBegin (s : State) (n first cnt : Nat) : State :=
  forUp cnt (fun i t => t.setEntry n (first + i) { t.entry n (first + i) with late := some (0, 0) }) s

/-- R269: one entry's commit of the combined values `a` and `ovf`. -/
def commitEntry (s : State) (n t : Nat) (a : W32) (ovf : Bool) : State :=
  let e := s.entry n t
  let warm := e.warm
  let back := if a = infF32 then warm && e.kind != 4 else ovf && warm
  let r : Entry × Bool :=
    if a = infF32 then
      let e := { e with infSteps := satAdd 16 e.infSteps 1 }
      (if back then { e with exp := max (e.exp - 1) (-126), backoffs := satAdd 16 e.backoffs 1 } else e, back)
    else
      let h := if e.count = 0 then 0 else (e.head + 1) % 16
      let e := { e with head := h, hist := tabSet e.hist h a, count := min (e.count + 1) 16 }
      if e.byHistory then
        let x := scaleFor e.kind (e.histMax (upTo 16)) 1
        ({ e with
            exp := if back then max (min x (e.exp - 1)) (-126) else x
            backoffs := if back then satAdd 16 e.backoffs 1 else e.backoffs
            scaleSet := true }, back)
      else (e, false)
  let e := r.1
  let e := { e with
    scaleSet := e.byHistory && e.scaleSet
    coldScaled := a == infF32 && warm && e.coldScaled
    pend := (e.late.getD (0, 0)).1
    stepOvf := (e.late.getD (0, 0)).2
    late := none
    commits := e.commits + 1 }
  let s := putEntry s n t e
  if r.2 then numxCtr s 0x1A0 1 else s

/-! ### SCALE operations (R267) -/

/-- R267: whether RES1 counts an entry as cold after an operation. -/
def scaleCold (sop : Nat) (e : Entry) : Bool :=
  match sop with
  | 0 => true
  | 3 => decide (e.count < 16)
  | _ => decide (e.count < 16) && e.kind != 4

/-- The entries an operation names that are cold after it. -/
def coldCount (s : State) (sop n first cnt : Nat) : Nat :=
  ((upTo cnt).filter (fun i => scaleCold sop (s.entry n (first + i)))).length

/-- SOP 0 (R267). -/
def scaleClearAll (s : State) (n first cnt : Nat) : State := forUp cnt (fun i t => putEntry t n (first + i) {}) s

/-- SOP 3 (R267). -/
def scaleRescaleAll (s : State) (n first cnt : Nat) : State :=
  forUp cnt (fun i t => putEntry t n (first + i) { t.entry n (first + i) with force := true, scaleSet := false }) s

/-- SOP 1 (R267): the entries of checked images. -/
def scaleLoadAll (s : State) (n first : Nat) (cnt : Nat) (img : List Byte) : State :=
  forUp cnt (fun i t => putEntry t n (first + i) (entryOf (ofLE ((img.drop (128 * i)).take 128)))) s

/-- SOP 2 (R267): the images of the named entries. -/
def scaleImages (s : State) (n first cnt : Nat) : List Byte :=
  (upTo cnt).flatMap (fun i => (s.entry n (first + i)).image)

end Sys2Proof.Machine
end

