-- ==== Sys2Proof/Machine/PowerOps.lean ====
section
/-!
DEFINITION. The cap controller, the fast limiter, trips and what a package keeps without power
(spec/14_power_thermal.md R432 to R460; spec/15_bringup_reset_yield.md R473, R482).
-/
namespace Sys2Proof.Machine

/-! ### FP32 arithmetic of the controller (R438) -/

/-- The value of an FP32 encoding. -/
def f32v (x : W32) : Val := decodeS .fp32 x.toNat
/-- A value rounded to FP32. -/
def f32Of (v : Val) : W32 := BitVec.ofNat 32 (rneTo .fp32 v)
/-- A count as FP32. -/
def f32Nat (n : Nat) : W32 := f32Of (.fin false n 0)
/-- An FP32 sum. -/
def f32Add (a b : W32) : W32 := f32Of ((f32v a).add (f32v b))
/-- An FP32 difference. -/
def f32Sub (a b : W32) : W32 := f32Of ((f32v a).add (f32v b).negate)
/-- An FP32 product. -/
def f32Mul (a b : W32) : W32 := f32Of ((f32v a).mul (f32v b))

/-- A quotient with a sticky bit far below FP32's precision, so that rounding it once is correct. -/
def Val.quot : Val → Val → Val
  | .fin s m e, .fin t n f =>
    if n = 0 then (if m = 0 then .nan else .inf (s != t))
    else
      let q := m * 2 ^ 96 / n
      .fin (s != t) (2 * q + b2n (m * 2 ^ 96 % n != 0)) (e - f - 97)
  | .fin s _ _, .inf t => .fin (s != t) 0 0
  | .inf s, .fin t _ _ => .inf (s != t)
  | _, _ => .nan

/-- An FP32 quotient. -/
def f32Div (a b : W32) : W32 := f32Of ((f32v a).quot (f32v b))
/-- Whether one FP32 value is at most another. -/
def f32Le (a b : W32) : Bool := (f32v a).lt (f32v b) || (f32v a).numEq (f32v b)

/-- The least integer not below a value, for a finite value that is not negative. -/
def Val.ceilNat : Val → Nat
  | .fin false m e => if 0 ≤ e then m * 2 ^ e.toNat else ceilDiv m (2 ^ (-e).toNat)
  | _ => 0

/-! ### Operating points (R432, R438, R439) -/

/-- The MXA clock of each operating point in MHz. -/
def opClock (i : Nat) : Nat :=
  ([600, 700, 800, 900, 1000, 1100, 1200, 1250, 1300, 1350, 1400, 1500, 1575, 1650, 1725, 1800] : List Nat).getD i 0
/-- The limit voltage of each operating point, in units of 0.1 mV. -/
def opVolt (i : Nat) : Nat :=
  ([5600, 5800, 6000, 6200, 6400, 6700, 7000, 7150, 7300, 7450, 7600, 7800, 8100, 8400, 8700, 9000] : List Nat).getD i 0
/-- The die power of each operating point in watts. -/
def opWatts (i : Nat) : Nat :=
  ([160, 192, 227, 265, 307, 364, 427, 461, 496, 534, 573, 640, 720, 806, 899, 999] : List Nat).getD i 0
/-- The die ratio DR[i]. -/
def dieRatio (i : Nat) : W32 := f32Div (f32Nat (opWatts i)) (f32Nat 640)

/-- R438: B_G, the budgets of the admitted guests. -/
def guestWatts (s : State) : Nat :=
  s.guests.foldl (fun n e => if e.2.st = 2 then n + e.2.budget else n) 0

/-- R440: whether a hint is in force. -/
def Hint.force (s : State) (h : Hint) : Bool :=
  h.on && (h.ticks == 0 || h.left != 0) && (s.queue h.q).st == .running

/-- R440: the estimate of a hint, where `l` is the package draw at OP11. -/
def hintEst (s : State) (l : W32) (h : Hint) : W32 :=
  if h.load ≠ 0 then f32Nat h.load
  else if 1 ≤ h.phase ∧ h.phase ≤ 6 ∧ tabHas s.pwr.phaseMem h.phase then tabGet s.pwr.phaseMem 0 h.phase else l

/-- The hint with the largest estimate, the first of equals. -/
def governing (s : State) (l : W32) : Option (Hint × W32) :=
  (s.pwr.hints.filter (Hint.force s)).foldl (fun b h =>
    let e := hintEst s l h
    match b with
    | none => some (h, e)
    | some x => if (f32v x.2).lt (f32v e) then some (h, e) else some x) none

/-- The Liram draw of the reference slot at OP11 (R438). -/
def refLir11 (s : State) : W32 := f32Div s.pwr.refLiram (dieRatio s.pwr.refOp)

/-- R438: the predicted draw at an operating point. -/
def predDraw (rest lir11 : W32) (i : Nat) : W32 := f32Add rest (f32Mul lir11 (dieRatio i))

/-- R438: the highest enabled operating point at or below `top` whose prediction fits, else 0. -/
def opFor (en : BitVec 16) (rest lir11 : W32) (c : W32) (top : Nat) : Nat :=
  (((upTo (top + 1)).reverse).find? (fun i => en.getLsbD i && f32Le (predDraw rest lir11 i) c)).getD 0

/-- R438: n, the idle ticks of every 16. -/
def idleCount (p0 c pIdle : W32) : Nat :=
  if (f32v c).lt (f32v p0) then
    if (f32v pIdle).lt (f32v p0) then
      min 15 (f32v (f32Div (f32Mul (f32Nat 16) (f32Sub p0 c)) (f32Sub p0 pIdle))).ceilNat
    else 15
  else 0

/-- R439: whether the tick at position `j` of 16 is idle. -/
def idlePos (j n : Nat) : Bool := decide (j * n / 16 < (j + 1) * n / 16)

/-- R439: CAP_FLOOR is logged when n becomes nonzero and when it returns to zero. -/
def capFloor (s : State) (n : Nat) : State := raiseIrq (logAdd s { code := 0x70, src := 7, sev := 0, args := [n] }) 5

/-- R438 to R440: the controller's choice at step 4 of tick `tk` for the next slot: the hint that governs it, used where
HINT_EN is set, the operating point and whether its end is an idle tick. -/
def opSelect (s : State) (tk : Nat) : State :=
  let p := s.pwr
  let c := f32Nat (p.capW - guestWatts s)
  let l := f32Add (refLir11 s) p.refRest
  let gov := governing s l
  let g := if p.hintEn then gov else none
  let lir := match g with
    | some x =>
      let d := f32Sub x.2 p.refRest
      if (f32v d).lt (f32v 0) then 0 else d
    | none => refLir11 s
  let top := min (min p.opMax p.thermCeil) (p.curOp + 2)
  let n := idleCount (predDraw p.refRest lir 0) c p.pIdle
  let idle := idlePos ((tk / tickStep s.tick.sel + 1) % 16) n
  let was := p.idleN
  let s := { s with pwr := { p with
    nextOp := opFor s.agt.opEn p.refRest lir c top, idleN := n, idleNext := idle
    govern := match gov with | some x => x.1.phase | none => 0 } }
  let s := if (was = 0) ≠ (n = 0) then capFloor s n else s
  if idle then
    s.queues.foldl (fun t e =>
      if e.2.groupEn && e.2.st != .disabled then requestHold t e.2.group (nextTick t) 1 else t) s
  else s

/-! ### The thermal ceiling (R445) -/

/-- THERM_LIMIT (R460). -/
def thermLimit (p : Pwr) : Bool := decide (p.thermCeil < p.opMax)

/-- A change of the controller's limits raises POWER when THERM_LIMIT changes (R537). -/
def withLimit (s : State) (p : Pwr) : State :=
  let was := thermLimit s.pwr
  let s := { s with pwr := p }
  if thermLimit p = was then s else raiseIrq s 5

/-- R445: the ceiling falls by one per tick while a core or a stack is above 95 °C, and rises by one per 16 ticks once
every one is below 92 °C. -/
def thermTick (s : State) : State :=
  let p := s.pwr
  if p.hot then withLimit s { p with thermCeil := p.thermCeil - 1, coolTicks := 0 }
  else if p.cool && decide (p.thermCeil < 15) then
    if 15 ≤ p.coolTicks then withLimit s { p with thermCeil := p.thermCeil + 1, coolTicks := 0 }
    else { s with pwr := { p with coolTicks := p.coolTicks + 1 } }
  else { s with pwr := { p with coolTicks := 0 } }

/-! ### Without power -/

/-- What RAS keeps of a core through a package reset (R473, R482, R483). -/
def Ras.keep (r : Ras) : Ras :=
  { fenceCause := r.fenceCause, parity := r.parity, lastParityTick := r.lastParityTick, uncorr := r.uncorr }

/-- What a guest site keeps through a package reset: a refusal or a removal (R473). -/
def Guest.keep (g : Guest) : Guest :=
  if g.st = 3 ∨ g.st = 4 then { st := g.st, reason := g.reason, ident := g.ident } else {}

/-- Working first stages (R449). -/
def stagesOk (p : Pwr) : Nat := 24 - popCount 24 p.stagesBad.toNat

/-- R452, R454, R473: every rail but VSB is off. What runs is lost; Bittern, the log, the fuses, fences, parity
history, module states, refused guests, energy and the records of the last passage stay. -/
def powerDown (s : State) (st : PkgSt) : State :=
  { State.reset with
    pst := st
    uptime := s.uptime
    agt := { generation := s.agt.generation, lateFenced := s.agt.lateFenced }
    partNo := s.partNo
    cores := s.cores.map (fun (c : Nat × Core) => (c.1, { ras := c.2.ras.keep }))
    links := s.links
    guests := s.guests.map (fun (g : Nat × Guest) => (g.1, g.2.keep))
    log := s.log
    pwr := { s.pwr with
      entering := false, wakeWait := false, waking := false, exiting := false, next := none, curOp := 0, nextOp := 0
      idleN := 0, idleNext := false, idleNow := false, thermCeil := 15, hot := false, cool := false, coolTicks := 0
      therm103 := [], droop := [], fast10 := 0, hints := [], phaseMem := [], refLiram := 0, refRest := 0, refOp := 0
      govern := 0 }
    bring := { s.bring with
      run := false, resets := [], fences := [], coreResets := [], clusterResets := [], partWait := [], partResets := []
      wins := [], ports := [] }
    fuse := s.fuse
    bit := s.bit
    host := { refclkA := s.host.refclkA, perst := s.host.perst }
    tick := { refclkB := s.tick.refclkB }
    freeN := s.freeN
    reply := s.reply
    sent := s.sent
    pending := s.pending }

/-- PWR.STAT.STATE of a package state (R460). -/
def stateCode : PkgSt → Nat
  | .off => 0 | .standby => 1 | .active => 2 | .dormant => 3 | .tripped => 4

/-- R456, R457: outside the ticks of Active the energy counts to ENERGY_TOTAL alone, at a change of state. How much was
measured is free. -/
def stateEnergy (s : State) : State :=
  { s with
    pwr := { s.pwr with ctr := tabSet s.pwr.ctr 0x120 (ctrGet s.pwr.ctr 0x120 + Config.freeWord s.freeN) }
    freeN := s.freeN + 1 }

/-- A change of the package state is logged (R499), and its energy counts (R457). -/
def logState (s : State) (old : PkgSt) : State :=
  logAdd (stateEnergy s) { code := 8, src := 0, sev := 0, args := [stateCode old, stateCode s.pst] }

/-- R419: a package that leaves Active with Running queues of groups tells the groups first. -/
def leaveGroups (s : State) : State :=
  (upTo 64).foldl (fun t q =>
    if (t.queue q).groupEn && (t.queue q).st == .running then announceAbort t (t.queue q).group 0x6A else t) s

/-- R454: entry to Tripped from any state but Off, with the sensor and reading that caused it; no completion is written
(R233). -/
def trip (s : State) (cause sensor reading : Nat) : State :=
  if s.pst = .off ∨ s.pst = .tripped then s
  else
    let old := s.pst
    let seq := s.bring.run
    let tk := s.tick.last % 2 ^ 32
    let s := if old = .active then leaveGroups s else s
    let s := powerDown s .tripped
    let s := { s with pwr := { s.pwr with tripCause := cause, tripTick := tk } }
    let s := if seq then { s with bring := { s.bring with result := 2, failCause := 8 } } else s
    let s := logAdd s { code := 7, inst := sensor % 256, src := if cause ≤ 3 then 8 else 7, sev := 3
                        args := [cause, sensor, reading] }
    logState s old

/-! ### The fast limiter (R442, R449) -/

/-- How many samples at the head of a list exceed a bound. -/
def runAbove (b : Nat) : List Nat → Nat
  | [] => 0
  | x :: t => if b < x then runAbove b t + 1 else 0

/-- R442, R449: whether S rises: the run above TDP has lasted 80 µs, such runs exceed 90 µs of the last 1 ms, or the
energy of the last 1 ms with 20 µs at the present draw exceeds the cap or the stages' limit. -/
def limiterRises (s : State) (p : Pwr) : Bool :=
  let tdp := partTdp s.partNo
  let now := p.draws.headD 0
  let lim := min p.capW (190 * stagesOk p)
  decide (800 ≤ runAbove tdp p.draws)
    || decide (900 < (p.draws.filter (fun x => decide (tdp < x))).length)
    || decide (10000 * lim < sampleSum (p.draws.take p.fastN) + 200 * now)

/-- R442: a 100 ns sample: input power in watts, VIN in units of 10 mV, edges suppressed since the last sample. -/
def fastSample (s : State) (watts vin10 clk : Nat) : State :=
  let p := s.pwr
  let draws := (watts :: p.draws).take 10000
  let q := { p with
    draws := draws, fastN := min 10000 (p.fastN + 1), vin10 := vin10, pinW := sampleSum draws / draws.length
    rangeLogged := p.rangeLogged && !(decide (3600 ≤ vin10) && decide (vin10 ≤ 4400)) }
  if s.pst ≠ .active then { s with pwr := q }
  else
    let hard := decide (5000 < watts) || decide (125 * vin10 < 100 * watts)
    let f := if hard then 150 else if limiterRises s q then min 150 (q.fast10 + 4)
      else if watts < 5000 then q.fast10 - 1 else q.fast10
    { s with pwr := { q with fast10 := f, ctr := ctrAdd q.ctr 0x190 clk } }

/-! ### Diodes (R445) -/

/-- Samples in a row at or above 106 °C, by sensor. -/
def hotRuns (p : Pwr) (temps : List (Nat × Int)) : Tab Nat :=
  (temps.filter (fun e => decide (1060 ≤ e.2))).map (fun e => (e.1, tabGet p.over106 0 e.1 + 1))

/-- The sensors of a reading with their temperatures: core diodes from 0x100, the others from 0x300 (R496). -/
def thermalTemps (r : ThermalRead) : List (Nat × Int) :=
  let num (b : Nat) (l : List Int) : List (Nat × Int) := (l.zip (upTo l.length)).map (fun e => (b + e.2, e.1))
  num 0x100 (r.core.take 512) ++ num 0x300 (r.other.take 96)

/-- R445: the clusters stretched at S = 8: those with a diode at 103 °C, and those stretched before that have one at
100 °C. -/
def stretched (p : Pwr) (r : ThermalRead) : List Nat :=
  (upTo 32).filter (fun c =>
    let ts := (r.core.drop (16 * c)).take 16
    ts.any (fun t => decide (1030 ≤ t)) || (p.therm103.contains c && ts.any (fun t => decide (1000 ≤ t))))

/-- R445: a 10 µs sample of every diode. -/
def thermalSample (s : State) (r : ThermalRead) : State :=
  if s.pst = .off then s
  else
    let ts := thermalTemps r
    let runs := hotRuns s.pwr ts
    let hbm := ((r.other.drop 24).take 32)
    let p := { s.pwr with
      over106 := runs, therm103 := stretched s.pwr r
      hot := r.core.any (fun t => decide (950 < t)) || hbm.any (fun t => decide (950 < t))
      cool := r.core.all (fun t => decide (t < 920)) && hbm.all (fun t => decide (t < 920)) }
    let sens := ts.foldl (fun l e => tabSet l e.1 e.2) s.bit.sensors
    let s := { s with pwr := p, bit := { s.bit with sensors := sens } }
    match ts.find? (fun e => decide (1100 ≤ e.2) && (decide (e.1 < 0x300) || decide (e.1 < 0x318))) with
    | some e => trip s 1 e.1 e.2.toNat
    | none =>
      match runs.find? (fun e => decide (100 ≤ e.2)) with
      | some e => trip s 2 e.1 (tabGet sens 0 e.1).toNat
      | none => s

/-! ### Entry to and exit from Dormant (R451, R453) -/

/-- Copies in remote caches and staging buffers are discarded, with the directory and the filters. -/
def discardCopies (s : State) : State :=
  let s := s.cores.foldl (fun t c => unstageAll (dropFlight t c.1) c.1) s
  let s := s.dies.foldl (fun t d => d.2.rc.foldl (fun u x => uncache u d.1 x.addr) t) s
  { s with dir := [], msgs := [], homeWr := [], dies := [] }

/-- The core stores are lost and read as zero when cleared. -/
def clearStores (s : State) : State :=
  { s with
    mem := s.mem.filter (fun c => !inCs c.1)
    poison := s.poison.filter (fun a => !inCs a)
    latent := s.latent.filter (fun a => !inCs a)
    cores := s.cores.map (fun (c : Nat × Core) => (c.1, { ras := c.2.ras })) }

/-- R578: the tick of a package that enters Active. -/
def freshTick (s : State) : State :=
  let t := s.tick
  { s with tick := {
      time := t.time, last := t.last, eligible := t.eligible, refclkB := t.refclkB, holdover := t.holdover
      groups := t.groups, candSeq := t.candSeq, ctr := t.ctr, req := t.req } }

/-- Whether any reset is in progress (R485). -/
def anyReset (s : State) : Bool :=
  !s.bring.coreResets.isEmpty || !s.bring.clusterResets.isEmpty || !s.bring.partWait.isEmpty
    || !s.bring.partResets.isEmpty

/-- PWR.STATE_REQ is ignored (R451, R458). -/
def stateIgnored (s : State) : State := writeIgnored s 2 0x110

/-- R451: REQ 1. -/
def reqDormant (s : State) : State :=
  if s.pst ≠ .active || s.pwr.entering || s.pwr.exiting || anyReset s
      || s.queues.any (fun e => e.2.st != .disabled) then stateIgnored s
  else
    let s := { s with pwr := { s.pwr with entering := true } }
    let s := forUp 64 (fun k t =>
      match (t.port k).st with
      | .disabled => t
      | .down => feedSet (t.setPort k { t.port k with cause := 8 }) k false
      | _ => feedSet (portSet t k .down 8) k false) s
    forUp 2 (fun g t =>
      let x := t.guest g
      if x.st = 2 then
        let t := t.setGuest g { x with railW := 5 }
        { t with sent := t.sent ++ [.guestMsg g 0x12 5 []] }
      else t) s

/-- R451: Dormant is entered: the scale-table cache is written back; a wake request that waited starts. -/
def enterDormant (s : State) : State :=
  if !s.pwr.entering then s
  else
    let s := clearStores (discardCopies (scaleWriteBack s s.numx.dirty))
    let s := if s.pwr.idleN = 0 then s else capFloor s 0
    let s := { s with
      pst := .dormant
      pwr := { s.pwr with
        entering := false, waking := s.pwr.wakeWait, wakeWait := false, curOp := 0, nextOp := 0, idleN := 0
        idleNext := false, idleNow := false, fast10 := 0, hints := [], govern := 0 } }
    logState (agtUpdate s (fun a => a)) .active

/-- REQ 2 (R453). -/
def reqWake (s : State) : State :=
  if s.pst = .dormant then { s with pwr := { s.pwr with waking := true } }
  else if s.pwr.entering then { s with pwr := { s.pwr with wakeWait := true } }
  else stateIgnored s

/-- R453: the wake ends, 3.0 ms after its start. -/
def wakeDone (s : State) : State :=
  if s.pst ≠ .dormant || !s.pwr.waking then s
  else
    let s := { s with
      pst := .active
      uptime := s.uptime + 3000000
      pwr := { s.pwr with waking := false, phaseMem := [], curOp := 0, nextOp := 0 } }
    let s := reelect (freshTick s)
    let s := forUp (partPorts s.partNo) (fun k t => if (t.port k).en then portTrain t k else t) s
    let s := forUp 2 (fun g t =>
      let x := t.guest g
      if x.st = 2 then t.setGuest g { x with railW := x.budget } else t) s
    let s := raiseIrq (agtUpdate s (fun a => a)) 3
    logState s .dormant

/-! ### Exit to Standby (R452) -/

/-- R452, R518: the package goes to Standby: links and rails go off. -/
def enterStandby (s : State) : State :=
  let old := s.pst
  logState (powerDown s .standby) old

/-- REQ 3. -/
def reqStandby (s : State) : State :=
  if s.pst = .dormant then enterStandby s
  else if s.pst = .active ∧ !s.pwr.entering ∧ !s.pwr.exiting then
    let s := { s with pwr := { s.pwr with exiting := true } }
    (upTo 64).foldl (fun t q => if (t.queue q).groupEn && (t.queue q).st == .running then abortOf t q 0x6A else t) s
  else stateIgnored s

/-- R452 steps 4 to 6: what has not started completes with STATE_EXIT, what executes with CORE_RESET. -/
def drainOver (s : State) : State :=
  if s.pst ≠ .active || !s.pwr.exiting then s
  else
    let s := (upTo 64).foldl exitQueue s
    let s := s.cores.foldl (fun t c => haltCore t c.1 0xA3) s
    let s := (upTo 64).foldl (fun t q =>
      let refs := (frameRecs (t.queue q)).filter (fun r => !r.isDone)
      refs.foldl (fun u r => complete u ⟨q, r.n⟩ (ownStatus r 0xA3)) t) s
    enterStandby s

/-- R458: a write of PWR.STATE_REQ. -/
def stateReqWrite (s : State) (v : Nat) : State :=
  let s := if bits v 63 3 = 0 then s else badAccess s 2 0x110
  match bits v 2 0 with
  | 1 => reqDormant s | 2 => reqWake s | 3 => reqStandby s | _ => s

/-- R459: a write of PWR.CTRL. -/
def pwrCtrlWrite (s : State) (v : Nat) : State :=
  let cap := bits v 15 0
  let ok := decide (1200 ≤ cap) && decide (cap ≤ partTdp s.partNo) && cap % 10 == 0
    && s.agt.opEn.getLsbD (bits v 35 32) && bits v 63 36 == 0 && bits v 31 17 == 0
  if ok then { s with pwr := { s.pwr with next := some (BitVec.ofNat 64 v) } } else writeIgnored s 2 0x100

end Sys2Proof.Machine
end

