-- ==== Sys2Proof/Machine/BringOps.lean ====
section
/-!
DEFINITION. The power-on sequence (spec/15_bringup_reset_yield.md R461 to R473; spec/11_hub_die_links.md R323 to R326,
R334 to R337).
-/
namespace Sys2Proof.Machine

/-! ### Fuses (R432, R463) -/

/-- The settled fuses of a die, or why they cannot be used: both CRCs bad, or two steppings. -/
inductive FuseRes where
  | ok (f : FuseCopy)
  | bad
  | steppings
  deriving DecidableEq, Repr

/-- R463: two voltage rows combined cautiously. -/
def maxVolts (a b : List Nat) : List Nat := (upTo 16).map (fun i => max (a.getD i 0) (b.getD i 0))

/-- The limit voltages in mV, which a core has where its fuses list none. -/
def limitVolts : List Nat := (upTo 16).map (fun i => opVolt i / 10)

/-- The fused voltages of core `i` of a die. -/
def FuseCopy.voltsOf (f : FuseCopy) (i : Nat) : List Nat := tabGet f.volts limitVolts i

/-- R463: a cautious combination of two good copies. -/
def FuseCopy.merge (a b : FuseCopy) : FuseCopy :=
  let ks := (a.volts.map (fun e => e.1) ++ b.volts.map (fun e => e.1)).foldl setIns ([] : List Nat)
  let ls := (a.lanes.map (fun e => e.1) ++ b.lanes.map (fun e => e.1)).foldl setIns ([] : List Nat)
  { a with
    cap := Nat.land a.cap b.cap
    bad := a.bad ||| b.bad
    volts := ks.map (fun k => (k, maxVolts (a.voltsOf k) (b.voltsOf k)))
    lanes := ls.map (fun k => (k, Nat.lor (tabGet a.lanes 0 k) (tabGet b.lanes 0 k))) }

/-- R463: both copies settled. -/
def settle (a b : FuseCopy) : FuseRes :=
  match a.crcOk, b.crcOk with
  | false, false => .bad
  | true, false => .ok a
  | false, true => .ok b
  | true, true => if a = b then .ok a else if a.stepping ≠ b.stepping then .steppings else .ok (a.merge b)

/-- ARG0 of FUSE_COPY, 0 where nothing is logged. -/
def copyFlags (a b : FuseCopy) : Nat :=
  if a.crcOk ∧ b.crcOk then (if a = b ∨ a.stepping ≠ b.stepping then 0 else 4)
  else if !a.crcOk ∧ !b.crcOk then 0 else b2n (!a.crcOk) + 2 * b2n (!b.crcOk)

/-- R463: the first operating point at which a row of voltages is invalid. -/
def badVolt (v : List Nat) : Option Nat :=
  (upTo 16).find? (fun i => v.getD i 0 < 500 || 950 < v.getD i 0 || (i != 0 && v.getD i 0 < v.getD (i - 1) 0))

/-- Logs FUSE_COPY of a die where its copies call for it. -/
def logCopies (s : State) (i : Nat) (a b : FuseCopy) : State :=
  let f := copyFlags a b
  if f = 0 then s else logAdd s { code := 3, inst := i, src := 0, sev := 1, args := [f] }

/-! ### Sequence bookkeeping -/

/-- R471: the sequence fails at a step with a cause; the package returns to Standby. -/
def bringFail (s : State) (step cause : Nat) : State :=
  let s := powerDown s .standby
  let s := { s with bring := { s.bring with result := 2, step := step, failCause := cause, wait := none } }
  logAdd s { code := 1, src := 0, sev := 3, args := [step, cause] }

/-- R466: a die is fenced at bring-up for a cause of DIE_FENCE; once is enough. -/
def fenceAtBringup (s : State) (d cause : Nat) : State :=
  if s.bring.diesFenced.getLsbD d then s
  else
    let s := { s with
      bring := { s.bring with diesFenced := s.bring.diesFenced ||| dieBit d }
      agt := { s.agt with capDie := s.agt.capDie.set d 0 } }
    logAdd s { code := 0x43, inst := d, src := 2, sev := 3, args := [cause] }

/-- Dies the part number enables that are not fenced at bring-up. -/
def diesUp (s : State) : List Nat := (upTo (partDies s.partNo)).filter (fun d => !s.bring.diesFenced.getLsbD d)

/-! ### Modules (R323 to R326, R334) -/

/-- R324: whether half `h` of a module is usable with a map of bad lanes: at most two bad lanes in each direction. -/
def halfOk (lanes h : Nat) : Bool :=
  (upTo 2).all (fun d => decide (popCount 32 (lanes >>> (64 * d + 32 * h)) ≤ 2))

/-- R325: whether half `h` has a newly bad lane in either direction. -/
def halfHit (lanes h : Nat) : Bool := (upTo 2).any (fun d => popCount 32 (lanes >>> (64 * d + 32 * h)) != 0)

/-- R324: the state of a module at bring-up. -/
def moduleCold (trained : Bool) (lanes : Nat) : Nat :=
  if !trained then 4
  else match halfOk lanes 0, halfOk lanes 1 with
    | true, true => 1 | true, false => 2 | false, true => 3 | false, false => 4

/-- R325: the state of a module at a later reset. -/
def moduleLater (m : Module) (trained : Bool) (lanes : Nat) : Nat :=
  if !trained || !m.usable then 4
  else match halfHit lanes 0, halfHit lanes 1 with
    | false, false => if m.marginal && m.st == 1 then 2 else m.st
    | false, true => if m.st = 1 then 2 else 4
    | true, false => if m.st = 1 then 3 else 4
    | true, true => 4

/-- One module trains: its counters and its monitor start again, and its mark is cleared. -/
def trainModule (s : State) (l m : Nat) (cold trained : Bool) (lanes : Nat) : State :=
  let x := s.module l m
  let st := if cold then moduleCold trained lanes else moduleLater x trained lanes
  s.setModule l m { st := st, logged := x.logged }

/-- R324, R325: whether R324 governs a module's training: at bring-up, and at a package reset after a bring-up that
failed before it trained the module, which has no lane assignment then. -/
def firstTraining (s : State) (cold : Bool) (l m : Nat) : Bool := cold || (s.module l m).st == 0

/-- R335: the link versions that a stepping speaks, as bits 0 and 1. -/
def versionsOf (step : Nat) (k : Bool) : Nat :=
  if step = 0 then 1 else if step = 1 then 3 else if k then 3 else 2

/-- R334: the version of a link, 0 where the ends share none. -/
def linkVersion (a b : Nat) : Nat :=
  let x := Nat.land a b
  if x.testBit 1 then 2 else if x.testBit 0 then 1 else 0

/-- The test of a module in what a sequence measured. -/
def modTest (x : SeqInput) (l m : Nat) : ModTest :=
  (x.mods.find? (fun t => t.link == l && t.mod == m)).getD { link := l, mod := m }

/-- A 64-bit map of the lanes bad in either direction, as LANE_DISAGREE reports it. -/
def laneMap (lanes : Nat) : Nat := Nat.lor (lanes % 2 ^ 64) (bits lanes 127 64)

/-- R323, R324: a module of a Liram die trains, under R324 with the union of the fused and the tested lanes; a disagreement
is logged. -/
def trainLanes (s : State) (cold : Bool) (fused d m : Nat) (trained : Bool) (lanes : Nat) : State :=
  let s := if cold && fused != lanes then
      logAdd s { code := 0x42, inst := d, src := 4, sev := 1, args := [m, laneMap fused, laneMap lanes] }
    else s
  trainModule s d m cold trained (if cold then Nat.lor fused lanes else lanes)

/-- R323, R324: a module of a Liram die trains at step 5. -/
def trainDieModule (s : State) (cold : Bool) (f : FuseCopy) (x : SeqInput) (d m : Nat) : State :=
  let t := modTest x d m
  trainLanes s (firstTraining s cold d m) (tabGet f.lanes 0 m) d m t.trained t.lanes

/-- R326: a die with fewer than 12 usable modules is fenced at bring-up. -/
def dieModules (s : State) (d : Nat) : State := if (s.link d).usable < 12 then fenceAtBringup s d 3 else s

/-- Step 5 for die `d`: training and the link version. -/
def trainDie (s : State) (cold : Bool) (f : FuseCopy) (x : SeqInput) (d : Nat) : State :=
  let k := s.agt.stepping.getD 4 0
  let v := linkVersion (versionsOf f.stepping false) (versionsOf k true)
  let s := forUp 16 (fun m t => trainDieModule t cold f x d m) s
  let s := s.setLink d { (s.link d).trained with version := v, stepping := f.stepping, thresh := 1000 }
  if v = 0 then fenceAtBringup s d 2 else dieModules s d

/-- R40: CAP_EFFECTIVE over K and the dies not fenced at bring-up. -/
def capEffective (s : State) : Nat :=
  (diesUp s).foldl (fun c d => Nat.land c (s.agt.capDie.getD d 0)) (s.agt.capDie.getD 4 0)

/-- R337: whether an identity block is valid. -/
def identOk (x : Guest) : Bool :=
  x.idByte 5 != 0 && decide (1 ≤ x.idByte 6) && decide (x.idByte 6 ≤ 75)
    && (x.idByte 7 == 0 || (decide (30 ≤ x.idByte 7) && decide (x.idByte 7 ≤ 40))) && x.idByte 8 / 4 == 0

/-- R336: the rate of a site in GT/s: the highest that both ends support, 0 where they share none. -/
def guestRate (e : GuestFind) : Nat := (([32, 24, 16, 12, 8, 4] : List Nat).find? (fun r => e.rates.contains r)).getD 0

/-- R336, R337: discovery at a guest site; a site refused or removed before stays so. -/
def findGuest (s : State) (x : SeqInput) (g : Nat) : State :=
  match x.guests.find? (fun e => e.site == g) with
  | none => s
  | some e =>
    if (s.guest g).st ≠ 0 ∨ !(capEffective s).testBit 12 then s
    else
      let rate := guestRate e
      let s := forUp 4 (fun m t =>
        let r := modTest x (4 + g) m
        let t := trainModule t (4 + g) m (firstTraining t t.bring.cold (4 + g) m) (r.trained && rate != 0) r.lanes
        let y := t.module (4 + g) m
        if y.st = 1 ∧ !e.wide.testBit m then t.setModule (4 + g) m { y with st := 2 } else t) s
      let s := s.setLink (4 + g) (s.link (4 + g)).trained
      let id := (e.ident ++ List.replicate 64 0).take 64
      let s := s.setGuest g { rate := rate, railW := 15, st := 1 }
      if !e.kgp then guestRefuse s g 7
      else if (s.link (4 + g)).usable = 0 then guestRefuse s g 8
      else
        let s := s.setGuest g { s.guest g with ident := id }
        let v := linkVersion (s.guest g |>.idByte 5) (versionsOf (s.agt.stepping.getD 4 0) true)
        let s := s.setLink (4 + g) { s.link (4 + g) with version := v, thresh := 1000, stepping := s.guest g |>.idByte 4 }
        if !identOk (s.guest g) then guestRefuse s g 6
        else if v = 0 then guestRefuse s g 7 else s

/-! ### The steps -/

/-- R473, R457, R525: what a package reset clears when the sequence starts. -/
def seqStart (s : State) : State :=
  let cold := !s.bring.passed
  let b := s.bring
  { s with
    pages := [], dirCtr := []
    pwr := { s.pwr with capW := 4300, hintEn := true, opMax := 15
                        ctr := tabSet [] 0x120 (ctrGet s.pwr.ctr 0x120), pIdle := 0x44834000 }
    bring := { passed := true, cold := cold, step := 1, run := true, railOc := b.railOc, off := b.off } }

/-- Step 4 for the Liram dies: settled fuses, capability words, verdicts. -/
def fuseDie (s : State) (d : Nat) : State × FuseCopy :=
  let a := tabGet s.fuse.la {} d
  let b := tabGet s.fuse.lb {} d
  let s := logCopies s d a b
  match settle a b with
  | .ok f =>
    let invalid := (upTo 64).filter (fun i => (badVolt (f.voltsOf i)).isSome)
    let s := invalid.foldl (fun t i =>
      logAdd t { code := 4, inst := 64 * d + i, src := 0, sev := 1, args := [(badVolt (f.voltsOf i)).getD 0] }) s
    let bad := Nat.lor f.bad.toNat (invalid.foldl (fun n i => n + 2 ^ i) 0 - Nat.land f.bad.toNat
      (invalid.foldl (fun n i => n + 2 ^ i) 0))
    ({ s with agt := { s.agt with
        capDie := s.agt.capDie.set d f.cap, stepping := s.agt.stepping.set d f.stepping
        fuseBad := s.agt.fuseBad ||| BitVec.ofNat 256 (bad * 2 ^ (64 * d)) } }, f)
  | _ => (fenceAtBringup { s with agt := { s.agt with stepping := s.agt.stepping.set d a.stepping } } d 1, a)

/-- R432: the operating points that every core not fused bad of the dies in service supports. -/
def opsEnabled (s : State) (fs : List (Nat × FuseCopy)) : BitVec 16 :=
  BitVec.ofNat 16 (packElems 1 ((upTo 16).map (fun i => b2n (fs.all (fun e =>
    s.bring.diesFenced.getLsbD e.1 || e.2.volts.all (fun v =>
      s.agt.fuseBad.getLsbD (64 * e.1 + v.1) || decide (v.2.getD i 0 ≤ opVolt i / 10)))))))

/-- Step 4 for the K-die: the settled fuses, or the cause of failure. -/
def fuseK (s : State) : Except Nat FuseCopy :=
  let a := s.fuse.ka
  let b := s.fuse.kb
  match settle a b with
  | .ok f =>
    if a.crcOk ∧ b.crcOk ∧ a.part ≠ b.part then .error 4
    else if f.part.isNone then .error 5 else .ok f
  | _ => .error 4

/-- Steps 8 and 9: stacks and the start-up test. A core that an earlier ready of the power cycle left not enabled keeps its
bit of TEST_BAD, so that its bit of ENABLED stays clear (R38). -/
def seqTests (s : State) (x : SeqInput) : State :=
  let up := diesUp s
  let s := (x.stackFail.filter (fun e => up.contains (e.1 / 8))).foldl (fun t e =>
    logAdd t { code := 6, inst := e.1, src := 3, sev := 3, args := [e.2] }) s
  let s := (x.uncoreFail.filter (fun d => up.contains d)).foldl (fun t d => fenceAtBringup t d 4) s
  let lost := (upTo (partDies s.partNo)).filter (fun d => s.bring.diesFenced.getLsbD d)
  let tested := diesUp s
  let fails := (x.railFail.flatMap clusterCores).map (fun p => (p, 0, 0)) ++ x.coreFail
  let fails := fails.filter (fun e => tested.contains (e.1 / 64) && !s.agt.lateFenced.getLsbD e.1)
  let bad := (fails.map (fun e => e.1) ++ lost.flatMap dieCores ++ (upTo 256).filter (fun p => s.bring.off.getLsbD p)).foldl
    setIns ([] : List Nat)
  { s with
    bring := { s.bring with tests := fails }
    agt := { s.agt with
      testBad := BitVec.ofNat 256 (bad.foldl (fun n p => n + 2 ^ p) 0)
      stacksActive := BitVec.ofNat 32 (tested.foldl (fun n d =>
        if x.stackFail.any (fun e => e.1 / 8 == d) then n else n + 0xFF * 2 ^ (8 * d)) 0) } }

/-- Steps 6 and 10 begin: ready windows of the modules and of the ports. -/
def seqWindows (s : State) : State :=
  let ls := diesUp s ++ ([4, 5] : List Nat).filter (fun l => (s.guest (l - 4)).st == 1)
  let wins := ls.flatMap (fun l => ((s.link l).mods.filter (fun e => e.2.usable)).map (fun e => (⟨l, e.1, false⟩ : ReadyWin)))
  let s := forUp (partPorts s.partNo) (fun k t => portTrain (t.setPort k {}) k) s
  { s with
    host := { s.host with irqStat := 0 }
    bring := { s.bring with wins := wins, ports := upTo (partPorts s.partNo), step := 11 } }

/-- Steps 3 to 11 of the sequence. -/
def seqRest (s : State) (x : SeqInput) : State :=
  if !x.railOk then bringFail s 3 3
  else
    let s := logCopies s 4 s.fuse.ka s.fuse.kb
    match fuseK s with
    | .error c => bringFail s 4 c
    | .ok k =>
      let s := { s with
        partNo := k.part.getD .p4032x
        agt := { s.agt with
          capDie := [0, 0, 0, 0, k.cap], stepping := [255, 255, 255, 255, k.stepping], fuseBad := 0, testBad := 0 } }
      let s := { s with pwr := { s.pwr with capW := partTdp s.partNo } }
      let r := (upTo (partDies s.partNo)).foldl (fun (t : State × List (Nat × FuseCopy)) d =>
        let u := fuseDie t.1 d
        (u.1, t.2 ++ [(d, u.2)])) (s, [])
      let s := r.1
      let s := { s with agt := { s.agt with opEn := opsEnabled s r.2 } }
      if (diesUp s).isEmpty then bringFail s 4 7
      else
        let s := r.2.foldl (fun t e =>
          if t.bring.diesFenced.getLsbD e.1 then t else trainDie t s.bring.cold e.2 x e.1) s
        if (diesUp s).isEmpty then bringFail s 5 7
        else
          let s := seqTests (findGuest (findGuest s x 0) x 1) x
          if !x.kTestOk then bringFail s 9 6
          else if (diesUp s).isEmpty then bringFail s 9 7
          else seqWindows { s with mem := [], poison := [], latent := [] }

/-- R461: the power-on sequence up to the ready criteria; at step 2 it waits for refclk_b (R569). -/
def runSequence (s : State) (x : SeqInput) : State :=
  let s := seqStart s
  if !x.entryOk then bringFail s 1 1
  else if !x.stageOk then bringFail s 2 2
  else if !s.tick.refclkB then { s with bring := { s.bring with step := 2, wait := some x } }
  else seqRest { s with bring := { s.bring with step := 3 } } x

/-! ### Ready (R465, R468 to R472) -/

/-- R463: the bad lanes that the fuses list for module `m` of Liram die `l`. -/
def fusedLanes (s : State) (l m : Nat) : Nat :=
  match settle (tabGet s.fuse.la {} l) (tabGet s.fuse.lb {} l) with
  | .ok f => tabGet f.lanes 0 m | _ => 0

/-- R468: a module whose first ready window had an error retrains, and opens its second window where it is usable. -/
def windowRetrain (s : State) (l m : Nat) (trained : Bool) (lanes : Nat) : State :=
  let s := if l < 4 then trainLanes s s.bring.cold (fusedLanes s l m) l m trained lanes
    else trainModule s l m s.bring.cold trained lanes
  let s := { s with bring := { s.bring with retrained := min 255 (s.bring.retrained + 1) } }
  if (s.module l m).usable then { s with bring := { s.bring with wins := s.bring.wins ++ [⟨l, m, true⟩] } } else s

/-- R468: the ready window of a module ends; a first window with an error retrains the module. When that fences the last
Liram die in service the sequence fails (R466). -/
def windowEnds (s : State) (l m : Nat) (trained : Bool) (lanes : Nat) : State :=
  let up := diesUp s
  match s.bring.wins.find? (fun w => w.link == l && w.mod == m) with
  | none => s
  | some w =>
    let rest := s.bring.wins.filter (fun v => v != w)
    let x := s.module l m
    let s := { s with bring := { s.bring with wins := rest } }
    let s :=
      if ctrGet x.ctr 0x208 = 0 then s
      else
        let s := if w.second then s.setModule l m { x with st := 4 } else windowRetrain s l m trained lanes
        s.setLink l (s.link l).trained
    let s := if l < 4 then dieModules s l
      else if (s.guest (l - 4)).st = 1 ∧ (s.link l).usable = 0 then guestRefuse s (l - 4) 8 else s
    if (diesUp s).isEmpty && !up.isEmpty then bringFail s 6 7
    else { s with bring := { s.bring with wins := s.bring.wins.filter (fun v =>
        decide (4 ≤ v.link) || !s.bring.diesFenced.getLsbD v.link) } }

/-- R469: at 5,900 ms a port that has not met its criterion is dropped. -/
def portDropped (s : State) (k : Nat) : State :=
  if !s.bring.run || !s.bring.ports.contains k then s
  else
    let c := if 17000000 ≤ (ctrGet (s.port k).ctr 0x110).toNat then 7 else 9
    let s := portSet (s.setPort k { s.port k with en := false }) k .disabled c
    let s := { s with bring := { s.bring with
      ports := setDel s.bring.ports k, portsDropped := s.bring.portsDropped + 1 } }
    logAdd s { code := 0x52, inst := k, src := 5, sev := 1, args := [c] }

/-- R38: the enabled cores. -/
def enabledCores (s : State) : BitVec 256 :=
  let dies := (diesUp s).foldl (fun n d => n + (2 ^ 64 - 1) * 2 ^ (64 * d)) 0
  BitVec.ofNat 256 dies &&& ~~~(s.agt.fuseBad ||| s.agt.testBad ||| s.agt.lateFenced)

/-- R489: the fence cause of a core at ready. -/
def readyCause (s : State) (p : Nat) : Nat :=
  let r := (s.core p).ras.fenceCause
  if s.agt.lateFenced.getLsbD p then r
  else match s.agt.fuseBad.getLsbD p, s.agt.testBad.getLsbD p with
    | true, true => 3 | true, false => 1 | false, true => 2
    | false, false => if s.agt.enabled.getLsbD p then 0 else 9

/-- R464, R465: the verdicts of tested cores that differ, with the failing test. A core that TEST_BAD marks without a
failing test is one of a die fenced before the test. -/
def disagreements (s : State) : List (Nat × Nat × Nat) :=
  (upTo (64 * partDies s.partNo)).filterMap (fun p =>
    if s.agt.lateFenced.getLsbD p then none
    else match s.agt.fuseBad.getLsbD p, s.bring.tests.find? (fun e => e.1 == p) with
      | true, none => if s.agt.testBad.getLsbD p then none else some (p, 0, 0)
      | false, some e => some e
      | _, _ => none)

/-- Cores of the part, each with its record. -/
def readyCores (s : State) : State :=
  (upTo (64 * partDies s.partNo)).foldl (fun t p =>
    let c := readyCause s p
    if c = (t.core p).ras.fenceCause then t
    else t.setCore p { t.core p with ras := { (t.core p).ras with fenceCause := c } }) s

/-- R26, R27: every enabled cluster is placed in P0. -/
def readyParts (s : State) : State :=
  { s with partOf := ((diesUp s).flatMap (fun d => (upTo 8).map (fun i => 8 * d + i))).map (fun c => (c, 0)) }

/-- R472: an enabled count below the part's minimum. -/
def belowGrade (s : State) : State :=
  let n := popCount 256 s.agt.enabled.toNat
  if partMinCores s.partNo ≤ n then s
  else logAdd { s with bring := { s.bring with belowGrade := true } } { code := 2, src := 0, sev := 1, args := [n] }

/-- R470: the package is ready, `ms` milliseconds after the start of the sequence. -/
def ready11 (s : State) (ms : Nat) : State :=
  if !s.bring.run || s.bring.step != 11 || !s.bring.wins.isEmpty || !s.bring.ports.isEmpty then s
  else
    let dis := disagreements s
    let s := dis.foldl (fun t e => logAdd t { code := 5, inst := e.1, src := 0, sev := 1
                                              args := [b2n (s.agt.fuseBad.getLsbD e.1), e.2.1, e.2.2] }) s
    let s := agtUpdate s (fun a => { a with
      valid := true, cap := capEffective s, enabled := enabledCores s
      diesActive := BitVec.ofNat 4 ((diesUp s).foldl (fun n d => n + 2 ^ d) 0)
      stacksActive := a.stacksActive &&& BitVec.ofNat 32 ((diesUp s).foldl (fun n d => n + 0xFF * 2 ^ (8 * d)) 0) })
    let s := readyParts (readyCores s)
    let s := { s with bring := { s.bring with off := BitVec.ofNat 256 (2 ^ (64 * partDies s.partNo) - 1)
      &&& ~~~(s.agt.enabled ||| s.agt.fuseBad ||| s.agt.lateFenced) } }
    let s := belowGrade { s with
      pst := .active
      uptime := s.uptime + ms * 1000000
      bring := { s.bring with
        result := 1, step := 12, run := false, readyMs := ms % 65536, disagree := min 255 dis.length, tests := [] }
      host := { s.host with linkUp := s.host.refclkA && !s.host.perst } }
    let s := reelect (freshTick s)
    let s := logState (raiseIrq s 0) .standby
    if s.host.irqStat.getLsbD 6 && !s.host.irqMask.getLsbD 6 then sendMsix s 0 78 else s

end Sys2Proof.Machine
end

