-- ==== Sys2Proof/Machine/HeronStart.lean ====
section
/-!
DEFINITION. The fields of a Heron command record, and how an engine takes its next command
(spec/05_core_memory_gather.md R155, R157, R163, R166; spec/07_command_reference.md R237, R245).
-/
namespace Sys2Proof.Machine

/-! ### The fields of a Heron record (R245) -/

/-- MODE. -/
def Rec.hMode (r : Rec) : Nat := r.f 274 273
/-- DIR. -/
def Rec.hDir (r : Rec) : Bool := r.b 275
/-- FAB. -/
def Rec.hFab (r : Rec) : Bool := r.b 276
/-- ZERO_FILL. -/
def Rec.hZero (r : Rec) : Bool := r.b 277
/-- NO_ALLOC. -/
def Rec.hNoAlloc (r : Rec) : Bool := r.b 278
/-- PF_DEPTH. -/
def Rec.hDepth (r : Rec) : Nat := r.f 284 279
/-- ENGINE. -/
def Rec.hEngine (r : Rec) : Nat := r.f 286 285
/-- NEAR_PITCH. -/
def Rec.hPitch (r : Rec) : Nat := r.f 272 249
/-- NEAR_BASE. -/
def Rec.hNear (r : Rec) : Nat := r.f 248 226
/-- DEVICE. -/
def Rec.hDev (r : Rec) : Nat := r.f 225 208
/-- REGION_HI. -/
def Rec.hHi (r : Rec) : Nat := r.f 207 160
/-- REGION_LO. -/
def Rec.hLo (r : Rec) : Nat := r.f 159 112
/-- FAR_BASE. -/
def Rec.hFar (r : Rec) : Nat := r.f 111 64
/-- RUN. -/
def Rec.hRun (r : Rec) : Nat := r.f 311 288
/-- C of R158: the runs of a strided command. -/
def Rec.hRuns (r : Rec) : Nat := r.f 327 312 * r.f 343 328 * r.f 359 344
/-- IDX_BASE. -/
def Rec.hIdxBase (r : Rec) : Nat := r.f 310 288
/-- IDX_COUNT. -/
def Rec.hIdxCount (r : Rec) : Nat := r.f 334 311
/-- ESIZE. -/
def Rec.hESize (r : Rec) : Nat := r.f 344 335
/-- ESTRIDE. -/
def Rec.hEStride (r : Rec) : Nat := r.f 384 345
/-- SEG_BASE. -/
def Rec.hSegBase (r : Rec) : Nat := r.f 407 385
/-- SEG_COUNT. -/
def Rec.hSegCount (r : Rec) : Nat := r.f 423 408
/-- SEG_CAP. -/
def Rec.hSegCap (r : Rec) : Nat := r.f 447 424
/-- SEG_PITCH. -/
def Rec.hSegPitch (r : Rec) : Nat := r.f 471 448

/-- The bytes of one run or element. -/
def Rec.hSize (r : Rec) : Nat := if r.hMode = 0 then r.hRun else r.hESize

/-- R166: a zero count or zero size. -/
def Rec.hEmpty (r : Rec) : Bool :=
  match r.hMode with
  | 0 => r.hRuns == 0 || r.hRun == 0
  | 1 => r.hIdxCount == 0 || r.hESize == 0
  | _ => r.hIdxCount == 0 || r.hESize == 0 || r.hSegCount == 0

/-- Whether a record is a PREFETCH command. -/
def Rec.isPf (r : Rec) : Bool := r.opcode == 9

/-! ### Engines -/

/-- Engine `e` of a core: 0 is H0, 1 is H1. -/
def Heron.eng (h : Heron) (e : Nat) : HEng := if e = 0 then h.h0 else h.h1
/-- The memory side with engine `e` replaced. -/
def Heron.setEng (h : Heron) (e : Nat) (x : HEng) : Heron := if e = 0 then { h with h0 := x } else { h with h1 := x }
/-- Engine `e` of core `p`. -/
def State.heng (s : State) (p e : Nat) : HEng := (s.core p).heron.eng e
/-- The state with engine `e` of core `p` replaced. -/
def State.setHeng (s : State) (p e : Nat) (x : HEng) : State :=
  s.setCore p { s.core p with heron := (s.core p).heron.setEng e x }

/-- R163: the prefetch requests that engine `e` has outstanding. -/
def Heron.pfReqs (h : Heron) (e : Nat) : List Nat :=
  ((h.flight.filter (fun f => f.eng == e)).map (fun f => f.req)).eraseDups
/-- R163, R185: the requests that engine `e` has outstanding, prefetches included. -/
def Heron.outstanding (h : Heron) (e : Nat) : Nat :=
  (match (h.eng e).run with | some r => r.out.length | none => 0) + (h.pfReqs e).length

/-- R237: what a Heron command's completion reports. -/
def HRun.cpl (x : HRun) (pf : Bool) : Cpl :=
  if pf then {
    res0 := satW 32 x.pfGen
    res1 := satW 32 x.pfDone + satW 32 x.pfDropped * 2 ^ 32
    res2 := satW 32 x.pfPresent
    poison := x.poison
    status := (x.fault.getD (0, 0)).1 }
  else {
    res0 := satW 32 x.bytes
    res1 := satW 32 x.reqs + satW 32 x.poisLines * 2 ^ 32
    res2 := satW 32 x.segDropped + (match x.fault with | some f => satW 32 f.2 | none => 2 ^ 32 - 1) * 2 ^ 32
    poison := x.poison || x.poisLines != 0
    status := (x.fault.getD (0, 0)).1 }

/-- R155, R191: a free engine starts its next waiting command. -/
def heronTake (s : State) (p e : Nat) : Option (State × CmdRef × Rec) :=
  let x := s.heng p e
  if x.run.isSome || (s.core p).ras.inReset || s.bring.clusterResets.contains (p / 8) || !coreOn s p then none
  else
    match pickRef x.waiting x.lastQ (fun _ => true) with
    | none => none
    | some c =>
      match findRec s c with
      | none => none
      | some r =>
        let s := setRecSt s c .started
        some (s.setHeng p e { x with
          run := some { ref := c }, st := 1, queue := c.q, lastQ := c.q
          waiting := x.waiting.filter (fun y => y != c) }, c, r)

/-- An engine's running command is over with STATE `st`. -/
def heronOver (s : State) (p e st : Nat) (pf : Bool) (x : HRun) : State :=
  complete (s.setHeng p e { s.heng p e with run := none, walk := none, st := st }) x.ref (x.cpl pf)

/-- A free engine starts commands until one has something to move: a command of zero size completes at its start
(R166). -/
def heronKickN (p e : Nat) : Nat → State → State
  | 0, s => s
  | n + 1, s =>
    match heronTake s p e with
    | none => s
    | some (t, c, r) => if r.hEmpty then heronKickN p e n (heronOver t p e 0 r.isPf { ref := c }) else t

/-- A free engine starts its next command. -/
def heronKick (s : State) (p e : Nat) : State := heronKickN p e ((s.heng p e).waiting.length + 1) s

end Sys2Proof.Machine
end

