-- ==== Sys2Proof/Machine/Frames.lean ====
section
/-!
DEFINITION. Frames and dispatch: record fetch, frame starts, hold points, and what every command's meaning shares
(spec/06_command_model.md R192 to R208; spec/07_command_reference.md R231, R234, R235).
-/
namespace Sys2Proof.Machine

/-! ### Fetch (R192, R196, R235) -/

/-- The count of completions the host has released, as a full count. -/
def Queue.released (x : Queue) : Nat :=
  x.completed - (x.completed % 2 ^ 32 + 2 ^ 32 - x.cqHead.toNat) % 2 ^ 32

/-- The end of the running frame, or the first record of no frame yet. -/
def Queue.frameEnd (x : Queue) : Nat := match x.frame with | some f => f.first + f.len | none => x.next

/-- How far a queue may fetch: 512 records ahead of the running frame; with none running, as far as the next frame may
reach where that is more, since its end decides when it starts and whether it is too long (R192, R193). -/
def Queue.fetchEnd (x : Queue) : Nat :=
  match x.frame with
  | some f => f.first + f.len + 512
  | none => x.next + max 512 x.maxFrame

/-- How many records a queue may fetch now, within the doorbell and the room of the completion ring (R196, R235). -/
def Queue.fetchRoom (x : Queue) : Nat :=
  min (min x.fetchEnd x.avail) (x.released + x.size) - x.fetched

/-- The first record of the run that the next record fetched belongs to. -/
def Queue.runStart (x : Queue) : Nat :=
  x.recs.foldl (fun b r => if r.last && decide (b < r.n + 1) then r.n + 1 else b) x.frameEnd

/-- One record is fetched; a record that cannot be read stops the queue, and so does the L-th record of a run without
FRAME_LAST. -/
def fetchOne (s : State) (q : Nat) : State :=
  let x := s.queue q
  if x.st ≠ .running then s
  else
    let va := x.recVa x.fetched
    let v := vread s x.ctxNo va 64
    let s := vdetect (vnote s x.ctxNo va 64 v.fault) x.ctxNo va 64
    if v.fault.isSome || v.bad then stopQueue s q 0x26
    else
      let r : Rec := ⟨x.fetched, BitVec.ofNat 512 (ofLE v.data), .fetched, 0⟩
      let long := !r.last && decide (x.maxFrame ≤ r.n + 1 - x.runStart)
      let s := s.setQueue q { s.queue q with fetched := x.fetched + 1, recs := (s.queue q).recs ++ [r] }
      if long then stopQueue s q 0x1D else s

/-- R196: every record that a queue may fetch is fetched. -/
def fetchAll (s : State) (q : Nat) : State := sramSweep (forUp (s.queue q).fetchRoom (fun _ t => fetchOne t q) s)

/-! ### Frame starts (R193, R194) -/

/-- The header bits of record `n` of a queue, from the fetched record or from the ring in memory. -/
def peekRec (s : State) (q n : Nat) : Option Rec :=
  let x := s.queue q
  match x.recs.find? (fun r => r.n == n) with
  | some r => some r
  | none =>
    let v := vread s x.ctxNo (x.recVa n) 64
    if v.fault.isSome then none else some ⟨n, BitVec.ofNat 512 (ofLE v.data), .fetched, 0⟩

/-- The length of a queue's next frame, if the doorbell covers its FRAME_LAST record. -/
def nextFrameLen (s : State) (q : Nat) : Option Nat :=
  let x := s.queue q
  let m := min x.maxFrame (x.avail - x.next)
  ((upTo m).find? (fun k => match peekRec s q (x.next + k) with | some r => r.last | none => false)).map (· + 1)

/-- The counter and value of a fence token (R216). -/
def tokenDev (t : Nat) : Nat := bits t 63 46
/-- COUNTER of a token. -/
def tokenCtr (t : Nat) : Nat := bits t 45 38
/-- VALUE of a token. -/
def tokenVal (t : Nat) : Nat := bits t 37 0

/-- R254: the status a FENCE_WAIT fails with at step 7, 0 when it passes. -/
def fenceWaitStatus (s : State) (q t : Nat) : Nat :=
  if tokenDev t ≠ devId s then 0x02
  else if (s.fence (tokenCtr t)).owner ≠ (s.queue q).part then 0x1C else 0

/-- R193, R198, R218: the start condition of a frame's first command at tick `tk`. A first command that fails
validation is no condition. -/
def startCond (s : State) (q : Nat) (r : Rec) (tk : Nat) : Bool :=
  let x := s.queue q
  if r.opcode = 0x1C then
    if r.b 128 then !x.groupEn || decide (r.w 1 ≤ x.gcount) else decide (r.w 1 ≤ tk)
  else if r.opcode = 0x1B then
    fenceWaitStatus s q (r.w 1) != 0 || decide (tokenVal (r.w 1) ≤ (s.fence (tokenCtr (r.w 1))).val.toNat)
  else true

/-- Whether a tick is a hold tick for a queue (R207, R208). -/
def queueHolds (s : State) (q tk : Nat) : Bool :=
  let x := s.queue q
  s.pwr.idleNow || (x.groupEn && (s.group x.group).holds.contains tk)

/-- R193: the next frame of a queue starts at tick `tk` if every condition holds. -/
def startFrame (s : State) (q tk : Nat) : State :=
  let x := s.queue q
  if s.pst ≠ .active ∨ s.pwr.exiting ∨ x.st ≠ .running ∨ x.frame.isSome then s
  else if queueHolds s q tk || (x.groupEn && s.tick.lock == 2) then s
  else
    match nextFrameLen s q, peekRec s q x.next with
    | some n, some r =>
      if startCond s q r tk then
        let f : Frame := { first := x.next, len := n, startTick := tk, closing := tk + tickStep s.tick.sel }
        queueCtr (s.setQueue q { x with frame := some f, next := x.next + n }) q 0x148 1
      else s
    | _, _ => s

/-! ### Late frames (R206) -/

/-- A frame raises OVERRUN for its closing tick: later completions carry the flag. -/
def raiseOverrun (s : State) (q : Nat) : State :=
  let x := s.queue q
  match x.frame with
  | none => s
  | some f =>
    if f.late ∧ f.held = f.closing then s
    else
      let s := s.setQueue q { x with frame := some { f with late := true, held := f.closing } }
      tickCtr (queueCtr s q 0x150 1) 0x128 1

/-! ### Commands (R231) -/

/-- A record that may start now, whose opcode `own` accepts. -/
def ready (s : State) (q n : Nat) (own : Rec → Bool) : Option Rec :=
  match findRec s ⟨q, n⟩ with
  | none => none
  | some r => if s.pst == .active && mayStart (s.queue q) r && own r then some r else none

/-- A command is dispatched: the header checks of R231, then `f`. -/
def dispatch (s : State) (q n : Nat) (own : Rec → Bool) (f : Rec → State) : State :=
  match ready s q n own with
  | none => s
  | some r =>
    let h := headerStatus s q r
    if h ≠ 0 then completeSt s ⟨q, n⟩ h else f r

/-- R227: payload bits from `lo` to `hi` that must be zero. -/
def Rec.zero (r : Rec) (hi lo : Nat) : Bool := r.f hi lo == 0

/-- R40: whether a capability bit is set in CAP_EFFECTIVE. -/
def capOk (s : State) (b : Nat) : Bool := s.agt.cap.testBit b

/-- The first nonzero status of a list of checks in order. -/
def firstStatus : List (Bool × Nat) → Nat
  | [] => 0
  | (bad, st) :: t => if bad then st else firstStatus t

end Sys2Proof.Machine
end

