-- ==== Sys2Proof/Machine/QueueCmds.lean ====
section
/-!
DEFINITION. The meanings of the commands that enable, disable and feed a queue (spec/17_host_registers.md R527 to
R535; spec/06_command_model.md R196).
-/
namespace Sys2Proof.Machine

/-- The register page of queue `q` (R526). -/
def queuePage (q : Nat) : Nat := 0x100 + q

/-- R519: function `f` exists: 0 is the PF, `v + 1` is VF `v`. -/
def fnExists (s : State) (f : Nat) : Bool := f == 0 || (s.host.vfEnable && decide (f - 1 < s.host.numVfs))

/-- R517: the MSI-X table size of a function. -/
def msixSize (f : Nat) : Nat := if f = 0 then 80 else 16

/-- R518: register accesses of the host are served in Active and Dormant, while the link is up. -/
def served (s : State) : Bool := s.host.linkUp && (s.pst == .active || s.pst == .dormant)

/-- R524: whether function `f` may write ENABLE and IRQ of queue `q`. -/
def ownsQueue (s : State) (f q : Nat) : Bool := f == 0 || (s.queue q).func == f

/-- R528, R529 item 3: the fields of QUEUE.CTRL, RING and CRING are in range. -/
def queueFieldsOk (s : State) (x : Queue) : Bool :=
  let c := x.ctrl.toNat
  let h := bits c 46 39
  (if x.groupEn then decide (1 ≤ h) && decide (h ≤ periodNs s.tick.sel / 512) else x.group == 0 && h == 0)
    && decide (x.func ≤ 8) && decide (6 ≤ x.logSize) && decide (x.logSize ≤ 16) && bits c 20 16 == 0
    && bits x.ring.toNat 63 48 == 0 && bits x.ring.toNat 5 0 == 0
    && bits x.cring.toNat 63 48 == 0 && bits x.cring.toNat 5 0 == 0

/-- R529: whether a write of EN = 1 is accepted. -/
def enableOk (s : State) (q : Nat) : Bool :=
  let x := s.queue q
  s.pst == .active && !s.pwr.entering && x.st == .disabled && !x.draining && queueFieldsOk s x
    && (s.ctx x.ctxNo).root.getLsbD 63 && fnExists s x.func
    && !(x.groupEn && (memberQ s x.group).isSome)
    && decide (x.cplVec < msixSize x.func) && decide (x.stopVec < msixSize x.func)

/-- R204: the group tick count at an enable: the ticks from the origin to the last tick. -/
def countSince (s : State) (origin : Nat) : Nat := (s.tick.last - origin) / tickStep s.tick.sel

/-- R529: an accepted enable. -/
def enableQueue (s : State) (q : Nat) : State :=
  if !enableOk s q then writeIgnored s (queuePage q) 0x108
  else
    let x := s.queue q
    s.setQueue q {
      ctrl := x.ctrl, ring := x.ring, cring := x.cring, origin := x.origin, irq := x.irq
      st := .running
      epoch := bits x.ctrl.toNat 15 0
      gcount := countSince s x.origin.toNat
      ctr := tabSet [] 0x188 (ctrGet x.ctr 0x188) }

/-- R530 item 4: whether a collective or an update of a queue has been dispatched and has not completed. -/
def collPending (s : State) (q : Nat) : Bool :=
  s.ce.colls.any (fun c => c.ref.q == q) || s.hubq.coll.any (fun r => r.q == q) || s.hubq.upd.any (fun r => r.q == q)
    || (match s.upd.run with | some u => u.ref.q == q | none => false)

/-- R530 items 1 to 4: a host disable. -/
def disableQueue (s : State) (q : Nat) : State :=
  let x := s.queue q
  if x.st = .disabled ∨ x.draining then s
  else
    let s := s.setQueue q { x with st := .stopped, stopCode := 0, draining := true }
    let s := if collPending s q then abortOf s q 0x6A else s
    failUnstarted s q 0xA4

/-- R530 item 5: what a core holds for a queue is released. -/
def Core.release (c : Core) (q : Nat) : Core :=
  let m := c.mxa
  let free (b : Bank) : Bank := if b.owner = q ∧ b.st ≠ .free then {} else b
  let lagg := m.lagg.map (fun e => if e.2.taken && e.2.queue == q then (e.1, ({} : LaggSlot)) else e)
  let skip (h : Nat) : Nat := if h = m.laggNext ∨ (tabGet lagg {} h).taken then h else (h + 1) % 8
  { c with mxa := { m with
      bankA := free m.bankA
      bankB := free m.bankB
      peat := m.peat.map (fun e => if e.2.st != .empty && e.2.owner == q then (e.1, ({} : Peat)) else e)
      lagg := lagg
      laggHead := if m.lagg.any (fun e => e.2.taken && e.2.queue == q) then forUp 8 (fun _ h => skip h) m.laggHead
        else m.laggHead } }

/-- R530 items 5 and 6: the end of a disable, once the last completion has been written. -/
def disableDone (s : State) (q : Nat) : State :=
  let x := s.queue q
  if !x.draining || x.frame.isSome then s
  else
    let s := { s with cores := s.cores.map (fun (c : Nat × Core) => (c.1, c.2.release q)) }
    let s := s.setQueue q { x with st := .disabled, draining := false, recs := [] }
    sendMsix s x.func x.stopVec

/-- R549: the reset of function `f` is complete: its queues are Disabled, and its MSI-X table and PBA are cleared. -/
def flrEnd (s : State) (f : Nat) : State :=
  if s.queues.any (fun e => e.2.func == f && e.2.st != .disabled) then s
  else { s with host := { s.host with
    flrs := setDel s.host.flrs f, msix := s.host.msix.filter (fun e => e.1 / 128 != f) } }

/-- Every reset of a function that can complete does. -/
def flrSweep (s : State) : State := s.host.flrs.foldl flrEnd s

/-- R534: a doorbell write that is not accepted. -/
def doorbellIgnored (s : State) (q ofs : Nat) : State :=
  writeIgnored (queueCtr s q 0x190 1) (queuePage q) ofs

/-- R534: a write of SQ_TAIL by function `f`. -/
def sqTailWrite (s : State) (f q v : Nat) : State :=
  let x := s.queue q
  let v := v % 2 ^ 32
  if x.func ≠ f then foreignWrite s (queuePage q) 0
  else if s.pst = .active ∧ x.st = .running
      ∧ (v + 2 ^ 32 - x.sqTail.toNat) % 2 ^ 32 < 2 ^ 31 ∧ (v + 2 ^ 32 - x.cqHead.toNat) % 2 ^ 32 ≤ x.size then
    s.setQueue q { x with sqTail := BitVec.ofNat 32 v }
  else doorbellIgnored s q 0

/-- R534: a write of CQ_HEAD by function `f`. -/
def cqHeadWrite (s : State) (f q v : Nat) : State :=
  let x := s.queue q
  let v := v % 2 ^ 32
  if x.func ≠ f then foreignWrite s (queuePage q) 8
  else if s.pst = .active ∧ x.st = .running
      ∧ (v + 2 ^ 32 - x.cqHead.toNat) % 2 ^ 32 < 2 ^ 31 ∧ (x.completed % 2 ^ 32 + 2 ^ 32 - v) % 2 ^ 32 < 2 ^ 31 then
    s.setQueue q { x with cqHead := BitVec.ofNat 32 v }
  else doorbellIgnored s q 8

/-- A host access by function `f` to a register of queue `q` is served, refused to a foreign function, or does not
arrive. -/
def queueAccess (s : State) (f q ofs : Nat) (k : State) : State :=
  if !served s || !fnExists s f then s
  else if ownsQueue s f q then k else foreignWrite s (queuePage q) ofs

/-- QUEUE_ENABLE: function `f` writes EN = 1 (R529). -/
def execQueueEnable (f : Fin 9) (q : Fin 64) (s : State) : Host.Outcome State Fault Refusal :=
  .next (queueAccess s f q 0x108 (enableQueue s q))

/-- QUEUE_DISABLE: function `f` writes EN = 0 (R530). -/
def execQueueDisable (f : Fin 9) (q : Fin 64) (s : State) : Host.Outcome State Fault Refusal :=
  .next (queueAccess s f q 0x108 (disableQueue s q))

/-- DISABLE_COMPLETE: a disable ends (R530). -/
def execDisableComplete (q : Fin 64) (s : State) : Host.Outcome State Fault Refusal :=
  .next (flrSweep (disableDone s q))

/-- R522, R533: nonzero reserved bits of a doorbell write are recorded. -/
def doorbellRsv (s : State) (q ofs v : Nat) : State := if v < 2 ^ 32 then s else badAccess s (queuePage q) ofs

/-- SQ_TAIL: function `f` writes the submission doorbell (R533, R534). -/
def execSqTail (f : Fin 9) (q : Fin 64) (v : W64) (s : State) : Host.Outcome State Fault Refusal :=
  .next (if served s && fnExists s f then sqTailWrite (doorbellRsv s q 0 v.toNat) f q v.toNat else s)

/-- CQ_HEAD: function `f` writes the completion doorbell (R533, R534). -/
def execCqHead (f : Fin 9) (q : Fin 64) (v : W64) (s : State) : Host.Outcome State Fault Refusal :=
  .next (if served s && fnExists s f then cqHeadWrite (doorbellRsv s q 8 v.toNat) f q v.toNat else s)

/-- COMMAND_FETCH: the package fetches the records that queue `q` may fetch (R192, R196, R235). -/
def execCommandFetch (q : Fin 64) (s : State) : Host.Outcome State Fault Refusal :=
  .next (if s.pst == .active then fetchAll s q else s)

end Sys2Proof.Machine
end

