-- ==== Sys2Proof/Machine/RegRead.lean ====
section
/-!
DEFINITION. What every register and the AGT read (spec/17_host_registers.md R521 to R547 with the rules its page index
names; spec/01_package.md R32 to R40).
-/
namespace Sys2Proof.Machine

/-! ### Pages (R525, R526) -/

/-- A block of the page index: type, first page, instances, offset one past its last block register. -/
structure Block where
  type : Nat
  page : Nat
  count : Nat
  extent : Nat
  deriving DecidableEq, Repr

/-- R526: the page index. -/
def pageIndex : List Block :=
  [⟨1, 0, 1, 0x258⟩, ⟨2, 1, 1, 0x148⟩, ⟨3, 2, 1, 0x220⟩, ⟨4, 3, 1, 0x140⟩, ⟨5, 4, 1, 0x130⟩, ⟨6, 5, 1, 0x160⟩,
   ⟨7, 6, 1, 0x1B0⟩, ⟨8, 7, 1, 0x140⟩, ⟨9, 8, 1, 0x360⟩, ⟨0xA, 9, 1, 0x138⟩, ⟨0xB, 0xA, 1, 0x748⟩,
   ⟨0xC, 0xB, 1, 0x118⟩, ⟨0xD, 0xC, 1, 0xD00⟩, ⟨0xE, 0xD, 1, 0x900⟩, ⟨0xF, 0xE, 1, 0x700⟩, ⟨0x10, 0xF, 1, 0x900⟩]
  ++ [⟨0x11, 0x10, 6, 0x400⟩, ⟨0x12, 0x18, 2, 0x158⟩, ⟨0x13, 0x1C, 3, 0x1000⟩, ⟨0x14, 0x30, 64, 0x128⟩,
   ⟨0x15, 0x100, 64, 0x198⟩, ⟨0x16, 0x200, 64, 0x190⟩, ⟨0x17, 0x240, 64, 0x900⟩, ⟨0x18, 0x1000, 256, 0x210⟩]

/-- The block of a page number, if the page index lists it. -/
def pageBlock (pg : Nat) : Option Block :=
  pageIndex.find? (fun b => decide (b.page ≤ pg) && decide (pg < b.page + b.count))

/-- R2, R525: whether the part number enables the unit of a page. -/
def pagePresent (s : State) (b : Block) (i : Nat) : Bool :=
  match b.type with
  | 0x11 => decide (4 ≤ i) || decide (i < partDies s.partNo)
  | 0x16 => portPresent s i
  | 0x17 => portPresent s i
  | 0x18 => decide (i < 64 * partDies s.partNo)
  | _ => true

/-- R525: IN_SERVICE. -/
def pageInService (s : State) (b : Block) (i : Nat) : Bool :=
  match b.type with
  | 0x11 => if i < 4 then s.agt.diesActive.getLsbD i
    else (s.link i).usable != 0 && ((s.guest (i - 4)).st == 1 || (s.guest (i - 4)).st == 2)
  | 0x12 => (s.guest i).st == 2
  | 0x13 => Config.inService b.type i
  | 0x14 => (s.ctx i).root.getLsbD 63
  | 0x15 => (s.queue i).st != .disabled
  | 0x16 => portUp s i
  | 0x17 => Config.inService b.type i
  | 0x18 => coreOn s i
  | _ => true

/-- The header registers of a page. -/
def readHeader (s : State) (b : Block) (pg o : Nat) : Nat :=
  let i := pg - b.page
  let x := s.page pg
  match o with
  | 0x000 => b.type + i * 2 ^ 16 + (if b.type = 0x11 then 2 else 1) * 2 ^ 32
  | 0x008 => b.extent + b.count * 2 ^ 32
  | 0x018 => b2n (pagePresent s b i) + 2 * b2n (pageInService s b i)
  | 0x020 => x.err.toNat + x.ofs * 2 ^ 52
  | 0x028 => x.mask.toNat
  | 0x038 => x.evt.toNat
  | _ => 0

/-! ### The HOST and TICK pages (R225, R226, R536 to R541) -/

/-- R536: HOST.ERR_BLOCKS. -/
def errBlocks (s : State) : Nat :=
  s.pages.foldl (fun n e =>
    if Nat.land e.2.err.toNat (31 - e.2.mask.toNat) = 0 then n
    else match pageBlock e.1 with
      | some b => Nat.lor n (2 ^ b.type)
      | none => n) 0

/-- R538: PART_MAP[r] as in force. -/
def readPartMap (s : State) (r : Nat) : Nat := packElems 8 ((upTo 8).map (fun i => tabGet s.partOf 255 (8 * r + i)))

/-- R539: FENCE_MAP[i] as in force. -/
def fenceMapNow (s : State) (i : Nat) : Nat :=
  packElems 8 ((upTo 8).map (fun c => (s.fence (8 * i + c)).owner + 8 * b2n (s.fence (8 * i + c)).remote))

/-- FENCE_MAP[i] as last written. -/
def readFenceMap (s : State) (i : Nat) : Nat := (tabGet s.host.fencePend (BitVec.ofNat 64 (fenceMapNow s i)) i).toNat

/-- The HOST page. -/
def readHost (s : State) (o : Nat) : Nat :=
  if o = 0x100 then s.host.irqStat.toNat
  else if o = 0x108 then s.host.irqMask.toNat
  else if o = 0x110 then errBlocks s
  else if o < 0x138 then readPartMap s ((o - 0x118) / 8)
  else if o < 0x238 then readFenceMap s ((o - 0x138) / 8)
  else if o = 0x238 then s.host.bar4Base.toNat
  else if o = 0x240 then s.host.vfCtx.toNat
  else (ctrGet s.host.ctr o).toNat

/-- R225: OFFSET in whole ns, saturating. -/
def offsetField (s : State) : Nat :=
  let o := s.tick.offset
  let n := o / 256 + (if o % 256 ≠ 0 ∧ Config.offsetUp o then 1 else 0)
  toBits 13 (max (-4095) (min 4095 n))

/-- R225: TICK.STAT. -/
def readTickStat (s : State) : Nat :=
  let t := s.tick
  let m := t.master.getD 0
  let b := t.backup.getD m
  let pp := match t.parent with | some p => p.port | none => 0
  m * 2 ^ 46 + b * 2 ^ 28 + t.lock * 2 ^ 26 + b2n (isMaster s) * 2 ^ 25 + b2n (t.backup == some (devId s)) * 2 ^ 24
    + t.sel * 2 ^ 21 + b2n t.change.isSome * 2 ^ 20 + pp * 2 ^ 14 + b2n t.parent.isNone * 2 ^ 13 + offsetField s

/-- The TICK page, `dt` ns after the last tick. -/
def readTick (s : State) (dt o : Nat) : Nat :=
  match o with
  | 0x100 => readTickStat s
  | 0x108 => s.tick.last
  | 0x110 => s.tick.time + dt
  | 0x118 => s.tick.req
  | 0x120 => b2n s.tick.eligible
  | _ => (ctrGet s.tick.ctr o).toNat

/-! ### The PWR and BRING pages (R458 to R460, R486, R487) -/

/-- R460: PWR.STAT. -/
def readPwrStat (s : State) : Nat :=
  let p := s.pwr
  p.pinW % 65536 + (p.vin10 % 65536) * 2 ^ 16 + stagesOk p * 2 ^ 35 + p.thermCeil * 2 ^ 40 + b2n p.rsenseLost * 2 ^ 44
    + b2n (p.fast10 != 0) * 2 ^ 45 + b2n (thermLimit p) * 2 ^ 46 + b2n (p.idleN != 0) * 2 ^ 47 + p.idleN * 2 ^ 48
    + p.nextOp * 2 ^ 53 + p.curOp * 2 ^ 57 + stateCode s.pst * 2 ^ 61

/-- R459: PWR.CTRL as last written. -/
def readPwrCtrl (s : State) : Nat :=
  match s.pwr.next with
  | some v => v.toNat
  | none => s.pwr.capW + b2n s.pwr.hintEn * 2 ^ 16 + s.pwr.opMax * 2 ^ 32

/-- The PWR page. -/
def readPwr (s : State) (o : Nat) : Nat :=
  match o with
  | 0x100 => readPwrCtrl s
  | 0x108 => readPwrStat s
  | 0x110 => 0
  | 0x118 => s.pwr.tripCause + s.pwr.tripTick * 2 ^ 32
  | _ => (ctrGet s.pwr.ctr o).toNat

/-- R487: BRING.STAT. -/
def readBringStat (s : State) : Nat :=
  let b := s.bring
  b2n (!b.partResets.isEmpty) * 2 ^ 19 + b.retrained * 2 ^ 20 + b.diesFenced.toNat * 2 ^ 28 + b.disagree * 2 ^ 32
    + b.portsDropped * 2 ^ 40 + b2n b.belowGrade * 2 ^ 48 + b2n b.cold * 2 ^ 49 + b.failCause * 2 ^ 50
    + b.step * 2 ^ 58 + b.result * 2 ^ 62

/-- The BRING page. -/
def readBring (s : State) (o : Nat) : Nat :=
  match o with
  | 0x100 => readBringStat s
  | 0x108 => s.bring.readyMs
  | _ => (ctrGet s.bring.ctr o).toNat

/-! ### The BMGT and LOG pages (R498, R515, R516) -/

/-- One controller of Bittern: false BMA, true BMB. -/
def State.ctl (s : State) (c : Bool) : Ctl := if c then s.bit.bmb else s.bit.bma
/-- The state with a controller replaced. -/
def State.setCtl (s : State) (c : Bool) (x : Ctl) : State :=
  { s with bit := if c then { s.bit with bmb := x } else { s.bit with bma := x } }
/-- Image slot `k`. -/
def State.slot (s : State) (k : Nat) : Slot := if k = 0 then s.bit.slot0 else s.bit.slot1
/-- The state with an image slot replaced. -/
def State.setSlot (s : State) (k : Nat) (x : Slot) : State :=
  { s with bit := if k = 0 then { s.bit with slot0 := x } else { s.bit with slot1 := x } }

/-- R490, R494: the acting controller: of two that believe so, the one whose key every block holds. -/
def acting (s : State) : Option Bool :=
  match s.bit.bma.st, s.bit.bmb.st with
  | .acting, .acting => some s.bit.key.bmb
  | .acting, _ => some false
  | _, .acting => some true
  | _, _ => none

/-- The standby controller. -/
def standbyCtl (s : State) : Option Bool :=
  if s.bit.bma.st = .standby then some false else if s.bit.bmb.st = .standby then some true else none

/-- R515: the code of a controller's state. -/
def ctlCode : CtlSt → Nat
  | .resetting => 0 | .acting => 1 | .standby => 2 | .recovery => 3

/-- The image that a controller runs. -/
def ctlImage (s : State) (c : Option Bool) : Option ImageFacts :=
  c.bind (fun b => (s.ctl b).slot.map (fun k => (s.slot k).img))

/-- R515: BMGT.STAT. -/
def readBmgtStat (s : State) : Nat :=
  let b := s.bit
  let act := acting s
  let slot := (act.bind (fun c => (s.ctl c).slot)).getD 0
  let run := match ctlImage s act with | some x => x.svn | none => 0
  b2n b.i3cIsolated * 2 ^ 6 + b2n b.eth.enable * 2 ^ 7 + (run % 256) * 2 ^ 8 + b.svnMin * 2 ^ 16 + slot * 2 ^ 24
    + b2n b.trial.isSome * 2 ^ 25 + ctlCode b.bmb.st * 2 ^ 26 + ctlCode b.bma.st * 2 ^ 28
    + (match act with | some c => b2n c | none => 2) * 2 ^ 30 + b.key.epoch * 2 ^ 32

/-- R515: BMGT.FW_VERSION. -/
def readFwVersion (s : State) : Nat :=
  let v (c : Option Bool) : Nat := match ctlImage s c with | some x => x.version % 2 ^ 32 | none => 0
  v (acting s) + v (standbyCtl s) * 2 ^ 32

/-- The BMGT page. -/
def readBmgt (s : State) (o : Nat) : Nat :=
  match o with
  | 0x100 => readBmgtStat s
  | 0x108 => 0
  | 0x110 => readFwVersion s
  | _ => (ctrGet s.bit.ctr o).toNat

/-- R498: the first 60 bytes of an entry; `boots` is zero in the ring. -/
def LogEntry.body (e : LogEntry) (boots : Nat) : List Byte :=
  let w0 := 2 * b2n e.ev.ctrl + 4 * e.ev.sev + 16 * e.ev.src + (e.ev.inst % 256) * 2 ^ 8 + e.ev.code * 2 ^ 16
    + e.tick * 2 ^ 32
  toLE 8 w0 ++ toLE 8 (e.auth + (e.seq % 2 ^ 32) * 2 ^ 32) ++ toLE 8 (e.uptime % 2 ^ 48)
    ++ (upTo 4).flatMap (fun i => toLE 8 (e.ev.args.getD i 0)) ++ toLE 4 boots

/-- R498: an entry of the ring, 64 bytes. -/
def LogEntry.bytes (e : LogEntry) : List Byte := e.body 0 ++ toLE 4 0

/-- R498, R500: a flash record, with its CRC over the first 60 bytes. -/
def LogEntry.flashBytes (e : LogEntry) (boots : Nat) : List Byte := e.body boots ++ toLE 4 (crc32 (e.body boots))

/-- R516: the word `w` of entry LOG.SEL, zero where the ring does not hold it. -/
def readLogData (s : State) (w : Nat) : Nat :=
  match s.log.ring.find? (fun e => e.seq == s.log.sel.toNat) with
  | some e => ofLE ((e.bytes.drop (8 * w)).take 8)
  | none => 0

/-- The LOG page. -/
def readLog (s : State) (o : Nat) : Nat :=
  match o with
  | 0x100 => s.log.seq % 2 ^ 32
  | 0x108 => match s.log.ring.getLast? with | some e => e.seq % 2 ^ 32 | none => 0
  | 0x110 => s.log.sel.toNat
  | 0x158 => s.log.lost.toNat
  | _ => readLogData s ((o - 0x118) / 8)

/-! ### Hub pages -/

/-- R281: NUMX.WISP_CTRL[n]; 3, 12 and EN at reset. -/
def wispCtrl (s : State) (n : Nat) : Nat := (tabGet s.numx.wisp 0x30C000001 n).toNat

/-- The NUMX page (R280). -/
def readNumx (s : State) (o : Nat) : Nat :=
  if o < 0x140 then (tabGet s.numx.base 0 ((o - 0x100) / 8)).toNat
  else if o < 0x180 then wispCtrl s ((o - 0x140) / 8)
  else (ctrGet s.numx.ctr o).toNat

/-- UPD.STAT.STATE (R308, R314): an update that is not linked is in its write phase as soon as it has armed. -/
def updState (s : State) : Nat :=
  match s.upd.run with
  | none => 0
  | some u => if u.rs.isSome then 1 else 2

/-- The UPD page (R314, R315). -/
def readUpd (s : State) (o : Nat) : Nat :=
  if o = 0x100 then
    s.upd.rule * 2 ^ 22 + updState s * 2 ^ 24 + s.upd.queue * 2 ^ 26 + s.upd.epoch * 2 ^ 32
  else (ctrGet s.upd.ctr o).toNat

/-- R321: XBAR_CFG[d] as last written. -/
def readXbar (s : State) (d : Nat) : Nat := (tabGet s.xbar.pend (tabGet s.xbar.cfg 0x88888888888 d) d).toNat

/-- The HUB page (R321, R322). -/
def readHub (s : State) (o : Nat) : Nat :=
  if o < 0x158 then readXbar s ((o - 0x100) / 8) else (ctrGet s.xbar.bytes o).toNat

/-- R397, R428: CE.MSELF[i]. -/
def readMself (s : State) (i : Nat) : Nat :=
  let o := 0x108 + 16 * i
  let v := bits (tabGet s.ce.pend (tabGet s.ce.reg 0 o) o).toNat 17 0
  v + b2n (s.ce.valid.contains i) * 2 ^ 18 + (tabGet s.ce.mcrc 0 i).toNat * 2 ^ 32

/-- The CE page (R428). -/
def readCe (s : State) (o : Nat) : Nat :=
  if 0x700 ≤ o then (ctrGet s.ce.ctr o).toNat
  else if (o - 0x100) % 16 = 8 then readMself s ((o - 0x100) / 16)
  else (tabGet s.ce.pend (tabGet s.ce.reg 0 o) o).toNat

/-- R374: a register of a group slot, as last written. -/
def readFgrp (s : State) (o : Nat) : Nat :=
  let i := (o - 0x100) / 32
  let f := tabGet s.fab.slots {} i
  match (o - 0x100) % 32 with
  | 0 =>
    let v := (tabGet s.fab.slotPend f.slot o).toNat
    putBit v 62 (slotBusyAny s (bits f.slot.toNat 61 46))
  | 8 => (tabGet s.fab.slotPend f.fwd o).toNat
  | 16 => (tabGet s.fab.slotPend f.origin o).toNat
  | _ => f.count % 2 ^ 64
where
  /-- Whether a queue of this package has a group. -/
  slotBusyAny (s : State) (g : Nat) : Bool := (memberQ s g).isSome

/-- The LINK page (R353, R354). -/
def readLink (s : State) (l o : Nat) : Nat :=
  let x := s.link l
  if o = 0x100 then packElems 4 ((upTo 16).map (fun m => (s.module l m).st))
  else if o = 0x108 then packElems 1 ((upTo 16).map (fun m => b2n (s.module l m).marginal))
  else if o = 0x110 then x.thresh
  else if o = 0x118 then x.steering.length + x.version * 2 ^ 8 + x.stepping * 2 ^ 16
  else if o < 0x200 then 0
  else (ctrGet (s.module l ((o - 0x200) / 32)).ctr (0x200 + (o - 0x200) % 32)).toNat

/-- R340: GUEST.STAT. -/
def readGuestStat (s : State) (g : Nat) : Nat :=
  let x := s.guest g
  let l := s.link (4 + g)
  let pw := if x.samples.isEmpty then 0 else sampleSum x.samples / x.samples.length
  x.st + l.version * 2 ^ 18 + l.count (fun m => m.st == 4 || m.st == 5) * 2 ^ 20
    + l.count (fun m => m.st == 2 || m.st == 3) * 2 ^ 24 + l.count (fun m => m.st == 1) * 2 ^ 28 + x.rate * 2 ^ 32
    + x.reason * 2 ^ 40 + (pw % 65536) * 2 ^ 48

/-- The GUEST page (R339, R340, R342). -/
def readGuest (s : State) (g o : Nat) : Nat :=
  let x := s.guest g
  if o = 0x100 then x.ctrl.toNat
  else if o = 0x108 then readGuestStat s g
  else if o = 0x110 then x.faults.toNat
  else if x.st = 0 then 0 else ofLE ((x.ident.drop (o - 0x118)).take 8)

/-- R386: the group of an entry of an RTG page; instance 2 holds 64. -/
def rtgEntry (i o : Nat) : Option Nat :=
  let h := 480 * i + (o - 0x100) / 8
  if h < 1024 then some h else none

/-! ### Translation, queues, ports -/

/-- R545: whether a context is in use. -/
def ctxInUse (s : State) (c : Nat) : Bool :=
  s.queues.any (fun e => (e.2.st != .disabled || e.2.draining) && e.2.ctxNo == c)
    || s.guests.any (fun e => e.2.st == 2 && e.2.master && e.2.ctxNo == c)
    || (upTo 8).any (fun v => fnExists s (v + 1) && bits s.host.vfCtx.toNat (8 * v + 5) (8 * v) == c)

/-- The XLAT page (R545). -/
def readXlat (s : State) (c o : Nat) : Nat :=
  let x := s.ctx c
  match o with
  | 0x100 => x.root.toNat
  | 0x108 => 0
  | 0x110 => x.done.toNat * 2 ^ 32 + 4 * b2n (ctxInUse s c) + 2 * b2n x.inv.isSome + b2n (x.root.getLsbD 63)
  | _ => (ctrGet x.ctr o).toNat

/-- R532: QUEUE.STAT. -/
def readQueueStat (x : Queue) : Nat :=
  (x.collSeq % 65536) * 2 ^ 20 + (x.epoch % 65536) * 2 ^ 36 + x.stopCode * 2 ^ 52 + b2n x.frame.isSome * 2 ^ 60
    + b2n x.draining * 2 ^ 61 + (match x.st with | .disabled => 0 | .running => 1 | .stopped => 2) * 2 ^ 62

/-- The QUEUE page (R527). EN is 1 from an accepted enable until it is written 0. -/
def readQueue (s : State) (q o : Nat) : Nat :=
  let x := s.queue q
  match o with
  | 0x100 => x.ctrl.toNat
  | 0x108 => b2n (x.st != .disabled && !x.draining)
  | 0x110 => x.ring.toNat
  | 0x118 => x.cring.toNat
  | 0x120 => x.origin.toNat
  | 0x128 => x.irq.toNat
  | 0x130 => readQueueStat x
  | 0x138 => x.fetched % 2 ^ 32 + (x.completed % 2 ^ 32) * 2 ^ 32
  | 0x140 => x.sqTail.toNat + x.cqHead.toNat * 2 ^ 32
  | _ => (ctrGet x.ctr o).toNat

/-- R393: PORT.STAT. -/
def readPortStat (x : Port) : Nat :=
  b2n x.commit * 2 ^ 18 + b2n x.marginal * 2 ^ 19 + (x.lengthM % 4096) * 2 ^ 20 + (x.nbrPort % 64) * 2 ^ 34
    + (x.nbrDev % 262144) * 2 ^ 40 + x.cause * 2 ^ 58 + portCode x.st * 2 ^ 62

/-- The PORT page (R393, R395). -/
def readPort (s : State) (k o : Nat) : Nat :=
  let x := s.port k
  match o with
  | 0x100 => readPortStat x
  | 0x108 => b2n x.en + 2 * b2n x.retrain
  | _ => (ctrGet x.ctr o).toNat

/-! ### The CORE page (R111, R146, R185, R489) -/

/-- The code of a bank's state. -/
def bankCode : BankSt → Nat
  | .free => 0 | .opened => 1 | .draining => 2

/-- R111: eight bits of MXA_STAT for a bank, and its state above them. -/
def bankField (b : Bank) : Nat := (b.owner % 64) + b2n b.int * 2 ^ 7 + bankCode b.st * 2 ^ 8

/-- R98, R100, R111: the state of a hold side `t` clocks after the start of the load of an operation's first K-block: the
state that one of the K-blocks on this side gives it. A block loads in 128 / g clocks, each but the first while the one
before it is read. -/
def TileOp.sideSt (o : TileOp) (side t : Nat) : Nat :=
  let load := 128 / o.gsize
  let read := o.gclk * load
  (upTo (ceilDiv o.k 128)).foldl (fun st b =>
    let r0 := load + b * read
    let r1 := r0 + o.gclk * ceilDiv (min 128 (o.k - 128 * b)) o.gsize
    let l0 := if b = 0 then 0 else r0 - read
    if (o.first + b) % 2 ≠ side ∨ t < l0 ∨ r1 ≤ t then st
    else if t < l0 + load then 1 else if t < r0 then 2 else 3) 0

/-- R111: the state of a hold side as a register read `dt` ns into the tick finds it. The clock is free among those of the
operation on the port: no command says at which clock a read falls (notes/assumptions/20.md). -/
def Mxa.holdState (m : Mxa) (n dt side : Nat) : Nat :=
  match (m.issued.filter (fun o => o.g != 0)).getLast? with
  | none => 0
  | some o =>
    let load := 128 / o.gsize
    let span := if o.fill then load + o.g + 254 else o.g + 254
    if o.port = 0 then 0
    else o.sideSt side ((if o.fill then 0 else load) + Config.holdClock n dt % span)

/-- R111: CORE.MXA_STAT. -/
def readMxaStat (m : Mxa) (n dt : Nat) : Nat :=
  bankField m.bankA * 2 ^ 8 + bankField m.bankB * 2 ^ 18 + m.holdState n dt 0 * 2 ^ 28 + m.holdState n dt 1 * 2 ^ 30
    + packElems 1 ((upTo 12).map (fun e => b2n ((tabGet m.peat {} e).st != .empty))) * 2 ^ 32
    + (m.lagg.filter (fun e => e.2.ready)).length * 2 ^ 44 + (m.laggSeq.toNat % 65536) * 2 ^ 48

/-- The code of the VE's state. -/
def veCode : VeSt → Nat
  | .idle => 0 | .running => 1 | .waitLagg => 2 | .stopped => 3

/-- R146: CORE.VE_STAT. -/
def readVeStat (c : Core) : Nat :=
  c.ve.last.toNat + c.mxa.laggHead * 2 ^ 21 + veCode c.ve.st * 2 ^ 24 + c.ve.queue * 2 ^ 26 + c.ve.pc.toNat * 2 ^ 32

/-- The fields of one engine in HERON_STAT. -/
def engField (h : Heron) (e : Nat) : Nat := h.outstanding e + (h.eng e).st * 2 ^ 8 + (h.eng e).queue * 2 ^ 10

/-- R185: CORE.HERON_STAT. -/
def readHeronStat (h : Heron) : Nat := engField h 0 + engField h 1 * 2 ^ 16 + h.stage.length * 2 ^ 36

/-- R489: CORE.RAS_STAT. -/
def readRasStat (s : State) (r : Ras) : Nat :=
  let n := (r.parity.filter (fun t => decide (s.uptime < t + dayNs))).length
  r.lastParityTick.toNat + r.resets * 2 ^ 40 + min n 2 * 2 ^ 58 + r.fenceCause * 2 ^ 60

/-- The CORE page. -/
def readCore (s : State) (dt p o : Nat) : Nat :=
  let c := s.core p
  match o with
  | 0x100 => readMxaStat c.mxa s.freeN dt
  | 0x140 => readVeStat c
  | 0x180 => readHeronStat c.heron
  | 0x208 => readRasStat s c.ras
  | _ => (ctrGet c.ctr o).toNat

/-! ### Any register -/

/-- A block register of a page that is present. -/
def readBlock (s : State) (dt : Nat) (b : Block) (i o : Nat) : Nat :=
  match b.type with
  | 1 => readHost s o
  | 2 => readTick s dt o
  | 3 => readPwr s o
  | 4 => readBring s o
  | 5 => readBmgt s o
  | 6 => readLog s o
  | 7 => readNumx s o
  | 8 => readUpd s o
  | 9 => readHub s o
  | 0xA => (ctrGet s.dirCtr o).toNat
  | 0xB => readCe s o
  | 0xC => if o = 0x100 then s.fab.cfg.toNat else (ctrGet s.fab.ctr o).toNat
  | 0xD => readFgrp s o
  | 0xE => (tabGet s.fab.rtl 0 ((o - 0x100) / 8)).toNat
  | 0xF => (tabGet s.fab.cwin 0 o).toNat
  | 0x10 => (s.fence ((o - 0x100) / 8)).val.toNat
  | 0x11 => readLink s i o
  | 0x12 => readGuest s i o
  | 0x13 => match rtgEntry i o with | some h => (tabGet s.fab.rtg 0 h).toNat | none => 0
  | 0x14 => readXlat s i o
  | 0x15 => readQueue s i o
  | 0x16 => readPort s i o
  | 0x17 => (tabGet (s.port i).shadow 0 ((o - 0x100) / 8)).toNat
  | _ => readCore s dt i o

/-- The 64-bit register at offset `o` of page `pg`. -/
def regGet (s : State) (dt pg o : Nat) : Nat :=
  match pageBlock pg with
  | none => 0
  | some b =>
    if o < 0x100 then readHeader s b pg o
    else if b.extent ≤ o ∨ !pagePresent s b (pg - b.page) then 0
    else readBlock s dt b (pg - b.page) o % 2 ^ 64

/-! ### The AGT (R32 to R40) -/

/-- R36: the part number in ASCII. -/
def partName : Part → List Nat
  | .p4032x => [0x42, 0x54, 0x34, 0x2D, 0x34, 0x30, 0x33, 0x32, 0x2D, 0x58]
  | .p4032s => [0x42, 0x54, 0x34, 0x2D, 0x34, 0x30, 0x33, 0x32, 0x2D, 0x53]
  | .p3024s => [0x42, 0x54, 0x34, 0x2D, 0x33, 0x30, 0x32, 0x34, 0x2D, 0x53]
  | .p4032n => [0x42, 0x54, 0x34, 0x2D, 0x34, 0x30, 0x33, 0x32, 0x2D, 0x4E]

/-- R36: MAC_RATE by format code: FP32, BF16, FP16, the 8-bit and 6-bit formats, the 4-bit ones, the rest. -/
def macRate (f : Nat) : Nat :=
  match f with
  | 0 => 1 | 1 => 4 | 2 => 4 | 3 => 8 | 4 => 8 | 5 => 8 | 6 => 8 | 7 => 16 | 8 => 8 | 9 => 8 | 10 => 16 | 11 => 8
  | 12 => 8 | 13 => 16 | _ => 0

/-- The offsets 0x040 to 0x1A0 of the AGT. -/
def agtStatic (s : State) : List (Nat × Nat × Nat) :=
  let pn := s.partNo
  let dies := partDies pn
  let geo : List (Nat × Nat × Nat) :=
    [(0x040, 8, s.agt.capDie.getD 4 0), (0x048, 16, ofLE ((partName pn).map (fun c => BitVec.ofNat 8 c))),
     (0x058, 5, packElems 8 s.agt.stepping), (0x060, 1, 2 ^ dies - 1), (0x061, 1, 8), (0x062, 1, 8), (0x063, 1, 8),
     (0x064, 2, 128), (0x066, 2, 128), (0x068, 4, 6291456), (0x06C, 4, 1048576), (0x070, 4, 100663296), (0x074, 1, 8),
     (0x075, 1, 2), (0x076, 1, 24), (0x078, 2, 64), (0x07A, 2, 4096), (0x07C, 2, 256), (0x07E, 1, 32), (0x07F, 1, 8)]
  let mem : List (Nat × Nat × Nat) :=
    [(0x080, 1, 32), (0x081, 1, 8), (0x088, 16, packElems 8 ((upTo 16).map macRate)), (0x0A0, 8, stackBytes pn),
     (0x0A8, 4, 2 ^ (8 * dies) - 1), (0x0AC, 4, 4096), (0x0B0, 8, 0x8000000000), (0x0B8, 1, 7), (0x0B9, 1, 18),
     (0x0BA, 1, 4), (0x0BB, 1, 4), (0x0BC, 4, 800000), (0x0C0, 8, 2 ^ partPorts pn - 1), (0x0C8, 2, partTdp pn),
     (0x0CA, 2, 1200), (0x0CC, 2, 10), (0x0CE, 2, 5200), (0x0D0, 2, 120), (0x0D2, 2, 3000), (0x0D4, 1, 0x1F)]
  geo ++ mem ++ [(0x0D5, 1, 8), (0x0D6, 1, 2), (0x0D7, 1, 4), (0x0D8, 4, 65536), (0x0DC, 2, 128)]
    ++ (upTo 16).map (fun i => (0x0E0 + 8 * i, 8, opClock i + b2n (s.agt.opEn.getLsbD i) * 2 ^ 16))
    ++ [(0x160, 32, s.agt.fuseBad.toNat), (0x180, 32, s.agt.testBad.toNat)]

/-- A field list as bytes of `n` offsets from `o`. -/
def fieldBytes (fs : List (Nat × Nat × Nat)) (o n : Nat) : List Byte :=
  (upTo n).map (fun k =>
    match fs.find? (fun f => decide (f.1 ≤ o + k) && decide (o + k < f.1 + f.2.1)) with
    | some f => BitVec.ofNat 8 (f.2.2 / 2 ^ (8 * (o + k - f.1)))
    | none => 0)

/-- R36: the dynamic section. -/
def agtDynamic (s : State) : List (Nat × Nat × Nat) :=
  [(0x800, 32, s.agt.enabled.toNat), (0x820, 32, s.agt.lateFenced.toNat),
   (0x840, 2, popCount 256 s.agt.enabled.toNat), (0x842, 1, s.agt.diesActive.toNat), (0x843, 1, s.pwr.curOp),
   (0x844, 2, s.pwr.capW), (0x848, 4, periodNs s.tick.sel), (0x84C, 4, devId s), (0x850, 4, s.agt.stacksActive.toNat),
   (0x858, 8, upMask s)]
  ++ (upTo 6).map (fun l => (0x860 + 8 * l, 8, s.agt.links.getD l 0))
  ++ (upTo 2).map (fun g => (0x890 + 16 * g, 16, s.agt.guests.getD g 0))
  ++ [(0x8B0, 32, packElems 8 ((upTo 32).map (fun c => tabGet s.partOf 255 c)))]

/-- R36: the header, with its CRC over offsets 0x040 to 0x7FF. -/
def agtHeader (s : State) : List (Nat × Nat × Nat) :=
  [(0x000, 4, 0x34544741), (0x004, 2, 0x0100), (0x006, 2, 0x1000),
   (0x008, 4, crc32 (fieldBytes (agtStatic s) 0x40 0x7C0)),
   (0x010, 8, s.agt.generation.toNat), (0x018, 8, s.agt.cap)]
  ++ (upTo 4).map (fun d => (0x020 + 8 * d, 8, s.agt.capDie.getD d 0))

/-- R33: whether the AGT is valid. -/
def agtValid (s : State) : Bool := s.agt.valid && (s.pst == .active || s.pst == .dormant)

/-- R32: `n` bytes of the AGT from offset `o`; bytes past its last one are zero. -/
def agtBytes (s : State) (o n : Nat) : List Byte :=
  if !agtValid s then List.replicate n 0
  else
    let parts := (if o < 0x40 then agtHeader s else []) ++ agtStatic s ++ agtDynamic s
    fieldBytes (parts.filter (fun f => decide (f.1 < o + n) && decide (o < f.1 + f.2.1))) o n

end Sys2Proof.Machine
end

