-- ==== Sys2Proof/Machine/MgmtOps.lean ====
section
/-!
DEFINITION. The management subsystem: authority and takeover, boot, updates, and what the protocols share
(spec/16_bittern_management.md R490 to R514).
-/
namespace Sys2Proof.Machine

/-- Whether VSB is up: Bittern is alive in every state but Off. -/
def vsbUp (s : State) : Bool := s.pst != .off

/-- A log entry that a controller submits. -/
def ctlLog (s : State) (c : Bool) (e : LogIn) : State := logAdd s { e with ctrl := c }

/-! ### Authority (R493, R494) -/

/-- Whether one key is below another: by epoch, at equal epochs BMA above BMB. -/
def AuthKey.below (a b : AuthKey) : Bool :=
  decide (a.epoch < b.epoch) || (a.epoch == b.epoch && a.bmb && !b.bmb)

/-- A controller learns the key that every block holds; one that acted drops to standby and logs AUTH_LOST. -/
def loseAuth (s : State) (c : Bool) : State :=
  let x := s.ctl c
  let k := s.bit.key
  let was := x.st == .acting
  let s := s.setCtl c { x with seen := max x.seen k.epoch, st := if was then .standby else x.st }
  if was then ctlLog s c { code := 0x11, src := 0, sev := 3, args := [k.epoch, b2n k.bmb] } else s

/-- R494: a write or claim with a stale key is rejected at a block. -/
def staleKey (s : State) (block : Nat) (k : AuthKey) : State :=
  let s := bmgtCtr s 0x118 1
  let s := if s.bit.staleLogged.contains k then s
    else logAdd { s with bit := { s.bit with staleLogged := s.bit.staleLogged ++ [k] } }
      { code := 0x12, inst := block % 256, src := 0, sev := 1, ctrl := k.bmb, args := [k.epoch, s.bit.key.epoch] }
  loseAuth s k.bmb

/-- R495: what a takeover ends: a transfer, and the SPDM exchanges. -/
def dropWork (s : State) : State :=
  let s := match s.bit.xfer with
    | some k => s.setSlot k {}
    | none => s
  { s with bit := { s.bit with xfer := none, spdm := [] } }

/-- R493: controller `c` claims the epoch after the highest it has seen, for a cause of AUTH_CHANGE. -/
def claimAuth (s : State) (c : Bool) (cause : Nat) : State :=
  let x := s.ctl c
  if 0xFFFFFFFF ≤ x.seen then
    let s := s.setCtl c { x with st := .standby }
    ctlLog s c { code := 0x13, src := 0, sev := 3 }
  else
    let old := s.bit.key
    let k : AuthKey := ⟨x.seen + 1, c⟩
    if k.below old then staleKey s 5 k
    else
      let s := dropWork (s.setCtl c { x with st := .acting, seen := k.epoch, claim := k.epoch })
      let s := { s with bit := { s.bit with key := k, claimedOnce := true } }
      let s := if cause = 5 then s else bmgtCtr s 0x120 1
      ctlLog s c { code := 0x10, src := 0, sev := 3, args := [old.epoch % 2 ^ 32 + cause * 2 ^ 32] }

/-- R492, R494: controller `b` claims; a controller `a` that acts sees the claim in the mailbox and loses authority. -/
def claimFrom (s : State) (a : Option Bool) (b : Bool) (cause : Nat) : State :=
  let s := claimAuth s b cause
  match a with
  | some a => if (s.ctl b).st = .acting then loseAuth s a else s
  | none => s

/-- R492: the acting controller hands over to the standby controller, which has seen its claim. -/
def handOver (s : State) (cause : Nat) : State :=
  match acting s, standbyCtl s with
  | some a, some b =>
    claimFrom (s.setCtl b { s.ctl b with seen := max (s.ctl b).seen s.bit.key.epoch }) (some a) b cause
  | _, _ => s

/-! ### Boot (R504) -/

/-- R504 checks 1 to 5 on an image: the number of the first that fails, 0 when it passes. -/
def imageCheck (s : State) (i : ImageFacts) : Nat :=
  if !i.headerOk then 1
  else if !i.keyMatches || decide (4 ≤ i.keyIndex) || s.bit.revoke.getLsbD i.keyIndex then 2
  else if !i.sigOk then 3
  else if !i.bodyOk then 4
  else if i.svn < s.bit.svnMin then 5 else 0

/-- R504: the boot checks of a slot. A slot that failed its trial is BAD. -/
def bootCheck (s : State) (k : Nat) : Nat :=
  let c := imageCheck s (s.slot k).img
  if c ≠ 0 then c
  else match (s.slot k).st with
    | .valid => 0 | .trial => 0 | .confirmed => 0 | _ => 6

/-- FW_UPDATE (R499). -/
def fwLog (s : State) (k action : Nat) : State :=
  logAdd s { code := 0x22, inst := k, src := 10, sev := 3, args := [action, (s.slot k).img.version] }

/-- R506: the trial rolls back: its slot becomes BAD and PRIMARY returns to the other. -/
def rollBack (s : State) (k : Nat) : State :=
  let s := s.setSlot k { s.slot k with st := .bad }
  fwLog { s with bit := { s.bit with trial := none, primary := 1 - k } } k 4

/-- A controller that has booted slot `k` takes its place (R492, R505 step 3, R507). -/
def bootDone (s : State) (c : Bool) (k : Nat) : State :=
  let s := s.setCtl c { s.ctl c with slot := some k, seen := max (s.ctl c).seen s.bit.key.epoch, st := .standby }
  if s.bit.trial = some k then claimFrom s (acting s) c (if s.bit.claimedOnce then 4 else 5)
  else if !s.bit.claimedOnce && !c then claimAuth s c 5
  else s

/-- R504: a controller in reset boots the first slot that passes, or enters recovery. -/
def controllerBoot (s : State) (c selfTest : Bool) : State :=
  if !vsbUp s ∨ (s.ctl c).st ≠ .resetting then s
  else
    let order := [s.bit.primary, 1 - s.bit.primary]
    let fails := order.takeWhile (fun k => bootCheck s k != 0)
    let s' := fails.foldl (fun t k =>
      ctlLog t c { code := 0x21, inst := k, src := 10, sev := 3, args := [bootCheck s k] }) s
    match order.find? (fun k => bootCheck s k == 0) with
    | none => s'.setCtl c { s'.ctl c with st := .recovery, slot := none }
    | some k =>
      let tr := (s'.slot k).st == .trial
      let i := (s'.slot k).img
      let s' := ctlLog s' c { code := 0x20, inst := k, src := 10, sev := 0, args := [i.version, i.svn, b2n tr] }
      if tr && !selfTest then rollBack s' k else bootDone s' c k

/-- A controller is reset. -/
def resetCtl (s : State) (c : Bool) : State := s.setCtl c { seen := (s.ctl c).seen }

/-- R492, R506: a controller's watchdog expires. -/
def watchdog (s : State) (c : Bool) : State :=
  let x := s.ctl c
  if !vsbUp s ∨ x.st = .resetting then s
  else
    let was := x.st == .acting
    let s := match x.slot with
      | some k => if s.bit.trial = some k then rollBack s k else s
      | none => s
    let s := resetCtl s c
    let o := !c
    if was && (s.ctl o).st == .standby then
      claimAuth (s.setCtl o { s.ctl o with seen := max (s.ctl o).seen s.bit.key.epoch }) o 2
    else s

/-! ### Updates (R505) -/

/-- R505: an update is taken in Standby, Active or Dormant with both controllers booted. -/
def updateOpen (s : State) : Bool :=
  (s.pst == .standby || s.pst == .active || s.pst == .dormant)
    && s.bit.bma.st != .resetting && s.bit.bmb.st != .resetting

/-- The slot that no controller runs: of two such, the one that is not PRIMARY. -/
def idleSlot (s : State) : Option Nat :=
  ([1 - s.bit.primary, s.bit.primary] : List Nat).find? (fun k =>
    s.bit.bma.slot != some k && s.bit.bmb.slot != some k)

/-- Step 1: RequestUpdate and the transfer of an image. -/
def requestUpdate (s : State) (i : ImageFacts) : State × Bool :=
  match idleSlot s with
  | some k =>
    if updateOpen s && s.bit.xfer.isNone && s.bit.trial.isNone then
      let s := s.setSlot k { img := i }
      ({ s with bit := { s.bit with xfer := some k, verified := false } }, true)
    else (s, false)
  | none => (s, false)

/-- Step 2: the verification of the transferred image. -/
def verifyUpdate (s : State) : State × Bool :=
  match s.bit.xfer with
  | none => (s, false)
  | some k =>
    let s := { s with bit := { s.bit with xfer := none } }
    if imageCheck s (s.slot k).img = 0 then
      let s := s.setSlot k { s.slot k with st := .valid }
      (fwLog { s with bit := { s.bit with verified := true } } k 1, true)
    else (s.setSlot k {}, false)

/-- Step 3: the verified slot becomes TRIAL and PRIMARY, and the controller that is to boot it is reset. -/
def activate (s : State) : State × Bool :=
  match idleSlot s with
  | some k =>
    if updateOpen s && s.bit.verified && s.bit.trial.isNone && (s.slot k).st == .valid then
      let s := s.setSlot k { s.slot k with st := .trial }
      let s := { s with bit := { s.bit with verified := false, trial := some k, primary := k } }
      let s := fwLog s k 2
      match standbyCtl s, acting s with
      | some c, _ => (resetCtl s c, true)
      | none, some c => (resetCtl s c, true)
      | none, none => (resetCtl (resetCtl s false) true, true)
    else (s, false)
  | none => (s, false)

/-- Step 4: the trial ends well. -/
def commitTrial (s : State) (k : Nat) : State :=
  let s := s.setSlot k { s.slot k with st := .confirmed }
  let s := s.setSlot (1 - k) { s.slot (1 - k) with st := .valid }
  let s := fwLog { s with bit := { s.bit with trial := none } } k 3
  match standbyCtl s with
  | some c => resetCtl s c
  | none => s

/-! ### Protocols (R511 to R514) -/

/-- R511: whether a medium carries messages now. -/
def mediumUp (s : State) (m : Medium) : Bool :=
  match m with
  | .i3c => vsbUp s && !s.bit.i3cIsolated
  | .ethernet => vsbUp s && s.bit.eth.enable
  | .pcie => served s

/-- R490: whether the acting controller answers a request on a medium. -/
def answers (s : State) (m : Medium) : Bool := mediumUp s m && (acting s).isSome

/-- R504: whether a request that recovery answers is answered. -/
def answersAny (s : State) (m : Medium) : Bool :=
  answers s m || (mediumUp s m && m != .pcie && (s.bit.bma.st == .recovery || s.bit.bmb.st == .recovery))

/-- A response is given. -/
def respond (s : State) (code : Nat) (d : List Byte) : State := { s with reply := some ⟨code, d⟩ }
/-- A request gets no response. -/
def noReply (s : State) : State := { s with reply := none }

/-- An OMC command on the media it allows: no response, code 3, or what `f` does. -/
def omc (s : State) (m : Medium) (media : List Medium) (f : State) : State :=
  if !answers s m then noReply s else if !media.contains m then respond s 3 [] else f

/-- Every medium. -/
def allMedia : List Medium := [.i3c, .ethernet, .pcie]

/-- The key of a medium in a table. -/
def mediumNo : Medium → Nat
  | .i3c => 0 | .ethernet => 1 | .pcie => 2

/-! ### Package states (R454, R461, R514) -/

/-- R504: with both controllers in recovery the package stays in Standby. -/
def bothRecovery (s : State) : Bool := s.bit.bma.st == .recovery && s.bit.bmb.st == .recovery

/-- SET_STATE to Active (2) or Standby (1); `unmet` is 0 or the condition of R454 that does not hold. -/
def setState (s : State) (req : Nat) (x : SeqInput) (unmet : Nat) : State :=
  if s.pst = .standby ∧ req = 2 then
    if s.bring.run then respond s 0 []
    else respond (runSequence s x) 0 []
  else if s.pst = .tripped ∧ req = 1 then
    if unmet = 0 then respond (logState (powerDown s .standby) .tripped) 0 []
    else respond (logAdd s { code := 9, src := 0, sev := 1, args := [1, unmet] }) 1 []
  else respond s 1 []

end Sys2Proof.Machine
end

