-- ==== Sys2Proof/Machine/CollOps.lean ====
section
/-!
DEFINITION. What collectives share: formats and buffers, contributions on the wire, folds, S windows, progress and
completion (spec/13_collectives_sharding.md; spec/12_causeway_fabric.md R374 to R379).
-/
namespace Sys2Proof.Machine

/-! ### The record (R247) -/

/-- EPOCH of a collective or an update. -/
def Rec.cEpoch (r : Rec) : Nat := r.f 79 64
/-- OP. -/
def Rec.cOp (r : Rec) : Nat := r.f 83 80
/-- The element format. -/
def Rec.cFmtNo (r : Rec) : Fmt := fmtOf (r.f 87 84)
/-- ELEM. -/
def Rec.cElem (r : Rec) : Bool := r.b 88
/-- TERNARY. -/
def Rec.cTern (r : Rec) : Bool := r.b 89
/-- RND. -/
def Rec.cRnd (r : Rec) : Bool := r.b 90
/-- NOV. -/
def Rec.cNov (r : Rec) : Bool := r.b 91
/-- LINK. -/
def Rec.cLink (r : Rec) : Bool := r.b 92
/-- RAGGED. -/
def Rec.cRagged (r : Rec) : Bool := r.b 93
/-- WIDEN. -/
def Rec.cWiden (r : Rec) : Bool := r.b 94
/-- VCHK. -/
def Rec.cVchk (r : Rec) : Bool := r.b 95
/-- ROOT. -/
def Rec.cRoot (r : Rec) : Nat := r.f 113 96
/-- SRC. -/
def Rec.cSrc (r : Rec) : Nat := r.f 175 128
/-- DST. -/
def Rec.cDst (r : Rec) : Nat := r.f 223 176
/-- COUNT. -/
def Rec.cCount (r : Rec) : Nat := r.f 263 224
/-- RAGGED_TABLE. -/
def Rec.cTable (r : Rec) : Nat := r.f 311 264
/-- TENSOR_ID. -/
def Rec.cTid (r : Rec) : Nat := r.f 331 312
/-- SCHED. -/
def Rec.cSched (r : Rec) : Nat := r.f 339 332
/-- SR_SEED. -/
def Rec.cSeed (r : Rec) : Nat := r.w 6
/-- VERSION. -/
def Rec.cVersion (r : Rec) : Nat := r.f 479 448

/-! ### Buffers (R403) -/

/-- Bytes with their poison. -/
abbrev Marked := List (Byte × Bool)

/-- The elements of a buffer: packed votes, or a format's element type with or without block scales. -/
structure CFmt where
  tern : Bool := false
  sty : Sty
  mx : Bool := false
  deriving DecidableEq, Repr

/-- The elements of a collective's SRC. -/
def Rec.cFmt (r : Rec) : CFmt := ⟨r.cTern, fmtElem r.cFmtNo r.cElem, !r.cTern && fmtMx r.cFmtNo⟩
/-- The elements of a collective's DST. -/
def Rec.cDstFmt (r : Rec) : CFmt :=
  if r.cTern then { sty := .int32 } else if r.cWiden then { sty := .bf16 } else r.cFmt

/-- Bits of an element. -/
def CFmt.bits (t : CFmt) : Nat := if t.tern then 2 else styBits t.sty
/-- Bytes of `n` elements, scales apart. -/
def CFmt.bytes (t : CFmt) (n : Nat) : Nat := ceilDiv (t.bits * n) 8
/-- Bytes that `n` elements take as a contribution. -/
def CFmt.len (t : CFmt) (n : Nat) : Nat := t.bytes n + (if t.mx then ceilDiv n 32 else 0)
/-- The runs (offset, length) of elements `a` to `a + n - 1` of a buffer of `total` elements. -/
def CFmt.segs (t : CFmt) (total a n : Nat) : List (Nat × Nat) :=
  (t.bytes a, t.bytes (a + n) - t.bytes a)
    :: (if t.mx then [(ceilTo (t.bytes total) 64 + a / 32, ceilDiv n 32)] else [])
/-- Bytes of a buffer of `n` elements. -/
def CFmt.size (t : CFmt) (n : Nat) : Nat :=
  if n = 0 then 0 else if t.mx then ceilTo (t.bytes n) 64 + ceilDiv n 32 else t.bytes n
/-- The granule of R404. -/
def CFmt.granule (t : CFmt) : Nat :=
  if t.tern then 4
  else if t.mx then 32
  else match t.bits with | 40 => 64 | 4 => 2 | 6 => 4 | _ => 1

/-- The bytes of some runs of a buffer. -/
def cut (bs : Marked) (segs : List (Nat × Nat)) : Marked := segs.flatMap (fun g => (bs.drop g.1).take g.2)

/-- What a read of a run at a DVA by the collective engine or the update unit gives (R181, R184). -/
structure MRead where
  s : State
  data : Marked := []
  fault : Option Nat := none
  deriving DecidableEq, Repr

/-- A read of `n` bytes at a DVA, with the poison of each byte. -/
def vreadMarked (s : State) (c va n : Nat) : MRead :=
  let r := (pieces va n).foldl (fun (r : MRead) pc =>
    match r.fault with
    | some _ => r
    | none =>
      match xlate r.s c pc.1 false with
      | .fault x => { r with fault := some x }
      | .pa a =>
        if inHbm a || inCs a then
          let t := detect r.s a pc.2
          let m := (upTo pc.2).map (fun i => (readByte t (a + i), unitBad t (unitOf (a + i))))
          { r with s := t, data := r.data ++ m }
        else { r with fault := some 0x25 }) { s := s }
  { r with s := vnote r.s c va n r.fault }

/-- Bytes are written at a DVA as one store, then their poison. -/
def vput (s : State) (c va : Nat) (bs : Marked) : State :=
  let s := vwrite s c va (bs.map (fun b => b.1)) false
  (upTo bs.length).foldl (fun t k =>
    match bs[k]? with
    | some (b, true) => vwrite t c (va + k) [b] true
    | _ => t) s

/-- Bytes are written to the runs of a buffer. -/
def putSegs (s : State) (c va : Nat) (segs : List (Nat × Nat)) (bs : Marked) : State :=
  (segs.foldl (fun (x : State × Nat) g => (vput x.1 c (va + g.1) ((bs.drop x.2).take g.2), x.2 + g.2)) (s, 0)).1

/-- A list cut into `n` pieces of `w`. -/
def chunks {α : Type} (w : Nat) : Nat → List α → List (List α)
  | 0, _ => []
  | n + 1, l => l.take w :: chunks w n (l.drop w)

/-- Whether any byte of a run is poisoned. -/
def anyBad (bs : Marked) : Bool := bs.any (fun b => b.2)
/-- The number in little-endian bytes. -/
def markedLE (bs : Marked) : Nat := ofLE (bs.map (fun b => b.1))
/-- Bytes with one poison mark. -/
def mark (bad : Bool) (bs : List Byte) : Marked := bs.map (fun b => (b, bad))

/-! ### Shard headers (R290) -/

/-- The header in 64 bytes, none where a reserved field is not zero or TENSOR_ID is out of range (R305, R420). -/
def shardOf (bs : List Byte) : Option Shard :=
  let f (o n : Nat) : Nat := ofLE ((bs.drop o).take n)
  if f 6 2 ≠ 0 ∨ f 12 4 ≠ 0 ∨ f 0x30 16 ≠ 0 ∨ 2 ^ 20 ≤ f 8 4 ∨ 2 ^ 44 ≤ f 0x10 8 ∨ 2 ^ 40 ≤ f 0x18 8
      ∨ 2 ^ 40 ≤ f 0x20 8 then none
  else some {
    version := BitVec.ofNat 32 (f 0 4), epochTag := f 4 2, tensor := f 8 4, base := f 0x10 8
    exclFirst := f 0x18 8, exclCount := f 0x20 8, hits := BitVec.ofNat 64 (f 0x28 8) }

/-- The 64 bytes of a header. -/
def Shard.bytes (h : Shard) : List Byte :=
  toLE 4 h.version.toNat ++ toLE 2 h.epochTag ++ toLE 2 0 ++ toLE 4 h.tensor ++ toLE 4 0 ++ toLE 8 h.base
    ++ toLE 8 h.exclFirst ++ toLE 8 h.exclCount ++ toLE 8 h.hits.toNat ++ toLE 16 0

/-! ### Linked pairs (R251) -/

/-- Whether a record is a LINKED update. -/
def Rec.isLinkedUpd (r : Rec) : Bool := r.opcode == 0x11 && r.b 84

/-- The pairs (reduce-scatter, update) of a queue's running frame, by record order. -/
def framePairs (s : State) (q : Nat) : List (Rec × Rec) :=
  match (s.queue q).frame with
  | none => []
  | some f =>
    let rs := (upTo f.len).filterMap (fun k => peekRec s q (f.first + k))
    (rs.foldl (fun (a : List Rec × List (Rec × Rec)) r =>
      if r.isLinkRs then (a.1 ++ [r], a.2)
      else if r.isLinkedUpd then
        match a.1 with
        | x :: t => (t, a.2 ++ [(x, r)])
        | [] => a
      else a) ([], [])).2

/-- The update paired with a reduce-scatter. -/
def pairUpd (s : State) (c : CmdRef) : Option Rec :=
  ((framePairs s c.q).find? (fun p => p.1.n == c.n)).map (fun p => p.2)
/-- The reduce-scatter paired with an update. -/
def pairRs (s : State) (c : CmdRef) : Option Rec :=
  ((framePairs s c.q).find? (fun p => p.2.n == c.n)).map (fun p => p.1)

/-! ### Groups and collectives in flight (R396, R412) -/

/-- R396: the member table of a group and this package's index, where a slot holds the group with a valid table. -/
def memberTable (s : State) (gid : Nat) : Option (List Nat × Nat) :=
  match slotOf s gid with
  | none => none
  | some e =>
    if s.ce.valid.contains e.1 then some (tabGet s.ce.members [] e.1, tableSelf s e.1) else none

/-- A collective in flight. -/
def findColl (s : State) (c : CmdRef) : Option Coll := s.ce.colls.find? (fun x => x.ref == c)

/-- The state with a collective in flight replaced. -/
def setColl (s : State) (x : Coll) : State :=
  { s with ce := { s.ce with colls := s.ce.colls.map (fun y => if y.ref == x.ref then x else y) } }

/-- Member `i` after this one in sending order (R411). -/
def Coll.after (c : Coll) (i : Nat) : Nat := (c.self + i) % c.devs.length

/-- The other members in sending order. -/
def Coll.others (c : Coll) : List Nat := (upTo (c.devs.length - 1)).map (fun i => c.after (i + 1))

/-- The first element of member `k`'s share. -/
def Coll.ofs (c : Coll) (k : Nat) : Nat := (c.shares.take k).sum
/-- The share of member `k`. -/
def Coll.share (c : Coll) (k : Nat) : Nat := c.shares.getD k 0

/-! ### Flits (R409, R410) -/

/-- The flits of a contribution of `n` bytes. -/
def flitCount (n : Nat) : Nat := if n ≤ 208 then 1 else 1 + ceilDiv (n - 208) 224

/-- The first byte and the length of flit `f`'s data. -/
def flitSpan (f : Nat) : Nat × Nat := if f = 0 then (0, 208) else (208 + 224 * (f - 1), 224)

/-- How many flits of a contribution may be sent yet. -/
def SendC.ready (x : SendC) : Nat :=
  let n := x.data.length
  if x.total ≤ n then flitCount x.total else if n < 208 then 0 else 1 + (n - 208) / 224

/-- Flit `f` of a contribution. -/
def Coll.flit (c : Coll) (x : SendC) (f sseq : Nat) : SFlit :=
  let sp := flitSpan f
  let d := (x.data.drop sp.1).take sp.2
  let first := if f = 0 then 1 else 0
  let bad (k : Nat) : Bool := anyBad ((d.drop (16 * k)).take 16)
  { group := c.group, sseq := sseq, srcM := c.self, dstM := x.dst, seq := c.seq, epoch := c.epoch, op := c.op
    fidx := f, last := f + 1 == flitCount x.total, phase2 := x.phase2
    pmap := packElems 1 ((upTo 14).map (fun b => b2n (decide (first ≤ b) && bad (b - first))))
    bytes := if f = 0 then x.total else 0, version := if f = 0 then x.version else 0
    data := d.map (fun b => b.1) ++ List.replicate (sp.2 - d.length) 0 }

/-- The bytes of a kept flit with the poison of its chunks. -/
def flitMarked (f : Nat) (x : List Byte × Nat) : Marked :=
  let first := if f = 0 then 1 else 0
  (upTo (flitSpan f).2).map (fun i => (x.1.getD i 0, x.2.testBit (i / 16 + first)))

/-- The flits of a contribution that have arrived without a gap. -/
def RecvC.prefixLen (r : RecvC) : Nat :=
  ((upTo (flitCount r.total)).find? (fun f => !tabHas r.flits f)).getD (flitCount r.total)

/-- Whether every flit of a contribution is held. -/
def RecvC.whole (r : RecvC) : Bool := r.prefixLen == flitCount r.total

/-- The bytes of a contribution that have arrived without a gap. -/
def RecvC.bytes (r : RecvC) : Marked :=
  ((upTo r.prefixLen).flatMap (fun f => flitMarked f (tabGet r.flits ([], 0) f))).take r.total

/-- The contribution of a member in a phase. -/
def Coll.recv (c : Coll) (k : Nat) (ph2 : Bool) : Option RecvC := c.recvs.find? (fun r => r.src == k && r.phase2 == ph2)

/-- Its bytes. -/
def Coll.recvBytes (c : Coll) (k : Nat) (ph2 : Bool) : Marked :=
  match c.recv k ph2 with | some r => r.bytes | none => []

/-- The state with a contribution to receive replaced. -/
def Coll.setRecv (c : Coll) (r : RecvC) : Coll :=
  { c with recvs := c.recvs.map (fun y => if y.src == r.src && y.phase2 == r.phase2 then r else y) }
/-- The state with a contribution to send replaced. -/
def Coll.setSend (c : Coll) (x : SendC) : Coll :=
  { c with sends := c.sends.map (fun y => if y.dst == x.dst && y.phase2 == x.phase2 then x else y) }

/-! ### Sending (R376, R377, R411 to R413) -/

/-- Entry `e` of a port's active schedule. -/
def schedEntry (s : State) (k e : Nat) : Nat := (tabGet (s.port k).table 0 e).toNat
/-- SRC of an entry. -/
def entrySrc (x : Nat) : Nat := bits x 54 48

/-- R377: the group whose flits an entry carries in the current slot, if it is in use, its slot valid, its PHASE due and
its port Up. -/
def entryGroup (s : State) (k e : Nat) : Option Nat :=
  let x := schedEntry s k e
  let f := tabGet s.fab.slots {} (bits x 61 55)
  if x.testBit 63 && f.slot.getLsbD 63 && f.count % 2 ^ bits x 47 45 == bits x 44 38 && portUp s k then
    some (bits f.slot.toNat 61 46)
  else none

/-- R203, R377: the entry's window may open in this tick; an unlocked package uses no S-slot. -/
def windowOpen (s : State) (k e : Nat) : Option Nat :=
  match entryGroup s k e with
  | none => none
  | some g => if groupHeld s g s.tick.last || !(s.port k).usable || s.tick.lock == 2 then none else some g

/-- R376: the flit times of a window. -/
def windowLen (s : State) (k e : Nat) : Nat :=
  let x := schedEntry s k e
  min (bits x 22 8) (1600 * 2 ^ s.tick.sel - bits x 37 23)

/-- R412: the collectives that may use entry `e` of a group: those with the largest SCHED not above it, in start order. -/
def entryColls (s : State) (gid e : Nat) : List Coll :=
  let l := s.ce.colls.filter (fun c => c.group == gid && decide (c.sched ≤ e))
  let m := l.foldl (fun b c => max b c.sched) 0
  l.filter (fun c => c.sched == m)

/-- Whether a collective has flits that it may send and has not sent. -/
def Coll.unsent (c : Coll) : Bool := c.sends.any (fun x => decide (x.sent < x.ready))

/-- The route mask of a member. -/
def Coll.mask (s : State) (c : Coll) (m : Nat) : Nat := routeMask s (c.devs.getD m 0) 0 0

/-- R411: the next flit of a collective that may leave on port `k`; in a reserve window only one that waited when a primary
window closed (R379). -/
def Coll.nextOn (s : State) (c : Coll) (k : Nat) (reserve : Bool) : Option SendC :=
  c.sends.find? (fun x => decide (x.sent < x.ready) && (!reserve || decide (x.sent < x.late)) && (c.mask s x.dst).testBit k)

/-- R379: the flits of a collective that wait now, on port `k` or on every port, may take reserve windows. -/
def Coll.waited (s : State) (c : Coll) (k : Option Nat) : Coll :=
  { c with sends := c.sends.map (fun x =>
      if (match k with | some k => (c.mask s x.dst).testBit k | none => true) then { x with late := x.ready } else x) }

/-- One S flit of the engine leaves on port `k` in a window. -/
def sendS (s : State) (k : Nat) (c : Coll) (x : SendC) (reserve : Bool) : State :=
  let q := tabGet s.ce.sseq 0 c.group
  let s := { s with ce := { s.ce with sseq := tabSet s.ce.sseq c.group ((q + 1) % 32768) } }
  let s := setColl s (c.setSend { x with sent := x.sent + 1 })
  let s := portCtr s k 0x150 1
  let s := if reserve then ceCtr (portCtr s k 0x180 1) 0x708 1 else s
  { s with sent := s.sent ++ [.sflit k (c.flit x x.sent q)] }

/-- R412: whether a collective has not sent its last flit, those that it cannot form yet among them. -/
def Coll.sending (c : Coll) : Bool :=
  c.unread || c.sends.any (fun x => decide (x.sent < flitCount x.total)) || ((c.op == 2 || c.op == 6) && c.phase == 1)

/-- R379, R411, R412: the engine's next flit for a window of entry `e` on port `k`. -/
def windowNext (s : State) (k e gid : Nat) (reserve : Bool) : Option (Coll × SendC) :=
  match (entryColls s gid e).find? Coll.sending with
  | none => none
  | some c => (c.nextOn s k reserve).map (fun x => (c, x))

/-- R413: whether member `m` has a port with an entry that a collective may use in this slot. -/
def hasWindow (s : State) (c : Coll) (m : Nat) : Bool :=
  (upPorts s).any (fun k => (c.mask s m).testBit k && (s.port k).usable
    && (s.port k).table.any (fun t => entryGroup s k t.1 == some c.group && entrySrc t.2.toNat == 64
      && (entryColls s c.group t.1).any (fun d => d.ref == c.ref)))

/-- A COLL packet with one flit of a contribution enters the fabric (R413). -/
def sendColl (s : State) (c : Coll) (x : SendC) (f : Nat) : State :=
  (inject s { ptype := 0x10, dst := c.devs.getD x.dst 0, src := devId s, group := c.group
              flit := some (c.flit x f 0) }).1

/-- R413: the flits of a collective whose routes have no window leave as COLL packets. -/
def sendDirect (s : State) (ref : CmdRef) : State :=
  match findColl s ref with
  | none => s
  | some c => c.sends.foldl (fun t x =>
      if x.ready ≤ x.sent ∨ hasWindow t c x.dst then t
      else
        let t := forUp (x.ready - x.sent) (fun i u => sendColl u c x (x.sent + i)) t
        match findColl t ref with
        | none => t
        | some d => setColl t (d.setSend { x with sent := x.ready })) s

/-- R413, for every collective in flight. -/
def sendAllDirect (s : State) : State := s.ce.colls.foldl (fun t c => sendDirect t c.ref) s

/-- A control goes to member `m`; where no route exists, the group is aborted (R413, R419). -/
def sendCollCtl (s : State) (c : Coll) (m code first : Nat) : State :=
  let r := inject s { ptype := 0x11, dst := c.devs.getD m 0, src := devId s, group := c.group
                      ctl := some { code := code, sender := c.self, seq := c.seq, epoch := c.epoch, first := first } }
  if r.2 then r.1 else sendAbort r.1 c.group 0x6A

/-! ### Folds (R405 to R407) -/

/-- The value and the poison of an element of a contribution to a fold. -/
def foldElem (t : CFmt) (bs : Marked) (k : Nat) : Val × Bool :=
  if t.tern then
    let b := bs.getD (k / 4) (0, false)
    let c := bits b.1.toNat (2 * (k % 4) + 1) (2 * (k % 4))
    (ofIntExp (if c = 1 then 1 else if c = 3 then -1 else 0) 0, b.2 || c == 2)
  else
    let w := t.bits / 8
    let e := (bs.drop (w * k)).take w
    (decodeS t.sty (markedLE e), anyBad e || (t.sty == .acc35 && (markedLE e).testBit 39))

/-- R405: the fold of one element's terms in order: exact for votes, one ACC35 rounding per later term. -/
def foldTerms (t : CFmt) : List Val → Val
  | [] => .fin false 0 0
  | v :: vs => vs.foldl (fun a x => if t.tern then a.add x else decodeS .acc35 (rneTo .acc35 (a.add x))) v

/-- A result element: its bytes with their poison, and its conversion events. -/
structure FoldOut where
  bytes : Marked
  ovf : Bool := false
  nan : Bool := false
  deriving DecidableEq, Repr

/-- R405, R407: one result element of the share. -/
def foldOne (r : Rec) (t : CFmt) (idx : Nat) (vs : List (Val × Bool)) : FoldOut :=
  let w := styBits r.cDstFmt.sty / 8
  if vs.any (fun v => v.2) then
    match r.cDstFmt.sty with
    | .acc35 => ⟨mark false (toLE 5 poisonNan), false, false⟩
    | .int32 => ⟨mark true (toLE 4 0), false, false⟩
    | y => ⟨mark true (toLE w (rneTo y .nan)), false, false⟩
  else
    let v := foldTerms t (vs.map (fun v => v.1))
    match v, r.cDstFmt.sty with
    | .fin n m _, .int32 => ⟨mark false (toLE 4 (toBits 32 (signed n m))), false, false⟩
    | v, .acc35 => ⟨mark false (toLE 5 (rneTo .acc35 v)), false, false⟩
    | v, y =>
      let e := encodeS y v (rndOf r.cRnd r.cSeed r.cTid idx 2) r.cNov
      ⟨mark false (toLE w e.bits), e.ovf, e.nanIn⟩

/-- R405: the parts of this member's share in fold order, its own first. -/
def Coll.cols (c : Coll) (own : Marked) : List Marked :=
  let n := c.devs.length
  (upTo n).map (fun i => if i = 0 then own else c.recvBytes ((c.self + n - i) % n) false)

/-- R405, R303: this member's result share and its events; excluded elements are zero. -/
def foldShare (r : Rec) (c : Coll) : Marked × Nat × Nat :=
  let t := r.cFmt
  let cols := c.cols (cut c.own (t.segs c.shares.sum (c.ofs c.self) (c.share c.self)))
  let w := styBits r.cDstFmt.sty / 8
  let out := (upTo (c.share c.self)).map (fun k =>
    if c.excl.1 ≤ k ∧ k < c.excl.1 + c.excl.2 then (⟨mark false (toLE w 0), false, false⟩ : FoldOut)
    else foldOne r t (c.ofs c.self + k) (cols.map (fun b => foldElem t b k)))
  (out.flatMap FoldOut.bytes, (out.filter FoldOut.ovf).length, (out.filter FoldOut.nan).length)

/-- R406: the fold of 8-byte records: the maximum of the FP32 values, the OR of the bits; poison stays. -/
def foldRecs (c : Coll) : Marked :=
  let n := c.share c.self
  let cols := (c.cols ((c.own.drop (8 * c.ofs c.self)).take (8 * n))).map (chunks 8 n)
  (upTo n).flatMap (fun k =>
    let vs := cols.map (fun l => markedLE (l.getD k []))
    let a := vs.tail.foldl (fun m v => amaxMax m (BitVec.ofNat 32 v)) (BitVec.ofNat 32 (vs.headD 0))
    mark (cols.any (fun l => anyBad (l.getD k [])))
      (toLE 8 (a.toNat + b2n (vs.any (fun v => v.testBit 32)) * 2 ^ 32)))

/-! ### Parameter gathers (R420, R422) -/

/-- What a PARAM_GATHER makes of a shard: VERSION, the bytes of its contribution, the conversion's OVF and NAN_IN (R65), and
the fault that stopped it. -/
structure Gathered where
  s : State
  version : Nat := 0
  data : Marked := []
  ovf : Nat := 0
  nanIn : Nat := 0
  fault : Option Nat := none
  deriving DecidableEq, Repr

/-- R59, R65, R420: a shard's weights in MXFP8: 32 codes to a block, then the scales, and the blocks that count in OVF and in
NAN_IN; a poisoned weight poisons its block. -/
def shardMx (w : Marked) (n : Nat) : Marked × Nat × Nat :=
  let es := chunks 2 n w
  let blocks := (chunks 32 (ceilDiv n 32) es).map (fun b =>
    let bad := b.any anyBad
    let vs := b.map (fun e => if anyBad e then Val.nan else decodeS .bf16 (markedLE e))
    let vs := vs ++ List.replicate (32 - vs.length) (.fin false 0 0)
    (encodeMx .e4m3 (vs.map (fun v => (v, Rnd.rne))) false, bad))
  let codes := blocks.flatMap (fun b => b.1.elems.map (fun c => (BitVec.ofNat 8 c, b.2)))
  (codes.take n ++ blocks.map (fun b => (BitVec.ofNat 8 b.1.scale, b.2)),
    (blocks.filter (fun b => !b.2 && b.1.ovf)).length, (blocks.filter (fun b => !b.2 && b.1.nanIn)).length)

/-- R420: the engine reads VERSION, then the weights of the shard at a header, and converts them. -/
def gatherRead (s : State) (ctx hdr n : Nat) : Gathered :=
  let h := vreadMarked s ctx hdr 64
  let w := vreadMarked h.s ctx (hdr + 64 + 64 * ceilDiv n 512) (2 * n)
  let x := shardMx (if w.fault.isSome then mark true (List.replicate (2 * n) 0) else w.data) n
  { s := w.s, version := markedLE (h.data.take 4), data := x.1, ovf := x.2.1, nanIn := x.2.2
    fault := match h.fault with | some f => some f | none => w.fault }

/-- R422: a gathered share widened to BF16: its bytes and its events. -/
def widenShare (r : Rec) (o n : Nat) (bs : Marked) : Marked × Nat × Nat :=
  let out := (upTo n).map (fun i =>
    let c := bs.getD i (0, false)
    let k := bs.getD (n + i / 32) (0, false)
    let bad := c.2 || k.2
    let v := if bad then Val.nan else decodeMx .e4m3 k.1.toNat c.1.toNat
    let e := encodeS .bf16 v (rndOf r.cRnd r.cSeed r.cTid (o + i) 2) r.cNov
    (⟨mark bad (toLE 2 e.bits), !bad && e.ovf, !bad && e.nanIn⟩ : FoldOut))
  (out.flatMap FoldOut.bytes, (out.filter FoldOut.ovf).length, (out.filter FoldOut.nan).length)

end Sys2Proof.Machine
end

