-- ==== Sys2Proof/Machine/Control.lean ====
section
/-!
DEFINITION. The meanings of the control stream's commands (spec/07_command_reference.md R229, R252 to R254;
spec/06_command_model.md R198, R216 to R221; spec/08_training_numerics.md R267).
-/
namespace Sys2Proof.Machine

/-- An opcode test. -/
def isOp (o : Nat) (r : Rec) : Bool := r.opcode == o

/-- A command that waits in place: it is dispatched at first, and looks again when its row comes again. -/
def dispatchOrRetry (s : State) (q n : Nat) (own : Rec → Bool) (f : Rec → State) : State :=
  match findRec s ⟨q, n⟩ with
  | none => s
  | some r => if r.st == .started && own r && s.pst == .active then f r else dispatch s q n own f

/-- The first failing check completes the command; otherwise `k` runs. -/
def checked (s : State) (c : CmdRef) (l : List (Bool × Nat)) (k : State) : State :=
  let h := firstStatus l
  if h ≠ 0 then completeSt s c h else k

/-! ### NOP, TICK_WAIT, EPOCH, HINT -/

/-- NOP: completes when it starts; a reserved opcode completes with OPCODE_RSV (R229). -/
def nopRun (s : State) (q n : Nat) : State :=
  dispatch s q n (fun r => r.opcode == 0 || !knownOpcode r.opcode) (fun r =>
    checked s ⟨q, n⟩ [(!r.zero 511 64, 2)] (completeSt s ⟨q, n⟩ 0))

/-- TICK_WAIT (R198): completes at the frame's start with the start tick. -/
def tickWaitRun (s : State) (q n : Nat) : State :=
  dispatch s q n (isOp 0x1C) (fun r =>
    let x := s.queue q
    let f := x.frame.getD { first := 0, len := 0, startTick := 0, closing := 0 }
    checked s ⟨q, n⟩ [(!r.zero 511 129, 2), (r.n != f.first || (r.b 128 && !x.groupEn), 6)]
      (complete s ⟨q, n⟩ { res1 := f.startTick }))

/-- EPOCH (R221). -/
def epochRun (s : State) (q n : Nat) : State :=
  dispatch s q n (isOp 0x1D) (fun r =>
    let x := s.queue q
    let e := r.f 79 64
    checked s ⟨q, n⟩ [(!r.zero 511 80, 2), (e != (x.epoch + 1) % 65536, 0x61)]
      (complete (s.setQueue q { x with epoch := e }) ⟨q, n⟩ { res0 := e }))

/-- HINT (R252, R440): the hint comes into force at the next tick. -/
def hintRun (s : State) (q n : Nat) : State :=
  dispatch s q n (isOp 0x19) (fun r =>
    checked s ⟨q, n⟩
      [(!r.zero 511 100, 2), (decide (partTdp s.partNo < r.f 83 68), 2), (decide (7 ≤ r.f 67 64), 2)]
      (completeSt { s with pwr := { s.pwr with
         hints := s.pwr.hints ++ [{ q := q, phase := r.f 67 64, load := r.f 83 68, ticks := r.f 99 84, left := r.f 99 84 }] } } ⟨q, n⟩ 0))

/-! ### Fences (R216 to R218, R254) -/

/-- R217: a counter takes the maximum. -/
def fenceRaise (s : State) (i v : Nat) : State :=
  let f := s.fence i
  s.setFence i { f with val := if f.val.toNat < v then BitVec.ofNat 38 v else f.val }

/-- FENCE_SIGNAL: a local counter is set at once; a token of another package travels as a FENCE_SIG packet (R217,
R370). -/
def fenceSignalRun (s : State) (q n : Nat) : State :=
  dispatch s q n (isOp 0x1A) (fun r =>
    let t := r.w 1
    let i := tokenCtr t
    let here := tokenDev t == devId s
    checked s ⟨q, n⟩ [(!r.zero 511 128, 2), (here && (s.fence i).owner != (s.queue q).part, 0x1C)]
      (if here then
        let s := fenceRaise s i (tokenVal t)
        complete s ⟨q, n⟩ { res1 := (s.fence i).val.toNat }
      else
        let s := setRecSt s ⟨q, n⟩ .started
        let x := sendRequest s { ptype := 5, dst := tokenDev t, src := devId s, token := BitVec.ofNat 64 t }
          (tokenDev t) true (.fence ⟨q, n⟩)
        if x.2 then x.1 else completeSt x.1 ⟨q, n⟩ 0x69))

/-- FENCE_WAIT (R218): satisfied, it completes; otherwise it waits in place. -/
def fenceWaitRun (s : State) (q n : Nat) : State :=
  dispatchOrRetry s q n (isOp 0x1B) (fun r =>
    let t := r.w 1
    let h := fenceWaitStatus s q t
    checked s ⟨q, n⟩ [(!r.zero 511 128, 2), (h != 0, h)]
      (let v := (s.fence (tokenCtr t)).val.toNat
       if tokenVal t ≤ v then complete s ⟨q, n⟩ { res1 := v } else setRecSt s ⟨q, n⟩ .started))

/-! ### SCALE (R252, R253, R267) -/

/-- SOP of a SCALE record. -/
def Rec.sop (r : Rec) : Nat := r.f 66 64

/-- The checks of a SCALE record (R252, R253), in the order of its field map. -/
def scaleChecks (r : Rec) : List (Bool × Nat) :=
  [(!r.zero 511 176 || !r.zero 127 101 || !r.zero 67 67, 2),
   (r.f 133 128 != 0 || ((r.sop == 0 || r.sop == 3) && r.f 175 128 != 0), 2),
   (decide (65536 < r.f 100 84), 2),
   (decide (4 ≤ r.sop), 2),
   (decide (65536 < r.f 83 68 + r.f 100 84), 0x1B)]

/-- A SCALE command completes with the count of cold entries. -/
def scaleDone (s : State) (c : CmdRef) (r : Rec) (bad : Bool) : State :=
  complete s c { res0 := r.f 100 84, res1 := coldCount s r.sop (s.queue c.q).part (r.f 83 68) (r.f 100 84), poison := bad }

/-- What SOP 0, 1 and 3 do, and SOP 2 where no entry is being scaled. -/
def scaleRun (s : State) (c : CmdRef) (r : Rec) : State :=
  let x := s.queue c.q
  let first := r.f 83 68
  let cnt := r.f 100 84
  let va := r.f 175 128
  match r.sop with
  | 0 => scaleDone (scaleClearAll s x.part first cnt) c r false
  | 1 =>
    let v := vread s x.ctxNo va (128 * cnt)
    let s := vdetect (vnote s x.ctxNo va (128 * cnt) v.fault) x.ctxNo va (128 * cnt)
    match v.fault with
    | some st => completeSt s c st
    | none =>
      let ok := !v.bad && (upTo cnt).all (fun i => imageOk (ofLE ((v.data.drop (128 * i)).take 128)))
      if ok then scaleDone (scaleLoadAll s x.part first cnt v.data) c r false
      else complete s c { status := 2, poison := v.bad }
  | 2 =>
    if (upTo cnt).any (fun i => (s.entry x.part (first + i)).scaling) then setRecSt s c .started
    else
      let f := vwriteFault s x.ctxNo va (128 * cnt)
      let s := vnote s x.ctxNo va (128 * cnt) f
      match f with
      | some st => completeSt s c st
      | none => scaleDone (vwrite s x.ctxNo va (scaleImages s x.part first cnt) false) c r false
  | _ => scaleDone (scaleRescaleAll s x.part first cnt) c r false

/-- A SCALE command whose SOP `own` accepts is dispatched and runs. -/
def scaleCmd (s : State) (q n : Nat) (own : Nat → Bool) : State :=
  dispatchOrRetry s q n (fun r => isOp 0x18 r && own r.sop) (fun r => checked s ⟨q, n⟩ (scaleChecks r) (sramSweep (scaleRun s ⟨q, n⟩ r)))

/-! ### The meanings -/

/-- NOP (R229). -/
def execNop (q : Fin 64) (n : Nat) (s : State) : Host.Outcome State Fault Refusal := .next (nopRun s q n)
/-- TICK_WAIT (R198). -/
def execTickWait (q : Fin 64) (n : Nat) (s : State) : Host.Outcome State Fault Refusal := .next (tickWaitRun s q n)
/-- EPOCH (R221). -/
def execEpoch (q : Fin 64) (n : Nat) (s : State) : Host.Outcome State Fault Refusal := .next (epochRun s q n)
/-- HINT (R252). -/
def execHint (q : Fin 64) (n : Nat) (s : State) : Host.Outcome State Fault Refusal := .next (hintRun s q n)
/-- FENCE_SIGNAL (R217). -/
def execFenceSignal (q : Fin 64) (n : Nat) (s : State) : Host.Outcome State Fault Refusal :=
  .next (fenceSignalRun s q n)
/-- FENCE_WAIT (R218). -/
def execFenceWait (q : Fin 64) (n : Nat) (s : State) : Host.Outcome State Fault Refusal := .next (fenceWaitRun s q n)
/-- SCALE_CLEAR: SOP 0, and a reserved SOP, which fails (R252, R267). -/
def execScaleClear (q : Fin 64) (n : Nat) (s : State) : Host.Outcome State Fault Refusal :=
  .next (scaleCmd s q n (fun k => k == 0 || decide (4 ≤ k)))
/-- SCALE_LOAD: SOP 1 (R267). -/
def execScaleLoad (q : Fin 64) (n : Nat) (s : State) : Host.Outcome State Fault Refusal :=
  .next (scaleCmd s q n (fun k => k == 1))
/-- SCALE_STORE: SOP 2 (R267). -/
def execScaleStore (q : Fin 64) (n : Nat) (s : State) : Host.Outcome State Fault Refusal :=
  .next (scaleCmd s q n (fun k => k == 2))
/-- SCALE_RESCALE: SOP 3 (R267). -/
def execScaleRescale (q : Fin 64) (n : Nat) (s : State) : Host.Outcome State Fault Refusal :=
  .next (scaleCmd s q n (fun k => k == 3))

end Sys2Proof.Machine
end

