-- ==== Sys2Proof/Machine/Ports.lean ====
section
/-!
DEFINITION. The meanings of the commands of Causeway ports and of B-class packets at a package that serves or forwards
them (spec/12_causeway_fabric.md).
-/
namespace Sys2Proof.Machine

/-- R518, R524: a PF register access is served. -/
def pfAccess (s : State) (k : State) : State := if served s then k else s

/-! ### Port states -/

/-- PORT_ENABLE: the host sets PORT.CTRL.EN (R361). -/
def execPortEnable (k : Fin 64) (s : State) : Host.Outcome State Fault Refusal := .next (pfAccess s (portEnable s k))

/-- PORT_DISABLE: the host clears PORT.CTRL.EN (R393). -/
def execPortDisable (k : Fin 64) (s : State) : Host.Outcome State Fault Refusal :=
  .next (pfAccess s (sendAllDirect (portDisable s k)))

/-- PORT_UP: training ends with the neighbour's device and port and the round trip measured (R362 to R364). -/
def execPortUp (k : Fin 64) (nd : Fin 262144) (np : Fin 64) (rt pipe : Nat) (s : State) :
    Host.Outcome State Fault Refusal := .next (portUpWith s k nd np rt pipe)

/-- PORT_TRAINING_FAIL: a training step exceeds its time: cause 1 lane lock, 2 FEC lock or deskew, 3 no feed power, 9
another step (R358, R362, R393). -/
def execPortTrainingFail (k : Fin 64) (cause : Nat) (s : State) : Host.Outcome State Fault Refusal :=
  .next (if (s.port k).st = .training then portSet s k .down (if [1, 2, 3].contains cause then cause else 9) else s)

/-- PORT_RETRAIN: 1 s after it went Down a port with AUTO_RETRAIN retrains (R362). -/
def execPortRetrain (k : Fin 64) (s : State) : Host.Outcome State Fault Refusal :=
  .next (if (s.port k).st = .down ∧ (s.port k).retrain ∧ (s.port k).en ∧ portsRun s then portTrain s k else s)

/-- PORT_DOWN: an Up port goes Down: cause 1 lane lock, 3 laser feed, 6 replay, 7 error ratio (R364); the feed of a port in
training may fail too (R358). -/
def execPortDown (k : Fin 64) (cause : Nat) (s : State) : Host.Outcome State Fault Refusal :=
  .next (
    if ((s.port k).st = .up ∧ [1, 3, 6, 7].contains cause) ∨ ((s.port k).st = .training ∧ cause = 3) then
      sendAllDirect (portSet s k .down cause)
    else s)

/-- BER_WINDOW (R391). -/
def execBerWindow (k : Fin 64) (w : PortWindow) (s : State) : Host.Outcome State Fault Refusal :=
  .next (sendAllDirect (portWindow s k w))

/-- SCHED_COMMIT: the host writes PORT.CTRL.SCHED_COMMIT (R376). -/
def execSchedCommit (k : Fin 64) (s : State) : Host.Outcome State Fault Refusal := .next (pfAccess s (portCommit s k))

/-! ### Link retry and credits (R367, R368, R372) -/

/-- Sequenced flits up to ACK_SEQ leave the replay buffer; an ACK_SEQ outside it frees none. A flit that leaves ends a run
of replays of one flit (R364). -/
def ackFlits (x : Port) (ack : Nat) : Port :=
  let oldest := (x.txSeq + 4096 - x.replay.length % 4096) % 4096
  let n := (ack % 4096 + 4097 - oldest) % 4096
  if n ≤ x.replay.length then { x with replay := x.replay.drop n, replays := if n = 0 then x.replays else 0 } else x

/-- R365, R367: the trailers of a port's unacknowledged flits as they are sent again: B flits as B replay. -/
def Port.replayTrails (x : Port) : List Trail :=
  ((upTo x.replay.length).zip x.replay).map (fun e =>
    let t := { x.trail 4 with seq := (x.txSeq + 4096 - x.replay.length % 4096 + e.1) % 4096 }
    match e.2 with
    | .ctl _ => t
    | .b p i fl => { t with ftype := 2, vc := p.vc, floor := fl, head := i == 0, tail := decide (packetFlits p ≤ i + 1) })

/-- Whether a sequenced flit is a control flit. -/
def isCtl : SeqFlit → Bool
  | .ctl _ => true | .b _ _ _ => false

/-- CW_FLIT_ACK: an ACK_SEQ arrives; `stall` flit times were spent with the replay buffer full (R367). -/
def execCwFlitAck (k : Fin 64) (ack stall : Nat) (s : State) : Host.Outcome State Fault Refusal :=
  .next (if portUp s k then pump (portCtr (s.setPort k (ackFlits (s.port k) ack)) k 0x170 stall) k else s)

/-- CAUSEWAY_REPLAY: a NAK arrives with ACK_SEQ; what is not acknowledged is sent again in order (R367). A NAK after 16
replays of one flit in a row takes the port Down (R364). -/
def execCausewayReplay (k : Fin 64) (ack : Nat) (s : State) : Host.Outcome State Fault Refusal :=
  .next (
    if !portUp s k then s
    else
      let x := ackFlits (s.port k) ack
      if 16 ≤ x.replays then sendAllDirect (portSet s k .down 6)
      else
        let s := s.setPort k { x with replays := x.replays + 1 }
        let fl := x.replay
        let s := portCtr s k 0x168 1
        let s := portCtr s k 0x148 (fl.filter (fun f => !isCtl f)).length
        let s := portCtr s k 0x158 (fl.filter isCtl).length
        pump { s with sent := s.sent ++ x.replayTrails.map (Out.trailer k) ++ [.replay k fl.length] } k)

/-- R359, R360: the flits that have a bit in codeword `c` of a flit stream. -/
def codewordFlits (c : Nat) : Nat := ((upTo 4).filter (fun i => flitInCodeword (5140 * c / 2048 + i) c)).length

/-- CW_CRC_ERR: a flit fails its CRC, or every flit with a bit in a codeword that the decoder could not correct (R359). The
flits that arrived before it are received; what follows is discarded, and the next flit sent carries NAK (R367, R368). -/
def execCwCrcErr (e : CwError) (s : State) : Host.Outcome State Fault Refusal :=
  .next (
    if !portUp s e.port then s
    else
      let x := s.port e.port
      let n := if x.discarding then 0 else (e.got.take 6).sum
      let x := { x with
        discarding := true, nak := true, rxSeq := (x.rxSeq + n) % 4096
        part := if n = 0 then x.part
          else forUp 6 (fun v t => if e.got.getD v 0 = 0 then t else tabSet t v (tabGet t 0 v + e.got.getD v 0)) x.part
        ctr := ctrAdd x.ctr 0x160 (match e.cw with | some c => codewordFlits c | none => 1) }
      let s := s.setPort e.port x
      { s with
        fab := { s.fab with pools := if n = 0 then s.fab.pools else tabSet s.fab.pools e.port (tabGet s.fab.pools 0 e.port + n) }
        sent := s.sent ++ [.trailer e.port (x.trail 0)] })

/-- CW_REPLAY_FLIT: a replay flit with SEQ `seq` arrives; the expected one ends the discarding (R367). -/
def execCwReplayFlit (k : Fin 64) (seq : Nat) (s : State) : Host.Outcome State Fault Refusal :=
  .next (
    if portUp s k && (s.port k).discarding && seq == ((s.port k).rxSeq + 1) % 4096 then
      s.setPort k { s.port k with discarding := false, nak := false }
    else s)

/-- CREDIT_RETURN: floor credits by VC and shared credits come back; `stall` flit times waited only for a credit
(R372). -/
def execCreditReturn (k : Fin 64) (floors : List Nat) (shared stall : Nat) (s : State) :
    Host.Outcome State Fault Refusal :=
  .next (
    if portUp s k then
      let x := s.port k
      let fl := (upTo 6).map (fun v => (v, min 32 (tabGet x.floor 0 v + floors.getD v 0)))
      pump (portCtr (s.setPort k { x with floor := fl, shared := min 2208 (x.shared + shared) }) k 0x178 stall) k
    else s)

/-! ### Packets -/

/-- Whether sequenced flits that arrive on a port are accepted. -/
def accepts (s : State) (k : Nat) : Bool := portUp s k && !(s.port k).discarding

/-- A packet has arrived whole and leaves the receive buffer: its flits are received and its credits go back. -/
def takePacket (s : State) (k : Nat) (p : Packet) : State := returnCredits (arrive s k p) k p

/-- R370: the defined packet types. -/
def knownPtype (t : Nat) : Bool := [1, 2, 3, 4, 5, 6, 0x10, 0x11].contains t

/-- R387: the VC of a packet after it has come in on port `k`: a global hop raises g. -/
def arrivedVc (s : State) (k : Nat) (p : Packet) : Nat := if globalPort s k then p.vc + 1 else p.vc

/-- R387: whether the global hops of a packet that has come in on port `k` exceed 2. -/
def gSpent (s : State) (k : Nat) (p : Packet) : Bool :=
  if p.vc < 3 then decide (2 < arrivedVc s k p) else decide (5 < arrivedVc s k p)

/-- R387: an answer of this package to a request that it discards. -/
def answerUnreach (s : State) (p : Packet) : State :=
  let s := fabCtr s 0x108 1
  match unreachAnswer p with
  | none => s
  | some a => (inject s a).1

/-- R372, R386, R387: a packet for another package arrives and is forwarded from the port's receive buffer, or discarded and
answered. -/
def routePacket (s : State) (k : Nat) (p : Packet) : State :=
  let q : Packet := { p with
    vc := arrivedVc s k p, hops := p.hops + 1, floors := 0, back := some (k, p.vc, p.floors)
    rphase := if p.rphase = 1 ∧ p.via = devGroup (devId s) then 0 else p.rphase }
  match routePort s (routeMask s q.dst q.via q.rphase) q.vc with
  | some j =>
    if gSpent s k p || decide (15 < p.hops + 1) then answerUnreach (takePacket s k p) p else queuePacket (arrive s k p) j q
  | none => answerUnreach (takePacket s k p) p

/-- PACKET_ROUTE: a packet that is not addressed to this package, or whose type is reserved, arrives (R370, R386). -/
def execPacketRoute (k : Fin 64) (p : Packet) (s : State) : Host.Outcome State Fault Refusal :=
  .next (
    if !accepts s k then s
    else if !knownPtype p.ptype ∨ 2 ≤ p.rphase then fabCtr (takePacket s k p) 0x110 1
    else if p.dst = devId s then s
    else routePacket s k p)

/-- Whether a packet of a type is for this package, accepted and within its global hops. -/
def mine (s : State) (k : Nat) (p : Packet) (t : Nat) : Bool :=
  accepts s k && p.ptype == t && p.dst == devId s && !gSpent s k p

/-- R387: a packet of a type arrives: one that is for this package is handled by `f`; one whose global hops are spent is
discarded and answered. -/
def received (s : State) (k : Nat) (p : Packet) (t : Nat) (f : State → State) : State :=
  if mine s k p t then f (takePacket s k p)
  else if accepts s k && p.ptype == t && p.dst == devId s then answerUnreach (takePacket s k p) p else s

/-- R387: the answer to a packet goes out on the response VC 3. -/
def answer (s : State) (p : Packet) (a : Packet) : State :=
  (inject s { a with dst := p.src, src := devId s, tid := p.tid, vc := 3 }).1

/-- The local byte address of a packet. -/
def packetAddr (p : Packet) : Nat := p.laddr * 64

/-- RD_REQ: a fabric read arrives (R384, R385). -/
def execRdReq (k : Fin 64) (p : Packet) (s : State) : Host.Outcome State Fault Refusal :=
  .next (received s k p 1 (fun s =>
      let a := packetAddr p
      let n := 64 * p.nlines
      let st := targetStat s p.src a n false
      if st = 0 then
        let r := targetRead s a n
        sramSweep (answer r.1 p { ptype := 2, dst := 0, src := 0, nlines := p.nlines, laddr := p.laddr, data := r.2.1
                                  pmap := if r.2.2.any id then r.2.2 else [] })
      else answer s p { ptype := 2, dst := 0, src := 0, stat := st }))

/-- CW_WR: a fabric write arrives (R384, R385). -/
def execCwWr (k : Fin 64) (p : Packet) (s : State) : Host.Outcome State Fault Refusal :=
  .next (received s k p 3 (fun s =>
      let a := packetAddr p
      let n := 64 * p.nlines
      let st := targetStat s p.src a n true
      let s := if st = 0 then targetWrite s a (p.data.take n) p.be p.pmap else s
      answer s p { ptype := 4, dst := 0, src := 0, stat := st }))

/-- FENCE_SIG: a remote fence signal arrives (R217). -/
def execFenceSig (k : Fin 64) (p : Packet) (s : State) : Host.Outcome State Fault Refusal :=
  .next (received s k p 5 (fun s =>
      let i := tokenCtr p.token.toNat
      if (s.fence i).remote then
        answer (fenceRaise s i (tokenVal p.token.toNat)) p { ptype := 6, dst := 0, src := 0 }
      else
        let s := logAdd s { code := 0x55, inst := i, src := 5, sev := 1, args := [p.src] }
        answer s p { ptype := 6, dst := 0, src := 0, stat := 3 }))

/-! ### Registers -/

/-- FAB_CFG_WRITE (R383, R392). -/
def execFabCfgWrite (v : W64) (s : State) : Host.Outcome State Fault Refusal :=
  .next (pfAccess s (fabCfgWrite s v.toNat))

/-- MEMBER_TABLE_WRITE: CE.MTAB, or CE.MSELF with `self`, of slot `i` (R397). -/
def execMemberTableWrite (i : Fin 96) (self : Bool) (v : W64) (s : State) : Host.Outcome State Fault Refusal :=
  .next (pfAccess s (memberWrite s i self v.toNat))

end Sys2Proof.Machine
end

