-- ==== Sys2Proof/Machine/Bring.lean ====
section
/-!
DEFINITION. The meanings of the commands of bring-up (spec/15_bringup_reset_yield.md R461 to R472;
spec/16_bittern_management.md R514).
-/
namespace Sys2Proof.Machine

/-- SET_STATE: `req` is 1 Standby or 2 Active, `x` what a power-on sequence measures, `unmet` the condition of R454 that
does not hold, 0 for none (R454, R461, R514). -/
def execSetState (m : Medium) (req : Nat) (x : SeqInput) (unmet : Fin 4) (s : State) :
    Host.Outcome State Fault Refusal :=
  .next (omc s m [.i3c, .ethernet] (setState s req x unmet))

/-- DIE_LINK_WINDOW: the ready window of module `m` of link `l` ends; `trained` and `lanes` are what a retraining
finds (R468). -/
def execDieLinkWindow (l : Fin 6) (m : Fin 16) (trained : Bool) (lanes : Nat) (s : State) :
    Host.Outcome State Fault Refusal :=
  .next (if s.bring.run then windowEnds s l m trained lanes else s)

/-- PORT_DROPPED: 5,900 ms have passed without port `k` meeting its criterion (R469). -/
def execPortDropped (k : Fin 64) (s : State) : Host.Outcome State Fault Refusal := .next (portDropped s k)

/-- The step of R461 that a sequence has reached: 2 for its clock, 6 for link windows, 10 for ports, 12. -/
def stepReached (s : State) : Nat :=
  if s.bring.wait.isSome then 2
  else if !s.bring.wins.isEmpty then 6
  else if !s.bring.ports.isEmpty then 10 else 12

/-- SEQUENCE_TIME_LIMIT: 6.0 s have passed since the start of sequence (R461). -/
def execSequenceTimeLimit (s : State) : Host.Outcome State Fault Refusal :=
  .next (if s.bring.run then bringFail s (stepReached s) 9 else s)

/-- READY: `ms` milliseconds after the start of sequence (R465, R470). -/
def execReady (ms : Nat) (s : State) : Host.Outcome State Fault Refusal := .next (ready11 s ms)

end Sys2Proof.Machine
end

