-- ==== Sys2Proof/Machine/Operands.lean ====
section
/-!
DEFINITION. The vector engine's instruction word and operand forms (spec/04_vector_engine.md R117 to R122): fields,
registers, lanes, masks, memory addresses.
-/
namespace Sys2Proof.Machine

/-- A decoded instruction word (R117); `ss` says that operand B is S[B] (FN[5] of classes 2 to 5). -/
structure VI where
  cls : Nat
  fn : Nat
  ss : Bool
  men : Bool
  msk : Nat
  zm : Bool
  d : Nat
  a : Nat
  b : Nat
  c : Nat
  fmt : Nat
  elem : Bool
  rnd : Bool
  nov : Bool
  imm : Int
  immU : Nat
  deriving DecidableEq, Repr

/-- R117: the fields of an instruction word. -/
def decodeVI (w : Nat) : VI :=
  let cls := bits w 63 60
  let fn := bits w 59 54
  let ss := decide (2 ≤ cls) && decide (cls ≤ 5) && fn.testBit 5
  { cls := cls, fn := if ss then fn % 32 else fn, ss := ss, men := w.testBit 53, msk := bits w 52 50, zm := w.testBit 49
    d := bits w 48 44, a := bits w 43 39, b := bits w 38 34, c := bits w 33 29, fmt := bits w 28 25
    elem := w.testBit 24, rnd := w.testBit 23, nov := w.testBit 22, imm := sext 22 w, immU := bits w 21 0 }

/-- The fields an instruction uses (R118): the others must be zero. -/
structure VUse where
  mask : Bool := false
  zm : Bool := false
  d : Bool := false
  a : Bool := false
  b : Bool := false
  c : Bool := false
  fmt : Bool := false
  elem : Bool := false
  rnd : Bool := false
  nov : Bool := false
  imm : Bool := false
  /-- Has an .S form: reads a vector operand B. -/
  vb : Bool := false
  /-- D, A, B or C is a mask-register index. -/
  dM : Bool := false
  aM : Bool := false
  bM : Bool := false
  cM : Bool := false
  /-- D, A or B is a wide-pair index. -/
  dW : Bool := false
  aW : Bool := false
  bW : Bool := false
  deriving DecidableEq, Repr

/-- Lanewise with one vector operand. -/
def use1 : VUse := { mask := true, zm := true, d := true, a := true }
/-- Lanewise with two vector operands. -/
def use2 : VUse := { use1 with b := true, vb := true }
/-- Lanewise with three vector operands. -/
def use3 : VUse := { use2 with c := true }
/-- S[D] from S[A] and S[B]. -/
def useS : VUse := { d := true, a := true, b := true }
/-- A conversion from operand A. -/
def useCv : VUse := { use1 with rnd := true, nov := true }

/-- R122: the opcode table: the fields of each instruction, none for a reserved CLS or FN. -/
def veUse (cls fn : Nat) : Option VUse :=
  match cls with
  | 0 => match fn with
    | 0 => some {}
    | 1 => some {}
    | 2 => some { imm := true }
    | 3 => some { a := true, imm := true }
    | 4 => some { a := true, imm := true }
    | 5 => some { a := true, b := true, imm := true }
    | 6 => some { a := true, imm := true }
    | 7 => some { d := true, a := true }
    | 8 => some { imm := true }
    | _ => none
  | 1 =>
    if fn ≤ 0x0A then some useS
    else match fn with
    | 0x10 => some { d := true, a := true, imm := true }
    | 0x11 => some { d := true, imm := true }
    | 0x12 => some { d := true, a := true, imm := true }
    | 0x18 => some useS
    | 0x19 => some useS
    | 0x1A => some useS
    | 0x1B => some useS
    | 0x1C => some useS
    | 0x1D => some { d := true, a := true, nov := true }
    | 0x1E => some { d := true, a := true }
    | 0x20 => some useS
    | 0x21 => some { d := true, a := true, imm := true }
    | 0x22 => some { d := true, a := true, imm := true }
    | 0x23 => some { d := true }
    | 0x24 => some { a := true }
    | _ => none
  | 2 =>
    if fn ≤ 2 then some use2
    else match fn with
    | 3 => some use3
    | 4 => some use3
    | 5 => some use3
    | 6 => some use2
    | 7 => some use2
    | 8 => some use1
    | 9 => some use1
    | 0x0A => some use2
    | 0x0B => some use1
    | 0x0C => some use1
    | 0x0D => some { d := true, a := true, b := true, c := true, vb := true, cM := true }
    | _ => none
  | 3 => match fn with
    | 0 => some use2
    | 1 => some use2
    | 2 => some use2
    | 3 => some use3
    | 6 => some use2
    | 7 => some use2
    | 8 => some use1
    | 9 => some use1
    | _ => none
  | 4 => if fn ≤ 0x0C then some use2 else if fn = 0x0D then some use1 else none
  | 5 =>
    if fn ≤ 5 ∨ (8 ≤ fn ∧ fn ≤ 0x0D) then some { use2 with dM := true }
    else match fn with
    | 0x0E => some { use1 with dM := true }
    | 0x10 => some { use1 with b := true, dM := true, aM := true, bM := true }
    | 0x11 => some { use1 with b := true, dM := true, aM := true, bM := true }
    | 0x12 => some { use1 with b := true, dM := true, aM := true, bM := true }
    | 0x13 => some { use1 with b := true, dM := true, aM := true, bM := true }
    | 0x14 => some { use1 with dM := true, aM := true }
    | 0x15 => some { d := true, dM := true }
    | 0x16 => some { d := true, a := true, aM := true }
    | 0x17 => some { d := true, a := true, aM := true }
    | 0x18 => some { d := true, a := true, imm := true, dM := true }
    | 0x19 => some { d := true, a := true, imm := true, dM := true }
    | _ => none
  | 6 => if fn ≤ 8 then some use1 else none
  | 7 => if fn ≤ 8 then some { mask := true, d := true, a := true } else none
  | 8 => match fn with
    | 0 => some { use1 with b := true }
    | 1 => some { use1 with b := true }
    | 2 => some { use1 with b := true }
    | 3 => some { use1 with b := true }
    | 4 => some use1
    | 5 => some use1
    | 6 => some use1
    | _ => none
  | 9 => match fn with
    | 0 => some useCv
    | 1 => some useCv
    | 2 => some { useCv with b := true, fmt := true }
    | 3 => some { useCv with fmt := true }
    | 4 => some { useCv with fmt := true }
    | 5 => some { useCv with fmt := true }
    | 0x10 => some { d := true, a := true, b := true, dW := true, aW := true, bW := true }
    | 0x11 => some { d := true, a := true, b := true, dW := true, aW := true }
    | 0x12 => some { d := true, a := true, dW := true }
    | 0x13 => some { useCv with aW := true }
    | 0x14 => some { useCv with dW := true }
    | _ => none
  | 0xA => match fn with
    | 0 => some { use1 with imm := true }
    | 1 => some { use1 with zm := false, imm := true }
    | 2 => some { use1 with b := true, imm := true }
    | 3 => some { use1 with zm := false, b := true, imm := true }
    | 4 => some { use1 with b := true, imm := true }
    | 5 => some { use1 with zm := false, b := true, imm := true }
    | 6 => some { useCv with fmt := true, elem := true, imm := true }
    | 7 => some { useCv with fmt := true, imm := true }
    | 8 => some { useCv with zm := false, fmt := true, elem := true, imm := true }
    | 9 => some { useCv with zm := false, fmt := true, imm := true }
    | 0xA => some { d := true, a := true, imm := true, dW := true }
    | 0xB => some { d := true, a := true, imm := true, dW := true }
    | 0xC => some { d := true, a := true, b := true, c := true, imm := true, dW := true }
    | _ => none
  | 0xB => match fn with
    | 0 => some { d := true }
    | 1 => some { d := true }
    | 2 => some { use1 with nov := true, imm := true }
    | 3 => some { d := true, a := true, imm := true, dW := true }
    | 4 => some {}
    | _ => none
  | _ => none

/-- R133, R135: the format limits of the converting instructions, and the MX conditions. DESIGN CHOICE
(notes/assumptions/31.md): an instruction whose FMT has its capability bit clear runs, since R118, R133 and R255 name no stop
for it. -/
def veFmtOk (i : VI) : Bool :=
  let f := fmtOf i.fmt
  let mxOk := !fmtMx f || (!i.men && decide (i.a ≤ 30))
  match i.cls, i.fn with
  | 9, 2 => f == .bf16 || f == .fp16
  | 9, 3 => f == .bf16 || f == .fp16
  | 9, 4 => f == .bf16 || f == .fp16
  | 9, 5 => !fmtMx f && f != .int32 && f != .acc35
  | 0xA, 6 => f != .acc35 && elemOk f i.elem && mxOk
  | 0xA, 7 => f == .int8 || f == .int4 || f == .int32
  | 0xA, 8 => f != .acc35 && f != .int32 && elemOk f i.elem && mxOk
  | 0xA, 9 => f == .int8 || f == .int4 || f == .int32
  | _, _ => true

/-- R118, R122: whether an instruction word is legal. -/
def veLegal (w : Nat) : Bool :=
  let i := decodeVI w
  match veUse i.cls i.fn with
  | none => false
  | some u =>
    let sr := i.rnd && u.rnd
    (!i.ss || u.vb)
      && (u.mask || (!i.men && i.msk == 0))
      && (u.zm || !i.zm)
      && (u.d || i.d == 0) && (u.a || i.a == 0)
      && (u.b || sr || i.b == 0) && (u.c || sr || i.c == 0)
      && (u.fmt || i.fmt == 0) && (u.elem || !i.elem) && (u.rnd || !i.rnd) && (u.nov || !i.nov)
      && (u.imm || i.immU == 0)
      && (!u.dM || decide (i.d < 8)) && (!u.aM || decide (i.a < 8)) && (!u.bM || decide (i.b < 8))
      && (!u.cM || decide (i.c < 8))
      && (!u.dW || decide (i.d < 16)) && (!u.aW || decide (i.a < 16)) && (!u.bW || decide (i.b < 16))
      && !(i.cls == 0 && i.fn == 6 && i.a == 0)
      && !(i.cls == 0 && i.fn == 8 && !(decide (1 ≤ i.imm) && decide (i.imm ≤ 256)))
      && veFmtOk i

/-! ### Registers -/

/-- Vector register `n`. -/
def Ve.vreg (x : Ve) (n : Nat) : BitVec 8192 := tabGet x.v 0 n
/-- The state with vector register `n` replaced. -/
def Ve.setV (x : Ve) (n : Nat) (r : BitVec 8192) : Ve := { x with v := tabSet x.v n r }
/-- Mask register `n`. -/
def Ve.mreg (x : Ve) (n : Nat) : BitVec 256 := tabGet x.mask (BitVec.allOnes 256) n
/-- The state with mask register `n` replaced. -/
def Ve.setM (x : Ve) (n : Nat) (r : BitVec 256) : Ve := { x with mask := tabSet x.mask n r }
/-- Scalar register `n`; S0 reads zero (R114). -/
def Ve.sreg (x : Ve) (n : Nat) : W64 := if n = 0 then 0 else tabGet x.s 0 n
/-- The state with scalar register `n` replaced; writes to S0 are discarded (R114). -/
def Ve.setS (x : Ve) (n : Nat) (r : W64) : Ve := if n = 0 then x else { x with s := tabSet x.s n r }
/-- The state with scalar register `n` replaced by a number modulo 2⁶⁴. -/
def Ve.setSN (x : Ve) (n : Nat) (r : Nat) : Ve := x.setS n (BitVec.ofNat 64 r)

/-- Lane `l` of a vector register (R114). -/
def lane (r : BitVec 8192) (l : Nat) : Nat := bits r.toNat (32 * l + 31) (32 * l)
/-- A vector register from its lanes. -/
def mkV (f : Nat → Nat) : BitVec 8192 := BitVec.ofNat 8192 (packElems 32 ((upTo 256).map f))
/-- A mask register from its bits. -/
def mkM (f : Nat → Bool) : BitVec 256 := BitVec.ofNat 256 (packElems 1 ((upTo 256).map (fun l => b2n (f l))))

/-- R119: whether lane `l` is active. -/
def active (x : Ve) (i : VI) (l : Nat) : Bool :=
  decide (l < x.vl) && (!i.men || (x.mreg i.msk).getLsbD l)

/-- R120: a lanewise result written to V[D]. -/
def writeLanes (x : Ve) (i : VI) (f : Nat → Nat) : Ve :=
  let old := x.vreg i.d
  x.setV i.d (mkV (fun l =>
    if active x i l then f l
    else if decide (l < x.vl) && i.zm then 0
    else lane old l))

/-- R120: a lanewise result written to MK[D], bit by bit. -/
def writeMaskBits (x : Ve) (i : VI) (f : Nat → Bool) : Ve :=
  let old := x.mreg i.d
  x.setM i.d (mkM (fun l =>
    if active x i l then f l
    else if decide (l < x.vl) && i.zm then false
    else old.getLsbD l))

/-- Lane `l` of operand A. -/
def opA (x : Ve) (i : VI) (l : Nat) : Nat := lane (x.vreg i.a) l
/-- Lane `l` of operand B: of V[B], or S[B][31:0] in every lane (R122). -/
def opB (x : Ve) (i : VI) (l : Nat) : Nat :=
  if i.ss then (x.sreg i.b).toNat % 2 ^ 32 else lane (x.vreg i.b) l
/-- Lane `l` of operand C. -/
def opC (x : Ve) (i : VI) (l : Nat) : Nat := lane (x.vreg i.c) l

/-- R138: value `l` of wide pair `n` as its 40-bit container. -/
def wideAt (x : Ve) (n l : Nat) : Nat :=
  lane (x.vreg (2 * n)) l + (lane (x.vreg (2 * n + 1)) l % 256) * 2 ^ 32

/-- R138: a wide pair written whole. -/
def setWide (x : Ve) (n : Nat) (f : Nat → Nat) : Ve :=
  (x.setV (2 * n) (mkV (fun l => f l % 2 ^ 32))).setV (2 * n + 1) (mkV (fun l => f l / 2 ^ 32 % 256))

/-! ### Core-store operands (R136) -/

/-- The base address S[A] + sext(IMM) as an unsigned 64-bit sum. -/
def baseAddr (x : Ve) (i : VI) : Nat := toBits 64 ((x.sreg i.a).toNat + i.imm)

/-- Whether `n` bytes at a core-store offset lie in the store at an alignment (R136). -/
def csOk (a n al : Nat) : Bool := decide (a + n ≤ csSize) && a % al == 0

/-- The address of lane `l` of a contiguous, strided or indexed access. -/
def laneAddr (x : Ve) (i : VI) (mode l : Nat) : Nat :=
  match mode with
  | 0 => toBits 64 (baseAddr x i + 4 * l)
  | 1 => toBits 64 (baseAddr x i + l * sext 64 (x.sreg i.b).toNat)
  | _ => toBits 64 (baseAddr x i + lane (x.vreg i.b) l)

end Sys2Proof.Machine
end

