-- ==== Sys2Proof/Machine/Flags.lean ====
section
/-!
DEFINITION. The vector engine's sticky status and conversion counts (spec/04_vector_engine.md R114, R121, R133), and
the rounding inputs of its conversions (R134).
-/
namespace Sys2Proof.Machine

/-- VSTAT bits (R114). -/
def vsPermRange : Nat := 0
/-- VSTAT.OVF. -/
def vsOvf : Nat := 1
/-- VSTAT.NAN_IN. -/
def vsNanIn : Nat := 2
/-- VSTAT.ISAT. -/
def vsIsat : Nat := 3
/-- VSTAT.POISON. -/
def vsPoison : Nat := 4

/-- VSTAT with a bit set if `on`; poison marks the program's completion too (R137). -/
def Ve.flag (x : Ve) (b : Nat) (on : Bool) : Ve :=
  if on then { x with stat := x.stat ||| BitVec.ofNat 5 (2 ^ b), pois := x.pois || b == vsPoison } else x

/-- R65, R133: the events of a list of conversions counted into the command's counts and VSTAT. -/
def Ve.events (x : Ve) (ovf nan : Nat) : Ve :=
  (({ x with ovf := x.ovf + ovf, nanIn := x.nanIn + nan }).flag vsOvf (ovf != 0)).flag vsNanIn (nan != 0)

/-- R134: the rounding of element `e` of a conversion instruction (generator site 1). DESIGN CHOICE (notes/assumptions/31.md):
an index base + e at or above 2⁴⁴, for which R61 and R134 state neither a wrap nor a limit, is passed on unwrapped. -/
def veRnd (x : Ve) (i : VI) (e : Nat) : Rnd :=
  let c := (x.sreg i.c).toNat
  rndOf i.rnd (x.sreg i.b).toNat (c % 2 ^ 20) (c / 2 ^ 20 + e) 1

/-- The number of active lanes among 0 to 255 for which a predicate holds. -/
def countActive (x : Ve) (i : VI) (f : Nat → Bool) : Nat :=
  ((upTo 256).filter (fun l => active x i l && f l)).length

/-- Whether a predicate holds for some active lane. -/
def anyActive (x : Ve) (i : VI) (f : Nat → Bool) : Bool :=
  (upTo 256).any (fun l => active x i l && f l)

end Sys2Proof.Machine
end

