-- ==== Sys2Proof/Machine/Sfu.lean ====
section
/-!
DEFINITION. The special functions (spec/04_vector_engine.md R131, R132) and the drain's activations that share them
(spec/03_matrix_array.md R90). The spec bounds their error and fixes no bits: the result is the candidate of
Config.sfuCandidate where that lies inside the bound, and the rounded value where it does not
(notes/assumptions/1.md). The true value is computed in fixed point with 192 fraction bits.
-/
namespace Sys2Proof.Machine

/-- Fraction bits of the fixed-point arithmetic. -/
def fxBits : Nat := 192
/-- One in fixed point. -/
def fxOne : Nat := 2 ^ fxBits
/-- ln 2 in fixed point, rounded down. -/
def fxLn2 : Nat := 4350955369971217654477563090224794165364344896676135745069
/-- log₂ e in fixed point, rounded down. -/
def fxLog2e : Nat := 9055943544797870567083544809312461607371518589544137143473

/-- The tail of the exponential series: `term × t^k / k! ` summed for `fuel` terms from index `k`. -/
def fxExpGo (t : Nat) : Nat → Nat → Nat → Nat
  | 0, _, _ => 0
  | fuel + 1, k, term => term + fxExpGo t fuel (k + 1) (term * t / fxOne / (k + 1))

/-- e^t for a fixed-point `t` below 1. -/
def fxExp (t : Nat) : Nat := fxExpGo t 60 0 fxOne

/-- The tail of the series of artanh: odd powers of `z` over their exponents. -/
def fxAtanhGo (z2 : Nat) : Nat → Nat → Nat → Nat
  | 0, _, _ => 0
  | fuel + 1, k, p => p / (2 * k + 1) + fxAtanhGo z2 fuel (k + 1) (p * z2 / fxOne)

/-- artanh z for a fixed-point `z` at most 1/3. -/
def fxAtanh (z : Nat) : Nat := fxAtanhGo (z * z / fxOne) 70 0 z

/-- The integer square root by bits, from bit `n` down. -/
def isqrtGo (x : Nat) : Nat → Nat → Nat
  | 0, r => r
  | n + 1, r =>
    let c := r + 2 ^ n
    isqrtGo x n (if c * c ≤ x then c else r)

/-- The integer square root of a number below 2^(2 × 320). -/
def isqrt (x : Nat) : Nat := isqrtGo x 320 0

/-- `m × 2^e` in fixed point, rounded down. -/
def toFix (m : Nat) (e : Int) : Nat :=
  if 0 ≤ e + fxBits then m * 2 ^ (e + fxBits).toNat else m / 2 ^ (-(e + fxBits)).toNat

/-- 2^(n + f) with `f` a fixed-point fraction. -/
def pow2Val (n : Int) (f : Nat) : Val := .fin false (fxExp (f * fxLn2 / fxOne)) (n - fxBits)

/-- e^(−t) for a fixed-point `t`, cut at 512 where it is far below every format. -/
def expNegVal (t : Nat) : Val :=
  let y := min t (512 * fxOne) * fxLog2e / fxOne
  let n := y / fxOne
  let f := y % fxOne
  if f = 0 then .fin false 1 (-(n : Int)) else pow2Val (-(n : Int) - 1) (fxOne - f)

/-- The fixed-point value of a finite non-negative value. -/
def valFix : Val → Nat
  | .fin _ m e => toFix m e
  | _ => 0

/-- The logistic function of `±t`, `t` in fixed point. -/
def sigVal (neg : Bool) (t : Nat) : Val :=
  let ev := expNegVal t
  let den := fxOne + valFix ev
  if neg then
    match ev with
    | .fin _ m e => .fin false (m * 2 ^ 128 * fxOne / den) (e - 128)
    | v => v
  else .fin false (fxOne * fxOne / den) (-(fxBits : Int))

/-- tanh of a finite value. -/
def tanhVal (s : Bool) (m : Nat) (e : Int) : Val :=
  if leadExp m e < -40 then .fin s m e
  else
    let ef := valFix (expNegVal (2 * toFix m e))
    .fin s ((fxOne - ef) * fxOne / (fxOne + ef)) (-(fxBits : Int))

/-- log₂ of a positive finite value. -/
def log2Val (m : Nat) (e : Int) : Val :=
  let k := m.log2
  let one := 2 ^ k
  let z := (m - one) * fxOne / (m + one)
  let frac := 2 * fxAtanh z * fxOne / fxLn2
  let i : Int := ((k : Int) + e) * (fxOne : Int) + frac
  .fin (decide (i < 0)) i.natAbs (-(fxBits : Int))

/-- ln of a positive rational `a / b` in fixed point, as an integer (used for the thermistors, R562). -/
def lnRatio (a b : Nat) : Int :=
  let ln (m : Nat) : Int :=
    let k := m.log2
    let one := 2 ^ k
    let z := (m - one) * fxOne / (m + one)
    (k : Int) * fxLn2 + 2 * fxAtanh z
  ln a - ln b

/-- The argument 2 × 0.79788456 × (x + 0.044715 x³) of the tanh form of GELU, its magnitude in fixed point (R90). -/
def geluArg (m : Nat) (e : Int) : Nat :=
  let x := toFix m e
  let x3 := toFix (m * m * m) (3 * e)
  (x * 1000000 + x3 * 44715) * 2 * 79788456 / (1000000 * 100000000)

/-- The special functions, in the order of class 0x6 (R122). -/
inductive Sfu where
  | exp2 | log2 | rcp | rsq | sqrt | tanh | sig | silu | gelu
  deriving DecidableEq, Repr

/-- The number by which Config.sfuCandidate names a function. -/
def sfuNo : Sfu → Nat
  | .exp2 => 0 | .log2 => 1 | .rcp => 2 | .rsq => 3 | .sqrt => 4 | .tanh => 5 | .sig => 6 | .silu => 7 | .gelu => 8

/-- R131: the error bound in ulp. -/
def sfuUlps : Sfu → Nat
  | .sig => 3 | .silu => 4 | .gelu => 4 | _ => 2

/-- R131: the special values: the result at an input where it is fixed, with no error. -/
def sfuExact (f : Sfu) (v : Val) : Option Val :=
  match f, v with
  | _, .nan => some .nan
  | .exp2, .inf s => some (if s then .fin false 0 0 else .inf false)
  | .exp2, .fin s m e =>
    if m = 0 then some (.fin false 1 0)
    else if 0 ≤ e then
      if s then some (if leadExp m e < 12 then .fin false 1 (-((m * 2 ^ e.toNat : Nat) : Int)) else .fin false 0 0)
      else some (if leadExp m e < 7 then .fin false 1 ((m * 2 ^ e.toNat : Nat) : Int) else .inf false)
    else
      let d := 2 ^ (-e).toNat
      if m % d = 0 then
        if s then some (if m / d < 4096 then .fin false 1 (-((m / d : Nat) : Int)) else .fin false 0 0)
        else some (if m / d < 128 then .fin false 1 ((m / d : Nat) : Int) else .inf false)
      else if !s && decide (128 ≤ m / d) then some (.inf false)
      else none
  | .log2, .inf s => some (if s then .nan else .inf false)
  | .log2, .fin s m e =>
    if m = 0 then some (.inf true)
    else if s then some .nan
    else if m = 2 ^ m.log2 then some (ofIntExp ((m.log2 : Int) + e) 0)
    else none
  | .rcp, .inf s => some (.fin s 0 0)
  | .rcp, .fin s m _ => if m = 0 then some (.inf s) else none
  | .rsq, .inf s => some (if s then .nan else .fin false 0 0)
  | .rsq, .fin s m _ => if m = 0 then some (.inf s) else if s then some .nan else none
  | .sqrt, .inf s => some (if s then .nan else .inf false)
  | .sqrt, .fin s m _ => if m = 0 then some v else if s then some .nan else none
  | .tanh, .inf s => some (.fin s 1 0)
  | .tanh, .fin _ m _ => if m = 0 then some v else none
  | .sig, .inf s => some (if s then .fin false 0 0 else .fin false 1 0)
  | .sig, .fin _ m _ => if m = 0 then some (.fin false 1 (-1)) else none
  | .silu, .inf s => some (if s then .fin true 0 0 else .inf false)
  | .silu, .fin s m _ => if m = 0 then some (.fin s 0 0) else none
  | .gelu, .inf s => some (if s then .fin true 0 0 else .inf false)
  | .gelu, .fin s m _ => if m = 0 then some (.fin s 0 0) else none

/-- The value of a function at a finite nonzero input without a fixed result, to a relative error far below 2⁻⁸⁰. -/
def sfuApprox (f : Sfu) (s : Bool) (m : Nat) (e : Int) : Val :=
  match f with
  | .exp2 =>
    let x : Int := signed s (toFix m e)
    let n := Int.fdiv x fxOne
    pow2Val (max n (-1000)) (Int.fmod x fxOne).toNat
  | .log2 => log2Val m e
  | .rcp => .fin s (2 ^ 256 / m) (-256 - e)
  | .rsq =>
    let h := if e % 2 = 0 then (m, e) else (2 * m, e - 1)
    .fin false (isqrt (2 ^ 512 / h.1)) (-256 - h.2 / 2)
  | .sqrt =>
    let h := if e % 2 = 0 then (m, e) else (2 * m, e - 1)
    .fin false (isqrt (h.1 * 2 ^ 512)) (h.2 / 2 - 256)
  | .tanh => tanhVal s m e
  | .sig => sigVal s (toFix m e)
  | .silu => (Val.fin s m e).mul (sigVal s (toFix m e))
  | .gelu => (Val.fin s m e).mul (sigVal s (geluArg m e))

/-- The exponent of ulp(y) for FP32 (R131). -/
def ulpExp (y : Val) : Int :=
  match y with
  | .fin _ m e => if m = 0 then -149 else max (leadExp m e) (-126) - 23
  | _ => -149

/-- Whether a candidate lies inside the error bound around `y` (kept 2⁻²⁰ of the bound inside it). -/
def sfuWithin (f : Sfu) (y c : Val) : Bool :=
  match c with
  | .fin _ _ _ =>
    let d := (c.add y.negate).abs
    let lim := Val.fin false (sfuUlps f * (2 ^ 20 - 1)) (ulpExp y - 20)
    let abs := Val.fin false (2 ^ 20 - 1) (-168)
    let small := y.abs.lt (.fin false 1 (-126))
    d.lt lim || ((f == .silu || f == .gelu) && small && d.lt abs)
  | _ => false

/-- R131, R132: a special function of FP32 bits. -/
def sfuEval (f : Sfu) (x : Nat) : Nat :=
  let v := decodeS .fp32 x
  match sfuExact f v with
  | some r => rneTo .fp32 r
  | none =>
    match v with
    | .fin s m e =>
      let y := sfuApprox f s m e
      let c := Config.sfuCandidate (sfuNo f) (x % 2 ^ 32) % 2 ^ 32
      if sfuWithin f y (decodeS .fp32 c) then c else rneTo .fp32 y
    | _ => rneTo .fp32 .nan

end Sys2Proof.Machine
end

