-- ==== Sys2Proof/Machine/VeBody.lean ====
section
/-!
DEFINITION. What the vector engine's instructions compute (spec/04_vector_engine.md R122 to R144), apart from issue
and program flow.
-/
namespace Sys2Proof.Machine

/-- What one instruction does: the next instruction follows, a branch is taken by a signed number of words, the
program ends, stops with a status, or the instruction waits. -/
inductive VeEff where
  | ok (s : State)
  | jump (s : State) (by_ : Int)
  | fin (s : State)
  | stop (s : State) (st : Nat)
  | wait (s : State)
  deriving DecidableEq, Repr

/-- The body of an instruction. -/
abbrev VeBody := State → Nat → VI → VeEff

/-- The state with the vector engine of a core replaced. -/
def setVe (s : State) (p : Nat) (x : Ve) : State := s.setCore p { s.core p with ve := x }

/-- An instruction that changes vector-engine registers only. -/
def veReg (f : Ve → VI → Ve) : VeBody := fun s p i => .ok (setVe s p (f (s.core p).ve i))

/-! ### Scalar instructions -/

/-- S[D] = S[A] op S[B]. -/
def scalar2 (f : W64 → W64 → W64) : VeBody := veReg (fun x i => x.setS i.d (f (x.sreg i.a) (x.sreg i.b)))

/-- FP32 arithmetic on bits (R123): one rounding to nearest even. -/
def f32 (v : Val) : Nat := rneTo .fp32 v
/-- The value of FP32 bits. -/
def fp (x : Nat) : Val := decodeS .fp32 x

/-- R123: the lesser of two values; NaN if either is NaN, −0 below +0. -/
def minVal (a b : Val) : Val :=
  if a.isNan || b.isNan then .nan else if a.lt b then a else if b.lt a then b else if a.neg? then a else b
/-- R123: the greater of two values. -/
def maxVal (a b : Val) : Val :=
  if a.isNan || b.isNan then .nan else if a.lt b then b else if b.lt a then a else if a.neg? then b else a

/-- S[D] = zext of an FP32 function of S[A][31:0] and S[B][31:0]. -/
def scalarF (f : Val → Val → Val) : VeBody :=
  veReg (fun x i => x.setSN i.d (f32 (f (fp ((x.sreg i.a).toNat % 2 ^ 32)) (fp ((x.sreg i.b).toNat % 2 ^ 32)))))

/-- R124: the sum of two containers rounded once, the canonical NaN with POISON for a poisoned input. -/
def wideAdd (a b : Nat) : Nat :=
  if a.testBit 39 || b.testBit 39 then poisonNan
  else rneTo .acc35 ((decodeS .acc35 a).add (decodeS .acc35 b))

/-- SACC (R124). -/
def veSacc : VeBody := veReg (fun x i =>
  let a := (x.sreg i.a).toNat % 2 ^ 40
  let b := (x.sreg i.b).toNat % 2 ^ 40
  (x.setSN i.d (wideAdd a b)).flag vsPoison (a.testBit 39 || b.testBit 39))

/-- W2F (R122, R133, R137). -/
def veW2f : VeBody := veReg (fun x i =>
  let a := (x.sreg i.a).toNat % 2 ^ 40
  let e := convertS .acc35 .fp32 a .rne i.nov
  ((x.setSN i.d e.bits).events (b2n e.ovf) (b2n e.nanIn)).flag vsPoison (a.testBit 39))

/-- F2W (R58, R122). -/
def veF2w : VeBody := veReg (fun x i =>
  x.setSN i.d (rneTo .acc35 (fp ((x.sreg i.a).toNat % 2 ^ 32))))

/-- VEXT. -/
def veVext : VeBody := veReg (fun x i => x.setSN i.d (opA x i ((x.sreg i.b).toNat % 256)))

/-! ### Core-store access -/

/-- POISON_RD of a core counts distinct poisoned words delivered (R186). -/
def countPoison (s : State) (p : Nat) (us : List Nat) : State :=
  coreCtr s p 0x1E0 ((us.eraseDups.filter (unitBad s)).length)

/-- Detection and counting for a load of some units. -/
def loadUnits (s : State) (p : Nat) (us : List Nat) : State :=
  countPoison (us.foldl detectUnit s) p us

/-- The device physical address of a core-store offset. -/
def csAddr (p o : Nat) : Nat := csBase p + o

/-- SLD (R122, R136, R137). -/
def veSld : VeBody := fun s p i =>
  let x := (s.core p).ve
  let o := baseAddr x i
  if !csOk o 8 8 then .stop s 0x24
  else
    let bad := rangeBad s (csAddr p o) 8
    let v := if bad then 0 else readLE s (csAddr p o) 8
    let s := loadUnits s p (unitsOf (csAddr p o) 8)
    .ok (setVe s p (((s.core p).ve.setSN i.d v).flag vsPoison bad))

/-- SST. -/
def veSst : VeBody := fun s p i =>
  let x := (s.core p).ve
  let o := baseAddr x i
  if !csOk o 8 8 then .stop s 0x24
  else .ok (writeMem s (csAddr p o) (toLE 8 (x.sreg i.d).toNat) false)

/-- VLD, VLDS and VLDX (R122, R136, R137): `mode` 0 contiguous, 1 strided, 2 indexed. -/
def veLoad (mode : Nat) : VeBody := fun s p i =>
  let x := (s.core p).ve
  let ad := laneAddr x i mode
  if anyActive x i (fun l => !csOk (ad l) 4 4) then .stop s 0x24
  else
    let bad (l : Nat) := rangeBad s (csAddr p (ad l)) 4
    let y := (writeLanes x i (fun l => if bad l then 0x7FC00000 else readLE s (csAddr p (ad l)) 4)).flag
      vsPoison (anyActive x i bad)
    let us := ((upTo 256).filter (active x i)).flatMap (fun l => unitsOf (csAddr p (ad l)) 4)
    .ok (setVe (loadUnits s p us) p y)

/-- VST, VSTS and VSTX. DESIGN CHOICE (notes/assumptions/31.md): of a store that stops with VE_ADDR no lane is written, though
R118 allows earlier ones, and lanes that took the value of a poisoned load are stored as clean words: the registers hold no
mark of poison, and R137 leaves it to the completion's bit. -/
def veStore (mode : Nat) : VeBody := fun s p i =>
  let x := (s.core p).ve
  let ad := laneAddr x i mode
  if anyActive x i (fun l => !csOk (ad l) 4 4) then .stop s 0x24
  else
    .ok (writeRuns s (((upTo 256).filter (active x i)).map (fun l =>
      (csAddr p (ad l), toLE 4 (lane (x.vreg i.d) l)))))

/-- MLD: all 256 bits; a poisoned word gives zero bits (R120, R137). -/
def veMld : VeBody := fun s p i =>
  let x := (s.core p).ve
  let o := baseAddr x i
  if !csOk o 32 8 then .stop s 0x24
  else
    let bad (k : Nat) := rangeBad s (csAddr p o + 8 * k) 8
    let v := packElems 64 ((upTo 4).map (fun k => if bad k then 0 else readLE s (csAddr p o + 8 * k) 8))
    let y := (x.setM i.d (BitVec.ofNat 256 v)).flag vsPoison ((upTo 4).any bad)
    .ok (setVe (loadUnits s p (unitsOf (csAddr p o) 32)) p y)

/-- MST. -/
def veMst : VeBody := fun s p i =>
  let x := (s.core p).ve
  let o := baseAddr x i
  if !csOk o 32 8 then .stop s 0x24
  else .ok (writeMem s (csAddr p o) (toLE 32 (x.mreg i.d).toNat) false)

/-! ### Lanewise arithmetic -/

/-- Lanewise, one operand. -/
def lanes1 (f : Nat → Nat) : VeBody := veReg (fun x i => writeLanes x i (fun l => f (opA x i l)))
/-- Lanewise, two operands. -/
def lanes2 (f : Nat → Nat → Nat) : VeBody := veReg (fun x i => writeLanes x i (fun l => f (opA x i l) (opB x i l)))
/-- Lanewise, three operands. -/
def lanes3 (f : Nat → Nat → Nat → Nat) : VeBody :=
  veReg (fun x i => writeLanes x i (fun l => f (opA x i l) (opB x i l) (opC x i l)))

/-- FP32 in two operands. -/
def fp2 (f : Val → Val → Val) (a b : Nat) : Nat := f32 (f (fp a) (fp b))
/-- FP32 in three operands. -/
def fp3 (f : Val → Val → Val → Val) (a b c : Nat) : Nat := f32 (f (fp a) (fp b) (fp c))

/-- The sum of two values as an operator. -/
def vAdd (a b : Val) : Val := a.add b
/-- The difference of two values. -/
def vSub (a b : Val) : Val := a.add b.negate
/-- The product of two values. -/
def vMul (a b : Val) : Val := a.mul b
/-- A × B + C. -/
def vFma (a b c : Val) : Val := (a.mul b).add c
/-- A × B − C. -/
def vFms (a b c : Val) : Val := (a.mul b).add c.negate
/-- −(A × B) + C. -/
def vFnma (a b c : Val) : Val := ((a.mul b).negate).add c
/-- |A| with the sign of B's bits. -/
def vCps (t : Sty) (a b : Nat) : Nat :=
  match (decodeS t a).abs with
  | .nan => rneTo t .nan
  | v => rneTo t (if b.testBit (styBits t - 1) then v.negate else v)

/-- A function of BF16 elements on both halves of a lane. -/
def packed1 (f : Nat → Nat) (a : Nat) : Nat := f (a % 65536) + 65536 * f (a / 65536)
/-- Two operands. -/
def packed2 (f : Nat → Nat → Nat) (a b : Nat) : Nat := f (a % 65536) (b % 65536) + 65536 * f (a / 65536) (b / 65536)
/-- Three operands. -/
def packed3 (f : Nat → Nat → Nat → Nat) (a b c : Nat) : Nat :=
  f (a % 65536) (b % 65536) (c % 65536) + 65536 * f (a / 65536) (b / 65536) (c / 65536)
/-- BF16 bits of a value, rounded once. -/
def b16 (v : Val) : Nat := rneTo .bf16 v
/-- The value of BF16 bits. -/
def bf (x : Nat) : Val := decodeS .bf16 x

/-- The signed value of a 32-bit lane. -/
def i32 (x : Nat) : Int := sext 32 x
/-- A 32-bit lane of an integer, wrapping. -/
def w32 (x : Int) : Nat := toBits 32 x
/-- An integer saturated to INT32, and whether it was. -/
def sat32 (x : Int) : Nat × Bool :=
  if x < -(2 ^ 31 : Int) then (w32 (-(2 ^ 31 : Int)), true)
  else if (2 ^ 31 : Int) - 1 < x then (w32 ((2 ^ 31 : Int) - 1), true) else (w32 x, false)

/-- VADDS.I and VSUBS.I: saturation sets ISAT. -/
def lanesSat (f : Int → Int → Int) : VeBody := veReg (fun x i =>
  let r (l : Nat) := sat32 (f (i32 (opA x i l)) (i32 (opB x i l)))
  (writeLanes x i (fun l => (r l).1)).flag vsIsat (anyActive x i (fun l => (r l).2)))

/-- VSEL: A where MK[C] has the lane, else B; every lane below VL. -/
def veVsel : VeBody := veReg (fun x i =>
  writeLanes x i (fun l => if (x.mreg i.c).getLsbD l then opA x i l else opB x i l))

/-- VBC: S[A][31:0] in every active lane. -/
def veVbc : VeBody := veReg (fun x i => writeLanes x i (fun _ => (x.sreg i.a).toNat % 2 ^ 32))

/-- VIOTA: l + S[A][31:0], wrapping. -/
def veViota : VeBody := veReg (fun x i => writeLanes x i (fun l => (l + (x.sreg i.a).toNat) % 2 ^ 32))

/-! ### Compares and masks -/

/-- The six relations in the order of the opcode table; `lt` and `eq` of operands that are not NaN. -/
def relation (k : Nat) (nan lt eq : Bool) : Bool :=
  match k with
  | 0 => !nan && eq
  | 1 => nan || !eq
  | 2 => !nan && lt
  | 3 => !nan && (lt || eq)
  | 4 => !nan && !lt && !eq
  | _ => !nan && !lt

/-- VCMP.F: FN gives the relation (R123). -/
def veVcmpF : VeBody := veReg (fun x i => writeMaskBits x i (fun l =>
  let a := fp (opA x i l)
  let b := fp (opB x i l)
  relation i.fn (a.isNan || b.isNan) (a.lt b) (a.numEq b)))

/-- VCMP.I: FN less 8 gives the relation. -/
def veVcmpI : VeBody := veReg (fun x i => writeMaskBits x i (fun l =>
  let a := i32 (opA x i l)
  let b := i32 (opB x i l)
  relation (i.fn - 8) false (decide (a < b)) (decide (a = b))))

/-- VNAN. -/
def veVnan : VeBody := veReg (fun x i => writeMaskBits x i (fun l => (fp (opA x i l)).isNan))

/-- A mask from two masks, bit by bit. -/
def mask2 (f : Bool → Bool → Bool) : VeBody := veReg (fun x i =>
  writeMaskBits x i (fun l => f ((x.mreg i.a).getLsbD l) ((x.mreg i.b).getLsbD l)))

/-- MNOT. -/
def veMnot : VeBody := veReg (fun x i => writeMaskBits x i (fun l => !(x.mreg i.a).getLsbD l))

/-- MVL: bits 0 to VL − 1 set, the others clear (R120). -/
def veMvl : VeBody := veReg (fun x i => x.setM i.d (mkM (fun l => decide (l < x.vl))))

/-- MPOP. -/
def veMpop : VeBody := veReg (fun x i => x.setSN i.d (popCount x.vl (x.mreg i.a).toNat))

/-- MFIRST. -/
def veMfirst : VeBody := veReg (fun x i => x.setSN i.d ((firstBitFrom x.vl 0 (x.mreg i.a).toNat).getD 256))

/-! ### Reductions (R127, R128) -/

/-- One level of the reduction tree: an absent child passes the other unchanged. -/
def treeLevel {α : Type} (f : α → α → α) : List (Option α) → List (Option α)
  | a :: b :: t =>
    (match a, b with
      | some x, some y => some (f x y)
      | some x, none => some x
      | none, y => y) :: treeLevel f t
  | l => l

/-- The root of the 8-level tree over 256 lanes. -/
def treeRoot {α : Type} (f : α → α → α) (l : List (Option α)) : Option α :=
  match forUp 8 (fun _ t => treeLevel f t) l with
  | x :: _ => x
  | [] => none

/-- The present lanes of a reduction. -/
def present {α : Type} (x : Ve) (i : VI) (f : Nat → α) : List (Option α) :=
  (upTo 256).map (fun l => if active x i l then some (f l) else none)

/-- ACC35 sum of two encodings, one rounding. -/
def accAdd (a b : Nat) : Nat := rneTo .acc35 ((decodeS .acc35 a).add (decodeS .acc35 b))

/-- RSUM and RSSQ to their ACC35 root (+0 when every lane is absent). -/
def sumRoot (sq : Bool) (x : Ve) (i : VI) : Nat :=
  (treeRoot accAdd (present x i (fun l =>
    let v := fp (opA x i l)
    rneTo .acc35 (if sq then v.mul v else v)))).getD 0

/-- RSUM and RSSQ: the root to FP32 under RND 0, NOV 1; the .W forms return it unconverted. DESIGN CHOICE
(notes/assumptions/31.md): an overflow of the root counts in neither OVF nor VSTAT, since R133 does not list reductions. -/
def veSum (sq wide : Bool) : VeBody := veReg (fun x i =>
  let r := sumRoot sq x i
  x.setSN i.d (if wide then r else (convertS .acc35 .fp32 r .rne true).bits))

/-- RMAX, RMIN and RAMAX. -/
def veExtreme (f : Val → Val → Val) (g : Val → Val) (empty : Nat) : VeBody := veReg (fun x i =>
  x.setSN i.d (match treeRoot f (present x i (fun l => g (fp (opA x i l)))) with
    | some v => f32 v
    | none => empty))

/-- ARGMAX: the lane of the largest value, the lowest among equals; a NaN lane counts as the largest. -/
def veArgmax : VeBody := veReg (fun x i =>
  let better (a b : Nat) : Bool :=
    let u := fp (opA x i a)
    let v := fp (opA x i b)
    if u.isNan then false else v.isNan || u.lt v
  let r := (upTo 256).foldl (fun (acc : Option Nat) l =>
    if active x i l then
      match acc with
      | none => some l
      | some k => if better k l then some l else some k
    else acc) none
  x.setSN i.d (r.getD 256))

/-- RSUM.I: saturating nodes set ISAT. -/
def veRsumI : VeBody := veReg (fun x i =>
  let node (a b : Int × Bool) : Int × Bool :=
    let t := sat32 (a.1 + b.1)
    (sext 32 t.1, a.2 || b.2 || t.2)
  let r := (treeRoot node (present x i (fun l => (i32 (opA x i l), false)))).getD (0, false)
  (x.setSN i.d (toBits 64 r.1)).flag vsIsat r.2)

/-! ### Permutes (R129, R130) -/

/-- VPERM. -/
def veVperm : VeBody := veReg (fun x i =>
  let idx (l : Nat) := lane (x.vreg i.b) l
  (writeLanes x i (fun l => if idx l < x.vl then opA x i (idx l) else 0)).flag vsPermRange
    (anyActive x i (fun l => decide (x.vl ≤ idx l))))

/-- The 16-bit element `e` of a vector register. -/
def half (r : BitVec 8192) (e : Nat) : Nat := bits r.toNat (16 * e + 15) (16 * e)

/-- VPERMH. -/
def veVpermh : VeBody := veReg (fun x i =>
  let idx (e : Nat) := half (x.vreg i.b) e
  let g (e : Nat) := if idx e < 2 * x.vl then half (x.vreg i.a) (idx e) else 0
  (writeLanes x i (fun l => g (2 * l) + 65536 * g (2 * l + 1))).flag vsPermRange
    (anyActive x i (fun l => decide (2 * x.vl ≤ idx (2 * l)) || decide (2 * x.vl ≤ idx (2 * l + 1)))))

/-- VSLDN and VSLUP. -/
def veSlide (down : Bool) : VeBody := veReg (fun x i =>
  let n := (x.sreg i.b).toNat
  writeLanes x i (fun l =>
    if 255 < n then 0
    else if down then (if l + n < x.vl then opA x i (l + n) else 0)
    else if n ≤ l then opA x i (l - n) else 0))

/-- Whether lane `l` below VL is selected by a compress or expand. -/
def selected (x : Ve) (i : VI) (l : Nat) : Bool := !i.men || (x.mreg i.msk).getLsbD l

/-- VCOMP: every lane below VL is written, whatever ZM. -/
def veVcomp : VeBody := veReg (fun x i =>
  let src := (upTo x.vl).filter (selected x i)
  let old := x.vreg i.d
  let r := src.map (opA x i)
  x.setV i.d (mkV (fun l => if l < x.vl then r.getD l 0 else lane old l)))

/-- VEXPD: every lane below VL is written, whatever ZM. -/
def veVexpd : VeBody := veReg (fun x i =>
  let old := x.vreg i.d
  let rank (l : Nat) := ((upTo l).filter (selected x i)).length
  x.setV i.d (mkV (fun l =>
    if l < x.vl then (if selected x i l then opA x i (rank l) else 0) else lane old l)))

/-- VREV. -/
def veVrev : VeBody := veReg (fun x i => writeLanes x i (fun l => opA x i (x.vl - 1 - l)))

/-! ### Conversions (R133, R134) -/

/-- A lanewise conversion between lane types, with its events. -/
def veConvert (src dst : Sty) : VeBody := veReg (fun x i =>
  let r (l : Nat) := convertS src dst (opA x i l) (veRnd x i l) i.nov
  (writeLanes x i (fun l => (r l).bits)).events (countActive x i (fun l => (r l).ovf))
    (countActive x i (fun l => (r l).nanIn)))

/-- VPACK: element 2l from A, element 2l + 1 from B; a lane counts each of its two conversions. -/
def veVpack : VeBody := veReg (fun x i =>
  let t := fmtElem (fmtOf i.fmt) false
  let r (h l : Nat) := convertS .fp32 t (if h = 0 then opA x i l else lane (x.vreg i.b) l) (veRnd x i (2 * l + h)) i.nov
  (writeLanes x i (fun l => (r 0 l).bits + 65536 * (r 1 l).bits)).events
    (countActive x i (fun l => (r 0 l).ovf) + countActive x i (fun l => (r 1 l).ovf))
    (countActive x i (fun l => (r 0 l).nanIn) + countActive x i (fun l => (r 1 l).nanIn)))

/-- VUNLO and VUNHI: exact widening. -/
def veUnpack (h : Nat) : VeBody := veReg (fun x i =>
  let t := fmtElem (fmtOf i.fmt) false
  writeLanes x i (fun l => (convertS t .fp32 (half (x.vreg i.a) (2 * l + h)) .rne i.nov).bits))

/-- VQNT: rounded to FMT and widened back. -/
def veVqnt : VeBody := veReg (fun x i =>
  let t := fmtElem (fmtOf i.fmt) false
  let r (l : Nat) := convertS .fp32 t (opA x i l) (veRnd x i l) i.nov
  (writeLanes x i (fun l => (convertS t .fp32 (r l).bits .rne true).bits)).events
    (countActive x i (fun l => (r l).ovf)) (countActive x i (fun l => (r l).nanIn)))

/-! ### Wide pairs (R124, R138) -/

/-- WADD. -/
def veWadd : VeBody := veReg (fun x i =>
  (setWide x i.d (fun l => wideAdd (wideAt x i.a l) (wideAt x i.b l))).flag vsPoison
    ((upTo 256).any (fun l => (wideAt x i.a l).testBit 39 || (wideAt x i.b l).testBit 39)))

/-- WADDF: FP32 lanes into a wide pair. -/
def veWaddf : VeBody := veReg (fun x i =>
  (setWide x i.d (fun l => wideAdd (wideAt x i.a l) (rneTo .acc35 (fp (lane (x.vreg i.b) l))))).flag vsPoison
    ((upTo 256).any (fun l => (wideAt x i.a l).testBit 39)))

/-- WFROM: exact. -/
def veWfrom : VeBody := veReg (fun x i => setWide x i.d (fun l => rneTo .acc35 (fp (opA x i l))))

/-- WTO: lanewise. -/
def veWto : VeBody := veReg (fun x i =>
  let r (l : Nat) := convertS .acc35 .fp32 (wideAt x i.a l) (veRnd x i l) i.nov
  ((writeLanes x i (fun l => (r l).bits)).events (countActive x i (fun l => (r l).ovf))
    (countActive x i (fun l => (r l).nanIn))).flag vsPoison
      (anyActive x i (fun l => (wideAt x i.a l).testBit 39)))

/-- WFROMI: lanewise, both registers of the pair following R120. -/
def veWfromi : VeBody := veReg (fun x i =>
  let r (l : Nat) := convertS .int32 .acc35 (opA x i l) (veRnd x i l) i.nov
  let y := writeLanes x { i with d := 2 * i.d } (fun l => (r l).bits % 2 ^ 32)
  (writeLanes y { i with d := 2 * i.d + 1 } (fun l => (r l).bits / 2 ^ 32)).events
    (countActive x i (fun l => (r l).ovf)) (countActive x i (fun l => (r l).nanIn)))

/-! ### Converting accesses (R135, R137) -/

/-- R136: the alignment of a converting access. -/
def convAlign (t : Sty) : Nat := match styBits t with | 32 => 4 | 16 => 2 | _ => 1

/-- The first byte and the byte count of element `e` of a `w`-bit array. -/
def elemSpan (w e : Nat) : Nat × Nat := (w * e / 8, (w * e + w - 1) / 8 - w * e / 8 + 1)

/-- R135: the core-store offset of byte `k` of an array at a base, a sum of 64 bits. -/
def convAddr (o k : Nat) : Nat := toBits 64 (o + k : Nat)

/-- The code of element `e` of a `w`-bit array at an offset of a core's store. -/
def loadElem (s : State) (p o w e : Nat) : Nat :=
  let sp := elemSpan w e
  bits (readLE s (csAddr p (convAddr o sp.1)) sp.2) (w * e % 8 + w - 1) (w * e % 8)

/-- The scale address of element `e` of an MX access: S[A + 1] plus the block. -/
def mxScale (x : Ve) (i : VI) (e : Nat) : Nat := (x.sreg (i.a + 1)).toNat + e / 32

/-- VLDC.F and VLDC.I: VL elements of FMT to FP32 or INT32 lanes. -/
def veLoadConv (toInt : Bool) : VeBody := fun s p i =>
  let x := (s.core p).ve
  let f := fmtOf i.fmt
  let t := fmtElem f i.elem
  let mx := fmtMx f
  let w := styBits t
  let o := baseAddr x i
  let inStore (l : Nat) : Bool :=
    let sp := elemSpan w l
    csOk (convAddr o sp.1) sp.2 1 && o % convAlign t == 0 && (!mx || csOk (mxScale x i l) 1 1)
  if anyActive x i (fun l => !inStore l) then .stop s 0x24
  else
    let bad (l : Nat) : Bool :=
      let sp := elemSpan w l
      rangeBad s (csAddr p (convAddr o sp.1)) sp.2 || (mx && rangeBad s (csAddr p (mxScale x i l)) 1)
    let enc (l : Nat) : Enc :=
      let c := loadElem s p o w l
      if bad l then ⟨if toInt then 0 else 0x7FC00000, false, false⟩
      else if mx then encodeS .fp32 (decodeMx t (readByte s (csAddr p (mxScale x i l))).toNat c) (veRnd x i l) i.nov
      else convertS t (if toInt then .int32 else .fp32) c (veRnd x i l) i.nov
    let y := ((writeLanes x i (fun l => (enc l).bits)).events (countActive x i (fun l => (enc l).ovf))
      (countActive x i (fun l => (enc l).nanIn))).flag vsPoison (anyActive x i bad)
    let us := ((upTo 256).filter (active x i)).flatMap (fun l =>
      let sp := elemSpan w l
      unitsOf (csAddr p (convAddr o sp.1)) sp.2 ++ (if mx then unitsOf (csAddr p (mxScale x i l)) 1 else []))
    .ok (setVe (loadUnits s p us) p y)

/-- R50: elements that pad a store of `n` elements: to an even count at 4 bits, to a multiple of four at 6. -/
def padCount (w n : Nat) : Nat := match w with | 4 => ceilTo n 2 | 6 => ceilTo n 4 | _ => n

/-- The bytes of a narrow store of codes: `code e` gives an element's new code, none to keep its stored bits. Bytes
that hold no new code are not written. -/
def narrowRuns (s : State) (p o w n : Nat) (code : Nat → Option Nat) : List (Nat × List Byte) :=
  let touched (k : Nat) : Bool :=
    (upTo n).any (fun e => (code e).isSome && decide ((elemSpan w e).1 ≤ k)
      && decide (k < (elemSpan w e).1 + (elemSpan w e).2))
  ((upTo ((w * n + 7) / 8)).filter touched).map (fun k =>
    let bitsOf := (upTo 8).map (fun j =>
      let e := (8 * k + j) / w
      match (if e < n then code e else none) with
      | some c => b2n (c.testBit ((8 * k + j) % w))
      | none => b2n ((readByte s (csAddr p (convAddr o k))).toNat.testBit j))
    (csAddr p (convAddr o k), [BitVec.ofNat 8 (packElems 1 bitsOf)]))

/-- VSTC.F and VSTC.I to a scalar format. DESIGN CHOICE (notes/assumptions/31.md): a store whose zero padding leaves the core
store stops with VE_ADDR, also where its active elements lie inside. -/
def storeScalar (src : Sty) (s : State) (p : Nat) (i : VI) : VeEff :=
  let x := (s.core p).ve
  let t := fmtElem (fmtOf i.fmt) false
  let w := styBits t
  let o := baseAddr x i
  let n := padCount w x.vl
  let inStore (l : Nat) : Bool :=
    let sp := elemSpan w l
    csOk (convAddr o sp.1) sp.2 1 && o % convAlign t == 0
  if anyActive x i (fun l => !inStore l) then .stop s 0x24
  else
    let some_ := anyActive x i (fun _ => true)
    if some_ && decide (csSize ≤ convAddr o ((w * n + 7) / 8 - 1)) && decide (n ≠ x.vl) then .stop s 0x24
    else
      let enc (l : Nat) : Enc := convertS src t (lane (x.vreg i.d) l) (veRnd x i l) i.nov
      let code (e : Nat) : Option Nat :=
        if e < x.vl then (if active x i e then some (enc e).bits else none)
        else if some_ then some 0 else none
      let y := x.events (countActive x i (fun l => (enc l).ovf)) (countActive x i (fun l => (enc l).nanIn))
      .ok (writeRuns (setVe s p y) (narrowRuns s p o w n code))

/-- VSTC.F to an MX format: whole blocks with zero padding, and their scale bytes. -/
def storeMx (s : State) (p : Nat) (i : VI) : VeEff :=
  let x := (s.core p).ve
  let t := fmtElem (fmtOf i.fmt) i.elem
  let w := styBits t
  let o := baseAddr x i
  let so := (x.sreg (i.a + 1)).toNat
  let nb := ceilDiv x.vl 32
  if !csOk o (4 * w * nb) (convAlign t) || !csOk so nb 1 then .stop s 0x24
  else
    let blk (b : Nat) : MxBlock := encodeMx t ((upTo 32).map (fun k =>
      let e := 32 * b + k
      if e < x.vl then (fp (lane (x.vreg i.d) e), veRnd x i e) else (.fin false 0 0, .rne))) i.nov
    let bs := (upTo nb).map blk
    let y := x.events (bs.filter (fun b => b.ovf)).length (bs.filter (fun b => b.nanIn)).length
    let bytes := bs.flatMap (fun b => toLE (4 * w) (packElems w b.elems))
    let s := writeMem (setVe s p y) (csAddr p o) bytes false
    .ok (writeMem s (csAddr p so) (bs.map (fun b => BitVec.ofNat 8 b.scale)) false)

/-- VSTC.F. -/
def veStoreF : VeBody := fun s p i =>
  if fmtMx (fmtOf i.fmt) then storeMx s p i else storeScalar .fp32 s p i
/-- VSTC.I. -/
def veStoreI : VeBody := fun s p i => storeScalar .int32 s p i

/-! ### Spill blocks (R48, R138, R139) -/

/-- Container `l` of 256 at a device address, POISON set where its words are poisoned. -/
def loadCont (s : State) (a l : Nat) : Nat :=
  let v := readLE s (a + 5 * l) 5
  if rangeBad s (a + 5 * l) 5 then (if v.testBit 39 then v else v + poisonBit) else v

/-- SPL.LD. -/
def veSplLd : VeBody := fun s p i =>
  let x := (s.core p).ve
  let o := baseAddr x i
  if !csOk o 1280 64 then .stop s 0x24
  else
    let y := (setWide x i.d (loadCont s (csAddr p o))).flag vsPoison (rangeBad s (csAddr p o) 1280)
    .ok (setVe (loadUnits s p (unitsOf (csAddr p o) 1280)) p y)

/-- SPL.ST. -/
def veSplSt : VeBody := fun s p i =>
  let x := (s.core p).ve
  let o := baseAddr x i
  if !csOk o 1280 64 then .stop s 0x24
  else .ok (writeMem s (csAddr p o) (toLE 1280 (packElems 40 ((upTo 256).map (wideAt x i.d)))) false)

/-- SPL.FOLD: the partials added in split-index order, one rounding each. DESIGN CHOICE (notes/assumptions/31.md): the
addresses base + i × stride are sums of 64 bits that wrap, as those of lanes do. -/
def veSplFold : VeBody := fun s p i =>
  let x := (s.core p).ve
  let o := baseAddr x i
  let st := (x.sreg i.b).toNat
  let n := (x.sreg i.c).toNat
  let block (k : Nat) : Nat := convAddr o (k * st)
  if 65536 ≤ n then .stop s 0x14
  else if st % 64 != 0 || o % 64 != 0 || (upTo n).any (fun k => !csOk (block k) 1280 64) then .stop s 0x24
  else if n = 0 then .ok (setVe s p (setWide x i.d (fun _ => 0)))
  else
    let at_ (k l : Nat) := loadCont s (csAddr p (block k)) l
    let fold (l : Nat) : Nat := (upTo (n - 1)).foldl (fun acc k => wideAdd acc (at_ (k + 1) l)) (at_ 0 l)
    let us := (upTo n).flatMap (fun k => unitsOf (csAddr p (block k)) 1280)
    let bad := us.any (unitBad s)
      || (decide (2 ≤ n) && (upTo 256).any (fun l => (upTo n).any (fun k => (at_ k l).testBit 39)))
    .ok (setVe (loadUnits s p us) p ((setWide x i.d fold).flag vsPoison bad))

/-! ### The lagg queue (R141 to R144) -/

/-- A core's lagg slot. -/
def laggSlot (s : State) (p k : Nat) : LaggSlot := tabGet (s.core p).mxa.lagg {} k

/-- R141: a slot's descriptor. -/
def laggDesc (l : LaggSlot) : Nat :=
  l.seq.toNat + l.m * 2 ^ 32 + l.n * 2 ^ 40 + l.fmt * 2 ^ 48 + b2n l.elem * 2 ^ 52 + l.queue * 2 ^ 53

/-- LWAIT. -/
def veLwait : VeBody := fun s p i =>
  let x := (s.core p).ve
  let l := laggSlot s p (s.core p).mxa.laggHead
  if !l.ready then .wait s
  else if l.queue != x.queue then .stop s 0x15
  else .ok (setVe s p { x.setSN i.d (laggDesc l) with slotTaken := true })

/-- LPEEK. -/
def veLpeek : VeBody := fun s p i =>
  let x := (s.core p).ve
  let l := laggSlot s p (s.core p).mxa.laggHead
  if !l.ready then .ok (setVe s p (x.setSN i.d (2 ^ 63)))
  else if l.queue != x.queue then .ok (setVe s p (x.setSN i.d (2 ^ 62 + l.queue * 2 ^ 53)))
  else .ok (setVe s p { x.setSN i.d (laggDesc l) with slotTaken := true })

/-- Elements of a stored row of a slot: 128, or N padded to a multiple of 32 in an MX format. -/
def slotRow (l : LaggSlot) : Nat := if fmtMx (fmtOf l.fmt) then ceilTo l.n 32 else 128

/-- Whether element (r, c) of a slot reads poisoned. -/
def slotBad (l : LaggSlot) (r c : Nat) : Bool :=
  decide (r < l.m) && decide (c < l.n)
    && (l.pois.getD (r * slotRow l + c) false || (fmtMx (fmtOf l.fmt) && l.spois.getD (4 * r + c / 32) false))

/-- R143: the row of a slot that lane `ln` reads: r, or r + 1 in 64 bits. DESIGN CHOICE (notes/assumptions/31.md): a negative
r names no row below M, as any r at or beyond it. -/
def laggRow (x : Ve) (i : VI) (ln : Nat) : Nat := toBits 64 (baseAddr x i + ln / 128 : Nat)

/-- LLD: rows r and r + 1 converted into lanes. -/
def veLld : VeBody := fun s p i =>
  let x := (s.core p).ve
  let l := laggSlot s p (s.core p).mxa.laggHead
  let f := fmtOf l.fmt
  if !x.slotTaken || f == .acc35 then .stop s 0x15
  else
    let t := fmtElem f l.elem
    let int := f == .int8 || f == .int4 || f == .int32
    let at_ (ln : Nat) : Nat × Nat := (laggRow x i ln, ln % 128)
    let enc (ln : Nat) : Enc :=
      let rc := at_ ln
      if l.m ≤ rc.1 ∨ l.n ≤ rc.2 then ⟨0, false, false⟩
      else if slotBad l rc.1 rc.2 then ⟨if int then 0 else 0x7FC00000, false, false⟩
      else
        let c := (l.codes.getD (rc.1 * slotRow l + rc.2) 0).toNat
        if fmtMx f then encodeS .fp32 (decodeMx t (l.scales.getD (4 * rc.1 + rc.2 / 32) 0).toNat c) .rne i.nov
        else convertS t (if int then .int32 else .fp32) c .rne i.nov
    .ok (setVe s p (((writeLanes x i (fun ln => (enc ln).bits)).events (countActive x i (fun ln => (enc ln).ovf))
      (countActive x i (fun ln => (enc ln).nanIn))).flag vsPoison
        (anyActive x i (fun ln => slotBad l (at_ ln).1 (at_ ln).2))))

/-- LLDW: the same 256 values of an ACC35 slot in a wide pair. -/
def veLldw : VeBody := fun s p i =>
  let x := (s.core p).ve
  let l := laggSlot s p (s.core p).mxa.laggHead
  if !x.slotTaken || fmtOf l.fmt != .acc35 then .stop s 0x15
  else
    let g (ln : Nat) : Nat :=
      let row := laggRow x i ln
      let c := ln % 128
      if l.m ≤ row ∨ l.n ≤ c then 0
      else
        let v := (l.codes.getD (row * 128 + c) 0).toNat
        if slotBad l row c && !v.testBit 39 then v + poisonBit else v
    .ok (setVe s p ((setWide x i.d g).flag vsPoison ((upTo 256).any (fun ln => (g ln).testBit 39))))

/-- LREL. -/
def veLrel : VeBody := fun s p _ =>
  let c := s.core p
  if !c.ve.slotTaken then .stop s 0x15
  else
    let k := c.mxa.laggHead
    .ok (s.setCore p { c with
      ve := { c.ve with slotTaken := false }
      mxa := { c.mxa with lagg := tabSet c.mxa.lagg k {}, laggHead := (k + 1) % 8 } })

/-! ### Control -/

/-- A branch taken when a condition holds: PC + 8 × sext(IMM) from this instruction. -/
def veBranch (cond : Ve → VI → Bool) : VeBody := fun s p i =>
  if cond (s.core p).ve i then .jump s i.imm else .ok s

/-- LOOP: S[A] − 1, branch while nonzero. -/
def veLoop : VeBody := fun s p i =>
  let x := (s.core p).ve
  let v := x.sreg i.a - 1
  let s := setVe s p (x.setS i.a v)
  if v ≠ 0 then .jump s i.imm else .ok s

/-- SETVL. -/
def veSetvl : VeBody := veReg (fun x i =>
  let a := (x.sreg i.a).toNat
  { x.setSN i.d (min a 256) with vl := min (max a 1) 256 })

/-- SETVLI. -/
def veSetvli : VeBody := veReg (fun x i => { x with vl := i.imm.toNat })

end Sys2Proof.Machine
end

