-- ==== Sys2Proof/Machine/MxaTile.lean ====
section
/-!
DEFINITION. The meanings of tile operations (spec/03_matrix_array.md R69 to R84, R97 to R103; spec/07_command_reference.md
R238, R239).
-/
namespace Sys2Proof.Machine

/-! ### The TILE record (R238) -/

/-- One operand of a TILE record: format, transposed layout, base, stride, scale base and stride. -/
structure Operand where
  code : Nat
  elem : Bool
  trans : Bool
  base : Nat
  stride : Nat
  sbase : Nat
  sstride : Nat
  deriving DecidableEq, Repr

/-- Operand A. -/
def tileA (r : Rec) : Operand :=
  ⟨r.f 90 87, r.b 86, r.b 84, r.f 168 146, r.f 191 169, r.f 296 274, r.f 319 297⟩
/-- Operand B. -/
def tileB (r : Rec) : Operand :=
  ⟨r.f 95 92, r.b 91, r.b 85, r.f 232 210, r.f 255 233, r.f 360 338, r.f 383 361⟩

/-- The format of an operand. -/
def Operand.fmt (o : Operand) : Fmt := fmtOf o.code
/-- The element type of an operand. -/
def Operand.sty (o : Operand) : Sty := fmtElem o.fmt o.elem
/-- Whether an operand is in an MX format. -/
def Operand.mx (o : Operand) : Bool := fmtMx o.fmt

/-- K of a TILE record. -/
def tileK (r : Rec) : Nat := r.f 127 112
/-- N. -/
def tileN (r : Rec) : Nat := r.f 111 104
/-- M. -/
def tileM (r : Rec) : Nat := r.f 103 96
/-- Whether an operation has a zero extent (R82). -/
def tileEmpty (r : Rec) : Bool := tileK r == 0 || tileM r == 0 || tileN r == 0

/-- R40, R41: whether a format's capability bits are set. -/
def fmtCap (s : State) (f : Fmt) (operand : Bool) : Bool :=
  match f with
  | .fp32 => !operand || capOk s 13
  | .e3m2 => capOk s 3 | .e2m3 => capOk s 3
  | .mxfp8 => capOk s 2 | .mxfp6 => capOk s 2 && capOk s 3 | .mxfp4 => capOk s 2 | .mxint8 => capOk s 2
  | .int4 => capOk s 4
  | _ => true

/-- Whether `rows` stored rows of `n` bytes at a stride leave the first 6 MiB (R79). -/
def rowsOut (base stride rows n : Nat) : Bool := decide (csSize < base + (rows - 1) * stride + n)

/-- R239: whether an operand's rows, scale rows or strides break the core-store rules; `len` is its M or N, `k` its
K. -/
def operandOut (o : Operand) (direct : Bool) (len k : Nat) : Bool :=
  o.stride % 64 != 0
    || (if direct then rowsOut o.base o.stride len (rowBytes o.sty k) else rowsOut o.base o.stride k (rowBytes o.sty len))
    || (o.mx && (o.sstride % 64 != 0 || rowsOut o.sbase o.sstride len (ceilDiv k 32)))

/-- The checks of a TILE record at steps 5 to 9 (R231, R239); within step 7 in the order of the fields of R238: K, N and M,
the formats, the layouts. -/
def tileChecks (s : State) (r : Rec) : List (Bool × Nat) :=
  let a := tileA r
  let b := tileB r
  let mx := a.mx || b.mx
  [(!r.zero 511 384 || !r.zero 337 320 || !r.zero 273 256 || !r.zero 209 192 || !r.zero 145 128 || !r.zero 81 64
      || (!a.mx && (a.sbase != 0 || a.sstride != 0)) || (!b.mx && (b.sbase != 0 || b.sstride != 0))
      || !elemOk a.fmt a.elem || !elemOk b.fmt b.elem, 0x02),
   (((a.trans || b.trans) && !capOk s 0) || !fmtCap s a.fmt true || !fmtCap s b.fmt true, 0x03),
   ((mx && tileK r % 32 != 0) || decide (128 < tileM r) || decide (128 < tileN r), 0x09),
   ((pairRate4 a.fmt b.fmt).isNone, 0x07),
   ((a.trans && b.trans) || (a.trans && decide (16 < styBits a.sty)) || (b.trans && decide (16 < styBits b.sty))
      || (a.mx && a.trans) || (b.mx && !b.trans), 0x09),
   (!tileEmpty r && (operandOut a (!a.trans) (tileM r) (tileK r) || operandOut b b.trans (tileN r) (tileK r)), 0x22)]

/-! ### Operand elements (R50, R74, R78) -/

/-- An element as the core store delivers it: its encoding and whether a word that holds it is poisoned. -/
structure Elem where
  code : Nat
  bad : Bool
  deriving DecidableEq, Repr

/-- Element `i` of a packed row of `w`-bit elements at a device address. -/
def rowElem (s : State) (a w i : Nat) : Elem :=
  let o := w * i / 8
  let sh := w * i % 8
  let n := (sh + w + 7) / 8
  ⟨bits (readLE s (a + o) n) (sh + w - 1) sh, rangeBad s (a + o) n⟩

/-- The element of an operand at row `i` of A or column `i` of B and K-index `k`; `direct` says that K runs along the
stored row. -/
def operandElem (s : State) (p : Nat) (o : Operand) (direct : Bool) (i k : Nat) : Elem :=
  let w := styBits o.sty
  if direct then rowElem s (csAddr p (o.base + i * o.stride)) w k
  else rowElem s (csAddr p (o.base + k * o.stride)) w i

/-- The block scale of row or column `i` at K-index `k`. -/
def operandScale (s : State) (p : Nat) (o : Operand) (i k : Nat) : Elem :=
  rowElem s (csAddr p (o.sbase + i * o.sstride)) 8 (k / 32)

/-- The poison units that an operand's reads touch. -/
def operandUnits (p : Nat) (o : Operand) (direct : Bool) (len k : Nat) : List Nat :=
  let rows := if direct then len else k
  let n := rowBytes o.sty (if direct then k else len)
  (upTo rows).flatMap (fun i => unitsOf (csAddr p (o.base + i * o.stride)) n)
    ++ (if o.mx then (upTo len).flatMap (fun i => unitsOf (csAddr p (o.sbase + i * o.sstride)) (ceilDiv k 32)) else [])

/-! ### Groups (R70 to R75) -/

/-- R70: the group size of a pair rate. -/
def groupSize (rate4 : Nat) : Nat := match rate4 with | 1 => 1 | 4 => 1 | 8 => 2 | _ => 4
/-- R70: the clocks of a group. -/
def groupClk (rate4 : Nat) : Nat := if rate4 = 1 then 4 else 1

/-- The value of one operand at a K-index, its block scale apart; a row or column beyond the tile is zero. -/
structure Opnd where
  val : Val
  bad : Bool
  scale : Nat
  deriving DecidableEq, Repr

/-- The operand value of row or column `i` at K-index `k` (R74, R79). -/
def opndAt (s : State) (p : Nat) (o : Operand) (direct : Bool) (len i k : Nat) : Opnd :=
  if len ≤ i then ⟨.fin false 0 0, false, 127⟩
  else
    let e := operandElem s p o direct i k
    let c := if o.mx then operandScale s p o i k else ⟨127, false⟩
    ⟨decodeS o.sty e.code, e.bad || c.bad, c.code⟩

/-- One group of a floating-point operation in one cell: the exact sum rounded once (R72 to R74). -/
def groupFloat (acc : Nat) (ps : List (Opnd × Opnd)) : Nat :=
  if acc.testBit 39 || ps.any (fun q => q.1.bad || q.2.bad) then poisonNan
  else
    let prod (q : Opnd × Opnd) : Val :=
      if q.1.scale = 255 ∨ q.2.scale = 255 then .nan
      else (q.1.val.mul q.2.val).scale ((q.1.scale : Int) + q.2.scale - 254)
    rneTo .acc35 (ps.foldl (fun v q => v.add (prod q)) (decodeS .acc35 acc))

/-- The integer value of an INT8 or INT4 operand. -/
def intVal : Val → Int
  | .fin s m e => signed s m * (2 ^ e.toNat : Nat)
  | _ => 0

/-- One group of an integer operation in one cell: the saturated sum, and whether it saturated (R75). Of a poisoned element
only the poison bit counts: `cellRun` gives it a free value. -/
def groupInt (acc : Nat) (ps : List (Opnd × Opnd)) : Nat × Bool :=
  let bad := acc.testBit 39 || ps.any (fun q => q.1.bad || q.2.bad)
  let x := ps.foldl (fun v q => v + intVal q.1.val * intVal q.2.val) (sext 32 acc)
  let y := max (-2147483648) (min 2147483647 x)
  (toBits 32 y + (if bad then poisonBit else 0), y != x)

/-- What one cell holds after an operation, and whether it saturated. R75 leaves the 32-bit value of a poisoned integer
element undefined: it and whether it counts as saturated are free (notes/assumptions/20.md). -/
def cellRun (s : State) (p : Nat) (r : Rec) (int : Bool) (g : Nat) (acc i j : Nat) : Nat × Bool :=
  let a := tileA r
  let b := tileB r
  let k := tileK r
  let zero : Opnd := ⟨.fin false 0 0, false, 127⟩
  let free := Config.poisonCell s.freeN (128 * i + j)
  let end_ (c : Nat × Bool) : Nat × Bool :=
    if int && c.1.testBit 39 then (bits free.toNat 31 0 + poisonBit, free.getLsbD 32) else c
  end_ <| forUp (ceilDiv k g) (fun t (c : Nat × Bool) =>
    let ps := (upTo g).map (fun q =>
      let x := t * g + q
      if x < k then (opndAt s p a (!a.trans) (tileM r) i x, opndAt s p b b.trans (tileN r) j x) else (zero, zero))
    if int then
      let y := groupInt c.1 ps
      (y.1, c.2 || y.2)
    else (groupFloat c.1 ps, false)) (acc, false)

/-! ### Dispatch, issue and completion -/

/-- A command enters the MXA stream of its core; its tick is recorded (R272). -/
def mxaEnqueue (s : State) (q n p : Nat) : State :=
  let s := mapRec s ⟨q, n⟩ (fun r => { r with st := .waiting, at_ := s.tick.last })
  let c := s.core p
  s.setCore p { c with mxa := { c.mxa with waiting := c.mxa.waiting ++ [⟨q, n⟩] } }

/-- TILE at dispatch. -/
def tileRun (s : State) (q n : Nat) : State :=
  dispatch s q n (isOp 1) (fun r => checked s ⟨q, n⟩ (tileChecks s r) (mxaEnqueue s q n r.coreNo))

/-- A bank of the array. -/
def Mxa.bank (m : Mxa) (b : Bool) : Bank := if b then m.bankB else m.bankA
/-- The array with a bank replaced. -/
def Mxa.setBank (m : Mxa) (b : Bool) (x : Bank) : Mxa := if b then { m with bankB := x } else { m with bankA := x }
/-- The state with the array of a core replaced. -/
def setMxa (s : State) (p : Nat) (m : Mxa) : State := s.setCore p { s.core p with mxa := m }

/-- Element (i, j) of a tile of 128 elements a row. -/
def tileAt (t : List W40) (i j : Nat) : Nat := (t.getD (128 * i + j) 0).toNat

/-- Whether a core's array may take a command now. -/
def mxaReady (s : State) (p : Nat) : Bool :=
  s.pst == .active && coreOn s p && !(s.core p).ras.inReset && !s.bring.clusterResets.contains (p / 8)

/-- A command leaves the waiting list of the MXA stream as it starts. -/
def mxaTake (s : State) (p : Nat) (c : CmdRef) : State :=
  let m := (s.core p).mxa
  setMxa (setRecSt s c .started) p { m with waiting := m.waiting.filter (fun y => y != c), lastQ := c.q }

/-- The status a tile operation fails with at its start (R76, R83, R84), 0 when it passes. -/
def tileStart (m : Mxa) (q : Nat) (r : Rec) : Nat :=
  let b := m.bank (r.b 82)
  let int := operandClass (tileA r).fmt == some 4
  if b.st != .free && b.owner != q then 0x0E
  else if r.b 83 then (if b.st = .opened then 0x0C else 0)
  else if b.st != .opened then 0x0D
  else if b.int != int then 0x0F else 0

/-- Whether the head of a queue's MXA stream is a tile operation that need not wait for its bank (R83). -/
def tileReady (s : State) (p : Nat) (c : CmdRef) : Bool :=
  match findRec s c with
  | none => false
  | some r =>
    let b := (s.core p).mxa.bank (r.b 82)
    r.opcode == 1 && !(r.b 83 && b.st == .draining && b.owner == c.q)

/-- R97: the stall clocks before an operation. -/
def mxaStalls (s : State) (p : Nat) (w : MxaWaits) : State :=
  coreCtr (coreCtr (coreCtr (coreCtr (coreCtr s p 0x110 w.drain) p 0x118 w.lagg) p 0x120 w.peat) p 0x128 w.hold) p 0x130 w.opnd

/-- R103: the transpose port of an operation: 0 none, 1 TRANS_A, 2 TRANS_B. -/
def tilePort (r : Rec) : Nat := if r.b 84 then 1 else if r.b 85 then 2 else 0

/-- R98: the side that an operation's first K-block loads into. DESIGN CHOICE (notes/assumptions/20.md): behind an operation
on the same port it is the side that the last K-block did not use, although both sides read as empty once they have been
read out; after a core reset, after a direct operation and after an operation on the other port it is side 0. -/
def Mxa.firstSide (m : Mxa) (r : Rec) : Nat := if m.port = tilePort r then 1 - m.lastSide else 0

/-- R98, R99: what a hold side holds after K-block `b` of a transposed operand: under TRANS_B cell (k, j) holds element
B[128 b + k][j], under TRANS_A cell (i, k) holds A[i][128 b + k]. -/
def sideBlock (s : State) (p : Nat) (r : Rec) (b : Nat) : List W16 :=
  let elem (o : Operand) (i k : Nat) : W16 :=
    if k < tileK r then BitVec.ofNat 16 (operandElem s p o false i k).code else 0
  (upTo 16384).map (fun x =>
    let i := x / 128
    let j := x % 128
    if r.b 84 then (if i < tileM r then elem (tileA r) i (128 * b + j) else 0)
    else if j < tileN r then elem (tileB r) j (128 * b + i) else 0)

/-- R98, R103: the hold registers after an operation: the last two K-blocks of its transposed operand. An operation that is
not zero-size and uses no port leaves both sides empty. -/
def Mxa.hold (m : Mxa) (s : State) (p : Nat) (r : Rec) : Mxa :=
  if tileEmpty r then m
  else if tilePort r ≠ 0 then
    let first := m.firstSide r
    let nb := ceilDiv (tileK r) 128
    let last := (first + nb - 1) % 2
    let now := sideBlock s p r (nb - 1)
    let before := if 1 < nb then sideBlock s p r (nb - 2) else if last = 0 then m.side1 else m.side0
    { m with
      port := tilePort r, lastSide := last
      side0 := if last = 0 then now else before, side1 := if last = 0 then before else now }
  else { m with port := 0, side0 := [], side1 := [] }

/-- The bank after an operation, and how many of its elements saturated. -/
def bankRun (s : State) (p q : Nat) (r : Rec) (b : Bank) : Bank × Nat :=
  let int := operandClass (tileA r).fmt == some 4
  let b : Bank := if r.b 83 then { st := .opened, int := int, owner := q } else b
  if tileEmpty r then (b, 0)
  else
    let g := groupSize ((pairRate4 (tileA r).fmt (tileB r).fmt).getD 4)
    let cells := (upTo 16384).map (fun i => cellRun s p r int g (tileAt b.tile (i / 128) (i % 128)) (i / 128) (i % 128))
    ({ b with tile := cells.map (fun c => BitVec.ofNat 40 c.1) }, (cells.filter (fun c => c.2)).length)

/-- A tile operation issues: its groups are added, and it waits for its completion (R72 to R84). -/
def tileIssue (s : State) (p : Nat) (w : MxaWaits) (c : CmdRef) (r : Rec) : State :=
  let m := (s.core p).mxa
  let h := tileStart m c.q r
  let s := mxaTake s p c
  if h ≠ 0 then completeSt (mxaStalls s p w) c h
  else
    let empty := tileEmpty r
    let us := if empty then [] else
      operandUnits p (tileA r) (!r.b 84) (tileM r) (tileK r) ++ operandUnits p (tileB r) (r.b 85) (tileN r) (tileK r)
    let rate := (pairRate4 (tileA r).fmt (tileB r).fmt).getD 4
    let g := if empty then 0 else groupClk rate * ceilDiv (tileK r) (groupSize rate)
    let x := bankRun s p c.q r (m.bank (r.b 82))
    let bad := us.any (unitBad s)
    let s := loadUnits s p us
    let s := coreCtr (mxaStalls s p w) p 0x108 g
    let m := (s.core p).mxa
    let op : TileOp := {
      ref := c, bank := b2n (r.b 82), g := g, waited := w.waited, ovf := x.2, poison := bad
      port := tilePort r, k := tileK r, gsize := groupSize rate, gclk := groupClk rate, first := m.firstSide r
      fill := m.port != tilePort r }
    let s := setMxa s p { (m.hold s p r).setBank (r.b 82) x.1 with issued := m.issued ++ [op] }
    let s := { s with freeN := s.freeN + b2n (!empty && operandClass (tileA r).fmt == some 4) }
    let k := s.core p
    if k.ras.injMxa && !empty then parityHalt (s.setCore p { k with ras := { k.ras with injMxa := false } }) p 0 else s

/-- TILE_ISSUE: the array takes the next tile operation that is ready; `w` counts the clocks it stalled. -/
def tileNext (s : State) (p : Nat) (w : MxaWaits) : State :=
  let m := (s.core p).mxa
  if !mxaReady s p then s
  else
    match pickRef m.waiting m.lastQ (tileReady s p) with
    | none => s
    | some c =>
      match findRec s c with
      | none => s
      | some r => sramSweep (tileIssue s p w c r)

/-- TILE_COMPLETE: the oldest issued operation has added its last group and completes (R80, R237). -/
def tileDone (s : State) (p : Nat) : State :=
  let m := (s.core p).mxa
  match m.issued with
  | [] => s
  | o :: t =>
    complete (setMxa s p { m with issued := t }) o.ref {
      res0 := satW 32 o.ovf
      res1 := satW 32 o.g + satW 32 o.waited * 2 ^ 32
      poison := o.poison }

/-- TILE (R239). -/
def execTile (q : Fin 64) (n : Nat) (s : State) : Host.Outcome State Fault Refusal := .next (tileRun s q n)
/-- TILE_ISSUE (R81). -/
def execTileIssue (p : Fin 256) (w : MxaWaits) (s : State) : Host.Outcome State Fault Refusal := .next (tileNext s p w)
/-- TILE_COMPLETE (R80). -/
def execTileComplete (p : Fin 256) (s : State) : Host.Outcome State Fault Refusal := .next (tileDone s p)

end Sys2Proof.Machine
end

