-- ==== Sys2Proof/Machine/Coll.lean ====
section
/-!
DEFINITION. The meanings of collectives and of what arrives for them (spec/07_command_reference.md R247, R248, R251;
spec/13_collectives_sharding.md R396 to R426; spec/12_causeway_fabric.md R377 to R379; spec/06_command_model.md R206,
R222, R223).
-/
namespace Sys2Proof.Machine

/-! ### Validation (R231, R247, R248) -/

/-- Step 5: the fields whose values no rule gives a status of their own (R227); a reserved OP and the SRC and DST of an
AMAX_MAX are combinations of R248. -/
def collFields (r : Rec) : Bool :=
  !r.zero 511 480 || !r.zero 383 340 || !r.zero 127 114
    || (r.cOp != 6 && (r.cSrc % 64 != 0 || r.cDst % 64 != 0)) || r.cTable % 8 != 0
    || (!r.cRagged && r.cTable != 0) || (!r.cRnd && r.cSeed != 0)
    || (!(r.cOp == 7 && r.cVchk) && r.cVersion != 0)
    || (r.cTern && (r.f 87 84 != 0 || r.cElem)) || (!r.cTern && !elemOk r.cFmtNo r.cElem)
    || (r.cOp == 5 && r.f 331 320 != 0)

/-- Step 6. -/
def collCaps (s : State) (r : Rec) : Bool :=
  (if r.cTern then !capOk s 7 else !fmtCap s r.cFmtNo false)
    || ((r.cOp == 0 || r.cOp == 2) && !r.cTern && r.cFmtNo == .acc35 && !capOk s 10)
    || (r.cRagged && !capOk s 8) || (r.cOp == 5 && !capOk s 9) || (r.cOp == 7 && !capOk s 2)

/-- R248: whether the format of an operation is in its row. -/
def collFmtOk (r : Rec) : Bool :=
  match r.cOp with
  | 0 => r.cTern || r.cFmtNo == .bf16 || r.cFmtNo == .fp32 || r.cFmtNo == .acc35
  | 2 => r.cTern || r.cFmtNo == .bf16 || r.cFmtNo == .fp32 || r.cFmtNo == .acc35
  | 6 => !r.cTern && r.cFmtNo == .fp32
  | 7 => !r.cTern && r.cFmtNo == .mxfp8 && !r.cElem
  | _ => !r.cTern

/-- R248: whether the flags of an operation are in its row. -/
def collFlagsOk (r : Rec) : Bool :=
  (!r.cRagged || [0, 1, 4, 7].contains r.cOp) && (!r.cLink || r.cOp == 0)
    && ((!r.cWiden && !r.cVchk) || r.cOp == 7)

/-- R248, R257, R404: the combinations of step 7; `n` is the member count, 0 where the group has no table. -/
def collCombo (r : Rec) (n : Nat) : Bool :=
  let copies := [1, 3, 4, 5, 6].contains r.cOp || (r.cOp == 7 && !r.cWiden)
  decide (7 < r.cOp) || !collFmtOk r || !collFlagsOk r || (copies && (r.cRnd || r.cNov))
    || (r.cLink && !r.cTern && r.cFmtNo != .acc35 && !r.cRnd)
    || (if r.cOp = 3 then n != 0 && decide (n ≤ r.cRoot) else r.cRoot != 0)
    || (r.cOp == 6 && (r.cSrc != 0 || r.cDst != 0 || decide (65536 < r.cTid + r.cCount)))
    || (!r.cRagged && r.cCount % r.cFmt.granule != 0)

/-- The member table of a queue's group. -/
def queueTable (s : State) (q : Nat) : Option (List Nat × Nat) :=
  if (s.queue q).groupEn then memberTable s (s.queue q).group else none

/-- The checks of a COLLECTIVE at steps 5 to 8. -/
def collChecks (s : State) (q : Nat) (r : Rec) : List (Bool × Nat) :=
  let t := queueTable s q
  let n := match t with | some x => x.1.length | none => 0
  [(collFields r, 0x02), (collCaps s r, 0x03), (collCombo r n, 0x17),
   (r.cOp == 5 && (s.fence (r.cTid % 256)).owner != (s.queue q).part, 0x1C),
   (t.isNone, 0x67), (r.cEpoch != (s.queue q).epoch, 0x60)]

/-- R232, R310: a COLLECTIVE that fails completes, a LINK reduce-scatter as unpaired, and aborts its group with its
status. -/
def collFail (s : State) (c : CmdRef) (st : Nat) : State :=
  abortOf (complete s c (match findRec s c with | some r => ownStatus r st | none => { status := st })) c.q st

/-! ### Shares (R401, R402, R410) -/

/-- The share counts of a collective: those of the members, for ALL_TO_ALL those sent to them, and those received from
them; and the status of a table that breaks R402. -/
structure Shares where
  s : State
  st : Nat := 0
  shares : List Nat := []
  recvN : List Nat := []
  deriving DecidableEq, Repr

/-- R402: the ragged table is read and checked. -/
def raggedShares (s : State) (c : CmdRef) (r : Rec) (n self : Nat) : Shares :=
  let a2a := r.cOp == 4
  let m := if a2a then 2 * n else n
  let x := vreadMarked s (s.queue c.q).ctxNo r.cTable (8 * m)
  let ws := (chunks 8 m x.data).map markedLE
  let nz := (ws.take n).filter (fun w => w != 0)
  let hi := nz.foldl max 0
  let lo := nz.foldl min hi
  match x.fault with
  | some f => { s := x.s, st := f }
  | none =>
    let st := firstStatus [
      (anyBad x.data || ws.any (fun w => decide (2 ^ 40 ≤ w)) || (!a2a && ws.getD self 0 != r.cCount), 0x02),
      (ws.any (fun w => w % r.cFmt.granule != 0), 0x17),
      (decide (8 * lo < hi), 0x18)]
    { s := x.s, st := st, shares := ws.take n, recvN := if a2a then ws.drop n else [] }

/-- R401, R402: the shares of a collective. -/
def collShares (s : State) (c : CmdRef) (r : Rec) (n self : Nat) : Shares :=
  if r.cRagged then raggedShares s c r n self
  else
    let k := r.cCount
    let q := 64 * ceilDiv k (64 * n)
    { s := s
      shares := if r.cOp = 2 ∨ r.cOp = 6 then (upTo n).map (fun i => min q (k - i * q)) else List.replicate n k
      recvN := if r.cOp = 4 then List.replicate n k else [] }

/-- Elements of SRC that a member reads. -/
def srcElems (r : Rec) (c : Coll) : Nat :=
  match r.cOp with
  | 0 => c.shares.sum | 1 => c.share c.self | 2 => r.cCount | 4 => c.shares.sum | 5 => r.cCount
  | 3 => if c.self = r.cRoot then r.cCount else 0
  | _ => 0

/-- Elements of DST that a member writes. -/
def dstElems (r : Rec) (c : Coll) : Nat :=
  match r.cOp with
  | 0 => c.share c.self | 1 => c.shares.sum | 2 => r.cCount | 3 => r.cCount | 4 => c.recvN.sum
  | 5 => (c.devs.length - 1) * r.cCount | 7 => c.shares.sum
  | _ => 0

/-- The part of this member's SRC that goes to member `j` in phase 1. -/
def Coll.part1 (c : Coll) (r : Rec) (j : Nat) : Marked :=
  let t := r.cFmt
  match c.op with
  | 0 => cut c.own (t.segs c.shares.sum (c.ofs j) (c.share j))
  | 1 => cut c.own (t.segs (c.share c.self) 0 (c.share c.self))
  | 2 => cut c.own (t.segs c.shares.sum (c.ofs j) (c.share j))
  | 3 => cut c.own (t.segs r.cCount 0 r.cCount)
  | 4 => cut c.own (t.segs c.shares.sum (c.ofs j) (c.share j))
  | 5 => cut c.own (t.segs r.cCount 0 r.cCount)
  | 6 => (c.own.drop (8 * c.ofs j)).take (8 * c.share j)
  | _ => c.own

/-- The bytes of the contribution from member `i` in a phase. -/
def recvTotal (r : Rec) (c : Coll) (i : Nat) (ph2 : Bool) : Nat :=
  let t := r.cFmt
  match r.cOp, ph2 with
  | 0, _ => t.len (c.share c.self)
  | 2, false => t.len (c.share c.self)
  | 2, true => r.cDstFmt.len (c.share i)
  | 3, _ => t.len r.cCount
  | 4, _ => t.len (c.recvN.getD i 0)
  | 5, _ => (c.devs.length - 1) * t.len r.cCount
  | 6, false => 8 * c.share c.self
  | 6, true => 8 * c.share i
  | _, _ => t.len (c.share i)

/-- The bytes of the contribution to member `j` in a phase. -/
def sendTotal (r : Rec) (c : Coll) (j : Nat) (ph2 : Bool) : Nat :=
  let t := r.cFmt
  match r.cOp, ph2 with
  | 0, _ => t.len (c.share j)
  | 2, false => t.len (c.share j)
  | 2, true => r.cDstFmt.len (c.share c.self)
  | 3, _ => t.len r.cCount
  | 4, _ => t.len (c.share j)
  | 5, _ => (c.devs.length - 1) * t.len r.cCount
  | 6, false => 8 * c.share j
  | 6, true => 8 * c.share c.self
  | _, _ => t.len (c.share c.self)

/-- The members that an operation sends to (R400). -/
def Coll.dests (c : Coll) (r : Rec) : List Nat :=
  match c.op with
  | 3 => if c.self = r.cRoot then c.others else []
  | 5 => c.others.take 1
  | _ => c.others
/-- The members that it receives from. -/
def Coll.sources (c : Coll) (r : Rec) : List Nat :=
  match c.op with
  | 3 => if c.self = r.cRoot then [] else [r.cRoot]
  | 5 => if c.devs.length ≤ 1 then [] else [c.after (c.devs.length - 1)]
  | _ => c.others

/-- Whether an operation has a second phase. -/
def Coll.two (c : Coll) : Bool := c.op == 2 || c.op == 6

/-- R410: whether a contribution is too long. -/
def tooLong (r : Rec) (c : Coll) : Bool :=
  let lim := 3758096368
  let phs := if c.two then [false, true] else [false]
  phs.any (fun p => (c.sources r).any (fun i => decide (lim < recvTotal r c i p))
    || (c.dests r).any (fun j => decide (lim < sendTotal r c j p)))

/-! ### Start (R399 to R402, R406, R420) -/

/-- What the start of a collective makes of it, or the status it fails with. -/
structure Plan where
  s : State
  st : Nat := 0
  coll : Option Coll := none
  deriving DecidableEq, Repr

/-- R406: the records of the named entries. -/
def amaxRecs (s : State) (part first n : Nat) : Marked :=
  (upTo n).flatMap (fun i =>
    let e := s.entry part (first + i)
    mark false (toLE 8 (e.pend.toNat + b2n (e.stepOvf != 0) * 2 ^ 32)))

/-- R303: the excluded elements of a linked reduce-scatter's share; none where the header cannot be read. -/
def linkExcl (s : State) (c : CmdRef) (r : Rec) : State × (Nat × Nat) :=
  match (if r.isLinkRs then pairUpd s c else none) with
  | none => (s, (0, 0))
  | some u =>
    let h := vreadMarked s (s.queue c.q).ctxNo (u.f 319 272) 64
    if h.fault.isSome || anyBad h.data then (h.s, (0, 0))
    else
      match shardOf (h.data.map (fun b => b.1)) with
      | none => (h.s, (0, 0))
      | some x => (h.s, (x.exclFirst, x.exclCount))

/-- R420: whether the update unit is in the write phase of an update whose shard header stands at a DVA of queue `q`. -/
def headerBusy (s : State) (q va : Nat) : Bool :=
  match s.upd.run with
  | none => false
  | some u =>
    match findRec s u.ref, xlate s (s.queue q).ctxNo va false with
    | some r, .pa a =>
      let h := r.f 319 272
      u.rs.isNone && a == tabGet u.map 0 (h / 4096) + h % 4096
    | _, _ => false

/-- R420: the shard header is checked and translated with the weights; the shard is read now, or once no write phase of it
runs. -/
def gatherStart (s : State) (r : Rec) (c : Coll) : Plan × Nat :=
  let ctx := (s.queue c.ref.q).ctxNo
  let h := vreadMarked s ctx r.cSrc 64
  match h.fault with
  | some f => ({ s := h.s, st := f }, 0)
  | none =>
    if anyBad h.data then ({ s := h.s, st := 0x02 }, 0)
    else
      match shardOf (h.data.map (fun b => b.1)) with
      | none => ({ s := h.s, st := 0x02 }, 0)
      | some x =>
        if x.epochTag ≠ c.epoch then ({ s := h.s, st := 0x62 }, 0)
        else
          let g := gatherRead h.s ctx r.cSrc (c.share c.self)
          match g.fault with
          | some f => ({ s := g.s, st := f }, 0)
          | none =>
            if headerBusy g.s c.ref.q r.cSrc then ({ s := g.s, coll := some { c with unread := true } }, 0)
            else ({ s := g.s, coll := some { c with own := g.data, ovf := g.ovf, nanIn := g.nanIn } }, g.version)

/-- The contributions of a collective's first phase. -/
def collSends (r : Rec) (c : Coll) (version : Nat) : List SendC :=
  if c.unread then []
  else (c.dests r).map (fun j =>
    { dst := j, version := version, data := c.part1 r j, total := sendTotal r c j false })

/-- The contributions of a collective's first phase, and all that it is to receive. -/
def collPairs (r : Rec) (c : Coll) (version : Nat) : Coll :=
  let phs := if c.two then [false, true] else [false]
  { c with
    sends := collSends r c version
    recvs := phs.flatMap (fun p => (c.sources r).map (fun i =>
      { src := i, phase2 := p, total := recvTotal r c i p })) }

/-- A collective reads its SRC, translates DST and forms its contributions; an AMAX_MAX takes its entries' records (R270). -/
def collPlan (s : State) (c : CmdRef) (r : Rec) (devs : List Nat) (self seq : Nat) : Plan :=
  let x := s.queue c.q
  let sh := collShares s c r devs.length self
  if sh.st ≠ 0 then { s := sh.s, st := sh.st }
  else
    let k : Coll := {
      ref := c, part := x.part, group := x.group, seq := seq, epoch := r.cEpoch, op := r.cOp, sched := r.cSched
      self := self, devs := devs, shares := sh.shares, recvN := sh.recvN
      holdBase := (ctrGet x.ctr 0x158).toNat, dst := r.cDst }
    if tooLong r k then { s := sh.s, st := 0x17 }
    else
      let src := vreadMarked sh.s x.ctxNo r.cSrc (r.cFmt.size (srcElems r k))
      let n := r.cDstFmt.size (dstElems r k)
      let df := vwriteFault src.s x.ctxNo r.cDst n
      let s := vnote src.s x.ctxNo r.cDst n df
      match src.fault, df with
      | some f, _ => { s := s, st := f }
      | none, some f => { s := s, st := f }
      | none, none =>
        let ex := linkExcl s c r
        let k := { k with
          dstLen := n, elems := dstElems r k, excl := ex.2
          own := if r.cOp = 6 then amaxRecs s x.part r.cTid r.cCount else src.data }
        let begun (t : State) : State := if r.cOp = 6 then commitBegin t x.part r.cTid r.cCount else t
        if r.cOp = 7 then
          let g := gatherStart ex.1 r k
          { g.1 with coll := g.1.coll.map (fun k => collPairs r k g.2) }
        else { s := begun ex.1, coll := some (collPairs r k 0) }

/-! ### Progress and completion (R411, R415, R425) -/

/-- R415: every contribution that is held whole is acknowledged. -/
def collAcks (s : State) (ref : CmdRef) : State :=
  match findColl s ref with
  | none => s
  | some c => c.recvs.foldl (fun t r =>
      match findColl t ref with
      | some d => if r.done || !r.whole then t else sendCollCtl (setColl t (d.setRecv { r with done := true })) d r.src 2 0
      | none => t) s

/-- R425, R426: block `b` of a ring is complete: it is written, the fence counter advances, and the block goes on. -/
def ringBlock (s : State) (ref : CmdRef) (r : Rec) (b : Nat) : State :=
  match findColl s ref with
  | none => s
  | some c =>
    let t := r.cFmt
    let n := c.devs.length - 1
    let blk := (((c.sources r).flatMap (fun i => c.recvBytes i false)).drop (b * t.len r.cCount)).take (t.len r.cCount)
    let s := putSegs s (s.queue ref.q).ctxNo c.dst (t.segs (n * r.cCount) (b * r.cCount) r.cCount) blk
    let f := s.fence (r.cTid % 256)
    let s := s.setFence (r.cTid % 256) { f with val := f.val + 1 }
    setColl s { c with
      ring := b + 1
      poison := c.poison || anyBad blk
      sends := c.sends.map (fun x => if b + 1 < n then { x with data := x.data ++ blk } else x) }

/-- R425: every block of a ring that has arrived. -/
def ringRun (s : State) (ref : CmdRef) (r : Rec) : State :=
  match findColl s ref with
  | none => s
  | some c =>
    let n := c.devs.length - 1
    let l := r.cFmt.len r.cCount
    let got := match c.recvs with
      | x :: _ => if l = 0 then (if x.whole then n else 0) else x.bytes.length / l
      | [] => n
    let s := forUp (got - c.ring) (fun i t => ringBlock t ref r (c.ring + i)) s
    match findColl s ref with
    | some d => if n ≤ d.ring then setColl s { d with fin := true } else s
    | none => s

/-- Whether every contribution of a phase is over. -/
def Coll.phaseOver (c : Coll) (ph2 : Bool) : Bool := c.recvs.all (fun x => x.phase2 != ph2 || x.done)

/-- R400: the second phase of an ALL_REDUCE or AMAX_MAX: this member's share is folded and sent to every member. -/
def collPhase2 (s : State) (r : Rec) (c : Coll) : State :=
  let x : Marked × Nat × Nat := if c.op = 6 then (foldRecs c, 0, 0) else foldShare r c
  setColl s { c with
    phase := 2, result := x.1, ovf := x.2.1, nanIn := x.2.2
    sends := c.sends ++ (c.dests r).map (fun j =>
      { dst := j, phase2 := true, data := x.1, total := sendTotal r c j true }) }

/-- R309, R423: the final runs of a linked share go to the hand-off buffer while there is room, with the values and the
poison that DST holds. -/
def handRuns (s : State) (c : Coll) (w : Nat) (data : Marked) : State :=
  let l := 4096 * w
  let m := vreadMarked s (s.queue c.ref.q).ctxNo c.dst data.length
  let data := if m.fault.isSome then data else m.data
  forUp (ceilDiv data.length l) (fun i t =>
    let d := (data.drop (l * i)).take l
    let used := (t.upd.hand.map (fun h => h.data.length)).sum
    if 8388608 < used + d.length then t
    else { t with upd := { t.upd with
      hand := t.upd.hand ++ [{ q := c.ref.q, n := c.ref.n, seq := c.seq, epoch := c.epoch, idx := i, data := d }] } }) s

/-- R306: whether the layout epoch changes in a frame between a reduce-scatter and its update, so that the update fails
whichever epoch it names. -/
def epochBetween (s : State) (q : Nat) (r u : Rec) : Bool :=
  u.cEpoch != r.cEpoch || (upTo (u.n - r.n)).any (fun k =>
    match peekRec s q (r.n + k) with
    | some e => e.opcode == 0x1D && e.zero 511 80 && e.f 79 64 == (r.cEpoch + 1) % 65536
    | none => false)

/-- R251, R306, R310: whether a reduce-scatter has no update that can still take its result. -/
def unpaired (s : State) (c : CmdRef) (r : Rec) : Bool :=
  r.isLinkRs && (match pairUpd s c with
    | none => true
    | some u => epochBetween s c.q r u || (match findRec s ⟨c.q, u.n⟩ with | some v => v.failed | none => false))

/-- What the results of a collective are: runs of DST with their bytes, and the events of its conversions. -/
structure Results where
  writes : List (List (Nat × Nat) × Marked) := []
  ovf : Nat := 0
  nan : Nat := 0
  deriving DecidableEq, Repr

/-- R405: the results of a reduce-scatter. -/
def resScatter (r : Rec) (c : Coll) : Results :=
  let x := foldShare r c
  { writes := [([(0, x.1.length)], x.1)], ovf := x.2.1, nan := x.2.2 }

/-- R400: the results of the operations that copy, with member `k`'s part at element `o k`. -/
def resCopy (t : CFmt) (total : Nat) (ks : List Nat) (o len : Nat → Nat) (part : Nat → Marked) : Results :=
  { writes := ks.map (fun k => (t.segs total (o k) (len k), part k)) }

/-- R65, R422: the results of a parameter gather, with the events of its own conversion; the share of a stale sender is left
out. -/
def resGather (r : Rec) (c : Coll) (ks : List Nat) : Results :=
  let part (k : Nat) : Marked := if k = c.self then c.own else c.recvBytes k false
  if !r.cWiden then { resCopy r.cFmt c.shares.sum ks c.ofs c.share part with ovf := c.ovf, nan := c.nanIn }
  else
    let xs := ks.map (fun k => (k, widenShare r (c.ofs k) (c.share k) (part k)))
    { writes := xs.map (fun x => (r.cDstFmt.segs c.shares.sum (c.ofs x.1) (c.share x.1), x.2.1))
      ovf := c.ovf + (xs.map (fun x => x.2.2.1)).sum, nan := c.nanIn + (xs.map (fun x => x.2.2.2)).sum }

/-- The results of a collective whose contributions are over. -/
def collResults (r : Rec) (c : Coll) : Results :=
  let n := c.devs.length
  let all := upTo n
  let from1 (k : Nat) : Marked := if k = c.self then c.part1 r k else c.recvBytes k false
  match c.op with
  | 0 => resScatter r c
  | 1 => resCopy r.cFmt c.shares.sum all c.ofs c.share from1
  | 2 =>
    let x := resCopy r.cDstFmt c.shares.sum all c.ofs c.share
      (fun k => if k = c.self then c.result else c.recvBytes k true)
    { x with ovf := c.ovf, nan := c.nanIn }
  | 3 => resCopy r.cFmt r.cCount [0] (fun _ => 0) (fun _ => r.cCount)
      (fun _ => if c.self = r.cRoot then c.part1 r 0 else c.recvBytes r.cRoot false)
  | 4 => resCopy r.cFmt c.recvN.sum all (fun k => (c.recvN.take k).sum) (fun k => c.recvN.getD k 0) from1
  | 7 => resGather r c (all.filter (fun k => !(c.recvs.any (fun x => x.src == k && x.misses == 2))))
  | _ => {}

/-- R406: the combined records of an AMAX_MAX are committed. -/
def collCommit (s : State) (r : Rec) (c : Coll) : State :=
  let recs := (upTo c.devs.length).flatMap (fun k => if k = c.self then c.result else c.recvBytes k true)
  forUp r.cCount (fun i t =>
    let v := markedLE ((recs.drop (8 * i)).take 8)
    commitEntry t c.part (r.cTid + i) (BitVec.ofNat 32 v) (v.testBit 32)) s

/-- R421: the share of a stale sender holds undefined bytes. -/
def staleShares (s : State) (r : Rec) (c : Coll) : State :=
  (c.recvs.filter (fun x => x.misses == 2)).foldl (fun t x =>
    (r.cDstFmt.segs c.shares.sum (c.ofs x.src) (c.share x.src)).foldl (fun u g =>
      freeResult u c.ref.q (c.dst + g.1) g.2) t) s

/-- The results of a collective are written, committed or handed over. -/
def collWrite (s : State) (r : Rec) (c : Coll) : State :=
  let x := collResults r c
  let ctx := (s.queue c.ref.q).ctxNo
  let s := x.writes.foldl (fun t w => putSegs t ctx c.dst w.1 w.2) s
  let s := if c.op = 7 then staleShares s r c else s
  let s := if c.op = 6 then collCommit s r c else s
  let s := if r.isLinkRs && !unpaired s c.ref r then
      handRuns s c (styBits r.cDstFmt.sty / 8) (x.writes.flatMap (fun w => w.2)) else s
  let sent := c.sends.any (fun y => anyBad y.data)
  let wrote := x.writes.any (fun w => anyBad w.2)
    || (r.cDstFmt.sty == .acc35 && x.writes.any (fun w =>
      (chunks 5 (w.2.length / 5) w.2).any (fun e => (markedLE e).testBit 39)))
  setColl s { c with fin := true, ovf := x.ovf, nanIn := x.nan, poison := c.poison || sent || wrote }

/-- R415: a collective completes when its results are written and its contributions are sent and acknowledged. -/
def collDone (s : State) (ref : CmdRef) : State :=
  match findColl s ref, findRec s ref with
  | some c, some r =>
    if c.fin && c.sends.all (fun x => x.acked && x.sent == flitCount x.total) then
      let s := { s with ce := { s.ce with colls := s.ce.colls.filter (fun y => y.ref != ref) } }
      let held := (ctrGet (s.queue ref.q).ctr 0x158).toNat - c.holdBase
      let stale := c.recvs.any (fun x => x.misses == 2)
      complete (ceCtr s 0x700 1) ref {
        status := if stale then 0x63 else 0
        res0 := b2n c.missed + 2 * b2n c.reissued + satW 16 held * 2 ^ 16
        res1 := satW 32 c.ovf + satW 32 c.nanIn * 2 ^ 32
        res2 := c.elems
        poison := c.poison
        unpaired := unpaired s ref r }
    else s
  | _, _ => s

/-- What can happen to a collective now: acknowledgements, ring blocks, its second phase, its results, its unscheduled
flits, its completion. -/
def collStep (s : State) (ref : CmdRef) : State :=
  match findRec s ref with
  | none => s
  | some r =>
    let s := collAcks s ref
    let s := if r.cOp = 5 then ringRun s ref r else s
    let s := match findColl s ref with
      | some c => if c.two && c.phase == 1 && c.phaseOver false then collPhase2 s r c else s
      | none => s
    let s := match findColl s ref with
      | some c => if !c.fin && !c.unread && c.op != 5 && c.phaseOver false && c.phaseOver true && (!c.two || c.phase == 2) then
          collWrite s r c else s
      | none => s
    collDone (sendDirect s ref) ref

/-! ### Flits that arrive (R398, R399, R414, R421) -/

/-- The contributions that the current phase of a collective still lacks. -/
def Coll.awaited (c : Coll) : List RecvC := c.recvs.filter (fun x => !x.done && x.phase2 == (c.phase == 2))

/-- R414: flits of this contribution are never dropped: it is next in fold order of the oldest unfinished run of the
oldest unfinished collective of the engine. -/
def keepsRoom (s : State) (r : Rec) (c : Coll) (src : Nat) (ph2 : Bool) : Bool :=
  let run := max 1 (if c.op = 6 then 32768 else r.cFmt.len 4096)
  let runs (x : RecvC) : Nat := x.bytes.length / run
  let l := c.awaited
  let m := l.foldl (fun b x => min b (runs x)) (2 ^ 64)
  let n := c.devs.length
  let next := ((upTo n).map (fun i => (c.self + n - i) % n)).find? (fun k => l.any (fun x => x.src == k && runs x == m))
  ph2 == (c.phase == 2) && (s.ce.colls.find? (fun d => !d.awaited.isEmpty)).map Coll.ref == some c.ref
    && next == some src

/-- R421: a lead flit with another version: the sender is asked again once, then its share is stale. -/
def versionMiss (s : State) (c : Coll) (x : RecvC) : State :=
  if x.misses = 0 then
    let c := { c with reissued := true }.setRecv { x with misses := 1, flits := [], waitLead := true }
    sendCollCtl (ceCtr (setColl s c) 0x740 1) c x.src 3 0
  else sendCollCtl (setColl s (c.setRecv { x with misses := 2, flits := [], done := true })) c x.src 2 0

/-- A flit for a collective in flight (R223, R399, R402, R414, R421). -/
def collFlit (s : State) (c : Coll) (full : Bool) (f : SFlit) : State :=
  match findRec s c.ref with
  | none => s
  | some r =>
    if f.op ≠ c.op then sendAbort s c.group 0x17
    else if f.epoch ≠ c.epoch then sendAbort s c.group 0x62
    else
      match c.recv f.srcM f.phase2 with
      | none => s
      | some x =>
        if x.done then ceCtr s 0x730 1
        else if f.fidx = 0 ∧ f.bytes ≠ x.total then sendAbort s c.group 0x17
        else if flitCount x.total ≤ f.fidx ∨ (x.waitLead ∧ f.fidx ≠ 0) then s
        else if tabHas x.flits f.fidx then ceCtr s 0x730 1
        else if c.op = 7 ∧ r.cVchk ∧ f.fidx = 0 ∧ f.version ≠ r.cVersion then
          collStep (versionMiss s c x) c.ref
        else if full && !keepsRoom s r c x.src f.phase2 then ceCtr s 0x728 1
        else
          collStep (setColl s (c.setRecv { x with
            waitLead := false, flits := tabSet x.flits f.fidx (f.data, f.pmap) })) c.ref

/-- R398, R409, R414: a flit of a group reaches the engine; `dev` is its source device where it came in a packet. -/
def flitIn (s : State) (gid : Nat) (dev : Option Nat) (full : Bool) (f : SFlit) : State :=
  match memberQ s gid, memberTable s gid with
  | some q, some (devs, self) =>
    let own := match dev with | some d => devs.getD f.srcM 262144 == d | none => decide (f.srcM < devs.length)
    if f.rsv || !own then ceCtr s 0x738 1
    else if f.dstM ≠ self then s
    else
      match s.ce.colls.find? (fun c => c.group == gid && c.seq == f.seq) with
      | some c => collFlit s c full f
      | none =>
        if 32767 < (f.seq + 65536 - (s.queue q).collSeq) % 65536 then ceCtr s 0x730 1
        else if s.ce.early.any (fun g => g.group == gid && g.seq == f.seq && g.srcM == f.srcM && g.phase2 == f.phase2
            && g.fidx == f.fidx) then ceCtr s 0x730 1
        else if full then ceCtr s 0x728 1
        else { s with ce := { s.ce with early := s.ce.early ++ [{ f with group := gid }] } }
  | _, _ => s

/-! ### The collective stream (R211, R222, R399) -/

/-- Whether epoch `x` is older than `e`. -/
def olderEpoch (e x : Nat) : Bool :=
  let d := (e + 65536 - x) % 65536
  decide (1 ≤ d) && decide (d ≤ 32767)

/-- R222: the epoch fence is open for a command of a queue. -/
def epochOpen (s : State) (c : CmdRef) (r : Rec) : Bool :=
  let x := s.queue c.q
  let old (d : CmdRef) : Bool := d.q == c.q && d != c
    && (match findRec s d with | some v => olderEpoch r.cEpoch v.cEpoch | none => false)
  !(s.ce.colls.any (fun d => old d.ref)) && !(s.hubq.coll.any old) && !(s.hubq.upd.any old)
    && !(match s.upd.run with | some u => old u.ref | none => false)
    && !(x.groupEn && s.ce.early.any (fun f => f.group == x.group && olderEpoch r.cEpoch f.epoch))

/-- A collective starts (R399): it takes its COLL_SEQ, reads its buffers, and meets the flits that came before it. -/
def collBegin (s : State) (c : CmdRef) : State :=
  match findRec s c with
  | none => s
  | some r =>
    let x := s.queue c.q
    let seq := x.collSeq % 65536
    let s := setRecSt (s.setQueue c.q { x with collSeq := (seq + 1) % 65536 }) c .started
    match queueTable s c.q with
    | none => collFail s c 0x67
    | some (devs, self) =>
      let p := collPlan s c r devs self seq
      match p.coll with
      | none => sramSweep (collFail p.s c p.st)
      | some k =>
        let s := { p.s with ce := { p.s.ce with colls := p.s.ce.colls ++ [k] } }
        let mine (f : SFlit) : Bool := f.group == k.group && f.seq == seq
        let fs := s.ce.early.filter mine
        let s := { s with ce := { s.ce with early := s.ce.early.filter (fun f => !mine f) } }
        let s := fs.foldl (fun t f => match findColl t c with | some d => collFlit t d false f | none => t) s
        sramSweep (collStep s c)

/-- R420: a collective that waited for a write phase reads its shard and forms its contributions. -/
def gatherNow (s : State) (c : Coll) (r : Rec) : State :=
  let g := gatherRead s (s.queue c.ref.q).ctxNo r.cSrc (c.share c.self)
  let c := { c with unread := false, own := g.data, ovf := g.ovf, nanIn := g.nanIn }
  sramSweep (collStep (setColl g.s { c with sends := collSends r c g.version }) c.ref)

/-- R421: a sender repeats R420 and sends the whole contribution again as COLL packets. -/
def reissueNow (s : State) (c : Coll) (r : Rec) (y : SendC) : State :=
  let g := gatherRead s (s.queue c.ref.q).ctxNo r.cSrc (c.share c.self)
  let n := flitCount y.total
  let y := { y with version := g.version, data := g.data, sent := n, reissue := false }
  let c := c.setSend y
  sramSweep (ceCtr (forUp n (fun i t => sendColl t c y i) (setColl g.s c)) 0x720 n)

/-- R420, R421: the reads and reissues that waited for a write phase which is over. -/
def reissueWaiting (s : State) : State :=
  s.ce.colls.foldl (fun t c =>
    match findRec t c.ref with
    | none => t
    | some r =>
      if headerBusy t c.ref.q r.cSrc then t
      else if c.unread then gatherNow t c r
      else (c.sends.filter (fun y => y.reissue)).foldl (fun u y =>
        match findColl u c.ref with
        | some d => reissueNow u d r y
        | none => u) t) s

/-- R191, R222: every collective that may start does, the first of each queue in round-robin order of queues; before them go
the reads and reissues that waited. -/
def collKick (s : State) : State :=
  let s := reissueWaiting s
  forUp s.hubq.coll.length (fun _ t =>
    let ok (c : CmdRef) : Bool := match findRec t c with | some r => epochOpen t c r | none => false
    match if t.pst = .active then pickRef t.hubq.coll t.ce.lastQ ok else none with
    | none => t
    | some c => collBegin { t with
        hubq := { t.hubq with coll := t.hubq.coll.filter (fun d => d != c) }, ce := { t.ce with lastQ := c.q } } c) s

/-- COLLECTIVE at dispatch (R231, R232). -/
def collRun (s : State) (q n : Nat) (own : Nat → Bool) : State :=
  match ready s q n (fun r => r.opcode == 0x10 && own r.cOp) with
  | none => s
  | some r =>
    let h := headerStatus s q r
    let st := if h ≠ 0 then h else firstStatus (collChecks s q r)
    if st ≠ 0 then collKick (collFail s ⟨q, n⟩ st)
    else
      let s := mapRec s ⟨q, n⟩ (fun r => { r with st := .waiting, at_ := s.tick.last })
      collKick { s with hubq := { s.hubq with coll := s.hubq.coll ++ [⟨q, n⟩] } }

/-- REDUCE_SCATTER, and the reserved operations 8 to 15 (R405, R227). -/
def execReduceScatter (q : Fin 64) (n : Nat) (s : State) : Host.Outcome State Fault Refusal :=
  .next (collRun s q n (fun o => o == 0 || decide (7 < o)))
/-- ALL_GATHER (R400). -/
def execAllGather (q : Fin 64) (n : Nat) (s : State) : Host.Outcome State Fault Refusal :=
  .next (collRun s q n (fun o => o == 1))
/-- ALL_REDUCE (R400, R405). -/
def execAllReduce (q : Fin 64) (n : Nat) (s : State) : Host.Outcome State Fault Refusal :=
  .next (collRun s q n (fun o => o == 2))
/-- BROADCAST (R400). -/
def execBroadcast (q : Fin 64) (n : Nat) (s : State) : Host.Outcome State Fault Refusal :=
  .next (collRun s q n (fun o => o == 3))
/-- ALL_TO_ALL (R400). -/
def execAllToAll (q : Fin 64) (n : Nat) (s : State) : Host.Outcome State Fault Refusal :=
  .next (collRun s q n (fun o => o == 4))
/-- SEQ_RING (R425). -/
def execSeqRing (q : Fin 64) (n : Nat) (s : State) : Host.Outcome State Fault Refusal :=
  .next (collRun s q n (fun o => o == 5))
/-- AMAX_MAX (R269, R406). -/
def execAmaxMax (q : Fin 64) (n : Nat) (s : State) : Host.Outcome State Fault Refusal :=
  .next (collRun s q n (fun o => o == 6))
/-- PARAM_GATHER (R420 to R422). -/
def execParamGather (q : Fin 64) (n : Nat) (s : State) : Host.Outcome State Fault Refusal :=
  .next (collRun s q n (fun o => o == 7))

/-! ### Windows (R377 to R379, R411, R412, R416) -/

/-- A flit in transit leaves on port `k` from the buffer of port `j`. -/
def sendTransit (s : State) (k j gid : Nat) (reserve : Bool) : State :=
  let x := s.port j
  match x.transit.find? (fun t => t.flit.group == gid && t.outs.contains k && (!reserve || t.late.contains k)) with
  | none => s
  | some t =>
    let u := { t with outs := setDel t.outs k, late := setDel t.late k }
    let ts := if u.outs.isEmpty then x.transit.erase t else x.transit.map (fun y => if y == t then u else y)
    let s := portCtr (s.setPort j { x with transit := ts }) k 0x150 1
    let s := if reserve then portCtr s k 0x180 1 else s
    { s with sent := s.sent ++ [.sflit k t.flit] }

/-- One flit time of a window. -/
def windowStep (s : State) (k e gid : Nat) (reserve : Bool) : State :=
  let src := entrySrc (schedEntry s k e)
  if src = 64 then
    match windowNext s k e gid reserve with
    | some (c, x) => sendS s k c x reserve
    | none => s
  else sendTransit s k src gid reserve

/-- R379: the flits that a primary window leaves waiting, those of the engine or those in transit. -/
def windowClose (s : State) (k e gid : Nat) : State :=
  let src := entrySrc (schedEntry s k e)
  if src = 64 then (entryColls s gid e).foldl (fun t c => setColl t (c.waited t (some k))) s
  else
    let x := s.port src
    s.setPort src { x with transit := x.transit.map (fun t =>
      if t.flit.group == gid && t.outs.contains k then { t with late := setIns t.late k } else t) }

/-- A window of entry `e` on port `k` in which `n` flit times may carry S flits: it opens once in a tick. -/
def windowRun (s : State) (k e n : Nat) (reserve : Bool) : State :=
  match windowOpen s k e with
  | none => s
  | some g =>
    if s.pst ≠ .active ∨ (schedEntry s k e).testBit 62 ≠ reserve ∨ (s.port k).opened.contains e then s
    else
      let s := s.setPort k { s.port k with opened := (s.port k).opened ++ [e] }
      let s := forUp (min n (windowLen s k e)) (fun _ t => windowStep t k e g reserve) s
      if reserve then s else windowClose s k e g

/-- R416: the collective at place `i` has missed its S-slot. -/
def slotMiss (s : State) (i : Nat) : State :=
  match s.ce.colls[i]? with
  | some c => if c.unsent then setColl s { c.waited s none with missed := true } else s
  | none => s

/-- S_WINDOW_OPEN (R377). -/
def execSWindowOpen (k : Fin 64) (e : Fin 256) (n : Nat) (s : State) : Host.Outcome State Fault Refusal :=
  .next (windowRun s k e n false)
/-- S_SLOT_MISS (R416). -/
def execSSlotMiss (i : Nat) (s : State) : Host.Outcome State Fault Refusal := .next (slotMiss s i)
/-- RESERVE_WINDOW (R379, R416). -/
def execReserveWindow (k : Fin 64) (e : Fin 256) (n : Nat) (s : State) : Host.Outcome State Fault Refusal :=
  .next (windowRun s k e n true)

/-! ### Arrivals (R378, R413, R415, R421) -/

/-- R378: the ports that a flit of a slot is copied to. -/
def copyPorts (s : State) (slot k : Nat) : List Nat :=
  (upTo 64).filter (fun j => (s.port j).table.any (fun t =>
    t.2.getLsbD 63 && bits t.2.toNat 61 55 == slot && entrySrc t.2.toNat == k))

/-- S_FLIT_RECEIVE: an S flit arrives on port `k`; without a slot of its group, or with a full transit buffer, it is
dropped. -/
def sReceive (s : State) (k : Nat) (f : SFlit) (full : Bool) : State :=
  if !portUp s k || s.pst != .active then s
  else
    match slotOf s f.group with
    | none => portCtr s k 0x188 1
    | some e =>
      let outs := copyPorts s e.1 k
      let x := s.port k
      if 1536 ≤ x.transit.length then portCtr s k 0x188 1
      else
        let s := if outs.isEmpty then s
          else s.setPort k { x with transit := x.transit ++ [{ flit := f, inPort := k, outs := outs }] }
        collKick (flitIn s f.group none full f)

/-- COLL: a COLL packet arrives. -/
def collReceive (s : State) (k : Nat) (p : Packet) (full : Bool) : State :=
  received s k p 0x10 (fun s =>
    match p.flit with
    | none => s
    | some f => collKick (flitIn s p.group (some p.src) full f))

/-- A control of a collective in flight arrives: its collective, or none; a foreign sender is counted (R398). -/
def ctlColl (s : State) (p : Packet) (x : CollCtl) : State × Option Coll :=
  match memberTable s p.group with
  | none => (s, none)
  | some (devs, _) =>
    if devs.getD x.sender 262144 ≠ p.src then (ceCtr s 0x738 1, none)
    else (s, s.ce.colls.find? (fun c => c.group == p.group && c.seq == x.seq && c.epoch == x.epoch))

/-- A COLL_CTL packet whose code `own` names arrives and is handled by `f`. -/
def ctlReceive (s : State) (k : Nat) (p : Packet) (own : Nat → Bool) (f : State → Coll → CollCtl → State) : State :=
  match p.ctl with
  | none => s
  | some x =>
    if !own x.code then s
    else received s k p 0x11 (fun s =>
      if x.code < 1 ∨ 3 < x.code then s
      else
        match ctlColl s p x with
        | (s, none) => s
        | (s, some c) => collKick (f s c x))

/-- The contribution to a member that its controls concern: the first that is not acknowledged. -/
def Coll.sendTo (c : Coll) (m : Nat) : Option SendC := c.sends.find? (fun x => x.dst == m && !x.acked)

/-- RESEND (R415): the requested flits that were sent before go again. -/
def resend (s : State) (c : Coll) (x : CollCtl) : State :=
  match c.sendTo x.sender with
  | none => s
  | some y =>
    let n := if x.count = 0 then y.sent - x.first else min x.count (y.sent - x.first)
    ceCtr (forUp n (fun i t => sendColl t c y (x.first + i)) s) 0x720 n

/-- ACK (R415). -/
def ackIn (s : State) (c : Coll) (x : CollCtl) : State :=
  match c.sendTo x.sender with
  | none => s
  | some y => collStep (setColl s (c.setSend { y with acked := true })) c.ref

/-- REISSUE (R421): the shard is read again and the whole contribution goes again, as soon as no write phase of the shard
runs (R420). -/
def reissueIn (s : State) (c : Coll) (x : CollCtl) : State :=
  match c.sendTo x.sender, findRec s c.ref with
  | some y, some r =>
    if c.op ≠ 7 then s
    else if headerBusy s c.ref.q r.cSrc then setColl s (c.setSend { y with reissue := true })
    else reissueNow s c r y
  | _, _ => s

/-- S_FLIT_RECEIVE (R378). -/
def execSFlitReceive (k : Fin 64) (f : SFlit) (full : Bool) (s : State) : Host.Outcome State Fault Refusal :=
  .next (sReceive s k f full)
/-- COLL (R413). -/
def execColl (k : Fin 64) (p : Packet) (full : Bool) (s : State) : Host.Outcome State Fault Refusal :=
  .next (collReceive s k p full)
/-- RESEND (R415), and the reserved codes, which are discarded (R413). -/
def execResend (k : Fin 64) (p : Packet) (s : State) : Host.Outcome State Fault Refusal :=
  .next (ctlReceive s k p (fun c => c != 2 && c != 3) resend)
/-- ACK (R415). -/
def execAck (k : Fin 64) (p : Packet) (s : State) : Host.Outcome State Fault Refusal :=
  .next (ctlReceive s k p (fun c => c == 2) ackIn)
/-- REISSUE (R421). -/
def execReissue (k : Fin 64) (p : Packet) (s : State) : Host.Outcome State Fault Refusal :=
  .next (ctlReceive s k p (fun c => c == 3) reissueIn)

/-! ### Hold points (R206, R415, R416) -/

/-- R415: every member whose contribution to a collective is incomplete is asked for it. -/
def collResends (s : State) (c : Coll) : State :=
  let ms := (c.recvs.filter (fun x => !x.done)).foldl (fun l x => if l.contains x.src then l else l ++ [x.src]) []
  ms.foldl (fun t m =>
    match c.recvs.find? (fun x => x.src == m && !x.done), findColl t c.ref with
    | some x, some _ => sendCollCtl (ceCtr t 0x718 1) c m 1 x.prefixLen
    | _, _ => t) s

/-- OVERRUN: the hold point of a grouped queue's frame passes with the frame unfinished; a collective that has missed its
S-slot and its reserve windows also holds the next tick (R208, R416). -/
def holdPoint (s : State) (q : Nat) : State :=
  let x := s.queue q
  match x.frame with
  | none => s
  | some f =>
    if s.pst ≠ .active ∨ !x.groupEn ∨ f.closing ≤ s.tick.last ∨ (f.late ∧ f.held = f.closing) then s
    else
      let s := requestHold (raiseOverrun s q) x.group f.closing 0
      let cs := s.ce.colls.filter (fun c => c.ref.q == q)
      let s :=
        if cs.any (fun c => c.missed && c.unsent) then
          let h := nextTick s
          ceCtr (forwardGroup (markHold s x.group h) none x.group (.hold x.group h (devId s) 2)) 0x710 1
        else s
      cs.foldl collResends s

/-- OVERRUN (R206, R415, R416). -/
def execOverrun (q : Fin 64) (s : State) : Host.Outcome State Fault Refusal := .next (holdPoint s q)

end Sys2Proof.Machine
end

