-- ==== Sys2Proof/Machine/VeStep.lean ====
section
/-!
DEFINITION. How the vector engine starts, issues, waits, ends and stops (spec/04_vector_engine.md R115 to R118, R125,
R146, R147; spec/07_command_reference.md R237, R244).
-/
namespace Sys2Proof.Machine

/-- R115, R244: the vector engine at the start of a program. -/
def Ve.startOf (x : Ve) (c : CmdRef) (r : Rec) : Ve :=
  { s := [(1, BitVec.ofNat 64 (r.w 2)), (2, BitVec.ofNat 64 (r.w 3)), (3, BitVec.ofNat 64 (r.w 4)),
      (4, BitVec.ofNat 64 (r.w 5))]
    pc := BitVec.ofNat 23 (r.f 86 64)
    st := .running
    queue := c.q
    cmd := some c
    waiting := x.waiting.filter (fun y => y != c)
    lastQ := c.q }

/-- R116, R191: a free vector engine starts the next waiting program. -/
def veKick (s : State) (p : Nat) : State :=
  let x := (s.core p).ve
  if x.cmd.isSome || (s.core p).ras.inReset || !coreOn s p then s
  else
    match pickRef x.waiting x.lastQ (fun _ => true) with
    | none => s
    | some c =>
      match findRec s c with
      | none => s
      | some r => setVe (setRecSt s c .started) p (x.startOf c r)

/-- R116, R237: the running program is over: its command completes and the engine takes its next program. -/
def veFinish (s : State) (p st : Nat) (final : VeSt) (bad : Bool) : State :=
  let x := (s.core p).ve
  match x.cmd with
  | none => s
  | some c =>
    let s := setVe s p { x with st := final, cmd := none, last := x.stat, slotTaken := false }
    let s := complete s c {
      status := st
      res0 := x.pc.toNat
      res1 := satW 32 x.ovf + satW 32 x.nanIn * 2 ^ 32
      res2 := x.stat.toNat + satW 32 x.issued * 2 ^ 32
      poison := x.pois || bad }
    veKick s p

/-- R147: the counters of an instruction that issues: one issue clock and the clocks it waited. -/
def veCount (s : State) (p : Nat) (w : VeWaits) (branch : Nat) : State :=
  let s := coreCtr s p 0x148 1
  let s := coreCtr s p 0x150 (1 + w.lagg + w.mem + w.dep + branch)
  let s := coreCtr s p 0x158 w.lagg
  let s := coreCtr s p 0x160 branch
  let s := coreCtr s p 0x168 w.mem
  let s := coreCtr s p 0x170 w.dep
  let x := (s.core p).ve
  setVe s p { x with issued := x.issued + 1 }

/-- The program counter after an instruction: `n` words on, in 23 bits. -/
def vePc (s : State) (p : Nat) (n : Int) : State :=
  let x := (s.core p).ve
  setVe s p { x with st := .running, pc := x.pc + BitVec.ofInt 23 (8 * n) }

/-- What an instruction's effect makes of the state. -/
def veApply (p : Nat) (w : VeWaits) (e : VeEff) : State :=
  match e with
  | .ok s => vePc (veCount s p w 0) p 1
  | .jump s n => vePc (veCount s p w 1) p n
  | .fin s => veFinish (veCount s p w 0) p 0 .idle false
  | .stop s st => veFinish (veCount s p w 0) p st .stopped false
  | .wait s =>
    let s := coreCtr (coreCtr s p 0x150 w.lagg) p 0x158 w.lagg
    setVe s p { (s.core p).ve with st := .waitLagg }

/-- Whether core `p` has a program that can issue. -/
def veReady (s : State) (p : Nat) : Bool :=
  s.pst == .active && coreOn s p && !(s.core p).ras.inReset && !s.bring.clusterResets.contains (p / 8)
    && (s.core p).ve.cmd.isSome

/-- The device physical address of the next instruction. -/
def veFetch (s : State) (p : Nat) : Nat := csAddr p (s.core p).ve.pc.toNat

/-- The instruction word at the program counter, none where the core store has no word or delivers it poisoned. -/
def veWord (s : State) (p : Nat) : Option Nat :=
  if csSize ≤ (s.core p).ve.pc.toNat || rangeBad s (veFetch s p) 8 then none else some (readLE s (veFetch s p) 8)

/-- R113, R525: an injected parity error strikes at the vector engine's next issue. -/
def veParity (s : State) (p : Nat) : State :=
  let c := s.core p
  parityHalt (s.setCore p { c with ras := { c.ras with injVe := false } }) p 1

/-- The issue of the instruction at the program counter, if it is legal and one that `own` names. -/
def veRun (p : Nat) (w : VeWaits) (own : VI → Bool) (body : VeBody) (s : State) : State :=
  if !veReady s p then s
  else
    match veWord s p with
    | none => s
    | some word =>
      let i := decodeVI word
      if !(veLegal word && own i) then s
      else if (s.core p).ras.injVe then veParity s p
      else sramSweep (veApply p w (body s p i))

/-- R118, R137: the stop at an illegal or poisoned instruction word. -/
def veIllegal (p : Nat) (w : VeWaits) (s : State) : State :=
  if !veReady s p then s
  else
    let bad := rangeBad s (veFetch s p) 8
    let legal := match veWord s p with | none => false | some x => veLegal x
    if legal then s
    else if (s.core p).ras.injVe then veParity s p
    else
      let s := if bad then loadUnits s p (unitsOf (veFetch s p) 8) else s
      sramSweep (veFinish (veCount s p w 0) p 0x14 .stopped bad)

/-- The instruction of a class with a function number. -/
def isVI (cls fn : Nat) : VI → Bool := fun i => i.cls == cls && i.fn == fn

/-- A vector-engine instruction as a command's outcome. -/
def veStep (p : Fin 256) (w : VeWaits) (cls fn : Nat) (body : VeBody) (s : State) :
    Host.Outcome State Fault Refusal :=
  .next (veRun p w (isVI cls fn) body s)

end Sys2Proof.Machine
end

