-- ==== Sys2Proof/Machine/CoreCmds.lean ====
section
/-!
DEFINITION. The meanings of VE_PROG (spec/07_command_reference.md R244) and of the scrubber (spec/05_core_memory_gather.md
R180 to R184).
-/
namespace Sys2Proof.Machine

/-- VE_PROG: validated, queued in the core's VE stream, and started when the engine is free (R116, R244). -/
def veProgRun (s : State) (q n : Nat) : State :=
  dispatch s q n (isOp 4) (fun r =>
    checked s ⟨q, n⟩
      [(!r.zero 511 384 || !r.zero 127 87 || r.f 86 64 % 8 != 0, 2), (decide (csSize ≤ r.f 86 64), 0x22)]
      (let p := r.coreNo
       let s := setRecSt s ⟨q, n⟩ .waiting
       let x := (s.core p).ve
       veKick (setVe s p { x with waiting := x.waiting ++ [⟨q, n⟩] }) p))

/-- R180, R182, R184: the scrubber reads the core-store word or HBM line that holds `a` and finds it clean (0), with an
error that it corrects (1), or with an uncorrectable one (2), which it marks poisoned. -/
def scrubAt (s : State) (a found : Nat) : State :=
  if s.pst ≠ .active || !(inHbm a || inCs a) || (paStatus s a).isSome || lateDie s a then s
  else
    let u := unitOf a
    let s :=
      if found = 1 then
        if inCs a then coreCtr s (csCore a) 0x1C8 1
        else { s with hbmCorr := ctrAdd s.hbmCorr (homeStack a) 1 }
      else if found = 2 ∧ !s.poison.contains u then { s with latent := setIns s.latent u }
      else s
    sramSweep (detectUnit s u)

/-- VE_PROG (R244). -/
def execVeProg (q : Fin 64) (n : Nat) (s : State) : Host.Outcome State Fault Refusal := .next (veProgRun s q n)
/-- SCRUB (R180). -/
def execScrub (a : Nat) (found : Fin 3) (s : State) : Host.Outcome State Fault Refusal := .next (scrubAt s a found)

end Sys2Proof.Machine
end

