-- ==== Sys2Proof/Machine/TickOps.lean ====
section
/-!
DEFINITION. What happens at a sluice tick (spec/06_command_model.md R193 to R210; spec/14_power_thermal.md R438 to R440,
R455; spec/15_bringup_reset_yield.md R474, R478; spec/01_package.md R28).
-/
namespace Sys2Proof.Machine

/-! ### Steps 1 to 3: late frames, hold ticks, group counts -/

/-- R194, R204 step 1, R206: the frame of a queue at its closing tick: a hold tick moves it, any other ends the slot. -/
def closeAt (s : State) (tk q : Nat) : State :=
  let x := s.queue q
  match x.frame with
  | none => s
  | some f =>
    if tk < f.closing || f.closed then s
    else if queueHolds s q tk then s.setQueue q { x with frame := some { f with closing := tk + tickStep s.tick.sel } }
    else
      let s := s.setQueue q { x with frame := some { f with closed := true } }
      if x.groupEn then s else raiseOverrun s q

/-- R204 step 2: hold ticks are counted for each group of the package. -/
def holdAt (s : State) (tk : Nat) : State :=
  let s := s.queues.foldl (fun t e =>
    if e.2.groupEn && e.2.st != .disabled then t.setGroup e.2.group (t.group e.2.group) else t) s
  let s := s.tick.groups.foldl (fun (t : State) e =>
    let g := e.2
    let held := groupHeld t e.1 tk
    let t := t.setGroup e.1 { holds := g.holds.filter (fun h => decide (tk ≤ h)), consec := if held then g.consec + 1 else 0 }
    if held then
      match memberQ t e.1 with
      | some q => tickCtr (queueCtr t q 0x158 1) 0x130 1
      | none => t
    else t) s
  if s.pwr.idleNow then tickCtr s 0x138 1 else s

/-- R204 step 3: the group tick counts of queues and slots advance where the group does not hold. -/
def countAt (s : State) (tk : Nat) : State :=
  let go (gid origin : Nat) : Nat :=
    if origin + tickStep s.tick.sel ≤ tk ∧ !groupHeld s gid tk then 1 else 0
  { s with
    queues := s.queues.map (fun (e : Nat × Queue) =>
      if e.2.groupEn && e.2.st != .disabled then
        (e.1, { e.2 with gcount := e.2.gcount + go e.2.group e.2.origin.toNat })
      else e)
    fab := { s.fab with slots := s.fab.slots.map (fun (e : Nat × FSlot) =>
      if e.2.slot.getLsbD 63 then (e.1, { e.2 with count := e.2.count + go (slotGroup e.2) e.2.origin.toNat }) else e) } }

/-! ### Step 4: resets and fences of the host (R474, R478, R479) -/

/-- R478 steps 1 to 4: a partition reset begins. -/
def partReset (s : State) (n : Nat) : State :=
  if s.bring.partResets.contains n then s
  else
    let s := bringCtr s 0x130 1
    let s := { s with bring := { s.bring with
      partResets := setIns s.bring.partResets n, partWait := setIns s.bring.partWait n } }
    let qs := (s.queues.filter (fun e => e.2.part == n && e.2.st == .running)).map (fun e => e.1)
    let s := qs.foldl (fun t q => abortOf (stopQueue t q 0xA3) q 0x6A) s
    s.cores.foldl (fun t c =>
      if tabGet t.partOf 255 (c.1 / 8) = n ∧ coreOn t c.1 ∧ !(executing (t.core c.1)).isEmpty
          ∧ !(t.core c.1).ras.inReset then haltCore t c.1 0xA3 else t) s

/-- R478 step 6: every cluster of a partition under reset runs its cluster reset. -/
def partClusters (s : State) (n : Nat) : State :=
  if !s.bring.partWait.contains n then s
  else
    let s := { s with bring := { s.bring with partWait := setDel s.bring.partWait n } }
    let s := (upTo 32).foldl (fun t c => if tabGet t.partOf 255 c = n then resetCluster t c 0xA3 else t) s
    if (upTo 32).any (fun c => s.bring.clusterResets.contains c && tabGet s.partOf 255 c == n) then s
    else { s with bring := { s.bring with partResets := setDel s.bring.partResets n } }

/-- A request of BRING.RESET takes effect. -/
def applyReset (s : State) (r : ScopeReq) : State :=
  match r.scope with
  | 0 => if s.bring.partWait.contains (tabGet s.partOf 255 (r.target / 8)) then s else resetCore s r.target 0xA3
  | 1 => if s.bring.partWait.contains (tabGet s.partOf 255 r.target) then s else resetCluster s r.target 0xA3
  | _ => partReset s r.target

/-- A request of BRING.FENCE takes effect. -/
def applyFence (s : State) (r : ScopeReq) : State :=
  match r.scope with
  | 0 => fenceCore s r.target 10 0xA0
  | _ => (clusterCores r.target).foldl (fun t p => fenceCore t p 10 0xA0) s

/-- The host's requests of the ending slot take effect. -/
def hostRequests (s : State) : State :=
  let rs := s.bring.resets
  let fs := s.bring.fences
  let s := { s with bring := { s.bring with resets := [], fences := [] } }
  fs.foldl applyFence (rs.foldl applyReset s)

/-! ### Step 4: pending writes -/

/-- R28, R30, R485: whether a cluster may leave its partition now: it has one, it is not under a cluster or partition
reset, and no frame of the partition's queues is in flight on a core of it that is not fenced. -/
def mayMove (s : State) (c : Nat) : Bool :=
  let old := tabGet s.partOf 255 c
  old != 255 && !s.bring.clusterResets.contains c && !s.bring.partResets.contains old
    && !(s.queues.any (fun e => e.2.part == old
      && (frameRecs e.2).any (fun r => !r.isDone && coreOpcode r.opcode && r.coreNo / 8 == c && coreOn s r.coreNo)))

/-- R28, R538: a pending write of PART_MAP[r] is applied, or ignored as a whole. -/
def movePart (s : State) (r v : Nat) : State :=
  let moves := (upTo 8).filter (fun i => bits v (8 * i + 7) (8 * i) != tabGet s.partOf 255 (8 * r + i))
  if moves.all (fun i => mayMove s (8 * r + i)) then
    moves.foldl (fun t i => { t with partOf := tabSet t.partOf (8 * r + i) (bits v (8 * i + 7) (8 * i)) }) s
  else writeIgnored s 0 (0x118 + 8 * r)

/-- R539: a pending write of FENCE_MAP[i] is applied. -/
def moveFence (s : State) (i v : Nat) : State :=
  forUp 8 (fun c t =>
    let b := bits v (8 * c + 7) (8 * c)
    t.setFence (8 * i + c) { t.fence (8 * i + c) with owner := b % 8, remote := b.testBit 3 }) s

/-- R374: a pending write of a group slot is applied; another group or origin restarts COUNT. -/
def applySlot (s : State) (o : Nat) (v : W64) : State :=
  let i := (o - 0x100) / 32
  let f := tabGet s.fab.slots {} i
  let org (x : FSlot) : FSlot :=
    if x.slot >>> 46 = f.slot >>> 46 ∧ x.origin = f.origin then x
    else { x with count := (s.tick.last - x.origin.toNat) / tickStep s.tick.sel }
  let f := match (o - 0x100) % 32 with
    | 0 => org { f with slot := v }
    | 8 => { f with fwd := v }
    | _ => org { f with origin := v }
  { s with fab := { s.fab with slots := tabSet s.fab.slots i f } }

/-- R376: whether a shadow entry obeys R375 and names a valid slot. -/
def schedOk (s : State) (e : Nat) : Bool :=
  let g := bits e 61 55
  let cyc := bits e 47 45
  decide (g < 96) && decide (bits e 54 48 ≤ 64) && decide (bits e 44 38 < 2 ^ cyc)
    && decide (1 ≤ bits e 22 8) && decide (bits e 22 8 ≤ 25600) && (tabGet s.fab.slots {} g).slot.getLsbD 63

/-- R376: the shadow table of a port becomes its active table. -/
def schedApply (s : State) (k : Nat) : State :=
  let x := s.port k
  if !x.commit then s
  else
    let bad := x.shadow.filter (fun e => e.2.getLsbD 63 && !schedOk s e.2.toNat)
    let tab := x.shadow.map (fun e => (e.1, if e.2.getLsbD 63 && !schedOk s e.2.toNat then (0 : W64) else e.2))
    let s := s.setPort k { x with commit := false, table := tab }
    bad.foldl (fun t e => writeIgnored t (0x240 + k) (0x100 + 8 * e.1)) s

/-- R199, R578: the period changes: running frames that do not close here close at the next tick of the new period, and a
queue whose guard no longer fits stops. -/
def periodApply (s : State) (tk sel : Nat) : State :=
  let s := { s with
    tick := { s.tick with sel := sel }
    queues := s.queues.map (fun (e : Nat × Queue) => (e.1, { e.2 with
      frame := e.2.frame.map (fun f => if tk < f.closing then { f with closing := tk + tickStep sel } else f) })) }
  (upTo 64).foldl (fun t q =>
    let x := t.queue q
    if x.st = .running ∧ x.groupEn ∧ periodNs sel / 2 < x.guard then stopQueue t q 0x66 else t) s

/-- The change of period due at domain time `tm`: a PERIOD message's before an adoption. -/
def periodDue (s : State) (tm : Nat) : Option Nat :=
  match s.tick.change with
  | some c => if c.1 ≤ tm then some c.2 else none
  | none => match s.tick.adopt with
    | some c => if c.1 ≤ tm then some c.2 else none
    | none => none

/-- R440: hints at a tick: slots pass, a new hint comes into force and ends an open-ended one of its queue. -/
def hintsAt (hs : List Hint) : List Hint :=
  hs.foldl (fun l h =>
    if h.on then l ++ [{ h with left := h.left - 1 }]
    else l.filter (fun g => g.q != h.q || g.ticks != 0) ++ [{ h with on := true }]) []

/-- R438, R440: what the ended slot, an idle one or not, measured becomes the reference, the idle draw, and the memory of the phase that
governed it. -/
def measureAt (s : State) (idle : Bool) (m : SlotMeasure) : State :=
  let p := s.pwr
  if idle then { s with pwr := { p with pIdle := f32Add m.liram m.rest } }
  else
    let p := { p with refLiram := m.liram, refRest := m.rest, refOp := p.curOp }
    let l := f32Add (f32Div m.liram (dieRatio p.curOp)) m.rest
    { s with pwr := { p with phaseMem := if p.govern = 0 then p.phaseMem else tabSet p.phaseMem p.govern l } }

/-- R436, R459: PWR.CTRL written in the ending slot takes effect. -/
def ctrlAt (s : State) : State :=
  match s.pwr.next with
  | none => s
  | some v =>
    let v := v.toNat
    let p := s.pwr
    withLimit s { p with
      next := none, capW := bits v 15 0, hintEn := v.testBit 16, opMax := bits v 35 32
      fastN := if bits v 15 0 = p.capW then p.fastN else 0 }

/-- R28, R538, R539: pending writes of the partition map and the fence map are applied. -/
def mapsAt (s : State) : State :=
  let h := s.host
  let s := { s with host := { h with partPend := [], fencePend := [] } }
  let s := h.partPend.foldl (fun t e => movePart t e.1 e.2.toNat) s
  h.fencePend.foldl (fun t e => moveFence t e.1 e.2.toNat) s

/-- R321, R374, R376, R397: pending writes of slots, schedules, the crossbar and member tables are applied. -/
def tablesAt (s : State) : State :=
  let sl := s.fab.slotPend
  let s := sl.foldl (fun t e => applySlot t e.1 e.2) { s with fab := { s.fab with slotPend := [] } }
  let s := forUp 64 (fun k t => schedApply t k) s
  let x := s.xbar
  tablesApply { s with xbar := { x with cfg := x.pend.foldl (fun t e => tabSet t e.1 e.2) x.cfg, pend := [] } }

/-- R199, R578: a change of period that is due takes effect at tick `tk`. -/
def periodAt (s : State) (tk : Nat) : State :=
  match periodDue s s.tick.time with
  | some x => periodApply { s with tick := { s.tick with change := none, adopt := none } } tk x
  | none => s

/-- R200, R201: a master that is no longer a candidate hands over, and a domain that has lost its master and its backup
elects. -/
def masterAt (s : State) : State :=
  match s.tick.master with
  | some x =>
    if !((candidates s).contains x || s.tick.lone) then passMaster s
    else if 8 ≤ s.tick.quiet then masterLost s else s
  | none => reelect s

/-- R35: one update of the AGT where the dynamic section changes. -/
def agtAt (old s : State) : State :=
  if s.pwr.capW = old.pwr.capW ∧ s.pwr.curOp = old.pwr.curOp ∧ s.partOf = old.partOf ∧ s.tick.sel = old.tick.sel then s
  else agtUpdate s (fun a => a)

/-- R433, R436, R440, R445: the cap, the operating point, the hints and the thermal ceiling of the new slot. -/
def powerAt (s : State) (idle : Bool) (m : SlotMeasure) : State :=
  let s := measureAt s idle m
  thermTick (ctrlAt { s with pwr := { s.pwr with curOp := s.pwr.nextOp, hints := hintsAt s.pwr.hints } })

/-- R204 step 4 at tick `tk`: every pending change takes effect in one update of the AGT, mastership passes on, and the
controller chooses for the next slot. -/
def changesAt (s : State) (tk : Nat) (idle : Bool) (m : SlotMeasure) : State :=
  opSelect (masterAt (agtAt s (periodAt (tablesAt (mapsAt (powerAt (hostRequests s) idle m))) tk))) tk

/-! ### Step 5: energies (R455 to R457) -/

/-- A list of amounts added to counters at a base, 8 bytes apart. -/
def addAll (c : Ctrs) (base : Nat) (l : List Nat) : Ctrs :=
  ((upTo l.length).zip l).foldl (fun t e => ctrAdd t (base + 8 * e.1) e.2) c

/-- R29, R455: the energy of partition `n` over a slot at whose start the clusters belonged to partitions as `po` says:
that of its clusters' rails, and what its queues took of the other rails. -/
def partEnergy (s : State) (po : Tab Nat) (m : SlotMeasure) (n : Nat) : Nat :=
  (upTo 32).foldl (fun e c => if tabGet po 255 c = n then e + m.cluster.getD c 0 else e) 0
    + (upTo 64).foldl (fun e q => if (s.queue q).part = n then e + m.uncore.getD q 0 else e) 0

/-- R204 step 5: the counters of the ended slot, which ran at operating point `op` with the partition map `po`, advance. -/
def energyAt (s : State) (op : Nat) (po : Tab Nat) (m : SlotMeasure) : State :=
  let c := ctrAdd (ctrAdd (ctrAdd s.pwr.ctr 0x120 m.total) 0x128 m.unattr) 0x130 m.recovery
  let c := addAll (addAll c 0x138 (m.guest.take 2)) 0x148 ((upTo 8).map (partEnergy s po m))
  let c := ctrAdd (ctrAdd c 0x198 m.thermClk) (0x1A0 + 8 * op) 1
  let xb := ((upTo 44).zip (m.xbar.take 44)).foldl (fun t e => ctrAdd t (0x200 + 32 * (e.1 / 4) + 8 * (e.1 % 4)) e.2) s.xbar.bytes
  let s := { s with pwr := { s.pwr with ctr := c }, xbar := { s.xbar with bytes := xb } }
  (upTo 64).foldl (fun t q => queueCtr t q 0x188 (m.queue.getD q 0 + m.uncore.getD q 0)) s

/-! ### Domain time (R197, R202) -/

/-- The part of the slew that one period carries: at most 1 ns per µs. -/
def slewPart (slew : Int) (p : Nat) : Int :=
  let lim : Int := (p / 1000 : Nat) * 256
  if lim < slew then lim else if slew < -lim then -lim else slew

/-- The domain time of the next tick. -/
def nextTime (s : State) : Nat := (s.tick.time / periodNs s.tick.sel + 1) * periodNs s.tick.sel

/-- Domain time and the time since VSB came up reach the next tick. -/
def advance (s : State) : State :=
  let t := nextTime s
  let d := slewPart s.tick.slew (periodNs s.tick.sel)
  { s with
    uptime := ((s.uptime : Int) + (t - s.tick.time : Nat) - d / 256).toNat
    tick := { s.tick with
      time := t, last := t / 4096, slew := s.tick.slew - d
      quiet := s.tick.quiet + 1, missed := s.tick.missed + 1
      seen := s.tick.seen.filter (fun k => k.1 != 6 || decide (t / 4096 ≤ k.2.2 + 64 * tickStep s.tick.sel)) }
    pwr := { s.pwr with idleNow := s.pwr.idleNext, idleNext := false } }

/-- R202, R381: the master's BEACON, or the request to the parent, that leaves at a tick. -/
def timeFlits (s : State) : State :=
  if isMaster s then
    let f := firstSeen s (3, s.tick.last, 0)
    let b := match s.tick.backup with | some d => d | none => devId s
    flood f.2 none (.beacon (devId s) (if s.tick.lone then devId s else b) 0 s.tick.last s.tick.sel)
  else
    match s.tick.parent with
    | none => s
    | some p =>
      let n := (s.tick.syncSeq + 1) % 256
      let t1 := s.tick.time * 256 % 2 ^ 56
      sendCtl { s with tick := { s.tick with syncSeq := n, sync := some (n, t1) } } p.port (.timeReq n t1)

/-- R202: a step of domain time due at this boundary. -/
def stepTime (s : State) : State :=
  if s.tick.stepBy = 0 then s
  else { s with tick := { s.tick with time := ((s.tick.time : Int) + s.tick.stepBy / 256).toNat, stepBy := 0 } }

/-- Ports that are Up may be used from this tick, no window has opened yet, and a flit that still waits may take a window of
any kind (R379). -/
def portsAt (s : State) : State :=
  { s with
    ce := { s.ce with colls := s.ce.colls.map (fun c => c.waited s none) }
    fab := { s.fab with ports := s.fab.ports.map (fun (e : Nat × Port) =>
      (e.1, { e.2 with
        usable := e.2.st == .up, opened := [], transit := e.2.transit.map (fun t => { t with late := t.outs }) })) } }

/-- R204: a sluice tick, with what the ended slot measured. -/
def sluiceTick (s : State) (m : SlotMeasure) : State :=
  if s.pst ≠ .active then s
  else
    let op := s.pwr.curOp
    let po := s.partOf
    let idle := s.pwr.idleNow
    let s := advance s
    let tk := s.tick.last
    let s := (upTo 64).foldl (fun t q => closeAt t tk q) s
    let s := countAt (holdAt s tk) tk
    let s := changesAt s tk idle m
    let s := scaleWriteBack (energyAt s op po m) m.scaleWb
    let s := (upTo 64).foldl (fun t q => startFrame t q tk) (portsAt s)
    stepTime (timeFlits (sendAllDirect s))

/-- R204: a tick at which a change announced for `due` takes effect, and only then. -/
def tickAtChange (s : State) (due : Option (Nat × Nat)) (m : SlotMeasure) : State :=
  match due with
  | some c => if c.1 ≤ nextTime s then sluiceTick s m else s
  | none => s

end Sys2Proof.Machine
end

