-- ==== Sys2Proof/Machine/Time.lean ====
section
/-!
DEFINITION. The meanings of the commands of the tick, of domain time and of link control messages
(spec/06_command_model.md R197 to R210, R578; spec/12_causeway_fabric.md R380 to R382).
-/
namespace Sys2Proof.Machine

/-- SLUICE_TICK: the next tick of domain time, with what the ended slot measured (R204). -/
def execSluiceTick (m : SlotMeasure) (s : State) : Host.Outcome State Fault Refusal := .next (sluiceTick s m)

/-- HINT_EXPIRY: a hint of queue `q` whose TICKS slots have passed is dropped (R440). -/
def execHintExpiry (q : Fin 64) (s : State) : Host.Outcome State Fault Refusal :=
  .next { s with pwr := { s.pwr with
    hints := s.pwr.hints.filter (fun h => !(h.q == q.val && h.on && h.ticks != 0 && h.left == 0)) } }

/-- R210: a group that has met 64 hold ticks in a row is aborted with OVERRUN. -/
def holdLimit (s : State) (gid : Nat) : State :=
  if (s.group gid).consec < 64 then s
  else
    let s := sendAbort s gid 0x64
    s.setGroup gid { s.group gid with consec := 0 }

/-- HOLD_LIMIT_ABORT (R210). -/
def execHoldLimitAbort (gid : Fin 65536) (s : State) : Host.Outcome State Fault Refusal := .next (holdLimit s gid)

/-! ### The period (R199, R578) -/

/-- The first multiple of 65,536 ns at least 2,000,000 ns after a time. -/
def changeTime (now : Nat) : Nat := ceilTo (now + 2000000) 65536

/-- R199: a write of TICK.PERIOD_REQ, `dt` ns after the last tick. -/
def periodRequest (s : State) (v dt : Nat) : State :=
  let sel := bits v 2 0
  if !isMaster s || s.pst ≠ .active || 4 < sel || bits v 63 3 ≠ 0 || s.tick.change.isSome then writeIgnored s 1 0x118
  else
    let tc := changeTime (s.tick.time + dt)
    let f := firstSeen { s with tick := { s.tick with req := sel, change := some (tc, sel), adopt := none } } (7, tc, 0)
    flood f.2 none (.period tc sel)

/-- PERIOD_REQUEST (R199). -/
def execPeriodRequest (v : W64) (dt : Nat) (s : State) : Host.Outcome State Fault Refusal :=
  .next (pfAccess s (periodRequest s v.toNat dt))

/-- PERIOD_CHANGE: the tick at Tc of an announced change (R199). -/
def execPeriodChange (m : SlotMeasure) (s : State) : Host.Outcome State Fault Refusal :=
  .next (tickAtChange s s.tick.change m)

/-- PERIOD_ADOPTION: the tick at which an adoption takes effect (R578). -/
def execPeriodAdoption (m : SlotMeasure) (s : State) : Host.Outcome State Fault Refusal :=
  .next (if s.tick.change.isSome then s else tickAtChange s s.tick.adopt m)

/-! ### Mastership and locking (R201, R203) -/

/-- MASTER_TAKEOVER: four periods have passed without a time flit of the master (R200, R201, R203). -/
def execMasterTakeover (s : State) : Host.Outcome State Fault Refusal := .next (masterLost s)

/-- TIME_EXCHANGE_MISSING: periods have passed without an exchange with the parent (R203). -/
def execTimeExchangeMissing (s : State) : Host.Outcome State Fault Refusal :=
  .next (
    if s.pst ≠ .active ∨ isMaster s ∨ s.tick.missed = 0 then s
    else if 64 < s.tick.missed then { s with tick := { s.tick with lock := 2, good := 0 } }
    else { s with tick := { s.tick with lock := max s.tick.lock 1 } })

/-- R380: one control flit arrives on a port. -/
def takeCtl (s : State) (k : Nat) : State := rxFlits s k 1

/-- TIME_REQ: a child's request is answered; `t2` and `t3` are this package's timestamps (R202, R382). -/
def execTimeReq (k : Fin 64) (seq t2 t3 : Nat) (s : State) : Host.Outcome State Fault Refusal :=
  .next (
    if !accepts s k then s
    else
      let s := takeCtl s k
      sendCtl { s with tick := { s.tick with lone := false } } k
        (.timeRsp (seq % 256) (t2 % 2 ^ 56) (t3 % 2 ^ 56)))

/-- R202, R203: the offset of an exchange, in units of 1/256 ns, and what follows from it. -/
def applyOffset (s : State) (o : Int) : State :=
  let t := { s.tick with offset := o, missed := 0, sync := none }
  let a := o.natAbs
  if a ≤ 25 * 256 then
    let g := t.good + 1
    { s with tick := { t with slew := o, good := g, lock := if 16 ≤ g then 0 else t.lock } }
  else if a ≤ 250 * 256 then { s with tick := { t with slew := o, good := 0, lock := max t.lock 1 } }
  else { s with tick := { t with slew := 0, stepBy := o, good := 0, lock := 2 } }

/-- TIME_RSP: the answer to the outstanding request arrives from the parent at `t4` (R202). -/
def execTimeRsp (k : Fin 64) (seq t2 t3 t4 : Nat) (s : State) : Host.Outcome State Fault Refusal :=
  .next (
    if !accepts s k then s
    else
      let s := takeCtl s k
      match s.tick.parent, s.tick.sync with
      | some p, some q =>
        if p.port = k.val ∧ q.1 = seq % 256 then
          let d1 := sext 56 (t2 % 2 ^ 56 + 2 ^ 56 - q.2 % 2 ^ 56)
          let d2 := sext 56 (t4 % 2 ^ 56 + 2 ^ 56 - t3 % 2 ^ 56)
          applyOffset s ((d1 - d2) / 2)
        else s
      | _, _ => s)

/-- Whether the election's rule prefers one device to another (R200). -/
def precedes (a b : Nat) : Bool := bestOf (setIns [a] b) == some a && a != b

/-- Whether a BEACON's master is accepted: it is this package's master or its silent master's backup, this package has
none, or two domains meet (notes/assumptions/12.md). -/
def masterAccepted (s : State) (m b : Nat) : Bool :=
  match s.tick.master with
  | none => true
  | some x =>
    let lone2 := m == b
    x == m || (s.tick.backup == some m && !s.tick.lone && decide (1 ≤ s.tick.quiet))
      || (s.tick.lone && !lone2) || (s.tick.lone == lone2 && precedes m x)

/-- R578: the period of a BEACON accepted `dt` ns after the last tick is adopted. -/
def adoptPeriod (s : State) (sel dt : Nat) : State :=
  if s.tick.change.isSome || isMaster s || sel = s.tick.sel || 4 < sel then s
  else if s.tick.adopt.isSome && (s.tick.adopt.map (fun c => c.2)) == some sel then s
  else { s with tick := { s.tick with adopt := some (changeTime (s.tick.time + dt), sel) } }

/-- R200 to R203: a BEACON of an accepted master, from `hops` hops away over port `k`. A master whose backup has taken over is
no candidate any more. -/
def followBeacon (s : State) (k m b hops : Nat) : State :=
  let t := s.tick
  let same := t.master == some m
  let wasSelf := isMaster s
  let old := match t.master with
    | some x => if x ≠ m ∧ t.backup = some m ∧ !t.lone then setDel t.cands x else t.cands
    | none => t.cands
  let cs := setIns (if b = m then old else setIns old b) m
  let s := { s with tick := { t with
    master := some m, lone := false, quiet := 0, cands := setDel cs (devId s)
    neighbours := tabSet (if same then t.neighbours else []) k hops
    lock := if wasSelf then 2 else t.lock, good := if wasSelf then 0 else t.good } }
  reelect (chooseParent s)

/-- BEACON: `dt` ns after the last tick of this package (R381, R578). -/
def execBeacon (k : Fin 64) (m b : Fin 262144) (hops : Fin 16) (tick sel dt : Nat) (s : State) :
    Host.Outcome State Fault Refusal :=
  .next (
    if !accepts s k then s
    else
      let s := takeCtl s k
      if m.val = devId s ∨ 4 < sel ∨ s.pst ≠ .active then s
      else
        let f := firstSeen s (3, tick, 0)
        let s := if f.1 then flood f.2 (some k) (.beacon m b (min 15 (hops + 1)) tick sel) else f.2
        if masterAccepted s m b then adoptPeriod (followBeacon s k m b hops) sel dt else s)

/-- CANDIDATE (R200, R380). -/
def execCandidate (k : Fin 64) (dev : Fin 262144) (now : Bool) (seq : Nat) (s : State) :
    Host.Outcome State Fault Refusal :=
  .next (
    if !accepts s k then s
    else
      let s := takeCtl s k
      let f := firstSeen s (4, dev, seq)
      if !f.1 ∨ dev.val = devId s then f.2
      else
        let s := flood f.2 (some k) (.candidate dev now seq)
        reelect { s with tick := { s.tick with
          cands := if now then setIns s.tick.cands dev else setDel s.tick.cands dev } })

/-! ### Groups (R207, R209, R210) -/

/-- R207, R209: a hold request for tick `h` reaches this package. -/
def holdArrives (s : State) (gid h : Nat) : State :=
  if s.tick.last < h then markHold s gid h
  else if (memberQ s gid).isSome then
    let s := tickCtr (logAdd s { code := 0x54, src := 9, sev := 2, args := [gid, h] }) 0x140 1
    sendAbort s gid 0x65
  else s

/-- HOLD (R207, R209, R380). -/
def execHoldMsg (k : Fin 64) (gid : Fin 65536) (h : Nat) (origin : Fin 262144) (cause : Nat) (s : State) :
    Host.Outcome State Fault Refusal :=
  .next (
    if !accepts s k then s
    else
      let s := takeCtl s k
      if (slotOf s gid).isNone then s
      else
        let f := firstSeen s (5, gid, h)
        if f.1 then holdArrives (forwardGroup f.2 (some k) gid (.hold gid h origin cause)) gid h else f.2)

/-- ABORT (R210, R380). -/
def execAbortMsg (k : Fin 64) (gid : Fin 65536) (st : Fin 256) (origin : Fin 262144) (s : State) :
    Host.Outcome State Fault Refusal :=
  .next (
    if !accepts s k then s
    else
      let s := takeCtl s k
      if (slotOf s gid).isNone then s
      else
        let f := firstAbort s gid origin
        if f.1 then abortLocal (forwardGroup f.2 (some k) gid (.abort gid st origin)) gid st else f.2)

/-- PERIOD: an announced change arrives and is flooded (R199, R578). -/
def execPeriodMsg (k : Fin 64) (tc sel : Nat) (s : State) : Host.Outcome State Fault Refusal :=
  .next (
    if !accepts s k then s
    else
      let s := takeCtl s k
      let f := firstSeen s (7, tc, 0)
      if !f.1 ∨ 4 < sel then f.2
      else
        let s := flood f.2 (some k) (.period tc sel)
        { s with tick := { s.tick with change := some (tc, sel), adopt := none } })

/-- PARTITION_CLUSTER_RESETS: the clusters of partition `n` under reset run their cluster resets (R478). -/
def execPartitionClusterResets (n : Fin 8) (s : State) : Host.Outcome State Fault Refusal :=
  .next (partClusters s n)

end Sys2Proof.Machine
end

