-- ==== Sys2Proof/Machine/RegWrite.lean ====
section
/-!
DEFINITION. What a write does to every register, and accesses to the register space (spec/17_host_registers.md R521 to
R547).
-/
namespace Sys2Proof.Machine

/-- R522: a nonzero write to reserved bits is recorded. -/
def rsvCheck (s : State) (pg o v rsv : Nat) : State := if Nat.land v rsv = 0 then s else badAccess s pg o

/-- The bits `[hi:lo]` as a mask. -/
def mask (hi lo : Nat) : Nat := (2 ^ (hi + 1 - lo) - 1) * 2 ^ lo

/-- A value without the bits of a mask. -/
def without (v m : Nat) : W64 := BitVec.ofNat 64 (v - Nat.land v m)

/-! ### The HOST page (R536 to R542) -/

/-- R537: HOST.IRQ_STAT, W1C. -/
def irqStatWrite (s : State) (v : Nat) : State :=
  { s with host := { s.host with irqStat := s.host.irqStat &&& ~~~(BitVec.ofNat 8 v) } }

/-- R537: HOST.IRQ_MASK; a cause that is unmasked while set sends one message. -/
def irqMaskWrite (s : State) (v : Nat) : State :=
  let old := s.host.irqMask
  let s := { s with host := { s.host with irqMask := BitVec.ofNat 8 v } }
  forUp 8 (fun b t =>
    if s.host.irqStat.getLsbD b && old.getLsbD b && !v.testBit b then sendMsix t 0 (72 + b) else t) s

/-- R538: HOST.PART_MAP[r]: moves for the next tick, or ignored as a whole. -/
def partMapWrite (s : State) (r v : Nat) : State :=
  let bad := (upTo 8).any (fun i =>
    let b := bits v (8 * i + 7) (8 * i)
    let now := tabGet s.partOf 255 (8 * r + i)
    (decide (8 ≤ b) && b != 255) || (b == 255 && now != 255) || (b != 255 && now == 255))
  if bad || s.pst != .active then writeIgnored s 0 (0x118 + 8 * r)
  else { s with host := { s.host with partPend := tabSet s.host.partPend r (BitVec.ofNat 64 v) } }

/-- R539: HOST.FENCE_MAP[i]: owners and REMOTE bits for the next tick, or ignored as a whole. -/
def fenceMapWrite (s : State) (i v : Nat) : State :=
  let busy (n : Nat) : Bool := s.queues.any (fun e => e.2.st != .disabled && e.2.part == n)
  let bad := (upTo 8).any (fun c =>
    let new := bits v (8 * c + 2) (8 * c)
    let old := (s.fence (8 * i + c)).owner
    new != old && (busy new || busy old))
  let o := 0x138 + 8 * i
  let s := rsvCheck s 0 o v 0xF0F0F0F0F0F0F0F0
  if bad then writeIgnored s 0 o
  else { s with host := { s.host with fencePend := tabSet s.host.fencePend i (without v 0xF0F0F0F0F0F0F0F0) } }

/-- R541: HOST.BAR4_BASE. -/
def bar4BaseWrite (s : State) (v : Nat) : State :=
  let base := bits v 43 30 * 2 ^ 30
  let size := 2 ^ s.host.bar4Log
  let s := rsvCheck s 0 0x238 v (mask 63 44 + mask 29 0)
  if base % size = 0 ∧ base + size ≤ 0x20000000000 then
    { s with host := { s.host with bar4Base := BitVec.ofNat 64 base } }
  else writeIgnored s 0 0x238

/-- R542: HOST.VF_CTX; the byte of an existing VF stays. -/
def vfCtxWrite (s : State) (v : Nat) : State :=
  let s := rsvCheck s 0 0x240 v 0x4040404040404040
  let w := without v 0x4040404040404040
  if (upTo 8).any (fun k => fnExists s (k + 1)
      && bits w.toNat (8 * k + 7) (8 * k) != bits s.host.vfCtx.toNat (8 * k + 7) (8 * k)) then writeIgnored s 0 0x240
  else { s with host := { s.host with vfCtx := w } }

/-- A register of the HOST page. -/
def writeHost (s : State) (o v : Nat) : State :=
  if o = 0x100 then irqStatWrite (rsvCheck s 0 o v (mask 63 8)) v
  else if o = 0x108 then irqMaskWrite (rsvCheck s 0 o v (mask 63 8)) v
  else if o = 0x110 then badAccess s 0 o
  else if o < 0x138 then partMapWrite s ((o - 0x118) / 8) v
  else if o < 0x238 then fenceMapWrite s ((o - 0x138) / 8) v
  else if o = 0x238 then bar4BaseWrite s v
  else if o = 0x240 then vfCtxWrite s v
  else badAccess s 0 o

/-! ### TICK, BRING, BMGT, LOG, NUMX (R226, R280, R281, R486, R488, R515, R516) -/

/-- R200: TICK.CTRL.ELIGIBLE. -/
def tickCtrlWrite (s : State) (v : Nat) : State :=
  let was := selfCand s
  let s := { s with tick := { s.tick with eligible := v.testBit 0 } }
  if selfCand s = was then s else reelect (announce s)

/-- R488: whether the target of a reset or fence request may be named. -/
def scopeOk (s : State) (scope target : Nat) : Bool :=
  s.pst == .active && (match scope with
    | 0 => coreOn s target
    | 1 => decide (target < 32) && (clusterCores target).any (coreOn s)
    | 2 => decide (target < 8) && (upTo 32).any (fun c =>
        tabGet s.partOf 255 c == target && (clusterCores c).any (coreOn s))
    | _ => false)

/-- R474, R488: BRING.RESET: a request for the next tick. -/
def resetWrite (s : State) (v : Nat) : State :=
  let s := rsvCheck s 3 0x110 v (mask 61 8)
  let r : ScopeReq := ⟨bits v 63 62, bits v 7 0⟩
  if scopeOk s r.scope r.target then { s with bring := { s.bring with resets := s.bring.resets ++ [r] } }
  else writeIgnored s 3 0x110

/-- R479, R486: BRING.FENCE: a request for the next tick. -/
def fenceReqWrite (s : State) (v : Nat) : State :=
  let s := rsvCheck s 3 0x118 v (mask 61 8)
  let r : ScopeReq := ⟨bits v 63 62, bits v 7 0⟩
  if r.scope < 2 ∧ scopeOk s r.scope r.target then
    { s with bring := { s.bring with fences := s.bring.fences ++ [r] } }
  else writeIgnored s 3 0x118

/-- R516: LOG.SEL. -/
def logSelWrite (s : State) (v : Nat) : State :=
  let s := rsvCheck s 5 0x110 v (mask 63 32)
  { s with log := { s.log with sel := without v (mask 63 32) } }

/-- R280: NUMX.SCALE_BASE[n]. -/
def scaleBaseWrite (s : State) (n v : Nat) : State :=
  let o := 0x100 + 8 * n
  let rsv := mask 63 44 + mask 22 0
  if s.queues.any (fun e => e.2.st != .disabled && e.2.part == n) then writeIgnored s 6 o
  else
    let s := rsvCheck s 6 o v rsv
    { s with numx := { s.numx with base := tabSet s.numx.base n (without v rsv) } }

/-- R281: NUMX.WISP_CTRL[n]. -/
def wispCtrlWrite (s : State) (n v : Nat) : State :=
  let o := 0x140 + 8 * n
  let rate := bits v 28 24
  let th := bits v 39 32
  let rsv := mask 63 40 + mask 31 29 + mask 23 2
  if rate < 6 ∨ 16 < rate ∨ th < 1 ∨ 24 < th then writeIgnored s 6 o
  else
    let s := rsvCheck s 6 o v rsv
    { s with numx := { s.numx with wisp := tabSet s.numx.wisp n (without v rsv) } }

/-- R321: HUB.XBAR_CFG[d], for the next tick. -/
def xbarWrite (s : State) (d v : Nat) : State :=
  let s := rsvCheck s 8 (0x100 + 8 * d) v (mask 57 44)
  { s with xbar := { s.xbar with pend := tabSet s.xbar.pend d (without v (mask 57 44)) } }

/-! ### The switch (R374, R384, R386) -/

/-- R374: a register of a group slot, for the next tick; COUNT is RO. -/
def fgrpWrite (s : State) (o v : Nat) : State :=
  let put (s : State) (w : W64) : State := { s with fab := { s.fab with slotPend := tabSet s.fab.slotPend o w } }
  match (o - 0x100) % 32 with
  | 0 => put (rsvCheck s 0xC o v (mask 45 0)) (without v (mask 62 62 + mask 45 0))
  | 8 => put s (BitVec.ofNat 64 v)
  | 16 => put s (BitVec.ofNat 64 v)
  | _ => badAccess s 0xC o

/-- R384: a register of a fabric window. -/
def cwinWrite (s : State) (o v : Nat) : State :=
  let rsv :=
    if 0x500 ≤ o then mask 63 50 + mask 31 18
    else if o % 16 = 0 then mask 60 44 + mask 15 0 else mask 63 44 + mask 15 0
  let s := rsvCheck s 0xE o v rsv
  { s with fab := { s.fab with cwin := tabSet s.fab.cwin o (without v rsv) } }

/-- R386: an entry of RTL or of an RTG page. -/
def rtgWrite (s : State) (i o v : Nat) : State :=
  match rtgEntry i o with
  | some h => { s with fab := { s.fab with rtg := tabSet s.fab.rtg h (BitVec.ofNat 64 v) } }
  | none => badAccess s (0x1C + i) o

/-- R353: LINK.MON_CFG. -/
def monCfgWrite (s : State) (l v : Nat) : State :=
  let s := rsvCheck s (linkPage l) 0x110 v (mask 63 16)
  if bits v 15 0 = 0 then writeIgnored s (linkPage l) 0x110
  else s.setLink l { s.link l with thresh := bits v 15 0 }

/-- R540: FENCE.CNT[i]: a fence signal at once. -/
def fenceCntWrite (s : State) (i v : Nat) : State :=
  fenceRaise (rsvCheck s 0xF (0x100 + 8 * i) v (mask 63 38)) i (bits v 37 0)

/-! ### Translation contexts (R545, R546) -/

/-- The register page of context `c`. -/
def xlatPage (c : Nat) : Nat := 0x30 + c

/-- R545: XLAT.ROOT. -/
def rootWrite (s : State) (c v : Nat) : State :=
  let rsv := mask 62 44 + mask 11 0
  let t := bits v 43 12 * 4096
  let inHome := hbmOk s t && !lateDie s t && hbmOk s (t + 4095)
  let s := rsvCheck s (xlatPage c) 0x100 v rsv
  if ctxInUse s c || (v.testBit 63 && !inHome) then writeIgnored s (xlatPage c) 0x100
  else s.setCtx c { s.ctx c with root := without v rsv }

/-- R546: whether a leaf of a context meets the range that an invalidation names. -/
def invHits (c : Nat) (v : Nat) (l : Leaf) : Bool :=
  let dva := bits v 47 16 * 65536
  let z := match bits v 2 0 with | 0 => 2 ^ 16 | 1 => 2 ^ 21 | 2 => 2 ^ 30 | _ => 2 ^ 48
  let a := dva / z * z
  l.ctx == c && decide (a < l.va + l.size) && decide (l.va < a + z)

/-- The engines, as 2 p + e, that wait for a walk of context `c`. -/
def walkers (s : State) (c : Nat) : List Nat :=
  let of (p e : Nat) (x : HEng) : List Nat :=
    match x.walk, x.run with
    | some _, some r => if (s.queue r.ref.q).ctxNo = c then [2 * p + e] else []
    | _, _ => []
  s.cores.flatMap (fun (k : Nat × Core) => of k.1 0 k.2.heron.h0 ++ of k.1 1 k.2.heron.h1)

/-- R546: XLAT.INV: an invalidation starts, or is ignored while one is pending. -/
def invWrite (s : State) (c v : Nat) : State :=
  let x := s.ctx c
  let s := rsvCheck s (xlatPage c) 0x108 v (mask 63 48 + mask 15 3)
  if x.inv.isSome ∨ 4 ≤ bits v 2 0 then writeIgnored s (xlatPage c) 0x108
  else s.setCtx c { x with inv := some (BitVec.ofNat 64 v), walks := walkers s c }

/-- R546: the pending invalidation completes once every walk that started before it has ended: no TLB keeps a leaf in
its range. -/
def invComplete (s : State) (c : Nat) : State :=
  let x := s.ctx c
  match x.inv with
  | none => s
  | some v =>
    if (walkers s c).any (fun k => x.walks.contains k) then s
    else
      let s := { s with cores := s.cores.map (fun (k : Nat × Core) =>
        (k.1, { k.2 with heron := { k.2.heron with tlb := k.2.heron.tlb.filter (fun l => !invHits c v.toNat l) } })) }
      s.setCtx c { x with inv := none, walks := [], done := x.done + 1 }

/-! ### Queues and ports -/

/-- R527, R528: the properties of a queue are written only while it is Disabled. -/
def queueProp (s : State) (q o v rsv : Nat) (f : Queue → W64 → Queue) : State :=
  let x := s.queue q
  if x.st ≠ .disabled ∨ x.draining then writeIgnored s (queuePage q) o
  else (rsvCheck s (queuePage q) o v rsv).setQueue q (f x (without v rsv))

/-- A register of a QUEUE page. -/
def writeQueue (s : State) (q o v : Nat) : State :=
  match o with
  | 0x100 => queueProp s q o v (mask 20 16) (fun x w => { x with ctrl := w })
  | 0x108 =>
    let s := rsvCheck s (queuePage q) o v (mask 63 1)
    if v.testBit 0 then enableQueue s q else disableQueue s q
  | 0x110 => queueProp s q o v (mask 63 48 + mask 5 0) (fun x w => { x with ring := w })
  | 0x118 => queueProp s q o v (mask 63 48 + mask 5 0) (fun x w => { x with cring := w })
  | 0x120 => queueProp s q o v 0 (fun x w => { x with origin := w })
  | 0x128 =>
    let s := rsvCheck s (queuePage q) o v (mask 63 16)
    s.setQueue q { s.queue q with irq := without v (mask 63 16) }
  | _ => badAccess s (queuePage q) o

/-- R375: an entry of a port's shadow schedule. -/
def schedWrite (s : State) (k o v : Nat) : State :=
  let s := rsvCheck s (0x240 + k) o v (mask 7 0)
  s.setPort k { s.port k with shadow := tabSet (s.port k).shadow ((o - 0x100) / 8) (without v (mask 7 0)) }

/-! ### Page headers and injection (R525) -/

/-- R525: a parity error in a page's first block register: a register that holds a value of its own returns to its reset
value; one that shows the state of its unit shows it again. The AGT is updated where it shows the register (R35). -/
def regParity (s : State) (b : Block) (pg : Nat) : State :=
  let i := pg - b.page
  let old := s
  let s := match b.type with
    | 1 => { s with host := { s.host with irqStat := 0 } }
    | 3 => withLimit s { s.pwr with next := none, capW := partTdp s.partNo, hintEn := true, opMax := 15 }
    | 7 => { s with numx := { s.numx with base := tabErase s.numx.base 0 } }
    | 9 => { s with xbar := { s.xbar with cfg := tabErase s.xbar.cfg 0, pend := tabErase s.xbar.pend 0 } }
    | 0xA => { s with dirCtr := tabErase s.dirCtr 0x100 }
    | 0xB => { s with ce := { s.ce with reg := tabErase s.ce.reg 0x100, pend := tabErase s.ce.pend 0x100 } }
    | 0xC => { s with fab := { s.fab with cfg := 0xC40040641 } }
    | 0xD => { s with fab := { s.fab with
        slots := tabSet s.fab.slots 0 { tabGet s.fab.slots {} 0 with slot := 0 }
        slotPend := tabErase s.fab.slotPend 0x100 } }
    | 0xE => { s with fab := { s.fab with rtl := tabErase s.fab.rtl 0 } }
    | 0xF => { s with fab := { s.fab with cwin := tabErase s.fab.cwin 0x100 } }
    | 0x10 => s.setFence 0 { s.fence 0 with val := 0 }
    | 0x12 => s.setGuest i { s.guest i with ctrl := 0 }
    | 0x13 => { s with fab := { s.fab with rtg := tabErase s.fab.rtg (480 * i) } }
    | 0x14 => s.setCtx i { s.ctx i with root := 0 }
    | 0x15 => s.setQueue i { s.queue i with ctrl := 0 }
    | 0x17 => s.setPort i { s.port i with shadow := tabErase (s.port i).shadow 0 }
    | _ => s
  pageErr (if s.pwr.capW = old.pwr.capW ∧ s.pwr.curOp = old.pwr.curOp ∧ devId s = devId old then s
    else agtUpdate s (fun a => a)) pg 3 0x100

/-- R525: errors injected into an enabled core, by the bits of PAGE_ERR_INJECT. -/
def injectCore (s : State) (p v : Nat) : State :=
  if !coreOn s p then s
  else
    let c := s.core p
    let r := c.ras
    s.setCore p { c with ras := { r with
      injMxa := r.injMxa || v.testBit 8, injVe := r.injVe || v.testBit 9
      injDrain := r.injDrain || v.testBit 10, injCs := r.injCs || v.testBit 11 } }

/-- R525: PAGE_ERR_INJECT of a page. -/
def injectWrite (s : State) (b : Block) (pg v : Nat) : State :=
  let s := if b.type = 0x18 then injectCore s (pg - b.page) v else s
  if v.testBit 3 then regParity s b pg else s

/-- A header register. -/
def writeHeader (s : State) (b : Block) (pg o v : Nat) : State :=
  match o with
  | 0x020 =>
    let s := rsvCheck s pg o v (mask 51 5)
    s.setPage pg { s.page pg with err := (s.page pg).err &&& ~~~(BitVec.ofNat 5 v) }
  | 0x028 =>
    let s := rsvCheck s pg o v (mask 63 5)
    s.setPage pg { s.page pg with mask := BitVec.ofNat 5 v }
  | 0x030 => injectWrite (rsvCheck s pg o v (mask 63 12 + mask 7 4 + mask 2 0)) b pg v
  | _ => badAccess s pg o

/-! ### Any register -/

/-- A block register of a page that is present; `dt` ns have passed since the last tick. -/
def writeBlock (s : State) (dt : Nat) (b : Block) (pg o v : Nat) : State :=
  let i := pg - b.page
  match b.type, o with
  | 1, _ => writeHost s o v
  | 2, 0x118 => periodRequest s v dt
  | 2, 0x120 => tickCtrlWrite (rsvCheck s pg o v (mask 63 1)) v
  | 3, 0x100 => pwrCtrlWrite s v
  | 3, 0x110 => stateReqWrite s v
  | 4, 0x110 => resetWrite s v
  | 4, 0x118 => fenceReqWrite s v
  | 5, 0x108 =>
    let s := rsvCheck s pg o v (mask 63 1)
    if v.testBit 0 then handOver s 3 else s
  | 6, 0x110 => logSelWrite s v
  | 7, _ => if o < 0x140 then scaleBaseWrite s ((o - 0x100) / 8) v
    else if o < 0x180 then wispCtrlWrite s ((o - 0x140) / 8) v else badAccess s pg o
  | 9, _ => if o < 0x158 then xbarWrite s ((o - 0x100) / 8) v else badAccess s pg o
  | 0xB, _ => if o < 0x700 then memberWrite s ((o - 0x100) / 16) ((o - 0x100) % 16 == 8) v else badAccess s pg o
  | 0xC, 0x100 => fabCfgWrite s v
  | 0xD, _ => fgrpWrite s o v
  | 0xE, _ => { s with fab := { s.fab with rtl := tabSet s.fab.rtl ((o - 0x100) / 8) (BitVec.ofNat 64 v) } }
  | 0xF, _ => cwinWrite s o v
  | 0x10, _ => fenceCntWrite s ((o - 0x100) / 8) v
  | 0x11, 0x110 => monCfgWrite s i v
  | 0x12, 0x100 => guestCtrlWrite s i v
  | 0x13, _ => rtgWrite s i o v
  | 0x14, 0x100 => rootWrite s i v
  | 0x14, 0x108 => invWrite s i v
  | 0x15, _ => writeQueue s i o v
  | 0x16, 0x108 => sendAllDirect (portCtrlWrite (rsvCheck s pg o v (mask 63 3)) i v)
  | 0x17, _ => schedWrite s i o v
  | _, _ => badAccess s pg o

/-- A write of one whole 64-bit register. -/
def regPut (s : State) (dt pg o v : Nat) : State :=
  match pageBlock pg with
  | none => s
  | some b =>
    if o < 0x100 then writeHeader s b pg o v
    else if !pagePresent s b (pg - b.page) then writeIgnored s pg o
    else if b.extent ≤ o then badAccess s pg o
    else writeBlock s dt b pg o v

/-! ### MSI-X tables (R517, R547) -/

/-- Four bytes of a function's MSI-X table, or of its PBA. -/
def msixWord (s : State) (f w : Nat) : Nat :=
  if w < 0x400 then
    if msixSize f ≤ w / 4 then 0
    else
      let e := tabGet s.host.msix {} (f * 128 + w / 4)
      match w % 4 with
      | 0 => e.addr.toNat % 2 ^ 32 | 1 => e.addr.toNat / 2 ^ 32 | 2 => e.data.toNat | _ => b2n e.masked
  else packElems 1 ((upTo 32).map (fun k =>
    let v := 32 * (w - 0x400) + k
    b2n (decide (v < msixSize f) && (tabGet s.host.msix {} (f * 128 + v)).pending)))

/-- A 32-bit write to a function's MSI-X table; unmasking an entry with its pending bit set sends its message. -/
def msixPut (s : State) (f w v : Nat) : State :=
  if msixSize f ≤ w / 4 ∨ 0x400 ≤ w then s
  else
    let k := f * 128 + w / 4
    let e := tabGet s.host.msix {} k
    let put (s : State) (x : Msix) : State := { s with host := { s.host with msix := tabSet s.host.msix k x } }
    match w % 4 with
    | 0 => put s { e with addr := BitVec.ofNat 64 (putBits e.addr.toNat 31 0 v) }
    | 1 => put s { e with addr := BitVec.ofNat 64 (putBits e.addr.toNat 63 32 v) }
    | 2 => put s { e with data := BitVec.ofNat 32 v }
    | _ =>
      if v.testBit 0 then put s { e with masked := true }
      else
        let s := put s { e with masked := false, pending := false }
        if e.masked && e.pending then sendMsix s f (w / 4) else s

/-! ### Accesses to the register space (R521 to R524, R533) -/

/-- Where an offset of the register space leads: the AGT, an MSI-X table, a register page, a doorbell page or nothing. -/
inductive RegSpace where
  | agt (o : Nat)
  | msix (w : Nat)
  | page (pg o : Nat)
  | bell (q o : Nat)
  | unmapped
  deriving DecidableEq, Repr

/-- R520, R521, R526. -/
def regSpace (ofs : Nat) : RegSpace :=
  if 0x3FF0000 ≤ ofs ∧ ofs < 0x3FF1000 then .agt (ofs - 0x3FF0000)
  else if 0x3FE0000 ≤ ofs ∧ ofs < 0x3FE2000 then .msix ((ofs - 0x3FE0000) / 4)
  else if 0x4000000 ≤ ofs ∧ ofs < 0x4040000 then .bell ((ofs - 0x4000000) / 4096) (ofs % 4096)
  else if ofs < 0x4000000 ∧ (pageBlock (ofs / 4096)).isSome then .page (ofs / 4096) (ofs % 4096)
  else .unmapped

/-- R524: whether function `f` sees a page. -/
def seesPage (s : State) (f pg : Nat) : Bool :=
  f == 0 || (decide (0x100 ≤ pg) && decide (pg < 0x140) && (s.queue (pg - 0x100)).func == f)

/-- A doorbell register as function `f` reads it (R533, R534). -/
def bellGet (s : State) (f q o : Nat) : Nat :=
  let x := s.queue q
  if x.func ≠ f then 0
  else match o with | 0 => x.sqTail.toNat | 8 => x.cqHead.toNat | _ => 0

/-- A doorbell register written by function `f`. -/
def bellPut (s : State) (f q o v : Nat) : State :=
  match o with
  | 0 => sqTailWrite (doorbellRsv s q 0 v) f q v
  | 8 => cqHeadWrite (doorbellRsv s q 8 v) f q v
  | _ => if (s.queue q).func = f then badAccess s (queuePage q) o else foreignWrite s (queuePage q) o

/-- R522: an aligned run of whole 32-bit halves inside one page. -/
def runOk (o n : Nat) : Bool := n != 0 && n % 4 == 0 && o % n == 0 && decide (o + n ≤ 4096)

/-- A run of registers read as bytes, each register once. -/
def runBytes (get : Nat → Nat) (o n : Nat) : List Byte :=
  let a := o / 8 * 8
  (((upTo ((o + n + 7 - a) / 8)).flatMap (fun k => toLE 8 (get (a + 8 * k)))).drop (o - a)).take n

/-- A read of `n` bytes at an offset of the register space by function `f`. -/
def spaceRead (s : State) (dt f ofs n : Nat) : State × List Byte :=
  let zero := List.replicate n (0 : Byte)
  match regSpace ofs with
  | .agt o => (s, agtBytes s o n)
  | .msix w => if ofs % 4 = 0 ∧ n % 4 = 0 then (s, (upTo (n / 4)).flatMap (fun k => toLE 4 (msixWord s f (w + k)))) else (s, zero)
  | .unmapped => (s, zero)
  | .page pg o =>
    if !seesPage s f pg then (s, zero)
    else if !runOk o n then (badAccess s pg o, zero)
    else (s, runBytes (regGet s dt pg) o n)
  | .bell q o =>
    if (s.queue q).func ≠ f then (s, zero)
    else if !runOk o n then (badAccess s (queuePage q) o, zero)
    else (s, runBytes (bellGet s f q) o n)

/-- The registers that a write of bytes touches: the offset of each, with its value where it is covered whole. -/
def runRegs (o : Nat) (bs : List Byte) : List (Nat × Option Nat) :=
  let n := bs.length
  (upTo ((o + n + 7) / 8 - o / 8)).map (fun k =>
    let r := (o / 8 + k) * 8
    if o ≤ r ∧ r + 8 ≤ o + n then (r, some (ofLE ((bs.drop (r - o)).take 8))) else (r, none))

/-- R524: function `f` writes one register of a page that it sees. -/
def regPutBy (s : State) (dt f pg r v : Nat) : State :=
  if f = 0 ∨ r = 0x108 ∨ r = 0x128 then regPut s dt pg r v else foreignWrite s pg r

/-- A write of bytes at an offset of the register space by function `f`. -/
def spaceWrite (s : State) (dt f ofs : Nat) (bs : List Byte) : State :=
  let n := bs.length
  if n = 0 then s
  else match regSpace ofs with
  | .agt _ => pageErr s 0 4 0
  | .msix w =>
    if ofs % 4 = 0 ∧ n % 4 = 0 then
      forUp (n / 4) (fun k t => msixPut t f (w + k) (ofLE ((bs.drop (4 * k)).take 4))) s
    else s
  | .unmapped => hostCtr s 0x248 1
  | .page pg o =>
    if !seesPage s f pg then foreignWrite s pg o
    else if 4096 < o + n then badAccess s pg o
    else (runRegs o bs).foldl (fun t e => match e.2 with
      | some v => regPutBy t dt f pg e.1 v
      | none => badAccess t pg e.1) s
  | .bell q o =>
    if 4096 < o + n then badAccess s (queuePage q) o
    else (runRegs o bs).foldl (fun t e => match e.2 with
      | some v => bellPut t f q e.1 v
      | none => badAccess t (queuePage q) e.1) s

end Sys2Proof.Machine
end

