-- ==== Sys2Proof/Machine/HeronOps.lean ====
section
/-!
DEFINITION. What the Heron engines share: the items of a stream, delivery with poison, faults and completion
(spec/05_core_memory_gather.md R156 to R186; spec/11_hub_die_links.md R341).
-/
namespace Sys2Proof.Machine

/-! ### The stream (R158 to R161) -/

/-- The far side of run `k` of a strided command. -/
def strideFar (r : Rec) (k : Nat) : Int :=
  let c1 := r.f 327 312
  let c2 := r.f 343 328
  (r.hFar : Int) + (k % c1 : Nat) * sext 48 (r.f 407 360) + (k / c1 % c2 : Nat) * sext 48 (r.f 455 408)
    + (k / c1 / c2 : Nat) * sext 48 (r.f 503 456)

/-- What comes next in a stream: bytes to move; a skipped element, an element whose index is poisoned, the end of a
segment and a segment whose entry is poisoned, with their near bytes; a stop; the end. `dropped` counts the elements
beyond SEG_CAP. -/
inductive HItem where
  | move (far : Int) (near len : Nat)
  | skip (near len : Nat)
  | lost (near len : Nat)
  | segEnd (near len dropped : Nat)
  | segLost (near len : Nat)
  | stop (st : Nat)
  | done
  deriving DecidableEq, Repr

/-- The element of index-list entry `k` with near offset `near` (R159). -/
def indexItem (s : State) (p : Nat) (r : Rec) (k near : Nat) : HItem :=
  let a := csAddr p (r.hIdxBase + 4 * k)
  let x := readLE s a 4
  if rangeBad s a 4 then .lost near r.hESize
  else if x = 0xFFFFFFFF then .skip near r.hESize
  else .move (r.hFar + x * r.hEStride : Nat) near r.hESize

/-- The item at a place of the stream. -/
def heronItem (s : State) (p : Nat) (r : Rec) (c : HCur) : HItem :=
  let pitch := if r.hPitch = 0 then r.hSize else r.hPitch
  match r.hMode with
  | 0 => if c.pos < r.hRuns then .move (strideFar r c.pos) (r.hNear + c.pos * pitch) r.hRun else .done
  | 1 => if c.pos < r.hIdxCount then indexItem s p r c.pos (r.hNear + c.pos * pitch) else .done
  | _ =>
    if r.hSegCount ≤ c.seg then .done
    else
      let a := csAddr p (r.hSegBase + 8 * c.seg)
      let slot := r.hNear + c.seg * r.hSegPitch
      let first := readLE s a 4
      let len := readLE s (a + 4) 4
      let n := min len r.hSegCap
      if rangeBad s a 8 then .segLost slot (r.hSegCap * r.hESize)
      else if r.hIdxCount < first + len then .stop 0x16
      else if c.pos < n then indexItem s p r (first + c.pos) (slot + c.pos * r.hESize)
      else .segEnd (slot + n * r.hESize) ((r.hSegCap - n) * r.hESize) (len - n)

/-- The place after a whole run or element. -/
def HCur.next (c : HCur) : HCur := { c with pos := c.pos + 1, ofs := 0, num := c.num + 1 }
/-- The first place of the next segment. -/
def HCur.nextSeg (c : HCur) : HCur := { c with seg := c.seg + 1, pos := 0, ofs := 0 }

/-- The poison units of the table entries that are read for the item at a place: a segment's entry with its first item,
an index-list entry with its element. -/
def entryUnits (s : State) (p : Nat) (r : Rec) (c : HCur) (it : HItem) : List Nat :=
  let a := csAddr p (r.hSegBase + 8 * c.seg)
  let k := if r.hMode = 1 then c.pos else readLE s a 4 + c.pos
  let elem := match it with | .move _ _ _ => true | .skip _ _ => true | .lost _ _ => true | _ => false
  (if r.hMode = 2 && c.pos == 0 && it != .done then unitsOf a 8 else [])
    ++ (if r.hMode != 0 && elem then unitsOf (csAddr p (r.hIdxBase + 4 * k)) 4 else [])

/-- R161: a far-side run lies in the declared region. -/
def regionOk (r : Rec) (far : Int) (n : Nat) : Bool := decide ((r.hLo : Int) ≤ far) && decide (far + n ≤ r.hHi)

/-! ### The running command -/

/-- The state with the running command of an engine changed. -/
def mapRun (s : State) (p e : Nat) (f : HRun → HRun) : State :=
  let x := s.heng p e
  match x.run with
  | none => s
  | some h => s.setHeng p e { x with run := some (f h) }

/-- R165: a demand fault stops the command; of several the first in stream order is reported. -/
def heronFault (s : State) (p e st num : Nat) : State :=
  let s := mapRun s p e (fun h => { h with
    fault := match h.fault with
      | some f => if f.2 ≤ num then some f else some (st, num)
      | none => some (st, num) })
  s.setHeng p e { s.heng p e with st := 3 }

/-- R545: a demand fault of translation or permission is counted by its context. -/
def heronXlatFault (s : State) (p e st num ctx : Nat) : State := heronFault (ctxCtr s ctx 0x120 1) p e st num

/-- R164, R165, R169: an engine's command is over when nothing of it is outstanding and nothing is left to issue. -/
def heronCheck (s : State) (p e : Nat) : State :=
  let x := s.heng p e
  match x.run with
  | none => s
  | some h =>
    match findRec s h.ref with
    | none => s
    | some r =>
      let waits := s.cores.any (fun (c : Nat × Core) =>
        c.2.heron.flight.any (fun f => f.ref == h.ref || f.watch.contains h.ref))
      let done := if r.isPf then h.fault.isSome || (h.pfEnd && !waits)
        else h.out.isEmpty && (h.allIssued || h.fault.isSome)
      if done then heronKick (heronOver s p e (if h.fault.isSome then 3 else 0) r.isPf h) p e else s

/-- A demand request with nothing left to deliver or acknowledge is complete (R186). -/
def heronRetire (s : State) (p e id : Nat) : State :=
  match (s.heng p e).run with
  | none => s
  | some h =>
    match h.out.find? (fun q => q.id == id) with
    | none => s
    | some q =>
      if q.segs.isEmpty then
        let s := mapRun s p e (fun h => { h with out := h.out.filter (fun q => q.id != id), bytes := h.bytes + q.total })
        heronCheck (coreCtr s p 0x190 q.total) p e
      else s

/-- The outstanding demand request of an identity. -/
def findReq (s : State) (w : ReqId) : Option (HRun × HReq) :=
  match (s.heng w.p w.eng).run with
  | none => none
  | some h => (h.out.find? (fun q => q.id == w.id)).map (fun q => (h, q))

/-- The state with a demand request's pieces filtered. -/
def keepSegs (s : State) (w : ReqId) (keep : HSeg → Bool) : State :=
  mapRun s w.p w.eng (fun h => { h with
    out := h.out.map (fun q => if q.id == w.id then { q with segs := q.segs.filter keep } else q) })

/-! ### Delivery to the core store (R164, R181 to R184) -/

/-- Bytes on their way to a core-store offset from one source word, and whether they are poisoned. -/
structure Chunk where
  far : Nat
  near : Nat
  data : List Byte
  bad : Bool
  deriving DecidableEq, Repr

/-- The parts of a piece that come from one source word each: far address and length. -/
def wordParts (a n : Nat) : List (Nat × Nat) :=
  if n = 0 then []
  else (upTo ((a + n - 1) / 8 - a / 8 + 1)).map (fun k =>
    let w := (a / 8 + k) * 8
    (max a w, min (a + n) (w + 8) - max a w))

/-- Chunks reach the core store: valid bytes that adjoin form one store, poisoned ones poison the words they reach; the
lines and words that come poisoned are counted (R167, R183, R186). -/
def heronDeliver (s : State) (p e : Nat) (cs : List Chunk) : State :=
  let s := writeRuns s ((cs.filter (fun c => !c.bad)).map (fun c => (csAddr p c.near, c.data)))
  let bs := cs.filter (fun c => c.bad)
  let s := bs.foldl (fun t c => writeMem t (csAddr p c.near) c.data true) s
  let lines := (bs.map (fun c => c.far / 64)).eraseDups.length
  let words := (bs.map (fun c => c.far / 8)).eraseDups.length
  mapRun (coreCtr s p 0x1E0 words) p e (fun h => { h with poisLines := h.poisLines + lines })

/-- The chunks of pieces whose source is memory at this instant. -/
def memChunks (s : State) (segs : List HSeg) : List Chunk :=
  segs.flatMap (fun g => (wordParts g.far g.len).map (fun w =>
    { far := w.1, near := g.near + (w.1 - g.far), data := readBytes s w.1 w.2, bad := rangeBad s w.1 w.2 }))

/-- The chunks of pieces whose source is a run of bytes from `base`, with a poison test by address. -/
def dataChunks (base : Nat) (data : List Byte) (bad : Nat → Bool) (segs : List HSeg) : List Chunk :=
  segs.flatMap (fun g => (wordParts g.far g.len).map (fun w =>
    { far := w.1, near := g.near + (w.1 - g.far), data := (upTo w.2).map (fun i => data.getD (w.1 - base + i) 0)
      bad := bad w.1 }))

/-- The pieces of a request that `take` accepts are delivered as chunks, and the request completes when it was the
last. -/
def deliverSegs (s : State) (w : ReqId) (take : HSeg → Bool) (mk : State → List HSeg → List Chunk) : State :=
  match findReq s w with
  | none => s
  | some (_, q) =>
    if q.wr then s
    else
      let s := heronDeliver s w.p w.eng (mk s (q.segs.filter take))
      heronRetire (keepSegs s w (fun g => !take g)) w.p w.eng w.id

/-- Whether a piece lies in a line. -/
def HSeg.inLine (g : HSeg) (l : Nat) : Bool := g.far / 64 == l / 64

/-- The bytes of a line arrive for a request that waits for them. -/
def deliverLine (s : State) (w : ReqId) (l : Nat) (data : List Byte) (bad : List Bool) : State :=
  deliverSegs s w (fun g => g.inLine l) (fun _ gs => dataChunks l data (fun a => bad.getD ((a - l) / 8) false) gs)

/-- Detection over the sources of pieces (R184). -/
def detectSegs (s : State) (segs : List HSeg) : State := segs.foldl (fun t g => detect t g.far g.len) s

/-- A line as its home reads it: its bytes and the poison of its words. -/
def readLine (s : State) (l : Nat) : State × List Byte × List Bool :=
  let s := detect s l 64
  (s, readBytes s l 64, (upTo 8).map (fun k => rangeBad s (l + 8 * k) 8))

/-! ### Guest windows and discarded writes (R332, R341, R385) -/

/-- R341: the first access of a command that a site's window refuses or answers with an error is logged. -/
def guestWindowErr (s : State) (p e g a : Nat) : State :=
  match (s.heng p e).run with
  | none => s
  | some h =>
    if h.guestErr then s
    else
      let s := mapRun s p e (fun h => { h with guestErr := true })
      logAdd s { code := 0x60, inst := g, src := 6, sev := 1, args := [a, h.ref.q] }

/-- R332, R385: the first write of a command that is discarded is logged. -/
def heronDiscard (s : State) (p e a : Nat) : State :=
  match (s.heng p e).run with
  | none => s
  | some h =>
    if h.discard then s
    else
      let s := mapRun s p e (fun h => { h with discard := true })
      logAdd s { code := 0x44, inst := 0, src := 9, sev := 2, args := [a, h.ref.q] }

/-- R349: a line's home carries out a write of request `req`: it stores the bytes and drops the staging copies of its cores,
and while the line's filter counter is not zero asks K to invalidate the remote copies; the second component says whether
the acknowledgement waits for that. -/
def homeStore (s : State) (req : Option ReqId) (a : Nat) (bs : List Byte) (bad : Bool) : State × Bool :=
  let l := a / 64 * 64
  let d := homeDie l
  let s := storeBytes s a bs bad
  let s := s.cores.foldl (fun u (c : Nat × Core) => if c.1 / 64 = d then unstage u c.1 l else u) s
  if tabGet (s.die d).filter 0 (filterIdx l) = 0 then (s, false)
  else (sendMsg { s with homeWr := s.homeWr ++ [⟨req, l⟩] } { mtype := 6, line := l, die := d, toK := true }, true)

/-! ### The staging buffer and the remote cache (R168, R172, R173) -/

/-- R173: the set of a line in a remote cache. -/
def rcSet (l : Nat) : Nat := (l / 64) % 131072

/-- R173, R348: a line is installed in die `d`'s remote cache, marked as an unused prefetch of a core and a queue where
`pf` says so; a line that a demand brought first takes that mark. A full set loses one of its lines but the most recently
used (notes/assumptions/24.md), of which K is sent EVICT_NOTE. -/
def installLine (s : State) (d l : Nat) (pf : Option (Nat × Nat)) : State :=
  let x := s.die d
  if x.rc.any (fun y => y.addr == l) then
    s.setDie d { x with rc := x.rc.map (fun y => if y.addr == l && y.pf.isNone then { y with pf := pf } else y) }
  else
    let set := x.rc.filter (fun y => rcSet y.addr == rcSet l)
    let s :=
      if set.length < 12 then s
      else
        let c := drawChoice s (set.length - 1)
        let v := set.getD c.1 ⟨0, none⟩
        sendMsg (uncache c.2 d v.addr) { mtype := 9, line := v.addr, die := d, flag := v.pf.isSome }
    let x := s.die d
    s.setDie d { x with rc := x.rc ++ [⟨l, pf⟩] }

/-- R168: a line enters the staging buffer of its core, which holds 2,048 lines and drops the oldest. -/
def stageLine (s : State) (p l q : Nat) (used : Bool) : State :=
  let h := (s.core p).heron
  let s := if h.stage.length < 2048 then s
    else match h.stage with
      | x :: _ => unstage s p x.addr
      | [] => s
  let h := (s.core p).heron
  s.setCore p { s.core p with heron := { h with stage := h.stage ++ [⟨l, used, q⟩] } }

/-- R172: the outcome ON_TIME of a line that core `p` prefetched for queue `q`. -/
def countOnTime (s : State) (p q : Nat) : State := queueCtr (coreCtr s p 0x1A8 1) q 0x168 1

/-- R172: a demand of core `p` uses a staged line. -/
def useStaged (s : State) (p l : Nat) : State :=
  let h := (s.core p).heron
  match h.stage.find? (fun x => x.addr == l) with
  | none => s
  | some x =>
    if x.used then s
    else
      let st := h.stage.map (fun y => if y.addr == l then { y with used := true } else y)
      countOnTime (s.setCore p { s.core p with heron := { h with stage := st } }) p x.queue

/-- R172: a demand of a core of die `d` uses a cached line, which becomes the most recently used. -/
def useCached (s : State) (d l : Nat) : State :=
  let x := s.die d
  match x.rc.find? (fun y => y.addr == l) with
  | none => s
  | some y =>
    let s := s.setDie d { x with rc := x.rc.filter (fun z => !(z.addr == l)) ++ [{ y with pf := none }] }
    match y.pf with
    | none => s
    | some (p, q) => countOnTime s p q

/-- R173: the copy of a line that core `p` reads, staged or in its die's remote cache, is found uncorrectable. -/
def loseCopy (s : State) (p l : Nat) : State := uncache (unstage (coreCtr s p 0x1D8 1) p l) (p / 64) l

/-- The core whose prefetch of a line is in flight and that a demand of core `p` can merge with: its own for a line of
its die, any of its die for a line of another die. -/
def flightOf (s : State) (p l : Nat) : Option Nat :=
  let own := (s.core p).heron.flight.any (fun f => f.addr == l)
  if own then some p
  else if homeDie l = p / 64 then none
  else (upTo 64).find? (fun i => (s.core (p / 64 * 64 + i)).heron.flight.any (fun f => f.addr == l)) |>.map (fun i => p / 64 * 64 + i)

/-- R172: a demand merges with a prefetch in flight; the first to do so makes its outcome LATE. -/
def mergeFlight (s : State) (k l : Nat) (w : ReqId) : State :=
  let h := (s.core k).heron
  match h.flight.find? (fun f => f.addr == l) with
  | none => s
  | some f =>
    let s := s.setCore k { s.core k with heron := { h with
      flight := h.flight.map (fun g => if g.addr == l then { g with waiters := g.waiters ++ [w] } else g) } }
    if f.waiters.isEmpty then queueCtr (coreCtr s k 0x1B0 1) f.ref.q 0x170 1 else s

/-- A prefetched line of core `k` arrives: it is staged or cached (`keep`), its waiting demands are served, and the
command that named it advances (R169, R172). -/
def fillPrefetch (s : State) (k l : Nat) (keep : Bool) (data : List Byte) (bad : List Bool) : State :=
  let h := (s.core k).heron
  match h.flight.find? (fun f => f.addr == l) with
  | none => s
  | some f =>
    let s := s.setCore k { s.core k with heron := { h with flight := h.flight.filter (fun g => g.addr != l) } }
    let used := !f.waiters.isEmpty
    let s :=
      if f.remote then
        if keep then installLine s (k / 64) l (if used then none else some (k, f.ref.q))
        else if used then s else queueCtr (coreCtr s k 0x1B8 1) f.ref.q 0x178 1
      else stageLine s k l f.ref.q used
    let s := f.waiters.foldl (fun t w => deliverLine t w l data bad) s
    let s := mapRun s k f.eng (fun x => if x.ref = f.ref ∧ (keep ∨ !f.remote) then { x with pfDone := x.pfDone + 1 } else x)
    heronCheck s k f.eng

end Sys2Proof.Machine
end

