-- ==== Sys2Proof/Machine/Heron.lean ====
section
/-!
DEFINITION. The meanings of the Heron commands and of what the engines do with them (spec/05_core_memory_gather.md R154
to R186; spec/07_command_reference.md R245, R246).
-/
namespace Sys2Proof.Machine

/-! ### Dispatch -/

/-- R157, R245, R246: the fields of a Heron record that no mode allows. -/
def heronFields (r : Rec) (pf : Bool) : Bool :=
  let m := r.hMode
  r.b 287 || r.hEngine == 3 || decide (32 < r.hDepth) || m == 3
    || (!r.hFab && r.hDev != 0) || r.hHi % 64 != 0 || r.hLo % 64 != 0 || decide (r.hHi < r.hLo)
    || (r.hFab && decide (2 ^ 44 ≤ r.hFar)) || (r.hZero && (m == 0 || r.hDir))
    || (pf && (r.hDir || r.hFab || r.hDev != 0 || r.hNear != 0 || r.hPitch != 0 || r.hZero || r.hDepth != 0))
    || (r.hPitch != 0 && decide (r.hPitch < r.hSize))
    || (if m = 0 then !r.zero 511 504
        else !r.zero 511 472 || r.hESize % 2 != 0 || decide (512 < r.hESize) || r.hEStride % 2 != 0
          || decide (1572864 < r.hIdxCount) || r.hIdxBase % 4 != 0
          || (if m = 1 then !r.zero 471 385
              else r.hPitch != 0 || r.hSegBase % 8 != 0 || decide (r.hSegPitch < r.hSegCap * r.hESize)))

/-- R246: whether a core-store extent of a record leaves the first 6 MiB. -/
def heronExtents (r : Rec) (pf : Bool) : Bool :=
  let pitch := if r.hPitch = 0 then r.hSize else r.hPitch
  let near := match r.hMode with
    | 0 => r.hRuns * pitch | 1 => r.hIdxCount * pitch | _ => r.hSegCount * r.hSegPitch
  !r.hEmpty
    && ((!pf && decide (csSize < r.hNear + near))
      || (r.hMode != 0 && decide (csSize < r.hIdxBase + 4 * r.hIdxCount))
      || (r.hMode == 2 && decide (csSize < r.hSegBase + 8 * r.hSegCount)))

/-- R211: the engine a record is placed on. -/
def heronPlace (s : State) (r : Rec) : Nat :=
  let h := (s.core r.coreNo).heron
  match r.hEngine with
  | 1 => 0 | 2 => 1
  | _ => if h.h1.waiting.length < h.h0.waiting.length then 1 else 0

/-- A Heron command is validated and placed on an engine. -/
def heronRun (s : State) (q n : Nat) (pf : Bool) : State :=
  dispatch s q n (fun r => r.opcode == (if pf then 9 else 8)) (fun r =>
    checked s ⟨q, n⟩ [(heronFields r pf, 2), (r.hMode == 2 && !capOk s 11, 3), (heronExtents r pf, 0x22)]
      (let e := heronPlace s r
       let x := s.heng r.coreNo e
       let s := setRecSt s ⟨q, n⟩ .waiting
       heronKick (s.setHeng r.coreNo e { x with waiting := x.waiting ++ [⟨q, n⟩] }) r.coreNo e))

/-! ### Translation (R154) -/

/-- The leaf that a core's TLB holds for a DVA. -/
def tlbFind (s : State) (p c dva : Nat) : Option Leaf := (s.core p).heron.tlb.find? (fun l => l.maps c dva)

/-- A leaf enters a core's TLB of 256 entries; a full one loses any. -/
def tlbFill (s : State) (p : Nat) (l : Leaf) : State :=
  let h := (s.core p).heron
  if h.tlb.length < 256 then s.setCore p { s.core p with heron := { h with tlb := h.tlb ++ [l] } }
  else
    let c := drawChoice s 256
    c.2.setCore p { c.2.core p with heron := { h with tlb := h.tlb.set c.1 l } }

/-- R154: the walks that the walker of a core's die has in flight. -/
def walksOn (s : State) (p : Nat) : Nat :=
  (s.cores.filter (fun (c : Nat × Core) => c.1 / 64 == p / 64)).foldl (fun n c =>
    n + b2n c.2.heron.h0.walk.isSome + b2n c.2.heron.h1.walk.isSome) 0

/-- R154, R186: a demand access that misses the TLB waits for a walk. -/
def startWalk (s : State) (p e c dva : Nat) : State :=
  if 16 ≤ walksOn s p then s.setHeng p e { s.heng p e with st := 2 }
  else
    let s := ctxCtr (coreCtr s p 0x198 1) c 0x118 1
    s.setHeng p e { s.heng p e with walk := some dva, st := 2 }

/-! ### Demand requests (R162 to R165) -/

/-- The near bytes of an item that moves nothing, under ZERO_FILL (R159, R160). -/
def zeroNear (s : State) (p : Nat) (r : Rec) (near len : Nat) : State :=
  if r.hZero then writeMem s (csAddr p near) (List.replicate len 0) false else s

/-- The near bytes of an item whose table entry is poisoned (R159, R160). -/
def poisonNear (s : State) (p e : Nat) (r : Rec) (near len lines : Nat) : State :=
  let s :=
    if r.hDir then s
    else
      let d := drawBytes s len
      writeMem d.2 (csAddr p near) d.1 true
  mapRun s p e (fun h => { h with poison := true, poisLines := h.poisLines + lines })

/-- The end of a segment: its unused positions, and the elements beyond SEG_CAP (R160). -/
def endSeg (s : State) (p e : Nat) (r : Rec) (near len dropped : Nat) : State :=
  mapRun (zeroNear s p r near len) p e (fun h => { h with segDropped := h.segDropped + dropped })

/-- R162: the far-side address, near offset and length of each piece of the next request: consecutive runs or elements
that adjoin on the far side within one 4 KiB block. -/
def growReq (p e : Nat) (r : Rec) : Nat → State → HCur → List (Nat × Nat × Nat) → State × HCur × List (Nat × Nat × Nat)
  | 0, s, c, l => (s, c, l)
  | n + 1, s, c, l =>
    let it := heronItem s p r c
    match it with
    | .move far near len =>
      let a := (far + c.ofs).toNat
      let fits := match l.getLast? with | none => true | some (b, _, k) => a == b + k && a % 4096 != 0
      if !fits || (c.ofs == 0 && !regionOk r far len) then (s, c, l)
      else
        let s := if c.ofs = 0 then loadUnits s p (entryUnits s p r c it) else s
        let m := min (len - c.ofs) (4096 - a % 4096)
        let l := l ++ [(a, near + c.ofs, m)]
        if c.ofs + m < len then (s, { c with ofs := c.ofs + m }, l) else growReq p e r n s c.next l
    | .segEnd near len d =>
      if l.isEmpty then (s, c, l)
      else growReq p e r n (endSeg (loadUnits s p (entryUnits s p r c it)) p e r near len d) c.nextSeg l
    | _ => (s, c, l)

/-- How a line of a demand read is served: whether the request waits for a message or a prefetch in flight. `bad` lists the
lines whose copy is found uncorrectable: such a line is read from its home (R173). -/
def readFrom (s : State) (p : Nat) (r : Rec) (bad : List Nat) (w : ReqId) (l : Nat) : State × Bool :=
  let d := p / 64
  let ask (t : State) (toK : Bool) : State × Bool :=
    (sendMsg t { mtype := 1, line := l, die := d, toK := toK, req := some w }, true)
  let merge (k : Nat) : State × Bool := (mergeFlight s k l w, true)
  if inHbm l then
    if homeDie l = d then
      if (s.core p).heron.stage.any (fun x => x.addr == l) then
        (if bad.contains l then loseCopy s p l else useStaged s p l, false)
      else match flightOf s p l with
        | some k => merge k
        | none => (s, false)
    else if (s.die d).rc.any (fun y => y.addr == l) then
      if bad.contains l then ask (loseCopy s p l) (!r.hNoAlloc) else (useCached s d l, false)
    else match flightOf s p l with
      | some k => merge k
      | none => ask s (!r.hNoAlloc)
  else if inCs l ∧ csCore l / 64 ≠ d then ask s false
  else (s, false)

/-- The pieces of a request as they wait, given which lines wait. -/
def segsOf (l : List (Nat × Nat × Nat)) (delta : Nat → Nat) (wait : Nat → Bool) : List HSeg :=
  l.flatMap (fun x => (pieces x.1 x.2.2).map (fun y =>
    { far := delta y.1, near := x.2.1 + (y.1 - x.1), len := y.2, wait := wait (delta y.1 / 64 * 64) }))

/-- A demand request enters the engine (R163, R186). -/
def addReq (s : State) (p e : Nat) (q : HReq) (c : HCur) : State :=
  let s := coreCtr s p 0x188 1
  let s := mapRun s p e (fun h => { h with out := h.out ++ [q], reqs := h.reqs + 1, cur := c })
  s.setHeng p e { s.heng p e with nextId := q.id + 1, st := 1 }

/-- A read request in the package. -/
def issueRead (s : State) (p e : Nat) (r : Rec) (bad : List Nat) (l : List (Nat × Nat × Nat)) (c : HCur) (num a0 pa0 total : Nat) : State :=
  let id := (s.heng p e).nextId
  let w : ReqId := ⟨p, e, id⟩
  let lines := linesOf pa0 total
  let x := lines.foldl (fun (b : State × List Nat) ln =>
    let y := readFrom b.1 p r bad w ln
    (y.1, if y.2 then b.2 ++ [ln] else b.2)) (s, [])
  let s := addReq x.1 p e { id := id, wr := false, dev := none, far := pa0, total := total, num := num
                            segs := segsOf l (fun a => pa0 + (a - a0)) (fun ln => x.2.contains ln) } c
  match guestOf pa0 with
  | some g =>
    if guestServes s g pa0 then { s with sent := s.sent ++ [.guestRd g (pa0 - guestBase g) total] }
    else guestWindowErr s p e g pa0
  | none => s

/-- The bytes that a scatter reads from the near side, with a poison bit for each. -/
def nearBytes (s : State) (p : Nat) (l : List (Nat × Nat × Nat)) : List (Byte × Bool) :=
  l.flatMap (fun x => (upTo x.2.2).map (fun i =>
    let a := csAddr p (x.2.1 + i)
    (readByte s a, unitBad s (unitOf a))))

/-- One line of a write in the package: stored in memory of the writer's die, sent as a message to another die, or
discarded; the second component says whether its acknowledgement waits for a message. -/
def writeTo (s : State) (p e : Nat) (w : ReqId) (a : Nat) (bs : List (Byte × Bool)) : State × Bool :=
  let d := p / 64
  let any := bs.any (fun b => b.2)
  let l := a / 64 * 64
  let data := bs.map (fun b => b.1)
  let wordBad (k : Nat) : Bool :=
    (upTo bs.length).any (fun i => (a + i) / 8 == l / 8 + k && (bs.getD i (0, false)).2)
  let send (bad : List Bool) : State × Bool :=
    (sendMsg s { mtype := 4, line := l, die := d, req := some w, ofs := a - l, data := data, bad := bad }, true)
  if inHbm a then
    if lateDie s a then (heronDiscard s p e a, false)
    else if homeDie a = d then homeStore s (some w) a data any
    else send (List.replicate 8 any)
  else if csCore a / 64 = d then
    ((wordParts a bs.length).foldl (fun t x =>
      writeMem t x.1 ((data.drop (x.1 - a)).take x.2) (wordBad (x.1 / 8 - l / 8))) s, false)
  else send ((upTo 8).map wordBad)

/-- A write request in the package. Poisoned data reaches no register. -/
def issueWrite (s : State) (dt p e : Nat) (l : List (Nat × Nat × Nat)) (c : HCur) (num pa0 total : Nat) : State :=
  let id := (s.heng p e).nextId
  let w : ReqId := ⟨p, e, id⟩
  let s := loadUnits s p (l.flatMap (fun x => unitsOf (csAddr p x.2.1) x.2.2))
  let bs := nearBytes s p l
  let bad := bs.any (fun b => b.2)
  let at_ (a n : Nat) : List (Byte × Bool) := (bs.drop (a - pa0)).take n
  let req (segs : List HSeg) : HReq :=
    { id := id, wr := true, dev := none, far := pa0, total := total, num := num, segs := segs }
  let s := mapRun s p e (fun h => { h with
    poisLines := h.poisLines + ((linesOf pa0 total).filter (fun ln =>
      (at_ (max pa0 ln) (min (pa0 + total) (ln + 64) - max pa0 ln)).any (fun b => b.2))).length })
  if inHbm pa0 || inCs pa0 then
    let x := (pieces pa0 total).foldl (fun (b : State × List HSeg) pc =>
      let y := writeTo b.1 p e w pc.1 (at_ pc.1 pc.2)
      (y.1, b.2 ++ [⟨pc.1, 0, pc.2, y.2⟩])) (s, [])
    addReq x.1 p e (req x.2) c
  else
    let s := addReq s p e (req [⟨pa0, 0, total, false⟩]) c
    match guestOf pa0 with
    | some g =>
      if guestServes s g pa0 then
        { s with sent := s.sent ++
          [.guestWr g (pa0 - guestBase g) (bs.map (fun b => b.1)) (guestMap s g pa0 (bs.map (fun b => b.2)))] }
      else guestWindowErr s p e g pa0
    | none => if bad then s else spaceWrite s dt 0 (pa0 - 0xC0000000000) (bs.map (fun b => b.1))

/-- The packet of a fabric request over a run of bytes at its target (R369, R384). -/
def heronPacket (r : Rec) (a0 total : Nat) (bs : List (Byte × Bool)) : Packet :=
  let lines := linesOf a0 total
  let base := a0 / 64 * 64
  let n := 64 * lines.length
  let off (i : Nat) : Bool := decide (a0 ≤ base + i) && decide (base + i < a0 + total)
  let byte (i : Nat) : Byte × Bool := if off i then bs.getD (base + i - a0) (0, false) else (0, false)
  let pk : Packet := { ptype := if r.hDir then 3 else 1, dst := r.hDev, src := 0, nlines := lines.length, laddr := base / 64 }
  if r.hDir then
    let bad := (upTo lines.length).map (fun k => (upTo 64).any (fun i => (byte (64 * k + i)).2))
    { pk with
      be := if total = n then [] else (upTo n).map off
      pmap := if bad.any id then bad else []
      data := (upTo n).map (fun i => (byte i).1) }
  else pk

/-- A fabric request (R156, R177, R385). One to this package's own device is served here. -/
def issueFab (s : State) (p e : Nat) (r : Rec) (l : List (Nat × Nat × Nat)) (c : HCur) (num a0 total : Nat) : State :=
  let id := (s.heng p e).nextId
  let s := if r.hDir then loadUnits s p (l.flatMap (fun x => unitsOf (csAddr p x.2.1) x.2.2)) else s
  let pk := heronPacket r a0 total (if r.hDir then nearBytes s p l else [])
  let own := r.hDev == devId s
  let segs := if r.hDir then [⟨a0, 0, total, !own⟩] else segsOf l (fun x => x) (fun _ => !own)
  let s := mapRun s p e (fun h => { h with poisLines := h.poisLines + (pk.pmap.filter (fun b => b)).length })
  let s := addReq s p e { id := id, wr := r.hDir, dev := some r.hDev, far := a0, total := total, num := num, segs := segs } c
  let drop (t : State) : State := mapRun t p e (fun h => { h with out := h.out.filter (fun q => q.id != id) })
  if own then
    if !r.hDir then s
    else
      let a := packetAddr pk
      match targetStat s (devId s) a (64 * pk.nlines) true with
      | 0 => targetWrite s a pk.data pk.be pk.pmap
      | 1 => heronDiscard s p e a0
      | _ => heronFault (drop s) p e 0x21 num
  else
    let x := sendRequest s pk r.hDev r.hDir (.heron p e id)
    if x.2 then x.1 else heronFault (drop x.1) p e 0x69 num

/-- The longest stretch of items that one request can cover. -/
def growFuel : Nat := 69632

/-- R164, R349: a write that waits: one to another package behind an unacknowledged one of its command to the same bytes,
and one to a line of the writer's die whose copies are still being invalidated for an earlier write. -/
def writeWaits (s : State) (p e : Nat) (r : Rec) (a : Nat) (pa : Option Nat) (total : Nat) : Bool :=
  r.hDir && (match pa with
    | none => r.hDev != devId s && (match (s.heng p e).run with
      | some h => h.out.any (fun q => decide (q.far < a + total) && decide (a < q.far + q.total))
      | none => false)
    | some x => inHbm x && homeDie x == p / 64 && (linesOf x total).any (fun l => s.homeWr.any (fun h => h.line == l)))

/-- A demand request is formed and issued at a place whose first byte `a` is translated to `pa`. -/
def issueAt (s : State) (dt p e : Nat) (r : Rec) (bad : List Nat) (c : HCur) (a : Nat) (pa : Option Nat) : State :=
  let g := growReq p e r growFuel s c []
  let l := g.2.2
  let total := l.foldl (fun n x => n + x.2.2) 0
  if writeWaits s p e r a pa total then s
  else match pa with
  | none => issueFab g.1 p e r l g.2.1 c.num a total
  | some x =>
    if r.hDir then issueWrite g.1 dt p e l g.2.1 c.num x total else issueRead g.1 p e r bad l g.2.1 c.num a x total

/-- The next item of a demand stream: a request, or an item that moves nothing. -/
def demandItem (s : State) (dt p e : Nat) (r : Rec) (bad : List Nat) (h : HRun) : State :=
  let c := h.cur
  let it := heronItem s p r c
  let read (t : State) : State := loadUnits t p (entryUnits s p r c it)
  let go (t : State) (d : HCur) : State := mapRun t p e (fun x => { x with cur := d })
  match it with
  | .done => mapRun s p e (fun x => { x with allIssued := true })
  | .stop st => heronFault (read s) p e st c.num
  | .skip near len => go (zeroNear (read s) p r near len) c.next
  | .lost near len => go (poisonNear (read s) p e r near len (ceilDiv len 64)) c.next
  | .segEnd near len d => go (endSeg (read s) p e r near len d) c.nextSeg
  | .segLost near len => go (poisonNear (read s) p e r near len 0) c.nextSeg
  | .move far _ len =>
    let a := (far + c.ofs).toNat
    let ctx := (s.queue h.ref.q).ctxNo
    if c.ofs = 0 && !regionOk r far len then heronFault s p e 0x23 c.num
    else if 24 ≤ (s.core p).heron.outstanding e then s
    else if r.hFab then issueAt s dt p e r bad c a none
    else match tlbFind s p ctx a with
      | none => startWalk s p e ctx a
      | some lf =>
        match leafGrant lf a r.hDir with
        | .fault x => heronXlatFault s p e x c.num ctx
        | .pa x =>
          match paStatus s x with
          | some st => heronFault s p e st c.num
          | none => issueAt s dt p e r bad c a (some x)

/-! ### Prefetch requests (R168 to R172) -/

/-- The item at a place of a prefetch stream: a gather's strided stream continues beyond its last run. -/
def prefetchItem (s : State) (p : Nat) (r : Rec) (c : HCur) : HItem :=
  if r.hMode = 0 ∧ !r.isPf then .move (strideFar r c.pos) 0 r.hRun else heronItem s p r c

/-- R169: a PREFETCH command waits for a line that is in flight already. -/
def watchFlight (s : State) (k l : Nat) (c : CmdRef) : State :=
  let h := (s.core k).heron
  s.setCore k { s.core k with heron := { h with
    flight := h.flight.map (fun f => if f.addr == l then { f with watch := f.watch ++ [c] } else f) } }

/-- One prefetch line whose physical address is known: already present, not prefetched, or put in flight. -/
def prefetchLine (p e : Nat) (r : Rec) (h : HRun) (id l : Nat) (s : State) : State :=
  let d := p / 64
  let remote := homeDie l != d
  let present := (s.core p).heron.stage.any (fun x => x.addr == l)
    || (remote && (s.die d).rc.any (fun y => y.addr == l)) || (flightOf s p l).isSome
  if present then
    let s := match flightOf s p l with
      | some k => if r.isPf then watchFlight s k l h.ref else s
      | none => s
    mapRun s p e (fun x => { x with pfPresent := x.pfPresent + 1 })
  else if remote && r.hNoAlloc then s
  else
    let s := queueCtr (coreCtr s p 0x1A0 1) h.ref.q 0x160 1
    let k := (s.core p).heron
    let s := s.setCore p { s.core p with heron := { k with flight := k.flight ++ [⟨l, e, id, h.ref, remote, [], []⟩] } }
    let s := mapRun s p e (fun x => { x with pfGen := x.pfGen + 1 })
    if remote then sendMsg s { mtype := 1, line := l, die := d, toK := true } else s

/-- R171: prefetch lines that miss the TLB or lack read permission are generated and dropped. -/
def prefetchDrop (s : State) (p e q n : Nat) : State :=
  let s := queueCtr (coreCtr s p 0x1A0 n) q 0x160 n
  let s := queueCtr (coreCtr s p 0x1C0 n) q 0x180 n
  mapRun s p e (fun x => { x with pfGen := x.pfGen + n, pfDropped := x.pfDropped + n })

/-- One prefetch request: the lines of the next run or element in one 4 KiB block, at most `room` of them. -/
def prefetchMove (s : State) (p e : Nat) (r : Rec) (h : HRun) (c : HCur) (far : Int) (len room : Nat) : State :=
  let f := far + c.ofs
  let beyond := r.hMode == 0 && !r.isPf && decide (r.hRuns ≤ c.pos)
  let go (t : State) (d : HCur) (fin : Bool) : State := mapRun t p e (fun x => { x with pfCur := d, pfEnd := fin })
  if f < 0 ∨ 2 ^ 48 ≤ f then go s c.next beyond
  else
    let a := f.toNat
    let n := min (min (len - c.ofs) (4096 - a % 4096)) (64 * room - a % 64)
    let inside (l : Nat) : Bool := decide (r.hLo ≤ l) && decide (l + 64 ≤ r.hHi)
    let all := linesOf a n
    let lines := if beyond then all.takeWhile inside else all.filter inside
    let stop := beyond && lines.length != all.length
    let d := if c.ofs + n < len then { c with ofs := c.ofs + n } else c.next
    let s := mapRun s p e (fun x => { x with
      ahead := x.ahead ++ lines.map (fun l => (c.num, c.ofs + (min (a + n) (l + 64) - a), l)) })
    let ctx := (s.queue h.ref.q).ctxNo
    let drop := go (prefetchDrop s p e h.ref.q lines.length) d stop
    match tlbFind s p ctx a with
    | none => drop
    | some lf =>
      match leafGrant lf a false with
      | .fault _ => drop
      | .pa x =>
        let id := (s.heng p e).nextId
        let base := x / 4096 * 4096
        if !hbmOk s x || lateDie s x then go s d stop
        else
          let s := s.setHeng p e { s.heng p e with nextId := id + 1 }
          go (lines.foldl (fun t l => prefetchLine p e r h id (base + l % 4096) t) s) d stop

/-- The next item of a prefetch stream: at most 64 PF_DEPTH lines beyond the demand front (R169). -/
def prefetchStep (s : State) (p e : Nat) (r : Rec) (h : HRun) : State :=
  let before (x y : Nat × Nat) : Bool := decide (x.1 < y.1) || (x.1 == y.1 && decide (x.2 < y.2))
  let front := (h.cur.num, h.cur.ofs)
  let c := if !r.isPf && before (h.pfCur.num, h.pfCur.ofs) front then h.cur else h.pfCur
  let ahead := if r.isPf then [] else h.ahead.filter (fun x => before front (x.1, x.2.1))
  let room := if r.isPf then 64 else 64 * r.hDepth - ((ahead.map (fun x => x.2.2)).eraseDups).length
  let s := mapRun s p e (fun x => { x with ahead := ahead })
  let it := prefetchItem s p r c
  let read (t : State) : State := if r.isPf then loadUnits t p (entryUnits s p r c it) else t
  let go (t : State) (d : HCur) : State := mapRun t p e (fun x => { x with pfCur := d })
  let bad (t : State) : State := if r.isPf then mapRun t p e (fun x => { x with poison := true }) else t
  match it with
  | .done => mapRun s p e (fun x => { x with pfEnd := true })
  | .stop st =>
    if r.isPf then heronFault (read s) p e st c.num else mapRun s p e (fun x => { x with pfEnd := true })
  | .skip _ _ => go (read s) c.next
  | .lost _ _ => go (bad (read s)) c.next
  | .segEnd _ _ _ => go (read s) c.nextSeg
  | .segLost _ _ => go (bad (read s)) c.nextSeg
  | .move far _ len =>
    if room = 0 then s else prefetchMove (if c.ofs = 0 then read s else s) p e r h c far len room

/-- Whether an engine may issue a prefetch now (R163, R169). -/
def mayPrefetch (s : State) (p e : Nat) (r : Rec) (h : HRun) : Bool :=
  (r.isPf || r.hDepth != 0) && !r.hFab && !h.pfEnd && h.fault.isNone
    && decide (((s.core p).heron.pfReqs e).length < 8) && decide ((s.core p).heron.outstanding e < 24)

/-- What a running engine does next: its next demand item, or its next prefetch item. -/
def heronIssue (s : State) (p e : Nat) (pf : Bool) (dt : Nat) (bad : List Nat) : State :=
  let x := s.heng p e
  if s.pst != .active || !coreOn s p then s
  else
    match x.run with
    | none => s
    | some h =>
      match findRec s h.ref with
      | none => s
      | some r =>
        let s :=
          if pf then (if mayPrefetch s p e r h then prefetchStep s p e r h else s)
          else if r.isPf || h.allIssued || h.fault.isSome || x.walk.isSome then s
          else demandItem s dt p e r bad h
        sramSweep (heronCheck s p e)

/-! ### Walks and answers -/

/-- R154, R543: the walk that an engine waits for completes. -/
def walkDone (s : State) (p e : Nat) : State :=
  let x := s.heng p e
  match x.walk, x.run with
  | some va, some h =>
    let c := (s.queue h.ref.q).ctxNo
    let k := s.ctx c
    let s := s.setCtx c { k with walks := setDel k.walks (2 * p + e) }
    let s := s.setHeng p e { x with walk := none, st := 1 }
    match walk s c va with
    | none => heronCheck (heronXlatFault s p e 0x20 h.cur.num c) p e
    | some l =>
      let s := tlbFill s p l
      let wr := match findRec s h.ref with | some r => r.hDir | none => false
      match leafGrant l va wr with
      | .fault f => heronCheck (heronXlatFault s p e f h.cur.num c) p e
      | .pa _ => s
  | _, _ => s

/-- Read data arrives for the pieces of a request that wait for no message. -/
def readResponse (s : State) (p e id dt : Nat) (data : List Byte) (err : Bool) : State :=
  let w : ReqId := ⟨p, e, id⟩
  match findReq s w with
  | none => s
  | some (_, q) =>
    let now : HSeg → Bool := fun g => !g.wait
    let segs := q.segs.filter now
    let run (t : State) (bs : List Byte) (bad : Bool) : State := deliverSegs t w now (fun _ gs => dataChunks q.far bs (fun _ => bad) gs)
    let lost (t : State) : State := let d := drawBytes t q.total; run d.2 d.1 true
    if q.wr || segs.isEmpty then s
    else match q.dev with
    | some _ =>
      let a := q.far / 64 * 64
      let n := 64 * (linesOf q.far q.total).length
      match targetStat s (devId s) a n false with
      | 0 =>
        let r := targetRead s a n
        deliverSegs r.1 w now (fun _ gs => dataChunks a r.2.1 (fun b => r.2.2.getD ((b - a) / 64) false) gs)
      | 1 => lost s
      | _ =>
        let s := mapRun s p e (fun h => { h with out := h.out.filter (fun x => x.id != id) })
        heronCheck (heronFault s p e 0x21 q.num) p e
    | none =>
      match guestOf q.far with
      | some g =>
        if !guestServes s g q.far then lost (guestWindowErr s p e g q.far)
        else if err then lost s
        else if data.length = q.total then run s data false else s
      | none =>
        if inRegs q.far then
          let x := spaceRead s dt 0 (q.far - 0xC0000000000) q.total
          run x.1 x.2 false
        else deliverSegs (detectSegs s segs) w now memChunks

/-- A write that waits for no message is acknowledged; one to a site's window that refuses it by now was discarded (R341,
R344). -/
def writeAck (s : State) (p e id : Nat) : State :=
  let w : ReqId := ⟨p, e, id⟩
  match findReq s w with
  | none => s
  | some (_, q) =>
    if q.wr then
      let s := match q.dev, guestOf q.far with
        | none, some g => if guestServes s g q.far then s else guestWindowErr s p e g q.far
        | _, _ => s
      heronRetire (keepSegs s w (fun g => g.wait)) p e id
    else s

/-! ### The meanings -/

/-- The engine of a command's operand. -/
def engNo (e : Bool) : Nat := if e then 1 else 0

/-- GATHER (R156, R245). -/
def execGather (q : Fin 64) (n : Nat) (s : State) : Host.Outcome State Fault Refusal := .next (heronRun s q n false)
/-- PREFETCH (R169, R246). -/
def execPrefetch (q : Fin 64) (n : Nat) (s : State) : Host.Outcome State Fault Refusal := .next (heronRun s q n true)
/-- HERON_REQUEST_ISSUE: engine `e` of core `p` issues its next demand request, or with `pf` its next prefetch; an item
that moves nothing takes the place of a request (R159 to R173). -/
def execHeronRequestIssue (p : Fin 256) (e pf : Bool) (w : IssueInput) (s : State) :
    Host.Outcome State Fault Refusal := .next (heronIssue s p (engNo e) pf w.dt w.bad)
/-- PAGE_WALK (R154). -/
def execPageWalk (p : Fin 256) (e : Bool) (s : State) : Host.Outcome State Fault Refusal := .next (walkDone s p (engNo e))
/-- HERON_READ_RESPONSE: the data of request `id` arrives; `data` and `err` are a guest's answer (R164, R181, R341). -/
def execHeronReadResponse (p : Fin 256) (e : Bool) (id dt : Nat) (data : List Byte) (err : Bool) (s : State) :
    Host.Outcome State Fault Refusal := .next (sramSweep (readResponse s p (engNo e) id dt data err))
/-- HERON_WRITE_ACK (R164). -/
def execHeronWriteAck (p : Fin 256) (e : Bool) (id : Nat) (s : State) : Host.Outcome State Fault Refusal :=
  .next (writeAck s p (engNo e) id)
/-- PREFETCH_FILL: the prefetch in flight number `i` of core `p` arrives from its own die's stacks (R168, R172). -/
def execPrefetchFill (p : Fin 256) (i : Nat) (s : State) : Host.Outcome State Fault Refusal :=
  .next (
    match (s.core p).heron.flight[i]? with
    | none => s
    | some f =>
      if f.remote then s
      else
        let x := readLine s f.addr
        fillPrefetch x.1 p f.addr true x.2.1 x.2.2)

end Sys2Proof.Machine
end

