-- ==== Sys2Proof/Machine/DieMsgs.lean ====
section
/-!
DEFINITION. The meanings of the directory and memory messages between dies (spec/11_hub_die_links.md R345 to R352;
spec/05_core_memory_gather.md R173 to R175). A row names a message in flight by its place in the list.
-/
namespace Sys2Proof.Machine

/-! ### Shared operations -/

/-- Message `i` in flight, if it has a type. -/
def msgAt (s : State) (i t : Nat) : Option DieMsg :=
  match s.msgs[i]? with
  | some m => if m.mtype = t then some m else none
  | none => none

/-- The state without message `i`. -/
def dropMsg (s : State) (i : Nat) : State := { s with msgs := s.msgs.eraseIdx i }

/-- A message of a type arrives. -/
def onMsg (s : State) (i t : Nat) (f : State → DieMsg → State) : State :=
  match msgAt s i t with
  | none => s
  | some m => f (dropMsg s i) m

/-- Whether a message sent before message `i` satisfies a test. -/
def sentBefore (s : State) (i : Nat) (f : DieMsg → Bool) : Bool := (s.msgs.take i).any f

/-- The directory entry of a line. -/
def dirFind (s : State) (l : Nat) : Option DirEntry := s.dir.find? (fun x => x.line == l)

/-- R345: the set of a line. -/
def dirSet (l : Nat) : Nat := (l / 64) % 524288

/-- The bits of a vector that are set, as dies. -/
def diesOf (v : BitVec 4) : List Nat := (upTo 4).filter (fun k => v.getLsbD k)

/-- INV goes to dies for a line, with FLAG for a back-invalidation (R349, R351). -/
def sendInv (s : State) (l : Nat) (v : BitVec 4) (flag : Bool) : State :=
  let ds := diesOf v
  dirBump (ds.foldl (fun t d => sendMsg t { mtype := 6, line := l, die := d, flag := flag }) s) 0x120 ds.length

/-- R345, R349: an entry with no sharer left is deallocated: FDEC goes to the home, and INV_DONE if it waits. -/
def settleDir (s : State) (l : Nat) : State :=
  match dirFind s l with
  | none => s
  | some e =>
    if e.sharers = 0 ∧ e.acks = 0 then
      let s := { s with dir := s.dir.filter (fun x => !(x.line == l)) }
      let s := sendMsg s { mtype := 10, line := l, die := homeDie l }
      if e.home then sendMsg s { mtype := 8, line := l, die := homeDie l } else s
    else s

/-! ### Reads (R348, R351) -/

/-- An RD without a directory entry is served by its target (R348). -/
def readDirect (s : State) (m : DieMsg) : State :=
  let x := readLine s m.line
  let refused := (paStatus s m.line).isSome
  sendMsg x.1 { mtype := 3, line := m.line, die := m.die, req := m.req, data := x.2.1
                bad := if refused then List.replicate 8 true else x.2.2 }

/-- K sends RD_RC for a line whose entry now waits for die `m.die`'s fill; the entry is the most recently used. -/
def dirFill (s : State) (m : DieMsg) (e : DirEntry) (isNew : Bool) : State :=
  let b := dieBit m.die
  let e := { e with sharers := e.sharers ||| b, fill := e.fill ||| b }
  let s := dirBump { s with dir := s.dir.filter (fun x => !(x.line == m.line)) ++ [e] } 0x100 1
  sendMsg s { m with mtype := 2, flag := isNew }

/-- R348, R351: an RD reaches K, or its target. It waits while its line is being invalidated, while its set has no room,
and behind an EVICT_NOTE of its line. -/
def readAtK (s : State) (i : Nat) (m : DieMsg) : State :=
  let t := dropMsg s i
  let l := m.line
  if !s.agt.diesActive.getLsbD m.die then t
  else if !m.toK || inCs l || lateDie s l then readDirect t m
  else if sentBefore s i (fun x => x.mtype == 9 && x.line == l && x.die == m.die) then s
  else
    match dirFind s l with
    | some e => if e.home || e.acks != 0 then s else dirFill t m e false
    | none =>
      let set := s.dir.filter (fun x => dirSet x.line == dirSet l)
      if set.length < 16 then dirFill (dirBump t 0x108 1) m { line := l, sharers := 0 } true
      else if set.any (fun x => x.acks != 0) then s
      else
        match set.find? (fun x => x.fill == 0) with
        | none => s
        | some v =>
          let s := mapDir s v.line (fun x => { x with acks := x.sharers })
          sendInv (dirBump s 0x110 1) v.line v.sharers true

/-- R346: the home counts a new entry in its presence filter. -/
def filterInc (s : State) (l : Nat) : State :=
  let d := homeDie l
  let x := s.die d
  let c := tabGet x.filter 0 (filterIdx l)
  if c = 255 then s
  else
    let s := s.setDie d { x with filter := tabSet x.filter (filterIdx l) (c + 1) }
    if c = 254 then dirBump s 0x130 1 else s

/-- R348: an RD_RC reaches the home, which serializes the read. -/
def readAtHome (s : State) (m : DieMsg) : State :=
  let s := if m.flag then filterInc s m.line else s
  let x := readLine s m.line
  sendMsg x.1 { mtype := 3, line := m.line, die := m.die, flag := m.req.isNone, toK := true, req := m.req, data := x.2.1, bad := x.2.2 }

/-- The core of a die whose prefetch of a line from another die is in flight. -/
def remoteFlight (s : State) (d l : Nat) : Option Nat :=
  (dieCores d).find? (fun p => (s.core p).heron.flight.any (fun f => f.addr == l && f.remote))

/-- R348, R350: an RSP passes through K to the reading die: the fill ends, the line is installed unless it was
invalidated meanwhile, and the data is delivered. A second answer for a line that the cache holds changes no copy. -/
def readBack (s : State) (m : DieMsg) : State :=
  let l := m.line
  let b := dieBit m.die
  let keep := (s.die m.die).rc.any (fun y => y.addr == l) || match dirFind s l with
    | some e => e.fill.getLsbD m.die && !e.dead.getLsbD m.die && s.agt.diesActive.getLsbD m.die
    | none => false
  let s := if m.toK then
      mapDir s l (fun e => { e with
        fill := e.fill &&& ~~~b, dead := e.dead &&& ~~~b
        sharers := if e.dead.getLsbD m.die then e.sharers &&& ~~~b else e.sharers })
    else s
  let s :=
    match m.req with
    | some w => deliverLine (if m.toK && keep then installLine s m.die l none else s) w l m.data m.bad
    | none =>
      match remoteFlight s m.die l with
      | some p => fillPrefetch s p l keep m.data m.bad
      | none => s
  settleDir s l

/-! ### Writes (R349) -/

/-- R349: a WR reaches its target, which serializes the write. A home invalidates the staging copies of its cores and,
while the line's filter counter is not zero, asks K to invalidate the remote copies. -/
def writeAtHome (s : State) (i : Nat) (m : DieMsg) : State :=
  let l := m.line
  let t := dropMsg s i
  let ack (u : State) : State := sendMsg u { m with mtype := 5, data := [], bad := [] }
  if s.homeWr.any (fun h => h.line == l) || sentBefore s i (fun x => x.mtype == 4 && x.line == l) then s
  else if inCs l then
    if (paStatus s l).isSome then ack t
    else
      ack ((wordParts (l + m.ofs) m.data.length).foldl (fun u x =>
        writeMem u x.1 ((m.data.drop (x.1 - l - m.ofs)).take x.2) (m.bad.getD (x.1 / 8 - l / 8) false)) t)
  else if lateDie s l then
    ack (match m.req with | some w => heronDiscard t w.p w.eng (l + m.ofs) | none => t)
  else
    let x := homeStore t m.req (l + m.ofs) m.data (m.bad.any id)
    if x.2 then x.1 else ack x.1

/-- R349: a WR_ACK reaches the writer. -/
def writeBack (s : State) (m : DieMsg) : State :=
  match m.req with
  | none => s
  | some w => heronRetire (keepSegs s w (fun g => !g.inLine m.line)) w.p w.eng w.id

/-- R349, R350: an INV reaches K, which invalidates every held copy and lets pending fills end without installing. -/
def invAtK (s : State) (m : DieMsg) : State :=
  let s := dirBump s 0x118 1
  match dirFind s m.line with
  | none => sendMsg (dirBump s 0x128 1) { mtype := 8, line := m.line, die := homeDie m.line }
  | some e =>
    let held := e.sharers &&& ~~~e.fill &&& ~~~e.acks
    let s := mapDir s m.line (fun x => { x with home := true, acks := x.acks ||| held, dead := x.fill })
    settleDir (sendInv s m.line held false) m.line

/-- R348: an INV reaches a remote cache, which drops the line and answers INV_ACK. -/
def invAtCache (s : State) (m : DieMsg) : State := sendMsg (uncache s m.die m.line) { m with mtype := 7 }

/-- R349: an INV_ACK reaches K. Where the entry is gone already, the home gets its INV_DONE with the last one. -/
def invAcked (s : State) (m : DieMsg) : State :=
  let b := dieBit m.die
  match dirFind s m.line with
  | some _ =>
    settleDir (mapDir s m.line (fun x => { x with sharers := x.sharers &&& ~~~b, acks := x.acks &&& ~~~b })) m.line
  | none =>
    if s.homeWr.any (fun h => h.line == m.line)
        && !s.msgs.any (fun x => [6, 7, 8].contains x.mtype && x.line == m.line) then
      sendMsg s { mtype := 8, line := m.line, die := homeDie m.line }
    else s

/-- R349: an INV_DONE reaches the home, which acknowledges the write that waited for it: directly to a core of its die. -/
def invFinished (s : State) (m : DieMsg) : State :=
  match s.homeWr.find? (fun h => h.line == m.line) with
  | none => s
  | some h =>
    let s := { s with homeWr := s.homeWr.filter (fun x => x.line != m.line) }
    let d := match h.req with | some w => w.p / 64 | none => m.die
    let ack : DieMsg := { mtype := 5, line := m.line, die := d, req := h.req }
    if d = homeDie m.line then writeBack s ack else sendMsg s ack

/-- R348, R350: an EVICT_NOTE reaches K. One that crosses an INV or a new fill changes nothing. -/
def evictNoted (s : State) (m : DieMsg) : State :=
  match dirFind s m.line with
  | none => s
  | some e =>
    if e.fill.getLsbD m.die || e.acks.getLsbD m.die then s
    else settleDir (mapDir s m.line (fun x => { x with sharers := x.sharers &&& ~~~dieBit m.die })) m.line

/-! ### The meanings -/

/-- RD (R348). -/
def execRd (i : Nat) (s : State) : Host.Outcome State Fault Refusal :=
  .next (match msgAt s i 1 with | none => s | some m => sramSweep (readAtK s i m))
/-- RD_RC (R346, R348). -/
def execRdRc (i : Nat) (s : State) : Host.Outcome State Fault Refusal := .next (onMsg s i 2 readAtHome)
/-- RSP (R348, R350). -/
def execRsp (i : Nat) (s : State) : Host.Outcome State Fault Refusal := .next (sramSweep (onMsg s i 3 readBack))
/-- WR (R349). -/
def execWr (i : Nat) (s : State) : Host.Outcome State Fault Refusal :=
  .next (match msgAt s i 4 with | none => s | some m => writeAtHome s i m)
/-- WR_ACK (R349). -/
def execWrAck (i : Nat) (s : State) : Host.Outcome State Fault Refusal := .next (onMsg s i 5 writeBack)
/-- INV (R348 to R351). -/
def execInv (i : Nat) (s : State) : Host.Outcome State Fault Refusal :=
  .next (onMsg s i 6 (fun t m => if m.toK then invAtK t m else invAtCache t m))
/-- INV_ACK (R349). -/
def execInvAck (i : Nat) (s : State) : Host.Outcome State Fault Refusal := .next (onMsg s i 7 invAcked)
/-- INV_DONE (R349). -/
def execInvDone (i : Nat) (s : State) : Host.Outcome State Fault Refusal := .next (onMsg s i 8 invFinished)
/-- EVICT_NOTE (R348, R350). -/
def execEvictNote (i : Nat) (s : State) : Host.Outcome State Fault Refusal := .next (onMsg s i 9 evictNoted)
/-- FDEC (R346). -/
def execFdec (i : Nat) (s : State) : Host.Outcome State Fault Refusal :=
  .next (onMsg s i 10 (fun t m => filterDec t m.line))

end Sys2Proof.Machine
end

