-- ==== Sys2Proof/Machine/DrainOps.lean ====
section
/-!
DEFINITION. What a drain computes and writes: its record, stages, amax, encoding and destinations
(spec/03_matrix_array.md R86 to R95; spec/07_command_reference.md R240 to R243; spec/08_training_numerics.md R256 to
R261, R271, R276 to R279).
-/
namespace Sys2Proof.Machine

/-! ### The record (R87, R240) -/

/-- ACT of DRAIN_CTL. -/
def Rec.dAct (r : Rec) : Nat := r.f 120 118
/-- SCALE_MODE. -/
def Rec.dScaleMode (r : Rec) : Nat := r.f 117 116
/-- BIAS_MODE. -/
def Rec.dBiasMode (r : Rec) : Nat := r.f 115 114
/-- DEST. -/
def Rec.dDest (r : Rec) : Nat := r.f 113 112
/-- BANK. -/
def Rec.dBank (r : Rec) : Bool := r.b 111
/-- AMAX_EN. -/
def Rec.dAmaxEn (r : Rec) : Bool := r.b 110
/-- WISP_EN. -/
def Rec.dWispEn (r : Rec) : Bool := r.b 109
/-- PEAT_ENTRY. -/
def Rec.dPeat (r : Rec) : Nat := r.f 108 105
/-- PEAT_FIRST. -/
def Rec.dFirst (r : Rec) : Bool := r.b 104
/-- USE_COUNT. -/
def Rec.dUses (r : Rec) : Nat := r.f 103 96
/-- SR_SEED. -/
def Rec.dSeed (r : Rec) : Nat := r.w 2
/-- DEST_ADDR. -/
def Rec.dAddr (r : Rec) : Nat := r.f 239 192
/-- M. -/
def Rec.dM (r : Rec) : Nat := r.f 247 240
/-- N. -/
def Rec.dN (r : Rec) : Nat := r.f 255 248
/-- DEST_STRIDE. -/
def Rec.dStride (r : Rec) : Nat := r.f 287 256
/-- SCALE. -/
def Rec.dScale (r : Rec) : Nat := r.f 319 288
/-- TIE_TAG. -/
def Rec.dTag (r : Rec) : Nat := r.f 335 320
/-- COL0. -/
def Rec.dCol0 (r : Rec) : Nat := r.f 359 336
/-- D0. -/
def Rec.dD0 (r : Rec) : Nat := r.f 383 360
/-- DEST_LOCAL. -/
def Rec.dLocal (r : Rec) : Bool := r.b 384
/-- KIND. -/
def Rec.dKind (r : Rec) : Nat := r.f 387 385
/-- ENTRY. -/
def Rec.dEntry (r : Rec) : Nat := r.f 391 388
/-- ROW0. -/
def Rec.dRow0 (r : Rec) : Nat := r.f 427 392
/-- TENSOR_ID. -/
def Rec.dTid (r : Rec) : Nat := r.f 447 428
/-- ROWS. -/
def Rec.dRows (r : Rec) : Nat := r.f 488 453
/-- BVEC. -/
def Rec.dBvec (r : Rec) : Nat := r.f 511 489
/-- Whether a record is a PEAT_FLUSH. -/
def Rec.isFlush (r : Rec) : Bool := r.opcode == 3

/-- R242, R256: the output format, under KIND the recipe's. -/
def Rec.dFmt (r : Rec) : Fmt :=
  match r.dKind with
  | 0 => fmtOf (r.f 127 124) | 1 => .e4m3 | 2 => .e4m3 | 3 => .e5m2 | _ => .acc35
/-- OUT_ELEM. -/
def Rec.dElem (r : Rec) : Bool := r.b 123
/-- The element type of the output. -/
def Rec.dSty (r : Rec) : Sty := fmtElem r.dFmt r.dElem
/-- R256: whether the conversion rounds stochastically. -/
def Rec.dRnd (r : Rec) : Bool := r.b 122 || r.dKind == 3
/-- NOV. -/
def Rec.dNov (r : Rec) : Bool := r.b 121

/-- The elements of a stored output row: N, padded to whole blocks in an MX format (R52). -/
def Rec.dCols (r : Rec) : Nat := if fmtMx r.dFmt then ceilTo r.dN 32 else r.dN
/-- The bytes of a stored output row, scale bytes included (R52, R94). -/
def Rec.dRowBytes (r : Rec) : Nat := rowBytes r.dSty r.dCols + (if fmtMx r.dFmt then r.dCols / 32 else 0)

/-- R89: CLAMP_LO and CLAMP_HI are no bounds. -/
def clampBad (r : Rec) : Bool :=
  let lo := decodeS .bf16 (r.f 79 64)
  let hi := decodeS .bf16 (r.f 95 80)
  lo.isNan || hi.isNan || hi.lt lo

/-- Step 5 (R227, R240, R241). -/
def drainFields (r : Rec) : Bool :=
  !r.zero 452 448 || decide (128 < r.dM) || decide (128 < r.dN) || decide (4 < r.dKind)
    || (r.dKind == 0 && r.dScaleMode == 3) || r.dBiasMode == 3 || (r.dDest == 2 && decide (11 < r.dPeat))
    || (if r.isFlush then decide (11 < r.dEntry) else r.dEntry != 0)
    || (r.dBiasMode == 0 && r.dBvec != 0) || (r.dLocal && r.f 239 215 != 0)
    || (r.dKind == 0 && ((!r.b 122 && r.dSeed != 0) || (r.dScaleMode == 0 && r.dScale != 0)
      || (r.dScaleMode == 2 && decide (2 ^ 23 ≤ r.dScale)) || !elemOk r.dFmt r.dElem))
    || ((r.dDest == 1 || r.dDest == 2) && (r.dAddr != 0 || r.dLocal))
    || (r.dDest != 3 && !r.isFlush && r.dTag != 0)

/-- R87, R89, R241, R242, R258: the combinations of step 7. -/
def drainCombo (r : Rec) : Bool :=
  (r.isFlush && (r.dBank || decide (1 < r.dDest) || r.dTag != 0))
    || (r.dDest != 2 && (r.dPeat != 0 || r.dFirst)) || (r.dDest != 3 && r.dUses != 0)
    || (r.dAct != 7 && r.f 95 64 != 0)
    || (r.dKind != 0 && (r.f 127 121 != 0 || r.dScaleMode != 0 || r.dScale != 0 || decide (1 < r.dDest)))
    || ((r.dKind == 1 || r.dKind == 2 || r.dKind == 4) && r.dSeed != 0)
    || (decide (1 < r.dDest) && (r.dFmt != .acc35 || r.dAct != 0 || r.dScaleMode != 0 || r.dBiasMode != 0 || r.f 122 121 != 0))
    || (r.dAct == 7 && clampBad r)
    || (r.dDest == 0 && (decide (r.dStride < r.dRowBytes) || (r.dFmt == .acc35 && r.dStride % 64 != 0)))
    || (r.dDest == 3 && (r.dStride % 64 != 0 || decide (r.dStride < 640)))
    || ((r.dDest == 1 || r.dDest == 2) && r.dStride != 0)

/-- Step 9 (R88, R231): a core-store extent of the record leaves the first 6 MiB; only bytes that are moved count. -/
def drainExtents (r : Rec) : Bool :=
  r.dM != 0 && r.dN != 0
    && ((r.dScaleMode == 2 && decide (csSize < r.dScale + 4 * r.dN))
      || (r.dBiasMode == 1 && decide (csSize < r.dBvec + 4 * r.dN))
      || (r.dBiasMode == 2 && decide (csSize < r.dBvec + 2 * r.dN))
      || (r.dDest == 0 && r.dLocal && rowsOut r.dAddr r.dStride r.dM r.dRowBytes))

/-- The checks of a DRAIN or PEAT_FLUSH record at steps 5 to 9 (R243). -/
def drainChecks (s : State) (r : Rec) : List (Bool × Nat) :=
  let sc := decodeS .fp32 r.dScale
  [(drainFields r, 0x02),
   ((r.dRnd && !capOk s 1) || (r.dWispEn && !capOk s 6) || (r.dDest == 3 && !capOk s 5) || !fmtCap s r.dFmt false, 0x03),
   (drainCombo r, 0x0A),
   (r.dScaleMode == 1 && (sc.isNan || sc.isInf), 0x41),
   ((r.dAmaxEn || r.dKind != 0) && decide (65536 ≤ r.dTid), 0x1B),
   (decide (2 ^ 44 ≤ r.dRows * r.dD0) || decide (r.dRows < r.dRow0 + r.dM) || decide (r.dD0 < r.dCol0 + r.dN), 0x0B),
   (drainExtents r, 0x22)]

/-! ### The stages (R86, R90, R258) -/

/-- One rounding of a stage on a container; poison stays. -/
def stageOn (v : Nat) (f : Val → Val) : Nat :=
  if v.testBit 39 then poisonNan else rneTo .acc35 (f (decodeS .acc35 v))

/-- R86: a container from a bank element, an integer one converted. -/
def bankValue (int : Bool) (v : Nat) : Nat :=
  if !int then v else if v.testBit 39 then poisonNan else rneTo .acc35 (ofIntExp (sext 32 v) 0)

/-- An element of a per-column vector. -/
def vecElem (s : State) (p off w j : Nat) : Elem := rowElem s (csAddr p off) w j

/-- R90: the activation of a value that is not poisoned, before its rounding. -/
def actVal (act : Nat) (lo hi : Nat) (v : Val) : Val :=
  let zero : Val := .fin false 0 0
  let f (k : Sfu) : Val := decodeS .fp32 (sfuEval k (rneTo .fp32 v))
  match act with
  | 1 => maxVal v zero
  | 2 => (maxVal v zero).mul (maxVal v zero)
  | 3 => f .gelu
  | 4 => f .silu
  | 5 => f .sig
  | 6 => f .tanh
  | 7 => minVal (maxVal v (decodeS .bf16 lo)) (decodeS .bf16 hi)
  | _ => v

/-- Stages 1 to 3 of an element of column `j`; `e` is the descale exponent of R258. -/
def stages (s : State) (p : Nat) (r : Rec) (e : Int) (j v : Nat) : Nat :=
  let v :=
    if r.dKind ≠ 0 then (if e = 0 then v else stageOn v (fun x => x.scale (-e)))
    else match r.dScaleMode with
    | 1 => stageOn v (fun x => x.mul (decodeS .fp32 r.dScale))
    | 2 =>
      let c := vecElem s p r.dScale 32 j
      if c.bad then poisonNan else stageOn v (fun x => x.mul (decodeS .fp32 c.code))
    | _ => v
  let v :=
    if r.dBiasMode = 0 then v
    else
      let t : Sty := if r.dBiasMode = 1 then .fp32 else .bf16
      let c := vecElem s p r.dBvec (styBits t) j
      if c.bad then poisonNan else stageOn v (fun x => x.add (decodeS t c.code))
  if r.dAct = 0 then v else stageOn v (actVal r.dAct (r.f 79 64) (r.f 95 80))

/-- The poison units that the scale and bias vectors occupy. -/
def vecUnits (p : Nat) (r : Rec) : List Nat :=
  (if r.dScaleMode = 2 then unitsOf (csAddr p r.dScale) (4 * r.dN) else [])
    ++ (match r.dBiasMode with
      | 1 => unitsOf (csAddr p r.dBvec) (4 * r.dN) | 2 => unitsOf (csAddr p r.dBvec) (2 * r.dN) | _ => [])

/-- The values of a tile after stage 3, row-major M × N. -/
def tileVals (s : State) (p : Nat) (r : Rec) (e : Int) (src : Nat → Nat → Nat) : List Nat :=
  (upTo r.dM).flatMap (fun i => (upTo r.dN).map (fun j => stages s p r e j (src i j)))

/-! ### amax (R91, R271) -/

/-- R91: a magnitude rounded to FP32 toward +infinity. -/
def ceilF32 (v : Val) : W32 :=
  match v with
  | .nan => 0
  | .inf _ => 0x7F800000
  | .fin _ m e =>
    let p : Flt := ⟨8, 23, 127, .ieee⟩
    let q := quantum p m e
    let k := if q ≤ e then m * 2 ^ (e - q).toNat else (m + 2 ^ (q - e).toNat - 1) / 2 ^ (q - e).toNat
    if dyLt (fltMax p).1 (fltMax p).2 k q then 0x7F800000 else BitVec.ofNat 32 (packMag p k q)

/-- The largest magnitude among values, NaN apart. -/
def amaxVal (l : List Nat) : Val := maxMags ((l.map (decodeS .acc35)).filter (fun v => !v.isNan))
/-- The largest finite magnitude among values (R271). -/
def finiteMax (l : List Nat) : Val := maxMags ((l.map (decodeS .acc35)).filter (fun v => !v.isNan && !v.isInf))

/-! ### Encoding (R59, R258) -/

/-- An encoded tile: codes with `cols` to a row, scale bytes with `cols / 32` to a row in an MX format, poison of each
code, and the events. -/
structure TileOut where
  codes : List Nat
  scales : List Nat
  bad : List Bool
  ovf : Nat
  nan : Nat
  deriving DecidableEq, Repr

/-- The rounding of element (i, j) (R61, R62, R88). -/
def drainRnd (r : Rec) (i j : Nat) : Rnd :=
  rndOf r.dRnd r.dSeed r.dTid ((r.dRow0 + i) * r.dD0 + r.dCol0 + j) 0

/-- Stage 5: values scaled by 2^e and encoded; an ACC35 output is the container itself (R68). -/
def encodeTile (r : Rec) (e : Int) (vals : List Nat) (src : Sty) : TileOut :=
  let m := r.dM
  let n := r.dN
  let at_ (i j : Nat) : Nat := vals.getD (n * i + j) 0
  let bad (i j : Nat) : Bool := decide (j < n) && (at_ i j).testBit 39
  let val (i j : Nat) : Val := if bad i j then .nan else (decodeS src (at_ i j)).scale e
  if r.dFmt = .acc35 then ⟨vals, [], vals.map (fun v => v.testBit 39), 0, 0⟩
  else if fmtMx r.dFmt then
    let nb := r.dCols / 32
    let blocks := (upTo m).flatMap (fun i => (upTo nb).map (fun b =>
      (encodeMx r.dSty ((upTo 32).map (fun k =>
        let j := 32 * b + k
        if j < n then (val i j, drainRnd r i j) else (.fin false 0 0, .rne))) r.dNov,
       (upTo 32).any (fun k => bad i (32 * b + k)))))
    { codes := blocks.flatMap (fun b => b.1.elems)
      scales := blocks.map (fun b => b.1.scale)
      bad := blocks.flatMap (fun b => List.replicate 32 b.2)
      ovf := (blocks.filter (fun b => b.1.ovf)).length
      nan := (blocks.filter (fun b => b.1.nanIn)).length }
  else
    let es := (upTo m).flatMap (fun i => (upTo n).map (fun j => encodeS r.dSty (val i j) (drainRnd r i j) r.dNov))
    { codes := es.map Enc.bits, scales := []
      bad := (upTo m).flatMap (fun i => (upTo n).map (bad i))
      ovf := (es.filter (fun x => x.ovf)).length
      nan := (es.filter (fun x => x.nanIn)).length }

/-- The value that a stored element reads as, for Wisp (R277). -/
def storedVal (r : Rec) (o : TileOut) (e : Int) (i j : Nat) : Val :=
  let c := o.codes.getD (r.dCols * i + j) 0
  if fmtMx r.dFmt then (decodeMx r.dSty (o.scales.getD (r.dCols / 32 * i + j / 32) 0) c).scale (-e)
  else (decodeS r.dSty c).scale (-e)

/-! ### Writing rows (R52, R94, R183, R240) -/

/-- The bytes of a stored row, and which of them derive from poison: none for ACC35, whose containers say so. -/
def rowOut (r : Rec) (o : TileOut) (i : Nat) : List (Byte × Bool) :=
  let c := r.dCols
  let w := styBits r.dSty
  let n := rowBytes r.dSty c
  let codes := (o.codes.drop (c * i)).take c
  let bs := toLE n (packElems w codes)
  let acc := r.dFmt == .acc35
  let bad (k : Nat) : Bool := !acc && (upTo c).any (fun j =>
    o.bad.getD (c * i + j) false && decide (w * j / 8 ≤ k) && decide (k ≤ (w * j + w - 1) / 8))
  let body := (upTo n).map (fun k => (bs.getD k 0, bad k))
  let nb := if fmtMx r.dFmt then c / 32 else 0
  body ++ (upTo nb).map (fun b => (BitVec.ofNat 8 (o.scales.getD (nb * i + b) 0), o.bad.getD (c * i + 32 * b) false))

/-- A run of bytes is stored at a device address as one store, then the words or lines that hold poisoned bytes are
poisoned. -/
def storeMarked (s : State) (a : Nat) (bs : List (Byte × Bool)) : State :=
  let s := writeMem s a (bs.map (fun b => b.1)) false
  (upTo bs.length).foldl (fun t k =>
    match bs[k]? with
    | some (b, true) => writeMem t (a + k) [b] true
    | _ => t) s

/-- R154: the drain pipeline's translation of a DVA through the core's TLB. -/
def drainXlate (s : State) (p ctx va : Nat) : State × Xres :=
  let check (t : State) (l : Leaf) : State × Xres :=
    match leafGrant l va true with
    | .fault f => (ctxCtr t ctx 0x120 1, .fault f)
    | .pa a => match paStatus t a with
      | some f => (t, .fault f)
      | none => (t, .pa a)
  match tlbFind s p ctx va with
  | some l => check s l
  | none =>
    let s := ctxCtr (coreCtr s p 0x198 1) ctx 0x118 1
    match walk s ctx va with
    | none => (ctxCtr s ctx 0x120 1, .fault 0x20)
    | some l => check (tlbFill s p l) l

/-- The parts of a run of DVAs that lie in one 4 KiB block each. -/
def blockParts (a n : Nat) : List (Nat × Nat) :=
  if n = 0 then []
  else (upTo ((a + n - 1) / 4096 - a / 4096 + 1)).map (fun k =>
    let b := (a / 4096 + k) * 4096
    (max a b, min (a + n) (b + 4096) - max a b))

/-- A drain's writes as they proceed: the state, the first fault, and whether a guest-window refusal or a discarded
write has been logged. -/
structure DrainWr where
  s : State
  fault : Nat := 0
  guest : Bool := false
  lost : Bool := false
  deriving DecidableEq, Repr

/-- A part of a row is written at its physical address (R178, R332, R341, R523). -/
def drainPart (dt q a : Nat) (bs : List (Byte × Bool)) (x : DrainWr) : DrainWr :=
  let s := x.s
  let data := bs.map (fun b => b.1)
  if inHbm a || inCs a then
    if lateDie s a && !x.lost then { x with s := noteDiscard s q [a], lost := true }
    else { x with s := storeMarked s a bs }
  else match guestOf a with
    | some g =>
      if guestServes s g a then 
        { x with s := { s with sent := s.sent ++ [.guestWr g (a - guestBase g) data (guestMap s g a (bs.map (fun b => b.2)))] } }
      else if x.guest then x
      else { x with s := logAdd s { code := 0x60, inst := g, src := 6, sev := 1, args := [a, q] }, guest := true }
    | none => if bs.any (fun b => b.2) then x else { x with s := spaceWrite s dt 0 (a - 0xC0000000000) data }

/-- A row is written at a DVA, if every part of it translates. -/
def drainRow (dt p q ctx va : Nat) (bs : List (Byte × Bool)) (x : DrainWr) : DrainWr :=
  if x.fault ≠ 0 then x
  else
    let t := (blockParts va bs.length).foldl (fun (y : State × List (Nat × Nat × Nat) × Nat) pc =>
      if y.2.2 ≠ 0 then y
      else
        let z := drainXlate y.1 p ctx pc.1
        match z.2 with
        | .fault f => (z.1, y.2.1, f)
        | .pa a => (z.1, y.2.1 ++ [(a, pc.1 - va, pc.2)], 0)) (x.s, [], 0)
    let x := { x with s := t.1, fault := t.2.2 }
    if x.fault ≠ 0 then x
    else t.2.1.foldl (fun y w => drainPart dt q w.1 ((bs.drop w.2.1).take w.2.2) y) x

/-- The rows of a tile are written to the record's destination address in ascending order; a fault stops them. -/
def drainRows (s : State) (dt p q : Nat) (r : Rec) (rows : List (List (Byte × Bool))) : State × Nat :=
  let ctx := (s.queue q).ctxNo
  let x := forUp rows.length (fun i (x : DrainWr) =>
    let bs := rows.getD i []
    if r.dLocal then { x with s := storeMarked x.s (csAddr p (r.dAddr + i * r.dStride)) bs }
    else drainRow dt p q ctx (r.dAddr + i * r.dStride) bs x) { s := s }
  (x.s, x.fault)

/-! ### Lagg slots (R95) -/

/-- Which codes of a row of `c` codes of `w` bits lie in a 64-bit word that holds a poisoned one. -/
def spreadBad (w c : Nat) (bad : List Bool) : List Bool :=
  (upTo c).map (fun j => (upTo c).any (fun k =>
    bad.getD k false && decide (w * j / 64 ≤ (w * k + w - 1) / 64) && decide (w * k / 64 ≤ (w * j + w - 1) / 64)))

/-- The slot that a drain fills. -/
def laggFill (r : Rec) (q : Nat) (seq : W32) (o : TileOut) : LaggSlot :=
  let mx := fmtMx r.dFmt
  let c := r.dCols
  let stride := if mx then c else 128
  let nb := c / 32
  let acc := r.dFmt == .acc35
  let row (l : List Nat) (i : Nat) : List Nat := ((l.drop (c * i)).take c) ++ List.replicate (stride - c) 0
  let bad (i : Nat) : List Bool := spreadBad (styBits r.dSty) stride
    (if acc then [] else (o.bad.drop (c * i)).take c)
  let blockBad (i b : Nat) : Bool := mx && decide (b < nb) && decide (i < r.dM) && o.bad.getD (c * i + 32 * b) false
  { taken := true, ready := true, seq := seq, m := r.dM, n := r.dN
    fmt := fmtCode r.dFmt, elem := r.dKind == 0 && r.dElem, queue := q
    codes := (upTo r.dM).flatMap (fun i => (row o.codes i).map (BitVec.ofNat 40))
    scales := if mx then (upTo r.dM).flatMap (fun i => (upTo 4).map (fun b =>
      if b < nb then BitVec.ofNat 8 (o.scales.getD (nb * i + b) 0) else 0)) else []
    pois := (upTo r.dM).flatMap bad
    spois := if mx then (upTo (4 * r.dM)).map (fun k =>
      (upTo 8).any (fun b => blockBad (k / 8 * 2 + b / 4) (b % 4))) else [] }

end Sys2Proof.Machine
end

