-- ==== Sys2Proof/Machine/Drain.lean ====
section
/-!
DEFINITION. The meanings of drains and Peat flushes: start, waits, execution, cold passes, Wisp
(spec/03_matrix_array.md R83 to R95, R104 to R110; spec/07_command_reference.md R240 to R243;
spec/08_training_numerics.md R258 to R279).
-/
namespace Sys2Proof.Machine

/-! ### Dispatch and start -/

/-- The scale-table entry of a record's tensor (R262). -/
def drainEntry (s : State) (q : Nat) (r : Rec) : Entry := s.entry (s.queue q).part r.dTid

/-- R261, R266: the scale exponents that a KIND drain uses are read. -/
def scaleReads (s : State) (p q : Nat) (r : Rec) : State :=
  let e := drainEntry s q r
  [r.dTid, e.srcA, e.srcB].foldl (fun t k => scaleRead t p (s.queue q).part k) s

/-- DRAIN and PEAT_FLUSH at dispatch; a KIND drain asks for its scale and those of its operands (R261, R266). -/
def drainRun (s : State) (q n : Nat) (op : Nat) : State :=
  dispatch s q n (isOp op) (fun r => checked s ⟨q, n⟩ (drainChecks s r)
    (let s := mxaEnqueue s q n r.coreNo
     if r.dKind = 0 then s
     else scaleReads s r.coreNo q r))

/-- Entry `e` of the Peat store. -/
def Mxa.peatAt (m : Mxa) (e : Nat) : Peat := tabGet m.peat {} e
/-- The array with a Peat entry replaced. -/
def Mxa.setPeat (m : Mxa) (e : Nat) (x : Peat) : Mxa := { m with peat := tabSet m.peat e x }

/-- R109: the Tied entry of a queue with a tag. -/
def Mxa.tied (m : Mxa) (q tag : Nat) : Option Nat :=
  (upTo 12).find? (fun e => let x := m.peatAt e; x.st == .tied && x.owner == q && x.tag == tag)

/-- R109: the lowest Empty entry. -/
def Mxa.emptyPeat (m : Mxa) : Option Nat := (upTo 12).find? (fun e => (m.peatAt e).st == .empty)

/-- R83, R84: the status that a drain fails with on its bank. -/
def drainBank (m : Mxa) (q : Nat) (r : Rec) : Nat :=
  if r.isFlush then 0
  else
    let b := m.bank r.dBank
    if b.st != .free && b.owner != q then 0x0E else if b.st != .opened then 0x0D else 0

/-- R105, R106, R108, R110: the status that a drain or flush fails with on the Peat store. -/
def drainPeat (m : Mxa) (q : Nat) (r : Rec) : Nat :=
  if r.isFlush then
    let e := m.peatAt r.dEntry
    if e.st != .empty && e.owner != q then 0x10 else if e.st == .lost then 0x12 else 0
  else if r.dDest = 2 then
    let e := m.peatAt r.dPeat
    if e.st != .empty && e.owner != q then 0x10
    else if r.dFirst then (if e.st = .held ∨ e.st = .tied then 0x0C else 0)
    else if e.st = .lost then 0x12
    else if e.st = .held then 0 else 0x11
  else if r.dDest = 3 then
    if (upTo 12).any (fun k => let e := m.peatAt k; e.st == .lost && e.owner == q && e.tag == r.dTag) then 0x12
    else if (m.tied q r.dTag).isSome || r.dUses == 0 || m.emptyPeat.isSome then 0 else 0x13
  else 0

/-- R271, R273: whether a drain or flush is one of a cold tensor. -/
def drainsCold (s : State) (q : Nat) (r : Rec) : Bool :=
  let e := drainEntry s q r
  let k := if r.dKind = 0 then e.kind else r.dKind
  (r.dKind != 0 || r.dAmaxEn) && decide (1 ≤ k) && decide (k ≤ 3) && decide (e.count < 16)

/-- R83, R84, R105 to R110, R268: the status that a drain or flush fails with at its start. -/
def drainStart (s : State) (p q : Nat) (r : Rec) : Nat :=
  let m := (s.core p).mxa
  let k := (drainEntry s q r).kind
  firstStatus [(drainBank m q r != 0, drainBank m q r),
    (r.dKind != 0 && k != 0 && k != r.dKind, 0x0A),
    (drainPeat m q r != 0, drainPeat m q r)]

/-- R271: a KIND 1 to 3 drain whose entry has no scale in this step. -/
def needsScale (s : State) (q : Nat) (r : Rec) : Bool :=
  decide (1 ≤ r.dKind) && decide (r.dKind ≤ 3) && !(drainEntry s q r).scaleSet

/-- R271: whether a drain that needs a scale is the one that sets it. -/
def isScaling (s : State) (q : Nat) (r : Rec) : Bool :=
  let e := drainEntry s q r
  r.dRow0 == e.originRow && r.dCol0 == e.originCol && !e.scaling

/-- R95: the next lagg slot is released. -/
def Mxa.slotFree (m : Mxa) : Bool := !(tabGet m.lagg {} m.laggNext).taken

/-- R93, R95, R271, R272: row 0 may be read. -/
def drainCan (s : State) (p q : Nat) (r : Rec) : Bool :=
  let m := (s.core p).mxa
  if needsScale s q r then isScaling s q r && m.scaling.isNone else r.dDest != 1 || m.slotFree

/-! ### Wisp (R276, R277, R279) -/

/-- R276, R279: a tile is offered; the answer says whether Wisp samples it. A selected tile is counted also while EN is
clear, and one selected while the unit is busy also as skipped. -/
def wispOffer (s : State) (p q : Nat) (r : Rec) (vals : List Nat) : State × Bool :=
  if !r.dWispEn then (s, false)
  else
    let m := (s.core p).mxa
    let n := (s.queue q).part
    let ctl := wispCtrl s n
    let sel := (m.offer.toNat + p) % 2 ^ bits ctl 28 24 == 0
    let s := setMxa s p { m with offer := m.offer + 1 }
    if !sel then (s, false)
    else
      let s := numxCtr s 0x180 1
      let m := (s.core p).mxa
      if !ctl.testBit 0 then (s, false)
      else if m.wisp.isSome then (numxCtr s 0x190 1, false)
      else
        let rs := vals.map (fun v => BitVec.ofNat 16 (rneTo .bf16 (decodeS .acc35 v)))
        (setMxa s p { m with wisp := some { tid := r.dTid, row0 := r.dRow0, col0 := r.dCol0, part := n, rs := rs, qs := [] } }, true)

/-- The stored outputs of a sampled tile reach the Wisp unit. -/
def wispFill (s : State) (p : Nat) (sel : Bool) (r : Rec) (o : TileOut) (e : Int) : State :=
  let m := (s.core p).mxa
  match sel, m.wisp with
  | true, some w =>
    setMxa s p { m with wisp := some { w with
      qs := (upTo r.dM).flatMap (fun i => (upTo r.dN).map (fun j => storedVal r o e i j)) } }
  | _, _ => s

/-- A square root rounded once to FP32. -/
def sqrtF32 (v : Val) : Val :=
  match v with
  | .fin false m e =>
    let k := 64 + (e % 2).toNat
    let x := m * 2 ^ k
    let t := isqrt x
    decodeS .fp32 (rneTo .fp32 (.fin false (2 * t + b2n (t * t != x)) ((e - k) / 2 - 1)))
  | .inf false => .inf false
  | _ => .nan

/-- A quotient of non-negative values rounded once to FP32. -/
def divF32 (a b : Val) : Nat :=
  rneTo .fp32 (match a, b with
    | .fin _ m e, .fin _ n f =>
      if n = 0 then (if m = 0 then .nan else .inf false)
      else
        let x := m * 2 ^ (64 + n.log2)
        .fin false (2 * (x / n) + b2n (x % n != 0)) (e - f - 64 - n.log2 - 1)
    | .fin _ _ _, .inf _ => .fin false 0 0
    | .inf _, .fin _ _ _ => .inf false
    | _, _ => .nan)

/-- R277: Σ (q − r)² and Σ r² in ACC35, and whether a finite r has a q that is not finite. -/
def wispSums (w : WispTask) : Nat × Nat × Bool :=
  (upTo w.rs.length).foldl (fun a i =>
    let r := decodeS .bf16 (w.rs.getD i 0).toNat
    let q := w.qs.getD i .nan
    if r.isNan then a
    else if q.isNan then a
    else
      let d := q.add r.negate
      let acc (x : Nat) (y : Val) : Nat := rneTo .acc35 ((decodeS .acc35 x).add y)
      (acc a.1 (d.mul d), acc a.2.1 (r.mul r), a.2.2 || (!r.isInf && q.isInf))) (0, 0, false)

/-- R277: a finite r whose q is NaN: a NaN is not finite. -/
def wispLost (w : WispTask) : Bool :=
  (upTo w.rs.length).any (fun i =>
    let r := decodeS .bf16 (w.rs.getD i 0).toNat
    !r.isNan && !r.isInf && (w.qs.getD i .nan).isNan)

/-- R278: what an excursion does. -/
def wispExcursion (s : State) (p : Nat) (w : WispTask) (err : Nat) : State :=
  let e := s.entry w.part w.tid
  let has := decide (w.tid < 65536)
  let step := if has then e.commits.toNat else 0xFFFFFFFF
  let args := [w.tid + step * 2 ^ 32, w.row0, w.col0 + err * 2 ^ 32]
  let s := logAdd s { code := 0x33, inst := p, src := 1, sev := 0, args := args }
  let s := numxCtr s 0x188 1
  if has then
    s.setEntry w.part w.tid { e with
      wispExc := satAdd 32 e.wispExc 1, wispStep := e.commits
      force := e.force || (wispCtrl s w.part).testBit 1 }
  else s

/-- WISP_RESULT (R277, R278). -/
def wispDone (s : State) (p : Nat) : State :=
  let m := (s.core p).mxa
  match m.wisp with
  | none => s
  | some w =>
    if (match m.scaling with | some d => d.wispSel | none => false) then s
    else
      let x := wispSums w
      let s1 := decodeS .acc35 x.1
      let s2 := decodeS .acc35 x.2.1
      let err := divF32 (sqrtF32 s1) (sqrtF32 s2)
      let th := bits (wispCtrl s w.part) 39 32
      let s := setMxa s p { m with wisp := none }
      if (Val.fin false 1 (-(th : Int))).lt (decodeS .fp32 err)
          || (s2.isZero && (Val.fin false 0 0).lt s1) || x.2.2 || wispLost w then wispExcursion s p w err
      else s

/-! ### Execution -/

/-- What a drain's completion reports. -/
structure DrainFin where
  status : Nat := 0
  amax : W32 := 0
  ovf : Nat := 0
  nan : Nat := 0
  seq : Nat := 0
  cycles : Nat := 0
  remain : Nat := 0
  entry : Nat := 0
  wisp : Bool := false
  cold : Bool := false
  poison : Bool := false
  deriving DecidableEq, Repr

/-- A drain or flush that has read its rows completes, also one whose write has faulted: it is recorded, counted and
reported (R91, R112, R237, R268). -/
def drainEnd (s : State) (p : Nat) (c : CmdRef) (r : Rec) (f : DrainFin) : State :=
    let s := if r.dKind ≠ 0 ∨ r.dAmaxEn then recordAmax s (s.queue c.q).part r.dTid r.dKind f.amax f.ovf else s
    let s := coreCtr s p 0x138 1
    complete s c {
      status := f.status
      res0 := f.amax.toNat
      res1 := satW 16 f.ovf + satW 16 f.nan * 2 ^ 16 + f.seq * 2 ^ 32
      res2 := satW 32 f.cycles + f.remain * 2 ^ 32 + f.entry * 2 ^ 40 + b2n f.wisp * 2 ^ 44
      poison := f.poison, cold := f.cold }

/-- R261: the exponent of an operand's entry. -/
def srcExp (s : State) (p n t : Nat) : Int := if t = 0xFFFF then 0 else (scaleExp s p n t).getD 0

/-- R258: the descale exponent of a record. -/
def descale (s : State) (p q : Nat) (r : Rec) : Int :=
  if r.dKind = 0 then 0
  else
    let n := (s.queue q).part
    let e := s.entry n r.dTid
    srcExp s p n e.srcA + srcExp s p n e.srcB

/-- The elements that a drain or flush reads, in containers (R86). -/
def drainSrc (m : Mxa) (r : Rec) (i j : Nat) : Nat :=
  if r.isFlush then tileAt (m.peatAt r.dEntry).tile i j
  else
    let b := m.bank r.dBank
    bankValue b.int (tileAt b.tile i j)

/-- R94, R95: an encoded tile goes to its address or to its lagg slot: the state, the fault and the sequence number. -/
def drainPut (s : State) (dt p q : Nat) (r : Rec) (o : TileOut) : State × Nat × Nat :=
  if r.dDest = 1 then
    let m := (s.core p).mxa
    (setMxa s p { m with
      lagg := tabSet m.lagg m.laggNext (laggFill r q m.laggSeq o)
      laggNext := (m.laggNext + 1) % 8, laggSeq := m.laggSeq + 1 }, 0, m.laggSeq.toNat)
  else
    let x := drainRows s dt p q r (if r.dN = 0 then [] else (upTo r.dM).map (rowOut r o))
    (x.1, x.2, 0)

/-- A tile of 128 × 128 containers from M × N values; `out` gives the elements outside it. -/
def tileOf (r : Rec) (vals : List Nat) (inn : Nat → Nat → Nat → Nat) (out : Nat → Nat → Nat) : List W40 :=
  (upTo 128).flatMap (fun i => (upTo 128).map (fun j =>
    BitVec.ofNat 40 (if i < r.dM ∧ j < r.dN then inn i j (vals.getD (r.dN * i + j) 0) else out i j)))

/-- R106, R109: a tile that starts an entry. -/
def peatCopy (r : Rec) (vals : List Nat) : List W40 := tileOf r vals (fun _ _ v => v) (fun _ _ => 0)
/-- R106, R109: a tile added into an entry, each sum rounded once. -/
def peatAdd (r : Rec) (vals : List Nat) (t : List W40) : List W40 :=
  tileOf r vals (fun i j v => wideAdd (tileAt t i j) v) (tileAt t)

/-- R106: an add into a split-K entry. -/
def peatHold (s : State) (p q : Nat) (r : Rec) (vals : List Nat) : State :=
  let m := (s.core p).mxa
  let t := if r.dFirst then peatCopy r vals else peatAdd r vals (m.peatAt r.dPeat).tile
  setMxa s p (m.setPeat r.dPeat { st := .held, owner := q, tile := t })

/-- R109: the rows of a tied entry's final write. -/
def tieRows (t : List W40) : List (List (Byte × Bool)) :=
  (upTo 128).map (fun i =>
    (toLE 640 (packElems 40 ((upTo 128).map (tileAt t i)))).map (fun b => (b, false)))

/-- R109, R110: a tie contribution: the entry used, the count left, and after the last one the write, which counts beside
the drain (R112). -/
def peatTie (s : State) (dt p : Nat) (c : CmdRef) (r : Rec) (vals : List Nat) (f : DrainFin) : State :=
  let m := (s.core p).mxa
  let slot : Option (Nat × Peat) :=
    match m.tied c.q r.dTag with
    | some e => let x := m.peatAt e
      some (e, { x with count := x.count - 1, tile := peatAdd r vals x.tile })
    | none =>
      if r.dUses = 0 then none
      else m.emptyPeat.map (fun e =>
        (e, { st := .tied, owner := c.q, tag := r.dTag, count := r.dUses - 1, tile := peatCopy r vals }))
  match slot with
  | none => drainEnd s p c r f
  | some (e, x) =>
    let s := setMxa s p (m.setPeat e x)
    let f := { f with entry := e, remain := x.count }
    if x.count ≠ 0 then drainEnd s p c r f
    else if r.dLocal && rowsOut r.dAddr r.dStride 128 640 then drainEnd s p c r { f with status := 0x22 }
    else
      let y := drainRows s dt p c.q r (tieRows x.tile)
      let s := if y.2 = 0 then coreCtr (setMxa y.1 p ((y.1.core p).mxa.setPeat e {})) p 0x138 1 else y.1
      drainEnd s p c r { f with status := y.2, poison := f.poison || x.tile.any (fun v => v.toNat.testBit 39) }

/-- The values of a tile in one pass, encoded and sent to their destination (R93, R94, R105 to R109). -/
def drainOnce (s : State) (dt p : Nat) (c : CmdRef) (r : Rec) (vals : List Nat) (f : DrainFin) : State :=
  let e : Int := if decide (1 ≤ r.dKind) && decide (r.dKind ≤ 3) then (scaleExp s p (s.queue c.q).part r.dTid).getD 0 else 0
  let o := encodeTile r e vals .acc35
  let s := wispFill s p f.wisp r o e
  let f := { f with ovf := o.ovf, nan := o.nan }
  if r.isFlush then
    let x := (s.core p).mxa.peatAt r.dEntry
    let y := drainPut s dt p c.q r o
    let s := if y.2.1 = 0 then setMxa y.1 p ((y.1.core p).mxa.setPeat r.dEntry {}) else y.1
    drainEnd s p c r { f with status := y.2.1, seq := y.2.2, entry := r.dEntry, remain := x.count }
  else if r.dDest = 2 then drainEnd (peatHold s p c.q r vals) p c r { f with entry := r.dPeat }
  else if r.dDest = 3 then peatTie s dt p c r vals f
  else
    let y := drainPut s dt p c.q r o
    drainEnd y.1 p c r { f with status := y.2.1, seq := y.2.2 }

/-- R271: pass 1 of a scaling drain: the cold buffer is filled and t is sent to the hub. A scaling flush keeps its entry
until its pass 2 has written it. -/
def drainCold (s : State) (p : Nat) (c : CmdRef) (r : Rec) (vals : List Nat) (f : DrainFin) : State :=
  let n := (s.queue c.q).part
  let cold (k : Nat) : Enc :=
    let i := k / r.dN
    encodeS .bf16 (decodeS .acc35 (vals.getD k 0)) (if r.dKind = 3 then drainRnd r i (k % r.dN) else .rne) false
  let s := s.setEntry n r.dTid { s.entry n r.dTid with scaling := true }
  let m := (s.core p).mxa
  setMxa s p { m with
    coldBuf := (upTo vals.length).map (fun k => BitVec.ofNat 16 (cold k).bits)
    scaling := some {
      ref := c, vals := vals.map (BitVec.ofNat 40), t := finiteMax vals, amax := f.amax
      overs := (upTo vals.length).map (fun k => (cold k).ovf)
      cold := f.cold, wispSel := f.wisp, poison := f.poison } }

/-- R108, R106, R109: the entry of the Peat store whose values a drain or flush reads. -/
def peatRead (m : Mxa) (q : Nat) (r : Rec) : Option Nat :=
  if r.isFlush then some r.dEntry
  else match r.dDest with
  | 2 => if r.dFirst then none else some r.dPeat
  | 3 => m.tied q r.dTag
  | _ => none

/-- Whether element `k` of a tile of 40-bit containers lies in one of some 64-bit words. -/
def inWords (ws : List Nat) (k : Nat) : Bool := ws.any (fun w => decide (40 * k / 64 ≤ w) && decide (w ≤ (40 * k + 39) / 64))

/-- R113, R184, R479: uncorrectable errors are found in the 64-bit words `ws` of a Peat entry: the elements that they hold
become poisoned, and each is logged and stands among the core's errors. The store is not addressable (R104): the words are
told apart by places in the core's window beyond its core store, and the address logged is free. -/
def peatDetect (s : State) (p e : Nat) (ws : List Nat) : State :=
  let m := (s.core p).mxa
  let x := m.peatAt e
  let s := setMxa s p (m.setPeat e { x with tile := (upTo 16384).map (fun k =>
    if inWords ws k then BitVec.ofNat 40 poisonNan else x.tile.getD k 0) })
  ws.foldl (fun t w =>
    let k := t.core p
    let t := t.setCore p { k with ras := { k.ras with uncorr := k.ras.uncorr ++ [(t.uptime, csBase p + csSize + 81920 * e + 8 * w)] } }
    logAdd { t with freeN := t.freeN + 2 } { code := 0x32, inst := p, src := 1, sev := 2
                                             args := [(Config.freeWord t.freeN).toNat, (Config.freeWord (t.freeN + 1)).toNat] }) s

/-- R93: row 0 is read, and the rows run through the stages. `words` lists the words found uncorrectable in the Peat entry
that is read (R113). The bank is free once its last row is read (R83), whatever becomes of the writes. -/
def drainGo (s : State) (dt p : Nat) (words : List Nat) (c : CmdRef) (r : Rec) : State :=
  let ws := (words.filter (fun w => decide (w < 10240))).eraseDups
  let s := match peatRead (s.core p).mxa c.q r with
    | some e => if ws.isEmpty then s else peatDetect s p e ws
    | none => s
  let s := if r.dKind = 0 then s else scaleReads s p c.q r
  let k := s.core p
  let some_ := r.dM != 0 && r.dN != 0
  if k.ras.injDrain && some_ then parityHalt (s.setCore p { k with ras := { k.ras with injDrain := false } }) p 2
  else
    let vals := tileVals s p r (descale s p c.q r) (drainSrc k.mxa r)
    let us := if some_ then vecUnits p r else []
    let first := needsScale s c.q r
    let f : DrainFin := {
      amax := ceilF32 (amaxVal vals)
      cold := drainsCold s c.q r
      poison := vals.any (fun v => v.testBit 39) || us.any (unitBad s) }
    let s := loadUnits s p us
    let m := (s.core p).mxa
    let m := if r.isFlush then m else m.setBank r.dBank {}
    let w := wispOffer (setMxa s p { m with drainWait := none }) p c.q r vals
    let f := { f with wisp := w.2 }
    if first then drainCold w.1 p c r vals f else drainOnce w.1 dt p c r vals f

/-- The head of the stream starts, if it is a drain or flush whose chain has added its last group (R85); while the
pipeline is busy it can only fail on its bank (R83). -/
def drainHead (s : State) (dt p : Nat) (words : List Nat) (busy : Bool) : State :=
  let m := (s.core p).mxa
  let ok (c : CmdRef) : Bool :=
    match findRec s c with
    | none => false
    | some r => r.opcode == 3 || (r.opcode == 2 && !m.issued.any (fun o => o.bank == b2n r.dBank))
  match pickRef m.waiting m.lastQ ok with
  | none => s
  | some c =>
    match findRec s c with
    | none => s
    | some r =>
      let h := if busy then drainBank m c.q r else drainStart s p c.q r
      if h ≠ 0 then
        let s := mxaTake s p c
        let m := (s.core p).mxa
        let s := if r.isFlush && h == 0x12 then setMxa s p (m.setPeat r.dEntry {}) else s
        complete s c { status := h, cold := drainsCold s c.q r }
      else if busy then s
      else
        let s := mxaTake s p c
        let m := (s.core p).mxa
        if r.isFlush && (m.peatAt r.dEntry).st == .empty then
          let w := wispOffer s p c.q r []
          drainEnd w.1 p c r { wisp := w.2, cold := drainsCold s c.q r }
        else
          let n := (s.queue c.q).part
          let e := s.entry n r.dTid
          let s := if r.dKind ≠ 0 ∧ e.kind = 0 then s.setEntry n r.dTid { e with kind := r.dKind } else s
          let m := if r.isFlush then m else m.setBank r.dBank { m.bank r.dBank with st := .draining }
          let s := setMxa s p { m with drainWait := some ⟨c, r.at_⟩ }
          if drainCan s p c.q r then sramSweep (drainGo s dt p words c r) else s

/-- DRAIN_START (R85, R93): the drain in the pipeline reads its rows, or the next one takes the pipeline. -/
def drainNext (s : State) (p dt : Nat) (words : List Nat) : State :=
  if !mxaReady s p then s
  else
    match (s.core p).mxa.drainWait with
    | none => drainHead s dt p words false
    | some w =>
      match findRec s w.ref with
      | none => s
      | some r => if drainCan s p w.ref.q r then sramSweep (drainGo s dt p words w.ref r) else drainHead s dt p words true

/-- R271: pass 2 of a scaling drain; OVF counts the elements that overflowed in either pass (R65). -/
def drainPass2 (s : State) (dt p cold : Nat) (d : ScalingDrain) (r : Rec) : State :=
  let c := d.ref
  let e := (drainEntry s c.q r).exp
  let m := (s.core p).mxa
  let vals := (upTo d.vals.length).map (fun k =>
    (m.coldBuf.getD k 0).toNat + (if (d.vals.getD k 0).toNat.testBit 39 then poisonBit else 0))
  let o := encodeTile r e vals .bf16
  let again (k : Nat) : Bool :=
    (encodeS r.dSty ((decodeS .bf16 (vals.getD k 0)).scale e) (drainRnd r (k / r.dN) (k % r.dN)) r.dNov).ovf
  let more := ((upTo vals.length).filter (fun k => d.overs.getD k false && !again k)).length
  let s := wispFill s p d.wispSel r o e
  let s := coreCtr s p 0x170 (if (s.core p).ve.cmd.isSome && r.dN != 0 then ceilDiv r.dM 2 else 0)
  let s := setMxa s p { (s.core p).mxa with scaling := none, coldBuf := [] }
  let x := (s.core p).mxa.peatAt r.dEntry
  let y := drainPut s dt p c.q r o
  let s := if r.isFlush && y.2.1 == 0 then setMxa y.1 p ((y.1.core p).mxa.setPeat r.dEntry {}) else y.1
  drainEnd s p c r {
    status := y.2.1, amax := d.amax, ovf := o.ovf + more, nan := o.nan, seq := y.2.2, cycles := cold
    remain := if r.isFlush then x.count else 0, entry := if r.isFlush then r.dEntry else 0
    wisp := d.wispSel, cold := d.cold, poison := d.poison }

/-- SCALE_ANSWER (R271 to R273): the hub answers, and pass 2 runs once its lagg slot is free. -/
def scaleAnswered (s : State) (p cold dt : Nat) : State :=
  if !mxaReady s p then s
  else
    match (s.core p).mxa.scaling with
    | none => s
    | some d =>
      match findRec s d.ref with
      | none => s
      | some r =>
        let s := if d.answered then s else numxCtr (scaleAnswer s (s.queue d.ref.q).part r.dTid d.t) 0x198 1
        let m := (s.core p).mxa
        if r.dDest = 1 ∧ !m.slotFree then setMxa s p { m with scaling := some { d with answered := true } }
        else sramSweep (drainPass2 s dt p cold d r)

/-- SCALE_WAIT_TIMEOUT (R272): the waiting drain fails, and its bank returns to Open. -/
def scaleTimeout (s : State) (p : Nat) : State :=
  let m := (s.core p).mxa
  match m.drainWait with
  | none => s
  | some w =>
    match findRec s w.ref with
    | none => s
    | some r =>
      if !mxaReady s p || !needsScale s w.ref.q r || isScaling s w.ref.q r
          || decide (s.tick.last < w.since + 2 * tickStep s.tick.sel) then s
      else
        let m := if r.isFlush then m else m.setBank r.dBank { m.bank r.dBank with st := .opened }
        complete (numxCtr (setMxa s p { m with drainWait := none }) 0x1A8 1) w.ref
          { status := 0x0A, cold := drainsCold s w.ref.q r }

/-- DRAIN (R240 to R243). -/
def execDrain (q : Fin 64) (n : Nat) (s : State) : Host.Outcome State Fault Refusal := .next (drainRun s q n 2)
/-- PEAT_FLUSH (R108, R243). -/
def execPeatFlush (q : Fin 64) (n : Nat) (s : State) : Host.Outcome State Fault Refusal := .next (drainRun s q n 3)
/-- DRAIN_START (R93, R113). -/
def execDrainStart (p : Fin 256) (w : DrainInput) (s : State) : Host.Outcome State Fault Refusal :=
  .next (drainNext s p w.dt w.words)
/-- SCALE_ANSWER (R271). -/
def execScaleAnswer (p : Fin 256) (cold dt : Nat) (s : State) : Host.Outcome State Fault Refusal :=
  .next (scaleAnswered s p cold dt)
/-- SCALE_WAIT_TIMEOUT (R272). -/
def execScaleWaitTimeout (p : Fin 256) (s : State) : Host.Outcome State Fault Refusal := .next (scaleTimeout s p)
/-- WISP_RESULT (R277). -/
def execWispResult (p : Fin 256) (s : State) : Host.Outcome State Fault Refusal := .next (wispDone s p)

end Sys2Proof.Machine
end

