-- ==== Sys2Proof/Machine/FabAns.lean ====
section
/-!
DEFINITION. The meanings of the answers to this package's fabric requests (spec/12_causeway_fabric.md R385).
-/
namespace Sys2Proof.Machine

/-- A demand request ends in a fault. -/
def failReq (s : State) (w : ReqId) (st num : Nat) : State :=
  let s := mapRun s w.p w.eng (fun h => { h with out := h.out.filter (fun q => q.id != w.id) })
  heronCheck (heronFault s w.p w.eng st num) w.p w.eng

/-- R385: what a Heron request's answer does to it. -/
def heronAnswer (s : State) (w : ReqId) (stat : Nat) (data : List Byte) (pmap : List Bool) : State :=
  match findReq s w with
  | none => s
  | some (_, q) =>
    let base := q.far / 64 * 64
    let all : HSeg → Bool := fun _ => true
    match stat with
    | 0 =>
      if q.wr then heronRetire (keepSegs s w (fun _ => false)) w.p w.eng w.id
      else deliverSegs s w all (fun _ gs => dataChunks base data (fun a => pmap.getD ((a - base) / 64) false) gs)
    | 1 =>
      if q.wr then heronRetire (keepSegs (heronDiscard s w.p w.eng q.far) w (fun _ => false)) w.p w.eng w.id
      else
        let d := drawBytes s (q.far - base + q.total)
        deliverSegs d.2 w all (fun _ gs => dataChunks base d.1 (fun _ => true) gs)
    | 2 => failReq s w 0x69 q.num
    | _ => failReq s w 0x21 q.num

/-- R217, R385: what the answer to a remote FENCE_SIGNAL does to it. The value of the remote counter is free: the answer
does not carry it. STAT 1 is no answer to a fence signal. -/
def fenceAnswer (s : State) (c : CmdRef) (stat : Nat) : State :=
  match stat with
  | 0 => complete { s with freeN := s.freeN + 1 } c { res1 := (Config.freeWord s.freeN).toNat % 2 ^ 38 }
  | 2 => completeSt s c 0x69
  | _ => completeSt s c 0x68

/-- An answer packet of a type arrives on a port. -/
def answered (s : State) (k : Nat) (p : Packet) (t : Nat) : State :=
  received s k p t (fun s =>
    match takeRequest s p.tid p.src with
    | none => s
    | some (r, u) =>
      match r.owner with
      | .heron c e id =>
        if t = 6 ∨ r.wr ≠ (t == 4) then s else sramSweep (heronAnswer u ⟨c, e, id⟩ p.stat p.data p.pmap)
      | .fence c => if t = 6 ∧ p.stat ≠ 1 then fenceAnswer u c p.stat else s)

/-- RD_RSP (R385). -/
def execRdRsp (k : Fin 64) (p : Packet) (s : State) : Host.Outcome State Fault Refusal := .next (answered s k p 2)
/-- CW_WR_ACK (R385). -/
def execCwWrAck (k : Fin 64) (p : Packet) (s : State) : Host.Outcome State Fault Refusal := .next (answered s k p 4)
/-- FENCE_ACK (R217, R385). -/
def execFenceAck (k : Fin 64) (p : Packet) (s : State) : Host.Outcome State Fault Refusal := .next (answered s k p 6)

/-- FABRIC_TIMEOUT: the oldest request with a TID has had no answer within FAB.CFG.TIMEOUT (R385). -/
def execFabricTimeout (tid : Fin 65536) (s : State) : Host.Outcome State Fault Refusal :=
  .next (
    match s.fab.reqs.find? (fun r => r.tid == tid.val) with
    | none => s
    | some r =>
      let u := { s with fab := { s.fab with reqs := s.fab.reqs.erase r } }
      match r.owner with
      | .heron c e id => heronAnswer u ⟨c, e, id⟩ 2 [] []
      | .fence c => completeSt u c 0x69)

end Sys2Proof.Machine
end

