-- ==== Sys2Proof/Machine/HostCmds.lean ====
section
/-!
DEFINITION. The meanings of the host's commands: links and functions, BAR4, translation contexts, registers
(spec/17_host_registers.md R517 to R549; spec/18_electrical_package.md R566, R569; spec/15_bringup_reset_yield.md R474 to
R488).
-/
namespace Sys2Proof.Machine

/-! ### Function resets and the link (R519, R549, R566, R569) -/

/-- R549: the functions that a reset of function `f` resets: the PF's resets every one. -/
def flrScope (f : Nat) : List Nat := if f = 0 then upTo 9 else [f]

/-- R549: a Function Level Reset of function `f` starts. -/
def flrStart (s : State) (f : Nat) : State :=
  let fs := flrScope f
  let qs := (s.queues.filter (fun e => fs.contains e.2.func && e.2.st != .disabled)).map (fun e => e.1)
  let s := { s with host := { s.host with flrs := fs.foldl setIns s.host.flrs } }
  let s := qs.foldl (fun t q => disableDone (disableQueue t q) q) s
  let s := if f = 0 then
      { s with host := { s.host with irqStat := 0, irqMask := 0, bar4Base := 0, vfEnable := false } }
    else s
  flrSweep s

/-- R549: at 90 ms what still executes for the functions under reset is ended by a reset of its units. -/
def flrTimeout (s : State) : State :=
  let qs := (s.queues.filter (fun e => s.host.flrs.contains e.2.func && e.2.draining)).map (fun e => e.1)
  let busy := (s.cores.filter (fun (c : Nat × Core) => (executing c.2).any (fun r => qs.contains r.q))).map (fun c => c.1)
  let s := busy.foldl (fun t p => resetCore t p 0xA3) s
  let s := qs.foldl (fun t q =>
    let left := (frameRecs (t.queue q)).filter (fun r => !r.isDone)
    disableDone (left.foldl (fun u r => completeSt u ⟨q, r.n⟩ 0xA3) t) q) s
  flrSweep s

/-- R566, R569: the link goes down, with the effect of an FLR of the PF in Active or Dormant. -/
def linkDown (s : State) : State :=
  let up := s.pst == .active || s.pst == .dormant
  let s := { s with host := { s.host with linkUp := false } }
  if up then flrStart s 0 else s

/-- REFCLK_A_LOSS: no edge of refclk_a for 10 µs (R569). -/
def execRefclkALoss (s : State) : Host.Outcome State Fault Refusal :=
  .next (if vsbUp s then linkDown { s with host := { s.host with refclkA := false } } else s)

/-- PERST: pcie_perst_n is asserted (R566). -/
def execPerst (s : State) : Host.Outcome State Fault Refusal :=
  .next (if vsbUp s && !s.host.perst then linkDown { s with host := { s.host with perst := true } } else s)

/-- PERST_RELEASE: pcie_perst_n is deasserted, with its clock stable, and the link trains again (R566). -/
def execPerstRelease (s : State) : Host.Outcome State Fault Refusal :=
  .next (
    if !vsbUp s then s
    else
      let up := s.pst == .active || s.pst == .dormant
      { s with host := { s.host with perst := false, refclkA := true, linkUp := up } })

/-- FUNCTION_LEVEL_RESET of function `f` (R549). -/
def execFunctionLevelReset (f : Fin 9) (s : State) : Host.Outcome State Fault Refusal :=
  .next (if served s && fnExists s f then flrStart s f else s)

/-- FLR_TIMEOUT: 90 ms after an FLR (R549). -/
def execFlrTimeout (s : State) : Host.Outcome State Fault Refusal := .next (flrTimeout s)

/-- VF_ENABLE: VF Enable is set with NumVFs `n` (R519). -/
def execVfEnable (n : Fin 9) (s : State) : Host.Outcome State Fault Refusal :=
  .next (
    if served s && !s.host.vfEnable then { s with host := { s.host with vfEnable := true, numVfs := n } } else s)

/-- VF_ENABLE_CLEAR: acts as an FLR of every VF (R519). -/
def execVfEnableClear (s : State) : Host.Outcome State Fault Refusal :=
  .next (
    if served s && s.host.vfEnable then
      let s := forUp s.host.numVfs (fun v t => flrStart t (v + 1)) s
      { s with host := { s.host with vfEnable := false } }
    else s)

/-! ### BAR4 (R541, R542) -/

/-- BAR4_RESIZE: the PF's BAR4 becomes 2^(30 + k) bytes, and BAR4_BASE 0 (R541). -/
def execBar4Resize (k : Fin 12) (s : State) : Host.Outcome State Fault Refusal :=
  .next (if served s then { s with host := { s.host with bar4Log := 30 + k, bar4Base := 0 } } else s)

/-- BAR4_BASE_WRITE (R541). -/
def execBar4BaseWrite (v : W64) (s : State) : Host.Outcome State Fault Refusal :=
  .next (pfAccess s (bar4BaseWrite s v.toNat))

/-- R541: whether BAR4 may reach a physical run: enabled HBM of a die that is not fenced. -/
def bar4Hbm (s : State) (a n : Nat) : Bool := (linesOf a n).all (fun l => hbmOk s l && !lateDie s l)

/-- Where `n` bytes at offset `o` of function `f`'s BAR4 lie; none where the access is refused. The bytes of a VF lie in
one page of its context. -/
def bar4Target (s : State) (f o n : Nat) (wr : Bool) : Option Nat :=
  if f = 0 then
    let a := s.host.bar4Base.toNat + o
    if o + n ≤ 2 ^ s.host.bar4Log ∧ bar4Hbm s a n then some a else none
  else
    let b := bits s.host.vfCtx.toNat (8 * f - 1) (8 * (f - 1))
    if !b.testBit 7 ∨ 2 ^ 36 < o + n then none
    else match xlate s (b % 64) o wr, xlate s (b % 64) (o + n - 1) wr with
      | .pa a, .pa z => if z = a + n - 1 ∧ bar4Hbm s a n then some a else none
      | _, _ => none

/-- R545: an access through a VF's BAR4 is a walk of its context, and a demand fault where it is refused. -/
def bar4Note (s : State) (f o n : Nat) (wr : Bool) : State :=
  let b := bits s.host.vfCtx.toNat (8 * f - 1) (8 * (f - 1))
  if f = 0 ∨ !b.testBit 7 then s
  else vnote s (b % 64) o n (match xlate s (b % 64) o wr with | .fault x => some x | .pa _ => none)

/-- BAR4_READ of `n` bytes: code 0, or 2 for a completion marked poisoned, or 1 for Unsupported Request (R541, R542). In
Dormant it is Unsupported Request (R518). -/
def execBar4Read (f : Fin 9) (o n : Nat) (s : State) : Host.Outcome State Fault Refusal :=
  .next (
    if !served s || !fnExists s f || n = 0 then s
    else if s.pst = .dormant then respond s 1 []
    else
      let t := bar4Target s f o n false
      let s := bar4Note s f o n false
      match t with
      | none => respond (hostCtr s 0x250 1) 1 []
      | some a =>
        let s := detect s a n
        respond s (if rangeBad s a n then 2 else 0) (readBytes s a n))

/-- BAR4_WRITE of bytes; `ep` when they arrive marked poisoned. A refused write is discarded and counted (R541, R542). -/
def execBar4Write (f : Fin 9) (o : Nat) (data : List Byte) (ep : Bool) (s : State) : Host.Outcome State Fault Refusal :=
  .next (
    if !served s || !fnExists s f || data.isEmpty || s.pst == .dormant then s
    else if ep then hostCtr s 0x250 1
    else
      let t := bar4Target s f o data.length true
      let s := bar4Note s f o data.length true
      match t with
      | none => hostCtr s 0x250 1
      | some a => writeMem s a data false)

/-! ### Translation contexts (R545, R546) -/

/-- XLAT_ROOT_WRITE (R545). -/
def execXlatRootWrite (c : Fin 64) (v : W64) (s : State) : Host.Outcome State Fault Refusal :=
  .next (pfAccess s (rootWrite s c v.toNat))

/-- XLAT_INV (R546). -/
def execXlatInv (c : Fin 64) (v : W64) (s : State) : Host.Outcome State Fault Refusal :=
  .next (pfAccess s (invWrite s c v.toNat))

/-- XLAT_INV_COMPLETE (R546). -/
def execXlatInvComplete (c : Fin 64) (s : State) : Host.Outcome State Fault Refusal := .next (invComplete s c)

/-! ### Resets and fences by the host (R474 to R479, R488) -/

/-- CORE_RESET: BRING.RESET with SCOPE 0. -/
def execCoreReset (p : Fin 256) (s : State) : Host.Outcome State Fault Refusal := .next (pfAccess s (resetWrite s p))
/-- CLUSTER_RESET: BRING.RESET with SCOPE 1. -/
def execClusterReset (c : Fin 256) (s : State) : Host.Outcome State Fault Refusal :=
  .next (pfAccess s (resetWrite s (2 ^ 62 + c)))
/-- PARTITION_RESET: BRING.RESET with SCOPE 2. -/
def execPartitionReset (n : Fin 256) (s : State) : Host.Outcome State Fault Refusal :=
  .next (pfAccess s (resetWrite s (2 ^ 63 + n)))
/-- FENCE_CORE_REQUEST: BRING.FENCE with SCOPE 0. -/
def execFenceCoreRequest (p : Fin 256) (s : State) : Host.Outcome State Fault Refusal :=
  .next (pfAccess s (fenceReqWrite s p))
/-- FENCE_CLUSTER_REQUEST: BRING.FENCE with SCOPE 1. -/
def execFenceClusterRequest (c : Fin 256) (s : State) : Host.Outcome State Fault Refusal :=
  .next (pfAccess s (fenceReqWrite s (2 ^ 62 + c)))

/-! ### Injected errors (R525) -/

/-- A write of PAGE_ERR_INJECT of core `p` with one bit. -/
def injectBit (s : State) (p b : Nat) : State := pfAccess s (regPut s 0 (0x1000 + p) 0x030 (2 ^ b))

/-- INJECT_CS_UNCORR. -/
def execInjectCsUncorr (p : Fin 256) (s : State) : Host.Outcome State Fault Refusal := .next (injectBit s p 11)
/-- INJECT_DRAIN_PARITY. -/
def execInjectDrainParity (p : Fin 256) (s : State) : Host.Outcome State Fault Refusal := .next (injectBit s p 10)
/-- INJECT_VE_PARITY. -/
def execInjectVeParity (p : Fin 256) (s : State) : Host.Outcome State Fault Refusal := .next (injectBit s p 9)
/-- INJECT_MXA_PARITY. -/
def execInjectMxaParity (p : Fin 256) (s : State) : Host.Outcome State Fault Refusal := .next (injectBit s p 8)
/-- INJECT_REG_PARITY: of page `pg` of the page index. -/
def execInjectRegParity (pg : Fin 16384) (s : State) : Host.Outcome State Fault Refusal :=
  .next (pfAccess s (regPut s 0 pg 0x030 8))

/-! ### Maps, counters and any other register -/

/-- PARTITION_MAP_WRITE: HOST.PART_MAP[r] (R538). -/
def execPartitionMapWrite (r : Fin 4) (v : W64) (s : State) : Host.Outcome State Fault Refusal :=
  .next (pfAccess s (partMapWrite s r v.toNat))
/-- FENCE_MAP_WRITE: HOST.FENCE_MAP[i] (R539). -/
def execFenceMapWrite (i : Fin 32) (v : W64) (s : State) : Host.Outcome State Fault Refusal :=
  .next (pfAccess s (fenceMapWrite s i v.toNat))
/-- FENCE_CNT_WRITE: FENCE.CNT[i] (R540). -/
def execFenceCntWrite (i : Fin 256) (v : W64) (s : State) : Host.Outcome State Fault Refusal :=
  .next (pfAccess s (fenceCntWrite s i v.toNat))

/-- REGISTER_WRITE: function `f` writes bytes at an offset of the register space, `dt` ns after the last tick (R522 to
R524). -/
def execRegisterWrite (f : Fin 9) (ofs dt : Nat) (data : List Byte) (s : State) : Host.Outcome State Fault Refusal :=
  .next (if served s && fnExists s f then spaceWrite s dt f ofs data else s)

/-- REGISTER_READ: function `f` reads `n` bytes at an offset of the register space, `dt` ns after the last tick (R522 to
R524). -/
def execRegisterRead (f : Fin 9) (ofs dt n : Nat) (s : State) : Host.Outcome State Fault Refusal :=
  .next (
    if served s && fnExists s f then
      let r := spaceRead s dt f ofs n
      respond r.1 0 r.2
    else s)

end Sys2Proof.Machine
end

