-- ==== Sys2Proof/Machine/Links.lean ====
section
/-!
DEFINITION. The meanings of the commands of UCIe modules and guest sites (spec/11_hub_die_links.md R331 to R344).
-/
namespace Sys2Proof.Machine

/-- A module event acts on a usable module of a link. -/
def onModule (s : State) (l m : Nat) (f : Module → Module) : State :=
  let x := s.module l m
  if x.usable then s.setModule l m (f x) else s

/-- LINK_REPLAY: a NAK arrives with ACK_SEQ and the sender replays (R331). -/
def execLinkReplay (l : Fin 6) (m : Fin 16) (ack : Nat) (s : State) : Host.Outcome State Fault Refusal :=
  .next (onModule s l m (fun x =>
    let y := x.ack ack
    { y with ctr := ctrAdd (ctrAdd y.ctr 0x210 1) 0x200 y.unacked }))

/-- MODULE_DOWN (R332). -/
def execModuleDown (l : Fin 6) (m : Fin 16) (cause : Fin 3) (s : State) : Host.Outcome State Fault Refusal :=
  .next (moduleDown s l m cause)

/-- LINK_MONITOR_WINDOW (R333). -/
def execLinkMonitorWindow (l : Fin 6) (m : Fin 16) (s : State) : Host.Outcome State Fault Refusal :=
  .next (monitorWindow s l m)

/-- UCIE_CRC_ERR (R331, R354). -/
def execUcieCrcErr (l : Fin 6) (m : Fin 16) (s : State) : Host.Outcome State Fault Refusal :=
  .next (onModule s l m (fun x => { x with discarding := true, nak := true, ctr := ctrAdd x.ctr 0x208 1 }))

/-- UCIE_REPLAY_FLIT: a replay flit with SEQ `seq` arrives; the expected one is taken and ends the discarding (R331). -/
def execUcieReplayFlit (l : Fin 6) (m : Fin 16) (seq : Nat) (s : State) : Host.Outcome State Fault Refusal :=
  .next (onModule s l m (fun x =>
    if seq == (x.rxSeq + 1) % 1024 then { x with discarding := false, nak := false, rxSeq := seq } else x))

/-- UCIE_FLIT_ACK: since the last such command the module has sent `tx` data flits and received `rx` in order and
intact, and spent `stall` flit times with its replay buffer full; an ACK_SEQ arrives (R331, R354). -/
def execUcieFlitAck (l : Fin 6) (m : Fin 16) (ack tx rx stall : Nat) (s : State) : Host.Outcome State Fault Refusal :=
  .next (onModule s l m (fun x =>
    let tx := min tx (256 - x.unacked)
    let x := { x with
      txSeq := (x.txSeq + tx) % 1024
      unacked := x.unacked + tx
      rxSeq := if x.discarding then x.rxSeq else (x.rxSeq + rx) % 1024
      ctr := ctrAdd (ctrAdd x.ctr 0x200 tx) 0x218 stall }
    x.ack ack))

/-- GUEST_ADMIT: the host writes GUEST.CTRL with ADMIT set (R338). -/
def execGuestAdmit (g : Fin 2) (v : W64) (s : State) : Host.Outcome State Fault Refusal :=
  .next (pfAccess s (guestCtrlWrite s g (putBit v.toNat 0 true)))

/-- GUEST_ADMIT_ACK: the guest acknowledges ADMIT (R338). -/
def execGuestAdmitAck (g : Fin 2) (s : State) : Host.Outcome State Fault Refusal :=
  .next (
    let x := s.guest g
    if x.st = 1 ∧ x.admitting then guestState (s.setGuest g { x with admitting := false }) g 2 else s)

/-- GUEST_REMOVE: the host writes GUEST.CTRL with REMOVE set (R344). -/
def execGuestRemove (g : Fin 2) (v : W64) (s : State) : Host.Outcome State Fault Refusal :=
  .next (pfAccess s (guestCtrlWrite s g (putBit v.toNat 1 true)))

/-- GUEST_RAIL_OFF: ten microseconds into a removal (R344). -/
def execGuestRailOff (g : Fin 2) (s : State) : Host.Outcome State Fault Refusal :=
  .next (
    let x := s.guest g
    if x.removing then
      let s := s.setGuest g { x with removing := false, railW := 0 }
      logAdd (guestState s g 4) { code := 0x62, inst := g, src := 6, sev := 1, args := [x.reason] }
    else s)

/-- GUEST_REQUEST: a guest requests `n` lines at a DVA, a write with its bytes, byte enables and poison map (R342). -/
def execGuestRequest (g : Fin 2) (wr : Bool) (dva : W64) (n : Nat) (data : List Byte) (be pm : List Bool)
    (s : State) : Host.Outcome State Fault Refusal := .next (guestServe s g wr dva.toNat n data be pm)

/-- GUEST_POWER_SAMPLE: a sample in 0.1 W (R343). -/
def execGuestPowerSample (g : Fin 2) (w10 : Nat) (s : State) : Host.Outcome State Fault Refusal :=
  .next (guestSample s g w10)

end Sys2Proof.Machine
end

