-- ==== Sys2Proof/Machine/Mgmt.lean ====
section
/-!
DEFINITION. The meanings of the commands of the management subsystem: authority, the event log, boot and update, OMC
(spec/16_bittern_management.md R492 to R516).
-/
namespace Sys2Proof.Machine

/-! ### Authority (R492 to R494) -/

/-- CONTROLLER_BOOT: controller `c` (false BMA, true BMB) has left reset; `selfTest` says whether its self-test passes
(R504, R506). -/
def execControllerBoot (c selfTest : Bool) (s : State) : Host.Outcome State Fault Refusal :=
  .next (controllerBoot s c selfTest)

/-- INITIAL_CLAIM_TIMEOUT: 1 s after VSB came up (R492). -/
def execInitialClaimTimeout (s : State) : Host.Outcome State Fault Refusal :=
  .next (if vsbUp s ∧ !s.bit.claimedOnce ∧ s.bit.bmb.st = .standby then claimAuth s true 5 else s)

/-- HEARTBEAT_TIMEOUT: controller `c` has seen no heartbeat for 10 ms. An acting controller sees it only when the
mailbox fails, and claims too (R492, R494). -/
def execHeartbeatTimeout (c : Bool) (s : State) : Host.Outcome State Fault Refusal :=
  .next (
    if vsbUp s ∧ s.bit.claimedOnce ∧ ((s.ctl c).st = .standby ∨ (s.ctl c).st = .acting) then claimAuth s c 1 else s)

/-- WATCHDOG_EXPIRY of controller `c` (R492, R506). -/
def execWatchdogExpiry (c : Bool) (s : State) : Host.Outcome State Fault Refusal := .next (watchdog s c)

/-- HANDOVER: a write of BMGT.CTRL.HANDOVER (R492). -/
def execHandover (s : State) : Host.Outcome State Fault Refusal := .next (pfAccess s (handOver s 3))

/-- OMC_HANDOVER: a trial controller that hands back ends its trial (R506, R514). -/
def execOmcHandover (m : Medium) (s : State) : Host.Outcome State Fault Refusal :=
  .next (omc s m allMedia (
    match acting s, standbyCtl s with
    | some a, some _ =>
      let s := match (s.ctl a).slot with
        | some k => if s.bit.trial = some k then rollBack s k else s
        | none => s
      respond (handOver s 3) 0 []
    | _, _ => respond s 4 []))

/-- MANAGEMENT_WRITE: a block of a type receives a management write of controller `c`, which believes itself acting,
with the epoch that it last claimed (R494). -/
def execManagementWrite (block : Nat) (c : Bool) (s : State) : Host.Outcome State Fault Refusal :=
  .next (
    if !vsbUp s ∨ (s.ctl c).st ≠ .acting then s
    else
      let k : AuthKey := ⟨(s.ctl c).claim, c⟩
      if k.below s.bit.key then staleKey s block k else { s with bit := { s.bit with key := k } })

/-! ### The event log (R497, R500) -/

/-- LOG_ENTRY: an entry arrives; SEQ, TICK, UPTIME_US and AUTH are the log engine's. -/
def execLogEntry (code : Fin 65536) (inst : Fin 256) (src : Fin 16) (sev : Fin 4) (ctrl : Bool) (args : List W64)
    (s : State) : Host.Outcome State Fault Refusal :=
  .next (
    if vsbUp s ∧ code.val ≠ 0 then
      logAdd s { code := code, inst := inst, src := src, sev := sev, ctrl := ctrl, args := args.map BitVec.toNat }
    else s)

/-- LOG_SUPPRESS_WINDOW: the 1 s window of a CODE and INSTANCE ends (R500). -/
def execLogSuppressWindow (code : Fin 65536) (inst : Fin 256) (s : State) : Host.Outcome State Fault Refusal :=
  .next (
    match s.log.wins.find? (fun w => w.code == code.val && w.inst == inst.val) with
    | none => s
    | some w =>
      let s := { s with log := { s.log with wins := s.log.wins.filter (fun v => v != w) } }
      if 16 < w.count then
        logStore s { code := 0x15, src := 0, sev := 0, args := [w.code, w.inst, w.count - 16] }
      else s)

/-- LOG_PERSIST: the acting controller writes the persistence queue to both flash devices, whose regions hold 1,024
records (R490, R500). -/
def execLogPersist (s : State) : Host.Outcome State Fault Refusal :=
  .next (
    if (acting s).isNone then s
    else
      let new := s.log.persist.reverse.map (fun e => (e, s.bit.boots))
      { s with log := { s.log with flash := (new ++ s.log.flash).take 1024, persist := [] } })

/-! ### Update and rollback (R505 to R508) -/

/-- A PLDM firmware-update request: answered by the acting controller, or in recovery on I3C and Ethernet. -/
def pldmFw (s : State) (m : Medium) (r : State × Bool) : State :=
  if !answersAny s m then noReply s else respond r.1 (b2n !r.2) []

/-- REQUEST_UPDATE with its transfer (R505 step 1). -/
def execRequestUpdate (m : Medium) (i : ImageFacts) (s : State) : Host.Outcome State Fault Refusal :=
  .next (pldmFw s m (requestUpdate s i))

/-- FIRMWARE_VERIFY (R505 step 2, R508). -/
def execFirmwareVerify (m : Medium) (s : State) : Host.Outcome State Fault Refusal := .next (pldmFw s m (verifyUpdate s))

/-- ACTIVATE_FIRMWARE (R505 step 3, R507). -/
def execActivateFirmware (m : Medium) (s : State) : Host.Outcome State Fault Refusal := .next (pldmFw s m (activate s))

/-- TRIAL_TIMEOUT: 600 s of trial without a watchdog expiry of the trial controller (R505 step 4). -/
def execTrialTimeout (s : State) : Host.Outcome State Fault Refusal :=
  .next (
    match s.bit.trial, acting s with
    | some k, some a => if (s.ctl a).slot = some k then commitTrial s k else s
    | _, _ => s)

/-- FW_COMMIT: code 1 without a trial, code 4 until the trial image acts (R505 step 4, R514). -/
def execFwCommit (m : Medium) (s : State) : Host.Outcome State Fault Refusal :=
  .next (omc s m allMedia (
    match s.bit.trial, acting s with
    | some k, some a => if (s.ctl a).slot = some k then respond (commitTrial s k) 0 [] else respond s 4 []
    | _, _ => respond s 1 []))

/-- The slot whose image is confirmed: the acting controller's, else another. -/
def confirmedSlot (s : State) : Option Nat :=
  let a := (acting s).bind (fun c => (s.ctl c).slot)
  (a.toList ++ [0, 1]).find? (fun (k : Nat) => (s.slot k).st == SlotSt.confirmed)

/-- SVN_COMMIT: SVN_MIN never falls (R505 step 5, R508, R514). -/
def execSvnCommit (m : Medium) (s : State) : Host.Outcome State Fault Refusal :=
  .next (omc s m [.i3c, .pcie] (
    match confirmedSlot s with
    | none => respond s 1 []
    | some k =>
      let v := (s.slot k).img.svn
      if s.bit.svnMin < v then respond (fwLog { s with bit := { s.bit with svnMin := v } } k 5) 0 []
      else respond s 0 []))

/-! ### OMC reads (R514) -/

/-- GET_STATE: PWR.STAT, BRING.STAT and BMGT.STAT. Recovery answers it on I3C and Ethernet. -/
def execGetState (m : Medium) (s : State) : Host.Outcome State Fault Refusal :=
  .next (
    if !answersAny s m then noReply s
    else respond s 0 (toLE 8 (readPwrStat s) ++ toLE 8 (readBringStat s) ++ toLE 8 (readBmgtStat s)))

/-- READ_REG: a register of the BRING, PWR, BMGT or LOG page, by page number and offset (R486, R514). -/
def execReadReg (m : Medium) (pg ofs : Nat) (s : State) : Host.Outcome State Fault Refusal :=
  .next (omc s m allMedia (
    if 2 ≤ pg ∧ pg ≤ 5 ∧ ofs < 4096 ∧ ofs % 8 = 0 then respond s 0 (toLE 8 (regGet s 0 pg ofs)) else respond s 2 []))

/-- LOG_READ: up to 16 ring entries from SEQ `seq`, oldest first. Recovery answers it on I3C and Ethernet. -/
def execLogRead (m : Medium) (seq n : Nat) (s : State) : Host.Outcome State Fault Refusal :=
  .next (
    if !answersAny s m then noReply s
    else if 16 < n then respond s 2 []
    else
      let es := s.log.ring.reverse.filter (fun e => decide (seq ≤ e.seq) && decide (e.seq < seq + n))
      respond s 0 (es.flatMap LogEntry.bytes))

/-- LOG_FLASH_READ: up to 16 flash records, newest first, from place `place`. -/
def execLogFlashRead (m : Medium) (place n : Nat) (s : State) : Host.Outcome State Fault Refusal :=
  .next (omc s m allMedia (
    if 16 < n then respond s 2 []
    else respond s 0 (((s.log.flash.drop place).take n).flatMap (fun e => e.1.flashBytes e.2))))

/-! ### Ethernet (R512) -/

/-- ETH_CFG: over I3C only, with an allow-list of up to four peers. -/
def execEthCfg (m : Medium) (enable dhcp : Bool) (addr mask gateway : W32) (allow : List W32) (s : State) :
    Host.Outcome State Fault Refusal :=
  .next (omc s m [.i3c] (
    if 4 < allow.length then respond s 2 []
    else respond { s with bit := { s.bit with eth := ⟨enable, dhcp, addr, mask, gateway, allow⟩ } } 0 []))

/-- ETH_DATAGRAM: a datagram from a peer; what an allowed one carries is a command of its own. -/
def execEthDatagram (peer : W32) (s : State) : Host.Outcome State Fault Refusal :=
  .next (
    if mediumUp s .ethernet && !s.bit.eth.allow.contains peer then bmgtCtr s 0x128 1 else s)

/-! ### Sensors and MCTP (R496, R511) -/

/-- R496: the core a sensor belongs to. -/
def sensorCore (id : Nat) : Option Nat :=
  if 0x100 ≤ id ∧ id < 0x300 then some ((id - 0x100) / 2)
  else if 0x600 ≤ id ∧ id < 0x700 then some (id - 0x600) else none

/-- R496: whether a sensor ID is listed. -/
def sensorKnown (id : Nat) : Bool :=
  (decide (0x100 ≤ id) && decide (id < 0x360)) || (decide (0x400 ≤ id) && decide (id < 0x450))
    || (decide (0x500 ≤ id) && decide (id < 0x54C)) || (decide (0x600 ≤ id) && decide (id < 0x702))
    || id == 0x710 || id == 0x711

/-- The Liram die of second-stage rail `r` in the order of R430, for the rails that serve one die. -/
def railDie (r : Nat) : Option Nat :=
  if r < 32 then some (r / 8) else if r < 44 then some ((r - 32) % 4) else none

/-- R496: the Liram die that a sensor other than a core's belongs to: its stacks' base dies and its rails' voltages and
currents. -/
def sensorDie (id : Nat) : Option Nat :=
  if 0x318 ≤ id ∧ id < 0x338 then some ((id - 0x318) / 8)
  else if 0x400 ≤ id ∧ id < 0x434 then railDie (id - 0x400)
  else if 0x519 ≤ id ∧ id < 0x54B then railDie (id - 0x519) else none

/-- R496: whether a sensor's unit is fused off or fenced, or its front end has failed. -/
def sensorLost (s : State) (id : Nat) : Bool :=
  (match sensorCore id with
    | some p => decide (64 * partDies s.partNo ≤ p) || (agtValid s && !coreOn s p)
    | none => false)
    || (match sensorDie id with
      | some d => decide (partDies s.partNo ≤ d) || (agtValid s && !s.agt.diesActive.getLsbD d)
      | none => false)
    || (decide (0x700 ≤ id) && s.pwr.sensorLogged.contains (id - 0x700))

/-- A sensor's reading as four bytes; one that no sample of the model has given is a free value. -/
def sensorValue (s : State) (id : Nat) : State × List Byte :=
  if id = 0x710 then (s, toLE 4 s.pwr.pinW)
  else if id = 0x44E then (s, toLE 4 (10 * s.pwr.vin10))
  else match s.bit.sensors.find? (fun e => e.1 == id) with
    | some e => (s, toLE 4 (toBits 32 e.2))
    | none => let d := drawBytes s 4; (d.2, d.1)

/-- GET_SENSOR_READING: code 0x80 for an ID that is not listed, 1 for an unavailable sensor (R496;
the codes: notes/assumptions/8.md). -/
def execGetSensorReading (m : Medium) (id : Nat) (s : State) : Host.Outcome State Fault Refusal :=
  .next (
    if !answers s m then noReply s
    else if !sensorKnown id then respond s 0x80 []
    else if sensorLost s id then respond s 1 []
    else
      let r := sensorValue s id
      respond r.1 0 r.2)

/-- MCTP_CONTROL: a control message; `eid` is the endpoint ID that the bus owner assigns (R511). Recovery handles it on
I3C and Ethernet. -/
def execMctpControl (m : Medium) (eid : Option Byte) (s : State) : Host.Outcome State Fault Refusal :=
  .next (
    if !answersAny s m then noReply s
    else match eid with
      | some e => respond { s with bit := { s.bit with eid := tabSet s.bit.eid (mediumNo m) e } } 0 [e]
      | none => respond s 0 [tabGet s.bit.eid 0 (mediumNo m)])

end Sys2Proof.Machine
end

