-- ==== Sys2Proof/Machine/Power.lean ====
section
/-!
DEFINITION. The meanings of the commands of power, protection and the package states (spec/14_power_thermal.md;
spec/18_electrical_package.md R554 to R569; spec/15_bringup_reset_yield.md R476 to R482).
-/
namespace Sys2Proof.Machine

/-! ### Input and Off -/

/-- What flash and fuses keep of Bittern through Off (R501, R503), at the entry to Standby with the sampled straps. -/
def bitFromOff (b : Bittern) (slew : Nat) (dbg : Bool) : Bittern :=
  { slot0 := b.slot0, slot1 := b.slot1, primary := b.primary, svnMin := b.svnMin, revoke := b.revoke
    boots := b.boots + 1, eth := b.eth, slew := if slew = 3 then 0 else slew, dbgEn := dbg }

/-- A package without power or just powered: only fuses, flash and the model's own records remain. -/
def coldState (s : State) (st : PkgSt) : State :=
  { State.reset with
    pst := st, partNo := s.partNo, fuse := s.fuse, log := { flash := s.log.flash }
    freeN := s.freeN, reply := s.reply, sent := s.sent, pending := s.pending }

/-- VIN_APPLIED: `mv` millivolts, with the straps slew_sel and dbg_en (R450, R555, R559, R564). -/
def execVinApplied (mv : Int) (slew : Fin 4) (dbg : Bool) (s : State) : Host.Outcome State Fault Refusal :=
  .next (
    if s.pst = .off ∧ 36000 ≤ mv ∧ mv ≤ 44000 then
      { coldState s .standby with bit := bitFromOff s.bit slew dbg, pwr := { vin10 := mv.toNat / 10 } }
    else s)

/-- VIN_REMOVED (R450). -/
def execVinRemoved (s : State) : Host.Outcome State Fault Refusal :=
  .next (
    if s.pst = .standby ∨ s.pst = .tripped then
      let b := bitFromOff s.bit 0 false
      { coldState s .off with bit := { b with boots := s.bit.boots } }
    else s)

/-! ### Sensors (R444 to R447, R562) -/

/-- R562: 1 / T in units of 2⁻¹⁹² per kelvin of a node voltage in mV. -/
def invKelvin (mv : Nat) : Int := (fxOne * 100 / 29815 : Nat) + lnRatio mv (2500 - mv) / 3435

/-- The temperature of a thermistor in 0.1 °C. -/
def thermDeci (mv : Nat) : Int := 10 * (fxOne : Int) / invKelvin mv - 2731

/-- R447: one thermistor's reading. -/
def thermistor (s : State) (i mv : Nat) : State :=
  let bad (n : Nat) : State :=
    if s.pwr.sensorLogged.contains i then s
    else
      let s := { s with pwr := { s.pwr with sensorLogged := setIns s.pwr.sensorLogged i } }
      logAdd s { code := 0x82, inst := i, src := 8, sev := 1, args := [n] }
  if 2450 ≤ mv then bad 1
  else if mv ≤ 25 then bad 2
  else
    let t := thermDeci mv
    let s := { s with
      bit := { s.bit with sensors := tabSet s.bit.sensors (0x700 + i) t }
      pwr := { s.pwr with sensorLogged := setDel s.pwr.sensorLogged i } }
    let high := decide (31815 * invKelvin mv < 100 * (fxOne : Int))
    let was := s.pwr.inletLogged.contains i
    let s := { s with pwr := { s.pwr with
      inletLogged := if high then setIns s.pwr.inletLogged i else setDel s.pwr.inletLogged i } }
    if high && !was then logAdd s { code := 0x81, inst := i, src := 8, sev := 1, args := [t.toNat] } else s

/-- THERMISTOR_SAMPLE: the node voltages of therm0 and therm1 in mV (R447, R562). -/
def execThermistorSample (mv0 mv1 : Nat) (s : State) : Host.Outcome State Fault Refusal :=
  .next (if s.pst = .off then s else thermistor (thermistor s 0 mv0) 1 mv1)

/-- THERMAL_SAMPLE (R445). -/
def execThermalSample (r : ThermalRead) (s : State) : Host.Outcome State Fault Refusal := .next (thermalSample s r)

/-- COOL_FLOW_LOW: `cool_flow_ok` was low for `us` µs, or has been for 50 ms (R446). -/
def execCoolFlowLow (us : Nat) (s : State) : Host.Outcome State Fault Refusal :=
  .next (
    if s.pst = .off then s
    else if 50000 ≤ us then
      trip { s with bit := { s.bit with sensors := tabSet s.bit.sensors 0x711 0 } } 3 0x711 0
    else logAdd s { code := 0x80, src := 8, sev := 1, args := [us] })

/-! ### Input and rail faults (R448, R449) -/

/-- INPUT_FAULT: kind 0 under-voltage, 1 over-voltage, 2 over-current, 3 VIN outside 36–44 V for 1 ms, with the reading
in mV or mA (R448). -/
def execInputFault (kind : Fin 4) (reading : Nat) (s : State) : Host.Outcome State Fault Refusal :=
  .next (
    let volt := if s.pwr.rsenseLost then 0x44D else 0x44E
    match kind.val with
    | 0 => trip s 4 volt reading
    | 1 => trip s 5 volt reading
    | 2 => trip s 6 0x500 reading
    | _ =>
      if s.pst = .off ∨ s.pwr.rangeLogged then s
      else logAdd { s with pwr := { s.pwr with rangeLogged := true } } { code := 0x71, src := 7, sev := 1, args := [reading] })

/-- REMOTE_SENSE_OPEN (R448). -/
def execRemoteSenseOpen (s : State) : Host.Outcome State Fault Refusal :=
  .next (
    if s.pst = .off ∨ s.pwr.rsenseLost then s
    else raiseIrq (logAdd { s with pwr := { s.pwr with rsenseLost := true } } { code := 0x74, src := 7, sev := 1 }) 5)

/-- REMOTE_SENSE_RESTORED (R448). -/
def execRemoteSenseRestored (s : State) : Host.Outcome State Fault Refusal :=
  .next { s with pwr := { s.pwr with rsenseLost := false } }

/-- STAGE_FAIL: first stage `i` leaves regulation (R449). -/
def execStageFail (i : Fin 24) (s : State) : Host.Outcome State Fault Refusal :=
  .next (
    if s.pst = .off ∨ s.pst = .tripped ∨ s.pwr.stagesBad.getLsbD i then s
    else
      let s := { s with pwr := { s.pwr with stagesBad := s.pwr.stagesBad ||| BitVec.ofNat 24 (2 ^ i.val) } }
      let k := stagesOk s.pwr
      let s := raiseIrq (logAdd s { code := 0x72, inst := i, src := 7, sev := 2, args := [k] }) 5
      if k < 12 then trip s 7 (0x501 + i) k else s)

/-- RAIL_OVERCURRENT: second-stage rail `r` in the order of R430, 0 to 31 the cluster rails, with its current
(R448, R479). -/
def execRailOvercurrent (r : Fin 50) (reading : Nat) (s : State) : Host.Outcome State Fault Refusal :=
  .next (
    if s.pst = .off ∨ s.pst = .tripped then s
    else
      let ev := (tabGet s.bring.railOc [] r.val).filter (fun t => decide (s.uptime < t + dayNs)) ++ [s.uptime]
      let near := (ev.filter (fun t => decide (s.uptime < t + 1000000000))).length
      let s := { s with bring := { s.bring with railOc := tabSet s.bring.railOc r.val ev } }
      let s := raiseIrq (logAdd s { code := 0x73, inst := (0x519 + r.val) % 256, src := 7, sev := 2, args := [near] }) 5
      if r.val < 32 then
        if s.pst ≠ .active then s
        else if 3 ≤ ev.length then (clusterCores r.val).foldl (fun t p => fenceCore t p 8 0xA0) s
        else if 2 ≤ near then resetCluster s r.val 0xA3 else s
      else trip s 7 (0x519 + r.val) reading)

/-! ### Droop (R434, R479) -/

/-- DROOP_DETECT: a droop detector of cluster `c` stretches its clock (R434). -/
def execDroopDetect (c : Fin 32) (s : State) : Host.Outcome State Fault Refusal :=
  .next (
    if s.pst ≠ .active ∨ s.pwr.droop.contains c.val then s
    else { s with pwr := { s.pwr with droop := setIns s.pwr.droop c.val, ctr := ctrAdd s.pwr.ctr 0x188 1 } })

/-- DROOP_END (R434). -/
def execDroopEnd (c : Fin 32) (s : State) : Host.Outcome State Fault Refusal :=
  .next { s with pwr := { s.pwr with droop := setDel s.pwr.droop c.val } }

/-- DROOP_PERSIST: core `p`'s detector has asserted for 1 ms (R479). -/
def execDroopPersist (p : Fin 256) (s : State) : Host.Outcome State Fault Refusal :=
  .next (if s.pst = .active then fenceCore s p 7 0xA0 else s)

/-- DIODE_MISMATCH: core `p`'s diodes differ, or one reads open or shorted (R479). -/
def execDiodeMismatch (p : Fin 256) (s : State) : Host.Outcome State Fault Refusal :=
  .next (if s.pst = .active then fenceCore s p 6 0xA0 else s)

/-- FAST_LIMITER_SAMPLE (R442). -/
def execFastLimiterSample (watts vin10 clk : Nat) (s : State) : Host.Outcome State Fault Refusal :=
  .next (if s.pst = .off then s else fastSample s watts vin10 clk)

/-! ### Reference clock B (R569) -/

/-- REFCLK_B_LOSS: holdover, and the package stops being a candidate; a master hands over at the next tick. -/
def execRefclkBLoss (s : State) : Host.Outcome State Fault Refusal :=
  .next (
    if s.pst = .off ∨ !s.tick.refclkB then s
    else
      let was := selfCand s
      let s := { s with tick := { s.tick with refclkB := false, holdover := true } }
      if was then reelect (announce s) else s)

/-- REFCLK_B_RETURN: 1 ms after it came back; a sequence that waits at step 2 goes on. -/
def execRefclkBReturn (s : State) : Host.Outcome State Fault Refusal :=
  .next (
    if s.pst = .off ∨ s.tick.refclkB then s
    else
      let s := { s with tick := { s.tick with refclkB := true, holdover := false } }
      match s.bring.wait with
      | some x => seqRest { s with bring := { s.bring with step := 3, wait := none } } x
      | none => if selfCand s then reelect (announce s) else s)

/-! ### Package states -/

/-- DORMANT_REQUEST: REQ 1 (R451). -/
def execDormantRequest (s : State) : Host.Outcome State Fault Refusal := .next (pfAccess s (stateReqWrite s 1))
/-- DORMANT_ENTRY_COMPLETE (R451). -/
def execDormantEntryComplete (s : State) : Host.Outcome State Fault Refusal := .next (enterDormant s)
/-- WAKE_REQUEST: REQ 2 (R453). -/
def execWakeRequest (s : State) : Host.Outcome State Fault Refusal := .next (pfAccess s (stateReqWrite s 2))
/-- WAKE_COMPLETE (R453). -/
def execWakeComplete (s : State) : Host.Outcome State Fault Refusal := .next (wakeDone s)
/-- STANDBY_REQUEST: REQ 3 (R452). -/
def execStandbyRequest (s : State) : Host.Outcome State Fault Refusal := .next (pfAccess s (stateReqWrite s 3))
/-- STANDBY_DRAIN_TIMEOUT: the drain of R452 is over. -/
def execStandbyDrainTimeout (s : State) : Host.Outcome State Fault Refusal := .next (drainOver s)
/-- PWR_CTRL_WRITE (R459). -/
def execPwrCtrlWrite (v : W64) (s : State) : Host.Outcome State Fault Refusal := .next (pfAccess s (pwrCtrlWrite s v.toNat))

/-! ### Parity and the ends of resets (R113, R476, R477, R482) -/

/-- PARITY_ERROR: a datapath parity error in unit 0 array, 1 VE, 2 drain, 3 Heron (R113). -/
def execParityError (p : Fin 256) (unit : Fin 4) (s : State) : Host.Outcome State Fault Refusal :=
  .next (parityHalt s p unit)

/-- PARITY_AGE_OUT: the oldest recorded halt of core `p` is 24 h old (R482). -/
def execParityAgeOut (p : Fin 256) (s : State) : Host.Outcome State Fault Refusal :=
  .next (
    let c := s.core p
    if c.ras.parity.isEmpty then s
    else s.setCore p { c with ras := { c.ras with parity := c.ras.parity.drop 1 } })

/-- What waits on a core that has left its reset starts. -/
def wakeCore (s : State) (p : Nat) : State :=
  let c := s.core p
  heronKick (heronKick (veKick (s.setCore p { c with ras := { c.ras with inReset := false } }) p) p 0) p 1

/-- CORE_RESET_END (R476). -/
def execCoreResetEnd (p : Fin 256) (s : State) : Host.Outcome State Fault Refusal :=
  .next (
    if s.bring.coreResets.contains p.val then
      wakeCore { s with bring := { s.bring with coreResets := setDel s.bring.coreResets p.val } } p
    else s)

/-- CLUSTER_RESET_END: a partition's reset is over when none of its clusters is under reset (R477, R478). -/
def execClusterResetEnd (c : Fin 32) (s : State) : Host.Outcome State Fault Refusal :=
  .next (
    if s.bring.clusterResets.contains c.val then
      let cl := setDel s.bring.clusterResets c.val
      let s := { s with bring := { s.bring with
        clusterResets := cl
        partResets := s.bring.partResets.filter (fun n =>
          (upTo 32).any (fun k => cl.contains k && tabGet s.partOf 255 k == n)) } }
      (clusterCores c.val).foldl (fun t p => if coreOn t p then wakeCore t p else t) s
    else s)

/-- ALERT_TIMEOUT: 10 ms after the last SEV 3 entry alert_n is released (R557). -/
def execAlertTimeout (s : State) : Host.Outcome State Fault Refusal :=
  .next { s with bit := { s.bit with alertUntil := none } }

end Sys2Proof.Machine
end

