-- ==== Sys2Proof/Machine/Security.lean ====
section
/-!
DEFINITION. The meanings of the SPDM requests, of the isolated buses and of the test access port
(spec/16_bittern_management.md R509, R510, R513; spec/18_electrical_package.md R557, R563, R564).
-/
namespace Sys2Proof.Machine

/-! ### SPDM (R509, R510) -/

/-- How far the exchange on a medium has come. -/
def spdmAt (s : State) (m : Medium) : SpdmSt := tabGet s.bit.spdm .none (mediumNo m)

/-- The state with an exchange moved on. -/
def spdmSet (s : State) (m : Medium) (x : SpdmSt) : State :=
  { s with bit := { s.bit with spdm := tabSet s.bit.spdm (mediumNo m) x } }

/-- An SPDM request that is answered in some state of the exchange; otherwise the response is an error, code 1. -/
def spdmReq (s : State) (m : Medium) (ok : Bool) (f : State) : State :=
  if !answers s m then noReply s else if ok then f else respond s 1 []

/-- A response of free bytes: what the device's keys and digests give. -/
def respondFree (s : State) (n : Nat) : State :=
  let d := drawBytes s n
  respond d.2 0 d.1

/-- GET_VERSION: SPDM 1.3; the exchange starts again. -/
def execGetVersion (m : Medium) (s : State) : Host.Outcome State Fault Refusal :=
  .next (spdmReq s m true (respond (spdmSet s m .version) 0 [0x13]))

/-- GET_CAPABILITIES. -/
def execGetCapabilities (m : Medium) (s : State) : Host.Outcome State Fault Refusal :=
  .next (spdmReq s m (spdmAt s m != .none) (respond (spdmSet s m .capabilities) 0 []))

/-- NEGOTIATE_ALGORITHMS: only ECDSA P-384 and SHA-384 are offered. -/
def execNegotiateAlgorithms (m : Medium) (p384 sha384 : Bool) (s : State) : Host.Outcome State Fault Refusal :=
  .next (spdmReq s m ((spdmAt s m == .capabilities || spdmAt s m == .negotiated) && p384 && sha384)
    (respond (spdmSet s m .negotiated) 0 []))

/-- GET_DIGESTS: slot 0 holds the only chain; its digest is 48 bytes. -/
def execGetDigests (m : Medium) (s : State) : Host.Outcome State Fault Refusal :=
  .next (spdmReq s m (spdmAt s m == .negotiated) (respondFree s 48))

/-- GET_CERTIFICATE: `n` bytes of the chain of a slot; slots 1 to 7 are empty. -/
def execGetCertificate (m : Medium) (slot : Fin 8) (n : Nat) (s : State) : Host.Outcome State Fault Refusal :=
  .next (spdmReq s m (spdmAt s m == .negotiated && slot.val == 0) (respondFree s n))

/-- CHALLENGE: the signature of the alias key, 96 bytes. -/
def execChallenge (m : Medium) (slot : Fin 8) (s : State) : Host.Outcome State Fault Refusal :=
  .next (spdmReq s m (spdmAt s m == .negotiated && slot.val == 0) (respondFree s 96))

/-- GET_MEASUREMENTS: a digest of 48 bytes, signed with 96 more; index 3 is zero with no standby image. -/
def execGetMeasurements (m : Medium) (index : Nat) (signed : Bool) (s : State) : Host.Outcome State Fault Refusal :=
  .next (spdmReq s m (spdmAt s m == .negotiated && decide (1 ≤ index) && decide (index ≤ 6)) (
    let sg := drawBytes s (if signed then 96 else 0)
    if index = 3 ∧ (ctlImage s (standbyCtl s)).isNone then respond sg.2 0 (List.replicate 48 0 ++ sg.1)
    else
      let d := drawBytes sg.2 48
      respond d.2 0 (d.1 ++ sg.1)))

/-! ### Isolated buses (R513, R563) -/

/-- I3C_ISOLATE: a line has been held low for 10 ms outside a transfer. -/
def execI3cIsolate (scl sda : Bool) (s : State) : Host.Outcome State Fault Refusal :=
  .next (
    if !vsbUp s || s.bit.i3cIsolated || !(scl || sda) then s
    else logAdd { s with bit := { s.bit with i3cIsolated := true } }
      { code := 0x14, src := 0, sev := 1, args := [b2n scl + 2 * b2n sda] })

/-- I3C_REJOIN: both lines have been high for 1 ms. -/
def execI3cRejoin (s : State) : Host.Outcome State Fault Refusal :=
  .next (
    if !s.bit.i3cIsolated then s
    else logAdd { s with bit := { s.bit with i3cIsolated := false } } { code := 0x14, src := 0, sev := 1, args := [0, 1] })

/-- LSM_ISOLATE: laser management bus `b` is isolated, and each of its engines logs LASER_ALARM. -/
def execLsmIsolate (b : Fin 2) (s : State) : Host.Outcome State Fault Refusal :=
  .next (
    if !vsbUp s || s.bit.lsmIsolated.getLsbD b then s
    else
      let s := { s with bit := { s.bit with lsmIsolated := s.bit.lsmIsolated ||| BitVec.ofNat 2 (2 ^ b.val) } }
      forUp 8 (fun k t => logAdd t { code := 0x53, inst := 8 * b + k, src := 5, sev := 1, args := [0, 0xFFFFFFFF] }) s)

/-- LSM_REJOIN. -/
def execLsmRejoin (b : Fin 2) (s : State) : Host.Outcome State Fault Refusal :=
  .next { s with bit := { s.bit with lsmIsolated := s.bit.lsmIsolated &&& ~~~(BitVec.ofNat 2 (2 ^ b.val)) } }

/-- LSM_INTERRUPT: Bittern reads the alarm flags of feed `feed` of the module of engine `e`, over a bus that is not
isolated. -/
def execLsmInterrupt (e : Fin 16) (feed : Fin 4) (flags : W32) (s : State) : Host.Outcome State Fault Refusal :=
  .next (
    if (acting s).isNone || s.bit.lsmIsolated.getLsbD (e.val / 8) then s
    else logAdd s { code := 0x53, inst := e, src := 5, sev := 1, args := [feed, flags.toNat] })

/-! ### The test access port (R564) -/

/-- The next state of an IEEE 1149.1 controller. -/
def tapNext (t : TapSt) (tms : Bool) : TapSt :=
  match t with
  | .tlr => if tms then .tlr else .rti
  | .rti => if tms then .selDr else .rti
  | .selDr => if tms then .selIr else .capDr
  | .capDr => if tms then .ex1Dr else .shDr
  | .shDr => if tms then .ex1Dr else .shDr
  | .ex1Dr => if tms then .updDr else .pauDr
  | .pauDr => if tms then .ex2Dr else .pauDr
  | .ex2Dr => if tms then .updDr else .shDr
  | .updDr => if tms then .selDr else .rti
  | .selIr => if tms then .tlr else .capIr
  | .capIr => if tms then .ex1Ir else .shIr
  | .shIr => if tms then .ex1Ir else .shIr
  | .ex1Ir => if tms then .updIr else .pauIr
  | .pauIr => if tms then .ex2Ir else .pauIr
  | .ex2Ir => if tms then .updIr else .shIr
  | .updIr => if tms then .selDr else .rti

/-- R564: the IDCODE of a K-die stepping. -/
def tapIdcode (step : Nat) : Nat :=
  (if step = 0x10 then 2 else step) * 2 ^ 28 + 0xB410 * 2 ^ 12 + 0x2A7 * 2 + 1

/-- R564: the instruction that is served: EXTEST, CLAMP and HIGHZ only in Standby, private ones only while open. -/
def tapServed (s : State) (i : TapIr) : TapIr :=
  match i with
  | .extest => if s.pst = .standby then .extest else .bypass
  | .clamp => if s.pst = .standby then .clamp else .bypass
  | .highz => if s.pst = .standby then .highz else .bypass
  | .priv => if s.bit.dbgEn then .priv else .bypass
  | x => x

/-- The instruction that shifted bits select. -/
def tapDecode (b : List Bool) : TapIr :=
  match Config.tapInstr b with
  | 0 => .idcode | 2 => .sample | 3 => .extest | 4 => .clamp | 5 => .highz | 6 => .priv | _ => .bypass

/-- What Capture-DR loads: the identity, one zero, or the boundary cells, which are free values. -/
def tapCapture (s : State) : State × List Bool :=
  match tapServed s s.bit.tap.ir with
  | .idcode => (s, (upTo 32).map (fun i => (tapIdcode s.fuse.ka.stepping).testBit i))
  | .sample => boundary s
  | .extest => boundary s
  | _ => (s, [false])
where
  /-- The boundary register as captured. -/
  boundary (s : State) : State × List Bool :=
    ((upTo Config.tapBoundary).foldl (fun (r : State × List Bool) _ =>
      let c := drawChoice r.1 2
      (c.2, r.2 ++ [c.1 == 1])) (s, []))

/-- One bit through a shift register: what leaves it, and the rest with the new bit. -/
def shiftBit (l : List Bool) (b : Bool) : Bool × List Bool := (l.headD b, l.drop 1 ++ [b])

/-- A clock edge at the port that serves the test access port: what the present state does, then the next state. -/
def tapEdge (s : State) (tms tdi : Bool) : State :=
  let t := s.bit.tap
  let go (s : State) (x : Tap) : State :=
    let n := tapNext t.st tms
    { s with bit := { s.bit with tap := { x with st := n, ir := if n = .tlr then .idcode else x.ir } } }
  match t.st with
  | .capDr => let c := tapCapture s; go c.1 { t with dr := c.2 }
  | .shDr => let r := shiftBit t.dr tdi; go s { t with dr := r.2, tdo := r.1 }
  | .capIr => go s { t with irShift := (upTo Config.tapIrLen).map (fun i => i == 0) }
  | .shIr => let r := shiftBit t.irShift tdi; go s { t with irShift := r.2, tdo := r.1 }
  | .updIr => go s { t with ir := tapDecode t.irShift }
  | _ => go s t

/-- TAP_CLOCK: a rising edge at the 1149.1 port, or at the 1149.7 port with `seven`; `trst` holds the port in reset. The
port that first sees an edge after VSB comes up serves the TAP. A private instruction of an open port is refused: the
spec does not say what it does. -/
def execTapClock (seven tms tdi trst : Bool) (s : State) : Host.Outcome State Fault Refusal :=
  let n := if seven then 2 else 1
  if !vsbUp s ∨ (s.bit.tapPort ≠ 0 ∧ s.bit.tapPort ≠ n) then .next s
  else
    let s := { s with bit := { s.bit with tapPort := n } }
    if trst then .next { s with bit := { s.bit with tap := {} } }
    else if tapServed s s.bit.tap.ir = .priv ∧ s.bit.tap.st = .capDr then .refused .privateTest
    else .next (tapEdge s tms tdi)

end Sys2Proof.Machine
end

