-- ==== Sys2Proof/Machine/Update.lean ====
section
/-!
DEFINITION. The meanings of UPDATE and of the update unit's work (spec/07_command_reference.md R249 to R251;
spec/10_sign_update.md R290 to R315).
-/
namespace Sys2Proof.Machine

/-! ### The record (R249) -/

/-- SR_SEED. -/
def Rec.uSeed (r : Rec) : Nat := r.w 7
/-- BETA2. -/
def Rec.uBeta2 (r : Rec) : Nat := r.f 447 416
/-- BETA1. -/
def Rec.uBeta1 (r : Rec) : Nat := r.f 415 384
/-- LAMBDA. -/
def Rec.uLambda (r : Rec) : Nat := r.f 383 352
/-- ETA. -/
def Rec.uEta (r : Rec) : Nat := r.f 351 320
/-- SHARD_HDR. -/
def Rec.uHdr (r : Rec) : Nat := r.f 319 272
/-- G_ADDR. -/
def Rec.uG (r : Rec) : Nat := r.f 271 224
/-- M_ADDR. -/
def Rec.uM (r : Rec) : Nat := r.f 223 176
/-- W_ADDR. -/
def Rec.uW (r : Rec) : Nat := r.f 175 128
/-- COUNT. -/
def Rec.uCount (r : Rec) : Nat := r.f 125 86
/-- LINKED. -/
def Rec.uLinked (r : Rec) : Bool := r.b 84
/-- GFMT. -/
def Rec.uGfmt (r : Rec) : Nat := r.f 83 82
/-- RULE. -/
def Rec.uRule (r : Rec) : Nat := r.f 81 80
/-- Whether the rule keeps a momentum. -/
def Rec.uMom (r : Rec) : Bool := r.uRule == 1 || r.uRule == 2

/-! ### Validation (R231, R249, R250, R251, R293, R306) -/

/-- Step 5. -/
def updFields (r : Rec) : Bool :=
  !r.zero 127 126 || r.b 85 || r.uGfmt == 3 || r.uHdr % 64 != 0 || r.uW % 64 != 0 || (r.uMom && r.uM % 64 != 0)
    || (r.uLinked && r.uG != 0)

/-- R250: a hyperparameter that is NaN, infinite, negative, or above one where `unit` is set. -/
def hyperBad (x : Nat) (unit : Bool) : Bool :=
  let v := decodeS .fp32 x
  v.isNan || v.isInf || v.lt (.fin false 0 0) || (unit && (Val.fin false 1 0).lt v)

/-- R292: the extents of the gradient array by GFMT. -/
def gradBytes (gfmt n : Nat) : Nat :=
  match gfmt with
  | 0 => 2 * n | 1 => 320 * ceilDiv n 64 | _ => 4 * n

/-- R292, R293: the ranges of an update: header with bitmap, weights, momentum, gradient. -/
def updRanges (r : Rec) : List (Nat × Nat) :=
  let n := r.uCount
  [(r.uHdr, 64 + ceilDiv n 8), (r.uW, 2 * n)]
    ++ (if r.uMom then [(r.uM, 33 * ceilDiv n 32)] else [])
    ++ (if r.uLinked then [] else [(r.uG, gradBytes r.uGfmt n)])

/-- Whether two nonempty ranges share a byte. -/
def rangesMeet (a b : Nat × Nat) : Bool :=
  a.2 != 0 && b.2 != 0 && decide (a.1 < b.1 + b.2) && decide (b.1 < a.1 + a.2)

/-- Whether some two of a list of ranges share a byte. -/
def anyMeet : List (Nat × Nat) → Bool
  | [] => false
  | a :: l => l.any (rangesMeet a) || anyMeet l

/-- The GFMT that the results of a reduce-scatter match, 4 for none (R251). -/
def rsGfmt (r : Rec) : Nat :=
  if r.cTern then 2 else if r.cFmtNo == .bf16 then 0 else if r.cFmtNo == .acc35 then 1 else 4

/-- Step 7, in the order of the field map. -/
def updRules (r : Rec) (rs : Option Rec) : List (Bool × Nat) :=
  [(r.uRule != 2 && r.uBeta2 != 0, 0x1A), (r.uRule == 2 && hyperBad r.uBeta2 true, 0x40),
   (!r.uMom && r.uBeta1 != 0, 0x1A), (r.uMom && hyperBad r.uBeta1 true, 0x40),
   (hyperBad r.uLambda false, 0x40), (hyperBad r.uEta false, 0x40),
   (anyMeet (updRanges r), 0x1A), (!r.uLinked && r.uG % 64 != 0, 0x1A), (!r.uMom && r.uM != 0, 0x1A),
   (r.uLinked && rs.isNone, 0x19),
   (r.uLinked && (match rs with | some x => x.cCount != r.uCount | none => false), 0x1A),
   ((r.uGfmt == 2) != (r.uRule == 3), 0x1A),
   (r.uLinked && (match rs with | some x => rsGfmt x != r.uGfmt | none => false), 0x1A)]

/-- Steps 5 to 8. -/
def updChecks (s : State) (c : CmdRef) (r : Rec) : Nat :=
  let rs := pairRs s c
  firstStatus ([(updFields r, 0x02), (r.uRule == 3 && !capOk s 7, 0x03)] ++ updRules r rs
    ++ [(r.cEpoch != (s.queue c.q).epoch, 0x60),
        (r.uLinked && (match rs with | some x => x.cEpoch != r.cEpoch | none => false), 0x62)])

/-- The hand-off runs of a pair leave the buffer. -/
def dropHand (s : State) (q : Nat) (rs : Option Nat) : State :=
  match rs with
  | none => s
  | some n => { s with upd := { s.upd with hand := s.upd.hand.filter (fun h => !(h.q == q && h.n == n)) } }

/-- An update ends without changing its shard; `poison` where it met poison (R311). -/
def updEnd (s : State) (c : CmdRef) (st : Nat) (poison : Bool) : State :=
  complete (dropHand s c.q ((pairRs s c).map Rec.n)) c { status := st, poison := poison }

/-- An update fails with a status. -/
def updFail (s : State) (c : CmdRef) (st : Nat) : State := updEnd s c st false

/-- UPDATE at dispatch. -/
def updDispatch (s : State) (q n : Nat) : State :=
  match ready s q n (fun r => r.opcode == 0x11) with
  | none => s
  | some r =>
    let h := headerStatus s q r
    let st := if h ≠ 0 then h else updChecks s ⟨q, n⟩ r
    if st ≠ 0 then collKick (updFail s ⟨q, n⟩ st)
    else
      let s := mapRec s ⟨q, n⟩ (fun r => { r with st := .waiting, at_ := s.tick.last })
      { s with hubq := { s.hubq with upd := s.hubq.upd ++ [⟨q, n⟩] } }

/-- UPDATE (R249 to R251, R293). -/
def execUpdate (q : Fin 64) (n : Nat) (s : State) : Host.Outcome State Fault Refusal := .next (updDispatch s q n)

/-! ### Arming (R305, R308, R311, R312) -/

/-- One 4 KiB block at a DVA translated for an update: mapped, granted, enabled HBM of a die in service. -/
def updXlate (s : State) (ctx va : Nat) (rd wr : Bool) : Xres :=
  match walk s ctx va with
  | none => .fault 0x20
  | some l =>
    if (rd && !l.r) || (wr && !l.w) then .fault 0x21
    else if hbmOk s (l.addr va) && !lateDie s (l.addr va) then .pa (l.addr va) else .fault 0x25

/-- The blocks of a range, with their translations; or the first fault. -/
structure UpdMap where
  s : State
  map : Tab Nat := []
  fault : Option Nat := none
  deriving DecidableEq, Repr

/-- A range of an update is translated block by block. -/
def mapRange (ctx : Nat) (x : UpdMap) (g : Nat × Nat) (wr : Bool) : UpdMap :=
  if x.fault.isSome || g.2 = 0 then x
  else
    let b := g.1 / 4096
    let y := (upTo ((g.1 + g.2 - 1) / 4096 - b + 1)).foldl (fun (y : UpdMap) i =>
      match y.fault with
      | some _ => y
      | none =>
        match updXlate y.s ctx (4096 * (b + i)) true wr with
        | .fault f => { y with fault := some f }
        | .pa a => { y with map := tabSet y.map (b + i) a }) x
    { y with s := vnote y.s ctx g.1 g.2 y.fault }

/-- R308, R312: every range of an update is translated; the bitmap and the gradient are only read. -/
def mapAll (s : State) (ctx : Nat) (r : Rec) : UpdMap :=
  let n := r.uCount
  let x := mapRange ctx { s := s } (r.uHdr + 64, ceilDiv n 8) false
  let x := mapRange ctx x (r.uW, 2 * n) true
  let x := if r.uMom then mapRange ctx x (r.uM, 33 * ceilDiv n 32) true else x
  let x := if r.uLinked then x else mapRange ctx x (r.uG, gradBytes r.uGfmt n) false
  mapRange ctx x (r.uHdr, 64) true

/-- Arming past the header: every page is translated, and the unit waits for its write phase. -/
def armMaps (s : State) (c : CmdRef) (r : Rec) (h : Shard) : State :=
  let x := mapAll s (s.queue c.q).ctxNo r
  match x.fault with
  | some f => updFail x.s c f
  | none =>
    { x.s with upd := { x.s.upd with
      run := some { ref := c, hdr := h, map := x.map
                    rs := if r.uLinked then some (match pairRs s c with | some y => y.n | none => 0) else none } } }

/-- R305, R308, R311: an update arms: its header is translated, read and checked, then its pages are translated. -/
def armUpdate (s : State) (c : CmdRef) (r : Rec) : State :=
  let s := setRecSt { s with
    hubq := { s.hubq with upd := s.hubq.upd.filter (fun d => d != c) }
    upd := { s.upd with queue := c.q, epoch := r.cEpoch, rule := r.uRule, lastQ := c.q } } c .started
  let failed := match pairRs s c with
    | some y => (match findRec s ⟨c.q, y.n⟩ with | some v => v.failed | none => false)
    | none => false
  if r.uLinked && failed then updFail s c 0x05
  else
    let x := mapRange (s.queue c.q).ctxNo { s := s } (r.uHdr, 64) true
    match x.fault with
    | some f => updFail x.s c f
    | none =>
      let a := tabGet x.map 0 (r.uHdr / 4096) + r.uHdr % 4096
      let s := detect x.s a 64
      let bad := rangeBad s a 64
      match if bad then none else shardOf (readBytes s a 64) with
      | none => updEnd s c 0x02 bad
      | some h =>
        if h.epochTag ≠ r.cEpoch then abortOf (updFail s c 0x62) c.q 0x62
        else armMaps s c r h

/-- R191, R222, R308: the free unit arms the next update that may start. -/
def updArm (s : State) : State :=
  if s.upd.run.isSome || s.pst != .active then s
  else
    let ok (c : CmdRef) : Bool := match findRec s c with | some r => epochOpen s c r | none => false
    match pickRef s.hubq.upd s.upd.lastQ ok with
    | none => s
    | some c =>
      match findRec s c with
      | none => s
      | some r => collKick (sramSweep (armUpdate s c r))

/-- UPDATE_ARM (R308). -/
def execUpdateArm (s : State) : Host.Outcome State Fault Refusal := .next (updArm s)

/-! ### The write phase (R297 to R304, R311) -/

/-- The address of a byte as translated at arming. -/
def UpdRun.pa (u : UpdRun) (va : Nat) : Nat := tabGet u.map 0 (va / 4096) + va % 4096

/-- Bytes read through the translations of arming, with their poison. -/
def updRead (u : UpdRun) (s : State) (va n : Nat) : State × Marked :=
  let s := (upTo n).foldl (fun t i => detect t (u.pa (va + i)) 1) s
  (s, (upTo n).map (fun i => (readByte s (u.pa (va + i)), unitBad s (unitOf (u.pa (va + i))))))

/-- What a write phase has done so far: the state, parameters met that were frozen or excluded, skipped for a NaN or an
infinity, skipped for poison, OVF, whether poison was met, and the addresses of writes to a fenced die (R332). -/
structure UpdAcc where
  s : State
  hits : Nat := 0
  nan : Nat := 0
  bad : Nat := 0
  ovf : Nat := 0
  poison : Bool := false
  lost : List Nat := []
  deriving DecidableEq, Repr

/-- Bytes within one line are written through the translations of arming. -/
def updWrite (u : UpdRun) (x : UpdAcc) (va : Nat) (bs : List Byte) : UpdAcc :=
  let a := u.pa va
  { x with
    s := writeMem x.s a bs false
    lost := if lateDie x.s a && x.lost.isEmpty then [a] else x.lost }

/-- R309: the bytes of gradient element `i` of a linked update: from the hand-off buffer, or else from DST. -/
def handElem (s : State) (q n dst w i : Nat) : State × Marked :=
  match s.upd.hand.find? (fun h => h.q == q && h.n == n && h.idx == i / 4096) with
  | some h => (s, (h.data.drop (w * (i % 4096))).take w)
  | none =>
    let m := vreadMarked s (s.queue q).ctxNo (dst + w * i) w
    if m.fault.isSome then (s, mark true (List.replicate w 0)) else (m.s, m.data)

/-- The scalar type of a gradient element. -/
def gradTy (gfmt : Nat) : Sty := match gfmt with | 0 => .bf16 | 1 => .acc35 | _ => .int32

/-- The value and the poison of gradient element `i`. -/
def gradVal (u : UpdRun) (s : State) (r : Rec) (i : Nat) : State × Val × Bool :=
  let t : CFmt := { sty := gradTy r.uGfmt }
  let w := t.bits / 8
  let e := match u.rs with
    | none => updRead u s (r.uG + w * i) w
    | some n =>
      let dst := match findRec s ⟨u.ref.q, n⟩ with | some y => y.cDst | none => 0
      handElem s u.ref.q n dst w i
  (e.1, foldElem t e.2 0)

/-- The value and the poison of momentum element `i`. -/
def momVal (u : UpdRun) (s : State) (r : Rec) (i : Nat) : State × Val × Bool :=
  if !r.uMom then (s, .fin false 0 0, false)
  else
    let e := updRead u s (r.uM + i) 1
    let k := updRead u e.1 (r.uM + 32 * ceilDiv r.uCount 32 + i / 32) 1
    (k.1, decodeMx .e4m3 (markedLE k.2) (markedLE e.2), anyBad e.2 || anyBad k.2)

/-- The sign of a value as a value. -/
def Val.sign (v : Val) : Val := if v.isZero then .fin false 0 0 else .fin v.neg? 1 0

/-- `b·m + (1 − b)·g`, exactly. -/
def mixVal (b m g : Val) : Val := (b.mul m).add (((Val.fin false 1 0).add b.negate).mul g)

/-- R297: the direction and the new momentum of a parameter. -/
def ruleVals (r : Rec) (g m : Val) : Val × Val :=
  let b1 := decodeS .fp32 r.uBeta1
  let mn := mixVal (if r.uRule = 2 then decodeS .fp32 r.uBeta2 else b1) m g
  match r.uRule with
  | 1 => (mn.sign, mn)
  | 2 => ((mixVal b1 m g).sign, mn)
  | _ => (g.sign, .fin false 0 0)

/-- R61: the logical index of parameter `i` of a shard. -/
def Shard.index (h : Shard) (i : Nat) : Nat := (h.base + i) % 2 ^ 44

/-- R297: the new weight of a parameter, and whether it overflowed. -/
def stepWeight (h : Shard) (r : Rec) (w : Nat) (d : Val) (i : Nat) : Nat × Bool :=
  if d.isZero then (w, false)
  else
    let e := encodeS .bf16 ((decodeS .bf16 w).add d.negate) (.sr (quag r.uSeed h.tensor (h.index i) 3)) false
    (e.bits, e.ovf)

/-- Whether parameter `i` of a shard is excluded (R291). -/
def Shard.excluded (h : Shard) (i : Nat) : Bool := decide (h.exclFirst ≤ i) && decide (i < h.exclFirst + h.exclCount)

/-- R291, R311: whether parameter `i` is frozen or excluded, and whether its bitmap byte is poisoned. -/
def frozenAt (u : UpdRun) (s : State) (r : Rec) (i : Nat) : State × Bool × Bool :=
  let e := updRead u s (r.uHdr + 64 + i / 8) 1
  let bad := anyBad e.2
  (e.1, bad || (markedLE e.2).testBit (i % 8) || u.hdr.excluded i, bad)

/-- Whether a value is a NaN or infinite. -/
def Val.odd (v : Val) : Bool := v.isNan || v.isInf

/-- R298: one parameter; its new momentum, none where it is kept. The gradient of an excluded parameter is read but not used,
unless a reduce-scatter hands it over (R303). -/
def updParam (u : UpdRun) (r : Rec) (x : UpdAcc) (i : Nat) : UpdAcc × Option Val :=
  let f := frozenAt u x.s r i
  let x := { x with s := f.1, poison := x.poison || f.2.2 }
  if f.2.1 then
    ({ x with hits := x.hits + 1, s := if u.hdr.excluded i && u.rs.isNone then (gradVal u x.s r i).1 else x.s }, none)
  else
    let wb := updRead u x.s (r.uW + 2 * i) 2
    let g := gradVal u wb.1 r i
    let m := momVal u g.1 r i
    let w := decodeS .bf16 (markedLE wb.2)
    let x := { x with s := m.1 }
    if anyBad wb.2 || g.2.2 || m.2.2 then ({ x with bad := x.bad + 1, poison := true }, none)
    else if w.odd || g.2.1.odd || m.2.1.odd then ({ x with nan := x.nan + 1 }, none)
    else
      let v := ruleVals r g.2.1 m.2.1
      let d := (decodeS .fp32 r.uEta).mul (v.1.add ((decodeS .fp32 r.uLambda).mul w))
      let n := stepWeight u.hdr r (markedLE wb.2) d i
      (updWrite u { x with ovf := x.ovf + b2n n.2 } (r.uW + 2 * i) (toLE 2 n.1), some v.2)

/-- The generator value of momentum element `i` (site 4). -/
def momRnd (h : Shard) (r : Rec) (i : Nat) : Rnd := .sr (quag r.uSeed h.tensor (h.index i) 4)

/-- R299: a momentum block without kept elements. -/
def momWhole (u : UpdRun) (r : Rec) (x : UpdAcc) (b : Nat) (vs : List Val) : UpdAcc :=
  let vs := vs ++ List.replicate (32 - vs.length) (.fin false 0 0)
  let e := encodeMx .e4m3 ((upTo 32).map (fun j => (vs.getD j (.fin false 0 0), momRnd u.hdr r (32 * b + j)))) false
  let x := updWrite u { x with ovf := x.ovf + b2n e.ovf } (r.uM + 32 * b) (e.elems.map (BitVec.ofNat 8))
  updWrite u x (r.uM + 32 * ceilDiv r.uCount 32 + b) (toLE 1 e.scale)

/-- R299: a momentum block that keeps its scale byte `k`. -/
def momHeld (u : UpdRun) (r : Rec) (x : UpdAcc) (b k : Nat) (ms : List (Option Val)) : UpdAcc :=
  if k = 255 then x
  else
    ((upTo ms.length).zip ms).foldl (fun (x : UpdAcc) e =>
      match e.2 with
      | none => x
      | some v =>
        let i := 32 * b + e.1
        let c := encodeS .e4m3 (v.scale (127 - (k : Int))) (momRnd u.hdr r i) false
        updWrite u { x with ovf := x.ovf + b2n c.ovf } (r.uM + i) (toLE 1 c.bits)) x

/-- R298: one momentum block. -/
def updBlock (u : UpdRun) (r : Rec) (x : UpdAcc) (b : Nat) : UpdAcc :=
  let y := (upTo (min 32 (r.uCount - 32 * b))).foldl (fun (y : UpdAcc × List (Option Val)) j =>
    let z := updParam u r y.1 (32 * b + j)
    (z.1, y.2 ++ [z.2])) (x, [])
  if !r.uMom then y.1
  else if y.2.all Option.isSome then momWhole u r y.1 b (y.2.filterMap id)
  else
    let k := updRead u y.1.s (r.uM + 32 * ceilDiv r.uCount 32 + b) 1
    momHeld u r { y.1 with s := k.1 } b (markedLE k.2) y.2

/-- A UPD counter advances. -/
def updCtr (s : State) (o n : Nat) : State := { s with upd := { s.upd with ctr := ctrAdd s.upd.ctr o n } }

/-- R309: the runs of a linked share that the buffer does not hold. -/
def handMisses (s : State) (u : UpdRun) (n : Nat) : Nat :=
  match u.rs with
  | none => 0
  | some m => ((upTo (ceilDiv n 4096)).filter (fun i =>
      !(s.upd.hand.any (fun h => h.q == u.ref.q && h.n == m && h.idx == i)))).length

/-- R315: the counters of a write phase. -/
def updCounts (s : State) (x : UpdAcc) (n miss ns : Nat) : State :=
  let s := updCtr (updCtr (updCtr s 0x108 1) 0x110 (n - x.hits)) 0x118 x.hits
  updCtr (updCtr (updCtr (updCtr s 0x120 x.nan) 0x128 x.bad) 0x130 miss) 0x138 ns

/-- R298 to R304: the write phase of an armed update. -/
def updWritePhase (s : State) (u : UpdRun) (r : Rec) (ns : Nat) : State :=
  let n := r.uCount
  let miss := handMisses s u n
  let x := (upTo (ceilDiv n 32)).foldl (updBlock u r) { s := s }
  let h := { u.hdr with version := u.hdr.version + 1, hits := u.hdr.hits + BitVec.ofNat 64 x.hits }
  let x := updWrite u x r.uHdr h.bytes
  let s := noteDiscard (updCounts x.s x n miss ns) u.ref.q x.lost
  let s := dropHand { s with upd := { s.upd with run := none } } u.ref.q u.rs
  let s := complete s u.ref {
    res0 := h.version.toNat, res1 := n - x.hits
    res2 := satW 32 x.ovf + satW 32 (x.nan + x.bad) * 2 ^ 32, poison := x.poison }
  collKick (sramSweep s)

/-- R308, R310: the write phase begins when the paired reduce-scatter has completed with status 0; after a failure the
update does not execute. -/
def updPhase (s : State) (ns : Nat) : State :=
  match s.upd.run with
  | none => s
  | some u =>
    match findRec s u.ref with
    | none => s
    | some r =>
      match u.rs with
      | none => updWritePhase s u r ns
      | some n =>
        match findRec s ⟨u.ref.q, n⟩ with
        | none => s
        | some y =>
          if !y.isDone then s
          else if y.failed then collKick (updFail { s with upd := { s.upd with run := none } } u.ref 0x05)
          else updWritePhase s u r ns

/-- UPDATE_WRITE_PHASE (R298), which lasted `ns` nanoseconds. -/
def execUpdateWritePhase (ns : Nat) (s : State) : Host.Outcome State Fault Refusal := .next (updPhase s ns)

end Sys2Proof.Machine
end

