-- ==== Sys2Proof/Machine/VeControl.lean ====
section
/-!
DEFINITION. The meanings of the vector engine's control instructions (class 0x0) (spec/04_vector_engine.md R122).
-/
namespace Sys2Proof.Machine

/-- VE_ILLEGAL_INSTRUCTION (R118): an illegal or poisoned word stops the program. -/
def execVeIllegalInstruction (p : Fin 256) (w : VeWaits) (s : State) : Host.Outcome State Fault Refusal :=
  .next (veIllegal p w s)

/-- VE_NOP (R122). -/
def execVeNop (p : Fin 256) (w : VeWaits) (s : State) : Host.Outcome State Fault Refusal :=
  veStep p w 0 0 (fun s _ _ => .ok s) s

/-- END (R116). -/
def execEndProg (p : Fin 256) (w : VeWaits) (s : State) : Host.Outcome State Fault Refusal :=
  veStep p w 0 1 (fun s _ _ => .fin s) s

/-- BR (R122). -/
def execBr (p : Fin 256) (w : VeWaits) (s : State) : Host.Outcome State Fault Refusal :=
  veStep p w 0 2 (veBranch (fun _ _ => true)) s

/-- BZ (R122). -/
def execBz (p : Fin 256) (w : VeWaits) (s : State) : Host.Outcome State Fault Refusal :=
  veStep p w 0 3 (veBranch (fun x i => x.sreg i.a == 0)) s

/-- BNZ (R122). -/
def execBnz (p : Fin 256) (w : VeWaits) (s : State) : Host.Outcome State Fault Refusal :=
  veStep p w 0 4 (veBranch (fun x i => x.sreg i.a != 0)) s

/-- BLT (R122). -/
def execBlt (p : Fin 256) (w : VeWaits) (s : State) : Host.Outcome State Fault Refusal :=
  veStep p w 0 5 (veBranch (fun x i => (x.sreg i.a).slt (x.sreg i.b))) s

/-- LOOP (R122). -/
def execLoopS (p : Fin 256) (w : VeWaits) (s : State) : Host.Outcome State Fault Refusal :=
  veStep p w 0 6 veLoop s

/-- SETVL (R122). -/
def execSetvl (p : Fin 256) (w : VeWaits) (s : State) : Host.Outcome State Fault Refusal :=
  veStep p w 0 7 veSetvl s

/-- SETVLI (R122). -/
def execSetvli (p : Fin 256) (w : VeWaits) (s : State) : Host.Outcome State Fault Refusal :=
  veStep p w 0 8 veSetvli s

end Sys2Proof.Machine
end

