-- ==== Sys2Proof/Machine/VeConv.lean ====
section
/-!
DEFINITION. The meanings of the vector engine's conversions and wide-pair instructions (class 0x9) (spec/04_vector_engine.md R122).
-/
namespace Sys2Proof.Machine

/-- VF2I (R133). -/
def execVf2i (p : Fin 256) (w : VeWaits) (s : State) : Host.Outcome State Fault Refusal :=
  veStep p w 9 0 (veConvert .fp32 .int32) s

/-- VI2F (R133). -/
def execVi2f (p : Fin 256) (w : VeWaits) (s : State) : Host.Outcome State Fault Refusal :=
  veStep p w 9 1 (veConvert .int32 .fp32) s

/-- VPACK (R133). -/
def execVpack (p : Fin 256) (w : VeWaits) (s : State) : Host.Outcome State Fault Refusal :=
  veStep p w 9 2 veVpack s

/-- VUNLO (R133). -/
def execVunlo (p : Fin 256) (w : VeWaits) (s : State) : Host.Outcome State Fault Refusal :=
  veStep p w 9 3 (veUnpack 0) s

/-- VUNHI (R133). -/
def execVunhi (p : Fin 256) (w : VeWaits) (s : State) : Host.Outcome State Fault Refusal :=
  veStep p w 9 4 (veUnpack 1) s

/-- VQNT (R122). -/
def execVqnt (p : Fin 256) (w : VeWaits) (s : State) : Host.Outcome State Fault Refusal :=
  veStep p w 9 5 veVqnt s

/-- WADD (R124). -/
def execWadd (p : Fin 256) (w : VeWaits) (s : State) : Host.Outcome State Fault Refusal :=
  veStep p w 9 16 veWadd s

/-- WADDF (R124). -/
def execWaddf (p : Fin 256) (w : VeWaits) (s : State) : Host.Outcome State Fault Refusal :=
  veStep p w 9 17 veWaddf s

/-- WFROM (R138). -/
def execWfrom (p : Fin 256) (w : VeWaits) (s : State) : Host.Outcome State Fault Refusal :=
  veStep p w 9 18 veWfrom s

/-- WTO (R138). -/
def execWto (p : Fin 256) (w : VeWaits) (s : State) : Host.Outcome State Fault Refusal :=
  veStep p w 9 19 veWto s

/-- WFROMI (R138). -/
def execWfromi (p : Fin 256) (w : VeWaits) (s : State) : Host.Outcome State Fault Refusal :=
  veStep p w 9 20 veWfromi s

end Sys2Proof.Machine
end

