-- ==== Sys2Proof/Machine/VeFloat.lean ====
section
/-!
DEFINITION. The meanings of the vector engine's FP32 lane instructions (class 0x2) (spec/04_vector_engine.md R122).
-/
namespace Sys2Proof.Machine

/-- VADD_F (R123). -/
def execVaddF (p : Fin 256) (w : VeWaits) (s : State) : Host.Outcome State Fault Refusal :=
  veStep p w 2 0 (lanes2 (fp2 vAdd)) s

/-- VSUB_F (R123). -/
def execVsubF (p : Fin 256) (w : VeWaits) (s : State) : Host.Outcome State Fault Refusal :=
  veStep p w 2 1 (lanes2 (fp2 vSub)) s

/-- VMUL_F (R123). -/
def execVmulF (p : Fin 256) (w : VeWaits) (s : State) : Host.Outcome State Fault Refusal :=
  veStep p w 2 2 (lanes2 (fp2 vMul)) s

/-- VFMA_F (R123). -/
def execVfmaF (p : Fin 256) (w : VeWaits) (s : State) : Host.Outcome State Fault Refusal :=
  veStep p w 2 3 (lanes3 (fp3 vFma)) s

/-- VFMS_F (R123). -/
def execVfmsF (p : Fin 256) (w : VeWaits) (s : State) : Host.Outcome State Fault Refusal :=
  veStep p w 2 4 (lanes3 (fp3 vFms)) s

/-- VFNMA_F (R123). -/
def execVfnmaF (p : Fin 256) (w : VeWaits) (s : State) : Host.Outcome State Fault Refusal :=
  veStep p w 2 5 (lanes3 (fp3 vFnma)) s

/-- VMIN_F (R123). -/
def execVminF (p : Fin 256) (w : VeWaits) (s : State) : Host.Outcome State Fault Refusal :=
  veStep p w 2 6 (lanes2 (fp2 minVal)) s

/-- VMAX_F (R123). -/
def execVmaxF (p : Fin 256) (w : VeWaits) (s : State) : Host.Outcome State Fault Refusal :=
  veStep p w 2 7 (lanes2 (fp2 maxVal)) s

/-- VABS_F (R123). -/
def execVabsF (p : Fin 256) (w : VeWaits) (s : State) : Host.Outcome State Fault Refusal :=
  veStep p w 2 8 (lanes1 (fun a => f32 (fp a).abs)) s

/-- VNEG_F (R123). -/
def execVnegF (p : Fin 256) (w : VeWaits) (s : State) : Host.Outcome State Fault Refusal :=
  veStep p w 2 9 (lanes1 (fun a => f32 (fp a).negate)) s

/-- VCPS_F (R123). -/
def execVcpsF (p : Fin 256) (w : VeWaits) (s : State) : Host.Outcome State Fault Refusal :=
  veStep p w 2 10 (lanes2 (vCps .fp32)) s

/-- VMOV (R123). -/
def execVmov (p : Fin 256) (w : VeWaits) (s : State) : Host.Outcome State Fault Refusal :=
  veStep p w 2 11 (lanes1 (fun a => a)) s

/-- VBC (R122). -/
def execVbc (p : Fin 256) (w : VeWaits) (s : State) : Host.Outcome State Fault Refusal :=
  veStep p w 2 12 veVbc s

/-- VSEL (R122). -/
def execVsel (p : Fin 256) (w : VeWaits) (s : State) : Host.Outcome State Fault Refusal :=
  veStep p w 2 13 veVsel s

end Sys2Proof.Machine
end

