-- ==== Sys2Proof/Machine/VeInt.lean ====
section
/-!
DEFINITION. The meanings of the vector engine's INT32 lane instructions (class 0x4) (spec/04_vector_engine.md R122).
-/
namespace Sys2Proof.Machine

/-- VADD_I (R122). -/
def execVaddI (p : Fin 256) (w : VeWaits) (s : State) : Host.Outcome State Fault Refusal :=
  veStep p w 4 0 (lanes2 (fun a b => (a + b) % 2 ^ 32)) s

/-- VSUB_I (R122). -/
def execVsubI (p : Fin 256) (w : VeWaits) (s : State) : Host.Outcome State Fault Refusal :=
  veStep p w 4 1 (lanes2 (fun a b => (a + 2 ^ 32 - b) % 2 ^ 32)) s

/-- VMUL_I (R122). -/
def execVmulI (p : Fin 256) (w : VeWaits) (s : State) : Host.Outcome State Fault Refusal :=
  veStep p w 4 2 (lanes2 (fun a b => a * b % 2 ^ 32)) s

/-- VADDS_I (R122). -/
def execVaddsI (p : Fin 256) (w : VeWaits) (s : State) : Host.Outcome State Fault Refusal :=
  veStep p w 4 3 (lanesSat (fun a b => a + b)) s

/-- VSUBS_I (R122). -/
def execVsubsI (p : Fin 256) (w : VeWaits) (s : State) : Host.Outcome State Fault Refusal :=
  veStep p w 4 4 (lanesSat (fun a b => a - b)) s

/-- VAND (R122). -/
def execVand (p : Fin 256) (w : VeWaits) (s : State) : Host.Outcome State Fault Refusal :=
  veStep p w 4 5 (lanes2 Nat.land) s

/-- VOR (R122). -/
def execVor (p : Fin 256) (w : VeWaits) (s : State) : Host.Outcome State Fault Refusal :=
  veStep p w 4 6 (lanes2 Nat.lor) s

/-- VXOR (R122). -/
def execVxor (p : Fin 256) (w : VeWaits) (s : State) : Host.Outcome State Fault Refusal :=
  veStep p w 4 7 (lanes2 Nat.xor) s

/-- VSHL (R122). -/
def execVshl (p : Fin 256) (w : VeWaits) (s : State) : Host.Outcome State Fault Refusal :=
  veStep p w 4 8 (lanes2 (fun a b => a * 2 ^ (b % 32) % 2 ^ 32)) s

/-- VSHR (R122). -/
def execVshr (p : Fin 256) (w : VeWaits) (s : State) : Host.Outcome State Fault Refusal :=
  veStep p w 4 9 (lanes2 (fun a b => a / 2 ^ (b % 32))) s

/-- VSAR (R122). -/
def execVsar (p : Fin 256) (w : VeWaits) (s : State) : Host.Outcome State Fault Refusal :=
  veStep p w 4 10 (lanes2 (fun a b => w32 (Int.fdiv (i32 a) (2 ^ (b % 32))))) s

/-- VMIN_I (R122). -/
def execVminI (p : Fin 256) (w : VeWaits) (s : State) : Host.Outcome State Fault Refusal :=
  veStep p w 4 11 (lanes2 (fun a b => if i32 a < i32 b then a else b)) s

/-- VMAX_I (R122). -/
def execVmaxI (p : Fin 256) (w : VeWaits) (s : State) : Host.Outcome State Fault Refusal :=
  veStep p w 4 12 (lanes2 (fun a b => if i32 a < i32 b then b else a)) s

/-- VIOTA (R122). -/
def execViota (p : Fin 256) (w : VeWaits) (s : State) : Host.Outcome State Fault Refusal :=
  veStep p w 4 13 veViota s

end Sys2Proof.Machine
end

