-- ==== Sys2Proof/Machine/VeLagg.lean ====
section
/-!
DEFINITION. The meanings of the vector engine's lagg-queue instructions (class 0xB) (spec/04_vector_engine.md R122).
-/
namespace Sys2Proof.Machine

/-- LWAIT (R141). -/
def execLwait (p : Fin 256) (w : VeWaits) (s : State) : Host.Outcome State Fault Refusal :=
  veStep p w 11 0 veLwait s

/-- LPEEK (R141). -/
def execLpeek (p : Fin 256) (w : VeWaits) (s : State) : Host.Outcome State Fault Refusal :=
  veStep p w 11 1 veLpeek s

/-- LLD (R143). -/
def execLld (p : Fin 256) (w : VeWaits) (s : State) : Host.Outcome State Fault Refusal :=
  veStep p w 11 2 veLld s

/-- LLDW (R143). -/
def execLldw (p : Fin 256) (w : VeWaits) (s : State) : Host.Outcome State Fault Refusal :=
  veStep p w 11 3 veLldw s

/-- LREL (R144). -/
def execLrel (p : Fin 256) (w : VeWaits) (s : State) : Host.Outcome State Fault Refusal :=
  veStep p w 11 4 veLrel s

end Sys2Proof.Machine
end

