-- ==== Sys2Proof/Machine/VeMask.lean ====
section
/-!
DEFINITION. The meanings of the vector engine's compares and mask instructions (class 0x5) (spec/04_vector_engine.md R122).
-/
namespace Sys2Proof.Machine

/-- VCMP_F (R123). -/
def execVcmpF (p : Fin 256) (w : VeWaits) (s : State) : Host.Outcome State Fault Refusal :=
  .next (veRun p w (fun i => i.cls == 5 && decide (i.fn ≤ 5)) veVcmpF s)

/-- VCMP_I (R122). -/
def execVcmpI (p : Fin 256) (w : VeWaits) (s : State) : Host.Outcome State Fault Refusal :=
  .next (veRun p w (fun i => i.cls == 5 && decide (8 ≤ i.fn) && decide (i.fn ≤ 13)) veVcmpI s)

/-- VNAN (R122). -/
def execVnan (p : Fin 256) (w : VeWaits) (s : State) : Host.Outcome State Fault Refusal :=
  veStep p w 5 14 veVnan s

/-- MAND (R122). -/
def execMand (p : Fin 256) (w : VeWaits) (s : State) : Host.Outcome State Fault Refusal :=
  veStep p w 5 16 (mask2 (fun a b => a && b)) s

/-- MOR (R122). -/
def execMor (p : Fin 256) (w : VeWaits) (s : State) : Host.Outcome State Fault Refusal :=
  veStep p w 5 17 (mask2 (fun a b => a || b)) s

/-- MXOR (R122). -/
def execMxor (p : Fin 256) (w : VeWaits) (s : State) : Host.Outcome State Fault Refusal :=
  veStep p w 5 18 (mask2 (fun a b => a != b)) s

/-- MANDN (R122). -/
def execMandn (p : Fin 256) (w : VeWaits) (s : State) : Host.Outcome State Fault Refusal :=
  veStep p w 5 19 (mask2 (fun a b => a && !b)) s

/-- MNOT (R122). -/
def execMnot (p : Fin 256) (w : VeWaits) (s : State) : Host.Outcome State Fault Refusal :=
  veStep p w 5 20 veMnot s

/-- MVL (R122). -/
def execMvl (p : Fin 256) (w : VeWaits) (s : State) : Host.Outcome State Fault Refusal :=
  veStep p w 5 21 veMvl s

/-- MPOP (R122). -/
def execMpop (p : Fin 256) (w : VeWaits) (s : State) : Host.Outcome State Fault Refusal :=
  veStep p w 5 22 veMpop s

/-- MFIRST (R122). -/
def execMfirst (p : Fin 256) (w : VeWaits) (s : State) : Host.Outcome State Fault Refusal :=
  veStep p w 5 23 veMfirst s

/-- MLD (R122). -/
def execMld (p : Fin 256) (w : VeWaits) (s : State) : Host.Outcome State Fault Refusal :=
  veStep p w 5 24 veMld s

/-- MST (R122). -/
def execMst (p : Fin 256) (w : VeWaits) (s : State) : Host.Outcome State Fault Refusal :=
  veStep p w 5 25 veMst s

end Sys2Proof.Machine
end

