-- ==== Sys2Proof/Machine/VeMem.lean ====
section
/-!
DEFINITION. The meanings of the vector engine's memory instructions (class 0xA) (spec/04_vector_engine.md R122).
-/
namespace Sys2Proof.Machine

/-- VLD (R136). -/
def execVld (p : Fin 256) (w : VeWaits) (s : State) : Host.Outcome State Fault Refusal :=
  veStep p w 10 0 (veLoad 0) s

/-- VST (R136). -/
def execVst (p : Fin 256) (w : VeWaits) (s : State) : Host.Outcome State Fault Refusal :=
  veStep p w 10 1 (veStore 0) s

/-- VLDS (R122). -/
def execVlds (p : Fin 256) (w : VeWaits) (s : State) : Host.Outcome State Fault Refusal :=
  veStep p w 10 2 (veLoad 1) s

/-- VSTS (R122). -/
def execVsts (p : Fin 256) (w : VeWaits) (s : State) : Host.Outcome State Fault Refusal :=
  veStep p w 10 3 (veStore 1) s

/-- VLDX (R122). -/
def execVldx (p : Fin 256) (w : VeWaits) (s : State) : Host.Outcome State Fault Refusal :=
  veStep p w 10 4 (veLoad 2) s

/-- VSTX (R122). -/
def execVstx (p : Fin 256) (w : VeWaits) (s : State) : Host.Outcome State Fault Refusal :=
  veStep p w 10 5 (veStore 2) s

/-- VLDC_F (R135). -/
def execVldcF (p : Fin 256) (w : VeWaits) (s : State) : Host.Outcome State Fault Refusal :=
  veStep p w 10 6 (veLoadConv false) s

/-- VLDC_I (R135). -/
def execVldcI (p : Fin 256) (w : VeWaits) (s : State) : Host.Outcome State Fault Refusal :=
  veStep p w 10 7 (veLoadConv true) s

/-- VSTC_F (R135). -/
def execVstcF (p : Fin 256) (w : VeWaits) (s : State) : Host.Outcome State Fault Refusal :=
  veStep p w 10 8 veStoreF s

/-- VSTC_I (R135). -/
def execVstcI (p : Fin 256) (w : VeWaits) (s : State) : Host.Outcome State Fault Refusal :=
  veStep p w 10 9 veStoreI s

/-- SPL_LD (R138). -/
def execSplLd (p : Fin 256) (w : VeWaits) (s : State) : Host.Outcome State Fault Refusal :=
  veStep p w 10 10 veSplLd s

/-- SPL_ST (R138). -/
def execSplSt (p : Fin 256) (w : VeWaits) (s : State) : Host.Outcome State Fault Refusal :=
  veStep p w 10 11 veSplSt s

/-- SPL_FOLD (R139). -/
def execSplFold (p : Fin 256) (w : VeWaits) (s : State) : Host.Outcome State Fault Refusal :=
  veStep p w 10 12 veSplFold s

end Sys2Proof.Machine
end

