-- ==== Sys2Proof/Machine/VePacked.lean ====
section
/-!
DEFINITION. The meanings of the vector engine's packed BF16 instructions (class 0x3) (spec/04_vector_engine.md R122).
-/
namespace Sys2Proof.Machine

/-- VADD_B (R123). -/
def execVaddB (p : Fin 256) (w : VeWaits) (s : State) : Host.Outcome State Fault Refusal :=
  veStep p w 3 0 (lanes2 (packed2 (fun a b => b16 (vAdd (bf a) (bf b))))) s

/-- VSUB_B (R123). -/
def execVsubB (p : Fin 256) (w : VeWaits) (s : State) : Host.Outcome State Fault Refusal :=
  veStep p w 3 1 (lanes2 (packed2 (fun a b => b16 (vSub (bf a) (bf b))))) s

/-- VMUL_B (R123). -/
def execVmulB (p : Fin 256) (w : VeWaits) (s : State) : Host.Outcome State Fault Refusal :=
  veStep p w 3 2 (lanes2 (packed2 (fun a b => b16 (vMul (bf a) (bf b))))) s

/-- VFMA_B (R123). -/
def execVfmaB (p : Fin 256) (w : VeWaits) (s : State) : Host.Outcome State Fault Refusal :=
  veStep p w 3 3 (lanes3 (packed3 (fun a b c => b16 (vFma (bf a) (bf b) (bf c))))) s

/-- VMIN_B (R123). -/
def execVminB (p : Fin 256) (w : VeWaits) (s : State) : Host.Outcome State Fault Refusal :=
  veStep p w 3 6 (lanes2 (packed2 (fun a b => b16 (minVal (bf a) (bf b))))) s

/-- VMAX_B (R123). -/
def execVmaxB (p : Fin 256) (w : VeWaits) (s : State) : Host.Outcome State Fault Refusal :=
  veStep p w 3 7 (lanes2 (packed2 (fun a b => b16 (maxVal (bf a) (bf b))))) s

/-- VABS_B (R123). -/
def execVabsB (p : Fin 256) (w : VeWaits) (s : State) : Host.Outcome State Fault Refusal :=
  veStep p w 3 8 (lanes1 (packed1 (fun a => b16 (bf a).abs))) s

/-- VNEG_B (R123). -/
def execVnegB (p : Fin 256) (w : VeWaits) (s : State) : Host.Outcome State Fault Refusal :=
  veStep p w 3 9 (lanes1 (packed1 (fun a => b16 (bf a).negate))) s

end Sys2Proof.Machine
end

