-- ==== Sys2Proof/Machine/VePermute.lean ====
section
/-!
DEFINITION. The meanings of the vector engine's permutes (class 0x8) (spec/04_vector_engine.md R122).
-/
namespace Sys2Proof.Machine

/-- VPERM (R129). -/
def execVperm (p : Fin 256) (w : VeWaits) (s : State) : Host.Outcome State Fault Refusal :=
  veStep p w 8 0 veVperm s

/-- VPERMH (R129). -/
def execVpermh (p : Fin 256) (w : VeWaits) (s : State) : Host.Outcome State Fault Refusal :=
  veStep p w 8 1 veVpermh s

/-- VSLDN (R130). -/
def execVsldn (p : Fin 256) (w : VeWaits) (s : State) : Host.Outcome State Fault Refusal :=
  veStep p w 8 2 (veSlide true) s

/-- VSLUP (R130). -/
def execVslup (p : Fin 256) (w : VeWaits) (s : State) : Host.Outcome State Fault Refusal :=
  veStep p w 8 3 (veSlide false) s

/-- VCOMP (R130). -/
def execVcomp (p : Fin 256) (w : VeWaits) (s : State) : Host.Outcome State Fault Refusal :=
  veStep p w 8 4 veVcomp s

/-- VEXPD (R130). -/
def execVexpd (p : Fin 256) (w : VeWaits) (s : State) : Host.Outcome State Fault Refusal :=
  veStep p w 8 5 veVexpd s

/-- VREV (R130). -/
def execVrev (p : Fin 256) (w : VeWaits) (s : State) : Host.Outcome State Fault Refusal :=
  veStep p w 8 6 veVrev s

end Sys2Proof.Machine
end

