-- ==== Sys2Proof/Machine/VeReduce.lean ====
section
/-!
DEFINITION. The meanings of the vector engine's reductions (class 0x7) (spec/04_vector_engine.md R122).
-/
namespace Sys2Proof.Machine

/-- RSUM (R127). -/
def execRsum (p : Fin 256) (w : VeWaits) (s : State) : Host.Outcome State Fault Refusal :=
  veStep p w 7 0 (veSum false false) s

/-- RSSQ (R127). -/
def execRssq (p : Fin 256) (w : VeWaits) (s : State) : Host.Outcome State Fault Refusal :=
  veStep p w 7 1 (veSum true false) s

/-- RMAX (R128). -/
def execRmax (p : Fin 256) (w : VeWaits) (s : State) : Host.Outcome State Fault Refusal :=
  veStep p w 7 2 (veExtreme maxVal (fun v => v) 0xFF800000) s

/-- RMIN (R128). -/
def execRmin (p : Fin 256) (w : VeWaits) (s : State) : Host.Outcome State Fault Refusal :=
  veStep p w 7 3 (veExtreme minVal (fun v => v) 0x7F800000) s

/-- RAMAX (R128). -/
def execRamax (p : Fin 256) (w : VeWaits) (s : State) : Host.Outcome State Fault Refusal :=
  veStep p w 7 4 (veExtreme maxVal Val.abs 0) s

/-- RSUM_W (R127). -/
def execRsumW (p : Fin 256) (w : VeWaits) (s : State) : Host.Outcome State Fault Refusal :=
  veStep p w 7 5 (veSum false true) s

/-- RSSQ_W (R127). -/
def execRssqW (p : Fin 256) (w : VeWaits) (s : State) : Host.Outcome State Fault Refusal :=
  veStep p w 7 6 (veSum true true) s

/-- ARGMAX (R128). -/
def execArgmax (p : Fin 256) (w : VeWaits) (s : State) : Host.Outcome State Fault Refusal :=
  veStep p w 7 7 veArgmax s

/-- RSUM_I (R128). -/
def execRsumI (p : Fin 256) (w : VeWaits) (s : State) : Host.Outcome State Fault Refusal :=
  veStep p w 7 8 veRsumI s

end Sys2Proof.Machine
end

