-- ==== Sys2Proof/Machine/VeScalar.lean ====
section
/-!
DEFINITION. The meanings of the vector engine's scalar instructions (class 0x1) (spec/04_vector_engine.md R122).
-/
namespace Sys2Proof.Machine

/-- ADD (R122). -/
def execAdd (p : Fin 256) (w : VeWaits) (s : State) : Host.Outcome State Fault Refusal :=
  veStep p w 1 0 (scalar2 (fun a b => a + b)) s

/-- SUB (R122). -/
def execSub (p : Fin 256) (w : VeWaits) (s : State) : Host.Outcome State Fault Refusal :=
  veStep p w 1 1 (scalar2 (fun a b => a - b)) s

/-- MUL (R122). -/
def execMul (p : Fin 256) (w : VeWaits) (s : State) : Host.Outcome State Fault Refusal :=
  veStep p w 1 2 (scalar2 (fun a b => a * b)) s

/-- AND (R122). -/
def execAndS (p : Fin 256) (w : VeWaits) (s : State) : Host.Outcome State Fault Refusal :=
  veStep p w 1 3 (scalar2 (fun a b => a &&& b)) s

/-- OR (R122). -/
def execOrS (p : Fin 256) (w : VeWaits) (s : State) : Host.Outcome State Fault Refusal :=
  veStep p w 1 4 (scalar2 (fun a b => a ||| b)) s

/-- XOR (R122). -/
def execXorS (p : Fin 256) (w : VeWaits) (s : State) : Host.Outcome State Fault Refusal :=
  veStep p w 1 5 (scalar2 (fun a b => a ^^^ b)) s

/-- SHL (R122). -/
def execShl (p : Fin 256) (w : VeWaits) (s : State) : Host.Outcome State Fault Refusal :=
  veStep p w 1 6 (scalar2 (fun a b => a <<< (b.toNat % 64))) s

/-- SHR (R122). -/
def execShr (p : Fin 256) (w : VeWaits) (s : State) : Host.Outcome State Fault Refusal :=
  veStep p w 1 7 (scalar2 (fun a b => a >>> (b.toNat % 64))) s

/-- SAR (R122). -/
def execSar (p : Fin 256) (w : VeWaits) (s : State) : Host.Outcome State Fault Refusal :=
  veStep p w 1 8 (scalar2 (fun a b => a.sshiftRight (b.toNat % 64))) s

/-- SMIN (R122). -/
def execSmin (p : Fin 256) (w : VeWaits) (s : State) : Host.Outcome State Fault Refusal :=
  veStep p w 1 9 (scalar2 (fun a b => if a.slt b then a else b)) s

/-- SMAX (R122). -/
def execSmax (p : Fin 256) (w : VeWaits) (s : State) : Host.Outcome State Fault Refusal :=
  veStep p w 1 10 (scalar2 (fun a b => if a.slt b then b else a)) s

/-- ADDI (R122). -/
def execAddi (p : Fin 256) (w : VeWaits) (s : State) : Host.Outcome State Fault Refusal :=
  veStep p w 1 16 (veReg (fun x i => x.setS i.d (x.sreg i.a + BitVec.ofInt 64 i.imm))) s

/-- LI (R122). -/
def execLi (p : Fin 256) (w : VeWaits) (s : State) : Host.Outcome State Fault Refusal :=
  veStep p w 1 17 (veReg (fun x i => x.setS i.d (BitVec.ofInt 64 i.imm))) s

/-- LSH (R122). -/
def execLsh (p : Fin 256) (w : VeWaits) (s : State) : Host.Outcome State Fault Refusal :=
  veStep p w 1 18 (veReg (fun x i => x.setS i.d ((x.sreg i.a <<< 22) ||| BitVec.ofNat 64 i.immU))) s

/-- FADD (R123). -/
def execFadd (p : Fin 256) (w : VeWaits) (s : State) : Host.Outcome State Fault Refusal :=
  veStep p w 1 24 (scalarF vAdd) s

/-- FMUL (R123). -/
def execFmul (p : Fin 256) (w : VeWaits) (s : State) : Host.Outcome State Fault Refusal :=
  veStep p w 1 25 (scalarF vMul) s

/-- FMAX (R123). -/
def execFmax (p : Fin 256) (w : VeWaits) (s : State) : Host.Outcome State Fault Refusal :=
  veStep p w 1 26 (scalarF maxVal) s

/-- FMIN (R123). -/
def execFmin (p : Fin 256) (w : VeWaits) (s : State) : Host.Outcome State Fault Refusal :=
  veStep p w 1 27 (scalarF minVal) s

/-- SACC (R124). -/
def execSacc (p : Fin 256) (w : VeWaits) (s : State) : Host.Outcome State Fault Refusal :=
  veStep p w 1 28 veSacc s

/-- W2F (R133). -/
def execW2f (p : Fin 256) (w : VeWaits) (s : State) : Host.Outcome State Fault Refusal :=
  veStep p w 1 29 veW2f s

/-- F2W (R122). -/
def execF2w (p : Fin 256) (w : VeWaits) (s : State) : Host.Outcome State Fault Refusal :=
  veStep p w 1 30 veF2w s

/-- VEXT (R122). -/
def execVext (p : Fin 256) (w : VeWaits) (s : State) : Host.Outcome State Fault Refusal :=
  veStep p w 1 32 veVext s

/-- SLD (R122). -/
def execSld (p : Fin 256) (w : VeWaits) (s : State) : Host.Outcome State Fault Refusal :=
  veStep p w 1 33 veSld s

/-- SST (R122). -/
def execSst (p : Fin 256) (w : VeWaits) (s : State) : Host.Outcome State Fault Refusal :=
  veStep p w 1 34 veSst s

/-- STRD (R122). -/
def execStrd (p : Fin 256) (w : VeWaits) (s : State) : Host.Outcome State Fault Refusal :=
  veStep p w 1 35 (veReg (fun x i => x.setSN i.d x.stat.toNat)) s

/-- STCLR (R122). -/
def execStclr (p : Fin 256) (w : VeWaits) (s : State) : Host.Outcome State Fault Refusal :=
  veStep p w 1 36 (veReg (fun x i => { x with stat := x.stat &&& ~~~((x.sreg i.a).setWidth 5) })) s

end Sys2Proof.Machine
end

