-- ==== Sys2Proof/Machine/VeSfu.lean ====
section
/-!
DEFINITION. The meanings of the vector engine's special functions (class 0x6) (spec/04_vector_engine.md R122).
-/
namespace Sys2Proof.Machine

/-- VEXP2 (R131). -/
def execVexp2 (p : Fin 256) (w : VeWaits) (s : State) : Host.Outcome State Fault Refusal :=
  veStep p w 6 0 (lanes1 (sfuEval .exp2)) s

/-- VLOG2 (R131). -/
def execVlog2 (p : Fin 256) (w : VeWaits) (s : State) : Host.Outcome State Fault Refusal :=
  veStep p w 6 1 (lanes1 (sfuEval .log2)) s

/-- VRCP (R131). -/
def execVrcp (p : Fin 256) (w : VeWaits) (s : State) : Host.Outcome State Fault Refusal :=
  veStep p w 6 2 (lanes1 (sfuEval .rcp)) s

/-- VRSQ (R131). -/
def execVrsq (p : Fin 256) (w : VeWaits) (s : State) : Host.Outcome State Fault Refusal :=
  veStep p w 6 3 (lanes1 (sfuEval .rsq)) s

/-- VSQRT (R131). -/
def execVsqrt (p : Fin 256) (w : VeWaits) (s : State) : Host.Outcome State Fault Refusal :=
  veStep p w 6 4 (lanes1 (sfuEval .sqrt)) s

/-- VTANH (R131). -/
def execVtanh (p : Fin 256) (w : VeWaits) (s : State) : Host.Outcome State Fault Refusal :=
  veStep p w 6 5 (lanes1 (sfuEval .tanh)) s

/-- VSIG (R131). -/
def execVsig (p : Fin 256) (w : VeWaits) (s : State) : Host.Outcome State Fault Refusal :=
  veStep p w 6 6 (lanes1 (sfuEval .sig)) s

/-- VSILU (R131). -/
def execVsilu (p : Fin 256) (w : VeWaits) (s : State) : Host.Outcome State Fault Refusal :=
  veStep p w 6 7 (lanes1 (sfuEval .silu)) s

/-- VGELU (R131). -/
def execVgelu (p : Fin 256) (w : VeWaits) (s : State) : Host.Outcome State Fault Refusal :=
  veStep p w 6 8 (lanes1 (sfuEval .gelu)) s

end Sys2Proof.Machine
end

