-- ==== Sys2Proof/Machine/Dispatch.lean ====
section
/-!
DEFINITION. The one dispatch: one arm per command, each one direct call of that command's meaning.
-/
namespace Sys2Proof.Machine

def exec (i : Instr) (s : State) : Host.Outcome State Fault Refusal :=
  match i with
  | .vinApplied mv slew dbg => Sys2Proof.Machine.execVinApplied mv slew dbg s
  | .vinRemoved => Sys2Proof.Machine.execVinRemoved s
  | .controllerBoot c selfTest => Sys2Proof.Machine.execControllerBoot c selfTest s
  | .initialClaimTimeout => Sys2Proof.Machine.execInitialClaimTimeout s
  | .heartbeatTimeout c => Sys2Proof.Machine.execHeartbeatTimeout c s
  | .watchdogExpiry c => Sys2Proof.Machine.execWatchdogExpiry c s
  | .handover => Sys2Proof.Machine.execHandover s
  | .managementWrite block c => Sys2Proof.Machine.execManagementWrite block c s
  | .logEntry code inst src sev ctrl args => Sys2Proof.Machine.execLogEntry code inst src sev ctrl args s
  | .logSuppressWindow code inst => Sys2Proof.Machine.execLogSuppressWindow code inst s
  | .logPersist => Sys2Proof.Machine.execLogPersist s
  | .requestUpdate m j => Sys2Proof.Machine.execRequestUpdate m j s
  | .firmwareVerify m => Sys2Proof.Machine.execFirmwareVerify m s
  | .activateFirmware m => Sys2Proof.Machine.execActivateFirmware m s
  | .trialTimeout => Sys2Proof.Machine.execTrialTimeout s
  | .fwCommit m => Sys2Proof.Machine.execFwCommit m s
  | .svnCommit m => Sys2Proof.Machine.execSvnCommit m s
  | .getState m => Sys2Proof.Machine.execGetState m s
  | .setState m req x unmet => Sys2Proof.Machine.execSetState m req x unmet s
  | .dieLinkWindow l m trained lanes => Sys2Proof.Machine.execDieLinkWindow l m trained lanes s
  | .portDropped k => Sys2Proof.Machine.execPortDropped k s
  | .sequenceTimeLimit => Sys2Proof.Machine.execSequenceTimeLimit s
  | .ready ms => Sys2Proof.Machine.execReady ms s
  | .omcHandover m => Sys2Proof.Machine.execOmcHandover m s
  | .readReg m pg ofs => Sys2Proof.Machine.execReadReg m pg ofs s
  | .logRead m seq n => Sys2Proof.Machine.execLogRead m seq n s
  | .logFlashRead m place n => Sys2Proof.Machine.execLogFlashRead m place n s
  | .ethCfg m enable dhcp addr mask gateway allow => Sys2Proof.Machine.execEthCfg m enable dhcp addr mask gateway allow s
  | .ethDatagram peer => Sys2Proof.Machine.execEthDatagram peer s
  | .getVersion m => Sys2Proof.Machine.execGetVersion m s
  | .getCapabilities m => Sys2Proof.Machine.execGetCapabilities m s
  | .negotiateAlgorithms m p384 sha384 => Sys2Proof.Machine.execNegotiateAlgorithms m p384 sha384 s
  | .getDigests m => Sys2Proof.Machine.execGetDigests m s
  | .getCertificate m slot n => Sys2Proof.Machine.execGetCertificate m slot n s
  | .challenge m slot => Sys2Proof.Machine.execChallenge m slot s
  | .getMeasurements m index signed => Sys2Proof.Machine.execGetMeasurements m index signed s
  | .getSensorReading m id => Sys2Proof.Machine.execGetSensorReading m id s
  | .mctpControl m eid => Sys2Proof.Machine.execMctpControl m eid s
  | .i3cIsolate scl sda => Sys2Proof.Machine.execI3cIsolate scl sda s
  | .i3cRejoin => Sys2Proof.Machine.execI3cRejoin s
  | .lsmIsolate b => Sys2Proof.Machine.execLsmIsolate b s
  | .lsmInterrupt e feed flags => Sys2Proof.Machine.execLsmInterrupt e feed flags s
  | .thermistorSample mv0 mv1 => Sys2Proof.Machine.execThermistorSample mv0 mv1 s
  | .thermalSample r => Sys2Proof.Machine.execThermalSample r s
  | .coolFlowLow us => Sys2Proof.Machine.execCoolFlowLow us s
  | .inputFault kind reading => Sys2Proof.Machine.execInputFault kind reading s
  | .remoteSenseOpen => Sys2Proof.Machine.execRemoteSenseOpen s
  | .stageFail j => Sys2Proof.Machine.execStageFail j s
  | .railOvercurrent r reading => Sys2Proof.Machine.execRailOvercurrent r reading s
  | .droopDetect c => Sys2Proof.Machine.execDroopDetect c s
  | .droopPersist p => Sys2Proof.Machine.execDroopPersist p s
  | .diodeMismatch p => Sys2Proof.Machine.execDiodeMismatch p s
  | .fastLimiterSample watts vin10 clk => Sys2Proof.Machine.execFastLimiterSample watts vin10 clk s
  | .refclkBLoss => Sys2Proof.Machine.execRefclkBLoss s
  | .refclkBReturn => Sys2Proof.Machine.execRefclkBReturn s
  | .refclkALoss => Sys2Proof.Machine.execRefclkALoss s
  | .perst => Sys2Proof.Machine.execPerst s
  | .functionLevelReset f => Sys2Proof.Machine.execFunctionLevelReset f s
  | .flrTimeout => Sys2Proof.Machine.execFlrTimeout s
  | .vfEnableClear => Sys2Proof.Machine.execVfEnableClear s
  | .dormantRequest => Sys2Proof.Machine.execDormantRequest s
  | .wakeRequest => Sys2Proof.Machine.execWakeRequest s
  | .standbyRequest => Sys2Proof.Machine.execStandbyRequest s
  | .standbyDrainTimeout => Sys2Proof.Machine.execStandbyDrainTimeout s
  | .pwrCtrlWrite v => Sys2Proof.Machine.execPwrCtrlWrite v s
  | .sluiceTick m => Sys2Proof.Machine.execSluiceTick m s
  | .hintExpiry q => Sys2Proof.Machine.execHintExpiry q s
  | .overrun q => Sys2Proof.Machine.execOverrun q s
  | .holdLimitAbort gid => Sys2Proof.Machine.execHoldLimitAbort gid s
  | .periodRequest v dt => Sys2Proof.Machine.execPeriodRequest v dt s
  | .periodChange m => Sys2Proof.Machine.execPeriodChange m s
  | .periodAdoption m => Sys2Proof.Machine.execPeriodAdoption m s
  | .masterTakeover => Sys2Proof.Machine.execMasterTakeover s
  | .timeExchangeMissing => Sys2Proof.Machine.execTimeExchangeMissing s
  | .timeReq k seq t2 t3 => Sys2Proof.Machine.execTimeReq k seq t2 t3 s
  | .timeRsp k seq t2 t3 t4 => Sys2Proof.Machine.execTimeRsp k seq t2 t3 t4 s
  | .beacon k m b hops tick sel dt => Sys2Proof.Machine.execBeacon k m b hops tick sel dt s
  | .candidate k dev now seq => Sys2Proof.Machine.execCandidate k dev now seq s
  | .holdMsg k gid h origin cause => Sys2Proof.Machine.execHoldMsg k gid h origin cause s
  | .abortMsg k gid st origin => Sys2Proof.Machine.execAbortMsg k gid st origin s
  | .periodMsg k tc sel => Sys2Proof.Machine.execPeriodMsg k tc sel s
  | .queueEnable f q => Sys2Proof.Machine.execQueueEnable f q s
  | .queueDisable f q => Sys2Proof.Machine.execQueueDisable f q s
  | .disableComplete q => Sys2Proof.Machine.execDisableComplete q s
  | .sqTail f q v => Sys2Proof.Machine.execSqTail f q v s
  | .cqHead f q v => Sys2Proof.Machine.execCqHead f q v s
  | .commandFetch q => Sys2Proof.Machine.execCommandFetch q s
  | .nop q n => Sys2Proof.Machine.execNop q n s
  | .tile q n => Sys2Proof.Machine.execTile q n s
  | .tileIssue p w => Sys2Proof.Machine.execTileIssue p w s
  | .tileComplete p => Sys2Proof.Machine.execTileComplete p s
  | .drain q n => Sys2Proof.Machine.execDrain q n s
  | .peatFlush q n => Sys2Proof.Machine.execPeatFlush q n s
  | .drainStart p w => Sys2Proof.Machine.execDrainStart p w s
  | .scaleAnswer p cold dt => Sys2Proof.Machine.execScaleAnswer p cold dt s
  | .scaleWaitTimeout p => Sys2Proof.Machine.execScaleWaitTimeout p s
  | .wispResult p => Sys2Proof.Machine.execWispResult p s
  | .parityError p unit => Sys2Proof.Machine.execParityError p unit s
  | .veProg q n => Sys2Proof.Machine.execVeProg q n s
  | .veIllegalInstruction p w => Sys2Proof.Machine.execVeIllegalInstruction p w s
  | .veNop p w => Sys2Proof.Machine.execVeNop p w s
  | .endProg p w => Sys2Proof.Machine.execEndProg p w s
  | .br p w => Sys2Proof.Machine.execBr p w s
  | .bz p w => Sys2Proof.Machine.execBz p w s
  | .bnz p w => Sys2Proof.Machine.execBnz p w s
  | .blt p w => Sys2Proof.Machine.execBlt p w s
  | .loopS p w => Sys2Proof.Machine.execLoopS p w s
  | .setvl p w => Sys2Proof.Machine.execSetvl p w s
  | .setvli p w => Sys2Proof.Machine.execSetvli p w s
  | .add p w => Sys2Proof.Machine.execAdd p w s
  | .sub p w => Sys2Proof.Machine.execSub p w s
  | .mul p w => Sys2Proof.Machine.execMul p w s
  | .andS p w => Sys2Proof.Machine.execAndS p w s
  | .orS p w => Sys2Proof.Machine.execOrS p w s
  | .xorS p w => Sys2Proof.Machine.execXorS p w s
  | .shl p w => Sys2Proof.Machine.execShl p w s
  | .shr p w => Sys2Proof.Machine.execShr p w s
  | .sar p w => Sys2Proof.Machine.execSar p w s
  | .smin p w => Sys2Proof.Machine.execSmin p w s
  | .smax p w => Sys2Proof.Machine.execSmax p w s
  | .addi p w => Sys2Proof.Machine.execAddi p w s
  | .li p w => Sys2Proof.Machine.execLi p w s
  | .lsh p w => Sys2Proof.Machine.execLsh p w s
  | .fadd p w => Sys2Proof.Machine.execFadd p w s
  | .fmul p w => Sys2Proof.Machine.execFmul p w s
  | .fmax p w => Sys2Proof.Machine.execFmax p w s
  | .fmin p w => Sys2Proof.Machine.execFmin p w s
  | .sacc p w => Sys2Proof.Machine.execSacc p w s
  | .w2f p w => Sys2Proof.Machine.execW2f p w s
  | .f2w p w => Sys2Proof.Machine.execF2w p w s
  | .vext p w => Sys2Proof.Machine.execVext p w s
  | .sld p w => Sys2Proof.Machine.execSld p w s
  | .sst p w => Sys2Proof.Machine.execSst p w s
  | .strd p w => Sys2Proof.Machine.execStrd p w s
  | .stclr p w => Sys2Proof.Machine.execStclr p w s
  | .vaddF p w => Sys2Proof.Machine.execVaddF p w s
  | .vsubF p w => Sys2Proof.Machine.execVsubF p w s
  | .vmulF p w => Sys2Proof.Machine.execVmulF p w s
  | .vfmaF p w => Sys2Proof.Machine.execVfmaF p w s
  | .vfmsF p w => Sys2Proof.Machine.execVfmsF p w s
  | .vfnmaF p w => Sys2Proof.Machine.execVfnmaF p w s
  | .vminF p w => Sys2Proof.Machine.execVminF p w s
  | .vmaxF p w => Sys2Proof.Machine.execVmaxF p w s
  | .vabsF p w => Sys2Proof.Machine.execVabsF p w s
  | .vnegF p w => Sys2Proof.Machine.execVnegF p w s
  | .vcpsF p w => Sys2Proof.Machine.execVcpsF p w s
  | .vmov p w => Sys2Proof.Machine.execVmov p w s
  | .vbc p w => Sys2Proof.Machine.execVbc p w s
  | .vsel p w => Sys2Proof.Machine.execVsel p w s
  | .vaddB p w => Sys2Proof.Machine.execVaddB p w s
  | .vsubB p w => Sys2Proof.Machine.execVsubB p w s
  | .vmulB p w => Sys2Proof.Machine.execVmulB p w s
  | .vfmaB p w => Sys2Proof.Machine.execVfmaB p w s
  | .vminB p w => Sys2Proof.Machine.execVminB p w s
  | .vmaxB p w => Sys2Proof.Machine.execVmaxB p w s
  | .vabsB p w => Sys2Proof.Machine.execVabsB p w s
  | .vnegB p w => Sys2Proof.Machine.execVnegB p w s
  | .vaddI p w => Sys2Proof.Machine.execVaddI p w s
  | .vsubI p w => Sys2Proof.Machine.execVsubI p w s
  | .vmulI p w => Sys2Proof.Machine.execVmulI p w s
  | .vaddsI p w => Sys2Proof.Machine.execVaddsI p w s
  | .vsubsI p w => Sys2Proof.Machine.execVsubsI p w s
  | .vand p w => Sys2Proof.Machine.execVand p w s
  | .vor p w => Sys2Proof.Machine.execVor p w s
  | .vxor p w => Sys2Proof.Machine.execVxor p w s
  | .vshl p w => Sys2Proof.Machine.execVshl p w s
  | .vshr p w => Sys2Proof.Machine.execVshr p w s
  | .vsar p w => Sys2Proof.Machine.execVsar p w s
  | .vminI p w => Sys2Proof.Machine.execVminI p w s
  | .vmaxI p w => Sys2Proof.Machine.execVmaxI p w s
  | .viota p w => Sys2Proof.Machine.execViota p w s
  | .vcmpF p w => Sys2Proof.Machine.execVcmpF p w s
  | .vcmpI p w => Sys2Proof.Machine.execVcmpI p w s
  | .vnan p w => Sys2Proof.Machine.execVnan p w s
  | .mand p w => Sys2Proof.Machine.execMand p w s
  | .mor p w => Sys2Proof.Machine.execMor p w s
  | .mxor p w => Sys2Proof.Machine.execMxor p w s
  | .mandn p w => Sys2Proof.Machine.execMandn p w s
  | .mnot p w => Sys2Proof.Machine.execMnot p w s
  | .mvl p w => Sys2Proof.Machine.execMvl p w s
  | .mpop p w => Sys2Proof.Machine.execMpop p w s
  | .mfirst p w => Sys2Proof.Machine.execMfirst p w s
  | .mld p w => Sys2Proof.Machine.execMld p w s
  | .mst p w => Sys2Proof.Machine.execMst p w s
  | .vexp2 p w => Sys2Proof.Machine.execVexp2 p w s
  | .vlog2 p w => Sys2Proof.Machine.execVlog2 p w s
  | .vrcp p w => Sys2Proof.Machine.execVrcp p w s
  | .vrsq p w => Sys2Proof.Machine.execVrsq p w s
  | .vsqrt p w => Sys2Proof.Machine.execVsqrt p w s
  | .vtanh p w => Sys2Proof.Machine.execVtanh p w s
  | .vsig p w => Sys2Proof.Machine.execVsig p w s
  | .vsilu p w => Sys2Proof.Machine.execVsilu p w s
  | .vgelu p w => Sys2Proof.Machine.execVgelu p w s
  | .rsum p w => Sys2Proof.Machine.execRsum p w s
  | .rssq p w => Sys2Proof.Machine.execRssq p w s
  | .rmax p w => Sys2Proof.Machine.execRmax p w s
  | .rmin p w => Sys2Proof.Machine.execRmin p w s
  | .ramax p w => Sys2Proof.Machine.execRamax p w s
  | .rsumW p w => Sys2Proof.Machine.execRsumW p w s
  | .rssqW p w => Sys2Proof.Machine.execRssqW p w s
  | .argmax p w => Sys2Proof.Machine.execArgmax p w s
  | .rsumI p w => Sys2Proof.Machine.execRsumI p w s
  | .vperm p w => Sys2Proof.Machine.execVperm p w s
  | .vpermh p w => Sys2Proof.Machine.execVpermh p w s
  | .vsldn p w => Sys2Proof.Machine.execVsldn p w s
  | .vslup p w => Sys2Proof.Machine.execVslup p w s
  | .vcomp p w => Sys2Proof.Machine.execVcomp p w s
  | .vexpd p w => Sys2Proof.Machine.execVexpd p w s
  | .vrev p w => Sys2Proof.Machine.execVrev p w s
  | .vf2i p w => Sys2Proof.Machine.execVf2i p w s
  | .vi2f p w => Sys2Proof.Machine.execVi2f p w s
  | .vpack p w => Sys2Proof.Machine.execVpack p w s
  | .vunlo p w => Sys2Proof.Machine.execVunlo p w s
  | .vunhi p w => Sys2Proof.Machine.execVunhi p w s
  | .vqnt p w => Sys2Proof.Machine.execVqnt p w s
  | .wadd p w => Sys2Proof.Machine.execWadd p w s
  | .waddf p w => Sys2Proof.Machine.execWaddf p w s
  | .wfrom p w => Sys2Proof.Machine.execWfrom p w s
  | .wto p w => Sys2Proof.Machine.execWto p w s
  | .wfromi p w => Sys2Proof.Machine.execWfromi p w s
  | .vld p w => Sys2Proof.Machine.execVld p w s
  | .vst p w => Sys2Proof.Machine.execVst p w s
  | .vlds p w => Sys2Proof.Machine.execVlds p w s
  | .vsts p w => Sys2Proof.Machine.execVsts p w s
  | .vldx p w => Sys2Proof.Machine.execVldx p w s
  | .vstx p w => Sys2Proof.Machine.execVstx p w s
  | .vldcF p w => Sys2Proof.Machine.execVldcF p w s
  | .vldcI p w => Sys2Proof.Machine.execVldcI p w s
  | .vstcF p w => Sys2Proof.Machine.execVstcF p w s
  | .vstcI p w => Sys2Proof.Machine.execVstcI p w s
  | .splLd p w => Sys2Proof.Machine.execSplLd p w s
  | .splSt p w => Sys2Proof.Machine.execSplSt p w s
  | .splFold p w => Sys2Proof.Machine.execSplFold p w s
  | .lwait p w => Sys2Proof.Machine.execLwait p w s
  | .lpeek p w => Sys2Proof.Machine.execLpeek p w s
  | .lld p w => Sys2Proof.Machine.execLld p w s
  | .lldw p w => Sys2Proof.Machine.execLldw p w s
  | .lrel p w => Sys2Proof.Machine.execLrel p w s
  | .gather q n => Sys2Proof.Machine.execGather q n s
  | .prefetch q n => Sys2Proof.Machine.execPrefetch q n s
  | .heronRequestIssue p e pf w => Sys2Proof.Machine.execHeronRequestIssue p e pf w s
  | .pageWalk p e => Sys2Proof.Machine.execPageWalk p e s
  | .heronReadResponse p e id dt data err => Sys2Proof.Machine.execHeronReadResponse p e id dt data err s
  | .heronWriteAck p e id => Sys2Proof.Machine.execHeronWriteAck p e id s
  | .prefetchFill p j => Sys2Proof.Machine.execPrefetchFill p j s
  | .scrub a found => Sys2Proof.Machine.execScrub a found s
  | .reduceScatter q n => Sys2Proof.Machine.execReduceScatter q n s
  | .allGather q n => Sys2Proof.Machine.execAllGather q n s
  | .allReduce q n => Sys2Proof.Machine.execAllReduce q n s
  | .broadcast q n => Sys2Proof.Machine.execBroadcast q n s
  | .allToAll q n => Sys2Proof.Machine.execAllToAll q n s
  | .seqRing q n => Sys2Proof.Machine.execSeqRing q n s
  | .amaxMax q n => Sys2Proof.Machine.execAmaxMax q n s
  | .paramGather q n => Sys2Proof.Machine.execParamGather q n s
  | .sWindowOpen k e n => Sys2Proof.Machine.execSWindowOpen k e n s
  | .sSlotMiss j => Sys2Proof.Machine.execSSlotMiss j s
  | .reserveWindow k e n => Sys2Proof.Machine.execReserveWindow k e n s
  | .sFlitReceive k f full => Sys2Proof.Machine.execSFlitReceive k f full s
  | .coll k p full => Sys2Proof.Machine.execColl k p full s
  | .resend k p => Sys2Proof.Machine.execResend k p s
  | .ack k p => Sys2Proof.Machine.execAck k p s
  | .reissue k p => Sys2Proof.Machine.execReissue k p s
  | .update q n => Sys2Proof.Machine.execUpdate q n s
  | .updateArm => Sys2Proof.Machine.execUpdateArm s
  | .updateWritePhase ns => Sys2Proof.Machine.execUpdateWritePhase ns s
  | .scaleClear q n => Sys2Proof.Machine.execScaleClear q n s
  | .scaleLoad q n => Sys2Proof.Machine.execScaleLoad q n s
  | .scaleStore q n => Sys2Proof.Machine.execScaleStore q n s
  | .scaleRescale q n => Sys2Proof.Machine.execScaleRescale q n s
  | .hint q n => Sys2Proof.Machine.execHint q n s
  | .fenceSignal q n => Sys2Proof.Machine.execFenceSignal q n s
  | .fenceWait q n => Sys2Proof.Machine.execFenceWait q n s
  | .tickWait q n => Sys2Proof.Machine.execTickWait q n s
  | .epoch q n => Sys2Proof.Machine.execEpoch q n s
  | .rd j => Sys2Proof.Machine.execRd j s
  | .rdRc j => Sys2Proof.Machine.execRdRc j s
  | .rsp j => Sys2Proof.Machine.execRsp j s
  | .wr j => Sys2Proof.Machine.execWr j s
  | .wrAck j => Sys2Proof.Machine.execWrAck j s
  | .inv j => Sys2Proof.Machine.execInv j s
  | .invAck j => Sys2Proof.Machine.execInvAck j s
  | .invDone j => Sys2Proof.Machine.execInvDone j s
  | .evictNote j => Sys2Proof.Machine.execEvictNote j s
  | .fdec j => Sys2Proof.Machine.execFdec j s
  | .linkReplay l m ack => Sys2Proof.Machine.execLinkReplay l m ack s
  | .moduleDown l m cause => Sys2Proof.Machine.execModuleDown l m cause s
  | .linkMonitorWindow l m => Sys2Proof.Machine.execLinkMonitorWindow l m s
  | .guestAdmit g v => Sys2Proof.Machine.execGuestAdmit g v s
  | .guestAdmitAck g => Sys2Proof.Machine.execGuestAdmitAck g s
  | .guestRemove g v => Sys2Proof.Machine.execGuestRemove g v s
  | .guestRailOff g => Sys2Proof.Machine.execGuestRailOff g s
  | .guestRequest g wr dva n data be pm => Sys2Proof.Machine.execGuestRequest g wr dva n data be pm s
  | .guestPowerSample g w10 => Sys2Proof.Machine.execGuestPowerSample g w10 s
  | .portEnable k => Sys2Proof.Machine.execPortEnable k s
  | .portDisable k => Sys2Proof.Machine.execPortDisable k s
  | .portUp k nd np rt pipe => Sys2Proof.Machine.execPortUp k nd np rt pipe s
  | .portTrainingFail k cause => Sys2Proof.Machine.execPortTrainingFail k cause s
  | .portRetrain k => Sys2Proof.Machine.execPortRetrain k s
  | .portDown k cause => Sys2Proof.Machine.execPortDown k cause s
  | .berWindow k w => Sys2Proof.Machine.execBerWindow k w s
  | .schedCommit k => Sys2Proof.Machine.execSchedCommit k s
  | .causewayReplay k ack => Sys2Proof.Machine.execCausewayReplay k ack s
  | .packetRoute k p => Sys2Proof.Machine.execPacketRoute k p s
  | .rdReq k p => Sys2Proof.Machine.execRdReq k p s
  | .rdRsp k p => Sys2Proof.Machine.execRdRsp k p s
  | .cwWr k p => Sys2Proof.Machine.execCwWr k p s
  | .cwWrAck k p => Sys2Proof.Machine.execCwWrAck k p s
  | .fenceSig k p => Sys2Proof.Machine.execFenceSig k p s
  | .fenceAck k p => Sys2Proof.Machine.execFenceAck k p s
  | .fabricTimeout tid => Sys2Proof.Machine.execFabricTimeout tid s
  | .fabCfgWrite v => Sys2Proof.Machine.execFabCfgWrite v s
  | .memberTableWrite j self v => Sys2Proof.Machine.execMemberTableWrite j self v s
  | .coreReset p => Sys2Proof.Machine.execCoreReset p s
  | .clusterReset c => Sys2Proof.Machine.execClusterReset c s
  | .partitionReset n => Sys2Proof.Machine.execPartitionReset n s
  | .partitionClusterResets n => Sys2Proof.Machine.execPartitionClusterResets n s
  | .fenceCoreRequest p => Sys2Proof.Machine.execFenceCoreRequest p s
  | .fenceClusterRequest c => Sys2Proof.Machine.execFenceClusterRequest c s
  | .injectCsUncorr p => Sys2Proof.Machine.execInjectCsUncorr p s
  | .injectDrainParity p => Sys2Proof.Machine.execInjectDrainParity p s
  | .injectVeParity p => Sys2Proof.Machine.execInjectVeParity p s
  | .injectMxaParity p => Sys2Proof.Machine.execInjectMxaParity p s
  | .injectRegParity pg => Sys2Proof.Machine.execInjectRegParity pg s
  | .partitionMapWrite r v => Sys2Proof.Machine.execPartitionMapWrite r v s
  | .fenceMapWrite j v => Sys2Proof.Machine.execFenceMapWrite j v s
  | .fenceCntWrite j v => Sys2Proof.Machine.execFenceCntWrite j v s
  | .bar4BaseWrite v => Sys2Proof.Machine.execBar4BaseWrite v s
  | .bar4Read f o n => Sys2Proof.Machine.execBar4Read f o n s
  | .bar4Write f o data ep => Sys2Proof.Machine.execBar4Write f o data ep s
  | .xlatRootWrite c v => Sys2Proof.Machine.execXlatRootWrite c v s
  | .xlatInv c v => Sys2Proof.Machine.execXlatInv c v s
  | .xlatInvComplete c => Sys2Proof.Machine.execXlatInvComplete c s
  | .registerWrite f ofs dt data => Sys2Proof.Machine.execRegisterWrite f ofs dt data s
  | .ucieCrcErr l m => Sys2Proof.Machine.execUcieCrcErr l m s
  | .ucieReplayFlit l m seq => Sys2Proof.Machine.execUcieReplayFlit l m seq s
  | .ucieFlitAck l m ack tx rx stall => Sys2Proof.Machine.execUcieFlitAck l m ack tx rx stall s
  | .cwCrcErr e => Sys2Proof.Machine.execCwCrcErr e s
  | .cwReplayFlit k seq => Sys2Proof.Machine.execCwReplayFlit k seq s
  | .cwFlitAck k ack stall => Sys2Proof.Machine.execCwFlitAck k ack stall s
  | .creditReturn k floors shared stall => Sys2Proof.Machine.execCreditReturn k floors shared stall s
  | .droopEnd c => Sys2Proof.Machine.execDroopEnd c s
  | .parityAgeOut p => Sys2Proof.Machine.execParityAgeOut p s
  | .wakeComplete => Sys2Proof.Machine.execWakeComplete s
  | .dormantEntryComplete => Sys2Proof.Machine.execDormantEntryComplete s
  | .coreResetEnd p => Sys2Proof.Machine.execCoreResetEnd p s
  | .clusterResetEnd c => Sys2Proof.Machine.execClusterResetEnd c s
  | .lsmRejoin b => Sys2Proof.Machine.execLsmRejoin b s
  | .perstRelease => Sys2Proof.Machine.execPerstRelease s
  | .alertTimeout => Sys2Proof.Machine.execAlertTimeout s
  | .remoteSenseRestored => Sys2Proof.Machine.execRemoteSenseRestored s
  | .vfEnable n => Sys2Proof.Machine.execVfEnable n s
  | .bar4Resize k => Sys2Proof.Machine.execBar4Resize k s
  | .registerRead f ofs dt n => Sys2Proof.Machine.execRegisterRead f ofs dt n s
  | .tapClock seven tms tdi trst => Sys2Proof.Machine.execTapClock seven tms tdi trst s

end Sys2Proof.Machine
end

