-- ==== Sys2Proof/Safety.lean ====
section
/-!
DEFINITION. The terms that the statements are written in: when a vector-engine instruction issues and what it leaves
of the state, the instructions of one shape with the function each computes (spec/04_vector_engine.md R119 to R144), and
the premises on queues, the host and management under which the other commands act.
-/
namespace Sys2Proof.Machine

/-! ### Outcomes -/

/-- No core's SRAM detector has fired (R479). -/
def SramQuiet (s : State) : Prop := ∀ p, sramBad s p = false

/-- A command answers `u`, in which every enabled core whose SRAM detector has fired is then fenced (R479): with none,
`u` itself. -/
def Answers (c : Instr) (s u : State) : Prop :=
  exec c s = .next (sramSweep u) ∧ (SramQuiet u → exec c s = .next u)

/-! ### The issue of a vector-engine instruction -/

/-- The instruction at core `p`'s program counter is `word`, of class `cls` and a function number `fn`, legal (R118),
and the vector engine can issue it: the package is Active, the core enabled and not under reset, a program runs, and no
injected parity error waits for the issue (R525). -/
structure VeIssues (s : State) (p cls fn word : Nat) : Prop where
  ready : veReady s p = true
  fetched : veWord s p = some word
  legal : veLegal word = true
  cls : (decodeVI word).cls = cls
  fn : (decodeVI word).fn = fn
  sound : (s.core p).ras.injVe = false

/-- The state with core `p`'s vector engine and counters replaced and nothing else changed. -/
def withVe (s : State) (p : Nat) (y : Ve) (k : Ctrs) : State := s.setCore p { s.core p with ve := y, ctr := k }

/-- What an instruction that runs to the next one leaves beside its results: the program counter 8 bytes on, one more
instruction issued, the engine running, VL, program and stream as before (R117, R147). -/
structure VeNext (x y : Ve) : Prop where
  pc : y.pc = x.pc + 8
  issued : y.issued = x.issued + 1
  running : y.st = .running
  vl : y.vl = x.vl
  cmd : y.cmd = x.cmd
  queue : y.queue = x.queue
  slot : y.slotTaken = x.slotTaken
  waiting : y.waiting = x.waiting

/-- VSTAT bits OVF and NAN_IN set by counts of events (R133). -/
def evBits (ovf nan : Nat) : BitVec 5 := (if ovf = 0 then 0 else 2) ||| (if nan = 0 then 0 else 4)

/-- One bit of VSTAT set by a condition. -/
def statBit (b : Nat) (on : Bool) : BitVec 5 := if on then BitVec.ofNat 5 (2 ^ b) else 0

/-- An instruction that writes lanes of V[D]: lane `l` gets `f x j l` modulo 2³² where it is active (with `whole`: where
it lies below VL); `ovf` and `nan` are its conversion events, `bits` the VSTAT bits it sets. -/
structure LaneRow where
  op : Fin 256 → VeWaits → Instr
  cls : Nat
  fn : Nat
  f : Ve → VI → Nat → Nat
  whole : Bool := false
  ovf : Ve → VI → Nat := fun _ _ => 0
  nan : Ve → VI → Nat := fun _ _ => 0
  bits : Ve → VI → BitVec 5 := fun _ _ => 0

/-- A function of the lanes of operands A and B. -/
def ab (f : Nat → Nat → Nat) : Ve → VI → Nat → Nat := fun x j l => f (opA x j l) (opB x j l)
/-- A function of the lanes of operands A, B and C. -/
def abc (f : Nat → Nat → Nat → Nat) : Ve → VI → Nat → Nat := fun x j l => f (opA x j l) (opB x j l) (opC x j l)
/-- A function of the lanes of operand A. -/
def aa (f : Nat → Nat) : Ve → VI → Nat → Nat := fun x j l => f (opA x j l)

/-- The FP32 lane instructions (class 2). -/
def floatRows : List LaneRow :=
  [ { op := .vaddF, cls := 2, fn := 0, f := ab (fp2 vAdd) },
    { op := .vsubF, cls := 2, fn := 1, f := ab (fp2 vSub) },
    { op := .vmulF, cls := 2, fn := 2, f := ab (fp2 vMul) },
    { op := .vfmaF, cls := 2, fn := 3, f := abc (fp3 vFma) },
    { op := .vfmsF, cls := 2, fn := 4, f := abc (fp3 vFms) },
    { op := .vfnmaF, cls := 2, fn := 5, f := abc (fp3 vFnma) },
    { op := .vminF, cls := 2, fn := 6, f := ab (fp2 minVal) },
    { op := .vmaxF, cls := 2, fn := 7, f := ab (fp2 maxVal) },
    { op := .vabsF, cls := 2, fn := 8, f := aa (fun a => f32 (fp a).abs) },
    { op := .vnegF, cls := 2, fn := 9, f := aa (fun a => f32 (fp a).negate) },
    { op := .vcpsF, cls := 2, fn := 10, f := ab (vCps .fp32) },
    { op := .vmov, cls := 2, fn := 11, f := aa id },
    { op := .vbc, cls := 2, fn := 12, f := fun x j _ => (x.sreg j.a).toNat },
    { op := .vsel, cls := 2, fn := 13
      f := fun x j l => if (x.mreg j.c).getLsbD l then opA x j l else opB x j l } ]

/-- The packed BF16 lane instructions (class 3). -/
def packedRows : List LaneRow :=
  [ { op := .vaddB, cls := 3, fn := 0, f := ab (packed2 (fun a b => b16 (vAdd (bf a) (bf b)))) },
    { op := .vsubB, cls := 3, fn := 1, f := ab (packed2 (fun a b => b16 (vSub (bf a) (bf b)))) },
    { op := .vmulB, cls := 3, fn := 2, f := ab (packed2 (fun a b => b16 (vMul (bf a) (bf b)))) },
    { op := .vfmaB, cls := 3, fn := 3, f := abc (packed3 (fun a b c => b16 (vFma (bf a) (bf b) (bf c)))) },
    { op := .vminB, cls := 3, fn := 6, f := ab (packed2 (fun a b => b16 (minVal (bf a) (bf b)))) },
    { op := .vmaxB, cls := 3, fn := 7, f := ab (packed2 (fun a b => b16 (maxVal (bf a) (bf b)))) },
    { op := .vabsB, cls := 3, fn := 8, f := aa (packed1 (fun a => b16 (bf a).abs)) },
    { op := .vnegB, cls := 3, fn := 9, f := aa (packed1 (fun a => b16 (bf a).negate)) } ]

/-- The INT32 lane instructions (class 4). -/
def intRows : List LaneRow :=
  [ { op := .vaddI, cls := 4, fn := 0, f := ab (fun a b => a + b) },
    { op := .vsubI, cls := 4, fn := 1, f := ab (fun a b => a + (2 ^ 32 - b)) },
    { op := .vmulI, cls := 4, fn := 2, f := ab (fun a b => a * b) },
    { op := .vaddsI, cls := 4, fn := 3, f := ab (fun a b => (sat32 (i32 a + i32 b)).1)
      bits := fun x j => statBit vsIsat (anyActive x j (fun l => (sat32 (i32 (opA x j l) + i32 (opB x j l))).2)) },
    { op := .vsubsI, cls := 4, fn := 4, f := ab (fun a b => (sat32 (i32 a - i32 b)).1)
      bits := fun x j => statBit vsIsat (anyActive x j (fun l => (sat32 (i32 (opA x j l) - i32 (opB x j l))).2)) },
    { op := .vand, cls := 4, fn := 5, f := ab Nat.land },
    { op := .vor, cls := 4, fn := 6, f := ab Nat.lor },
    { op := .vxor, cls := 4, fn := 7, f := ab Nat.xor },
    { op := .vshl, cls := 4, fn := 8, f := ab (fun a b => a * 2 ^ (b % 32)) },
    { op := .vshr, cls := 4, fn := 9, f := ab (fun a b => a / 2 ^ (b % 32)) },
    { op := .vsar, cls := 4, fn := 10, f := ab (fun a b => w32 (Int.fdiv (i32 a) (2 ^ (b % 32)))) },
    { op := .vminI, cls := 4, fn := 11, f := ab (fun a b => if i32 a < i32 b then a else b) },
    { op := .vmaxI, cls := 4, fn := 12, f := ab (fun a b => if i32 a < i32 b then b else a) },
    { op := .viota, cls := 4, fn := 13, f := fun x j l => l + (x.sreg j.a).toNat } ]

/-- The special functions (class 6). -/
def sfuRows : List LaneRow :=
  [ { op := .vexp2, cls := 6, fn := 0, f := aa (sfuEval .exp2) },
    { op := .vlog2, cls := 6, fn := 1, f := aa (sfuEval .log2) },
    { op := .vrcp, cls := 6, fn := 2, f := aa (sfuEval .rcp) },
    { op := .vrsq, cls := 6, fn := 3, f := aa (sfuEval .rsq) },
    { op := .vsqrt, cls := 6, fn := 4, f := aa (sfuEval .sqrt) },
    { op := .vtanh, cls := 6, fn := 5, f := aa (sfuEval .tanh) },
    { op := .vsig, cls := 6, fn := 6, f := aa (sfuEval .sig) },
    { op := .vsilu, cls := 6, fn := 7, f := aa (sfuEval .silu) },
    { op := .vgelu, cls := 6, fn := 8, f := aa (sfuEval .gelu) } ]

/-- Element `e` of a VPERMH result: that element of A which B's element `e` names, 0 beyond VL. -/
def permHalf (x : Ve) (j : VI) (e : Nat) : Nat :=
  let k := half (x.vreg j.b) e
  if k < 2 * x.vl then half (x.vreg j.a) k else 0

/-- The permutes (class 8). -/
def permRows : List LaneRow :=
  [ { op := .vperm, cls := 8, fn := 0
      f := fun x j l => if lane (x.vreg j.b) l < x.vl then opA x j (lane (x.vreg j.b) l) else 0
      bits := fun x j => statBit vsPermRange (anyActive x j (fun l => decide (x.vl ≤ lane (x.vreg j.b) l))) },
    { op := .vpermh, cls := 8, fn := 1
      f := fun x j l => permHalf x j (2 * l) + 65536 * permHalf x j (2 * l + 1)
      bits := fun x j => statBit vsPermRange (anyActive x j (fun l =>
        decide (2 * x.vl ≤ half (x.vreg j.b) (2 * l)) || decide (2 * x.vl ≤ half (x.vreg j.b) (2 * l + 1)))) },
    { op := .vsldn, cls := 8, fn := 2
      f := fun x j l => if (x.sreg j.b).toNat < 256 ∧ l + (x.sreg j.b).toNat < x.vl then opA x j (l + (x.sreg j.b).toNat) else 0 },
    { op := .vslup, cls := 8, fn := 3
      f := fun x j l => if (x.sreg j.b).toNat < 256 ∧ (x.sreg j.b).toNat ≤ l then opA x j (l - (x.sreg j.b).toNat) else 0 },
    { op := .vcomp, cls := 8, fn := 4, whole := true
      f := fun x j l => (((upTo x.vl).filter (selected x j)).map (opA x j)).getD l 0 },
    { op := .vexpd, cls := 8, fn := 5, whole := true
      f := fun x j l => if selected x j l then opA x j (((upTo l).filter (selected x j)).length) else 0 },
    { op := .vrev, cls := 8, fn := 6, f := fun x j l => opA x j (x.vl - 1 - l) } ]

/-- A lanewise conversion and its events. -/
def convRow (op : Fin 256 → VeWaits → Instr) (fn : Nat) (r : Ve → VI → Nat → Enc) : LaneRow :=
  { op := op, cls := 9, fn := fn, f := fun x j l => (r x j l).bits
    ovf := fun x j => countActive x j (fun l => (r x j l).ovf)
    nan := fun x j => countActive x j (fun l => (r x j l).nanIn) }

/-- One of the two conversions of a VPACK lane: `h` 0 from A, 1 from B. -/
def packHalf (x : Ve) (j : VI) (h l : Nat) : Enc :=
  convertS .fp32 (fmtElem (fmtOf j.fmt) false) (if h = 0 then opA x j l else lane (x.vreg j.b) l) (veRnd x j (2 * l + h)) j.nov

/-- The conversions between lanes (class 9). -/
def convRows : List LaneRow :=
  [ convRow .vf2i 0 (fun x j l => convertS .fp32 .int32 (opA x j l) (veRnd x j l) j.nov),
    convRow .vi2f 1 (fun x j l => convertS .int32 .fp32 (opA x j l) (veRnd x j l) j.nov),
    { op := .vpack, cls := 9, fn := 2, f := fun x j l => (packHalf x j 0 l).bits + 65536 * (packHalf x j 1 l).bits
      ovf := fun x j => countActive x j (fun l => (packHalf x j 0 l).ovf) + countActive x j (fun l => (packHalf x j 1 l).ovf)
      nan := fun x j =>
        countActive x j (fun l => (packHalf x j 0 l).nanIn) + countActive x j (fun l => (packHalf x j 1 l).nanIn) },
    { op := .vunlo, cls := 9, fn := 3
      f := fun x j l => (convertS (fmtElem (fmtOf j.fmt) false) .fp32 (half (x.vreg j.a) (2 * l)) .rne j.nov).bits },
    { op := .vunhi, cls := 9, fn := 4
      f := fun x j l => (convertS (fmtElem (fmtOf j.fmt) false) .fp32 (half (x.vreg j.a) (2 * l + 1)) .rne j.nov).bits },
    { op := .vqnt, cls := 9, fn := 5
      f := fun x j l => (convertS (fmtElem (fmtOf j.fmt) false) .fp32
        (convertS .fp32 (fmtElem (fmtOf j.fmt) false) (opA x j l) (veRnd x j l) j.nov).bits .rne true).bits
      ovf := fun x j => countActive x j (fun l =>
        (convertS .fp32 (fmtElem (fmtOf j.fmt) false) (opA x j l) (veRnd x j l) j.nov).ovf)
      nan := fun x j => countActive x j (fun l =>
        (convertS .fp32 (fmtElem (fmtOf j.fmt) false) (opA x j l) (veRnd x j l) j.nov).nanIn) },
    { convRow .wto 19 (fun x j l => convertS .acc35 .fp32 (wideAt x j.a l) (veRnd x j l) j.nov) with
      bits := fun x j => statBit vsPoison (anyActive x j (fun l => (wideAt x j.a l).testBit 39)) } ]

/-- The instructions that write lanes of one vector register from registers. -/
def laneRows : List LaneRow := floatRows ++ packedRows ++ intRows ++ sfuRows ++ permRows ++ convRows

/-- Lane `l` of V[D] after a lane instruction: the value where the lane is written, 0 where it is below VL, masked off
and ZM is set, else what it was (R119, R120). -/
def laneAfter (r : LaneRow) (x : Ve) (j : VI) (l : Nat) : Nat :=
  if (if r.whole then decide (l < x.vl) else active x j l) then r.f x j l % 2 ^ 32
  else if decide (l < x.vl) && j.zm then 0 else lane (x.vreg j.d) l

/-- An instruction that writes S[D] with a function of the registers modulo 2⁶⁴. -/
structure ScalarRow where
  op : Fin 256 → VeWaits → Instr
  cls : Nat
  fn : Nat
  f : Ve → VI → Nat
  ovf : Ve → VI → Nat := fun _ _ => 0
  nan : Ve → VI → Nat := fun _ _ => 0
  bits : Ve → VI → BitVec 5 := fun _ _ => 0

/-- A function of S[A] and S[B]. -/
def sab (f : W64 → W64 → W64) : Ve → VI → Nat := fun x j => (f (x.sreg j.a) (x.sreg j.b)).toNat
/-- An FP32 function of S[A][31:0] and S[B][31:0]. -/
def sfp (f : Val → Val → Val) : Ve → VI → Nat := fun x j =>
  f32 (f (fp ((x.sreg j.a).toNat % 2 ^ 32)) (fp ((x.sreg j.b).toNat % 2 ^ 32)))
/-- The ACC35 container in a scalar register. -/
def sacc (x : Ve) (n : Nat) : Nat := (x.sreg n).toNat % 2 ^ 40

/-- The scalar instructions (class 1). -/
def scalarRows : List ScalarRow :=
  [ { op := .add, cls := 1, fn := 0, f := sab (fun a b => a + b) },
    { op := .sub, cls := 1, fn := 1, f := sab (fun a b => a - b) },
    { op := .mul, cls := 1, fn := 2, f := sab (fun a b => a * b) },
    { op := .andS, cls := 1, fn := 3, f := sab (fun a b => a &&& b) },
    { op := .orS, cls := 1, fn := 4, f := sab (fun a b => a ||| b) },
    { op := .xorS, cls := 1, fn := 5, f := sab (fun a b => a ^^^ b) },
    { op := .shl, cls := 1, fn := 6, f := sab (fun a b => a <<< (b.toNat % 64)) },
    { op := .shr, cls := 1, fn := 7, f := sab (fun a b => a >>> (b.toNat % 64)) },
    { op := .sar, cls := 1, fn := 8, f := sab (fun a b => a.sshiftRight (b.toNat % 64)) },
    { op := .smin, cls := 1, fn := 9, f := sab (fun a b => if a.slt b then a else b) },
    { op := .smax, cls := 1, fn := 10, f := sab (fun a b => if a.slt b then b else a) },
    { op := .addi, cls := 1, fn := 16, f := fun x j => (x.sreg j.a + BitVec.ofInt 64 j.imm).toNat },
    { op := .li, cls := 1, fn := 17, f := fun _ j => (BitVec.ofInt 64 j.imm).toNat },
    { op := .lsh, cls := 1, fn := 18, f := fun x j => ((x.sreg j.a <<< 22) ||| BitVec.ofNat 64 j.immU).toNat },
    { op := .fadd, cls := 1, fn := 24, f := sfp vAdd },
    { op := .fmul, cls := 1, fn := 25, f := sfp vMul },
    { op := .fmax, cls := 1, fn := 26, f := sfp maxVal },
    { op := .fmin, cls := 1, fn := 27, f := sfp minVal },
    { op := .sacc, cls := 1, fn := 28, f := fun x j => wideAdd (sacc x j.a) (sacc x j.b)
      bits := fun x j => statBit vsPoison ((sacc x j.a).testBit 39 || (sacc x j.b).testBit 39) },
    { op := .w2f, cls := 1, fn := 29, f := fun x j => (convertS .acc35 .fp32 (sacc x j.a) .rne j.nov).bits
      ovf := fun x j => b2n (convertS .acc35 .fp32 (sacc x j.a) .rne j.nov).ovf
      nan := fun x j => b2n (convertS .acc35 .fp32 (sacc x j.a) .rne j.nov).nanIn
      bits := fun x j => statBit vsPoison ((sacc x j.a).testBit 39) },
    { op := .f2w, cls := 1, fn := 30, f := fun x j => rneTo .acc35 (fp ((x.sreg j.a).toNat % 2 ^ 32)) },
    { op := .strd, cls := 1, fn := 35, f := fun x _ => x.stat.toNat },
    { op := .vext, cls := 1, fn := 32, f := fun x j => lane (x.vreg j.a) ((x.sreg j.b).toNat % 256) } ]

/-- R128: the lane of the largest active value, the lowest among equals; a NaN counts as the largest. -/
def bestLane (x : Ve) (j : VI) : Option Nat :=
  (upTo 256).foldl (fun best l =>
    if active x j l then
      match best with
      | none => some l
      | some k =>
        if (fp (opA x j k)).isNan then some k
        else if (fp (opA x j l)).isNan || (fp (opA x j k)).lt (fp (opA x j l)) then some l else some k
    else best) none

/-- R128: one node of the saturating INT32 tree, with whether a node below it has saturated. -/
def intNode (a b : Int × Bool) : Int × Bool :=
  (sext 32 (sat32 (a.1 + b.1)).1, a.2 || b.2 || (sat32 (a.1 + b.1)).2)

/-- The root of the INT32 tree over the active lanes. -/
def intRoot (x : Ve) (j : VI) : Int × Bool :=
  (treeRoot intNode (present x j (fun l => (i32 (opA x j l), false)))).getD (0, false)

/-- The mask counts (class 5) and the reductions (class 7). -/
def reduceRows : List ScalarRow :=
  [ { op := .mpop, cls := 5, fn := 22, f := fun x j => popCount x.vl (x.mreg j.a).toNat },
    { op := .mfirst, cls := 5, fn := 23, f := fun x j => (firstBitFrom x.vl 0 (x.mreg j.a).toNat).getD 256 },
    { op := .rsum, cls := 7, fn := 0, f := fun x j => (convertS .acc35 .fp32 (sumRoot false x j) .rne true).bits },
    { op := .rssq, cls := 7, fn := 1, f := fun x j => (convertS .acc35 .fp32 (sumRoot true x j) .rne true).bits },
    { op := .rmax, cls := 7, fn := 2
      f := fun x j => ((treeRoot maxVal (present x j (fun l => fp (opA x j l)))).map f32).getD 0xFF800000 },
    { op := .rmin, cls := 7, fn := 3
      f := fun x j => ((treeRoot minVal (present x j (fun l => fp (opA x j l)))).map f32).getD 0x7F800000 },
    { op := .ramax, cls := 7, fn := 4
      f := fun x j => ((treeRoot maxVal (present x j (fun l => (fp (opA x j l)).abs))).map f32).getD 0 },
    { op := .rsumW, cls := 7, fn := 5, f := sumRoot false },
    { op := .rssqW, cls := 7, fn := 6, f := sumRoot true },
    { op := .argmax, cls := 7, fn := 7, f := fun x j => (bestLane x j).getD 256 },
    { op := .rsumI, cls := 7, fn := 8, f := fun x j => toBits 64 (intRoot x j).1
      bits := fun x j => statBit vsIsat (intRoot x j).2 } ]

/-- An instruction that writes MK[D]: bit `l` gets `f x j l` where it is active (with `whole`: always). -/
structure MaskRow where
  op : Fin 256 → VeWaits → Instr
  fns : List Nat
  f : Ve → VI → Nat → Bool
  whole : Bool := false

/-- A Boolean function of the bits of MK[A] and MK[B]. -/
def mab (f : Bool → Bool → Bool) : Ve → VI → Nat → Bool := fun x j l =>
  f ((x.mreg j.a).getLsbD l) ((x.mreg j.b).getLsbD l)

/-- The compares and mask instructions (class 5). -/
def maskRows : List MaskRow :=
  [ { op := .vcmpF, fns := [0, 1, 2, 3, 4, 5]
      f := fun x j l => relation j.fn ((fp (opA x j l)).isNan || (fp (opB x j l)).isNan)
        ((fp (opA x j l)).lt (fp (opB x j l))) ((fp (opA x j l)).numEq (fp (opB x j l))) },
    { op := .vcmpI, fns := [8, 9, 10, 11, 12, 13]
      f := fun x j l => relation (j.fn - 8) false (decide (i32 (opA x j l) < i32 (opB x j l)))
        (decide (i32 (opA x j l) = i32 (opB x j l))) },
    { op := .vnan, fns := [14], f := fun x j l => (fp (opA x j l)).isNan },
    { op := .mand, fns := [16], f := mab (fun a b => a && b) },
    { op := .mor, fns := [17], f := mab (fun a b => a || b) },
    { op := .mxor, fns := [18], f := mab (fun a b => a != b) },
    { op := .mandn, fns := [19], f := mab (fun a b => a && !b) },
    { op := .mnot, fns := [20], f := fun x j l => !(x.mreg j.a).getLsbD l },
    { op := .mvl, fns := [21], f := fun x _ l => decide (l < x.vl), whole := true } ]

/-- Bit `l` of MK[D] after a mask instruction (R119, R120). -/
def maskAfter (r : MaskRow) (x : Ve) (j : VI) (l : Nat) : Bool :=
  if r.whole || active x j l then r.f x j l
  else if decide (l < x.vl) && j.zm then false else (x.mreg j.d).getLsbD l

/-- An instruction that writes all 256 values of a wide pair (R138). -/
structure WideRow where
  op : Fin 256 → VeWaits → Instr
  fn : Nat
  f : Ve → VI → Nat → Nat
  bits : Ve → VI → BitVec 5 := fun _ _ => 0

/-- The wide-pair instructions that write every value (class 9). -/
def wideRows : List WideRow :=
  [ { op := .wadd, fn := 16, f := fun x j l => wideAdd (wideAt x j.a l) (wideAt x j.b l)
      bits := fun x j => statBit vsPoison
        ((upTo 256).any (fun l => (wideAt x j.a l).testBit 39 || (wideAt x j.b l).testBit 39)) },
    { op := .waddf, fn := 17, f := fun x j l => wideAdd (wideAt x j.a l) (rneTo .acc35 (fp (lane (x.vreg j.b) l)))
      bits := fun x j => statBit vsPoison ((upTo 256).any (fun l => (wideAt x j.a l).testBit 39)) },
    { op := .wfrom, fn := 18, f := fun x j l => rneTo .acc35 (fp (opA x j l)) } ]

/-! ### Core-store accesses of the vector engine -/

/-- A lanewise load: which lanes' accesses lie in the store at their alignment, what each lane receives, whether what it
reads is poisoned, and its conversion events. -/
structure LoadRow where
  op : Fin 256 → VeWaits → Instr
  fn : Nat
  ok : State → Nat → VI → Nat → Bool
  f : State → Nat → VI → Nat → Nat
  bad : State → Nat → VI → Nat → Bool
  ovf : State → Nat → VI → Nat → Bool := fun _ _ _ _ => false
  nan : State → Nat → VI → Nat → Bool := fun _ _ _ _ => false

/-- The device address of lane `l` of an access by mode 0 contiguous, 1 strided, 2 indexed. -/
def laneAt (s : State) (p : Nat) (j : VI) (mode l : Nat) : Nat := csAddr p (laneAddr (s.core p).ve j mode l)

/-- VLD, VLDS and VLDX: 32-bit lanes, a poisoned one as the canonical NaN (R137). -/
def plainLoad (op : Fin 256 → VeWaits → Instr) (fn mode : Nat) : LoadRow :=
  { op := op, fn := fn, ok := fun s p j l => csOk (laneAddr (s.core p).ve j mode l) 4 4
    f := fun s p j l => if rangeBad s (laneAt s p j mode l) 4 then 0x7FC00000 else readLE s (laneAt s p j mode l) 4
    bad := fun s p j l => rangeBad s (laneAt s p j mode l) 4 }

/-- The format of the elements of a converting access. -/
def accFmt (j : VI) : Sty := fmtElem (fmtOf j.fmt) j.elem
/-- The device address of the first byte of element `l` of a converting access. -/
def accAt (s : State) (p : Nat) (j : VI) (l : Nat) : Nat :=
  csAddr p (convAddr (baseAddr (s.core p).ve j) (elemSpan (styBits (accFmt j)) l).1)
/-- The bytes of element `l`. -/
def accLen (j : VI) (l : Nat) : Nat := (elemSpan (styBits (accFmt j)) l).2
/-- Whether element `l` of a converting load, or its block's scale byte, is poisoned. -/
def accBad (s : State) (p : Nat) (j : VI) (l : Nat) : Bool :=
  rangeBad s (accAt s p j l) (accLen j l)
    || (fmtMx (fmtOf j.fmt) && rangeBad s (csAddr p (mxScale (s.core p).ve j l)) 1)

/-- What a converting load makes of element `l`: 0 or NaN for a poisoned one, an MX element by its block's scale, else
the conversion of its code (R135, R137). -/
def accValue (toInt : Bool) (s : State) (p : Nat) (j : VI) (l : Nat) : Enc :=
  let x := (s.core p).ve
  let c := loadElem s p (baseAddr x j) (styBits (accFmt j)) l
  if accBad s p j l then ⟨if toInt then 0 else 0x7FC00000, false, false⟩
  else if fmtMx (fmtOf j.fmt) then
    encodeS .fp32 (decodeMx (accFmt j) (readByte s (csAddr p (mxScale x j l))).toNat c) (veRnd x j l) j.nov
  else convertS (accFmt j) (if toInt then .int32 else .fp32) c (veRnd x j l) j.nov

/-- VLDC.F and VLDC.I. -/
def convLoad (op : Fin 256 → VeWaits → Instr) (fn : Nat) (toInt : Bool) : LoadRow :=
  { op := op, fn := fn
    ok := fun s p j l =>
      csOk (convAddr (baseAddr (s.core p).ve j) (elemSpan (styBits (accFmt j)) l).1) (accLen j l) 1
        && baseAddr (s.core p).ve j % convAlign (accFmt j) == 0
        && (!fmtMx (fmtOf j.fmt) || csOk (mxScale (s.core p).ve j l) 1 1)
    f := fun s p j l => (accValue toInt s p j l).bits
    bad := accBad
    ovf := fun s p j l => (accValue toInt s p j l).ovf
    nan := fun s p j l => (accValue toInt s p j l).nanIn }

/-- The lanewise loads. -/
def loadRows : List LoadRow :=
  [plainLoad .vld 0 0, plainLoad .vlds 2 1, plainLoad .vldx 4 2, convLoad .vldcF 6 false, convLoad .vldcI 7 true]

/-- What a load leaves unchanged: memory, queues and pending commands, and every other core's vector engine. -/
structure LoadFrame (s u : State) (p : Nat) : Prop where
  mem : u.mem = s.mem
  queues : u.queues = s.queues
  pending : u.pending = s.pending
  others : ∀ n, n ≠ p → (u.core n).ve = (s.core n).ve
  mxa : (u.core p).mxa = (s.core p).mxa
  heron : (u.core p).heron = (s.core p).heron

/-- The last of the active lanes below 256 whose four bytes hold a device address. -/
def storeLane (s : State) (p : Nat) (j : VI) (mode a : Nat) : Option Nat :=
  ((upTo 256).filter (fun l => active (s.core p).ve j l && decide (laneAt s p j mode l ≤ a)
    && decide (a < laneAt s p j mode l + 4))).getLast?

/-- The element type that a converting store writes. -/
def codeFmt (j : VI) : Sty := fmtElem (fmtOf j.fmt) false
/-- The elements of a converting store with its padding (R50). -/
def codeCount (s : State) (p : Nat) (j : VI) : Nat := padCount (styBits (codeFmt j)) (s.core p).ve.vl
/-- The bytes of a converting store with its padding. -/
def codeBytes (s : State) (p : Nat) (j : VI) : Nat := (styBits (codeFmt j) * codeCount s p j + 7) / 8
/-- The device address of byte `k` of a converting store. -/
def codeAt (s : State) (p : Nat) (j : VI) (k : Nat) : Nat := csAddr p (convAddr (baseAddr (s.core p).ve j) k)
/-- Whether element `l` of a converting store lies in the core store at its alignment (R136). -/
def storeFits (s : State) (p : Nat) (j : VI) (l : Nat) : Bool :=
  csOk (convAddr (baseAddr (s.core p).ve j) (elemSpan (styBits (codeFmt j)) l).1) (elemSpan (styBits (codeFmt j)) l).2 1
    && baseAddr (s.core p).ve j % convAlign (codeFmt j) == 0
/-- The conversion of lane `l` of V[D]. -/
def storeEnc (src : Sty) (s : State) (p : Nat) (j : VI) (l : Nat) : Enc :=
  convertS src (codeFmt j) (lane ((s.core p).ve.vreg j.d) l) (veRnd (s.core p).ve j l) j.nov
/-- The code that a converting store writes to element `e`: an active lane's conversion, 0 in the padding where some
lane is active, none where nothing is stored. -/
def storedCode (src : Sty) (s : State) (p : Nat) (j : VI) (e : Nat) : Option Nat :=
  if e < (s.core p).ve.vl then (if active (s.core p).ve j e then some (storeEnc src s p j e).bits else none)
  else if e < codeCount s p j ∧ anyActive (s.core p).ve j (fun _ => true) = true then some 0 else none

/-- The MX block `b` that a converting store makes of V[D]: its 32 lanes, zeros beyond VL. -/
def mxBlock (s : State) (p : Nat) (j : VI) (b : Nat) : MxBlock :=
  encodeMx (accFmt j) ((upTo 32).map (fun k =>
    if 32 * b + k < (s.core p).ve.vl then (fp (lane ((s.core p).ve.vreg j.d) (32 * b + k)), veRnd (s.core p).ve j (32 * b + k))
    else (.fin false 0 0, .rne))) j.nov
/-- The bytes of its elements. -/
def mxBytes (s : State) (p : Nat) (j : VI) (b : Nat) : List Byte :=
  toLE (4 * styBits (accFmt j)) (packElems (styBits (accFmt j)) (mxBlock s p j b).elems)

/-! ### The lagg queue and the end of a program -/

/-- R143: what LLD makes of element (r, c) of a slot: 0 outside M × N, 0 or NaN where it is poisoned, else its conversion. -/
def slotValue (l : LaggSlot) (nov : Bool) (r c : Nat) : Enc :=
  let f := fmtOf l.fmt
  let int := f == .int8 || f == .int4 || f == .int32
  let e := (l.codes.getD (r * slotRow l + c) 0).toNat
  if l.m ≤ r ∨ l.n ≤ c then ⟨0, false, false⟩
  else if slotBad l r c then ⟨if int then 0 else 0x7FC00000, false, false⟩
  else if fmtMx f then
    encodeS .fp32 (decodeMx (fmtElem f l.elem) (l.scales.getD (4 * r + c / 32) 0).toNat e) .rne nov
  else convertS (fmtElem f l.elem) (if int then .int32 else .fp32) e .rne nov

/-- R143: what LLDW makes of element (r, c) of an ACC35 slot: 0 outside M × N, else its container, poisoned where the slot
is. -/
def slotWide (l : LaggSlot) (r c : Nat) : Nat :=
  let v := (l.codes.getD (r * 128 + c) 0).toNat
  if l.m ≤ r ∨ l.n ≤ c then 0 else if slotBad l r c && !v.testBit 39 then v + poisonBit else v

/-- The lagg slot at the head of core `p`'s queue (R141). -/
def headSlot (s : State) (p : Nat) : LaggSlot := tabGet (s.core p).mxa.lagg {} (s.core p).mxa.laggHead
/-- R237: what a program's completion reports: RES0 the program counter, RES1 the counts of conversion events, RES2
VSTAT and the instructions issued, this one among them. -/
def veResult (x : Ve) (st : Nat) (bad : Bool) : Cpl :=
  { status := st, res0 := x.pc.toNat, res1 := satW 32 x.ovf + satW 32 x.nanIn * 2 ^ 32
    res2 := x.stat.toNat + satW 32 (x.issued + 1) * 2 ^ 32, poison := x.pois || bad }

/-! ### Queue commands -/

/-- Record `n` of queue `q` is `r`, may start now, and passes the header checks of R231: the package is Active, earlier
commands of its stream are dispatched, its ORDER and DEP waits are over. -/
structure Starts (s : State) (q n : Nat) (r : Rec) : Prop where
  active : s.pst = .active
  found : findRec s ⟨q, n⟩ = some r
  may : mayStart (s.queue q) r = true
  header : headerStatus s q r = 0

/-- The commands that a record of a queue starts, each with the records that are its own. -/
def RecordRow (c : Fin 64 → Nat → Instr) (r : Rec) : Prop :=
  (c = .nop ∧ (r.opcode = 0 ∨ knownOpcode r.opcode = false)) ∨ (c = .tickWait ∧ r.opcode = 0x1C)
    ∨ (c = .epoch ∧ r.opcode = 0x1D) ∨ (c = .hint ∧ r.opcode = 0x19) ∨ (c = .fenceSignal ∧ r.opcode = 0x1A)
    ∨ (c = .fenceWait ∧ r.opcode = 0x1B) ∨ (c = .scaleClear ∧ r.opcode = 0x18 ∧ r.sop = 0)
    ∨ (c = .scaleLoad ∧ r.opcode = 0x18 ∧ r.sop = 1) ∨ (c = .scaleStore ∧ r.opcode = 0x18 ∧ r.sop = 2)
    ∨ (c = .scaleRescale ∧ r.opcode = 0x18 ∧ r.sop = 3) ∨ (c = .veProg ∧ r.opcode = 4) ∨ (c = .tile ∧ r.opcode = 1)
    ∨ (c = .drain ∧ r.opcode = 2) ∨ (c = .peatFlush ∧ r.opcode = 3) ∨ (c = .gather ∧ r.opcode = 8)
    ∨ (c = .prefetch ∧ r.opcode = 9)

/-- The collectives, with their OP (R400). -/
def CollRow (c : Fin 64 → Nat → Instr) (op : Nat) : Prop :=
  (c = .reduceScatter ∧ op = 0) ∨ (c = .allGather ∧ op = 1) ∨ (c = .allReduce ∧ op = 2) ∨ (c = .broadcast ∧ op = 3)
    ∨ (c = .allToAll ∧ op = 4) ∨ (c = .seqRing ∧ op = 5) ∨ (c = .amaxMax ∧ op = 6) ∨ (c = .paramGather ∧ op = 7)

/-- The scale-table entries of partition `n` from `first`, `cnt` of them, as `f` makes them of what they were; every
other entry, memory, queues and fences stay. -/
structure Rescaled (s u : State) (n first cnt : Nat) (f : Nat → Entry → Entry) : Prop where
  named : ∀ k, k < cnt → u.entry n (first + k) = f k (s.entry n (first + k))
  others : ∀ m t, t < 65536 → (m ≠ n ∨ t < first ∨ first + cnt ≤ t) → u.entry m t = s.entry m t
  mem : u.mem = s.mem
  queues : u.queues = s.queues
  fences : u.fences = s.fences

/-- The DVA of the next slot of a queue's completion ring (R235). -/
def ringSlot (x : Queue) : Nat := bits x.cring.toNat 47 6 * 64 + 32 * (x.completed % x.size)

/-- What posting a completion leaves: the tick, the scale tables, the fences, power, bring-up, ports, links, management,
fuses, domain state and every other queue's records. -/
structure PostFrame (s u : State) (q : Nat) : Prop where
  pst : u.pst = s.pst
  tick : u.tick = s.tick
  numx : u.numx = s.numx
  fences : u.fences = s.fences
  pwr : u.pwr = s.pwr
  bring : u.bring = s.bring
  fab : u.fab = s.fab
  links : u.links = s.links
  bit : u.bit = s.bit
  agt : u.agt = s.agt
  partOf : u.partOf = s.partOf
  ce : u.ce = s.ce
  others : ∀ p, p ≠ q → (u.queue p).recs = (s.queue p).recs ∧ (u.queue p).st = (s.queue p).st

/-! ### What the other commands leave alone -/

/-- The units that compute and hold data: memory and its poison, cores, queues, fences, scale tables, contexts, the
collective engine and the update unit, and what no command but a fuse reader or a sender touches. -/
structure SameUnits (s u : State) : Prop where
  mem : u.mem = s.mem
  poison : u.poison = s.poison
  cores : u.cores = s.cores
  queues : u.queues = s.queues
  fences : u.fences = s.fences
  numx : u.numx = s.numx
  xlat : u.xlat = s.xlat
  ce : u.ce = s.ce
  upd : u.upd = s.upd
  fuse : u.fuse = s.fuse
  pending : u.pending = s.pending

/-- R493: what a claim of controller `c` leaves, from a state `s` just before it: it acts under the epoch after the
highest it had seen, every block holds its key, the other controller is as it was, and no transfer and no SPDM exchange
goes on (R495). -/
structure Claimed (s u : State) (c : Bool) : Prop where
  key : u.bit.key = ⟨(s.ctl c).seen + 1, c⟩
  acts : (u.ctl c).st = .acting
  claim : (u.ctl c).claim = (s.ctl c).seen + 1
  seen : (u.ctl c).seen = (s.ctl c).seen + 1
  slot : (u.ctl c).slot = (s.ctl c).slot
  other : u.ctl (!c) = s.ctl (!c)
  xfer : u.bit.xfer = none
  spdm : u.bit.spdm = []
  trial : u.bit.trial = s.bit.trial
  units : SameUnits s u

/-- A claim of controller `c` is in range and not stale (R493, R494). -/
def ClaimOk (s : State) (c : Bool) : Prop :=
  (s.ctl c).seen < 0xFFFFFFFF ∧ AuthKey.below ⟨(s.ctl c).seen + 1, c⟩ s.bit.key = false

/-- R452, R454, R473: what a package with every rail but VSB off has lost, and what it keeps. -/
structure RailsOff (s u : State) : Prop where
  mem : u.mem = []
  poison : u.poison = []
  queues : u.queues = []
  hubq : u.hubq = {}
  fences : u.fences = []
  numx : u.numx = {}
  xlat : u.xlat = []
  fab : u.fab = {}
  ce : u.ce = {}
  upd : u.upd = {}
  dir : u.dir = []
  partOf : u.partOf = []
  mxa : ∀ p, (u.core p).mxa = {}
  ve : ∀ p, (u.core p).ve = {}
  heron : ∀ p, (u.core p).heron = {}
  causes : ∀ p, (u.core p).ras.fenceCause = (s.core p).ras.fenceCause
  parity : ∀ p, (u.core p).ras.parity = (s.core p).ras.parity
  uptime : u.uptime = s.uptime
  fuse : u.fuse = s.fuse
  key : u.bit.key = s.bit.key
  svn : u.bit.svnMin = s.bit.svnMin
  energy : ∀ o, o ≠ 0x120 → ctrGet u.pwr.ctr o = ctrGet s.pwr.ctr o
  pending : u.pending = s.pending

/-- The units that a sample of the power or thermal sensors leaves. -/
structure SampleFrame (s u : State) : Prop where
  units : SameUnits s u
  pst : u.pst = s.pst
  tick : u.tick = s.tick
  fab : u.fab = s.fab
  bring : u.bring = s.bring
  links : u.links = s.links
  agt : u.agt = s.agt

/-- What a change of a port's state leaves: the other units, the switch's tables, and the states of the other ports. -/
def PortFrame (s u : State) (k : Nat) : Prop :=
  SameUnits s u ∧ (∀ j, j ≠ k → (u.port j).st = (s.port j).st) ∧ u.fab.cfg = s.fab.cfg ∧ u.fab.slots = s.fab.slots
    ∧ u.fab.rtl = s.fab.rtl ∧ u.fab.rtg = s.fab.rtg ∧ u.fab.cwin = s.fab.cwin ∧ u.fab.reqs = s.fab.reqs

/-! ### Guests and ready windows -/

/-- What GUEST.CTRL holds of a value written: BUDGET_W, WIN_LOG, CTX and MASTER_EN (R339). -/
def guestCtrl (v : W64) : W64 :=
  BitVec.ofNat 64 (bits v.toNat 55 48 * 2 ^ 48 + bits v.toNat 45 40 * 2 ^ 40 + bits v.toNat 39 32 * 2 ^ 32 + 4 * b2n (v.getLsbD 2))

/-- The state of a module whose ready window had an error: Disabled after its second window, else as it retrains (R468). -/
def windowState (s : State) (l m : Nat) (second trained : Bool) (lanes : Nat) : Nat :=
  if second then 4
  else if s.bring.cold then moduleCold trained (if l < 4 then Nat.lor (fusedLanes s l m) lanes else lanes)
  else moduleLater (s.module l m) trained lanes

/-! ### Drains -/

/-- The drain or flush at the head of core `p`'s stream that may take the pipeline (R85). -/
def drainChoice (s : State) (p : Nat) : Option CmdRef :=
  pickRef (s.core p).mxa.waiting (s.core p).mxa.lastQ (fun c => match findRec s c with
    | none => false
    | some r => r.opcode == 3 || (r.opcode == 2 && !(s.core p).mxa.issued.any (fun o => o.bank == b2n r.dBank)))

/-- The state in which a drain reads its rows: the words `words` found uncorrectable in the Peat entry that it reads are
poisoned (R113), and the scale exponents of a KIND drain stand in the core's scale cache (R266). -/
def drainSeen (s : State) (p : Nat) (words : List Nat) (c : CmdRef) (r : Rec) : State :=
  let ws := (words.filter (fun w => decide (w < 10240))).eraseDups
  let t := match peatRead (s.core p).mxa c.q r with
    | some e => if ws.isEmpty then s else peatDetect s p e ws
    | none => s
  if r.dKind = 0 then t else scaleReads t p c.q r

/-- The values of a drain after its stages (R86 to R90). -/
def drainVals (s : State) (p : Nat) (words : List Nat) (c : CmdRef) (r : Rec) : List Nat :=
  let t := drainSeen s p words c r
  tileVals t p r (descale t p c.q r) (drainSrc (t.core p).mxa r)

/-- The exponent that a one-pass drain encodes with (R258, R260). -/
def drainExp (s : State) (p : Nat) (c : CmdRef) (r : Rec) : Int :=
  if 1 ≤ r.dKind ∧ r.dKind ≤ 3 then (scaleExp s p (s.queue c.q).part r.dTid).getD 0 else 0

/-! ### Heron engines and messages between dies -/

/-- Engine `e` of core `p` runs command `h` of record `r`, in the demand stream, and may form its next item: no fault has
stopped it and no walk holds it up. -/
structure HeronRuns (s : State) (p e : Nat) (r : Rec) (h : HRun) : Prop where
  active : s.pst = .active
  on : coreOn s p = true
  run : (s.heng p e).run = some h
  found : findRec s h.ref = some r
  demand : r.isPf = false
  more : h.allIssued = false
  sound : h.fault = none
  free : (s.heng p e).walk = none

/-- The bytes that the next request of engine `e` would move (R162). -/
def reqTotal (s : State) (p e : Nat) (r : Rec) (h : HRun) : Nat :=
  (growReq p e r growFuel s h.cur []).2.2.foldl (fun n x => n + x.2.2) 0

/-- Message `i` in flight is `m`, of type `t`. -/
def Arrives (s : State) (i t : Nat) (m : DieMsg) : Prop := s.msgs[i]? = some m ∧ m.mtype = t

/-- What a message between dies leaves unless it is a write: memory, fences, scale tables, ports, collectives, updates. -/
structure DieFrame (s u : State) : Prop where
  mem : u.mem = s.mem
  fences : u.fences = s.fences
  numx : u.numx = s.numx
  fab : u.fab = s.fab
  ce : u.ce = s.ce
  upd : u.upd = s.upd
  tick : u.tick = s.tick
  agt : u.agt = s.agt
  homeWr : u.homeWr = s.homeWr

/-- The members whose contribution to a collective is incomplete, each once (R415). -/
def lacking (c : Coll) : List Nat :=
  (c.recvs.filter (fun x => !x.done)).foldl (fun l x => if l.contains x.src then l else l ++ [x.src]) []

/-- A collective in flight asks member `m` for the flits from the first that is missing (R415). -/
def askAgain (c : Coll) (t : State) (m : Nat) : State :=
  match c.recvs.find? (fun x => x.src == m && !x.done), findColl t c.ref with
  | some x, some _ => sendCollCtl (ceCtr t 0x718 1) c m 1 x.prefixLen
  | _, _ => t

/-- A HOLD of the collective engine for the next tick of a group (R208, R416). -/
def engineHold (t : State) (gid : Nat) : State :=
  ceCtr (forwardGroup (markHold t gid (nextTick t)) none gid (.hold gid (nextTick t) (devId t) 2)) 0x710 1

/-- Whether a flit of a group is held already for a collective that has not started (R399). -/
def heldEarly (s : State) (gid : Nat) (f : SFlit) : Bool :=
  s.ce.early.any (fun g => g.group == gid && g.seq == f.seq && g.srcM == f.srcM && g.phase2 == f.phase2
    && g.fidx == f.fidx)

/-- Memory with its poison, and the cores. -/
def SameMemory (s u : State) : Prop := u.mem = s.mem ∧ u.poison = s.poison ∧ u.cores = s.cores

end Sys2Proof.Machine
end

