-- ==== Sys2Proof/Certificates/Slice0/Obligations.lean ====
section
/-!
DEFINITION. The statements about the model.
-/
open Sys2Proof Sys2Proof.Machine

/-! ### The vector engine -/

/-- R119, R120, R122: an instruction of `laneRows` that issues writes the lanes of V[D] and the VSTAT bits its row
gives, goes on to the next instruction, and leaves everything else as it was.
The model's own readings here: log 1, 19 and 31. -/
def Obligations.LaneInstructionsWriteTheirLanes : Prop :=
  ∀ r ∈ laneRows, ∀ (p : Fin 256) (w : VeWaits) (s : State) (word : Nat), VeIssues s p r.cls r.fn word →
    ∃ y k, Answers (r.op p w) s (withVe s p y k) ∧ VeNext (s.core p).ve y
      ∧ (∀ l, l < 256 → lane (y.vreg (decodeVI word).d) l = laneAfter r (s.core p).ve (decodeVI word) l)
      ∧ (∀ n, n ≠ (decodeVI word).d → y.vreg n = (s.core p).ve.vreg n)
      ∧ y.s = (s.core p).ve.s ∧ y.mask = (s.core p).ve.mask
      ∧ y.ovf = (s.core p).ve.ovf + r.ovf (s.core p).ve (decodeVI word)
      ∧ y.nanIn = (s.core p).ve.nanIn + r.nan (s.core p).ve (decodeVI word)
      ∧ y.stat = (s.core p).ve.stat
          ||| (evBits (r.ovf (s.core p).ve (decodeVI word)) (r.nan (s.core p).ve (decodeVI word))
            ||| r.bits (s.core p).ve (decodeVI word))

/-- R114, R122: an instruction of `scalarRows` or `reduceRows` that issues writes S[D], S0 staying
0, and leaves the other registers as they were.
The model's own readings here: log 19 and 31. -/
def Obligations.ScalarInstructionsWriteTheirRegister : Prop :=
  ∀ r ∈ scalarRows ++ reduceRows, ∀ (p : Fin 256) (w : VeWaits) (s : State) (word : Nat),
    VeIssues s p r.cls r.fn word →
    ∃ y k, Answers (r.op p w) s (withVe s p y k) ∧ VeNext (s.core p).ve y
      ∧ y.sreg (decodeVI word).d
          = (if (decodeVI word).d = 0 then 0 else BitVec.ofNat 64 (r.f (s.core p).ve (decodeVI word)))
      ∧ (∀ n, n ≠ (decodeVI word).d → y.sreg n = (s.core p).ve.sreg n)
      ∧ y.v = (s.core p).ve.v ∧ y.mask = (s.core p).ve.mask
      ∧ y.ovf = (s.core p).ve.ovf + r.ovf (s.core p).ve (decodeVI word)
      ∧ y.nanIn = (s.core p).ve.nanIn + r.nan (s.core p).ve (decodeVI word)
      ∧ y.stat = (s.core p).ve.stat
          ||| (evBits (r.ovf (s.core p).ve (decodeVI word)) (r.nan (s.core p).ve (decodeVI word))
            ||| r.bits (s.core p).ve (decodeVI word))


/-- R115, R119, R120: an instruction of `maskRows` that issues writes the bits of MK[D] and leaves the other registers
and VSTAT as they were. -/
def Obligations.MaskInstructionsWriteTheirMask : Prop :=
  ∀ r ∈ maskRows, ∀ (p : Fin 256) (w : VeWaits) (s : State) (word fn : Nat), fn ∈ r.fns → VeIssues s p 5 fn word →
    ∃ y k, Answers (r.op p w) s (withVe s p y k) ∧ VeNext (s.core p).ve y
      ∧ (∀ l, l < 256 → (y.mreg (decodeVI word).d).getLsbD l = maskAfter r (s.core p).ve (decodeVI word) l)
      ∧ (∀ n, n ≠ (decodeVI word).d → y.mreg n = (s.core p).ve.mreg n)
      ∧ y.s = (s.core p).ve.s ∧ y.v = (s.core p).ve.v ∧ y.stat = (s.core p).ve.stat

/-- R124, R138: an instruction of `wideRows` that issues writes all 256 values of the wide pair D; WFROMI writes the
lanes of both registers of the pair as lanewise writes do; the other vector registers stay. -/
def Obligations.WideInstructionsWriteTheirPair : Prop :=
  (∀ r ∈ wideRows, ∀ (p : Fin 256) (w : VeWaits) (s : State) (word : Nat), VeIssues s p 9 r.fn word →
    ∃ y k, Answers (r.op p w) s (withVe s p y k) ∧ VeNext (s.core p).ve y
      ∧ (∀ l, l < 256 → wideAt y (decodeVI word).d l = r.f (s.core p).ve (decodeVI word) l % 2 ^ 40)
      ∧ (∀ n, n / 2 ≠ (decodeVI word).d → y.vreg n = (s.core p).ve.vreg n)
      ∧ y.s = (s.core p).ve.s ∧ y.mask = (s.core p).ve.mask
      ∧ y.stat = (s.core p).ve.stat ||| r.bits (s.core p).ve (decodeVI word))
  ∧ (∀ (p : Fin 256) (w : VeWaits) (s : State) (word : Nat), VeIssues s p 9 20 word →
    ∃ y k, Answers (.wfromi p w) s (withVe s p y k) ∧ VeNext (s.core p).ve y
      ∧ (∀ l, l < 256 → active (s.core p).ve (decodeVI word) l = true →
          lane (y.vreg (2 * (decodeVI word).d)) l
              + lane (y.vreg (2 * (decodeVI word).d + 1)) l * 2 ^ 32
            = (convertS .int32 .acc35 (opA (s.core p).ve (decodeVI word) l)
                (veRnd (s.core p).ve (decodeVI word) l) (decodeVI word).nov).bits % 2 ^ 64)
      ∧ (∀ l, l < 256 → (s.core p).ve.vl ≤ l → ∀ n, lane (y.vreg n) l = lane ((s.core p).ve.vreg n) l)
      ∧ (∀ n, n / 2 ≠ (decodeVI word).d → y.vreg n = (s.core p).ve.vreg n)
      ∧ y.s = (s.core p).ve.s ∧ y.mask = (s.core p).ve.mask
      ∧ y.stat = (s.core p).ve.stat ||| evBits
          (countActive (s.core p).ve (decodeVI word) (fun l => (convertS .int32 .acc35 (opA (s.core p).ve (decodeVI word) l)
            (veRnd (s.core p).ve (decodeVI word) l) (decodeVI word).nov).ovf))
          (countActive (s.core p).ve (decodeVI word) (fun l => (convertS .int32 .acc35 (opA (s.core p).ve (decodeVI word) l)
            (veRnd (s.core p).ve (decodeVI word) l) (decodeVI word).nov).nanIn)))

/-- R122: SETVL sets VL to S[A] brought into 1 to 256 and S[D] to the smaller of S[A] and 256, SETVLI sets VL to IMM,
STCLR clears the VSTAT bits set in S[A], VE_NOP changes nothing; each goes on to the next instruction and leaves the
vector and mask registers as they were. -/
def Obligations.ControlInstructionsSetVlAndStatus : Prop :=
  (∀ (p : Fin 256) (w : VeWaits) (s : State) (word : Nat), VeIssues s p 0 7 word →
    ∃ y k, Answers (.setvl p w) s (withVe s p y k)
      ∧ y.vl = min (max ((s.core p).ve.sreg (decodeVI word).a).toNat 1) 256
      ∧ y.sreg (decodeVI word).d = (if (decodeVI word).d = 0 then 0
          else BitVec.ofNat 64 (min ((s.core p).ve.sreg (decodeVI word).a).toNat 256))
      ∧ (∀ n, n ≠ (decodeVI word).d → y.sreg n = (s.core p).ve.sreg n)
      ∧ y.pc = (s.core p).ve.pc + 8 ∧ y.v = (s.core p).ve.v ∧ y.mask = (s.core p).ve.mask
      ∧ y.stat = (s.core p).ve.stat)
  ∧ (∀ (p : Fin 256) (w : VeWaits) (s : State) (word : Nat), VeIssues s p 0 8 word →
    ∃ y k, Answers (.setvli p w) s (withVe s p y k) ∧ (y.vl : Int) = (decodeVI word).imm
      ∧ y.pc = (s.core p).ve.pc + 8 ∧ y.s = (s.core p).ve.s ∧ y.v = (s.core p).ve.v ∧ y.mask = (s.core p).ve.mask
      ∧ y.stat = (s.core p).ve.stat)
  ∧ (∀ (p : Fin 256) (w : VeWaits) (s : State) (word : Nat), VeIssues s p 1 36 word →
    ∃ y k, Answers (.stclr p w) s (withVe s p y k) ∧ VeNext (s.core p).ve y
      ∧ (∀ b, b < 5 → y.stat.getLsbD b
          = ((s.core p).ve.stat.getLsbD b && !((s.core p).ve.sreg (decodeVI word).a).getLsbD b))
      ∧ y.pois = (s.core p).ve.pois
      ∧ y.s = (s.core p).ve.s ∧ y.v = (s.core p).ve.v ∧ y.mask = (s.core p).ve.mask)
  ∧ (∀ (p : Fin 256) (w : VeWaits) (s : State) (word : Nat), VeIssues s p 0 0 word →
    ∃ y k, Answers (.veNop p w) s (withVe s p y k) ∧ VeNext (s.core p).ve y
      ∧ y.s = (s.core p).ve.s ∧ y.v = (s.core p).ve.v ∧ y.mask = (s.core p).ve.mask ∧ y.stat = (s.core p).ve.stat)

/-- R122: a branch whose condition holds moves the program counter by 8 × sext(IMM) from the branch, any other goes on
to the next instruction; LOOP first takes 1 from S[A] and branches while it is not zero. Nothing else of the registers
changes. -/
def Obligations.BranchesMoveTheProgramCounter : Prop :=
  (∀ r ∈ ([(Instr.br, 2, fun _ _ => true), (Instr.bz, 3, fun x j => x.sreg j.a == 0),
        (Instr.bnz, 4, fun x j => x.sreg j.a != 0), (Instr.blt, 5, fun x j => (x.sreg j.a).slt (x.sreg j.b))] :
        List ((Fin 256 → VeWaits → Instr) × Nat × (Ve → VI → Bool))),
    ∀ (p : Fin 256) (w : VeWaits) (s : State) (word : Nat), VeIssues s p 0 r.2.1 word →
      ∃ y k, Answers (r.1 p w) s (withVe s p y k)
        ∧ y.pc = (s.core p).ve.pc + (if r.2.2 (s.core p).ve (decodeVI word) then
            BitVec.ofInt 23 (8 * (decodeVI word).imm) else 8)
        ∧ y.issued = (s.core p).ve.issued + 1 ∧ y.st = .running ∧ y.vl = (s.core p).ve.vl
        ∧ y.s = (s.core p).ve.s ∧ y.v = (s.core p).ve.v ∧ y.mask = (s.core p).ve.mask ∧ y.stat = (s.core p).ve.stat)
  ∧ (∀ (p : Fin 256) (w : VeWaits) (s : State) (word : Nat), VeIssues s p 0 6 word →
      ∃ y k, Answers (.loopS p w) s (withVe s p y k)
        ∧ y.sreg (decodeVI word).a = (s.core p).ve.sreg (decodeVI word).a - 1
        ∧ (∀ n, n ≠ (decodeVI word).a → y.sreg n = (s.core p).ve.sreg n)
        ∧ y.pc = (s.core p).ve.pc + (if y.sreg (decodeVI word).a = 0 then 8 else BitVec.ofInt 23 (8 * (decodeVI word).imm))
        ∧ y.issued = (s.core p).ve.issued + 1 ∧ y.st = .running ∧ y.vl = (s.core p).ve.vl
        ∧ y.v = (s.core p).ve.v ∧ y.mask = (s.core p).ve.mask ∧ y.stat = (s.core p).ve.stat)

/-- R119, R120, R135 to R137: a lanewise load of `loadRows` whose every active lane lies in the core store at its
alignment writes V[D] from the store as it was, sets VSTAT.POISON where an active lane read poison, and counts its
conversions' events; memory, the other cores' engines and the other registers stay. -/
def Obligations.LoadsWriteTheirLanes : Prop :=
  ∀ r ∈ loadRows, ∀ (p : Fin 256) (w : VeWaits) (s : State) (word : Nat), VeIssues s p 10 r.fn word →
    (∀ l, l < 256 → active (s.core p).ve (decodeVI word) l = true → r.ok s p (decodeVI word) l = true) →
    ∃ u, Answers (r.op p w) s u ∧ LoadFrame s u p ∧ VeNext (s.core p).ve (u.core p).ve
      ∧ (∀ l, l < 256 → lane ((u.core p).ve.vreg (decodeVI word).d) l
          = (if active (s.core p).ve (decodeVI word) l then r.f s p (decodeVI word) l % 2 ^ 32
             else if decide (l < (s.core p).ve.vl) && (decodeVI word).zm then 0
             else lane ((s.core p).ve.vreg (decodeVI word).d) l))
      ∧ (∀ n, n ≠ (decodeVI word).d → (u.core p).ve.vreg n = (s.core p).ve.vreg n)
      ∧ (u.core p).ve.s = (s.core p).ve.s ∧ (u.core p).ve.mask = (s.core p).ve.mask
      ∧ (u.core p).ve.ovf = (s.core p).ve.ovf + countActive (s.core p).ve (decodeVI word) (r.ovf s p (decodeVI word))
      ∧ (u.core p).ve.nanIn = (s.core p).ve.nanIn + countActive (s.core p).ve (decodeVI word) (r.nan s p (decodeVI word))
      ∧ (u.core p).ve.stat = (s.core p).ve.stat
          ||| (evBits (countActive (s.core p).ve (decodeVI word) (r.ovf s p (decodeVI word)))
                (countActive (s.core p).ve (decodeVI word) (r.nan s p (decodeVI word)))
            ||| statBit vsPoison (anyActive (s.core p).ve (decodeVI word) (r.bad s p (decodeVI word))))

/-- R120, R122, R136 to R139: SLD loads 64 bits into S[D], MLD 256 bits into MK[D], SPL.LD a spill block into the wide
pair D, SPL.FOLD the sum of S[C] spill blocks at S[A] + sext(IMM), S[B] apart, in index order, zeros for none; poisoned
words load as 0, as 0 bits and as poisoned containers, and set VSTAT.POISON.
The model's own readings here: log 31. -/
def Obligations.SingleLoadsWriteTheirRegister : Prop :=
  (∀ (p : Fin 256) (w : VeWaits) (s : State) (word o : Nat), VeIssues s p 1 33 word →
    o = baseAddr (s.core p).ve (decodeVI word) → csOk o 8 8 = true →
    ∃ u, Answers (.sld p w) s u ∧ LoadFrame s u p ∧ VeNext (s.core p).ve (u.core p).ve
      ∧ (u.core p).ve.sreg (decodeVI word).d = (if (decodeVI word).d = 0 ∨ rangeBad s (csAddr p o) 8 = true then 0
          else BitVec.ofNat 64 (readLE s (csAddr p o) 8))
      ∧ (∀ n, n ≠ (decodeVI word).d → (u.core p).ve.sreg n = (s.core p).ve.sreg n)
      ∧ (u.core p).ve.v = (s.core p).ve.v ∧ (u.core p).ve.mask = (s.core p).ve.mask
      ∧ (u.core p).ve.stat = (s.core p).ve.stat ||| statBit vsPoison (rangeBad s (csAddr p o) 8))
  ∧ (∀ (p : Fin 256) (w : VeWaits) (s : State) (word o : Nat), VeIssues s p 5 24 word →
    o = baseAddr (s.core p).ve (decodeVI word) → csOk o 32 8 = true →
    ∃ u, Answers (.mld p w) s u ∧ LoadFrame s u p ∧ VeNext (s.core p).ve (u.core p).ve
      ∧ (∀ b, b < 256 → ((u.core p).ve.mreg (decodeVI word).d).getLsbD b
          = (!rangeBad s (csAddr p o + b / 64 * 8) 8 && (readByte s (csAddr p o + b / 8)).getLsbD (b % 8)))
      ∧ (∀ n, n ≠ (decodeVI word).d → (u.core p).ve.mreg n = (s.core p).ve.mreg n)
      ∧ (u.core p).ve.v = (s.core p).ve.v ∧ (u.core p).ve.s = (s.core p).ve.s
      ∧ (u.core p).ve.stat = (s.core p).ve.stat
          ||| statBit vsPoison ((upTo 4).any (fun k => rangeBad s (csAddr p o + 8 * k) 8)))
  ∧ (∀ (p : Fin 256) (w : VeWaits) (s : State) (word o : Nat), VeIssues s p 10 10 word →
    o = baseAddr (s.core p).ve (decodeVI word) → csOk o 1280 64 = true →
    ∃ u, Answers (.splLd p w) s u ∧ LoadFrame s u p ∧ VeNext (s.core p).ve (u.core p).ve
      ∧ (∀ l, l < 256 → wideAt (u.core p).ve (decodeVI word).d l = loadCont s (csAddr p o) l % 2 ^ 40)
      ∧ (∀ n, n / 2 ≠ (decodeVI word).d → (u.core p).ve.vreg n = (s.core p).ve.vreg n)
      ∧ (u.core p).ve.s = (s.core p).ve.s ∧ (u.core p).ve.mask = (s.core p).ve.mask
      ∧ (u.core p).ve.stat = (s.core p).ve.stat ||| statBit vsPoison (rangeBad s (csAddr p o) 1280))
  ∧ (∀ (p : Fin 256) (w : VeWaits) (s : State) (word o n : Nat), VeIssues s p 10 12 word →
    o = baseAddr (s.core p).ve (decodeVI word) → n = ((s.core p).ve.sreg (decodeVI word).c).toNat → 0 < n → n < 65536 →
    ((s.core p).ve.sreg (decodeVI word).b).toNat % 64 = 0 →
    (∀ k, k < n → csOk (convAddr o (k * ((s.core p).ve.sreg (decodeVI word).b).toNat)) 1280 64 = true) →
    ∃ u, Answers (.splFold p w) s u ∧ LoadFrame s u p ∧ VeNext (s.core p).ve (u.core p).ve
      ∧ (∀ l, l < 256 → wideAt (u.core p).ve (decodeVI word).d l
          = (upTo (n - 1)).foldl (fun acc k =>
              wideAdd acc (loadCont s (csAddr p (convAddr o ((k + 1) * ((s.core p).ve.sreg (decodeVI word).b).toNat))) l))
              (loadCont s (csAddr p o) l) % 2 ^ 40)
      ∧ (∀ k, k / 2 ≠ (decodeVI word).d → (u.core p).ve.vreg k = (s.core p).ve.vreg k)
      ∧ (u.core p).ve.s = (s.core p).ve.s ∧ (u.core p).ve.mask = (s.core p).ve.mask
      ∧ (∀ b, b ≠ vsPoison → (u.core p).ve.stat.getLsbD b = (s.core p).ve.stat.getLsbD b))
  ∧ (∀ (p : Fin 256) (w : VeWaits) (s : State) (word : Nat), VeIssues s p 10 12 word →
    (s.core p).ve.sreg (decodeVI word).c = 0 → ((s.core p).ve.sreg (decodeVI word).b).toNat % 64 = 0 →
    baseAddr (s.core p).ve (decodeVI word) % 64 = 0 →
    ∃ y k, Answers (.splFold p w) s (withVe s p y k) ∧ VeNext (s.core p).ve y
      ∧ (∀ l, l < 256 → wideAt y (decodeVI word).d l = 0)
      ∧ (∀ k, k / 2 ≠ (decodeVI word).d → y.vreg k = (s.core p).ve.vreg k)
      ∧ y.s = (s.core p).ve.s ∧ y.mask = (s.core p).ve.mask ∧ y.stat = (s.core p).ve.stat)

/-- R122, R136: SST, MST and SPL.ST store a register's bytes and VST, VSTS and VSTX the active lanes', the later lane
where two store to one byte; every other byte of memory reads as before, and no register changes.
The model's own readings here: log 19 and 31. -/
def Obligations.StoresWriteTheirBytes : Prop :=
  (∀ r ∈ ([(Instr.sst, 1, 34, 8, 8, fun x j => toLE 8 (x.sreg j.d).toNat),
        (Instr.mst, 5, 25, 32, 8, fun x j => toLE 32 (x.mreg j.d).toNat),
        (Instr.splSt, 10, 11, 1280, 64, fun x j => toLE 1280 (packElems 40 ((upTo 256).map (wideAt x j.d))))] :
        List ((Fin 256 → VeWaits → Instr) × Nat × Nat × Nat × Nat × (Ve → VI → List Byte))),
    ∀ (p : Fin 256) (w : VeWaits) (s : State) (word o : Nat), VeIssues s p r.2.1 r.2.2.1 word →
      o = baseAddr (s.core p).ve (decodeVI word) → csOk o r.2.2.2.1 r.2.2.2.2.1 = true →
      ∃ u, Answers (r.1 p w) s u ∧ VeNext (s.core p).ve (u.core p).ve
        ∧ (∀ a, readByte u a = if csAddr p o ≤ a ∧ a < csAddr p o + r.2.2.2.1 then
            (r.2.2.2.2.2 (s.core p).ve (decodeVI word)).getD (a - csAddr p o) 0 else readByte s a)
        ∧ (u.core p).ve.v = (s.core p).ve.v ∧ (u.core p).ve.s = (s.core p).ve.s
        ∧ (u.core p).ve.mask = (s.core p).ve.mask ∧ (u.core p).ve.stat = (s.core p).ve.stat
        ∧ (∀ n, n ≠ p.val → u.core n = s.core n) ∧ u.queues = s.queues)
  ∧ (∀ r ∈ ([(Instr.vst, 1, 0), (Instr.vsts, 3, 1), (Instr.vstx, 5, 2)] :
        List ((Fin 256 → VeWaits → Instr) × Nat × Nat)),
    ∀ (p : Fin 256) (w : VeWaits) (s : State) (word : Nat), VeIssues s p 10 r.2.1 word →
      (∀ l, l < 256 → active (s.core p).ve (decodeVI word) l = true →
        csOk (laneAddr (s.core p).ve (decodeVI word) r.2.2 l) 4 4 = true) →
      ∃ u, Answers (r.1 p w) s u ∧ VeNext (s.core p).ve (u.core p).ve
        ∧ (∀ a, readByte u a = match storeLane s p (decodeVI word) r.2.2 a with
            | some l => (toLE 4 (lane ((s.core p).ve.vreg (decodeVI word).d) l)).getD (a - laneAt s p (decodeVI word) r.2.2 l) 0
            | none => readByte s a)
        ∧ (u.core p).ve.v = (s.core p).ve.v ∧ (u.core p).ve.s = (s.core p).ve.s
        ∧ (u.core p).ve.mask = (s.core p).ve.mask ∧ (u.core p).ve.stat = (s.core p).ve.stat
        ∧ (∀ n, n ≠ p.val → u.core n = s.core n) ∧ u.queues = s.queues)

/-- R135, R136, R50: VSTC.F and VSTC.I to a scalar format write the codes of the active lanes, packed, with zero
elements up to the padded count; a byte that holds no new code reads as before. The active lanes lie in the core store and
so does the padding, if there is any.
The model's own readings here: log 31. -/
def Obligations.ConvertingStoresWriteTheirCodes : Prop :=
  ∀ r ∈ ([(Instr.vstcF, 8, Sty.fp32), (Instr.vstcI, 9, Sty.int32)] : List ((Fin 256 → VeWaits → Instr) × Nat × Sty)),
    ∀ (p : Fin 256) (w : VeWaits) (s : State) (word : Nat), VeIssues s p 10 r.2.1 word →
      fmtMx (fmtOf (decodeVI word).fmt) = false →
      (∀ l, l < 256 → active (s.core p).ve (decodeVI word) l = true → storeFits s p (decodeVI word) l = true) →
      (codeCount s p (decodeVI word) = (s.core p).ve.vl
        ∨ convAddr (baseAddr (s.core p).ve (decodeVI word)) (codeBytes s p (decodeVI word) - 1) < csSize) →
      ∃ u, Answers (r.1 p w) s u ∧ VeNext (s.core p).ve (u.core p).ve
        ∧ (∀ b, b < 8 * csSize →
            (readByte u (codeAt s p (decodeVI word) (b / 8))).getLsbD (b % 8)
              = match storedCode r.2.2 s p (decodeVI word) (b / styBits (codeFmt (decodeVI word))) with
                | some c => c.testBit (b % styBits (codeFmt (decodeVI word)))
                | none => (readByte s (codeAt s p (decodeVI word) (b / 8))).getLsbD (b % 8))
        ∧ (∀ a, (∀ k, k < codeBytes s p (decodeVI word) → a ≠ codeAt s p (decodeVI word) k) → readByte u a = readByte s a)
        ∧ (u.core p).ve.v = (s.core p).ve.v ∧ (u.core p).ve.s = (s.core p).ve.s
        ∧ (u.core p).ve.mask = (s.core p).ve.mask
        ∧ (u.core p).ve.stat = (s.core p).ve.stat ||| evBits
            (countActive (s.core p).ve (decodeVI word) (fun l => (storeEnc r.2.2 s p (decodeVI word) l).ovf))
            (countActive (s.core p).ve (decodeVI word) (fun l => (storeEnc r.2.2 s p (decodeVI word) l).nanIn))

/-- R50, R135, R141: VSTC.F to an MX format writes whole blocks of 32 elements, zeros beyond VL, at S[A] + sext(IMM), and
one scale byte per block at S[A + 1]; every other byte reads as before. -/
def Obligations.MxStoresWriteBlocksAndScales : Prop :=
  ∀ (p : Fin 256) (w : VeWaits) (s : State) (word o so nb : Nat), VeIssues s p 10 8 word →
    fmtMx (fmtOf (decodeVI word).fmt) = true → o = baseAddr (s.core p).ve (decodeVI word) →
    so = ((s.core p).ve.sreg ((decodeVI word).a + 1)).toNat → nb = ceilDiv (s.core p).ve.vl 32 →
    csOk o (4 * styBits (accFmt (decodeVI word)) * nb) (convAlign (accFmt (decodeVI word))) = true → csOk so nb 1 = true →
    ∃ u, Answers (.vstcF p w) s u ∧ VeNext (s.core p).ve (u.core p).ve
      ∧ (∀ a, readByte u a =
          if csAddr p so ≤ a ∧ a < csAddr p so + nb then BitVec.ofNat 8 (mxBlock s p (decodeVI word) (a - csAddr p so)).scale
          else if csAddr p o ≤ a ∧ a < csAddr p o + 4 * styBits (accFmt (decodeVI word)) * nb then
            (mxBytes s p (decodeVI word) ((a - csAddr p o) / (4 * styBits (accFmt (decodeVI word))))).getD
              ((a - csAddr p o) % (4 * styBits (accFmt (decodeVI word)))) 0
          else readByte s a)
      ∧ (u.core p).ve.v = (s.core p).ve.v ∧ (u.core p).ve.s = (s.core p).ve.s
      ∧ (u.core p).ve.mask = (s.core p).ve.mask

/-- R122, R136, R137, R139: an access that does not lie in the core store at its alignment stops the program with
CS_RANGE, with nothing loaded or stored: a lanewise load with one such active lane, the stores and the single loads.
The model's own readings here: log 19. -/
def Obligations.MisplacedAccessesStopTheProgram : Prop :=
  (∀ r ∈ loadRows, ∀ (p : Fin 256) (w : VeWaits) (s : State) (word l : Nat), VeIssues s p 10 r.fn word →
    l < 256 → active (s.core p).ve (decodeVI word) l = true → r.ok s p (decodeVI word) l = false →
    Answers (r.op p w) s (veFinish (veCount s p w 0) p 0x24 .stopped false))
  ∧ (∀ r ∈ ([(Instr.vst, 1, 0), (Instr.vsts, 3, 1), (Instr.vstx, 5, 2)] :
        List ((Fin 256 → VeWaits → Instr) × Nat × Nat)),
    ∀ (p : Fin 256) (w : VeWaits) (s : State) (word l : Nat), VeIssues s p 10 r.2.1 word →
      l < 256 → active (s.core p).ve (decodeVI word) l = true →
      csOk (laneAddr (s.core p).ve (decodeVI word) r.2.2 l) 4 4 = false →
      Answers (r.1 p w) s (veFinish (veCount s p w 0) p 0x24 .stopped false))
  ∧ (∀ r ∈ ([(Instr.sld, 1, 33, 8, 8), (Instr.sst, 1, 34, 8, 8), (Instr.mld, 5, 24, 32, 8), (Instr.mst, 5, 25, 32, 8),
        (Instr.splLd, 10, 10, 1280, 64), (Instr.splSt, 10, 11, 1280, 64)] :
        List ((Fin 256 → VeWaits → Instr) × Nat × Nat × Nat × Nat)),
    ∀ (p : Fin 256) (w : VeWaits) (s : State) (word : Nat), VeIssues s p r.2.1 r.2.2.1 word →
      csOk (baseAddr (s.core p).ve (decodeVI word)) r.2.2.2.1 r.2.2.2.2 = false →
      Answers (r.1 p w) s (veFinish (veCount s p w 0) p 0x24 .stopped false))

/-- R141 to R144: with its core's head lagg slot ready for the program's queue, LWAIT and LPEEK put the slot's
descriptor into S[D] and take the slot; LREL gives a taken slot back and moves the head on; LLD reads the elements of
rows r and r + 1 of a taken slot into the active lanes, LLDW those of an ACC35 slot into the wide pair. With no slot
ready LWAIT waits where it stands and LPEEK puts 2⁶³ into S[D]. -/
def Obligations.LaggInstructionsReadTheHeadSlot : Prop :=
  (∀ r ∈ ([(Instr.lwait, 0), (Instr.lpeek, 1)] : List ((Fin 256 → VeWaits → Instr) × Nat)),
    ∀ (p : Fin 256) (w : VeWaits) (s : State) (word : Nat), VeIssues s p 11 r.2 word →
      (headSlot s p).ready = true → (headSlot s p).queue = (s.core p).ve.queue →
      ∃ y k, Answers (r.1 p w) s (withVe s p y k) ∧ y.slotTaken = true ∧ y.pc = (s.core p).ve.pc + 8
        ∧ y.sreg (decodeVI word).d = (if (decodeVI word).d = 0 then 0 else BitVec.ofNat 64 (laggDesc (headSlot s p)))
        ∧ (∀ n, n ≠ (decodeVI word).d → y.sreg n = (s.core p).ve.sreg n)
        ∧ y.v = (s.core p).ve.v ∧ y.mask = (s.core p).ve.mask ∧ y.stat = (s.core p).ve.stat)
  ∧ (∀ (p : Fin 256) (w : VeWaits) (s : State) (word : Nat), VeIssues s p 11 0 word → (headSlot s p).ready = false →
      ∃ k, Answers (.lwait p w) s (withVe s p { (s.core p).ve with st := .waitLagg } k))
  ∧ (∀ (p : Fin 256) (w : VeWaits) (s : State) (word : Nat), VeIssues s p 11 1 word → (headSlot s p).ready = false →
      ∃ y k, Answers (.lpeek p w) s (withVe s p y k) ∧ VeNext (s.core p).ve y
        ∧ y.sreg (decodeVI word).d = (if (decodeVI word).d = 0 then 0 else BitVec.ofNat 64 (2 ^ 63))
        ∧ (∀ n, n ≠ (decodeVI word).d → y.sreg n = (s.core p).ve.sreg n))
  ∧ (∀ (p : Fin 256) (w : VeWaits) (s : State) (word : Nat), VeIssues s p 11 4 word → (s.core p).ve.slotTaken = true →
      ∃ u, Answers (.lrel p w) s u ∧ (u.core p).mxa.laggHead = ((s.core p).mxa.laggHead + 1) % 8
        ∧ tabGet (u.core p).mxa.lagg {} (s.core p).mxa.laggHead = {}
        ∧ (u.core p).ve.slotTaken = false ∧ (u.core p).ve.pc = (s.core p).ve.pc + 8
        ∧ (u.core p).ve.s = (s.core p).ve.s ∧ (u.core p).ve.v = (s.core p).ve.v ∧ u.mem = s.mem
        ∧ (∀ n, n ≠ p.val → u.core n = s.core n))
  ∧ (∀ (p : Fin 256) (w : VeWaits) (s : State) (word : Nat), VeIssues s p 11 2 word → (s.core p).ve.slotTaken = true →
      fmtOf (headSlot s p).fmt ≠ .acc35 →
      ∃ y k, Answers (.lld p w) s (withVe s p y k) ∧ VeNext (s.core p).ve y
        ∧ (∀ l, l < 256 → lane (y.vreg (decodeVI word).d) l
            = (if active (s.core p).ve (decodeVI word) l then
                (slotValue (headSlot s p) (decodeVI word).nov (laggRow (s.core p).ve (decodeVI word) l) (l % 128)).bits
                  % 2 ^ 32
               else if decide (l < (s.core p).ve.vl) && (decodeVI word).zm then 0
               else lane ((s.core p).ve.vreg (decodeVI word).d) l))
        ∧ (∀ n, n ≠ (decodeVI word).d → y.vreg n = (s.core p).ve.vreg n)
        ∧ y.s = (s.core p).ve.s ∧ y.mask = (s.core p).ve.mask)
  ∧ (∀ (p : Fin 256) (w : VeWaits) (s : State) (word : Nat), VeIssues s p 11 3 word → (s.core p).ve.slotTaken = true →
      fmtOf (headSlot s p).fmt = .acc35 →
      ∃ y k, Answers (.lldw p w) s (withVe s p y k) ∧ VeNext (s.core p).ve y
        ∧ (∀ l, l < 256 → wideAt y (decodeVI word).d l
            = slotWide (headSlot s p) (laggRow (s.core p).ve (decodeVI word) l) (l % 128) % 2 ^ 40)
        ∧ (∀ n, n / 2 ≠ (decodeVI word).d → y.vreg n = (s.core p).ve.vreg n)
        ∧ y.s = (s.core p).ve.s ∧ y.mask = (s.core p).ve.mask)

/-- R116, R118, R237: END completes the running command with SUCCESS, an illegal word with ILLEGAL_INSTRUCTION; RES0 is
the address of the word, RES1 the conversion events, RES2 VSTAT and the instructions issued; the engine is idle, or
stopped, and takes the next program that waits for it.
The model's own readings here: log 19. -/
def Obligations.ProgramsEndWithTheirCompletion : Prop :=
  (∀ (p : Fin 256) (w : VeWaits) (s : State) (word : Nat) (c : CmdRef), VeIssues s p 0 1 word →
    (s.core p).ve.cmd = some c →
    ∃ k, Answers (.endProg p w) s (veKick (complete (withVe s p { (s.core p).ve with
        st := .idle, cmd := none, last := (s.core p).ve.stat, slotTaken := false, issued := (s.core p).ve.issued + 1 } k) c
      (veResult (s.core p).ve 0 false)) p))
  ∧ (∀ (p : Fin 256) (w : VeWaits) (s : State) (word : Nat) (c : CmdRef), veReady s p = true →
    (s.core p).ras.injVe = false → veWord s p = some word → veLegal word = false → (s.core p).ve.cmd = some c →
    ∃ k, Answers (.veIllegalInstruction p w) s (veKick (complete (withVe s p { (s.core p).ve with
        st := .stopped, cmd := none, last := (s.core p).ve.stat, slotTaken := false
        issued := (s.core p).ve.issued + 1 } k) c (veResult (s.core p).ve 0x14 false)) p))

/-! ### Queues and records -/

/-- R529, R530: an enable that the queue's fields and state allow sets the queue running, with its counts at zero, the
epoch from its control register and the group tick count from its origin; any other enable is ignored and recorded. A
disable of an enabled queue stops it, completes what has not started with QUEUE_STOPPED and lets it drain; the end of the
drain disables it, releases what cores hold for it, and sends the message of its stop vector.
The model's own readings here: log 17. -/
def Obligations.QueuesAreEnabledAndDisabled : Prop :=
  (∀ (f : Fin 9) (q : Fin 64) (s : State), served s = true → fnExists s f = true → ownsQueue s f q = true →
    enableOk s q = true →
    ∃ u, exec (.queueEnable f q) s = .next u ∧ (u.queue q).st = .running ∧ (u.queue q).fetched = 0
      ∧ (u.queue q).completed = 0 ∧ (u.queue q).sqTail = 0 ∧ (u.queue q).cqHead = 0 ∧ (u.queue q).recs = []
      ∧ (u.queue q).frame = none ∧ (u.queue q).epoch = bits (s.queue q).ctrl.toNat 15 0
      ∧ (u.queue q).gcount = (s.tick.last - (s.queue q).origin.toNat) / 2 ^ s.tick.sel
      ∧ (u.queue q).ctrl = (s.queue q).ctrl ∧ (u.queue q).ring = (s.queue q).ring ∧ (u.queue q).cring = (s.queue q).cring
      ∧ (∀ p, p ≠ q.val → u.queue p = s.queue p) ∧ u.mem = s.mem ∧ u.cores = s.cores ∧ u.fences = s.fences)
  ∧ (∀ (f : Fin 9) (q : Fin 64) (s : State), served s = true → fnExists s f = true → ownsQueue s f q = true →
    enableOk s q = false → exec (.queueEnable f q) s = .next (writeIgnored s (0x100 + q) 0x108))
  ∧ (∀ (f : Fin 9) (q : Fin 64) (s : State), served s = true → fnExists s f = true → ownsQueue s f q = true →
    (s.queue q).st ≠ .disabled → (s.queue q).draining = false → collPending s q = false →
    exec (.queueDisable f q) s = .next (failUnstarted
      (s.setQueue q { s.queue q with st := .stopped, stopCode := 0, draining := true }) q 0xA4))
  ∧ (∀ (q : Fin 64) (s : State), (s.queue q).draining = true → (s.queue q).frame = none →
    ∃ u, exec (.disableComplete q) s = .next u ∧ (u.queue q).st = .disabled ∧ (u.queue q).draining = false
      ∧ (u.queue q).recs = [] ∧ (∀ p, u.core p = (s.core p).release q) ∧ (∀ p, p ≠ q.val → u.queue p = s.queue p)
      ∧ u.mem = s.mem)

/-- R524, R533, R534: a doorbell write by the queue's function that moves forward within the ring takes effect; one by
another function is refused and recorded. -/
def Obligations.DoorbellsMoveForward : Prop :=
  (∀ (f : Fin 9) (q : Fin 64) (v : W64) (s : State), s.pst = .active → s.host.linkUp = true → fnExists s f = true →
    v.toNat < 2 ^ 32 → (s.queue q).func = f → (s.queue q).st = .running →
    (v.toNat + 2 ^ 32 - (s.queue q).sqTail.toNat) % 2 ^ 32 < 2 ^ 31 →
    (v.toNat + 2 ^ 32 - (s.queue q).cqHead.toNat) % 2 ^ 32 ≤ (s.queue q).size →
    exec (.sqTail f q v) s = .next (s.setQueue q { s.queue q with sqTail := BitVec.ofNat 32 v.toNat }))
  ∧ (∀ (f : Fin 9) (q : Fin 64) (v : W64) (s : State), s.pst = .active → s.host.linkUp = true → fnExists s f = true →
    v.toNat < 2 ^ 32 → (s.queue q).func = f → (s.queue q).st = .running →
    (v.toNat + 2 ^ 32 - (s.queue q).cqHead.toNat) % 2 ^ 32 < 2 ^ 31 →
    ((s.queue q).completed % 2 ^ 32 + 2 ^ 32 - v.toNat) % 2 ^ 32 < 2 ^ 31 →
    exec (.cqHead f q v) s = .next (s.setQueue q { s.queue q with cqHead := BitVec.ofNat 32 v.toNat }))
  ∧ (∀ (f : Fin 9) (q : Fin 64) (v : W64) (s : State), served s = true → fnExists s f = true → v.toNat < 2 ^ 32 →
    (s.queue q).func ≠ f → exec (.sqTail f q v) s = .next (foreignWrite s (0x100 + q) 0)
      ∧ exec (.cqHead f q v) s = .next (foreignWrite s (0x100 + q) 8))

/-- R192, R196, R235: a fetch of a running queue appends the next record of its ring, as memory holds it, and goes on
with those that follow; a record that cannot be read, or reads an uncorrectable error, stops the queue with RING_FAULT, and
what the read met of the error is recorded (R184).
The model's own readings here: log 17. -/
def Obligations.FetchAppendsTheNextRecord : Prop :=
  (∀ (q : Fin 64) (s : State) (k : Nat) (v : VRead), s.pst = .active → (s.queue q).st = .running →
    (s.queue q).fetchRoom = k + 1 → v = vread s (s.queue q).ctxNo ((s.queue q).recVa (s.queue q).fetched) 64 →
    v.fault = none → v.bad = false → (ofLE v.data).testBit 10 = true →
    ∃ u, exec (.commandFetch q) s = .next (sramSweep (forUp k (fun _ t => fetchOne t q) u))
      ∧ (u.queue q).recs = (s.queue q).recs ++
          [{ n := (s.queue q).fetched, word := BitVec.ofNat 512 (ofLE v.data), st := .fetched }]
      ∧ (u.queue q).fetched = (s.queue q).fetched + 1 ∧ (u.queue q).st = .running ∧ u.mem = s.mem
      ∧ u.cores = s.cores ∧ (∀ p, p ≠ q.val → u.queue p = s.queue p))
  ∧ (∀ (q : Fin 64) (s : State) (v : VRead) (k c va : Nat), s.pst = .active → (s.queue q).st = .running →
    (s.queue q).fetchRoom = k + 1 → c = (s.queue q).ctxNo → va = (s.queue q).recVa (s.queue q).fetched →
    v = vread s c va 64 → (v.fault ≠ none ∨ v.bad = true) →
    exec (.commandFetch q) s = .next (sramSweep (forUp k (fun _ t => fetchOne t q)
      (stopQueue (vdetect (vnote s c va 64 v.fault) c va 64) q 0x26))))

/-- R231 steps 1 to 4: a record that may start but fails a header check completes with the status of the first check it
fails, and its command does nothing else.
The model's own readings here: log 17. -/
def Obligations.HeaderChecksDecideTheStatus : Prop :=
  ∀ (c : Fin 64 → Nat → Instr) (q : Fin 64) (n : Nat) (s : State) (r : Rec), s.pst = .active →
    findRec s ⟨q, n⟩ = some r → mayStart (s.queue q) r = true → RecordRow c r → headerStatus s q r ≠ 0 →
    exec (c q n) s = .next (completeSt s ⟨q, n⟩ (headerStatus s q r))

/-- R235, R236: a completion that can be written puts the 32 bytes of its record at the next slot of the completion
ring, advances the queue's count of completions, and marks the record complete or closes its frame; every other byte of
memory and the state of the other units stay. -/
def Obligations.CompletionsArePosted : Prop :=
  ∀ (s : State) (c : CmdRef) (v : Cpl) (r : Rec) (a : Nat), findRec s c = some r → r.isDone = false →
    xlate s (s.queue c.q).ctxNo (ringSlot (s.queue c.q)) true = .pa a → (inHbm a || inCs a) = true → lateDie s a = false →
    PostFrame s (complete s c v) c.q
      ∧ (findRec (complete s c v) c = some { r with st := .done v.status } ∨ (complete s c v |>.queue c.q).frame = none)
      ∧ (complete s c v |>.queue c.q).completed = (s.queue c.q).completed + 1
      ∧ (∀ k, k < 32 → readByte (complete s c v) (a + k) = (toLE 32 (cplWord s c.q r v)).getD k 0)
      ∧ (∀ b, b < a ∨ a + 32 ≤ b → readByte (complete s c v) b = readByte s b)

/-- R198, R221, R229, R252: NOP completes; TICK_WAIT as the first of its frame completes with the start tick in RES1;
EPOCH with the next number makes it the queue's epoch and completes; HINT enters the list of hints and completes. A
reserved opcode is a header failure.
The model's own readings here: log 16 and 17. -/
def Obligations.ControlRecordsComplete : Prop :=
  (∀ (q : Fin 64) (n : Nat) (s : State) (r : Rec), Starts s q n r → r.opcode = 0 → r.zero 511 64 = true →
    exec (.nop q n) s = .next (completeSt s ⟨q, n⟩ 0))
  ∧ (∀ (q : Fin 64) (n : Nat) (s : State) (r : Rec) (f : Frame), Starts s q n r → r.opcode = 0x1C →
    r.zero 511 129 = true → (s.queue q).frame = some f → r.n = f.first → (r.b 128 = true → (s.queue q).groupEn = true) →
    exec (.tickWait q n) s = .next (complete s ⟨q, n⟩ { res1 := f.startTick }))
  ∧ (∀ (q : Fin 64) (n : Nat) (s : State) (r : Rec), Starts s q n r → r.opcode = 0x1D → r.zero 511 80 = true →
    r.f 79 64 = ((s.queue q).epoch + 1) % 65536 →
    exec (.epoch q n) s = .next (complete (s.setQueue q { s.queue q with epoch := r.f 79 64 }) ⟨q, n⟩ { res0 := r.f 79 64 }))
  ∧ (∀ (q : Fin 64) (n : Nat) (s : State) (r : Rec), Starts s q n r → r.opcode = 0x19 → r.zero 511 100 = true →
    r.f 83 68 ≤ partTdp s.partNo → r.f 67 64 < 7 →
    exec (.hint q n) s = .next (completeSt { s with pwr := { s.pwr with hints := s.pwr.hints ++
      [{ q := q, phase := r.f 67 64, load := r.f 83 68, ticks := r.f 99 84, left := r.f 99 84 }] } } ⟨q, n⟩ 0))

/-- R216 to R218: FENCE_SIGNAL with a token of this package raises the counter to the token's value where that is
greater, and completes with the counter in RES1; FENCE_WAIT completes once the counter has reached its value and else
waits in place. -/
def Obligations.FencesRaiseAndWait : Prop :=
  (∀ (q : Fin 64) (n : Nat) (s : State) (r : Rec) (k v : Nat), Starts s q n r → r.opcode = 0x1A → r.zero 511 128 = true →
    tokenDev (r.w 1) = devId s → k = tokenCtr (r.w 1) → v = tokenVal (r.w 1) →
    (s.fence k).owner = (s.queue q).part →
    exec (.fenceSignal q n) s = .next (complete (s.setFence k { s.fence k with
        val := BitVec.ofNat 38 (max (s.fence k).val.toNat v) }) ⟨q, n⟩ { res1 := max (s.fence k).val.toNat v }))
  ∧ (∀ (q : Fin 64) (n : Nat) (s : State) (r : Rec) (k : Nat), Starts s q n r → r.opcode = 0x1B → r.zero 511 128 = true →
    tokenDev (r.w 1) = devId s → k = tokenCtr (r.w 1) → (s.fence k).owner = (s.queue q).part →
    exec (.fenceWait q n) s = .next (
      if tokenVal (r.w 1) ≤ (s.fence k).val.toNat then complete s ⟨q, n⟩ { res1 := (s.fence k).val.toNat }
      else setRecSt s ⟨q, n⟩ .started))

/-- R252, R267: SCALE_CLEAR empties the named entries of the queue's partition and SCALE_RESCALE sets FORCE and clears
SCALE_SET of them, both whatever they hold; SCALE_STORE writes their images to the buffer, and SCALE_LOAD takes valid
images from it; each completes with its counts. -/
def Obligations.ScaleCommandsChangeTheirEntries : Prop :=
  (∀ (q : Fin 64) (n : Nat) (s : State) (r : Rec), Starts s q n r → r.opcode = 0x18 → r.sop = 0 →
    firstStatus (scaleChecks r) = 0 →
    ∃ u, exec (.scaleClear q n) s = .next (sramSweep (complete u ⟨q, n⟩ { res0 := r.f 100 84, res1 := r.f 100 84 }))
      ∧ Rescaled s u (s.queue q).part (r.f 83 68) (r.f 100 84) (fun _ _ => {}))
  ∧ (∀ (q : Fin 64) (n : Nat) (s : State) (r : Rec), Starts s q n r → r.opcode = 0x18 → r.sop = 3 →
    firstStatus (scaleChecks r) = 0 →
    ∃ u cold, exec (.scaleRescale q n) s = .next (sramSweep (complete u ⟨q, n⟩ { res0 := r.f 100 84, res1 := cold }))
      ∧ cold = ((upTo (r.f 100 84)).filter (fun k => decide ((s.entry (s.queue q).part (r.f 83 68 + k)).count < 16))).length
      ∧ Rescaled s u (s.queue q).part (r.f 83 68) (r.f 100 84) (fun _ e => { e with force := true, scaleSet := false }))
  ∧ (∀ (q : Fin 64) (n : Nat) (s : State) (r : Rec) (v : VRead), Starts s q n r → r.opcode = 0x18 → r.sop = 1 →
    firstStatus (scaleChecks r) = 0 → v = vread s (s.queue q).ctxNo (r.f 175 128) (128 * r.f 100 84) →
    v.fault = none → v.bad = false →
    (∀ k, k < r.f 100 84 → imageOk (ofLE ((v.data.drop (128 * k)).take 128)) = true) →
    ∃ u cold, exec (.scaleLoad q n) s = .next (sramSweep (complete u ⟨q, n⟩ { res0 := r.f 100 84, res1 := cold }))
      ∧ cold = coldCount u 1 (s.queue q).part (r.f 83 68) (r.f 100 84)
      ∧ Rescaled s u (s.queue q).part (r.f 83 68) (r.f 100 84) (fun k _ => entryOf (ofLE ((v.data.drop (128 * k)).take 128))))
  ∧ (∀ (q : Fin 64) (n : Nat) (s u : State) (r : Rec), Starts s q n r → r.opcode = 0x18 → r.sop = 2 →
    firstStatus (scaleChecks r) = 0 →
    (∀ k, k < r.f 100 84 → (s.entry (s.queue q).part (r.f 83 68 + k)).scaling = false) →
    vwriteFault s (s.queue q).ctxNo (r.f 175 128) (128 * r.f 100 84) = none →
    u = vnote s (s.queue q).ctxNo (r.f 175 128) (128 * r.f 100 84) none →
    exec (.scaleStore q n) s = .next (sramSweep (complete (vwrite u (s.queue q).ctxNo (r.f 175 128)
        (scaleImages u (s.queue q).part (r.f 83 68) (r.f 100 84)) false) ⟨q, n⟩
        { res0 := r.f 100 84, res1 := coldCount s 2 (s.queue q).part (r.f 83 68) (r.f 100 84) })))

/-- R239 to R245: a TILE, DRAIN, PEAT_FLUSH, VE_PROG, GATHER or PREFETCH that passes its checks waits in its core's
stream, last, and a free engine then takes its next command.
The model's own readings here: log 17. -/
def Obligations.CoreRecordsEnterTheirStream : Prop :=
  (∀ (q : Fin 64) (n : Nat) (s : State) (r : Rec), Starts s q n r → r.opcode = 1 → firstStatus (tileChecks s r) = 0 →
    ∃ u, exec (.tile q n) s = .next u ∧ (u.core r.coreNo).mxa.waiting = (s.core r.coreNo).mxa.waiting ++ [⟨q, n⟩]
      ∧ findRec u ⟨q, n⟩ = some { r with st := .waiting, at_ := s.tick.last }
      ∧ u.mem = s.mem ∧ (∀ p, p ≠ r.coreNo → u.core p = s.core p))
  ∧ (∀ c ∈ ([(Instr.drain, 2), (Instr.peatFlush, 3)] : List ((Fin 64 → Nat → Instr) × Nat)),
    ∀ (q : Fin 64) (n : Nat) (s : State) (r : Rec), Starts s q n r → r.opcode = c.2 → firstStatus (drainChecks s r) = 0 →
    ∃ u, exec (c.1 q n) s = .next u ∧ (u.core r.coreNo).mxa.waiting = (s.core r.coreNo).mxa.waiting ++ [⟨q, n⟩]
      ∧ findRec u ⟨q, n⟩ = some { r with st := .waiting, at_ := s.tick.last }
      ∧ u.mem = s.mem ∧ (∀ p, p ≠ r.coreNo → u.core p = s.core p))
  ∧ (∀ (q : Fin 64) (n : Nat) (s : State) (r : Rec), Starts s q n r → r.opcode = 4 → r.zero 511 384 = true →
    r.zero 127 87 = true → r.f 86 64 % 8 = 0 → r.f 86 64 < csSize →
    ∃ u, exec (.veProg q n) s = .next (veKick u r.coreNo)
      ∧ (u.core r.coreNo).ve = { (s.core r.coreNo).ve with waiting := (s.core r.coreNo).ve.waiting ++ [⟨q, n⟩] }
      ∧ findRec u ⟨q, n⟩ = some { r with st := .waiting } ∧ u.mem = s.mem ∧ (∀ p, p ≠ r.coreNo → u.core p = s.core p))
  ∧ (∀ c ∈ ([(Instr.gather, 8, false), (Instr.prefetch, 9, true)] : List ((Fin 64 → Nat → Instr) × Nat × Bool)),
    ∀ (q : Fin 64) (n : Nat) (s : State) (r : Rec), Starts s q n r → r.opcode = c.2.1 → heronFields r c.2.2 = false →
      (r.hMode = 2 → capOk s 11 = true) → heronExtents r c.2.2 = false →
      ∃ u e, exec (c.1 q n) s = .next (heronKick u r.coreNo e) ∧ e = heronPlace s r
        ∧ (u.heng r.coreNo e).waiting = (s.heng r.coreNo e).waiting ++ [⟨q, n⟩]
        ∧ findRec u ⟨q, n⟩ = some { r with st := .waiting } ∧ u.mem = s.mem ∧ (∀ p, p ≠ r.coreNo → u.core p = s.core p))

/-- R211, R231: a COLLECTIVE or an UPDATE that passes its checks waits in the hub's stream, last; the engine then starts
what it can.
The model's own readings here: log 17 and 26 and 27. -/
def Obligations.HubRecordsEnterTheirStream : Prop :=
  (∀ (c : Fin 64 → Nat → Instr) (op : Nat) (q : Fin 64) (n : Nat) (s : State) (r : Rec), CollRow c op → Starts s q n r →
    r.opcode = 0x10 → r.cOp = op → firstStatus (collChecks s q r) = 0 →
    ∃ u, exec (c q n) s = .next (collKick u) ∧ u.hubq.coll = s.hubq.coll ++ [⟨q, n⟩]
      ∧ findRec u ⟨q, n⟩ = some { r with st := .waiting, at_ := s.tick.last }
      ∧ u.mem = s.mem ∧ u.cores = s.cores ∧ u.ce = s.ce ∧ u.fab = s.fab)
  ∧ (∀ (q : Fin 64) (n : Nat) (s : State) (r : Rec), Starts s q n r → r.opcode = 0x11 → updChecks s ⟨q, n⟩ r = 0 →
    ∃ u, exec (.update q n) s = .next u ∧ u.hubq.upd = s.hubq.upd ++ [⟨q, n⟩]
      ∧ findRec u ⟨q, n⟩ = some { r with st := .waiting, at_ := s.tick.last }
      ∧ u.mem = s.mem ∧ u.cores = s.cores ∧ u.ce = s.ce ∧ u.fab = s.fab)

/-! ### Addresses, numbers and shares -/

/-- R22, R149: the home die and stack of an HBM address; an access beyond the first 6 MiB of a core-store window is refused
with CS_RANGE, and one to the window of a core that is not enabled with CORE_FENCED. -/
def Obligations.AddressesHaveTheirTargets : Prop :=
  (∀ a, a < 0x20000000000 → homeDie a = a >>> 39 ∧ homeStack a = 8 * (a >>> 39) + ((a >>> 12) &&& 7))
  ∧ (∀ (p : Fin 256) (o : Nat) (s : State), 6291456 ≤ o → o < 8388608 → paStatus s (csAddr p o) = some 0x22)
  ∧ (∀ (p : Fin 256) (o : Nat) (s : State), o < 6291456 →
      paStatus s (csAddr p o) = if s.agt.enabled.getLsbD p then none else some 0xA0)

/-- R45, R49, R56: a conversion between floating-point types keeps the sign of zero, reads every NaN alike, a poisoned
container among them, and produces no NaN but the target's canonical one, with the sign bit clear; integer targets and
those that cannot express Inf or NaN saturate to their range whatever NOV holds. -/
def Obligations.ConversionsKeepZeroCanonizeNanAndSaturate : Prop :=
  (∀ (src dst : Sty) (p q : Flt) (neg nov : Bool) (r : Rnd), fltOf src = some p → fltOf dst = some q → src ≠ dst →
    (convertS src dst (if neg then 2 ^ (p.eb + p.mb) else 0) r nov).bits = (if neg then 2 ^ (q.eb + q.mb) else 0))
  ∧ (∀ (src dst : Sty) (x y : Nat) (r : Rnd) (nov : Bool), src ≠ dst → decodeS src x = .nan → decodeS src y = .nan →
    convertS src dst x r nov = convertS src dst y r nov)
  ∧ (∀ (dst : Sty) (q : Flt) (v : Val) (r : Rnd) (nov : Bool), fltOf dst = some q →
    decodeS dst (encodeS dst v r nov).bits = .nan →
    (encodeS dst v r nov).bits = nanBits q ∧ (nanBits q).testBit (q.eb + q.mb) = false)
  ∧ (∀ x : Nat, x.testBit 39 = true → decodeS .acc35 x = .nan)
  ∧ (∀ (t : Sty) (v : Val) (r : Rnd), (fltOf t = none ∨ t = .e3m2 ∨ t = .e2m3 ∨ t = .e2m1) →
    encodeS t v r true = encodeS t v r false)
  ∧ (∀ (t : Sty) (w : Nat) (lo hi : Int) (r : Rnd) (nov neg : Bool) (m : Nat) (e : Int), fltOf t = none →
    w = styBits t → hi = 2 ^ (w - 1) - 1 → lo = (if t = .mxi8 then -hi else -hi - 1) →
    sext w (encodeS t (.fin neg m e) r nov).bits = max lo (min hi (signed neg (roundAt r m e (intOf t).2)))
      ∧ sext w (encodeS t (.inf neg) r nov).bits = (if neg then lo else hi))
  ∧ (∀ (t : Sty) (q : Flt) (r : Rnd) (nov neg : Bool) (m : Nat) (e : Int), (t = .e3m2 ∨ t = .e2m3 ∨ t = .e2m1) →
    fltOf t = some q → dyLt (fltMax q).1 (fltMax q).2 (roundAt r m e (quantum q m e)) (quantum q m e) = true →
    (encodeS t (.fin neg m e) r nov).bits = (encodeS t (.inf neg) r nov).bits
      ∧ decodeS t (encodeS t (.inf neg) r nov).bits = .fin neg (fltMax q).1 (fltMax q).2)

/-- R401: the shares of a collective without RAGGED, and the lead flit that every pair exchanges however short its
contribution. -/
def Obligations.EvenSharesFollowTheirRule : Prop :=
  (∀ (s : State) (c : CmdRef) (r : Rec) (n self k : Nat), r.cRagged = false → k < n →
    (collShares s c r n self).st = 0 ∧ (collShares s c r n self).shares.length = n
      ∧ (r.cOp ≠ 2 → r.cOp ≠ 6 → (collShares s c r n self).shares.getD k 0 = r.cCount)
      ∧ (r.cOp = 4 → (collShares s c r n self).recvN.getD k 0 = r.cCount)
      ∧ (r.cOp = 2 ∨ r.cOp = 6 → (((collShares s c r n self).shares.getD k 0 : Nat) : Int)
          = min ((64 * ceilDiv r.cCount (64 * n) : Nat) : Int)
              (max 0 ((r.cCount : Int) - k * (64 * ceilDiv r.cCount (64 * n) : Nat)))))
  ∧ (∀ (r : Rec) (c : Coll) (version : Nat),
    (collPairs r c version).sends.map (fun x => x.dst) = c.dests r
      ∧ ∀ i ∈ c.sources r, ∃ y ∈ (collPairs r c version).recvs, y.src = i)
  ∧ (∀ bytes : Nat, 0 < flitCount bytes) ∧ (∀ x : SendC, x.total ≤ x.data.length → 0 < x.ready)

/-! ### The event log and management -/

/-- R497 to R500: an entry that arrives enters the ring under the next SEQ with the epoch in force; a critical one also
enters the persistence queue, raises the LOG cause and asserts alert_n; beyond 16 of a CODE and INSTANCE within 1 s an
entry is only counted. The end of a window logs what it suppressed; the persistence queue goes to flash newest first;
LOG_READ and LOG_FLASH_READ answer up to 16 entries.
The model's own readings here: log 8. -/
def Obligations.LogEntriesAreStored : Prop :=
  (∀ (code : Fin 65536) (inst : Fin 256) (src : Fin 16) (sev : Fin 4) (ctrl : Bool) (args : List W64) (s : State),
    s.pst ≠ .off → code.val ≠ 0 → (sev.val = 3 ∨ s.log.wins.find? (fun w => w.code == code.val && w.inst == inst.val) = none) →
    ∃ u x, exec (.logEntry code inst src sev ctrl args) s = .next u ∧ SameUnits s u
      ∧ u.log.ring = (x :: s.log.ring).take 16384 ∧ u.log.seq = s.log.seq + 1
      ∧ x.ev = { code := code, inst := inst, src := src, sev := sev, ctrl := ctrl, args := args.map BitVec.toNat }
      ∧ x.seq = s.log.seq + 1 ∧ x.auth = s.bit.key.epoch ∧ x.uptime = s.uptime / 1000
      ∧ x.tick = (if s.pst = .active then s.tick.last % 2 ^ 32 else 0)
      ∧ (sev.val = 3 → u.host.irqStat.getLsbD 6 = true ∧ u.bit.alertUntil = some (s.uptime + 10000000)
          ∧ (s.log.persist.length < 256 → u.log.persist = s.log.persist ++ [x] ∧ u.log.lost = s.log.lost)
          ∧ (256 ≤ s.log.persist.length → u.log.persist = s.log.persist ∧ u.log.lost = s.log.lost + 1))
      ∧ (sev.val ≠ 3 → u.log.persist = s.log.persist ∧ u.host = s.host
          ∧ u.log.wins = s.log.wins ++ [⟨code, inst, s.uptime, 1⟩]))
  ∧ (∀ (code : Fin 65536) (inst : Fin 256) (src : Fin 16) (sev : Fin 4) (ctrl : Bool) (args : List W64) (s : State) (w : LogWin),
    s.pst ≠ .off → code.val ≠ 0 → sev.val ≠ 3 →
    s.log.wins.find? (fun w => w.code == code.val && w.inst == inst.val) = some w →
    s.uptime < w.start + 1000000000 → 16 ≤ w.count →
    exec (.logEntry code inst src sev ctrl args) s = .next { s with log := { s.log with wins := s.log.wins.map (fun v =>
      if v.code == code.val && v.inst == inst.val then { v with count := v.count + 1 } else v) } })
  ∧ (∀ (code : Fin 65536) (inst : Fin 256) (s : State) (w : LogWin),
    s.log.wins.find? (fun w => w.code == code.val && w.inst == inst.val) = some w →
    ∃ u, exec (.logSuppressWindow code inst) s = .next u ∧ SameUnits s u
      ∧ u.log.wins = s.log.wins.filter (fun v => v != w)
      ∧ (w.count ≤ 16 → u.log.ring = s.log.ring)
      ∧ (16 < w.count → ∃ x, u.log.ring = (x :: s.log.ring).take 16384
          ∧ x.ev = { code := 0x15, src := 0, sev := 0, args := [w.code, w.inst, w.count - 16] }))
  ∧ (∀ s : State, acting s ≠ none → exec .logPersist s = .next { s with log := { s.log with
      flash := (s.log.persist.reverse.map (fun e => (e, s.bit.boots)) ++ s.log.flash).take 1024, persist := [] } })
  ∧ (∀ (m : Medium) (seq n : Nat) (s : State), answersAny s m = true → n ≤ 16 →
    exec (.logRead m seq n) s = .next { s with reply := some ⟨0, (s.log.ring.reverse.filter (fun e =>
      decide (seq ≤ e.seq) && decide (e.seq < seq + n))).flatMap LogEntry.bytes⟩ })
  ∧ (∀ (m : Medium) (place n : Nat) (s : State), answers s m = true → n ≤ 16 →
    exec (.logFlashRead m place n) s = .next { s with reply := some ⟨0,
      ((s.log.flash.drop place).take n).flatMap (fun e => e.1.flashBytes e.2)⟩ })

/-- R492 to R495: a controller that boots takes its place; BMB claims when no claim came within 1 s; a standby
controller claims on a lost heartbeat; an expired watchdog resets a controller, and the standby one claims when it was
acting; a handover makes the standby controller the acting one and the other standby; a management write with a key that is not stale makes it
the key of its block.
The model's own readings here: log 7. -/
def Obligations.AuthorityPassesByClaims : Prop :=
  (∀ (c selfTest : Bool) (s : State) (k : Nat), s.pst ≠ .off → (s.ctl c).st = .resetting →
    ([s.bit.primary, 1 - s.bit.primary] : List Nat).find? (fun k => bootCheck s k == 0) = some k →
    (s.slot k).st ≠ .trial → s.bit.trial ≠ some k → (s.bit.claimedOnce = true ∨ c = true) →
    ∃ u, exec (.controllerBoot c selfTest) s = .next u ∧ SameUnits s u ∧ (u.ctl c).st = .standby
      ∧ (u.ctl c).slot = some k ∧ (u.ctl c).seen = max (s.ctl c).seen s.bit.key.epoch ∧ u.ctl (!c) = s.ctl (!c)
      ∧ u.bit.key = s.bit.key)
  ∧ (∀ (c selfTest : Bool) (s : State), s.pst ≠ .off → (s.ctl c).st = .resetting →
    ([s.bit.primary, 1 - s.bit.primary] : List Nat).find? (fun k => bootCheck s k == 0) = none →
    ∃ u, exec (.controllerBoot c selfTest) s = .next u ∧ SameUnits s u ∧ (u.ctl c).st = .recovery
      ∧ (u.ctl c).slot = none ∧ u.ctl (!c) = s.ctl (!c) ∧ u.bit.key = s.bit.key)
  ∧ (∀ s : State, s.pst ≠ .off → s.bit.claimedOnce = false → s.bit.bmb.st = .standby → ClaimOk s true →
    ∃ u, exec .initialClaimTimeout s = .next u ∧ Claimed s u true)
  ∧ (∀ (c : Bool) (s : State), s.pst ≠ .off → s.bit.claimedOnce = true → (s.ctl c).st = .standby → ClaimOk s c →
    ∃ u, exec (.heartbeatTimeout c) s = .next u ∧ Claimed s u c)
  ∧ (∀ (c : Bool) (s : State), s.pst ≠ .off → (s.ctl c).st ≠ .resetting → (s.ctl c).st ≠ .acting →
    (∀ k, (s.ctl c).slot = some k → s.bit.trial ≠ some k) →
    exec (.watchdogExpiry c) s = .next (s.setCtl c { seen := (s.ctl c).seen }))
  ∧ (∀ (c : Bool) (s t : State), s.pst ≠ .off → (s.ctl c).st = .acting → (s.ctl (!c)).st = .standby →
    (∀ k, (s.ctl c).slot = some k → s.bit.trial ≠ some k) → max (s.ctl (!c)).seen s.bit.key.epoch < 0xFFFFFFFF →
    t = (s.setCtl c { seen := (s.ctl c).seen }).setCtl (!c)
      { s.ctl (!c) with seen := max (s.ctl (!c)).seen s.bit.key.epoch } →
    ∃ u, exec (.watchdogExpiry c) s = .next u ∧ Claimed t u (!c))
  ∧ (∀ (a b : Bool) (s t : State), acting s = some a → standbyCtl s = some b →
    max (s.ctl b).seen s.bit.key.epoch < 0xFFFFFFFF →
    t = (s.setCtl a { s.ctl a with
        st := .standby, seen := max (s.ctl a).seen (max (s.ctl b).seen s.bit.key.epoch + 1) }).setCtl b
      { s.ctl b with seen := max (s.ctl b).seen s.bit.key.epoch } →
    (served s = true → ∃ u, exec .handover s = .next u ∧ Claimed t u b)
      ∧ (∀ m : Medium, answers s m = true → (∀ k, (s.ctl a).slot = some k → s.bit.trial ≠ some k) →
          ∃ u, exec (.omcHandover m) s = .next { u with reply := some ⟨0, []⟩ } ∧ Claimed t u b))
  ∧ (∀ (block : Nat) (c : Bool) (s : State), s.pst ≠ .off → (s.ctl c).st = .acting →
    exec (.managementWrite block c) s = .next (
      if AuthKey.below ⟨(s.ctl c).claim, c⟩ s.bit.key then staleKey s block ⟨(s.ctl c).claim, c⟩
      else { s with bit := { s.bit with key := ⟨(s.ctl c).claim, c⟩ } }))

/-- R505 to R508: an update takes the slot that no controller runs, its image becomes VALID when it passes the boot
checks and else the slot is emptied, activation makes it TRIAL and PRIMARY and resets the controller that is to boot it,
the end of the trial or FW_COMMIT confirms it, and SVN_COMMIT raises SVN_MIN to the confirmed image's, never lowering
it.
The model's own readings here: log 9. -/
def Obligations.FirmwareIsUpdatedInSteps : Prop :=
  (∀ (m : Medium) (i : ImageFacts) (s : State) (k : Nat), answersAny s m = true → updateOpen s = true →
    s.bit.xfer = none → s.bit.trial = none → idleSlot s = some k →
    exec (.requestUpdate m i) s = .next { (s.setSlot k { img := i }) with
      bit := { (s.setSlot k { img := i }).bit with xfer := some k, verified := false }, reply := some ⟨0, []⟩ })
  ∧ (∀ (m : Medium) (s : State) (k : Nat), answersAny s m = true → k < 2 → s.bit.xfer = some k →
    imageCheck s (s.slot k).img = 0 →
    ∃ u, exec (.firmwareVerify m) s = .next u ∧ SameUnits s u ∧ u.bit.xfer = none ∧ u.bit.verified = true
      ∧ u.slot k = { s.slot k with st := .valid } ∧ u.slot (1 - k) = s.slot (1 - k) ∧ u.reply = some ⟨0, []⟩)
  ∧ (∀ (m : Medium) (s : State) (k : Nat), answersAny s m = true → k < 2 → s.bit.xfer = some k →
    imageCheck s (s.slot k).img ≠ 0 →
    ∃ u, exec (.firmwareVerify m) s = .next u ∧ SameUnits s u ∧ u.bit.xfer = none ∧ u.bit.verified = s.bit.verified
      ∧ u.slot k = {} ∧ u.slot (1 - k) = s.slot (1 - k) ∧ u.reply = some ⟨1, []⟩)
  ∧ (∀ (m : Medium) (s : State) (k : Nat) (c : Bool), answersAny s m = true → updateOpen s = true →
    s.bit.verified = true → s.bit.trial = none → idleSlot s = some k → (s.slot k).st = .valid →
    (standbyCtl s = some c ∨ (standbyCtl s = none ∧ acting s = some c)) →
    ∃ u, exec (.activateFirmware m) s = .next u ∧ SameUnits s u ∧ u.bit.trial = some k ∧ u.bit.primary = k
      ∧ u.slot k = { s.slot k with st := .trial } ∧ (u.ctl c).st = .resetting ∧ (u.ctl c).seen = (s.ctl c).seen
      ∧ u.ctl (!c) = s.ctl (!c) ∧ u.reply = some ⟨0, []⟩)
  ∧ (∀ (s : State) (k : Nat) (a : Bool), k < 2 → s.bit.trial = some k → acting s = some a → (s.ctl a).slot = some k →
    (∃ u, exec .trialTimeout s = .next u ∧ SameUnits s u ∧ u.bit.trial = none ∧ (u.slot k).st = .confirmed
      ∧ (u.slot (1 - k)).st = .valid ∧ (u.slot k).img = (s.slot k).img ∧ (u.ctl a).st = (s.ctl a).st)
    ∧ (∀ m : Medium, answers s m = true → ∃ u, exec (.fwCommit m) s = .next u ∧ SameUnits s u ∧ u.bit.trial = none
        ∧ (u.slot k).st = .confirmed ∧ (u.slot (1 - k)).st = .valid ∧ (u.slot k).img = (s.slot k).img
        ∧ (u.ctl a).st = (s.ctl a).st ∧ u.reply = some ⟨0, []⟩))
  ∧ (∀ (m : Medium) (s : State) (k : Nat), answers s m = true → m ≠ .ethernet → confirmedSlot s = some k →
    ∃ u, exec (.svnCommit m) s = .next u ∧ SameUnits s u ∧ u.bit.svnMin = max s.bit.svnMin (s.slot k).img.svn
      ∧ u.reply = some ⟨0, []⟩ ∧ u.bit.slot0 = s.bit.slot0 ∧ u.bit.slot1 = s.bit.slot1 ∧ u.bit.key = s.bit.key)

/-- R496, R509 to R514: the acting controller answers: GET_STATE with PWR.STAT, BRING.STAT and BMGT.STAT, READ_REG with
a register of the pages BRING, PWR, BMGT and LOG, ETH_CFG over I3C by taking the settings, a sensor read with its last
sample, MCTP control with the endpoint identifier, and SPDM requests in their order; a datagram of a peer outside the
allow-list is only counted. What the device's keys give is free; its length is not.
The model's own readings here: log 8. -/
def Obligations.ManagementRequestsAreAnswered : Prop :=
  (∀ (m : Medium) (s : State), answersAny s m = true → exec (.getState m) s = .next { s with
    reply := some ⟨0, toLE 8 (readPwrStat s) ++ toLE 8 (readBringStat s) ++ toLE 8 (readBmgtStat s)⟩ })
  ∧ (∀ (m : Medium) (pg o : Nat) (s : State), answers s m = true → 2 ≤ pg → pg ≤ 5 → o < 4096 → o % 8 = 0 →
    exec (.readReg m pg o) s = .next { s with reply := some ⟨0, toLE 8 (regGet s 0 pg o)⟩ })
  ∧ (∀ (enable dhcp : Bool) (addr mask gateway : W32) (allow : List W32) (s : State), answers s .i3c = true →
    allow.length ≤ 4 → exec (.ethCfg .i3c enable dhcp addr mask gateway allow) s = .next { s with
      bit := { s.bit with eth := ⟨enable, dhcp, addr, mask, gateway, allow⟩ }, reply := some ⟨0, []⟩ })
  ∧ (∀ (peer : W32) (s : State), s.pst ≠ .off → s.bit.eth.enable = true →
    exec (.ethDatagram peer) s = .next (if s.bit.eth.allow.contains peer then s else bmgtCtr s 0x128 1))
  ∧ (∀ (m : Medium) (id : Nat) (v : Int) (s : State), answers s m = true → sensorKnown id = true →
    sensorLost s id = false → id ≠ 0x710 → id ≠ 0x44E → s.bit.sensors.find? (fun e => e.1 == id) = some (id, v) →
    exec (.getSensorReading m id) s = .next { s with reply := some ⟨0, toLE 4 (toBits 32 v)⟩ })
  ∧ (∀ (m : Medium) (e : Byte) (s : State), answersAny s m = true →
    exec (.mctpControl m (some e)) s = .next { s with
      bit := { s.bit with eid := tabSet s.bit.eid (mediumNo m) e }, reply := some ⟨0, [e]⟩ }
    ∧ exec (.mctpControl m none) s = .next { s with reply := some ⟨0, [tabGet s.bit.eid 0 (mediumNo m)]⟩ })
  ∧ (∀ (m : Medium) (s : State), answers s m = true →
    exec (.getVersion m) s = .next { s with
        bit := { s.bit with spdm := tabSet s.bit.spdm (mediumNo m) .version }, reply := some ⟨0, [0x13]⟩ }
    ∧ (spdmAt s m ≠ .none → exec (.getCapabilities m) s = .next { s with
        bit := { s.bit with spdm := tabSet s.bit.spdm (mediumNo m) .capabilities }, reply := some ⟨0, []⟩ })
    ∧ ((spdmAt s m = .capabilities ∨ spdmAt s m = .negotiated) → exec (.negotiateAlgorithms m true true) s = .next { s with
        bit := { s.bit with spdm := tabSet s.bit.spdm (mediumNo m) .negotiated }, reply := some ⟨0, []⟩ })
    ∧ (spdmAt s m = .negotiated → ∀ (n index : Nat) (signed : Bool), 1 ≤ index → index ≤ 6 →
        (∃ d, d.length = 48 ∧ exec (.getDigests m) s = .next { s with freeN := s.freeN + 48, reply := some ⟨0, d⟩ })
        ∧ (∃ d, d.length = n ∧ exec (.getCertificate m 0 n) s = .next { s with freeN := s.freeN + n, reply := some ⟨0, d⟩ })
        ∧ (∃ d, d.length = 96 ∧ exec (.challenge m 0) s = .next { s with freeN := s.freeN + 96, reply := some ⟨0, d⟩ })
        ∧ (∃ d k, d.length = 48 + (if signed then 96 else 0) ∧ s.freeN ≤ k ∧ exec (.getMeasurements m index signed) s =
            .next { s with freeN := k, reply := some ⟨0, d⟩ })))

/-- R513, R563, R564: a bus held low is isolated and logged, and rejoins; an isolated laser bus makes each of its eight
engines log LASER_ALARM, and a laser interrupt over a bus in use logs the feed and its flags. An edge at the test port in
use moves the access port along the diagram of IEEE 1149.1 by tms, the data register shifts one bit from tdi to tdo, the
instruction register likewise, Test-Logic-Reset selects IDCODE; an edge at the other port has no effect, a reset restores
the port, and a private instruction of an open port is refused (its effect is the manufacturer's).
The model's own readings here: log 6. -/
def Obligations.BusesRejoinAndTapFollowsItsDiagram : Prop :=
  (
    (∀ (scl sda : Bool) (s : State), s.pst ≠ .off → s.bit.i3cIsolated = false → (scl = true ∨ sda = true) →
      ∃ u, exec (.i3cIsolate scl sda) s = .next u ∧ u = logAdd { s with bit := { s.bit with i3cIsolated := true } }
        { code := 0x14, src := 0, sev := 1, args := [b2n scl + 2 * b2n sda] } ∧ u.bit.i3cIsolated = true ∧ SameUnits s u)
    ∧ (∀ s : State, s.bit.i3cIsolated = true →
      ∃ u, exec .i3cRejoin s = .next u ∧ u = logAdd { s with bit := { s.bit with i3cIsolated := false } }
        { code := 0x14, src := 0, sev := 1, args := [0, 1] } ∧ u.bit.i3cIsolated = false ∧ SameUnits s u)
    ∧ (∀ (b : Fin 2) (s : State), s.pst ≠ .off → s.bit.lsmIsolated.getLsbD b = false →
      ∃ u, exec (.lsmIsolate b) s = .next u ∧ u = forUp 8 (fun k t => logAdd t
          { code := 0x53, inst := 8 * b + k, src := 5, sev := 1, args := [0, 0xFFFFFFFF] })
          { s with bit := { s.bit with lsmIsolated := s.bit.lsmIsolated ||| BitVec.ofNat 2 (2 ^ b.val) } }
        ∧ u.bit.lsmIsolated.getLsbD b = true ∧ SameUnits s u
        ∧ (∀ c : Fin 2, c ≠ b → u.bit.lsmIsolated.getLsbD c = s.bit.lsmIsolated.getLsbD c))
    ∧ (∀ (b : Fin 2) (s : State), ∃ u, exec (.lsmRejoin b) s = .next u ∧ u.bit.lsmIsolated.getLsbD b = false
        ∧ (∀ c : Fin 2, c ≠ b → u.bit.lsmIsolated.getLsbD c = s.bit.lsmIsolated.getLsbD c)
        ∧ u = { s with bit := { s.bit with lsmIsolated := u.bit.lsmIsolated } })
    ∧ (∀ (e : Fin 16) (feed : Fin 4) (flags : W32) (s : State), acting s ≠ none →
      s.bit.lsmIsolated.getLsbD (e.val / 8) = false →
      exec (.lsmInterrupt e feed flags) s = .next (logAdd s
        { code := 0x53, inst := e, src := 5, sev := 1, args := [feed, flags.toNat] })))
  ∧ (
    (∀ (seven tms tdi : Bool) (s : State), s.pst ≠ .off → (s.bit.tapPort = 0 ∨ s.bit.tapPort = (if seven then 2 else 1)) →
      ¬(tapServed s s.bit.tap.ir = .priv ∧ s.bit.tap.st = .capDr) →
      ∃ u, exec (.tapClock seven tms tdi false) s = .next u ∧ SameUnits s u ∧ u.bit.tapPort = (if seven then 2 else 1) ∧ u.bit.tap.st = tapNext s.bit.tap.st tms
        ∧ (tapNext s.bit.tap.st tms = .tlr → u.bit.tap.ir = .idcode)
        ∧ (s.bit.tap.st = .shDr → u.bit.tap.dr = s.bit.tap.dr.drop 1 ++ [tdi] ∧ u.bit.tap.tdo = s.bit.tap.dr.headD tdi
            ∧ u.bit.tap.irShift = s.bit.tap.irShift)
        ∧ (s.bit.tap.st = .shIr → u.bit.tap.irShift = s.bit.tap.irShift.drop 1 ++ [tdi]
            ∧ u.bit.tap.tdo = s.bit.tap.irShift.headD tdi ∧ u.bit.tap.dr = s.bit.tap.dr)
        ∧ (s.bit.tap.st = .capDr → s.bit.tap.ir = .idcode →
            u.bit.tap.dr = (upTo 32).map (fun i => (tapIdcode s.fuse.ka.stepping).testBit i)))
    ∧ (∀ (seven tms tdi trst : Bool) (s : State), s.bit.tapPort ≠ 0 → s.bit.tapPort ≠ (if seven then 2 else 1) →
      exec (.tapClock seven tms tdi trst) s = .next s)
    ∧ (∀ (seven tms tdi : Bool) (s : State), s.pst ≠ .off → (s.bit.tapPort = 0 ∨ s.bit.tapPort = (if seven then 2 else 1)) →
      exec (.tapClock seven tms tdi true) s = .next { s with
        bit := { s.bit with tapPort := if seven then 2 else 1, tap := {} } })
    ∧ (∀ (seven tms tdi : Bool) (s : State), s.pst ≠ .off → s.bit.tapPort = (if seven then 2 else 1) →
      s.bit.tap.ir = .priv → s.bit.dbgEn = true → s.bit.tap.st = .capDr →
      exec (.tapClock seven tms tdi false) s = .refused .privateTest))

/-! ### Power, protection and the package states -/

/-- R450 to R454, R458: VIN brings an Off package to Standby with both controllers in reset, and its loss takes a
package without rails to Off; REQ 1 closes the ports and Dormant follows with the core stores cleared, the scale entries
written back and the rest of HBM kept; REQ 2 wakes a Dormant package, Active 3.0 ms later; REQ 3 takes a Dormant package to
Standby at once and drains an Active one, whose end leaves Standby; SET_STATE starts the power-on sequence in Standby and
clears a trip whose conditions hold.
The model's own readings here: log 3 and 16. -/
def Obligations.PackageStatesFollowTheirRequests : Prop :=
  (∀ (mv : Int) (slew : Fin 4) (dbg : Bool) (s : State), s.pst = .off → 36000 ≤ mv → mv ≤ 44000 →
    ∃ u, exec (.vinApplied mv slew dbg) s = .next u ∧ u.pst = .standby ∧ u.bit.boots = s.bit.boots + 1
      ∧ u.bit.bma = {} ∧ u.bit.bmb = {} ∧ u.bit.key = {} ∧ u.bit.dbgEn = dbg ∧ u.bit.slot0 = s.bit.slot0
      ∧ u.bit.slot1 = s.bit.slot1 ∧ u.bit.svnMin = s.bit.svnMin ∧ u.fuse = s.fuse ∧ u.pwr.vin10 = mv.toNat / 10
      ∧ u.mem = [] ∧ u.cores = [] ∧ u.queues = [] ∧ u.log.ring = [] ∧ u.log.flash = s.log.flash)
  ∧ (∀ s : State, (s.pst = .standby ∨ s.pst = .tripped) →
    ∃ u, exec .vinRemoved s = .next u ∧ u.pst = .off ∧ u.bit.boots = s.bit.boots ∧ u.bit.slot0 = s.bit.slot0
      ∧ u.bit.slot1 = s.bit.slot1 ∧ u.bit.svnMin = s.bit.svnMin ∧ u.fuse = s.fuse ∧ u.mem = [] ∧ u.cores = []
      ∧ u.queues = [] ∧ u.log.flash = s.log.flash)
  ∧ (∀ s : State, s.host.linkUp = true → s.pst = .active → s.pwr.entering = false → s.pwr.exiting = false →
    anyReset s = false → s.queues.any (fun e => e.2.st != .disabled) = false →
    ∃ u, exec .dormantRequest s = .next u ∧ u.pwr.entering = true ∧ u.pst = .active
      ∧ (∀ k, k < 64 → (u.port k).st ≠ .up ∧ (u.port k).st ≠ .training) ∧ u.mem = s.mem ∧ u.queues = s.queues
      ∧ u.cores = s.cores)
  ∧ (∀ s : State, s.pwr.entering = true →
    ∃ u, exec .dormantEntryComplete s = .next u ∧ u.pst = .dormant ∧ u.pwr.entering = false
      ∧ u.pwr.waking = s.pwr.wakeWait ∧ u.dir = [] ∧ u.dies = [] ∧ u.fab = s.fab
      ∧ (∀ a, readByte u a = if inCs a then 0 else readByte (scaleWriteBack s s.numx.dirty) a))
  ∧ (∀ s : State, s.host.linkUp = true → s.pst = .dormant →
    exec .wakeRequest s = .next { s with pwr := { s.pwr with waking := true } }
      ∧ ∃ u, exec .standbyRequest s = .next u ∧ u.pst = .standby ∧ RailsOff s u)
  ∧ (∀ s : State, s.pst = .dormant → s.pwr.waking = true →
    ∃ u, exec .wakeComplete s = .next u ∧ u.pst = .active ∧ u.pwr.waking = false ∧ u.uptime = s.uptime + 3000000
      ∧ u.pwr.phaseMem = [] ∧ u.host.irqStat.getLsbD 3 = true ∧ u.mem = s.mem ∧ u.cores = s.cores
      ∧ u.queues = s.queues)
  ∧ (∀ s : State, s.host.linkUp = true → s.pst = .active → s.pwr.entering = false → s.pwr.exiting = false →
    (∀ q, q < 64 → ((s.queue q).groupEn && (s.queue q).st == .running) = false) →
    exec .standbyRequest s = .next { s with pwr := { s.pwr with exiting := true } })
  ∧ (∀ s : State, s.pst = .active → s.pwr.exiting = true →
    ∃ u, exec .standbyDrainTimeout s = .next u ∧ u.pst = .standby ∧ u.mem = [] ∧ u.queues = [] ∧ u.fab = {}
      ∧ (∀ p, (u.core p).mxa = {} ∧ (u.core p).ve = {}) ∧ u.fuse = s.fuse ∧ u.bit.key = s.bit.key)
  ∧ (∀ (m : Medium) (x : SeqInput) (unmet : Fin 4) (s : State), answers s m = true → m ≠ .pcie → s.pst = .standby →
    s.bring.run = false →
    exec (.setState m 2 x unmet) s = .next { (runSequence s x) with reply := some ⟨0, []⟩ })
  ∧ (∀ (m : Medium) (x : SeqInput) (s : State), answers s m = true → m ≠ .pcie → s.pst = .tripped →
    (∃ u, exec (.setState m 1 x 0) s = .next u ∧ u.pst = .standby ∧ u.reply = some ⟨0, []⟩ ∧ RailsOff s u)
    ∧ ∀ c : Fin 4, c ≠ 0 → ∃ u, exec (.setState m 1 x c) s = .next u ∧ u.pst = .tripped ∧ u.reply = some ⟨1, []⟩
        ∧ SameUnits s u)

/-- R436, R442, R445 to R449, R454, R459, R482, R557: a diode at 110 °C, coolant lost for 50 ms, an input fault, fewer than 12
first stages or a third-level rail trip the package: Tripped, with the cause recorded and every rail but VSB off. Short of a
trip a low coolant signal is logged; a first stage's failure is recorded, logged and raises POWER; a rail of a cluster that
trips a second time in a second has its cluster reset, a third time in a day its cores fenced; an open sense line is recorded
once; a droop stretches its cluster; a mistrusted diode or a droop that persists fences its core; samples update what the
limiters read, a diode at 106 °C for 100 samples of 10 µs trips, a thermistor that reads open or shorted is logged once and
ignored; a legal PWR.CTRL waits for the next tick and any other is ignored and recorded.
The model's own readings here: log 16. -/
def Obligations.ProtectionsTripOrActOnTheirSamples : Prop :=
  (
    (∀ (k : Fin 4) (reading : Nat) (s : State), k.val < 3 → s.pst ≠ .off → s.pst ≠ .tripped →
      ∃ u, exec (.inputFault k reading) s = .next u ∧ u.pst = .tripped ∧ u.pwr.tripCause = 4 + k.val ∧ RailsOff s u)
    ∧ (∀ (us : Nat) (s : State), s.pst ≠ .off → s.pst ≠ .tripped → 50000 ≤ us →
      ∃ u, exec (.coolFlowLow us) s = .next u ∧ u.pst = .tripped ∧ u.pwr.tripCause = 3 ∧ RailsOff s u)
    ∧ (∀ (r : ThermalRead) (s : State), s.pst ≠ .off → s.pst ≠ .tripped →
      (thermalTemps r).any (fun e => decide (1100 ≤ e.2) && decide (e.1 < 0x318)) = true →
      ∃ u, exec (.thermalSample r) s = .next u ∧ u.pst = .tripped ∧ u.pwr.tripCause = 1 ∧ RailsOff s u)
    ∧ (∀ (i : Fin 24) (s : State), s.pst ≠ .off → s.pst ≠ .tripped → s.pwr.stagesBad.getLsbD i = false →
      popCount 24 (s.pwr.stagesBad ||| BitVec.ofNat 24 (2 ^ i.val)).toNat > 12 →
      ∃ u, exec (.stageFail i) s = .next u ∧ u.pst = .tripped ∧ u.pwr.tripCause = 7 ∧ RailsOff s u)
    ∧ (∀ (r : Fin 50) (reading : Nat) (s : State), s.pst ≠ .off → s.pst ≠ .tripped → 32 ≤ r.val →
      ∃ u, exec (.railOvercurrent r reading) s = .next u ∧ u.pst = .tripped ∧ u.pwr.tripCause = 7 ∧ RailsOff s u))
  ∧ (
    (∀ (us : Nat) (s : State), s.pst ≠ .off → us < 50000 →
      exec (.coolFlowLow us) s = .next (logAdd s { code := 0x80, src := 8, sev := 1, args := [us] }))
    ∧ (∀ (reading : Nat) (s : State), s.pst ≠ .off → s.pwr.rangeLogged = false →
      exec (.inputFault 3 reading) s = .next (logAdd { s with pwr := { s.pwr with rangeLogged := true } }
        { code := 0x71, src := 7, sev := 1, args := [reading] }))
    ∧ (∀ (reading : Nat) (s : State), s.pwr.rangeLogged = true → exec (.inputFault 3 reading) s = .next s)
    ∧ (∀ s : State, s.pwr.rsenseLost = true → exec .remoteSenseOpen s = .next s)
    ∧ (∀ s : State, s.pst ≠ .off → s.pwr.rsenseLost = false →
      ∃ u, exec .remoteSenseOpen s = .next u
        ∧ u = raiseIrq (logAdd { s with pwr := { s.pwr with rsenseLost := true } } { code := 0x74, src := 7, sev := 1 }) 5
        ∧ u.pwr = { s.pwr with rsenseLost := true }
        ∧ u.host.irqStat.getLsbD 5 = true ∧ SampleFrame s u)
    ∧ (∀ s : State, exec .remoteSenseRestored s = .next { s with pwr := { s.pwr with rsenseLost := false } })
    ∧ (∀ (i : Fin 24) (s : State), s.pst ≠ .off → s.pst ≠ .tripped → s.pwr.stagesBad.getLsbD i = false →
      popCount 24 (s.pwr.stagesBad ||| BitVec.ofNat 24 (2 ^ i.val)).toNat ≤ 12 →
      ∃ u, exec (.stageFail i) s = .next u
        ∧ u = raiseIrq (logAdd { s with pwr := u.pwr }
            { code := 0x72, inst := i, src := 7, sev := 2, args := [stagesOk u.pwr] }) 5
        ∧ u.pwr = { s.pwr with stagesBad := s.pwr.stagesBad ||| BitVec.ofNat 24 (2 ^ i.val) }
        ∧ u.host.irqStat.getLsbD 5 = true ∧ SampleFrame s u)
    ∧ (∀ (r : Fin 50) (reading : Nat) (s : State), s.pst = .active → r.val < 32 → tabGet s.bring.railOc [] r.val = [] →
      ∃ u, exec (.railOvercurrent r reading) s = .next u ∧ tabGet u.bring.railOc [] r.val = [s.uptime] ∧ u.pwr = s.pwr
        ∧ u = raiseIrq (logAdd { s with bring := u.bring }
            { code := 0x73, inst := (0x519 + r.val) % 256, src := 7, sev := 2, args := [1] }) 5
        ∧ u.host.irqStat.getLsbD 5 = true ∧ SameUnits s u)
    ∧ (∀ (r : Fin 50) (reading : Nat) (s : State) (t : Nat), s.pst = .active → r.val < 32 →
      tabGet s.bring.railOc [] r.val = [t] → s.uptime < t + 1000000000 → (clusterCores r.val).any (coreOn s) = true →
      ∃ u, exec (.railOvercurrent r reading) s = .next u ∧ u.bring.clusterResets.contains r.val = true)
    ∧ (∀ (r : Fin 50) (reading : Nat) (s : State) (t v : Nat), s.pst = .active → r.val < 32 →
      tabGet s.bring.railOc [] r.val = [t, v] → s.uptime < t + dayNs → s.uptime < v + dayNs →
      ∃ u, exec (.railOvercurrent r reading) s = .next u ∧ ∀ p, p / 8 = r.val → coreOn u p = false)
    ∧ (∀ (c : Fin 32) (s : State), s.pst = .active → s.pwr.droop.contains c.val = false →
      exec (.droopDetect c) s = .next { s with pwr := { s.pwr with
        droop := setIns s.pwr.droop c.val, ctr := ctrAdd s.pwr.ctr 0x188 1 } })
    ∧ (∀ (c : Fin 32) (s : State),
      exec (.droopEnd c) s = .next { s with pwr := { s.pwr with droop := setDel s.pwr.droop c.val } })
    ∧ (∀ (p : Fin 256) (s : State), s.pst = .active → coreOn s p = true →
      ∃ u v, exec (.droopPersist p) s = .next u ∧ exec (.diodeMismatch p) s = .next v ∧ coreOn u p = false
        ∧ coreOn v p = false ∧ (u.core p).ras.fenceCause = 7 ∧ (v.core p).ras.fenceCause = 6
        ∧ (∀ n, n ≠ p.val → n < 256 → coreOn u n = coreOn s n ∧ coreOn v n = coreOn s n))
    ∧ (∀ (mv0 mv1 : Nat) (s : State), s.pst ≠ .off → 25 < mv0 → mv0 < 2450 → 25 < mv1 → mv1 < 2450 →
      ∃ u, exec (.thermistorSample mv0 mv1) s = .next u ∧ SampleFrame s u
        ∧ tabGet u.bit.sensors 0 0x700 = thermDeci mv0 ∧ tabGet u.bit.sensors 0 0x701 = thermDeci mv1
        ∧ u.pwr.sensorLogged.contains 0 = false ∧ u.pwr.sensorLogged.contains 1 = false)
    ∧ (∀ (mv0 mv1 : Nat) (s : State), s.pst ≠ .off →
      exec (.thermistorSample mv0 mv1) s = .next (thermistor (thermistor s 0 mv0) 1 mv1))
    ∧ (∀ (i mv : Nat) (s : State), (2450 ≤ mv ∨ mv ≤ 25) →
      (s.pwr.sensorLogged.contains i = true → thermistor s i mv = s)
      ∧ (s.pwr.sensorLogged.contains i = false → thermistor s i mv = logAdd
          { s with pwr := { s.pwr with sensorLogged := setIns s.pwr.sensorLogged i } }
          { code := 0x82, inst := i, src := 8, sev := 1, args := [if 2450 ≤ mv then 1 else 2] }))
    ∧ (∀ (r : ThermalRead) (s : State), s.pst ≠ .off → s.pst ≠ .tripped →
      (thermalTemps r).any (fun e => decide (1100 ≤ e.2) && decide (e.1 < 0x318)) = false →
      (hotRuns s.pwr (thermalTemps r)).any (fun e => decide (100 ≤ e.2)) = true →
      ∃ u, exec (.thermalSample r) s = .next u ∧ u.pst = .tripped ∧ u.pwr.tripCause = 2 ∧ RailsOff s u)
    ∧ (∀ (r : ThermalRead) (s : State), s.pst ≠ .off →
      (thermalTemps r).any (fun e => decide (1100 ≤ e.2) && decide (e.1 < 0x318)) = false →
      (hotRuns s.pwr (thermalTemps r)).any (fun e => decide (100 ≤ e.2)) = false →
      exec (.thermalSample r) s = .next { s with
        pwr := { s.pwr with
          over106 := hotRuns s.pwr (thermalTemps r), therm103 := stretched s.pwr r
          hot := r.core.any (fun t => decide (950 < t)) || ((r.other.drop 24).take 32).any (fun t => decide (950 < t))
          cool := r.core.all (fun t => decide (t < 920)) && ((r.other.drop 24).take 32).all (fun t => decide (t < 920)) }
        bit := { s.bit with sensors := (thermalTemps r).foldl (fun l e => tabSet l e.1 e.2) s.bit.sensors } })
    ∧ (∀ (watts vin10 clk : Nat) (s : State), s.pst ≠ .off →
      ∃ u, exec (.fastLimiterSample watts vin10 clk) s = .next u ∧ SampleFrame s u ∧ u.host = s.host ∧ u.log = s.log
        ∧ u.pwr.draws = (watts :: s.pwr.draws).take 10000 ∧ u.pwr.vin10 = vin10
        ∧ u.pwr.pinW = sampleSum u.pwr.draws / u.pwr.draws.length
        ∧ (s.pst = .active → (5000 < watts ∨ 125 * vin10 < 100 * watts) → u.pwr.fast10 = 150)
        ∧ (s.pst = .active → ¬(5000 < watts ∨ 125 * vin10 < 100 * watts) →
            u.pwr.fast10 = min 150 (s.pwr.fast10 + 4)
              ∨ u.pwr.fast10 = (if watts < 5000 then s.pwr.fast10 - 1 else s.pwr.fast10)))
    ∧ (∀ s : State, exec .alertTimeout s = .next { s with bit := { s.bit with alertUntil := none } })
    ∧ (∀ (v : W64) (s : State), served s = true → 1200 ≤ bits v.toNat 15 0 → bits v.toNat 15 0 ≤ partTdp s.partNo →
      bits v.toNat 15 0 % 10 = 0 → s.agt.opEn.getLsbD (bits v.toNat 35 32) = true → bits v.toNat 63 36 = 0 →
      bits v.toNat 31 17 = 0 → exec (.pwrCtrlWrite v) s = .next { s with pwr := { s.pwr with next := some v } })
    ∧ (∀ (v : W64) (s : State), served s = true → (bits v.toNat 15 0 < 1200 ∨ partTdp s.partNo < bits v.toNat 15 0
        ∨ bits v.toNat 15 0 % 10 ≠ 0 ∨ s.agt.opEn.getLsbD (bits v.toNat 35 32) = false ∨ bits v.toNat 63 36 ≠ 0
        ∨ bits v.toNat 31 17 ≠ 0) → exec (.pwrCtrlWrite v) s = .next (writeIgnored s 2 0x100)))

/-! ### Resets, fences and injected errors -/

/-- R113, R474 to R482, R486, R488, R525: a PARITY halt is recorded, answers the core's executing commands, turns its tiles in
Peat into Lost entries and resets the core, or fences it as the third within 24 h; the end of a reset releases the core or
the cluster; a partition's clusters reset together; the host's reset and fence requests wait for the next tick, one that
names nothing that may be named is ignored and recorded, and an error injected into an enabled core is armed; a parity error
in a page's first register is recorded in its header and takes a register that holds a value of its own to its reset value.
The model's own readings here: log 11 and 14. -/
def Obligations.CoresAreResetFencedAndInjected : Prop :=
  (
    (∀ (p : Fin 256) (unit : Fin 4) (s : State), s.pst = .active → coreOn s p = true → (s.core p).ras.inReset = false →
      s.bring.clusterResets.contains (p.val / 8) = false →
      ((s.core p).ras.parity.filter (fun t => decide (s.uptime < t + dayNs))).length < 2 →
      ∃ u, exec (.parityError p unit) s = .next u ∧ coreOn u p = true ∧ (u.core p).ras.inReset = true
        ∧ u.bring.coreResets = s.bring.coreResets ++ [p.val]
        ∧ (u.core p).ras.parity = (s.core p).ras.parity.filter (fun t => decide (s.uptime < t + dayNs)) ++ [s.uptime]
        ∧ (u.core p).mxa.issued = [] ∧ (u.core p).ve.cmd = none ∧ (u.core p).heron.stage = []
        ∧ (∀ c r, c ∈ executing (s.core p) → findRec u c = some r → r.isDone = true)
        ∧ (∀ k, tabGet (u.core p).mxa.peat {} k = (tabGet (s.core p).mxa.peat {} k).lose))
    ∧ (∀ (p : Fin 256) (unit : Fin 4) (s : State), s.pst = .active → coreOn s p = true → (s.core p).ras.inReset = false →
      s.bring.clusterResets.contains (p.val / 8) = false →
      2 ≤ ((s.core p).ras.parity.filter (fun t => decide (s.uptime < t + dayNs))).length →
      ∃ u, exec (.parityError p unit) s = .next u ∧ coreOn u p = false ∧ (u.core p).ras.fenceCause = 4
        ∧ (∀ n, n < 256 → n ≠ p.val → coreOn u n = coreOn s n))
    ∧ (∀ (p : Fin 256) (s : State), (s.core p).ras.parity ≠ [] → exec (.parityAgeOut p) s = .next (s.setCore p
        { s.core p with ras := { (s.core p).ras with parity := (s.core p).ras.parity.drop 1 } }))
    ∧ (∀ (p : Fin 256) (s : State), s.bring.coreResets.contains p.val = true →
      ∃ u, exec (.coreResetEnd p) s = .next u ∧ u.bring.coreResets = setDel s.bring.coreResets p
        ∧ (u.core p).ras.inReset = false ∧ (u.core p).mxa.peat = (s.core p).mxa.peat)
    ∧ (∀ (c : Fin 32) (s : State), s.bring.clusterResets.contains c.val = true →
      ∃ u, exec (.clusterResetEnd c) s = .next u ∧ u.bring.clusterResets = setDel s.bring.clusterResets c
        ∧ (∀ p, p / 8 = c.val → coreOn s p = true → (u.core p).ras.inReset = false))
    ∧ (∀ (n : Fin 8) (s : State), s.bring.partWait.contains n.val = true →
      ∃ u, exec (.partitionClusterResets n) s = .next u ∧ u.bring.partWait = setDel s.bring.partWait n
        ∧ (∀ c, c < 32 → tabGet s.partOf 255 c = n.val → (clusterCores c).any (coreOn s) = true →
            u.bring.clusterResets.contains c = true)))
  ∧ (
    (∀ (p : Fin 256) (s : State), served s = true → scopeOk s 0 p = true →
      exec (.coreReset p) s = .next { s with bring := { s.bring with resets := s.bring.resets ++ [⟨0, p⟩] } }
      ∧ exec (.fenceCoreRequest p) s = .next { s with bring := { s.bring with fences := s.bring.fences ++ [⟨0, p⟩] } })
    ∧ (∀ (c : Fin 256) (s : State), served s = true → scopeOk s 1 c = true →
      exec (.clusterReset c) s = .next { s with bring := { s.bring with resets := s.bring.resets ++ [⟨1, c⟩] } }
      ∧ exec (.fenceClusterRequest c) s = .next { s with bring := { s.bring with fences := s.bring.fences ++ [⟨1, c⟩] } })
    ∧ (∀ (n : Fin 256) (s : State), served s = true → scopeOk s 2 n = true →
      exec (.partitionReset n) s = .next { s with bring := { s.bring with resets := s.bring.resets ++ [⟨2, n⟩] } })
    ∧ (∀ (p : Fin 256) (s : State), served s = true → scopeOk s 0 p = false →
      exec (.coreReset p) s = .next (writeIgnored s 3 0x110) ∧ exec (.fenceCoreRequest p) s = .next (writeIgnored s 3 0x118))
    ∧ (∀ (c : Fin 256) (s : State), served s = true → scopeOk s 1 c = false →
      exec (.clusterReset c) s = .next (writeIgnored s 3 0x110)
      ∧ exec (.fenceClusterRequest c) s = .next (writeIgnored s 3 0x118))
    ∧ (∀ (n : Fin 256) (s : State), served s = true → scopeOk s 2 n = false →
      exec (.partitionReset n) s = .next (writeIgnored s 3 0x110))
    ∧ (∀ (p : Fin 256) (s : State), served s = true → coreOn s p = true →
      exec (.injectCsUncorr p) s = .next (s.setCore p { s.core p with ras := { (s.core p).ras with injCs := true } })
      ∧ exec (.injectDrainParity p) s = .next (s.setCore p { s.core p with ras := { (s.core p).ras with injDrain := true } })
      ∧ exec (.injectVeParity p) s = .next (s.setCore p { s.core p with ras := { (s.core p).ras with injVe := true } })
      ∧ exec (.injectMxaParity p) s = .next (s.setCore p { s.core p with ras := { (s.core p).ras with injMxa := true } }))
    ∧ (∀ (pg : Fin 16384) (s : State), served s = true → (pageBlock pg).isSome = true →
      ∃ u, exec (.injectRegParity pg) s = .next u ∧ (u.page pg).err.getLsbD 3 = true ∧ (u.page pg).evt = (s.page pg).evt + 1
        ∧ u.mem = s.mem ∧ u.tick = s.tick
        ∧ (pg.val = 2 → u.pwr.next = none ∧ u.pwr.capW = partTdp s.partNo ∧ u.pwr.hintEn = true ∧ u.pwr.opMax = 15)
        ∧ (pg.val = 6 → tabGet u.numx.base 0 0 = 0)
        ∧ (pg.val = 0xB → u.fab = { s.fab with cfg := 0xC40040641 })
        ∧ (pg.val = 0xC → (tabGet u.fab.slots {} 0).slot = 0)
        ∧ (pg.val = 0xF → u.fence 0 = { s.fence 0 with val := 0 } ∧ ∀ i, i ≠ 0 → u.fence i = s.fence i)
        ∧ (∀ g, g < 2 → pg.val = 0x18 + g → (u.guest g).ctrl = 0)
        ∧ (∀ c, c < 64 → pg.val = 0x30 + c → (u.ctx c).root = 0)
        ∧ (∀ q, q < 64 → pg.val = 0x100 + q → (u.queue q).ctrl = 0)))


/-! ### The host -/

/-- R518, R519, R549, R566, R569: the loss of refclk_a or PERST# takes the link down, in Active and Dormant with the
effect of a reset of every function; its release brings it up again; a function's reset stops its queues, and at 90 ms one that still drains has what is left of
its frame ended and is Disabled; VF Enable sets the functions there are.
The model's own readings here: log 15 and 29. -/
def Obligations.TheHostLinkComesAndGoes : Prop :=
  (∀ s : State, s.pst = .standby ∨ s.pst = .tripped →
    exec .refclkALoss s = .next { s with host := { s.host with refclkA := false, linkUp := false } }
    ∧ (s.host.perst = false → exec .perst s = .next { s with host := { s.host with perst := true, linkUp := false } }))
  ∧ (∀ s : State, s.pst = .active ∨ s.pst = .dormant → (∀ q, (s.queue q).draining = true → (s.queue q).st ≠ .running) →
    (∃ u, exec .refclkALoss s = .next u ∧ u.host.linkUp = false ∧ u.host.refclkA = false ∧ u.host.irqStat = 0
      ∧ u.host.irqMask = 0 ∧ u.host.bar4Base = 0 ∧ u.host.vfEnable = false
      ∧ (∀ q, (s.queue q).func ≤ 8 → (u.queue q).st ≠ .running))
    ∧ (s.host.perst = false → ∃ u, exec .perst s = .next u ∧ u.host.linkUp = false ∧ u.host.perst = true
      ∧ u.host.irqStat = 0 ∧ u.host.irqMask = 0 ∧ u.host.bar4Base = 0 ∧ u.host.vfEnable = false
      ∧ (∀ q, (s.queue q).func ≤ 8 → (u.queue q).st ≠ .running)))
  ∧ (∀ s : State, s.pst ≠ .off → exec .perstRelease s = .next { s with host := { s.host with
      perst := false, refclkA := true, linkUp := s.pst == .active || s.pst == .dormant } })
  ∧ (∀ (f : Fin 9) (s : State), served s = true → fnExists s f = true → (∀ q, (s.queue q).draining = true →
    (s.queue q).st ≠ .running) →
    ∃ u, exec (.functionLevelReset f) s = .next u ∧ (∀ q, (s.queue q).func = f → (u.queue q).st ≠ .running)
      ∧ (f = 0 → u.host.irqStat = 0 ∧ u.host.irqMask = 0 ∧ u.host.bar4Base = 0 ∧ u.host.vfEnable = false))
  ∧ (∀ (s : State) (q : Nat), (s.queue q).draining = true → s.host.flrs.contains (s.queue q).func = true →
    ((s.queue q).frame = none ∨ ((s.queue q).st = .stopped ∧ ∃ f, (s.queue q).frame = some f
      ∧ (frameRecs (s.queue q)).length = f.len ∧ (∀ r ∈ frameRecs (s.queue q), findRec s ⟨q, r.n⟩ = some r)
      ∧ ∃ r ∈ frameRecs (s.queue q), r.isDone = false)) →
    ∃ u, exec .flrTimeout s = .next u ∧ (u.queue q).st = .disabled ∧ (u.queue q).draining = false)
  ∧ (∀ (n : Fin 9) (s : State), served s = true → s.host.vfEnable = false →
    exec (.vfEnable n) s = .next { s with host := { s.host with vfEnable := true, numVfs := n } })
  ∧ (∀ s : State, served s = true → s.host.vfEnable = true → (∀ q, (s.queue q).draining = true →
    (s.queue q).st ≠ .running) →
    ∃ u, exec .vfEnableClear s = .next u ∧ u.host.vfEnable = false ∧ u.host.linkUp = s.host.linkUp
      ∧ (∀ q, 1 ≤ (s.queue q).func → (s.queue q).func ≤ s.host.numVfs → (u.queue q).st ≠ .running))

/-- R541, R542: BAR4 of the PF shows HBM from BAR4_BASE, that of a VF the memory of its context: a read answers its bytes,
marked where one is poisoned, a write stores them and nothing else, an access that BAR4 may not reach is Unsupported Request
or discarded, and both are counted; so is a write that arrives poisoned.
The model's own readings here: log 18. -/
def Obligations.Bar4ReachesHbm : Prop :=
  (∀ (k : Fin 12) (s : State), served s = true →
    exec (.bar4Resize k) s = .next { s with host := { s.host with bar4Log := 30 + k, bar4Base := 0 } })
  ∧ (∀ (v : W64) (s : State), served s = true → bits v.toNat 63 44 = 0 → bits v.toNat 29 0 = 0 →
    v.toNat % 2 ^ s.host.bar4Log = 0 → v.toNat + 2 ^ s.host.bar4Log ≤ 0x20000000000 →
    exec (.bar4BaseWrite v) s = .next { s with host := { s.host with bar4Base := v } })
  ∧ (∀ (o n : Nat) (s : State), served s = true → s.pst = .active → 0 < n → o + n ≤ 2 ^ s.host.bar4Log →
    bar4Hbm s (s.host.bar4Base.toNat + o) n = true →
    ∃ u, exec (.bar4Read 0 o n) s = .next u
      ∧ u.reply = some ⟨if rangeBad (detect s (s.host.bar4Base.toNat + o) n) (s.host.bar4Base.toNat + o) n then 2 else 0,
          readBytes s (s.host.bar4Base.toNat + o) n⟩
      ∧ u.mem = s.mem ∧ u.queues = s.queues ∧ u.fences = s.fences)
  ∧ (∀ (o : Nat) (data : List Byte) (s : State) (a : Nat), served s = true → s.pst = .active → data ≠ [] →
    a = s.host.bar4Base.toNat + o → o + data.length ≤ 2 ^ s.host.bar4Log → bar4Hbm s a data.length = true →
    ∃ u, exec (.bar4Write 0 o data false) s = .next u
      ∧ (∀ b, readByte u b = if a ≤ b ∧ b < a + data.length then data.getD (b - a) 0 else readByte s b)
      ∧ u.fences = s.fences ∧ u.tick = s.tick ∧ u.fab = s.fab)
  ∧ (∀ (o n : Nat) (data : List Byte) (s : State), served s = true → s.pst = .active → 0 < n → data ≠ [] →
    bar4Hbm s (s.host.bar4Base.toNat + o) n = false → bar4Hbm s (s.host.bar4Base.toNat + o) data.length = false →
    exec (.bar4Read 0 o n) s = .next { (hostCtr s 0x250 1) with reply := some ⟨1, []⟩ }
    ∧ exec (.bar4Write 0 o data false) s = .next (hostCtr s 0x250 1))
  ∧ (∀ (f : Fin 9) (o n : Nat) (s : State), served s = true → fnExists s f = true → s.pst = .active → 0 < n →
    (∀ a, bar4Target s f o n false = some a → ∃ u x, exec (.bar4Read f o n) s = .next u
      ∧ u.reply = some ⟨x, readBytes s a n⟩ ∧ (x = 0 ∨ x = 2) ∧ u.mem = s.mem)
    ∧ (bar4Target s f o n false = none → ∃ u, exec (.bar4Read f o n) s = .next u ∧ u.reply = some ⟨1, []⟩
        ∧ ctrGet u.host.ctr 0x250 = ctrGet s.host.ctr 0x250 + 1 ∧ u.mem = s.mem))
  ∧ (∀ (f : Fin 9) (o : Nat) (data : List Byte) (s : State), served s = true → fnExists s f = true → s.pst = .active →
    data ≠ [] →
    (∀ a, bar4Target s f o data.length true = some a → ∃ u, exec (.bar4Write f o data false) s = .next u
      ∧ ∀ b, readByte u b = if a ≤ b ∧ b < a + data.length then data.getD (b - a) 0 else readByte s b)
    ∧ (bar4Target s f o data.length true = none → ∃ u, exec (.bar4Write f o data false) s = .next u
        ∧ ctrGet u.host.ctr 0x250 = ctrGet s.host.ctr 0x250 + 1 ∧ u.mem = s.mem)
    ∧ exec (.bar4Write f o data true) s = .next (hostCtr s 0x250 1))

/-- R28, R217, R538 to R540, R545, R546: a root for an unused context is taken; an invalidation waits until no walk that
started before it goes on, and then no TLB keeps a leaf in its range; legal writes of the partition and fence maps wait for
the next tick; a write of a fence counter raises it at once.
The model's own readings here: log 10. -/
def Obligations.ContextsMapsAndCountersAreWritten : Prop :=
  (∀ (c : Fin 64) (v : W64) (s : State), served s = true → ctxInUse s c = false →
    (v.getLsbD 63 = true → hbmOk s (bits v.toNat 43 12 * 4096) = true ∧ hbmOk s (bits v.toNat 43 12 * 4096 + 4095) = true
      ∧ lateDie s (bits v.toNat 43 12 * 4096) = false) →
    bits v.toNat 62 44 = 0 → bits v.toNat 11 0 = 0 →
    exec (.xlatRootWrite c v) s = .next (s.setCtx c { s.ctx c with root := v }))
  ∧ (∀ (c : Fin 64) (v : W64) (s : State), served s = true → ctxInUse s c = true →
    bits v.toNat 62 44 = 0 → bits v.toNat 11 0 = 0 →
    exec (.xlatRootWrite c v) s = .next (writeIgnored s (0x30 + c) 0x100))
  ∧ (∀ (c : Fin 64) (v : W64) (s : State), served s = true → (s.ctx c).inv = none → bits v.toNat 63 48 = 0 →
    bits v.toNat 15 2 = 0 →
    exec (.xlatInv c v) s = .next (s.setCtx c { s.ctx c with inv := some v, walks := walkers s c }))
  ∧ (∀ (c : Fin 64) (v : W64) (s : State), (s.ctx c).inv = some v →
    (walkers s c).any (fun k => (s.ctx c).walks.contains k) = true → exec (.xlatInvComplete c) s = .next s)
  ∧ (∀ (c : Fin 64) (v : W64) (s : State), (s.ctx c).inv = some v → (walkers s c).any (fun k => (s.ctx c).walks.contains k) = false →
    ∃ u, exec (.xlatInvComplete c) s = .next u ∧ (u.ctx c).inv = none ∧ (u.ctx c).done = (s.ctx c).done + 1
      ∧ (u.ctx c).root = (s.ctx c).root ∧ (∀ k, k ≠ c.val → u.ctx k = s.ctx k)
      ∧ (∀ p l, l ∈ (u.core p).heron.tlb ↔ l ∈ (s.core p).heron.tlb ∧ invHits c v.toNat l = false) ∧ u.mem = s.mem)
  ∧ (∀ (r : Fin 4) (v : W64) (s : State), s.host.linkUp = true → s.pst = .active →
    (∀ i, i < 8 → (bits v.toNat (8 * i + 7) (8 * i) < 8 ∧ tabGet s.partOf 255 (8 * r + i) ≠ 255)
      ∨ (bits v.toNat (8 * i + 7) (8 * i) = 255 ∧ tabGet s.partOf 255 (8 * r + i) = 255)) →
    exec (.partitionMapWrite r v) s = .next { s with host := { s.host with partPend := tabSet s.host.partPend r v } })
  ∧ (∀ (i : Fin 32) (v : W64) (s : State), served s = true → Nat.land v.toNat 0xF0F0F0F0F0F0F0F0 = 0 →
    (∀ c, c < 8 → bits v.toNat (8 * c + 2) (8 * c) = (s.fence (8 * i + c)).owner) →
    exec (.fenceMapWrite i v) s = .next { s with host := { s.host with fencePend := tabSet s.host.fencePend i v } })
  ∧ (∀ (i : Fin 256) (v : W64) (s : State), served s = true → v.toNat < 2 ^ 38 →
    ∃ u, exec (.fenceCntWrite i v) s = .next u ∧ (u.fence i).val.toNat = max (s.fence i).val.toNat v.toNat
      ∧ (u.fence i).owner = (s.fence i).owner ∧ (∀ k, k ≠ i.val → u.fence k = s.fence k) ∧ u.mem = s.mem
      ∧ u.queues = s.queues)

/-- R520 to R525: the host reads and writes one register at a page's offset; a write of an offset that no page has is
counted, a write to the attribute table is recorded, and what a function may not see reads as 0 and records a refused
write.
The model's own readings here: log 10. -/
def Obligations.RegistersAreReadAndWritten : Prop :=
  (∀ (pg o dt : Nat) (v : W64) (s : State), served s = true → (pageBlock pg).isSome = true → o < 4096 → o % 8 = 0 →
    exec (.registerWrite 0 (4096 * pg + o) dt (toLE 8 v.toNat)) s = .next (regPut s dt pg o v.toNat)
    ∧ exec (.registerRead 0 (4096 * pg + o) dt 8) s = .next { s with reply := some ⟨0, toLE 8 (regGet s dt pg o)⟩ })
  ∧ (∀ (f : Fin 9) (ofs dt : Nat) (b : Byte) (data : List Byte) (s : State), served s = true → fnExists s f = true →
    regSpace ofs = .unmapped →
    exec (.registerWrite f ofs dt (b :: data)) s = .next (hostCtr s 0x248 1)
    ∧ ∀ n, exec (.registerRead f ofs dt n) s = .next { s with reply := some ⟨0, List.replicate n 0⟩ })
  ∧ (∀ (f : Fin 9) (pg o dt : Nat) (v : W64) (s : State), served s = true → fnExists s f = true →
    (pageBlock pg).isSome = true → o < 4096 → o % 8 = 0 → seesPage s f pg = false →
    exec (.registerWrite f (4096 * pg + o) dt (toLE 8 v.toNat)) s = .next (foreignWrite s pg o)
    ∧ exec (.registerRead f (4096 * pg + o) dt 8) s = .next { s with reply := some ⟨0, List.replicate 8 0⟩ })
  ∧ (∀ (f : Fin 9) (o n dt : Nat) (b : Byte) (data : List Byte) (s : State), served s = true → fnExists s f = true →
    o < 4096 → exec (.registerWrite f (0x3FF0000 + o) dt (b :: data)) s = .next (pageErr s 0 4 0)
      ∧ exec (.registerRead f (0x3FF0000 + o) dt n) s = .next { s with reply := some ⟨0, agtBytes s o n⟩ })
  ∧ (∀ (s : State) (dt : Nat) (v : W64), served s = true → bits v.toNat 63 32 = 0 →
    regPut s dt 5 0x110 v.toNat = { s with log := { s.log with sel := v } }
    ∧ regGet { s with log := { s.log with sel := v } } dt 5 0x110 = v.toNat)

/-! ### The tick and domain time -/

/-- R28, R197 to R199, R204, R226, R321, R436, R438, R455, R474, R538, R539, R578: a tick brings domain time to the next multiple of the
period, applies what waited for it, so that nothing waits, makes the chosen operating point current and adds the ended
slot's energy;
a period change that is due is that same tick and sets the new period, and one that is not due waits.
The model's own readings here: log 13. -/
def Obligations.TicksAdvanceDomainTime : Prop :=
  (∀ (m : SlotMeasure) (s : State), s.pst = .active → s.tick.stepBy = 0 →
    ∃ u, exec (.sluiceTick m) s = .next u ∧ u.pst = .active ∧ u.tick.time = nextTime s ∧ u.tick.last = nextTime s / 4096
      ∧ u.bring.resets = [] ∧ u.bring.fences = [] ∧ u.host.partPend = [] ∧ u.host.fencePend = []
      ∧ u.xbar.pend = [] ∧ u.fab.slotPend = [] ∧ u.pwr.curOp = s.pwr.nextOp ∧ u.pwr.next = none
      ∧ ctrGet u.pwr.ctr 0x120 = ctrGet s.pwr.ctr 0x120 + BitVec.ofNat 64 m.total
      ∧ (∀ v, s.pwr.next = some v → u.pwr.capW = bits v.toNat 15 0 ∧ u.pwr.hintEn = v.getLsbD 16
          ∧ u.pwr.opMax = bits v.toNat 35 32)
      ∧ (∀ r, r ∈ s.bring.fences → r.scope = 0 → coreOn u r.target = false)
      ∧ (∀ i v c, s.host.fencePend = [(i, v)] → c < 8 → (u.fence (8 * i + c)).owner = bits v.toNat (8 * c + 2) (8 * c))
      ∧ (∀ k v, s.xbar.pend = [(k, v)] → tabGet u.xbar.cfg 0 k = v))
  ∧ (∀ (m : SlotMeasure) (s : State) (c : Nat × Nat), s.pst = .active → s.tick.change = some c → c.1 ≤ nextTime s →
    ∃ u, exec (.periodChange m) s = .next u ∧ exec (.sluiceTick m) s = .next u ∧ u.tick.sel = c.2
      ∧ u.tick.change = none ∧ u.tick.adopt = none)
  ∧ (∀ (m : SlotMeasure) (s : State) (c : Nat × Nat), s.pst = .active → s.tick.change = none → s.tick.adopt = some c →
    c.1 ≤ nextTime s →
    ∃ u, exec (.periodAdoption m) s = .next u ∧ exec (.sluiceTick m) s = .next u ∧ u.tick.sel = c.2
      ∧ u.tick.adopt = none)
  ∧ (∀ (m : SlotMeasure) (s : State) (c : Nat × Nat), s.tick.change = some c → nextTime s < c.1 →
    exec (.periodChange m) s = .next s)

/-- R193, R194, R198, R204: at tick `tk` a running queue of an Active package that no hold stops, whose next frame is
fetched up to FRAME_LAST and whose first command's start condition holds, starts that frame, which closes one period
later. -/
def Obligations.FramesStartAtTicks : Prop :=
  ∀ (s : State) (q tk n : Nat) (r : Rec), s.pst = .active → s.pwr.exiting = false → (s.queue q).st = .running →
    (s.queue q).frame = none → queueHolds s q tk = false → ((s.queue q).groupEn = true → s.tick.lock ≠ 2) →
    nextFrameLen s q = some n → peekRec s q (s.queue q).next = some r → startCond s q r tk = true →
    ((startFrame s q tk).queue q).frame
        = some { first := (s.queue q).next, len := n, startTick := tk, closing := tk + tickStep s.tick.sel }
      ∧ ((startFrame s q tk).queue q).next = (s.queue q).next + n
      ∧ (∀ p, p ≠ q → (startFrame s q tk).queue p = s.queue p) ∧ (startFrame s q tk).mem = s.mem
      ∧ (startFrame s q tk).cores = s.cores ∧ (startFrame s q tk).tick = s.tick

/-- R199 to R203, R569, R578: the master announces a period change; a backup takes over after four silent periods; missing
exchanges unlock; the answer of the parent gives the offset, slewed up to 250 ns and stepped beyond; an accepted BEACON
names the master and a pending adoption of its period; losing refclk_b is holdover, its return ends it. The model's own
readings (log 12): without a backup the silent master is given up after the four periods, and the backup too after
eight. -/
def Obligations.DomainTimeIsKept : Prop :=
  (∀ (v : W64) (dt : Nat) (s : State), s.host.linkUp = true → s.pst = .active → isMaster s = true → v.toNat ≤ 4 →
    s.tick.change = none →
    ∃ u, exec (.periodRequest v dt) s = .next u ∧ u.tick.change = some (changeTime (s.tick.time + dt), v.toNat)
      ∧ u.tick.req = v.toNat ∧ u.tick.adopt = none ∧ u.tick.sel = s.tick.sel ∧ SameUnits s u)
  ∧ (∀ (v : W64) (dt : Nat) (s : State), served s = true → isMaster s = false →
    exec (.periodRequest v dt) s = .next (writeIgnored s 1 0x118))
  ∧ (∀ (s : State) (m : Nat), s.pst = .active → s.tick.master = some m → m ≠ devId s →
    s.tick.backup = some (devId s) → 4 ≤ s.tick.quiet →
    ∃ u, exec .masterTakeover s = .next u ∧ isMaster u = true ∧ u.tick.lock = 0 ∧ u.tick.parent = none ∧ SameUnits s u)
  ∧ (∀ (s : State) (m : Nat), s.pst = .active → s.tick.master = some m → m ≠ devId s → s.tick.backup = none →
    4 ≤ s.tick.quiet → exec .masterTakeover s = .next (withoutMaster s [m]))
  ∧ (∀ (s : State) (m b : Nat), s.pst = .active → s.tick.master = some m → m ≠ devId s → s.tick.backup = some b →
    b ≠ devId s → 8 ≤ s.tick.quiet → exec .masterTakeover s = .next (withoutMaster s [m, b]))
  ∧ (∀ s : State, s.pst = .active → isMaster s = false → 64 < s.tick.missed →
    exec .timeExchangeMissing s = .next { s with tick := { s.tick with lock := 2, good := 0 } })
  ∧ (∀ s : State, s.pst = .active → isMaster s = false → 0 < s.tick.missed → s.tick.missed ≤ 64 →
    exec .timeExchangeMissing s = .next { s with tick := { s.tick with lock := max s.tick.lock 1 } })
  ∧ (∀ (k : Fin 64) (seq t2 t3 : Nat) (s : State), accepts s k = true →
    exec (.timeReq k seq t2 t3) s = .next (sendCtl { (rxFlits s k 1) with
      tick := { s.tick with lone := false } } k (.timeRsp (seq % 256) (t2 % 2 ^ 56) (t3 % 2 ^ 56))))
  ∧ (∀ (k : Fin 64) (seq t2 t3 t4 : Nat) (s : State) (p : Parent) (t1 : Nat) (o : Int), accepts s k = true →
    s.tick.parent = some p → p.port = k → s.tick.sync = some (seq % 256, t1) →
    o = (sext 56 (t2 % 2 ^ 56 + 2 ^ 56 - t1 % 2 ^ 56) - sext 56 (t4 % 2 ^ 56 + 2 ^ 56 - t3 % 2 ^ 56)) / 2 →
    ∃ u, exec (.timeRsp k seq t2 t3 t4) s = .next u ∧ u.tick.offset = o ∧ u.tick.missed = 0 ∧ u.tick.sync = none
      ∧ u.tick.time = s.tick.time ∧ SameUnits s u
      ∧ (o.natAbs ≤ 25 * 256 → u.tick.slew = o ∧ u.tick.good = s.tick.good + 1
          ∧ u.tick.lock = (if 16 ≤ s.tick.good + 1 then 0 else s.tick.lock))
      ∧ (25 * 256 < o.natAbs → o.natAbs ≤ 250 * 256 → u.tick.slew = o ∧ u.tick.good = 0
          ∧ u.tick.lock = max s.tick.lock 1)
      ∧ (250 * 256 < o.natAbs → u.tick.stepBy = o ∧ u.tick.lock = 2))
  ∧ (∀ (k : Fin 64) (m b : Fin 262144) (hops : Fin 16) (tick sel dt : Nat) (s : State), accepts s k = true →
    s.pst = .active → m.val ≠ devId s → sel ≤ 4 → masterAccepted s m b = true →
    ∃ u, exec (.beacon k m b hops tick sel dt) s = .next u ∧ u.tick.master = some m.val ∧ u.tick.quiet = 0
      ∧ u.tick.lone = false ∧ tabGet u.tick.neighbours 0 k = hops.val ∧ SameUnits s u
      ∧ (s.tick.change = none → sel ≠ s.tick.sel → s.tick.adopt = none →
          u.tick.adopt = some (changeTime (s.tick.time + dt), sel)))
  ∧ (∀ s : State, s.pst ≠ .off → s.tick.refclkB = true →
    ∃ u, exec .refclkBLoss s = .next u ∧ u.tick.refclkB = false ∧ u.tick.holdover = true ∧ SameUnits s u)
  ∧ (∀ s : State, s.pst ≠ .off → s.tick.refclkB = false → s.bring.wait = none →
    ∃ u, exec .refclkBReturn s = .next u ∧ u.tick.refclkB = true ∧ u.tick.holdover = false ∧ SameUnits s u)

/-- R199, R200, R206 to R210, R380, R440: group messages act at a package that has the group: a hold request marks its
tick, or aborts where it is late, and an abort stops the member queue; a period message replaces an adoption; a candidate
is entered or removed; a group that has met 64 hold ticks in a row is aborted; an expired hint is dropped.
The model's own readings here: log 12. -/
def Obligations.DomainMessagesActOnce : Prop :=
  (∀ (k : Fin 64) (gid : Fin 65536) (h : Nat) (origin : Fin 262144) (cause : Nat) (s : State), accepts s k = true →
    (slotOf s gid).isSome = true → s.tick.seen.contains (5, gid.val, h) = false → s.tick.last < h →
    ∃ u, exec (.holdMsg k gid h origin cause) s = .next u ∧ (u.group gid).holds = setIns (s.group gid).holds h
      ∧ u.tick.seen.contains (5, gid.val, h) = true ∧ SameUnits s u)
  ∧ (∀ (k : Fin 64) (gid : Fin 65536) (h : Nat) (origin : Fin 262144) (cause : Nat) (s : State) (q : Nat),
    accepts s k = true → (slotOf s gid).isSome = true → s.tick.seen.contains (5, gid.val, h) = false → h ≤ s.tick.last →
    memberQ s gid = some q → ∃ u, exec (.holdMsg k gid h origin cause) s = .next u ∧ (u.queue q).st ≠ .running)
  ∧ (∀ (k : Fin 64) (gid : Fin 65536) (st : Fin 256) (origin : Fin 262144) (s : State) (q : Nat), accepts s k = true →
    (slotOf s gid).isSome = true → s.tick.seen.any (fun e => e.1 == 6 && e.2.1 == gid.val * 2 ^ 18 + origin.val) = false →
    memberQ s gid = some q →
    ∃ u, exec (.abortMsg k gid st origin) s = .next u ∧ (u.queue q).st ≠ .running)
  ∧ (∀ (k : Fin 64) (tc sel : Nat) (s : State), accepts s k = true → s.tick.seen.contains (7, tc, 0) = false → sel ≤ 4 →
    ∃ u, exec (.periodMsg k tc sel) s = .next u ∧ u.tick.change = some (tc, sel) ∧ u.tick.adopt = none
      ∧ u.tick.sel = s.tick.sel ∧ SameUnits s u)
  ∧ (∀ (k : Fin 64) (dev : Fin 262144) (now : Bool) (seq : Nat) (s : State), accepts s k = true →
    s.tick.seen.contains (4, dev.val, seq) = false → dev.val ≠ devId s →
    ∃ u, exec (.candidate k dev now seq) s = .next u
      ∧ u.tick.cands = (if now then setIns s.tick.cands dev else setDel s.tick.cands dev) ∧ SameUnits s u)
  ∧ (∀ (gid : Fin 65536) (s : State) (q : Nat), 64 ≤ (s.group gid).consec → memberQ s gid = some q →
    ∃ u, exec (.holdLimitAbort gid) s = .next u ∧ (u.group gid).consec = 0 ∧ (u.queue q).st ≠ .running)
  ∧ (∀ (q : Fin 64) (s : State), exec (.hintExpiry q) s = .next { s with pwr := { s.pwr with
      hints := s.pwr.hints.filter (fun h => !(h.q == q.val && h.on && h.ticks != 0 && h.left == 0)) } })

/-! ### Ports and packets -/

/-- R361 to R364, R376, R383, R391 to R393, R397, R451, R469: an enabled port trains and comes Up with its neighbour's identity
and full credits, or goes Down where the neighbour is wrong or training fails; where ports may not train it is Down; an
error ratio above 10⁻⁴, or in its ready window of a power-on one of 2 × 10⁻⁵ or more, takes it Down; it retrains while AUTO_RETRAIN
is set; a port that goes Down or is disabled drops what it had queued, and S flits that lost their window leave at once; a
commit of its schedule, a legal FAB.CFG and a member table wait or act as written; a port the part lacks ignores writes.
The model's own readings here: log 25. -/
def Obligations.PortsTrainAndGoDown : Prop :=
  (∀ (k : Fin 64) (s : State), served s = true → portPresent s k = true →
    ((s.port k).en = false ∨ (s.port k).st = .disabled) →
    ∃ u, exec (.portEnable k) s = .next u ∧ (u.port k).en = true ∧ PortFrame s u k
      ∧ (portsRun s = true → (u.port k).st = .training ∧ (u.port k).cause = 0 ∧ (u.port k).marginal = false)
      ∧ (portsRun s = false → (u.port k).st = .down ∧ (u.port k).cause = 8))
  ∧ (∀ (k : Fin 64) (s : State), served s = true → portPresent s k = true → (s.port k).st ≠ .disabled →
    ∃ t, exec (.portDisable k) s = .next (sendAllDirect t) ∧ (t.port k).st = .disabled ∧ (t.port k).en = false
      ∧ (t.port k).cause = 8 ∧ (t.port k).bq = [] ∧ (t.port k).replay = [] ∧ PortFrame s t k)
  ∧ (∀ (k : Fin 64) (s : State), served s = true → portPresent s k = false →
    exec (.portEnable k) s = .next (writeIgnored s (0x200 + k) 0x108)
      ∧ exec (.portDisable k) s = .next (sendAllDirect (writeIgnored s (0x200 + k) 0x108))
      ∧ exec (.schedCommit k) s = .next (writeIgnored s (0x200 + k) 0x108))
  ∧ (∀ (k : Fin 64) (nd : Fin 262144) (np : Fin 64) (rt pipe : Nat) (s : State), (s.port k).st = .training →
    portsRun s = true → nd.val ≠ devId s → (s.fab.cfg.getLsbD 28 = true → expectNbr s k = some (nd.val, np.val)) →
    ∃ u, exec (.portUp k nd np rt pipe) s = .next u ∧ (u.port k).st = .up ∧ (u.port k).nbrDev = nd
      ∧ (u.port k).nbrPort = np ∧ (u.port k).lengthM = (rt - pipe + 1280) / 2560 ∧ (u.port k).shared = 2208
      ∧ (∀ v, v < 6 → tabGet (u.port k).floor 0 v = 32) ∧ (u.port k).usable = false ∧ PortFrame s u k)
  ∧ (∀ (k : Fin 64) (nd : Fin 262144) (np : Fin 64) (rt pipe : Nat) (s : State), (s.port k).st = .training →
    portsRun s = true → (nd.val = devId s ∨ (s.fab.cfg.getLsbD 28 = true ∧ expectNbr s k ≠ some (nd.val, np.val))) →
    ∃ u, exec (.portUp k nd np rt pipe) s = .next u ∧ (u.port k).st = .down
      ∧ (u.port k).cause = (if nd.val = devId s then 4 else 5) ∧ PortFrame s u k)
  ∧ (∀ (k : Fin 64) (nd : Fin 262144) (np : Fin 64) (rt pipe : Nat) (s : State),
    ((s.port k).st ≠ .training ∨ portsRun s = false) → exec (.portUp k nd np rt pipe) s = .next s)
  ∧ (∀ (k : Fin 64) (cause : Nat) (s : State), (s.port k).st = .training →
    ∃ u, exec (.portTrainingFail k cause) s = .next u ∧ (u.port k).st = .down
      ∧ (u.port k).cause = (if cause ∈ ([1, 2, 3] : List Nat) then cause else 9) ∧ PortFrame s u k)
  ∧ (∀ (k : Fin 64) (s : State), (s.port k).st = .down → (s.port k).retrain = true → (s.port k).en = true →
    portsRun s = true → ∃ u, exec (.portRetrain k) s = .next u ∧ (u.port k).st = .training ∧ PortFrame s u k)
  ∧ (∀ (k : Fin 64) (s : State), ((s.port k).retrain = false ∨ portsRun s = false) → exec (.portRetrain k) s = .next s)
  ∧ (∀ (k : Fin 64) (cause : Nat) (s : State),
    ((s.port k).st = .up ∧ cause ∈ ([1, 3, 6, 7] : List Nat)) ∨ ((s.port k).st = .training ∧ cause = 3) →
    ∃ t, exec (.portDown k cause) s = .next (sendAllDirect t) ∧ (t.port k).st = .down ∧ (t.port k).cause = cause
      ∧ (t.port k).bq = [] ∧ (t.port k).replay = [] ∧ PortFrame s t k)
  ∧ (∀ (k : Fin 64) (w : PortWindow) (s : State), (s.port k).st = .up →
    (85000000 < w.bits ∨ (s.bring.run = true ∧ (s.port k).firstWin = true ∧ 17000000 ≤ w.bits)) →
    ∃ t, exec (.berWindow k w) s = .next (sendAllDirect t) ∧ (t.port k).st = .down ∧ (t.port k).cause = 7
      ∧ PortFrame s t k)
  ∧ (∀ (k : Fin 64) (w : PortWindow) (s : State), (s.port k).st = .up → w.bits ≤ 85000000 →
    (s.bring.run = false ∨ (s.port k).firstWin = false ∨ w.bits < 17000000) →
    ∃ t, exec (.berWindow k w) s = .next (sendAllDirect t) ∧ (t.port k).st = .up
      ∧ (t.port k).marginal = ((s.port k).marginal || decide (17000000 < w.bits)) ∧ (t.port k).bq = (s.port k).bq
      ∧ ctrGet (t.port k).ctr 0x110 = BitVec.ofNat 64 w.bits ∧ (∀ j, j ≠ k.val → t.port j = s.port j)
      ∧ t.bring.ports = (if s.bring.run = true ∧ (s.port k).firstWin = true then setDel s.bring.ports k else s.bring.ports)
      ∧ PortFrame s t k)
  ∧ (∀ (k : Fin 64) (s : State), served s = true → portPresent s k = true →
    exec (.schedCommit k) s = .next (s.setPort k { s.port k with commit := true }))
  ∧ (∀ (v : W64) (s : State), served s = true →
    (∀ k, k < 64 → (s.port k).st = .disabled ∨ (s.port k).st = .down) → 1 ≤ bits v.toNat 45 35 →
    bits v.toNat 45 35 ≤ 1024 → bits v.toNat 34 29 ∈ ([0, 2, 18, 34] : List Nat) → bits v.toNat 11 4 ≠ 0 →
    bits v.toNat 3 1 = 0 → ∃ u, exec (.fabCfgWrite v) s = .next u ∧ u.fab = { s.fab with cfg := v } ∧ SameUnits s u)
  ∧ (∀ (i : Fin 96) (self : Bool) (v : W64) (s : State), served s = true → slotBusy s i = false →
    (self = false → bits v.toNat 63 45 ≤ 262144 ∧ v.getLsbD 44 = false ∧ bits v.toNat 5 0 = 0) →
    (self = true → bits v.toNat 63 18 = 0) →
    exec (.memberTableWrite i self v) s = .next { s with ce := { s.ce with
      pend := tabSet s.ce.pend (0x100 + 16 * i + (if self then 8 else 0)) v } })

/-- R359, R364 to R368, R372: a port sends one sequenced flit at a time, control before packets and a packet's flits only
with a credit, its VC's own before the shared ones, while its replay buffer has room; each leaves under a trailer with its
sequence number and the acknowledgement of the port's receiver; acknowledged flits leave the buffer; a NAK counts and
repeats what is left, and one after 16 replays of one flit takes the port Down; a bad flit, or a codeword the decoder could
not correct with every flit in it, starts discarding until the expected replay flit, and is answered with NAK; returned
credits never exceed what the receiver gave.
The model's own readings here: log 25. -/
def Obligations.FlitsAreSentAndAcknowledged : Prop :=
  (∀ (s : State) (k : Nat) (m : CtlMsg) (t : List CtlMsg), (s.port k).st = .up → (s.port k).replay.length < 3072 →
    (s.port k).cq = m :: t →
    ((pumpOne s k).port k).cq = t ∧ ((pumpOne s k).port k).replay = (s.port k).replay ++ [.ctl m]
      ∧ ((pumpOne s k).port k).txSeq = ((s.port k).txSeq + 1) % 4096 ∧ ((pumpOne s k).port k).bq = (s.port k).bq
      ∧ (pumpOne s k).sent = s.sent ++ [.trailer k ((s.port k).trail 4), .ctl k m]
      ∧ ∀ j, j ≠ k → (pumpOne s k).port j = s.port j)
  ∧ (∀ (s : State) (k : Nat) (e : Packet × Nat) (fl done : Bool), (s.port k).st = .up →
    (s.port k).replay.length < 3072 → (s.port k).cq = [] → (s.port k).nextB = some e →
    fl = decide (0 < tabGet (s.port k).floor 0 e.1.vc) → done = decide (packetFlits e.1 ≤ e.2 + 1) →
    ((pumpOne s k).port k).replay = (s.port k).replay ++ [.b e.1 e.2 fl]
      ∧ ((pumpOne s k).port k).txSeq = ((s.port k).txSeq + 1) % 4096
      ∧ ((pumpOne s k).port k).credits e.1.vc + 1 = (s.port k).credits e.1.vc
      ∧ (fl = true → ((pumpOne s k).port k).shared = (s.port k).shared)
      ∧ (∃ cr, (pumpOne s k).sent = s.sent ++ .trailer k { (s.port k).trail 1 with
            vc := e.1.vc, floor := fl, head := e.2 == 0, tail := done }
          :: ((if done then [.packet k { packetSent e.1 fl with back := none }] else []) ++ cr)
          ∧ (e.1.back = none → cr = []))
      ∧ ∀ j, j ≠ k → (pumpOne s k).port j = s.port j)
  ∧ (∀ (s : State) (k : Nat), (3072 ≤ (s.port k).replay.length ∨ ((s.port k).cq = [] ∧ (s.port k).nextB = none)) →
    pumpOne s k = s)
  ∧ (∀ (k : Fin 64) (ack stall : Nat) (s : State), (s.port k).st = .up →
    exec (.cwFlitAck k ack stall) s = .next (pump (portCtr (s.setPort k (ackFlits (s.port k) ack)) k 0x170 stall) k))
  ∧ (∀ (x : Port) (n : Nat), n < x.replay.length → x.replay.length < 4096 →
    ackFlits x (x.txSeq + 4096 - x.replay.length + n) = { x with replay := x.replay.drop (n + 1), replays := 0 })
  ∧ (∀ (k : Fin 64) (ack : Nat) (s : State) (x : Port), (s.port k).st = .up → x = ackFlits (s.port k) ack →
    x.replays < 16 →
    ∃ t, exec (.causewayReplay k ack) s = .next (pump t k) ∧ (t.port k).replay = x.replay
      ∧ (t.port k).replays = x.replays + 1
      ∧ t.sent = s.sent ++ x.replayTrails.map (Out.trailer k) ++ [.replay k x.replay.length]
      ∧ ctrGet (t.port k).ctr 0x168 = ctrGet (s.port k).ctr 0x168 + 1 ∧ (∀ j, j ≠ k.val → t.port j = s.port j)
      ∧ SameUnits s t)
  ∧ (∀ (k : Fin 64) (ack : Nat) (s : State), (s.port k).st = .up → 16 ≤ (ackFlits (s.port k) ack).replays →
    exec (.causewayReplay k ack) s = .next (sendAllDirect (portSet s k .down 6)))
  ∧ (∀ (k : Fin 64) (got : List Nat) (cw : Option Nat) (s : State) (n : Nat), (s.port k).st = .up →
    n = (if (s.port k).discarding then 0 else (got.take 6).sum) →
    ∃ u, exec (.cwCrcErr ⟨k, got, cw⟩) s = .next u ∧ (u.port k).discarding = true ∧ (u.port k).nak = true
      ∧ (u.port k).rxSeq = ((s.port k).rxSeq + n) % 4096
      ∧ (u.port k).ctr = ctrAdd (s.port k).ctr 0x160 (match cw with | some c => codewordFlits c | none => 1)
      ∧ u.sent = s.sent ++ [.trailer k ((u.port k).trail 0)] ∧ (∀ j, j ≠ k.val → u.port j = s.port j) ∧ SameUnits s u)
  ∧ (∀ (k : Fin 64) (seq : Nat) (s : State), (s.port k).st = .up → (s.port k).discarding = true →
    exec (.cwReplayFlit k seq) s = .next (if seq = ((s.port k).rxSeq + 1) % 4096 then
      s.setPort k { s.port k with discarding := false, nak := false } else s))
  ∧ (∀ (k : Fin 64) (floors : List Nat) (shared stall : Nat) (s : State), (s.port k).st = .up →
    ∃ t, exec (.creditReturn k floors shared stall) s = .next (pump t k)
      ∧ (t.port k).shared = min 2208 ((s.port k).shared + shared)
      ∧ (∀ v, v < 6 → tabGet (t.port k).floor 0 v = min 32 (tabGet (s.port k).floor 0 v + floors.getD v 0))
      ∧ (t.port k).replay = (s.port k).replay ∧ (∀ j, j ≠ k.val → t.port j = s.port j) ∧ t.sent = s.sent ∧ SameUnits s t)

/-! ### Die-to-die links, guest sites and bring-up -/

/-- R331 to R333, R352, R354, R484: on a usable module a NAK and an acknowledgement free what they acknowledge, and flits
sent, CRC errors, replays and stalls are counted; a bad flit starts discarding until the expected replay flit; the monitor
marks a module whose window exceeds THRESH; a module that goes down fences its Liram die or removes its guest. On a module
that is not usable nothing of this happens.
The model's own readings here: log 15. -/
def Obligations.ModulesRetryAndFail : Prop :=
  (∀ (l : Fin 6) (m : Fin 16) (ack : Nat) (s : State) (x : Module), x = s.module l m → x.usable = true →
    exec (.linkReplay l m ack) s = .next (s.setModule l m { x.ack ack with
      ctr := ctrAdd (ctrAdd x.ctr 0x210 1) 0x200 (x.ack ack).unacked }))
  ∧ (∀ (x : Module) (n : Nat), n < x.unacked → x.unacked ≤ 256 →
    x.ack (x.txSeq + 1024 - x.unacked + n) = { x with unacked := x.unacked - (n + 1) })
  ∧ (∀ (l : Fin 6) (m : Fin 16) (s : State) (x : Module), x = s.module l m → x.usable = true →
    exec (.ucieCrcErr l m) s = .next (s.setModule l m { x with
      discarding := true, nak := true, ctr := ctrAdd x.ctr 0x208 1 }))
  ∧ (∀ (l : Fin 6) (m : Fin 16) (seq : Nat) (s : State) (x : Module), x = s.module l m → x.usable = true →
    x.discarding = true →
    exec (.ucieReplayFlit l m seq) s = .next (if seq = (x.rxSeq + 1) % 1024 then
      s.setModule l m { x with discarding := false, nak := false, rxSeq := seq } else s.setModule l m x))
  ∧ (∀ (l : Fin 6) (m : Fin 16) (ack tx rx stall : Nat) (s : State) (x : Module), x = s.module l m → x.usable = true →
    ∃ y, exec (.ucieFlitAck l m ack tx rx stall) s = .next (s.setModule l m y) ∧ y.st = x.st
      ∧ y.txSeq = (x.txSeq + min tx (256 - x.unacked)) % 1024
      ∧ y.rxSeq = (if x.discarding then x.rxSeq else (x.rxSeq + rx) % 1024)
      ∧ y.unacked = ({ x with txSeq := y.txSeq, unacked := x.unacked + min tx (256 - x.unacked) }.ack ack).unacked
      ∧ y.discarding = x.discarding ∧ y.nak = x.nak
      ∧ ctrGet y.ctr 0x200 = ctrGet x.ctr 0x200 + BitVec.ofNat 64 (min tx (256 - x.unacked))
      ∧ ctrGet y.ctr 0x208 = ctrGet x.ctr 0x208
      ∧ ctrGet y.ctr 0x218 = ctrGet x.ctr 0x218 + BitVec.ofNat 64 stall)
  ∧ (∀ (l : Fin 6) (m : Fin 16) (s : State) (x : Module), x = s.module l m → x.usable = true →
    ∃ u, exec (.linkMonitorWindow l m) s = .next u ∧ (u.module l m).st = x.st
      ∧ (u.module l m).base = (ctrGet x.ctr 0x208).toNat
      ∧ (u.module l m).marginal = (x.marginal || decide ((s.link l).thresh < (ctrGet x.ctr 0x208).toNat - x.base))
      ∧ ((s.link l).thresh < (ctrGet x.ctr 0x208).toNat - x.base →
          (u.module l m).logged = true ∧ u.host.irqStat.getLsbD 2 = true)
      ∧ SameUnits s u)
  ∧ (∀ (l : Fin 6) (m : Fin 16) (cause : Fin 3) (s : State), (s.module l m).usable = true → l.val < 4 →
    s.agt.diesActive.getLsbD l = true →
    ∃ u, exec (.moduleDown l m cause) s = .next u ∧ (u.module l m).st = 5 ∧ u.agt.diesActive.getLsbD l = false
      ∧ u.bring.lateDies.getLsbD l = true ∧ (∀ p, p / 64 = l.val → coreOn u p = false)
      ∧ (∀ c, c / 8 = l.val → tabGet u.partOf 255 c = 255) ∧ u.host.irqStat.getLsbD 1 = true
      ∧ u.host.irqStat.getLsbD 2 = true)
  ∧ (∀ (l : Fin 6) (m : Fin 16) (cause : Fin 3) (s : State) (x : Guest), (s.module l m).usable = true → 4 ≤ l.val →
    x = s.guest (l.val - 4) → (x.st = 1 ∨ x.st = 2) → x.removing = false →
    ∃ u, exec (.moduleDown l m cause) s = .next u ∧ (u.module l m).st = 5 ∧ (u.guest (l.val - 4)).removing = true
      ∧ (u.guest (l.val - 4)).reason = 11 ∧ u.host.irqStat.getLsbD 2 = true ∧ SameUnits s u)
  ∧ (∀ (l : Fin 6) (m : Fin 16) (cause : Fin 3) (s : State), (s.module l m).usable = true →
    (l.val < 4 → s.agt.diesActive.getLsbD l = false) →
    (4 ≤ l.val → (s.guest (l.val - 4)).removing = true ∨ ((s.guest (l.val - 4)).st ≠ 1 ∧ (s.guest (l.val - 4)).st ≠ 2)) →
    ∃ u, exec (.moduleDown l m cause) s = .next u ∧ (u.module l m).st = 5 ∧ u.guests = s.guests
      ∧ u.agt = s.agt ∧ u.host.irqStat.getLsbD 2 = true ∧ SameUnits s u)
  ∧ (∀ (l : Fin 6) (m : Fin 16) (cause : Fin 3) (ack seq tx rx stall : Nat) (s : State),
    (s.module l m).usable = false →
    exec (.linkReplay l m ack) s = .next s ∧ exec (.ucieCrcErr l m) s = .next s
      ∧ exec (.ucieReplayFlit l m seq) s = .next s ∧ exec (.ucieFlitAck l m ack tx rx stall) s = .next s
      ∧ exec (.linkMonitorWindow l m) s = .next s ∧ exec (.moduleDown l m cause) s = .next s)

/-- R336 to R339, R341 to R344: the host admits a trained guest whose checks pass, which its acknowledgement ends, or has
it refused with the first check that fails; an admitted guest's requests are translated and served, or refused and
counted; a site whose power stays above its budget, or that the host removes, is closed and its rail switched off.
The model's own readings here: log 28. -/
def Obligations.GuestsAreAdmittedServedAndRemoved : Prop :=
  (∀ (g : Fin 2) (v : W64) (s t : State) (x : Guest), served s = true → x = s.guest g → x.st = 1 →
    v.getLsbD 1 = false → t = s.setGuest g { x with ctrl := guestCtrl v } →
    (admitCheck t g = 0 →
      ∃ u, exec (.guestAdmit g v) s = .next u ∧ SameUnits s u
        ∧ u.guest g = { x with ctrl := guestCtrl v, admitting := true, railW := bits v.toNat 55 48 }
        ∧ u.sent = s.sent ++ [.guestMsg g 0x11 (bits v.toNat 55 48) (toLE 8 (guestBase g))])
    ∧ (admitCheck t g ≠ 0 →
      ∃ u, exec (.guestAdmit g v) s = .next u ∧ SameUnits s u ∧ (u.guest g).st = 3
        ∧ (u.guest g).reason = admitCheck t g ∧ (u.guest g).railW = 0
        ∧ (u.guest g).admitting = false ∧ u.host.irqStat.getLsbD 7 = true))
  ∧ (∀ (g : Fin 2) (v : W64) (s : State), served s = true → (s.guest g).st ≠ 1 → v.getLsbD 1 = false →
    exec (.guestAdmit g v) s = .next (writeIgnored s (0x18 + g) 0x100))
  ∧ (∀ (g : Fin 2) (s : State), (s.guest g).st = 1 → (s.guest g).admitting = true →
    ∃ u, exec (.guestAdmitAck g) s = .next u ∧ u.guest g = { s.guest g with admitting := false, st := 2 }
      ∧ u.host.irqStat.getLsbD 7 = true ∧ SameUnits s u)
  ∧ (∀ (g : Fin 2) (v : W64) (s : State) (x : Guest), served s = true → x = s.guest g → (x.st = 1 ∨ x.st = 2) →
    x.removing = false →
    ∃ u, exec (.guestRemove g v) s = .next u ∧ (u.guest g).removing = true ∧ (u.guest g).admitting = false
      ∧ (u.guest g).reason = 9 ∧ (u.guest g).st = x.st ∧ (u.guest g).ctrl = guestCtrl v ∧ SameUnits s u)
  ∧ (∀ (g : Fin 2) (s : State), (s.guest g).removing = true →
    ∃ u, exec (.guestRailOff g) s = .next u ∧ (u.guest g).removing = false ∧ (u.guest g).st = 4
      ∧ (u.guest g).railW = 0 ∧ (u.guest g).reason = (s.guest g).reason ∧ u.host.irqStat.getLsbD 7 = true ∧ SameUnits s u)
  ∧ (∀ (g : Fin 2) (dva : W64) (n a0 : Nat) (data : List Byte) (be pm : List Bool) (s : State) (x : Guest),
    s.pst = .active → x = s.guest g → x.st = 2 → x.removing = false → x.master = true → 0 < n →
    a0 = dva.toNat % 2 ^ 48 / 64 * 64 → a0 / 4096 = (a0 + 64 * n - 1) / 4096 →
    (∀ (wr : Bool) (f : Nat), guestTarget s x.ctxNo a0 (64 * n) wr = .fault f →
      ∃ u, exec (.guestRequest g wr dva n data be pm) s = .next u ∧ (u.guest g).faults = x.faults + 1
        ∧ u.sent = s.sent ++ [.guestMsg g 0x13 0 []] ∧ u.mem = s.mem ∧ u.poison = s.poison ∧ u.cores = s.cores)
    ∧ (∀ (a : Nat), guestTarget s x.ctxNo a0 (64 * n) true = .pa a → data.length = 64 * n → s.bring.lateDies = 0 →
      ∃ u, exec (.guestRequest g true dva n data be pm) s = .next u
        ∧ (∀ b, readByte u b = if a ≤ b ∧ b < a + 64 * n ∧ be.getD (b - a) true = true then data.getD (b - a) 0
            else readByte s b)
        ∧ u.sent = s.sent ++ [.guestMsg g 0x05 0 []] ∧ (u.guest g).faults = x.faults)
    ∧ (∀ (a : Nat) (bad map : List Bool), guestTarget s x.ctxNo a0 (64 * n) false = .pa a →
      bad = (linesOf a (64 * n)).map (fun l => rangeBad s l 64) →
      map = (if (s.link (4 + g)).version = 1 ∧ bad.any id = true then bad.map (fun _ => true) else bad) →
      ∃ u pre, exec (.guestRequest g false dva n data be pm) s = .next (sramSweep u) ∧ u.mem = s.mem
        ∧ u.sent = pre ++ [.guestMsg g 0x03 (packElems 1 (map.map b2n)) (readBytes s a (64 * n))]
        ∧ (bad.any id = false → pre = s.sent ∧ u.poison = s.poison ∧ u.cores = s.cores)))
  ∧ (∀ (g : Fin 2) (wr : Bool) (dva : W64) (n : Nat) (data : List Byte) (be pm : List Bool) (s : State),
    (s.pst ≠ .active ∨ (s.guest g).st ≠ 2 ∨ (s.guest g).removing = true ∨ (s.guest g).master = false) →
    exec (.guestRequest g wr dva n data be pm) s = .next s)
  ∧ (∀ (g : Fin 2) (w10 : Nat) (s : State) (x : Guest), x = s.guest g → x.st = 2 → x.removing = false →
    ∃ u, exec (.guestPowerSample g w10) s = .next u ∧ (u.guest g).samples = (w10 :: x.samples).take 100
      ∧ (u.guest g).high = (if 15 * x.budget < w10 then x.high + 1 else 0)
      ∧ (u.guest g).excess = (if avgOver ((w10 :: x.samples).take 100) (11 * x.budget) then x.excess + 1 else 0)
      ∧ ((u.guest g).removing = true ↔ 10000 ≤ (u.guest g).excess ∨ 10 ≤ (u.guest g).high)
      ∧ ((u.guest g).removing = true → (u.guest g).reason = 10)
      ∧ u.sent = s.sent ++ (if avgOver ((w10 :: x.samples).take 100) (10 * x.budget) = true
          ∧ avgOver x.samples (10 * x.budget) = false then [.guestMsg g 0x12 x.budget []] else [])
      ∧ SameUnits s u)
  ∧ (∀ (g : Fin 2) (w10 : Nat) (s : State) (x : Guest), x = s.guest g → (x.st ≠ 2 ∨ x.removing = true) →
    ∃ u, exec (.guestPowerSample g w10) s = .next u ∧ SameUnits s u
      ∧ u.guest g = { x with samples := (w10 :: x.samples).take 100, excess := 0, high := 0 })

/-- R461, R465, R466, R468 to R471: while a power-on sequence runs, a module's ready window without a CRC error closes, a
first one with errors retrains the module and is counted, a second one disables it, and either ends the sequence when it
fences the last Liram die in service; a port late by 5,900 ms is dropped; 6.0 s end the sequence in Standby; once no
criterion is left the package is Active, with the AGT valid, every enabled cluster in partition 0 and the ready interrupt
raised.
The model's own readings here: log 15. -/
def Obligations.SequencesFailOrBecomeReady : Prop :=
  (∀ (l : Fin 6) (m : Fin 16) (trained : Bool) (lanes : Nat) (s : State) (w : ReadyWin), s.bring.run = true →
    s.bring.wins.find? (fun v => v.link == l.val && v.mod == m.val) = some w → ctrGet (s.module l m).ctr 0x208 = 0 →
    (l.val < 4 → 12 ≤ (s.link l).usable) → (4 ≤ l.val → (s.guest (l.val - 4)).st = 1 → 0 < (s.link l).usable) →
    ∃ u, exec (.dieLinkWindow l m trained lanes) s = .next u ∧ u.links = s.links ∧ u.guests = s.guests
      ∧ u.bring.wins = (s.bring.wins.filter (fun v => v != w)).filter (fun v =>
          decide (4 ≤ v.link) || !s.bring.diesFenced.getLsbD v.link)
      ∧ u.bring.retrained = s.bring.retrained ∧ u.agt = s.agt ∧ SameUnits s u)
  ∧ (∀ (l : Fin 6) (m : Fin 16) (trained : Bool) (lanes : Nat) (s : State) (w : ReadyWin) (st : Nat),
    s.bring.run = true → s.bring.wins.find? (fun v => v.link == l.val && v.mod == m.val) = some w →
    ctrGet (s.module l m).ctr 0x208 ≠ 0 → st = windowState s l m w.second trained lanes →
    (diesUp s ≠ [l.val] ∨ 12 ≤ ((s.setModule l m { s.module l m with st := st }).link l).usable) →
    ∃ u, exec (.dieLinkWindow l m trained lanes) s = .next u ∧ (u.module l m).st = st ∧ SameUnits s u
      ∧ u.bring.retrained = (if w.second then s.bring.retrained else min 255 (s.bring.retrained + 1))
      ∧ (w.second = false → ctrGet (u.module l m).ctr 0x208 = 0))
  ∧ (∀ (l : Fin 6) (m : Fin 16) (trained : Bool) (lanes : Nat) (s : State) (w : ReadyWin) (st : Nat),
    s.bring.run = true → s.bring.wins.find? (fun v => v.link == l.val && v.mod == m.val) = some w →
    ctrGet (s.module l m).ctr 0x208 ≠ 0 → st = windowState s l m w.second trained lanes → diesUp s = [l.val] →
    ((s.setModule l m { s.module l m with st := st }).link l).usable < 12 →
    ∃ u, exec (.dieLinkWindow l m trained lanes) s = .next u ∧ u.pst = .standby ∧ u.bring.run = false
      ∧ u.bring.result = 2 ∧ u.bring.step = 6 ∧ u.bring.failCause = 7 ∧ RailsOff s u)
  ∧ (∀ (k : Fin 64) (s : State), s.bring.run = true → s.bring.ports.contains k.val = true →
    ∃ u, exec (.portDropped k) s = .next u ∧ (u.port k).st = .disabled ∧ (u.port k).en = false
      ∧ (u.port k).cause = (if 17000000 ≤ (ctrGet (s.port k).ctr 0x110).toNat then 7 else 9)
      ∧ u.bring.ports = setDel s.bring.ports k ∧ u.bring.portsDropped = s.bring.portsDropped + 1 ∧ PortFrame s u k)
  ∧ (∀ s : State, s.bring.run = true →
    ∃ u, exec .sequenceTimeLimit s = .next u ∧ u.pst = .standby ∧ u.bring.run = false ∧ u.bring.result = 2
      ∧ u.bring.failCause = 9 ∧ u.bring.step = stepReached s ∧ RailsOff s u)
  ∧ (∀ (ms : Nat) (s : State), s.bring.run = true → s.bring.step = 11 → s.bring.wins = [] → s.bring.ports = [] →
    ∃ u, exec (.ready ms) s = .next u ∧ u.pst = .active ∧ u.bring.run = false ∧ u.bring.result = 1
      ∧ u.bring.step = 12 ∧ u.bring.readyMs = ms % 65536 ∧ u.uptime = s.uptime + ms * 1000000 ∧ u.agt.valid = true
      ∧ u.agt.enabled = enabledCores s ∧ u.agt.cap = capEffective s ∧ u.agt.generation = s.agt.generation + 2
      ∧ (∀ d ∈ diesUp s, ∀ i, i < 8 → tabGet u.partOf 255 (8 * d + i) = 0)
      ∧ u.host.linkUp = (s.host.refclkA && !s.host.perst) ∧ u.host.irqStat.getLsbD 0 = true ∧ u.mem = s.mem
      ∧ u.queues = s.queues ∧ u.fuse = s.fuse)
  ∧ (∀ (ms : Nat) (s : State),
    (s.bring.run = false ∨ s.bring.step ≠ 11 ∨ s.bring.wins ≠ [] ∨ s.bring.ports ≠ []) → exec (.ready ms) s = .next s)
  ∧ (∀ (l : Fin 6) (m : Fin 16) (trained : Bool) (lanes : Nat) (k : Fin 64) (s : State), s.bring.run = false →
    exec (.dieLinkWindow l m trained lanes) s = .next s ∧ exec (.portDropped k) s = .next s
      ∧ exec .sequenceTimeLimit s = .next s)

/-! ### Packets at their target and at their source -/

/-- R217, R370, R384 to R387: a packet for another package goes on to the Up port of its route, with one hop more and its
buffer held until its flits leave, or is discarded and answered where no route is left or its hops are spent; a reserved
type is discarded and counted; this package answers a fabric read with its memory as it stands, stores a fabric write's
enabled bytes and no others, and raises a fence that admits remote signals; an access that no window admits is answered with
its STAT and changes nothing.
The model's own readings here: log 25. -/
def Obligations.FabricPacketsAreServed : Prop :=
  (∀ (k : Fin 64) (p q : Packet) (s : State), accepts s k = true → knownPtype p.ptype = true → p.rphase < 2 →
    p.dst ≠ devId s →
    q = { p with vc := arrivedVc s k p, hops := p.hops + 1, floors := 0, back := some (k.val, p.vc, p.floors),
                 rphase := if p.rphase = 1 ∧ p.via = devGroup (devId s) then 0 else p.rphase } →
    (∀ j, routePort s (routeMask s q.dst q.via q.rphase) q.vc = some j → p.hops < 15 → gSpent s k p = false →
      exec (.packetRoute k p) s = .next (queuePacket (arrive s k p) j q) ∧ portUp s j = true
        ∧ (routeMask s q.dst q.via q.rphase).testBit j = true)
    ∧ ((routePort s (routeMask s q.dst q.via q.rphase) q.vc = none ∨ 15 ≤ p.hops ∨ gSpent s k p = true) →
      exec (.packetRoute k p) s = .next (answerUnreach (takePacket s k p) p)))
  ∧ (∀ (k : Fin 64) (p : Packet) (s : State), accepts s k = true → (knownPtype p.ptype = false ∨ 2 ≤ p.rphase) →
    exec (.packetRoute k p) s = .next (fabCtr (takePacket s k p) 0x110 1))
  ∧ (∀ (k : Fin 64) (p : Packet) (s : State), accepts s k = true → p.dst = devId s → gSpent s k p = true →
    (p.ptype = 1 → exec (.rdReq k p) s = .next (answerUnreach (takePacket s k p) p))
    ∧ (p.ptype = 3 → exec (.cwWr k p) s = .next (answerUnreach (takePacket s k p) p))
    ∧ (p.ptype = 5 → exec (.fenceSig k p) s = .next (answerUnreach (takePacket s k p) p)))
  ∧ (∀ (k : Fin 64) (p : Packet) (s : State), mine s k p 1 = true →
    targetStat s p.src (packetAddr p) (64 * p.nlines) false = 0 →
    exec (.rdReq k p) s = .next (sramSweep (answer (detect (takePacket s k p) (packetAddr p) (64 * p.nlines)) p {
      ptype := 2, dst := 0, src := 0, nlines := p.nlines, laddr := p.laddr
      data := readBytes s (packetAddr p) (64 * p.nlines)
      pmap := if (linesOf (packetAddr p) (64 * p.nlines)).any (fun l => rangeBad s l 64) then
        (linesOf (packetAddr p) (64 * p.nlines)).map (fun l => rangeBad s l 64) else [] })))
  ∧ (∀ (k : Fin 64) (p : Packet) (s : State), mine s k p 1 = true →
    targetStat s p.src (packetAddr p) (64 * p.nlines) false ≠ 0 →
    exec (.rdReq k p) s = .next (answer (takePacket s k p) p {
      ptype := 2, dst := 0, src := 0, stat := targetStat s p.src (packetAddr p) (64 * p.nlines) false }))
  ∧ (∀ (k : Fin 64) (p : Packet) (s : State), mine s k p 3 = true →
    p.data.length = 64 * p.nlines → s.bring.lateDies = 0 →
    targetStat s p.src (packetAddr p) (64 * p.nlines) true = 0 →
    ∃ u, exec (.cwWr k p) s = .next (answer u p { ptype := 4, dst := 0, src := 0 })
      ∧ (∀ b, readByte u b = if packetAddr p ≤ b ∧ b < packetAddr p + 64 * p.nlines
          ∧ p.be.getD (b - packetAddr p) true = true then p.data.getD (b - packetAddr p) 0 else readByte s b)
      ∧ u.fences = s.fences ∧ u.numx = s.numx)
  ∧ (∀ (k : Fin 64) (p : Packet) (s : State), mine s k p 3 = true →
    targetStat s p.src (packetAddr p) (64 * p.nlines) true ≠ 0 →
    ∃ u, exec (.cwWr k p) s = .next u ∧ SameUnits s u ∧ u = answer (takePacket s k p) p {
      ptype := 4, dst := 0, src := 0, stat := targetStat s p.src (packetAddr p) (64 * p.nlines) true })
  ∧ (∀ (k : Fin 64) (p : Packet) (s : State), mine s k p 5 = true →
    (s.fence (tokenCtr p.token.toNat)).remote = true →
    exec (.fenceSig k p) s = .next (answer
      (fenceRaise (takePacket s k p) (tokenCtr p.token.toNat) (tokenVal p.token.toNat)) p { ptype := 6, dst := 0, src := 0 }))
  ∧ (∀ (k : Fin 64) (p : Packet) (s : State), mine s k p 5 = true →
    (s.fence (tokenCtr p.token.toNat)).remote = false →
    ∃ u, exec (.fenceSig k p) s = .next (answer u p { ptype := 6, dst := 0, src := 0, stat := 3 }) ∧ SameUnits s u)

/-- R217, R332, R385: an answer reaches the request of its TID and sender: read data goes to the waiting pieces of a Heron
request, poisoned where the answer says so, or poisoned free values where its die is fenced; an acknowledged write retires;
STAT 3 and no route end the command's stream with their statuses; a fence signal completes; a request without an answer in
time ends as without a route; an answer whose request is gone is dropped.
The model's own readings here: log 25. -/
def Obligations.FabricAnswersReachTheirRequests : Prop :=
  (∀ (k : Fin 64) (p : Packet) (s u : State) (r : FabReq) (c e id : Nat) (h : HRun) (q : HReq), mine s k p 2 = true →
    takeRequest (takePacket s k p) p.tid p.src = some (r, u) → r.owner = .heron c e id → r.wr = false →
    findReq u ⟨c, e, id⟩ = some (h, q) → q.wr = false →
    (p.stat = 0 → exec (.rdRsp k p) s = .next (sramSweep (deliverSegs u ⟨c, e, id⟩ (fun _ => true) (fun _ gs =>
      dataChunks (q.far / 64 * 64) p.data (fun a => p.pmap.getD ((a - q.far / 64 * 64) / 64) false) gs))))
    ∧ (p.stat = 1 → ∃ v bs, exec (.rdRsp k p) s = .next (sramSweep (deliverSegs v ⟨c, e, id⟩ (fun _ => true) (fun _ gs =>
        dataChunks (q.far / 64 * 64) bs (fun _ => true) gs))) ∧ SameUnits u v)
    ∧ (p.stat = 2 → exec (.rdRsp k p) s = .next (sramSweep (failReq u ⟨c, e, id⟩ 0x69 q.num)))
    ∧ (2 < p.stat → exec (.rdRsp k p) s = .next (sramSweep (failReq u ⟨c, e, id⟩ 0x21 q.num))))
  ∧ (∀ (k : Fin 64) (p : Packet) (s u : State) (r : FabReq) (c e id : Nat) (h : HRun) (q : HReq), mine s k p 4 = true →
    takeRequest (takePacket s k p) p.tid p.src = some (r, u) → r.owner = .heron c e id → r.wr = true →
    findReq u ⟨c, e, id⟩ = some (h, q) → q.wr = true →
    (p.stat = 0 → exec (.cwWrAck k p) s = .next (sramSweep (heronRetire (keepSegs u ⟨c, e, id⟩ (fun _ => false)) c e id)))
    ∧ (p.stat = 1 → exec (.cwWrAck k p) s
        = .next (sramSweep (heronRetire (keepSegs (heronDiscard u c e q.far) ⟨c, e, id⟩ (fun _ => false)) c e id)))
    ∧ (p.stat = 2 → exec (.cwWrAck k p) s = .next (sramSweep (failReq u ⟨c, e, id⟩ 0x69 q.num)))
    ∧ (2 < p.stat → exec (.cwWrAck k p) s = .next (sramSweep (failReq u ⟨c, e, id⟩ 0x21 q.num))))
  ∧ (∀ (k : Fin 64) (p : Packet) (s u : State) (r : FabReq) (c : CmdRef), mine s k p 6 = true →
    takeRequest (takePacket s k p) p.tid p.src = some (r, u) → r.owner = .fence c →
    (p.stat = 0 → ∃ x, exec (.fenceAck k p) s = .next (complete { u with freeN := u.freeN + 1 } c { res1 := x })
      ∧ x < 2 ^ 38)
    ∧ (p.stat = 2 → exec (.fenceAck k p) s = .next (completeSt u c 0x69))
    ∧ (p.stat = 3 → exec (.fenceAck k p) s = .next (completeSt u c 0x68)))
  ∧ (∀ (k : Fin 64) (p : Packet) (s : State), takeRequest (takePacket s k p) p.tid p.src = none →
    (mine s k p 2 = true → exec (.rdRsp k p) s = .next (takePacket s k p))
    ∧ (mine s k p 4 = true → exec (.cwWrAck k p) s = .next (takePacket s k p))
    ∧ (mine s k p 6 = true → exec (.fenceAck k p) s = .next (takePacket s k p)))
  ∧ (∀ (tid : Fin 65536) (s : State) (r : FabReq), s.fab.reqs.find? (fun x => x.tid == tid.val) = some r →
    (∀ c, r.owner = .fence c → exec (.fabricTimeout tid) s
      = .next (completeSt { s with fab := { s.fab with reqs := s.fab.reqs.erase r } } c 0x69))
    ∧ (∀ c e id h q, r.owner = .heron c e id → findReq s ⟨c, e, id⟩ = some (h, q) → exec (.fabricTimeout tid) s
      = .next (failReq { s with fab := { s.fab with reqs := s.fab.reqs.erase r } } ⟨c, e, id⟩ 0x69 q.num)))
  ∧ (∀ (s u : State) (tid dev : Nat) (r : FabReq), takeRequest s tid dev = some (r, u) →
    r ∈ s.fab.reqs ∧ r ∉ u.fab.reqs ∧ (∀ x ∈ s.fab.reqs, x ≠ r → x ∈ u.fab.reqs) ∧ SameUnits s u)

/-! ### The matrix array and the drains -/

/-- R72 to R76, R80 to R84, R113: a tile operation that may start fills every element of its bank with its groups added in
order, from zero under INIT, and waits for its completion; the other bank, memory and the other cores' arrays stay; an
injected parity error strikes it and halts the core. One that may not start completes with its status, and the oldest issued
one completes with its clocks and saturations.
The model's own readings here: log 20. -/
def Obligations.TilesRunAndComplete : Prop :=
  (∀ (p : Fin 256) (w : MxaWaits) (s : State) (c : CmdRef) (r : Rec), mxaReady s p = true →
    pickRef (s.core p).mxa.waiting (s.core p).mxa.lastQ (tileReady s p) = some c → findRec s c = some r →
    tileStart (s.core p).mxa c.q r = 0 →
    ∃ u, exec (.tileIssue p w) s = .next (sramSweep (if (s.core p).ras.injMxa = true ∧ tileEmpty r = false
        then parityHalt (u.setCore p { u.core p with ras := { (u.core p).ras with injMxa := false } }) p 0 else u))
      ∧ ((u.core p).mxa.bank (r.b 82)).st = .opened
      ∧ (tileEmpty r = true → ((u.core p).mxa.bank (r.b 82)).tile
          = if r.b 83 then [] else ((s.core p).mxa.bank (r.b 82)).tile)
      ∧ (tileEmpty r = false → ∀ i j, i < 128 → j < 128 →
          tileAt ((u.core p).mxa.bank (r.b 82)).tile i j
            = (cellRun s p r (operandClass (tileA r).fmt == some 4)
                (groupSize ((pairRate4 (tileA r).fmt (tileB r).fmt).getD 4))
                (if r.b 83 then 0 else tileAt ((s.core p).mxa.bank (r.b 82)).tile i j) i j).1 % 2 ^ 40)
      ∧ (u.core p).mxa.bank (!r.b 82) = (s.core p).mxa.bank (!r.b 82)
      ∧ (u.core p).mxa.waiting = (s.core p).mxa.waiting.filter (fun y => y != c)
      ∧ (∃ o : TileOp, (u.core p).mxa.issued = (s.core p).mxa.issued ++ [o] ∧ o.ref = c)
      ∧ (u.core p).mxa.peat = (s.core p).mxa.peat ∧ (u.core p).mxa.lagg = (s.core p).mxa.lagg
      ∧ (∀ n, n ≠ p.val → (u.core n).mxa = (s.core n).mxa) ∧ u.mem = s.mem ∧ u.numx = s.numx ∧ u.fences = s.fences)
  ∧ (∀ (p : Fin 256) (w : MxaWaits) (s : State) (c : CmdRef) (r : Rec), mxaReady s p = true →
    pickRef (s.core p).mxa.waiting (s.core p).mxa.lastQ (tileReady s p) = some c → findRec s c = some r →
    tileStart (s.core p).mxa c.q r ≠ 0 →
    exec (.tileIssue p w) s
      = .next (sramSweep (completeSt (mxaStalls (mxaTake s p c) p w) c (tileStart (s.core p).mxa c.q r))))
  ∧ (∀ (p : Fin 256) (w : MxaWaits) (s : State),
    (mxaReady s p = false ∨ pickRef (s.core p).mxa.waiting (s.core p).mxa.lastQ (tileReady s p) = none) →
    exec (.tileIssue p w) s = .next s)
  ∧ (∀ (p : Fin 256) (s : State) (o : TileOp) (t : List TileOp), (s.core p).mxa.issued = o :: t →
    exec (.tileComplete p) s = .next (complete (setMxa s p { (s.core p).mxa with issued := t }) o.ref {
        res0 := satW 32 o.ovf, res1 := satW 32 o.g + satW 32 o.waited * 2 ^ 32, poison := o.poison }))

/-- R83 to R85, R93 to R95, R105, R106, R113, R271, R272, R277, R278: the next drain of a core that fails its checks completes
with their status, else takes the pipeline; one that may read its rows frees its bank and fills its lagg slot, writes its
rows, or adds into its split-K entry, or, as a step's scaling drain, fills the cold buffer and claims its entry; the hub's
answer sets the scale and runs pass 2 once its lagg slot is free; two ticks without an answer fail a waiting drain; words of
a Peat entry found uncorrectable poison their elements; an injected parity error halts the core; Wisp's result frees the
unit and records an excursion where its error or a lost value calls for one.
The model's own readings here: log 20, 21 and 22. -/
def Obligations.DrainsRunInOneOrTwoPasses : Prop :=
  (∀ (p : Fin 256) (dt : Nat) (words : List Nat) (s : State), mxaReady s p = true →
    ((s.core p).mxa.drainWait = none → exec (.drainStart p ⟨dt, words⟩) s = .next (drainHead s dt p words false))
    ∧ (∀ w r, (s.core p).mxa.drainWait = some w → findRec s w.ref = some r →
        exec (.drainStart p ⟨dt, words⟩) s = .next (if drainCan s p w.ref.q r = true
          then sramSweep (drainGo s dt p words w.ref r) else drainHead s dt p words true)))
  ∧ (∀ (p : Fin 256) (dt : Nat) (words : List Nat) (s : State), mxaReady s p = false →
    exec (.drainStart p ⟨dt, words⟩) s = .next s)
  ∧ (∀ (p dt : Nat) (words : List Nat) (busy : Bool) (s : State) (c : CmdRef) (r : Rec) (h : Nat),
    drainChoice s p = some c → findRec s c = some r →
    h = (if busy then drainBank (s.core p).mxa c.q r else drainStart s p c.q r) →
    (h ≠ 0 → ∃ u, drainHead s dt p words busy = complete u c { status := h, cold := drainsCold s c.q r }
        ∧ u.mem = s.mem ∧ u.numx = s.numx ∧ (u.core p).mxa.lagg = (s.core p).mxa.lagg
        ∧ (u.core p).mxa.bankA = (s.core p).mxa.bankA ∧ (u.core p).mxa.bankB = (s.core p).mxa.bankB)
    ∧ (h = 0 → busy = true → drainHead s dt p words busy = s)
    ∧ (h = 0 → busy = false → (r.isFlush = true → ((s.core p).mxa.peatAt r.dEntry).st ≠ .empty) →
        ∃ v, drainHead s dt p words busy
            = (if drainCan v p c.q r = true then sramSweep (drainGo v dt p words c r) else v)
          ∧ (v.core p).mxa.drainWait = some ⟨c, r.at_⟩ ∧ v.mem = s.mem ∧ (v.core p).mxa.peat = (s.core p).mxa.peat
          ∧ (r.isFlush = false → ((v.core p).mxa.bank r.dBank).st = .draining
              ∧ ((v.core p).mxa.bank r.dBank).tile = ((s.core p).mxa.bank r.dBank).tile))
    ∧ (h = 0 → busy = false → r.isFlush = true → ((s.core p).mxa.peatAt r.dEntry).st = .empty →
        ∃ u f, drainHead s dt p words busy = drainEnd u p c r f ∧ f.status = 0 ∧ f.amax = 0
          ∧ f.cold = drainsCold s c.q r ∧ u.mem = s.mem ∧ (u.core p).mxa.peat = (s.core p).mxa.peat))
  ∧ (∀ (p dt : Nat) (words : List Nat) (s t : State) (c : CmdRef) (r : Rec) (vals : List Nat),
    ((s.core p).ras.injDrain = false ∨ r.dM = 0 ∨ r.dN = 0) → t = drainSeen s p words c r → vals = drainVals s p words c r →
    (needsScale s c.q r = false → ∃ w f, drainGo s dt p words c r = drainOnce w dt p c r vals f
      ∧ (r.isFlush = false → (w.core p).mxa.bank r.dBank = {}) ∧ (w.core p).mxa.drainWait = none ∧ w.mem = s.mem
      ∧ (w.core p).mxa.peat = (t.core p).mxa.peat ∧ (w.core p).mxa.lagg = (s.core p).mxa.lagg
      ∧ (w.core p).mxa.laggNext = (s.core p).mxa.laggNext ∧ (w.core p).mxa.laggSeq = (s.core p).mxa.laggSeq
      ∧ f.amax = ceilF32 (amaxVal vals) ∧ f.cold = drainsCold t c.q r ∧ f.status = 0)
    ∧ (needsScale s c.q r = true →
      ∃ u d, drainGo s dt p words c r = u ∧ (r.isFlush = false → (u.core p).mxa.bank r.dBank = {})
        ∧ (u.core p).mxa.scaling = some d ∧ d.ref = c ∧ d.t = finiteMax vals ∧ d.vals = vals.map (BitVec.ofNat 40)
        ∧ d.answered = false ∧ (u.entry (s.queue c.q).part r.dTid).scaling = true ∧ u.mem = s.mem
        ∧ (u.core p).mxa.peat = (t.core p).mxa.peat ∧ (u.core p).mxa.lagg = (s.core p).mxa.lagg))
  ∧ (∀ (p dt : Nat) (words : List Nat) (s : State) (c : CmdRef) (r : Rec), (s.core p).ras.injDrain = true →
    r.dM ≠ 0 → r.dN ≠ 0 → ∃ v, drainGo s dt p words c r = parityHalt v p 2 ∧ v.mem = s.mem
      ∧ (v.core p).ras.injDrain = false)
  ∧ (∀ (p dt : Nat) (s : State) (c : CmdRef) (r : Rec) (vals : List Nat) (f : DrainFin) (o : TileOut),
    r.isFlush = false → o = encodeTile r (drainExp s p c r) vals .acc35 →
    (r.dDest = 2 → ∃ u, drainOnce s dt p c r vals f = u
      ∧ (u.core p).mxa.peatAt r.dPeat = {
          st := .held, owner := c.q
          tile := if r.dFirst then peatCopy r vals else peatAdd r vals ((s.core p).mxa.peatAt r.dPeat).tile }
      ∧ (∀ e, e ≠ r.dPeat → (u.core p).mxa.peatAt e = (s.core p).mxa.peatAt e)
      ∧ (u.core p).mxa.lagg = (s.core p).mxa.lagg ∧ (u.core p).mxa.scaling = (s.core p).mxa.scaling)
    ∧ (r.dDest = 1 → ∃ u, drainOnce s dt p c r vals f = u
      ∧ tabGet (u.core p).mxa.lagg {} (s.core p).mxa.laggNext = laggFill r c.q (s.core p).mxa.laggSeq o
      ∧ (u.core p).mxa.laggNext = ((s.core p).mxa.laggNext + 1) % 8
      ∧ (u.core p).mxa.laggSeq = (s.core p).mxa.laggSeq + 1 ∧ (u.core p).mxa.peat = (s.core p).mxa.peat)
    ∧ (r.dDest = 0 → ∃ w g, drainOnce s dt p c r vals f
        = drainEnd (drainRows w dt p c.q r (if r.dN = 0 then [] else (upTo r.dM).map (rowOut r o))).1 p c r g
      ∧ w.mem = s.mem ∧ w.xlat = s.xlat ∧ g.amax = f.amax ∧ g.ovf = o.ovf
      ∧ g.status = (drainRows w dt p c.q r (if r.dN = 0 then [] else (upTo r.dM).map (rowOut r o))).2))
  ∧ (∀ (p e : Nat) (ws : List Nat) (s : State),
    (∀ i j, i < 128 → j < 128 → tileAt ((peatDetect s p e ws).core p |>.mxa.peatAt e).tile i j
      = if inWords ws (128 * i + j) then poisonNan else tileAt ((s.core p).mxa.peatAt e).tile i j)
    ∧ ((peatDetect s p e ws).core p).ras.uncorr.length = (s.core p).ras.uncorr.length + ws.length
    ∧ (peatDetect s p e ws).mem = s.mem)
  ∧ (∀ (p : Fin 256) (cold dt : Nat) (s v : State) (d : ScalingDrain) (r : Rec), mxaReady s p = true →
    (s.core p).mxa.scaling = some d → findRec s d.ref = some r →
    v = (if d.answered then s else numxCtr (scaleAnswer s (s.queue d.ref.q).part r.dTid d.t) 0x198 1) →
    ((r.dDest = 1 → (s.core p).mxa.slotFree = true) →
      exec (.scaleAnswer p cold dt) s = .next (sramSweep (drainPass2 v dt p cold d r)))
    ∧ (r.dDest = 1 → (s.core p).mxa.slotFree = false →
      exec (.scaleAnswer p cold dt) s
        = .next (setMxa v p { (v.core p).mxa with scaling := some { d with answered := true } })))
  ∧ (∀ (dt p cold : Nat) (s : State) (d : ScalingDrain) (r : Rec),
    ∃ v o f y, y = drainPut v dt p d.ref.q r o
      ∧ drainPass2 s dt p cold d r = drainEnd (if r.isFlush = true ∧ y.2.1 = 0
          then setMxa y.1 p ((y.1.core p).mxa.setPeat r.dEntry {}) else y.1) p d.ref r f
      ∧ (v.core p).mxa.scaling = none ∧ (v.core p).mxa.coldBuf = [] ∧ v.mem = s.mem
      ∧ f.amax = d.amax ∧ f.cold = d.cold ∧ f.cycles = cold ∧ f.status = y.2.1)
  ∧ (∀ (s : State) (n i : Nat) (tv : Val) (x : Int), i < 65536 →
    target (s.entry n i).kind (if (s.entry n i).force then tv else histMax2 ((s.entry n i).histMax (s.entry n i).filled) tv)
      (s.entry n i).coldMargin = some x →
    (scaleAnswer s n i tv).entry n i = { s.entry n i with
      exp := x, scaleSet := true, coldScaled := true, force := false, scaling := false })
  ∧ (∀ (p : Fin 256) (s : State) (c : CmdRef) (since : Nat) (r : Rec), mxaReady s p = true →
    (s.core p).mxa.drainWait = some ⟨c, since⟩ → findRec s c = some r → needsScale s c.q r = true →
    isScaling s c.q r = false → since + 2 * tickStep s.tick.sel ≤ s.tick.last →
    ∃ u, exec (.scaleWaitTimeout p) s = .next (complete u c { status := 0x0A, cold := drainsCold s c.q r })
      ∧ (u.core p).mxa.drainWait = none
      ∧ (r.isFlush = false → ((u.core p).mxa.bank r.dBank).st = .opened
          ∧ ((u.core p).mxa.bank r.dBank).tile = ((s.core p).mxa.bank r.dBank).tile)
      ∧ u.mem = s.mem ∧ u.queues = s.queues)
  ∧ (∀ (p : Fin 256) (s : State) (w : WispTask) (err : Nat), (s.core p).mxa.wisp = some w →
    (∀ d, (s.core p).mxa.scaling = some d → d.wispSel = false) →
    err = divF32 (sqrtF32 (decodeS .acc35 (wispSums w).1)) (sqrtF32 (decodeS .acc35 (wispSums w).2.1)) →
    ∃ u, exec (.wispResult p) s = .next u ∧ (u.core p).mxa = { (s.core p).mxa with wisp := none } ∧ u.mem = s.mem
      ∧ u.queues = s.queues
      ∧ ((wispLost w = true ∨ (wispSums w).2.2 = true
            ∨ (Val.fin false 1 (-(bits (wispCtrl s w.part) 39 32 : Int))).lt (decodeS .fp32 err) = true) → w.tid < 65536 →
          (u.entry w.part w.tid).wispExc = satAdd 32 (s.entry w.part w.tid).wispExc 1
          ∧ (u.entry w.part w.tid).wispStep = (s.entry w.part w.tid).commits
          ∧ (u.entry w.part w.tid).force = ((s.entry w.part w.tid).force || (wispCtrl s w.part).testBit 1)))

/-! ### The Heron engines and the copies of lines -/

/-- R154, R158 to R165, R168, R172, R180: a running engine forms its next item: a request in flight while fewer than 24
are and no earlier write holds it back, a walk for an address that the TLB does not hold, a fault where the leaf, the target
or the declared region forbids it, zeros for a skipped element under ZERO_FILL; or its next prefetch, whose lines enter the
prefetches in flight; a walk's leaf enters the TLB; read data reaches the core store, an acknowledged write retires, a
prefetched line is staged; the scrubber counts a corrected error and marks an uncorrectable unit.
The model's own readings here: log 24. -/
def Obligations.HeronEnginesMoveTheirStreams : Prop :=
  (∀ (p : Fin 256) (e : Bool) (dt : Nat) (bad : List Nat) (s : State) (r : Rec) (h : HRun),
    HeronRuns s p (engNo e) r h →
    exec (.heronRequestIssue p e false ⟨dt, bad⟩) s
      = .next (sramSweep (heronCheck (demandItem s dt p (engNo e) r bad h) p (engNo e))))
  ∧ (∀ (p : Fin 256) (e : Bool) (dt : Nat) (bad : List Nat) (s : State) (r : Rec) (h : HRun), s.pst = .active →
    coreOn s p = true → (s.heng p (engNo e)).run = some h → findRec s h.ref = some r →
    exec (.heronRequestIssue p e true ⟨dt, bad⟩) s = .next (sramSweep (heronCheck
      (if mayPrefetch s p (engNo e) r h = true then prefetchStep s p (engNo e) r h else s) p (engNo e))))
  ∧ (∀ (p : Fin 256) (e pf : Bool) (dt : Nat) (bad : List Nat) (s : State),
    (s.pst ≠ .active ∨ coreOn s p = false ∨ (s.heng p (engNo e)).run = none) →
    exec (.heronRequestIssue p e pf ⟨dt, bad⟩) s = .next s)
  ∧ (∀ (p e dt : Nat) (bad : List Nat) (s : State) (r : Rec) (h : HRun), (s.heng p e).run = some h →
    heronItem s p r h.cur = .done →
    demandItem s dt p e r bad h = s.setHeng p e { s.heng p e with run := some { h with allIssued := true } })
  ∧ (∀ (p e dt near len : Nat) (bad : List Nat) (s u : State) (r : Rec) (h : HRun), (s.heng p e).run = some h →
    heronItem s p r h.cur = .skip near len → u = demandItem s dt p e r bad h →
    (r.hZero = true → ∀ a, readByte u a = if csAddr p near ≤ a ∧ a < csAddr p near + len then 0 else readByte s a)
      ∧ (r.hZero = false → u.mem = s.mem) ∧ (u.heng p e).run = some { h with cur := h.cur.next })
  ∧ (∀ (p e dt near len : Nat) (far : Int) (bad : List Nat) (s u : State) (r : Rec) (h : HRun),
    (s.heng p e).run = some h → heronItem s p r h.cur = .move far near len → h.cur.ofs = 0 →
    regionOk r far len = false → h.fault = none → u = demandItem s dt p e r bad h →
    (u.heng p e).run = some { h with fault := some (0x23, h.cur.num) } ∧ (u.heng p e).st = 3 ∧ u.mem = s.mem)
  ∧ (∀ (p e dt near len a : Nat) (far : Int) (bad : List Nat) (s : State) (r : Rec) (h : HRun) (found : Option Leaf),
    (s.heng p e).run = some h → heronItem s p r h.cur = .move far near len →
    (h.cur.ofs ≠ 0 ∨ regionOk r far len = true) → a = (far + h.cur.ofs).toNat →
    found = tlbFind s p (s.queue h.ref.q).ctxNo a →
    (24 ≤ (s.core p).heron.outstanding e → demandItem s dt p e r bad h = s)
    ∧ ((s.core p).heron.outstanding e < 24 → r.hFab = true →
        demandItem s dt p e r bad h = issueAt s dt p e r bad h.cur a none)
    ∧ ((s.core p).heron.outstanding e < 24 → r.hFab = false → found = none → walksOn s p < 16 →
        ((demandItem s dt p e r bad h).heng p e).walk = some a ∧ (demandItem s dt p e r bad h).mem = s.mem
          ∧ ctrGet ((demandItem s dt p e r bad h).core p).ctr 0x198 = ctrGet (s.core p).ctr 0x198 + 1)
    ∧ ((s.core p).heron.outstanding e < 24 → r.hFab = false → found = none → 16 ≤ walksOn s p →
        demandItem s dt p e r bad h = s.setHeng p e { s.heng p e with st := 2 })
    ∧ (∀ (lf : Leaf) (f : Nat), (s.core p).heron.outstanding e < 24 → r.hFab = false → found = some lf →
        leafGrant lf a r.hDir = .fault f → h.fault = none →
        ((demandItem s dt p e r bad h).heng p e).run = some { h with fault := some (f, h.cur.num) }
          ∧ (demandItem s dt p e r bad h).mem = s.mem)
    ∧ (∀ (lf : Leaf) (x st : Nat), (s.core p).heron.outstanding e < 24 → r.hFab = false → found = some lf →
        leafGrant lf a r.hDir = .pa x → paStatus s x = some st → h.fault = none →
        ((demandItem s dt p e r bad h).heng p e).run = some { h with fault := some (st, h.cur.num) }
          ∧ (demandItem s dt p e r bad h).mem = s.mem)
    ∧ (∀ (lf : Leaf) (x : Nat), (s.core p).heron.outstanding e < 24 → r.hFab = false → found = some lf →
        leafGrant lf a r.hDir = .pa x → paStatus s x = none →
        demandItem s dt p e r bad h = issueAt s dt p e r bad h.cur a (some x)))
  ∧ (∀ (p e dt a : Nat) (pa : Option Nat) (bad : List Nat) (s : State) (r : Rec) (h : HRun), (s.heng p e).run = some h →
    (writeWaits s p e r a pa (reqTotal s p e r h) = true → issueAt s dt p e r bad h.cur a pa = s)
    ∧ (∀ x, pa = some x → inHbm x = true → writeWaits s p e r a pa (reqTotal s p e r h) = false →
        ∃ k q, ((issueAt s dt p e r bad h.cur a pa).heng p e).run = some k ∧ k.out = h.out ++ [q] ∧ q.far = x
          ∧ q.wr = r.hDir ∧ q.num = h.cur.num ∧ k.reqs = h.reqs + 1))
  ∧ (∀ (p e id l : Nat) (s : State) (r : Rec) (h : HRun), (s.core p).heron.stage.any (fun x => x.addr == l) = false →
    flightOf s p l = none →
    (homeDie l ≠ p / 64 → (s.die (p / 64)).rc.any (fun y => y.addr == l) = false ∧ r.hNoAlloc = false) →
    ((prefetchLine p e r h id l s).core p).heron.flight
      = (s.core p).heron.flight ++ [⟨l, e, id, h.ref, homeDie l != p / 64, [], []⟩])
  ∧ (∀ (p : Fin 256) (e : Bool) (s : State) (va : Nat) (h : HRun) (l : Leaf) (a : Nat),
    (s.heng p (engNo e)).walk = some va → (s.heng p (engNo e)).run = some h →
    walk s (s.queue h.ref.q).ctxNo va = some l →
    leafGrant l va (match findRec s h.ref with | some r => r.hDir | none => false) = .pa a →
    ∃ u, exec (.pageWalk p e) s = .next u ∧ (u.heng p (engNo e)).walk = none
      ∧ (u.heng p (engNo e)).run = some h ∧ l ∈ (u.core p).heron.tlb ∧ u.mem = s.mem ∧ u.queues = s.queues)
  ∧ (∀ (p : Fin 256) (e : Bool) (id dt : Nat) (data : List Byte) (err : Bool) (s : State) (h : HRun) (q : HReq) (g : HSeg),
    findReq s ⟨p, engNo e, id⟩ = some (h, q) → q.wr = false → q.dev = none → inHbm q.far = true → q.segs = [g] →
    g.wait = false → inHbm (g.far + g.len - 1) = true → rangeBad s g.far g.len = false →
    ∃ u, exec (.heronReadResponse p e id dt data err) s
        = .next (sramSweep (heronRetire (keepSegs u ⟨p, engNo e, id⟩ (fun x => x.wait)) p (engNo e) id))
      ∧ (∀ a, readByte u a = if csAddr p g.near ≤ a ∧ a < csAddr p g.near + g.len then
          readByte s (g.far + (a - csAddr p g.near)) else readByte s a))
  ∧ (∀ (p : Fin 256) (e : Bool) (id dt : Nat) (data : List Byte) (s : State) (h : HRun) (q : HReq) (g : Nat),
    findReq s ⟨p, engNo e, id⟩ = some (h, q) → q.wr = false → q.dev = none → guestOf q.far = some g →
    guestServes s g q.far = true → (q.segs.filter (fun x => !x.wait)) ≠ [] → data.length = q.total →
    exec (.heronReadResponse p e id dt data false) s = .next (sramSweep (deliverSegs s ⟨p, engNo e, id⟩
      (fun x => !x.wait) (fun _ gs => dataChunks q.far data (fun _ => false) gs))))
  ∧ (∀ (p : Fin 256) (e : Bool) (id : Nat) (s : State) (h : HRun) (q : HReq),
    findReq s ⟨p, engNo e, id⟩ = some (h, q) → q.wr = true →
    ((∀ g, q.dev = none → guestOf q.far = some g → guestServes s g q.far = true) → exec (.heronWriteAck p e id) s
      = .next (heronRetire (keepSegs s ⟨p, engNo e, id⟩ (fun x => x.wait)) p (engNo e) id))
    ∧ (∀ g, q.dev = none → guestOf q.far = some g → guestServes s g q.far = false → exec (.heronWriteAck p e id) s
      = .next (heronRetire (keepSegs (guestWindowErr s p (engNo e) g q.far) ⟨p, engNo e, id⟩ (fun x => x.wait))
          p (engNo e) id)))
  ∧ (∀ (p : Fin 256) (i : Nat) (s : State) (f : PfLine), (s.core p).heron.flight[i]? = some f → f.remote = false →
    exec (.prefetchFill p i) s = .next (fillPrefetch (readLine s f.addr).1 p f.addr true (readBytes s f.addr 64)
      ((upTo 8).map (fun k => rangeBad s (f.addr + 8 * k) 8))))
  ∧ (∀ (s : State) (p l q : Nat) (used : Bool), (s.core p).heron.stage.length ≤ 2048 →
    ((stageLine s p l q used).core p).heron.stage.getLast? = some ⟨l, used, q⟩
      ∧ ((stageLine s p l q used).core p).heron.stage.length ≤ 2048 ∧ (stageLine s p l q used).mem = s.mem)
  ∧ (∀ (a : Nat) (s : State), s.pst = .active → (inHbm a || inCs a) = true → paStatus s a = none → lateDie s a = false →
    (∃ u, exec (.scrub a 2) s = .next (sramSweep u) ∧ u.poison.contains (unitOf a) = true
      ∧ u.latent.contains (unitOf a) = false ∧ u.mem = s.mem)
    ∧ (s.latent.contains (unitOf a) = false →
        exec (.scrub a 0) s = .next (sramSweep s)
        ∧ exec (.scrub a 1) s = .next (sramSweep (if inCs a = true then coreCtr s (csCore a) 0x1C8 1
            else { s with hbmCorr := ctrAdd s.hbmCorr (homeStack a) 1 }))))

/-- R345 to R352: an RD is answered with the line as it stands, or enters K's directory, which marks the sharer as being
filled and asks the home, or waits while its line is being invalidated or its set has no room, for which K invalidates a
victim; a WR stores its bytes and no others and is acknowledged once no remote copy is recorded; an INV reaches every
sharer, drops the copy and is acknowledged; the last acknowledgement frees the entry and releases the waiting write; an
EVICT_NOTE takes its sharer out unless it crosses a fill or an INV; FDEC lowers the line's filter counter.
The model's own readings here: log 18 and 24. -/
def Obligations.DieMessagesKeepCopiesCoherent : Prop :=
  (∀ (i : Nat) (s : State) (m : DieMsg), Arrives s i 1 m → s.agt.diesActive.getLsbD m.die = true →
    (m.toK = false ∨ inCs m.line = true ∨ lateDie s m.line = true) →
    ∃ u bad, exec (.rd i) s = .next (sramSweep u) ∧ DieFrame s u ∧ u.dir = s.dir
      ∧ u.msgs = s.msgs.eraseIdx i ++ [{ mtype := 3, line := m.line, die := m.die, req := m.req
                                         data := readBytes s m.line 64, bad := bad }])
  ∧ (∀ (i : Nat) (s : State) (m : DieMsg) (set : List DirEntry), Arrives s i 1 m →
    s.agt.diesActive.getLsbD m.die = true → m.toK = true → inCs m.line = false → lateDie s m.line = false →
    set = s.dir.filter (fun x => dirSet x.line == dirSet m.line) →
    (sentBefore s i (fun x => x.mtype == 9 && x.line == m.line && x.die == m.die) = true →
      exec (.rd i) s = .next (sramSweep s))
    ∧ (sentBefore s i (fun x => x.mtype == 9 && x.line == m.line && x.die == m.die) = false →
      (∀ e, dirFind s m.line = some e → e.home = false → e.acks = 0 →
        ∃ u, exec (.rd i) s = .next (sramSweep u) ∧ DieFrame s u
          ∧ dirFind u m.line = some { e with sharers := e.sharers ||| dieBit m.die, fill := e.fill ||| dieBit m.die }
          ∧ (∀ l, l ≠ m.line → dirFind u l = dirFind s l)
          ∧ u.msgs = s.msgs.eraseIdx i ++ [{ m with mtype := 2, flag := false }])
      ∧ (∀ e, dirFind s m.line = some e → (e.home = true ∨ e.acks ≠ 0) → exec (.rd i) s = .next (sramSweep s))
      ∧ (dirFind s m.line = none → set.length < 16 →
        ∃ u, exec (.rd i) s = .next (sramSweep u) ∧ DieFrame s u
          ∧ dirFind u m.line = some { line := m.line, sharers := dieBit m.die, fill := dieBit m.die }
          ∧ (∀ l, l ≠ m.line → dirFind u l = dirFind s l)
          ∧ u.msgs = s.msgs.eraseIdx i ++ [{ m with mtype := 2, flag := true }])
      ∧ (dirFind s m.line = none → 16 ≤ set.length →
        (set.any (fun x => x.acks != 0) = true ∨ set.find? (fun x => x.fill == 0) = none) →
        exec (.rd i) s = .next (sramSweep s))
      ∧ (∀ v, dirFind s m.line = none → 16 ≤ set.length → set.any (fun x => x.acks != 0) = false →
        set.find? (fun x => x.fill == 0) = some v → dirFind s v.line = some v →
        ∃ u, exec (.rd i) s = .next (sramSweep u) ∧ DieFrame s u ∧ dirFind u v.line = some { v with acks := v.sharers }
          ∧ u.msgs = s.msgs ++ (diesOf v.sharers).map (fun d => { mtype := 6, line := v.line, die := d, flag := true }))))
  ∧ (∀ (i : Nat) (s : State) (m : DieMsg), Arrives s i 2 m →
    ∃ u bad, exec (.rdRc i) s = .next u ∧ DieFrame s u ∧ u.dir = s.dir
      ∧ u.msgs = s.msgs.eraseIdx i ++ [{ mtype := 3, line := m.line, die := m.die, flag := m.req.isNone, toK := true
                                         req := m.req, data := readBytes s m.line 64, bad := bad }]
      ∧ (m.flag = true → tabGet (s.die (homeDie m.line)).filter 0 (filterIdx m.line) < 255 →
          tabGet (u.die (homeDie m.line)).filter 0 (filterIdx m.line)
            = tabGet (s.die (homeDie m.line)).filter 0 (filterIdx m.line) + 1))
  ∧ (∀ (i : Nat) (s : State) (m : DieMsg) (w : ReqId), Arrives s i 3 m → m.req = some w → m.toK = false →
    exec (.rsp i) s = .next (sramSweep (settleDir (deliverLine (dropMsg s i) w m.line m.data m.bad) m.line)))
  ∧ (∀ (i : Nat) (s : State) (m : DieMsg) (e : DirEntry), Arrives s i 3 m → m.toK = true → dirFind s m.line = some e →
    e.fill.getLsbD m.die = true → e.dead.getLsbD m.die = false → s.agt.diesActive.getLsbD m.die = true →
    ∃ t, dirFind t m.line = some { e with fill := e.fill &&& ~~~dieBit m.die, dead := e.dead &&& ~~~dieBit m.die }
      ∧ t.msgs = s.msgs.eraseIdx i ∧ DieFrame s t
      ∧ (∀ w, m.req = some w → exec (.rsp i) s = .next (sramSweep (settleDir
          (deliverLine (installLine t m.die m.line none) w m.line m.data m.bad) m.line)))
      ∧ (∀ p, m.req = none → remoteFlight s m.die m.line = some p → exec (.rsp i) s = .next (sramSweep (settleDir
          (fillPrefetch t p m.line true m.data m.bad) m.line))))
  ∧ (∀ (i : Nat) (s : State) (m : DieMsg), Arrives s i 4 m →
    (s.homeWr.any (fun h => h.line == m.line) = true
      ∨ sentBefore s i (fun x => x.mtype == 4 && x.line == m.line) = true) → exec (.wr i) s = .next s)
  ∧ (∀ (i : Nat) (s : State) (m : DieMsg), Arrives s i 4 m → (inHbm m.line = true ∨ paStatus s m.line = none) →
    (inHbm m.line = true ∨ inCs m.line = true) → m.line % 64 = 0 → m.ofs < 64 →
    m.ofs + m.data.length ≤ 64 → s.bring.lateDies = 0 → s.homeWr.any (fun h => h.line == m.line) = false →
    sentBefore s i (fun x => x.mtype == 4 && x.line == m.line) = false →
    ∃ u, exec (.wr i) s = .next u
      ∧ (∀ a, readByte u a = if m.line + m.ofs ≤ a ∧ a < m.line + m.ofs + m.data.length then
          m.data.getD (a - (m.line + m.ofs)) 0 else readByte s a)
      ∧ ((inCs m.line = true ∨ tabGet (s.die (homeDie m.line)).filter 0 (filterIdx m.line) = 0) →
          u.msgs = s.msgs.eraseIdx i ++ [{ m with mtype := 5, data := [], bad := [] }] ∧ u.homeWr = s.homeWr)
      ∧ (inCs m.line = false → tabGet (s.die (homeDie m.line)).filter 0 (filterIdx m.line) ≠ 0 →
          u.msgs = s.msgs.eraseIdx i ++ [{ mtype := 6, line := m.line, die := homeDie m.line, toK := true }]
            ∧ u.homeWr = s.homeWr ++ [⟨m.req, m.line⟩]))
  ∧ (∀ (i : Nat) (s : State) (m : DieMsg) (w : ReqId), Arrives s i 5 m → m.req = some w →
    exec (.wrAck i) s = .next (heronRetire (keepSegs (dropMsg s i) w (fun g => !g.inLine m.line)) w.p w.eng w.id))
  ∧ (∀ (i : Nat) (s : State) (m : DieMsg), Arrives s i 6 m → m.toK = false →
    ∃ u, exec (.inv i) s = .next u ∧ DieFrame s u ∧ u.dir = s.dir
      ∧ (∀ x ∈ (u.die m.die).rc, x.addr ≠ m.line) ∧ u.msgs = s.msgs.eraseIdx i ++ [{ m with mtype := 7 }])
  ∧ (∀ (i : Nat) (s : State) (m : DieMsg), Arrives s i 6 m → m.toK = true →
    (dirFind s m.line = none →
      ∃ u, exec (.inv i) s = .next u ∧ DieFrame s u ∧ u.dir = s.dir
        ∧ u.msgs = s.msgs.eraseIdx i ++ [{ mtype := 8, line := m.line, die := homeDie m.line }])
    ∧ (∀ e held, dirFind s m.line = some e → held = e.sharers &&& ~~~e.fill &&& ~~~e.acks → e.sharers ≠ 0 →
      ∃ u, exec (.inv i) s = .next u ∧ DieFrame s u
        ∧ dirFind u m.line = some { e with home := true, acks := e.acks ||| held, dead := e.fill }
        ∧ u.msgs = s.msgs.eraseIdx i
            ++ (diesOf held).map (fun d => { mtype := 6, line := m.line, die := d, flag := false })))
  ∧ (∀ (i : Nat) (s : State) (m : DieMsg) (e : DirEntry), Arrives s i 7 m → dirFind s m.line = some e →
    (e.sharers &&& ~~~dieBit m.die = 0 → e.acks &&& ~~~dieBit m.die = 0 →
      ∃ u, exec (.invAck i) s = .next u ∧ DieFrame s u ∧ dirFind u m.line = none
        ∧ u.msgs = s.msgs.eraseIdx i ++ { mtype := 10, line := m.line, die := homeDie m.line }
            :: (if e.home then [{ mtype := 8, line := m.line, die := homeDie m.line }] else []))
    ∧ ((e.sharers &&& ~~~dieBit m.die ≠ 0 ∨ e.acks &&& ~~~dieBit m.die ≠ 0) →
      ∃ u, exec (.invAck i) s = .next u ∧ DieFrame s u ∧ u.msgs = s.msgs.eraseIdx i
        ∧ dirFind u m.line = some { e with
            sharers := e.sharers &&& ~~~dieBit m.die, acks := e.acks &&& ~~~dieBit m.die }))
  ∧ (∀ (i : Nat) (s : State) (m : DieMsg), Arrives s i 7 m → dirFind s m.line = none →
    ∃ u, exec (.invAck i) s = .next u ∧ DieFrame s u ∧ u.dir = s.dir
      ∧ u.msgs = s.msgs.eraseIdx i ++ (if s.homeWr.any (fun h => h.line == m.line) = true
          ∧ (s.msgs.eraseIdx i).any (fun x => [6, 7, 8].contains x.mtype && x.line == m.line) = false
          then [{ mtype := 8, line := m.line, die := homeDie m.line }] else []))
  ∧ (∀ (i : Nat) (s t : State) (m : DieMsg) (h : HomeWr) (d : Nat), Arrives s i 8 m →
    s.homeWr.find? (fun h => h.line == m.line) = some h → d = (match h.req with | some w => w.p / 64 | none => m.die) →
    t = { dropMsg s i with homeWr := s.homeWr.filter (fun x => x.line != m.line) } →
    (d ≠ homeDie m.line → exec (.invDone i) s
      = .next (sendMsg t { mtype := 5, line := m.line, die := d, req := h.req }))
    ∧ (∀ w, d = homeDie m.line → h.req = some w → exec (.invDone i) s
      = .next (heronRetire (keepSegs t w (fun g => !g.inLine m.line)) w.p w.eng w.id)))
  ∧ (∀ (i : Nat) (s : State) (m : DieMsg) (e : DirEntry), Arrives s i 9 m → dirFind s m.line = some e →
    ((e.fill.getLsbD m.die = true ∨ e.acks.getLsbD m.die = true) → exec (.evictNote i) s = .next (dropMsg s i))
    ∧ (e.fill.getLsbD m.die = false → e.acks.getLsbD m.die = false →
      ((e.sharers &&& ~~~dieBit m.die ≠ 0 ∨ e.acks ≠ 0) →
        ∃ u, exec (.evictNote i) s = .next u ∧ DieFrame s u ∧ u.msgs = s.msgs.eraseIdx i
          ∧ dirFind u m.line = some { e with sharers := e.sharers &&& ~~~dieBit m.die })
      ∧ (e.sharers &&& ~~~dieBit m.die = 0 → e.acks = 0 →
        ∃ u, exec (.evictNote i) s = .next u ∧ DieFrame s u ∧ dirFind u m.line = none
          ∧ u.msgs = s.msgs.eraseIdx i ++ { mtype := 10, line := m.line, die := homeDie m.line }
              :: (if e.home then [{ mtype := 8, line := m.line, die := homeDie m.line }] else []))))
  ∧ (∀ (i : Nat) (s : State) (m : DieMsg) (c : Nat), Arrives s i 10 m →
    c = tabGet (s.die (homeDie m.line)).filter 0 (filterIdx m.line) →
    (0 < c → c < 255 → ∃ u, exec (.fdec i) s = .next u ∧ DieFrame s u ∧ u.dir = s.dir ∧ u.msgs = s.msgs.eraseIdx i
      ∧ tabGet (u.die (homeDie m.line)).filter 0 (filterIdx m.line) = c - 1)
    ∧ ((c = 0 ∨ c = 255) → exec (.fdec i) s = .next (dropMsg s i)))

/-! ### Collectives and updates -/

/-- R203, R376 to R379, R398, R409, R411, R412, R414, R416, R421, R223: in a package that is Active a window opens once a tick,
as a primary or a reserve window by bit 62 of its entry, and carries at most its flit times, each an S flit of its group;
no window opens in tick state 2; the engine's flits count their SSEQ up; what a collective has ready when it misses its slot
may take the reserve windows; an S flit of a group with a slot waits for the ports that copy it and reaches the engine, and
one with no slot, or that meets a full transit buffer, is only counted; the engine keeps an early flit until its collective
starts, counts an old or a repeated one, a foreign one, or one that it has no room for, and ignores one for another member;
a flit of a collective in flight joins its contribution, or aborts the group where its operation, epoch or length is
another, and a lead flit of another VERSION is a miss of its sender.
The model's own readings here: log 26. -/
def Obligations.SFlitsFollowTheirSlots : Prop :=
  (∀ (k : Fin 64) (e : Fin 256) (n g : Nat) (s : State), windowOpen s k e = some g → s.pst = .active →
    (s.port k).opened.contains e.val = false →
    ((schedEntry s k e).testBit 62 = false → exec (.sWindowOpen k e n) s
      = .next (windowClose (forUp (min n (windowLen s k e)) (fun _ t => windowStep t k e g false)
          (s.setPort k { s.port k with opened := (s.port k).opened ++ [e.val] })) k e g))
    ∧ ((schedEntry s k e).testBit 62 = true → exec (.reserveWindow k e n) s
      = .next (forUp (min n (windowLen s k e)) (fun _ t => windowStep t k e g true)
          (s.setPort k { s.port k with opened := (s.port k).opened ++ [e.val] }))))
  ∧ (∀ (k : Fin 64) (e : Fin 256) (n : Nat) (s : State),
    ((windowOpen s k e = none ∨ (s.port k).opened.contains e.val = true ∨ s.pst ≠ .active) →
      exec (.sWindowOpen k e n) s = .next s ∧ exec (.reserveWindow k e n) s = .next s)
    ∧ (s.tick.lock = 2 → windowOpen s k e = none)
    ∧ ((schedEntry s k e).testBit 62 = true → exec (.sWindowOpen k e n) s = .next s)
    ∧ ((schedEntry s k e).testBit 62 = false → exec (.reserveWindow k e n) s = .next s))
  ∧ (∀ (s : State) (k e g : Nat) (reserve : Bool),
    (windowStep s k e g reserve).sent = s.sent
      ∨ ∃ f, (windowStep s k e g reserve).sent = s.sent ++ [.sflit k f] ∧ f.group = g)
  ∧ (∀ (s : State) (k : Nat) (c : Coll) (x : SendC) (reserve : Bool),
    (sendS s k c x reserve).sent = s.sent ++ [.sflit k (c.flit x x.sent (tabGet s.ce.sseq 0 c.group))]
      ∧ tabGet (sendS s k c x reserve).ce.sseq 0 c.group = (tabGet s.ce.sseq 0 c.group + 1) % 32768
      ∧ ctrGet ((sendS s k c x reserve).port k).ctr 0x150 = ctrGet (s.port k).ctr 0x150 + 1
      ∧ (∀ j, j ≠ k → (sendS s k c x reserve).port j = s.port j) ∧ SameMemory s (sendS s k c x reserve))
  ∧ (∀ (i : Nat) (s : State), (s.ce.colls[i]? = none → exec (.sSlotMiss i) s = .next s)
    ∧ (∀ c, s.ce.colls[i]? = some c →
      exec (.sSlotMiss i) s = .next (if c.unsent then setColl s { c.waited s none with missed := true } else s)
        ∧ (c.waited s none).sends = c.sends.map (fun x => { x with late := x.ready })))
  ∧ (∀ (k : Fin 64) (f : SFlit) (full : Bool) (s : State),
    ((portUp s k = false ∨ s.pst ≠ .active) → exec (.sFlitReceive k f full) s = .next s)
    ∧ (portUp s k = true → s.pst = .active →
      ((slotOf s f.group = none ∨ 1536 ≤ (s.port k).transit.length) →
        exec (.sFlitReceive k f full) s = .next (portCtr s k 0x188 1))
      ∧ (∀ e, slotOf s f.group = some e → (s.port k).transit.length < 1536 →
        (copyPorts s e.1 k ≠ [] → exec (.sFlitReceive k f full) s = .next (collKick (flitIn (s.setPort k { s.port k with
          transit := (s.port k).transit ++ [{ flit := f, inPort := k, outs := copyPorts s e.1 k }] }) f.group none full f)))
        ∧ (copyPorts s e.1 k = [] →
          exec (.sFlitReceive k f full) s = .next (collKick (flitIn s f.group none full f))))))
  ∧ (∀ (s : State) (gid q self : Nat) (devs : List Nat) (full : Bool) (f : SFlit), memberQ s gid = some q →
    memberTable s gid = some (devs, self) →
    ((f.rsv = true ∨ devs.length ≤ f.srcM) → flitIn s gid none full f = ceCtr s 0x738 1)
    ∧ (f.rsv = false → f.srcM < devs.length →
      (f.dstM ≠ self → flitIn s gid none full f = s)
      ∧ (∀ c, f.dstM = self → s.ce.colls.find? (fun c => c.group == gid && c.seq == f.seq) = some c →
        flitIn s gid none full f = collFlit s c full f)
      ∧ (f.dstM = self → s.ce.colls.find? (fun c => c.group == gid && c.seq == f.seq) = none →
        ((32767 < (f.seq + 65536 - (s.queue q).collSeq) % 65536 ∨ heldEarly s gid f = true) →
          flitIn s gid none full f = ceCtr s 0x730 1)
        ∧ ((f.seq + 65536 - (s.queue q).collSeq) % 65536 ≤ 32767 → heldEarly s gid f = false →
          flitIn s gid none full f = if full then ceCtr s 0x728 1
            else { s with ce := { s.ce with early := s.ce.early ++ [{ f with group := gid }] } }))))
  ∧ (∀ (s : State) (c : Coll) (r : Rec) (full : Bool) (f : SFlit), findRec s c.ref = some r →
    (f.op ≠ c.op → collFlit s c full f = sendAbort s c.group 0x17)
    ∧ (f.op = c.op → f.epoch ≠ c.epoch → collFlit s c full f = sendAbort s c.group 0x62)
    ∧ (∀ x, f.op = c.op → f.epoch = c.epoch → c.recv f.srcM f.phase2 = some x →
      (x.done = true → collFlit s c full f = ceCtr s 0x730 1)
      ∧ (x.done = false → f.fidx = 0 → f.bytes ≠ x.total → collFlit s c full f = sendAbort s c.group 0x17)
      ∧ (x.done = false → (f.fidx = 0 → f.bytes = x.total) → f.fidx < flitCount x.total →
        (x.waitLead = true → f.fidx = 0) →
        (tabHas x.flits f.fidx = true → collFlit s c full f = ceCtr s 0x730 1)
        ∧ (tabHas x.flits f.fidx = false →
          (c.op = 7 → r.cVchk = true → f.fidx = 0 → f.version ≠ r.cVersion →
            collFlit s c full f = collStep (versionMiss s c x) c.ref)
          ∧ ((c.op = 7 → r.cVchk = true → f.fidx = 0 → f.version = r.cVersion) →
            collFlit s c full f = if full && !keepsRoom s r c x.src f.phase2 then ceCtr s 0x728 1
              else collStep (setColl s (c.setRecv { x with
                waitLead := false, flits := tabSet x.flits f.fidx (f.data, f.pmap) })) c.ref)))))

/-- R206, R208, R387, R398, R413, R415, R416, R420, R421: a COLL packet's flit reaches the engine with its source device, which
counts it where the member is another device's; a RESEND sends the requested flits that were sent before again, an ACK ends
its contribution, a REISSUE reads the shard again and sends all of it, once no write phase of an update of the shard runs; a
control of a member that is not its sender is only counted, and one of a reserved code is discarded; a packet whose global
hops are spent is discarded; the hold point of a grouped queue's unfinished frame marks the frame late and its closing tick
a hold tick, holds the next tick where a collective missed its slot and still has flits unsent, and asks every member whose
contribution is incomplete.
The model's own readings here: log 26. -/
def Obligations.CollectivesAreAskedAndAnswered : Prop :=
  (∀ (k : Fin 64) (p : Packet) (full : Bool) (s : State), mine s k p 0x10 = true →
    (p.flit = none → exec (.coll k p full) s = .next (takePacket s k p))
    ∧ (∀ f, p.flit = some f →
      exec (.coll k p full) s = .next (collKick (flitIn (takePacket s k p) p.group (some p.src) full f))))
  ∧ (∀ (s : State) (gid dev q self : Nat) (devs : List Nat) (full : Bool) (f : SFlit), memberQ s gid = some q →
    memberTable s gid = some (devs, self) →
    ((f.rsv = true ∨ devs.getD f.srcM 262144 ≠ dev) → flitIn s gid (some dev) full f = ceCtr s 0x738 1)
    ∧ (f.rsv = false → devs.getD f.srcM 262144 = dev → f.srcM < devs.length →
      flitIn s gid (some dev) full f = flitIn s gid none full f))
  ∧ (∀ (k : Fin 64) (p : Packet) (full : Bool) (s : State), accepts s k = true → p.dst = devId s → gSpent s k p = true →
    (p.ptype = 0x10 → exec (.coll k p full) s = .next (fabCtr (takePacket s k p) 0x108 1))
    ∧ (∀ x, p.ptype = 0x11 → p.ctl = some x →
      (x.code ≠ 2 → x.code ≠ 3 → exec (.resend k p) s = .next (fabCtr (takePacket s k p) 0x108 1))
      ∧ (x.code = 2 → exec (.ack k p) s = .next (fabCtr (takePacket s k p) 0x108 1))
      ∧ (x.code = 3 → exec (.reissue k p) s = .next (fabCtr (takePacket s k p) 0x108 1))))
  ∧ (∀ (k : Fin 64) (p : Packet) (s : State) (x : CollCtl) (devs : List Nat) (self : Nat) (c : Coll) (y : SendC),
    mine s k p 0x11 = true → p.ctl = some x → memberTable s p.group = some (devs, self) →
    devs.getD x.sender 262144 = p.src →
    s.ce.colls.find? (fun c => c.group == p.group && c.seq == x.seq && c.epoch == x.epoch) = some c →
    c.sendTo x.sender = some y →
    (∀ n, x.code = 1 → n = (if x.count = 0 then y.sent - x.first else min x.count (y.sent - x.first)) →
      exec (.resend k p) s = .next (collKick (ceCtr (forUp n (fun i t => sendColl t c y (x.first + i))
        (takePacket s k p)) 0x720 n)))
    ∧ (x.code = 2 → exec (.ack k p) s
        = .next (collKick (collStep (setColl (takePacket s k p) (c.setSend { y with acked := true })) c.ref)))
    ∧ (∀ r, x.code = 3 → findRec s c.ref = some r →
      (c.op ≠ 7 → exec (.reissue k p) s = .next (collKick (takePacket s k p)))
      ∧ (c.op = 7 → headerBusy (takePacket s k p) c.ref.q r.cSrc = true → exec (.reissue k p) s
        = .next (collKick (setColl (takePacket s k p) (c.setSend { y with reissue := true }))))
      ∧ (∀ g z n, c.op = 7 → headerBusy (takePacket s k p) c.ref.q r.cSrc = false →
        g = gatherRead (takePacket s k p) ((takePacket s k p).queue c.ref.q).ctxNo r.cSrc (c.share c.self) →
        n = flitCount y.total → z = { y with version := g.version, data := g.data, sent := n, reissue := false } →
        exec (.reissue k p) s = .next (collKick (sramSweep (ceCtr (forUp n
          (fun i t => sendColl t (c.setSend z) z i) (setColl g.s (c.setSend z))) 0x720 n))))))
  ∧ (∀ (k : Fin 64) (p : Packet) (s : State) (x : CollCtl) (devs : List Nat) (self : Nat), mine s k p 0x11 = true →
    p.ctl = some x → ((x.code < 1 ∨ 3 < x.code) → exec (.resend k p) s = .next (takePacket s k p))
    ∧ (memberTable s p.group = some (devs, self) → devs.getD x.sender 262144 ≠ p.src →
      (x.code = 1 → exec (.resend k p) s = .next (ceCtr (takePacket s k p) 0x738 1))
      ∧ (x.code = 2 → exec (.ack k p) s = .next (ceCtr (takePacket s k p) 0x738 1))
      ∧ (x.code = 3 → exec (.reissue k p) s = .next (ceCtr (takePacket s k p) 0x738 1))))
  ∧ (∀ (q : Fin 64) (s : State) (f : Frame), (s.queue q).frame = some f →
    ((s.pst ≠ .active ∨ (s.queue q).groupEn = false ∨ f.closing ≤ s.tick.last ∨ (f.late = true ∧ f.held = f.closing)) →
      exec (.overrun q) s = .next s)
    ∧ (s.pst = .active → (s.queue q).groupEn = true → s.tick.last < f.closing → (f.late = true → f.held ≠ f.closing) →
      ∃ u, (u.queue q).frame = some { f with late := true, held := f.closing }
        ∧ (u.group (s.queue q).group).holds = setIns (s.group (s.queue q).group).holds f.closing
        ∧ ctrGet (u.queue q).ctr 0x150 = ctrGet (s.queue q).ctr 0x150 + 1 ∧ u.ce = s.ce ∧ SameMemory s u
        ∧ exec (.overrun q) s = .next ((s.ce.colls.filter (fun c => c.ref.q == q.val)).foldl
            (fun t c => (lacking c).foldl (askAgain c) t)
            (if s.ce.colls.any (fun c => c.ref.q == q.val && c.missed && c.unsent)
              then engineHold u (s.queue q).group else u))))

/-- R291, R297, R298, R304, R308, R310, R311, R313: the free unit arms the next update, whose pages it translates, or ends
it with the first fault; an unlinked update writes its phase, and a linked one once its reduce-scatter has completed; the
phase frees the unit and reports VERSION plus one; a parameter that is frozen or excluded keeps its weight. Without an
update that may start, outside Active, or with the unit occupied, nothing arms.
The model's own readings here: log 5 and 27. -/
def Obligations.UpdatesArmAndWrite : Prop :=
  (∀ (s : State) (c : CmdRef) (r : Rec), s.upd.run = none → s.pst = .active →
    pickRef s.hubq.upd s.upd.lastQ (fun c => match findRec s c with | some r => epochOpen s c r | none => false) = some c →
    findRec s c = some r → exec .updateArm s = .next (collKick (sramSweep (armUpdate s c r))))
  ∧ (∀ (s : State) (c : CmdRef) (r : Rec) (h : Shard),
    (∀ f, (mapAll s (s.queue c.q).ctxNo r).fault = some f →
      armMaps s c r h = updFail (mapAll s (s.queue c.q).ctxNo r).s c f)
    ∧ ((mapAll s (s.queue c.q).ctxNo r).fault = none →
        ∃ n, (armMaps s c r h).upd.run = some ⟨c, h, n, (mapAll s (s.queue c.q).ctxNo r).map⟩
          ∧ (n = none ↔ r.uLinked = false) ∧ SameMemory s (armMaps s c r h)))
  ∧ (∀ s : State, (s.upd.run ≠ none ∨ s.pst ≠ .active ∨ pickRef s.hubq.upd s.upd.lastQ
      (fun c => match findRec s c with | some r => epochOpen s c r | none => false) = none) →
    exec .updateArm s = .next s)
  ∧ (∀ (ns : Nat) (s : State), s.upd.run = none → exec (.updateWritePhase ns) s = .next s)
  ∧ (∀ (ns : Nat) (s : State) (u : UpdRun) (r : Rec), s.upd.run = some u → findRec s u.ref = some r →
    (u.rs = none ∨ ∃ n y, u.rs = some n ∧ findRec s ⟨u.ref.q, n⟩ = some y ∧ y.isDone = true ∧ y.failed = false) →
    ∃ t k, exec (.updateWritePhase ns) s = .next (collKick (sramSweep (complete t u.ref k))) ∧ t.upd.run = none
      ∧ k.status = 0 ∧ k.res0 = (u.hdr.version + 1).toNat
      ∧ ctrGet t.upd.ctr 0x108 = ctrGet s.upd.ctr 0x108 + 1)
  ∧ (∀ (ns : Nat) (s : State) (u : UpdRun) (r y : Rec) (n : Nat), s.upd.run = some u → findRec s u.ref = some r →
    u.rs = some n → findRec s ⟨u.ref.q, n⟩ = some y →
    (y.isDone = false → exec (.updateWritePhase ns) s = .next s)
    ∧ (y.isDone = true → y.failed = true → exec (.updateWritePhase ns) s
        = .next (collKick (updFail { s with upd := { s.upd with run := none } } u.ref 0x05))))
  ∧ (∀ (u : UpdRun) (r : Rec) (x : UpdAcc) (i : Nat), (frozenAt u x.s r i).2.1 = true →
    (updParam u r x i).2 = none ∧ (updParam u r x i).1.hits = x.hits + 1 ∧ (updParam u r x i).1.s.mem = x.s.mem)
  ∧ (∀ (u : UpdRun) (s : State) (r : Rec) (i : Nat), u.hdr.exclFirst ≤ i → i < u.hdr.exclFirst + u.hdr.exclCount →
    (frozenAt u s r i).2.1 = true)

/-! ### The block as a whole -/

/-- A step runs the command at the front of the queue on the state with the rest of the queue, and idles on an empty one
(notes/assumptions/2.md). -/
def Obligations.StepsRunTheFrontCommand : Prop :=
  (∀ (c : Instr) (rest : List Instr) (s : State), s.pending = c :: rest → step s = exec c { s with pending := rest })
    ∧ (∀ s : State, s.pending = [] → step s = .next s)
    ∧ (∀ (nbits w : Nat) (s : State), decodeTableWord nbits w = none ∧ s.withFetchWord nbits w = s)

/-- R190, R201, R352, R361, R392, R450, R492: State.reset is the package in Standby (notes/assumptions/3.md): no core enabled,
every queue Disabled, every port Disabled with EN and AUTO_RETRAIN set, FAB.CFG at its reset value, the tick unlocked at
SEL 2, both controllers booting, no memory listed, nothing in flight and no command waiting. -/
def Obligations.ResetIsStandbyWithNothingRunning : Prop :=
  State.reset.pst = .standby ∧ State.reset.pending = [] ∧ Memory.wf State.reset.mem = true ∧ State.reset.msgs = []
    ∧ (∀ p, coreOn State.reset p = false ∧ (State.reset.core p).mxa = {} ∧ (State.reset.core p).ve = {})
    ∧ (∀ q, (State.reset.queue q).st = .disabled)
    ∧ (∀ k, (State.reset.port k).st = .disabled ∧ (State.reset.port k).en = true ∧ (State.reset.port k).retrain = true)
    ∧ (∀ l, (State.reset.link l).thresh = 1000) ∧ State.reset.fab.cfg = 0xC40040641 ∧ State.reset.tick.sel = 2
    ∧ State.reset.tick.lock = 2 ∧ State.reset.agt.valid = false
    ∧ (∀ c, (State.reset.ctl c).st = .resetting) ∧ (∀ a, readByte State.reset a = 0)
    ∧ (∀ n, wispCtrl State.reset n = 0x30C000001)

/-- R432, R463, R506: whatever command a step takes, from every state: package memory keeps its canonical form (rising
addresses, no entry equal to what an unlisted address reads as), the queue loses its front and nothing else, no fuse
changes, and the minimum firmware security version does not fall. -/
def Obligations.NoStepUndoesTheseInvariants : Prop :=
  ∀ s u : State, step s = .next u → Memory.wf s.mem = true →
    Memory.wf u.mem = true ∧ u.pending = s.pending.tail ∧ u.fuse = s.fuse ∧ s.bit.svnMin ≤ u.bit.svnMin
end

