-- ==== Sys2Proof/Laws/Keeps.lean ====
section
/-!
SUPPORT. What the whole model preserves: `Keeps a b` says that in going from state a to state b the package memory keeps
its canonical form, the queue and the fuses are the same, and the free-value counter and the minimum firmware security
version do not fall. This file holds the relation and its closure under the combinators of the model; the files after it
hold one lemma per function of the model that returns a state.
-/
namespace Sys2Proof.Machine

/-- What every function of the model preserves. -/
structure Keeps (a b : State) : Prop where
  mem : Memory.wf a.mem = true → Memory.wf b.mem = true
  pending : b.pending = a.pending
  fuse : b.fuse = a.fuse
  freeN : a.freeN ≤ b.freeN
  svn : a.bit.svnMin ≤ b.bit.svnMin

theorem Keeps.rfl {s : State} : Keeps s s := ⟨id, .refl _, .refl _, Nat.le_refl _, Nat.le_refl _⟩

def OutKeeps (a : State) (o : Host.Outcome State Fault Refusal) : Prop := ∀ t, o = .next t → Keeps a t
def EffKeeps (a : State) (e : VeEff) : Prop :=
  match e with | .ok s => Keeps a s | .jump s _ => Keeps a s | .fin s => Keeps a s | .stop s _ => Keeps a s | .wait s => Keeps a s
abbrev BodyKeeps (b : VeBody) : Prop := ∀ s0 s p i, Keeps s0 s → EffKeeps s0 (b s p i)

theorem outKeeps_next {a t : State} (h : Keeps a t) : OutKeeps a (.next t) := fun _ e => by cases e; exact h
theorem outKeeps_refused {a : State} {r} : OutKeeps a (.refused r) := fun _ e => by cases e
theorem eff_ok {a t : State} (h : Keeps a t) : EffKeeps a (.ok t) := h
theorem eff_jump {a t : State} {n} (h : Keeps a t) : EffKeeps a (.jump t n) := h
theorem eff_fin {a t : State} (h : Keeps a t) : EffKeeps a (.fin t) := h
theorem eff_stop {a t : State} {n} (h : Keeps a t) : EffKeeps a (.stop t n) := h
theorem eff_wait {a t : State} (h : Keeps a t) : EffKeeps a (.wait t) := h

theorem keeps_ite {a x y : State} {c : Prop} [Decidable c] (hx : Keeps a x) (hy : Keeps a y) : Keeps a (if c then x else y) := by
  split <;> assumption
theorem keeps_upd {a s t : State} (h : Keeps a s) (hm : t.mem = s.mem) (hp : t.pending = s.pending) (hf : t.fuse = s.fuse)
    (hn : t.freeN = s.freeN) (hs : t.bit.svnMin = s.bit.svnMin) : Keeps a t :=
  ⟨fun w => hm ▸ h.mem w, hp.trans h.pending, hf.trans h.fuse, hn ▸ h.freeN, hs ▸ h.svn⟩
theorem keeps_foldl {α : Type} {a s : State} {g : State → α → State} {l : List α}
    (hg : ∀ t e, Keeps a t → Keeps a (g t e)) (h : Keeps a s) : Keeps a (l.foldl g s) := by
  induction l generalizing s with
  | nil => exact h
  | cons e l ih => exact ih (hg s e h)
theorem keeps_forUp {a s : State} {n : Nat} {g : Nat → State → State}
    (hg : ∀ i t, Keeps a t → Keeps a (g i t)) (h : Keeps a s) : Keeps a (forUp n g s) := by
  unfold forUp; exact keeps_foldl (fun t i ht => hg i t ht) h
theorem keeps_mk {a s : State} {x0 x1 x2 x3 x4 x5 x6 x7 x8 x9 x10 x11 x12 x13 x14 x15 x16 x17 x18 x19 x20 x21 x22 x23 x24 x25 x26 x27 x28 x29 x30 x31 x32 x33 x34 x35 x36 x37} (h : Keeps a s)
    (hm : Memory.wf s.mem = true → Memory.wf x5 = true) (hp : x37 = s.pending)
    (hf : x32 = s.fuse) (hn : s.freeN ≤ x34) (hs : s.bit.svnMin ≤ x33.svnMin) :
    Keeps a (State.mk x0 x1 x2 x3 x4 x5 x6 x7 x8 x9 x10 x11 x12 x13 x14 x15 x16 x17 x18 x19 x20 x21 x22 x23 x24 x25 x26 x27 x28 x29 x30 x31 x32 x33 x34 x35 x36 x37) :=
  ⟨fun w => hm (h.mem w), hp.trans h.pending, hf.trans h.fuse, Nat.le_trans h.freeN hn, Nat.le_trans h.svn hs⟩
theorem tab_below {α : Type} (t : Tab α) (a i : Nat) (v : α) (h : t.all (fun c => decide (a < c.1)) = true) (hi : a < i) :
    (tabSet t i v).all (fun c => decide (a < c.1)) = true := by
  induction t with
  | nil => simp [tabSet, hi]
  | cons c t ih =>
    simp only [List.all_cons, Bool.and_eq_true, decide_eq_true_eq] at h
    simp only [tabSet]; split
    · simp only [List.all_cons, Bool.and_eq_true, decide_eq_true_eq]; exact h
    · split
      · simp only [List.all_cons, Bool.and_eq_true, decide_eq_true_eq]; exact ⟨hi, h⟩
      · simp only [List.all_cons, Bool.and_eq_true, decide_eq_true_eq]; exact ⟨h.1, ih h.2⟩
theorem all_trans {α : Type} (t : Tab α) (a b : Nat) (h : t.all (fun c => decide (b < c.1)) = true) (hi : a < b) :
    t.all (fun c => decide (a < c.1)) = true := by
  simp only [List.all_eq_true, decide_eq_true_eq] at *; intro x hx; exact Nat.lt_trans hi (h x hx)
theorem wf_filter {m : List Host.Cell} (p : Host.Cell → Bool) (h : Memory.wf m = true) : Memory.wf (m.filter p) = true := by
  induction m with
  | nil => exact h
  | cons c t ih =>
    obtain ⟨a, b⟩ := c
    simp only [Memory.wf, Bool.and_eq_true] at h
    simp only [List.filter]; split
    · simp only [Memory.wf, Bool.and_eq_true]
      refine ⟨⟨h.1.1, ?_⟩, ih h.2⟩
      have := h.1.2
      simp only [List.all_eq_true, List.mem_filter] at *
      intro x hx; exact this x hx.1
    · exact ih h.2
theorem wf_tabSet {m : List Host.Cell} (a : Nat) (b : Byte) (hb : b ≠ 0) (h : Memory.wf m = true) :
    Memory.wf (tabSet m a b) = true := by
  induction m with
  | nil => simp only [tabSet, Memory.wf, Bool.and_eq_true]; exact ⟨⟨by simpa using hb, by simp⟩, trivial⟩
  | cons c t ih =>
    obtain ⟨k, w⟩ := c
    simp only [Memory.wf, Bool.and_eq_true] at h
    simp only [tabSet]; split
    · simp only [Memory.wf, Bool.and_eq_true]; exact ⟨⟨by simpa using hb, h.1.2⟩, h.2⟩
    · split
      · rename_i h1 h2
        simp only [Memory.wf, Bool.and_eq_true, List.all_cons, decide_eq_true_eq]
        exact ⟨⟨by simpa using hb, h2, all_trans t a k h.1.2 h2⟩, h.1, h.2⟩
      · rename_i h1 h2
        simp only [Memory.wf, Bool.and_eq_true]
        exact ⟨⟨h.1.1, tab_below t k a b h.1.2 (by omega)⟩, ih h.2⟩
theorem wf_cellSet {m : List Host.Cell} (a : Nat) (b : Byte) (h : Memory.wf m = true) : Memory.wf (cellSet m a b) = true := by
  unfold cellSet; split
  · exact wf_filter _ h
  · rename_i hb; exact wf_tabSet a b hb h
theorem wf_cellsSet {m : List Host.Cell} (a : Nat) (bs : List Byte) (h : Memory.wf m = true) : Memory.wf (cellsSet m a bs) = true := by
  induction bs generalizing m a with
  | nil => exact h
  | cons b bs ih => exact ih _ (wf_cellSet a b h)
theorem keeps_foldWr {α : Type} {a : State} {x : DrainWr} {g : DrainWr → α → DrainWr} {l : List α}
    (hg : ∀ t e, Keeps a t.s → Keeps a (g t e).s) (h : Keeps a x.s) : Keeps a (l.foldl g x).s := by
  induction l generalizing x with
  | nil => exact h
  | cons e l ih => exact ih (hg x e h)
theorem keeps_forUpWr {a : State} {x : DrainWr} {n : Nat} {g : Nat → DrainWr → DrainWr}
    (hg : ∀ i t, Keeps a t.s → Keeps a (g i t).s) (h : Keeps a x.s) : Keeps a (forUp n g x).s := by
  unfold forUp; exact keeps_foldWr (fun t i ht => hg i t ht) h
theorem keeps_foldOf {α β : Type} {a : State} (π : β → State) {x : β} {g : β → α → β} {l : List α}
    (hg : ∀ t e, Keeps a (π t) → Keeps a (π (g t e))) (h : Keeps a (π x)) : Keeps a (π (l.foldl g x)) := by
  induction l generalizing x with
  | nil => exact h
  | cons e l ih => exact ih (hg x e h)
theorem keeps_fold1 {α β : Type} {a : State} {x : State × β} {g : State × β → α → State × β} {l : List α}
    (hg : ∀ t e, Keeps a t.1 → Keeps a (g t e).1) (h : Keeps a x.1) : Keeps a (l.foldl g x).1 := keeps_foldOf Prod.fst hg h
theorem keeps_foldRead {α : Type} {a : State} {x : MRead} {g : MRead → α → MRead} {l : List α}
    (hg : ∀ t e, Keeps a t.s → Keeps a (g t e).s) (h : Keeps a x.s) : Keeps a (l.foldl g x).s := keeps_foldOf MRead.s hg h
theorem keeps_foldMap {α : Type} {a : State} {x : UpdMap} {g : UpdMap → α → UpdMap} {l : List α}
    (hg : ∀ t e, Keeps a t.s → Keeps a (g t e).s) (h : Keeps a x.s) : Keeps a (l.foldl g x).s := keeps_foldOf UpdMap.s hg h
theorem keeps_foldAcc {α : Type} {a : State} {x : UpdAcc} {g : UpdAcc → α → UpdAcc} {l : List α}
    (hg : ∀ t e, Keeps a t.s → Keeps a (g t e).s) (h : Keeps a x.s) : Keeps a (l.foldl g x).s := keeps_foldOf UpdAcc.s hg h
theorem keeps_foldAcc1 {α β : Type} {a : State} {x : UpdAcc × β} {g : UpdAcc × β → α → UpdAcc × β} {l : List α}
    (hg : ∀ t e, Keeps a t.1.s → Keeps a (g t e).1.s) (h : Keeps a x.1.s) : Keeps a (l.foldl g x).1.s :=
  keeps_foldOf (fun y : UpdAcc × β => y.1.s) hg h
theorem eff_ite {a : State} {x y : VeEff} {c : Prop} [Decidable c] (hx : EffKeeps a x) (hy : EffKeeps a y) :
    EffKeeps a (if c then x else y) := by
  by_cases hc : c
  · rw [if_pos hc]; exact hx
  · rw [if_neg hc]; exact hy
theorem keeps_ite1 {a : State} {β : Type} {x y : State × β} {c : Prop} [Decidable c] (hx : Keeps a x.1) (hy : Keeps a y.1) :
    Keeps a (if c then x else y).1 := by
  by_cases hc : c
  · rw [if_pos hc]; exact hx
  · rw [if_neg hc]; exact hy
theorem outKeeps_ite {a : State} {x y : Host.Outcome State Fault Refusal} {c : Prop} [Decidable c] (hx : OutKeeps a x)
    (hy : OutKeeps a y) : OutKeeps a (if c then x else y) := by
  by_cases hc : c
  · rw [if_pos hc]; exact hx
  · rw [if_neg hc]; exact hy
theorem keeps_up {a s : State} {x0 x1 x2 x3 x4 x5 x6 x7 x8 x9 x10 x11 x12 x13 x14 x15 x16 x17 x18 x19 x20 x21 x22 x23 x24 x25 x26 x27 x28 x29 x30 x31 x32 x33 x34 x35 x36 x37} (h : Keeps a s) (hm : x5 = s.mem) (hp : x37 = s.pending)
    (hf : x32 = s.fuse) (hn : x34 = s.freeN) (hs : x33.svnMin = s.bit.svnMin) :
    Keeps a (State.mk x0 x1 x2 x3 x4 x5 x6 x7 x8 x9 x10 x11 x12 x13 x14 x15 x16 x17 x18 x19 x20 x21 x22 x23 x24 x25 x26 x27 x28 x29 x30 x31 x32 x33 x34 x35 x36 x37) :=
  keeps_mk h (fun w => hm ▸ w) hp hf (Nat.le_of_eq hn.symm) (Nat.le_of_eq hs.symm)

end Sys2Proof.Machine
end

