-- ==== Sys2Proof/Laws/KeepsOps.lean ====
section
/-!
SUPPORT. The preservation lemmas of the shared operations, the queues and the links.
-/
namespace Sys2Proof.Machine

theorem State_setCore_keeps {s0 : State} {s : State} {p : Nat} {c : Core} (h0 : Keeps s0 s) : Keeps s0 (State.setCore s p c) :=
  keeps_up h0 rfl rfl rfl rfl rfl

theorem State_setQueue_keeps {s0 : State} {s : State} {q : Nat} {x : Queue} (h0 : Keeps s0 s) : Keeps s0 (State.setQueue s q x) :=
  keeps_up h0 rfl rfl rfl rfl rfl

theorem State_setFence_keeps {s0 : State} {s : State} {i : Nat} {f : Fence} (h0 : Keeps s0 s) : Keeps s0 (State.setFence s i f) :=
  keeps_up h0 rfl rfl rfl rfl rfl

theorem State_setCtx_keeps {s0 : State} {s : State} {c : Nat} {x : Xlat} (h0 : Keeps s0 s) : Keeps s0 (State.setCtx s c x) :=
  keeps_up h0 rfl rfl rfl rfl rfl

theorem State_setPage_keeps {s0 : State} {s : State} {n : Nat} {x : Page} (h0 : Keeps s0 s) : Keeps s0 (State.setPage s n x) :=
  keeps_up h0 rfl rfl rfl rfl rfl

theorem State_setDie_keeps {s0 : State} {s : State} {d : Nat} {x : Die} (h0 : Keeps s0 s) : Keeps s0 (State.setDie s d x) :=
  keeps_up h0 rfl rfl rfl rfl rfl

theorem State_setGroup_keeps {s0 : State} {s : State} {g : Nat} {x : Group} (h0 : Keeps s0 s) : Keeps s0 (State.setGroup s g x) :=
  keeps_up h0 rfl rfl rfl rfl rfl

theorem State_setEntry_keeps {s0 : State} {s : State} {n : Nat} {t : Nat} {e : Entry} (h0 : Keeps s0 s) : Keeps s0 (State.setEntry s n t e) :=
  keeps_up h0 rfl rfl rfl rfl rfl

theorem coreCtr_keeps {s0 : State} {s : State} {p : Nat} {o : Nat} {n : Nat} (h0 : Keeps s0 s) : Keeps s0 (coreCtr s p o n) := by
  unfold coreCtr
  repeat' first
    | with_reducible first
      | assumption | refine State_setCore_keeps ?_ | refine keeps_ite ?_ ?_

theorem queueCtr_keeps {s0 : State} {s : State} {q : Nat} {o : Nat} {n : Nat} (h0 : Keeps s0 s) : Keeps s0 (queueCtr s q o n) := by
  unfold queueCtr
  repeat' first
    | with_reducible first
      | assumption | refine State_setQueue_keeps ?_ | refine keeps_ite ?_ ?_

theorem tickCtr_keeps {s0 : State} {s : State} {o : Nat} {n : Nat} (h0 : Keeps s0 s) : Keeps s0 (tickCtr s o n) :=
  keeps_up h0 rfl rfl rfl rfl rfl

theorem numxCtr_keeps {s0 : State} {s : State} {o : Nat} {n : Nat} (h0 : Keeps s0 s) : Keeps s0 (numxCtr s o n) :=
  keeps_up h0 rfl rfl rfl rfl rfl

theorem hostCtr_keeps {s0 : State} {s : State} {o : Nat} {n : Nat} (h0 : Keeps s0 s) : Keeps s0 (hostCtr s o n) :=
  keeps_up h0 rfl rfl rfl rfl rfl

theorem ctxCtr_keeps {s0 : State} {s : State} {c : Nat} {o : Nat} {n : Nat} (h0 : Keeps s0 s) : Keeps s0 (ctxCtr s c o n) := by
  unfold ctxCtr
  repeat' first
    | with_reducible first
      | assumption | refine State_setCtx_keeps ?_ | refine keeps_ite ?_ ?_

theorem bmgtCtr_keeps {s0 : State} {s : State} {o : Nat} {n : Nat} (h0 : Keeps s0 s) : Keeps s0 (bmgtCtr s o n) :=
  keeps_up h0 rfl rfl rfl rfl rfl

theorem dirBump_keeps {s0 : State} {s : State} {o : Nat} {n : Nat} (h0 : Keeps s0 s) : Keeps s0 (dirBump s o n) :=
  keeps_up h0 rfl rfl rfl rfl rfl

theorem drawChoice_keeps {s0 : State} {s : State} {k : Nat} (h0 : Keeps s0 s) : Keeps s0 (drawChoice s k).2 := by
  unfold drawChoice
  repeat' first
    | with_reducible assumption
    | fail_if_no_progress (with_reducible refine keeps_mk ?_ id rfl rfl (Nat.le_add_right _ _) (Nat.le_refl _))

theorem drawBytes_keeps {s0 : State} {s : State} {n : Nat} (h0 : Keeps s0 s) : Keeps s0 (drawBytes s n).2 := by
  unfold drawBytes
  repeat' first
    | with_reducible assumption
    | fail_if_no_progress (with_reducible refine keeps_mk ?_ id rfl rfl (Nat.le_add_right _ _) (Nat.le_refl _))

theorem unstage_keeps {s0 : State} {s : State} {p : Nat} {l : Nat} (h0 : Keeps s0 s) : Keeps s0 (unstage s p l) := by
  unfold unstage
  repeat' first
    | with_reducible first
      | assumption | refine State_setCore_keeps ?_ | refine coreCtr_keeps ?_ | refine queueCtr_keeps ?_
    | split | dsimp only

theorem uncache_keeps {s0 : State} {s : State} {d : Nat} {l : Nat} (h0 : Keeps s0 s) : Keeps s0 (uncache s d l) := by
  unfold uncache
  repeat' first
    | with_reducible first
      | assumption | refine State_setDie_keeps ?_ | refine coreCtr_keeps ?_ | refine queueCtr_keeps ?_
    | split | dsimp only

theorem filterDec_keeps {s0 : State} {s : State} {l : Nat} (h0 : Keeps s0 s) : Keeps s0 (filterDec s l) := by
  unfold filterDec
  repeat' first
    | with_reducible first
      | assumption | refine State_setDie_keeps ?_ | refine keeps_ite ?_ ?_

theorem mapDir_keeps {s0 : State} {s : State} {l : Nat} {f : DirEntry → DirEntry} (h0 : Keeps s0 s) : Keeps s0 (mapDir s l f) :=
  keeps_up h0 rfl rfl rfl rfl rfl

theorem dropDir_keeps {s0 : State} {s : State} {l : Nat} (h0 : Keeps s0 s) : Keeps s0 (dropDir s l) := by
  unfold dropDir
  repeat' first
    | with_reducible first
      | assumption | refine filterDec_keeps ?_
    | fail_if_no_progress (with_reducible refine keeps_up ?_ rfl rfl rfl rfl rfl)

theorem recallLine_keeps {s0 : State} {s : State} {l : Nat} (h0 : Keeps s0 s) : Keeps s0 (recallLine s l) := by
  unfold recallLine
  repeat' first
    | with_reducible first
      | assumption | refine dirBump_keeps ?_ | refine dropDir_keeps ?_ | refine mapDir_keeps ?_
      | refine uncache_keeps ?_ | refine keeps_forUp (fun _ _ _ => ?_) ?_
    | split

theorem invalidateLine_keeps {s0 : State} {s : State} {l : Nat} (h0 : Keeps s0 s) : Keeps s0 (invalidateLine s l) := by
  unfold invalidateLine
  repeat' first
    | with_reducible first
      | assumption | refine dirBump_keeps ?_ | refine recallLine_keeps ?_ | refine unstage_keeps ?_
      | refine keeps_ite ?_ ?_ | refine keeps_foldl (fun _ _ _ => ?_) ?_

theorem storeBytes_keeps {s0 : State} {s : State} {a : Nat} {bs : List Byte} {bad : Bool} (h0 : Keeps s0 s) : Keeps s0 (storeBytes s a bs bad) := by
  unfold storeBytes
  repeat' first
    | with_reducible first
      | assumption | refine keeps_ite ?_ ?_
    | fail_if_no_progress (with_reducible refine keeps_mk ?_ (wf_cellsSet _ _) rfl rfl (Nat.le_refl _) (Nat.le_refl _))

theorem writeMem_keeps {s0 : State} {s : State} {a : Nat} {bs : List Byte} {bad : Bool} (h0 : Keeps s0 s) : Keeps s0 (writeMem s a bs bad) := by
  unfold writeMem
  repeat' first
    | with_reducible first
      | assumption | refine State_setCore_keeps ?_ | refine invalidateLine_keeps ?_ | refine storeBytes_keeps ?_
      | refine keeps_ite ?_ ?_ | refine keeps_foldl (fun _ _ _ => ?_) ?_
    | fail_if_no_progress (with_reducible refine keeps_up ?_ rfl rfl rfl rfl rfl)

theorem writeRuns_keeps {s0 : State} {s : State} {ws : List (Nat × List Byte)} (h0 : Keeps s0 s) : Keeps s0 (writeRuns s ws) := by
  unfold writeRuns
  repeat' first
    | with_reducible first
      | assumption | refine writeMem_keeps ?_ | refine keeps_foldl (fun _ _ _ => ?_) ?_

theorem sendMsix_keeps {s0 : State} {s : State} {fn : Nat} {vec : Nat} (h0 : Keeps s0 s) : Keeps s0 (sendMsix s fn vec) := by
  unfold sendMsix
  repeat' first
    | with_reducible first
      | assumption | refine keeps_ite ?_ ?_
    | fail_if_no_progress (with_reducible refine keeps_up ?_ rfl rfl rfl rfl rfl)

theorem raiseIrq_keeps {s0 : State} {s : State} {b : Nat} (h0 : Keeps s0 s) : Keeps s0 (raiseIrq s b) := by
  unfold raiseIrq
  repeat' first
    | with_reducible first
      | assumption | refine sendMsix_keeps ?_ | refine keeps_ite ?_ ?_
    | fail_if_no_progress (with_reducible refine keeps_up ?_ rfl rfl rfl rfl rfl)

theorem pageErr_keeps {s0 : State} {s : State} {pg : Nat} {b : Nat} {ofs : Nat} (h0 : Keeps s0 s) : Keeps s0 (pageErr s pg b ofs) := by
  unfold pageErr
  repeat' first
    | with_reducible first
      | assumption | refine State_setPage_keeps ?_ | refine raiseIrq_keeps ?_ | refine keeps_ite ?_ ?_

theorem writeIgnored_keeps {s0 : State} {s : State} {pg : Nat} {ofs : Nat} (h0 : Keeps s0 s) : Keeps s0 (writeIgnored s pg ofs) := by
  unfold writeIgnored
  repeat' first
    | with_reducible first
      | assumption | refine pageErr_keeps ?_

theorem badAccess_keeps {s0 : State} {s : State} {pg : Nat} {ofs : Nat} (h0 : Keeps s0 s) : Keeps s0 (badAccess s pg ofs) := by
  unfold badAccess
  repeat' first
    | with_reducible first
      | assumption | refine pageErr_keeps ?_

theorem foreignWrite_keeps {s0 : State} {s : State} {pg : Nat} {ofs : Nat} (h0 : Keeps s0 s) : Keeps s0 (foreignWrite s pg ofs) := by
  unfold foreignWrite
  repeat' first
    | with_reducible first
      | assumption | refine pageErr_keeps ?_

theorem logStore_keeps {s0 : State} {s : State} {e : LogIn} (h0 : Keeps s0 s) : Keeps s0 (logStore s e) := by
  unfold logStore
  repeat' first
    | with_reducible first
      | assumption | refine raiseIrq_keeps ?_ | refine keeps_ite ?_ ?_
    | fail_if_no_progress (with_reducible refine keeps_up ?_ rfl rfl rfl rfl rfl)

theorem logAdd_keeps {s0 : State} {s : State} {e : LogIn} (h0 : Keeps s0 s) : Keeps s0 (logAdd s e) := by
  unfold logAdd
  repeat' first
    | with_reducible first
      | assumption | refine logStore_keeps ?_
    | split | fail_if_no_progress (with_reducible refine keeps_up ?_ rfl rfl rfl rfl rfl)

theorem detectUnit_keeps {s0 : State} {s : State} {u : Nat} (h0 : Keeps s0 s) : Keeps s0 (detectUnit s u) := by
  unfold detectUnit
  repeat' first
    | with_reducible first
      | assumption | refine State_setCore_keeps ?_ | refine logAdd_keeps ?_ | refine keeps_ite ?_ ?_
    | fail_if_no_progress (with_reducible refine keeps_mk ?_ id rfl rfl (Nat.le_add_right _ _) (Nat.le_refl _))

theorem detect_keeps {s0 : State} {s : State} {a : Nat} {n : Nat} (h0 : Keeps s0 s) : Keeps s0 (detect s a n) := by
  unfold detect
  repeat' first
    | with_reducible first
      | assumption | refine detectUnit_keeps ?_ | refine keeps_foldl (fun _ _ _ => ?_) ?_

theorem vdetect_keeps {s0 : State} {s : State} {c : Nat} {dva : Nat} {n : Nat} (h0 : Keeps s0 s) : Keeps s0 (vdetect s c dva n) := by
  unfold vdetect
  repeat' first
    | with_reducible first
      | assumption | refine detect_keeps ?_ | refine keeps_ite ?_ ?_ | refine keeps_ite1 ?_ ?_
      | refine keeps_foldl (fun _ _ _ => ?_) ?_ | refine keeps_forUp (fun _ _ _ => ?_) ?_
      | refine keeps_fold1 (fun _ _ _ => ?_) ?_ | refine keeps_foldRead (fun _ _ _ => ?_) ?_
      | refine keeps_foldMap (fun _ _ _ => ?_) ?_ | refine keeps_foldAcc (fun _ _ _ => ?_) ?_
      | refine keeps_foldWr (fun _ _ _ => ?_) ?_ | refine keeps_forUpWr (fun _ _ _ => ?_) ?_
      | refine keeps_foldAcc1 (fun _ _ _ => ?_) ?_
    | split | intro _ | dsimp only | fail_if_no_progress (with_reducible refine keeps_up ?_ rfl rfl rfl rfl rfl)
    | fail_if_no_progress (with_reducible refine keeps_mk ?_ id rfl rfl (Nat.le_add_right _ _) (Nat.le_refl _))
    | fail_if_no_progress (with_reducible refine keeps_mk ?_ (wf_filter _) rfl rfl (Nat.le_refl _) (Nat.le_refl _))
    | fail_if_no_progress (with_reducible refine keeps_mk ?_ (wf_cellsSet _ _) rfl rfl (Nat.le_refl _) (Nat.le_refl _))
    | fail_if_no_progress (with_reducible refine keeps_mk ?_ (fun _ => rfl) rfl rfl (Nat.le_refl _) (Nat.le_refl _))

theorem vwrite_keeps {s0 : State} {s : State} {c : Nat} {dva : Nat} {bs : List Byte} {bad : Bool} (h0 : Keeps s0 s) : Keeps s0 (vwrite s c dva bs bad) := by
  unfold vwrite
  repeat' first
    | with_reducible first
      | assumption | refine writeMem_keeps ?_ | refine keeps_foldl (fun _ _ _ => ?_) ?_
    | split

theorem vnote_keeps {s0 : State} {s : State} {c : Nat} {dva : Nat} {n : Nat} {f : Option Nat} (h0 : Keeps s0 s) : Keeps s0 (vnote s c dva n f) := by
  unfold vnote
  repeat' first
    | with_reducible first
      | assumption | refine ctxCtr_keeps ?_

theorem State_setPort_keeps {s0 : State} {s : State} {k : Nat} {x : Port} (h0 : Keeps s0 s) : Keeps s0 (State.setPort s k x) :=
  keeps_up h0 rfl rfl rfl rfl rfl

theorem portCtr_keeps {s0 : State} {s : State} {k : Nat} {o : Nat} {n : Nat} (h0 : Keeps s0 s) : Keeps s0 (portCtr s k o n) := by
  unfold portCtr
  repeat' first
    | with_reducible first
      | assumption | refine State_setPort_keeps ?_ | refine keeps_ite ?_ ?_

theorem fabCtr_keeps {s0 : State} {s : State} {o : Nat} {n : Nat} (h0 : Keeps s0 s) : Keeps s0 (fabCtr s o n) :=
  keeps_up h0 rfl rfl rfl rfl rfl

theorem ceCtr_keeps {s0 : State} {s : State} {o : Nat} {n : Nat} (h0 : Keeps s0 s) : Keeps s0 (ceCtr s o n) :=
  keeps_up h0 rfl rfl rfl rfl rfl

theorem creditBack_keeps {s0 : State} {s : State} {j : Nat} {v : Nat} {n : Nat} {fl : Nat} (h0 : Keeps s0 s) : Keeps s0 (creditBack s j v n fl) := by
  unfold creditBack
  repeat' first
    | with_reducible first
      | assumption | refine keeps_ite ?_ ?_ | refine keeps_ite1 ?_ ?_ | refine keeps_foldl (fun _ _ _ => ?_) ?_
      | refine keeps_forUp (fun _ _ _ => ?_) ?_ | refine keeps_fold1 (fun _ _ _ => ?_) ?_
      | refine keeps_foldRead (fun _ _ _ => ?_) ?_ | refine keeps_foldMap (fun _ _ _ => ?_) ?_
      | refine keeps_foldAcc (fun _ _ _ => ?_) ?_ | refine keeps_foldWr (fun _ _ _ => ?_) ?_
      | refine keeps_forUpWr (fun _ _ _ => ?_) ?_ | refine keeps_foldAcc1 (fun _ _ _ => ?_) ?_
    | split | intro _ | dsimp only | fail_if_no_progress (with_reducible refine keeps_up ?_ rfl rfl rfl rfl rfl)
    | fail_if_no_progress (with_reducible refine keeps_mk ?_ id rfl rfl (Nat.le_add_right _ _) (Nat.le_refl _))
    | fail_if_no_progress (with_reducible refine keeps_mk ?_ (wf_filter _) rfl rfl (Nat.le_refl _) (Nat.le_refl _))
    | fail_if_no_progress (with_reducible refine keeps_mk ?_ (wf_cellsSet _ _) rfl rfl (Nat.le_refl _) (Nat.le_refl _))
    | fail_if_no_progress (with_reducible refine keeps_mk ?_ (fun _ => rfl) rfl rfl (Nat.le_refl _) (Nat.le_refl _))

theorem flitForwarded_keeps {s0 : State} {s : State} {p : Packet} (h0 : Keeps s0 s) : Keeps s0 (flitForwarded s p) := by
  unfold flitForwarded
  repeat' first
    | with_reducible first
      | assumption | refine creditBack_keeps ?_ | refine keeps_ite ?_ ?_ | refine keeps_ite1 ?_ ?_
      | refine keeps_foldl (fun _ _ _ => ?_) ?_ | refine keeps_forUp (fun _ _ _ => ?_) ?_
      | refine keeps_fold1 (fun _ _ _ => ?_) ?_ | refine keeps_foldRead (fun _ _ _ => ?_) ?_
      | refine keeps_foldMap (fun _ _ _ => ?_) ?_ | refine keeps_foldAcc (fun _ _ _ => ?_) ?_
      | refine keeps_foldWr (fun _ _ _ => ?_) ?_ | refine keeps_forUpWr (fun _ _ _ => ?_) ?_
      | refine keeps_foldAcc1 (fun _ _ _ => ?_) ?_
    | split | intro _ | dsimp only | fail_if_no_progress (with_reducible refine keeps_up ?_ rfl rfl rfl rfl rfl)
    | fail_if_no_progress (with_reducible refine keeps_mk ?_ id rfl rfl (Nat.le_add_right _ _) (Nat.le_refl _))
    | fail_if_no_progress (with_reducible refine keeps_mk ?_ (wf_filter _) rfl rfl (Nat.le_refl _) (Nat.le_refl _))
    | fail_if_no_progress (with_reducible refine keeps_mk ?_ (wf_cellsSet _ _) rfl rfl (Nat.le_refl _) (Nat.le_refl _))
    | fail_if_no_progress (with_reducible refine keeps_mk ?_ (fun _ => rfl) rfl rfl (Nat.le_refl _) (Nat.le_refl _))

theorem pumpOne_keeps {s0 : State} {s : State} {k : Nat} (h0 : Keeps s0 s) : Keeps s0 (pumpOne s k) := by
  unfold pumpOne
  repeat' first
    | with_reducible first
      | assumption | refine State_setPort_keeps ?_ | refine flitForwarded_keeps ?_ | refine portCtr_keeps ?_
      | refine keeps_ite ?_ ?_ | refine keeps_ite1 ?_ ?_ | refine keeps_foldl (fun _ _ _ => ?_) ?_
      | refine keeps_forUp (fun _ _ _ => ?_) ?_ | refine keeps_fold1 (fun _ _ _ => ?_) ?_
      | refine keeps_foldRead (fun _ _ _ => ?_) ?_ | refine keeps_foldMap (fun _ _ _ => ?_) ?_
      | refine keeps_foldAcc (fun _ _ _ => ?_) ?_ | refine keeps_foldWr (fun _ _ _ => ?_) ?_
      | refine keeps_forUpWr (fun _ _ _ => ?_) ?_ | refine keeps_foldAcc1 (fun _ _ _ => ?_) ?_
    | split | intro _ | dsimp only | fail_if_no_progress (with_reducible refine keeps_up ?_ rfl rfl rfl rfl rfl)
    | fail_if_no_progress (with_reducible refine keeps_mk ?_ id rfl rfl (Nat.le_add_right _ _) (Nat.le_refl _))
    | fail_if_no_progress (with_reducible refine keeps_mk ?_ (wf_filter _) rfl rfl (Nat.le_refl _) (Nat.le_refl _))
    | fail_if_no_progress (with_reducible refine keeps_mk ?_ (wf_cellsSet _ _) rfl rfl (Nat.le_refl _) (Nat.le_refl _))
    | fail_if_no_progress (with_reducible refine keeps_mk ?_ (fun _ => rfl) rfl rfl (Nat.le_refl _) (Nat.le_refl _))

theorem pump_keeps {s0 : State} {s : State} {k : Nat} (h0 : Keeps s0 s) : Keeps s0 (pump s k) := by
  unfold pump
  repeat' first
    | with_reducible first
      | assumption | refine pumpOne_keeps ?_ | refine keeps_forUp (fun _ _ _ => ?_) ?_

theorem sendCtl_keeps {s0 : State} {s : State} {k : Nat} {m : CtlMsg} (h0 : Keeps s0 s) : Keeps s0 (sendCtl s k m) := by
  unfold sendCtl
  repeat' first
    | with_reducible first
      | assumption | refine State_setPort_keeps ?_ | refine pump_keeps ?_ | refine keeps_ite ?_ ?_

theorem flood_keeps {s0 : State} {s : State} {from_ : Option Nat} {m : CtlMsg} (h0 : Keeps s0 s) : Keeps s0 (flood s from_ m) := by
  unfold flood
  repeat' first
    | with_reducible first
      | assumption | refine sendCtl_keeps ?_ | refine keeps_ite ?_ ?_ | refine keeps_foldl (fun _ _ _ => ?_) ?_

theorem forwardGroup_keeps {s0 : State} {s : State} {from_ : Option Nat} {gid : Nat} {m : CtlMsg} (h0 : Keeps s0 s) : Keeps s0 (forwardGroup s from_ gid m) := by
  unfold forwardGroup
  repeat' first
    | with_reducible first
      | assumption | refine sendCtl_keeps ?_ | refine keeps_foldl (fun _ _ _ => ?_) ?_
    | split

theorem firstAbort_keeps {s0 : State} {s : State} {gid : Nat} {origin : Nat} (h0 : Keeps s0 s) : Keeps s0 (firstAbort s gid origin).2 := by
  unfold firstAbort
  repeat' first
    | with_reducible first
      | assumption | refine keeps_ite ?_ ?_ | refine keeps_ite1 ?_ ?_ | refine keeps_foldl (fun _ _ _ => ?_) ?_
      | refine keeps_forUp (fun _ _ _ => ?_) ?_ | refine keeps_fold1 (fun _ _ _ => ?_) ?_
      | refine keeps_foldRead (fun _ _ _ => ?_) ?_ | refine keeps_foldMap (fun _ _ _ => ?_) ?_
      | refine keeps_foldAcc (fun _ _ _ => ?_) ?_ | refine keeps_foldWr (fun _ _ _ => ?_) ?_
      | refine keeps_forUpWr (fun _ _ _ => ?_) ?_ | refine keeps_foldAcc1 (fun _ _ _ => ?_) ?_
    | split | intro _ | dsimp only | fail_if_no_progress (with_reducible refine keeps_up ?_ rfl rfl rfl rfl rfl)
    | fail_if_no_progress (with_reducible refine keeps_mk ?_ id rfl rfl (Nat.le_add_right _ _) (Nat.le_refl _))
    | fail_if_no_progress (with_reducible refine keeps_mk ?_ (wf_filter _) rfl rfl (Nat.le_refl _) (Nat.le_refl _))
    | fail_if_no_progress (with_reducible refine keeps_mk ?_ (wf_cellsSet _ _) rfl rfl (Nat.le_refl _) (Nat.le_refl _))
    | fail_if_no_progress (with_reducible refine keeps_mk ?_ (fun _ => rfl) rfl rfl (Nat.le_refl _) (Nat.le_refl _))

theorem firstSeen_keeps {s0 : State} {s : State} {k : Nat × Nat × Nat} (h0 : Keeps s0 s) : Keeps s0 (firstSeen s k).2 := by
  unfold firstSeen
  repeat' first
    | with_reducible assumption
    | split | fail_if_no_progress (with_reducible refine keeps_up ?_ rfl rfl rfl rfl rfl)

theorem rxFlits_keeps {s0 : State} {s : State} {k : Nat} {n : Nat} (h0 : Keeps s0 s) : Keeps s0 (rxFlits s k n) :=
  keeps_up h0 rfl rfl rfl rfl rfl

theorem arrive_keeps {s0 : State} {s : State} {k : Nat} {p : Packet} (h0 : Keeps s0 s) : Keeps s0 (arrive s k p) := by
  unfold arrive
  repeat' first
    | with_reducible first
      | assumption | refine State_setPort_keeps ?_ | refine rxFlits_keeps ?_ | refine keeps_ite ?_ ?_
      | refine keeps_ite1 ?_ ?_ | refine keeps_foldl (fun _ _ _ => ?_) ?_ | refine keeps_forUp (fun _ _ _ => ?_) ?_
      | refine keeps_fold1 (fun _ _ _ => ?_) ?_ | refine keeps_foldRead (fun _ _ _ => ?_) ?_
      | refine keeps_foldMap (fun _ _ _ => ?_) ?_ | refine keeps_foldAcc (fun _ _ _ => ?_) ?_
      | refine keeps_foldWr (fun _ _ _ => ?_) ?_ | refine keeps_forUpWr (fun _ _ _ => ?_) ?_
      | refine keeps_foldAcc1 (fun _ _ _ => ?_) ?_
    | split | intro _ | dsimp only | fail_if_no_progress (with_reducible refine keeps_up ?_ rfl rfl rfl rfl rfl)
    | fail_if_no_progress (with_reducible refine keeps_mk ?_ id rfl rfl (Nat.le_add_right _ _) (Nat.le_refl _))
    | fail_if_no_progress (with_reducible refine keeps_mk ?_ (wf_filter _) rfl rfl (Nat.le_refl _) (Nat.le_refl _))
    | fail_if_no_progress (with_reducible refine keeps_mk ?_ (wf_cellsSet _ _) rfl rfl (Nat.le_refl _) (Nat.le_refl _))
    | fail_if_no_progress (with_reducible refine keeps_mk ?_ (fun _ => rfl) rfl rfl (Nat.le_refl _) (Nat.le_refl _))

theorem returnCredits_keeps {s0 : State} {s : State} {k : Nat} {p : Packet} (h0 : Keeps s0 s) : Keeps s0 (returnCredits s k p) := by
  unfold returnCredits
  repeat' first
    | with_reducible first
      | assumption | refine creditBack_keeps ?_ | refine keeps_ite ?_ ?_ | refine keeps_ite1 ?_ ?_
      | refine keeps_foldl (fun _ _ _ => ?_) ?_ | refine keeps_forUp (fun _ _ _ => ?_) ?_
      | refine keeps_fold1 (fun _ _ _ => ?_) ?_ | refine keeps_foldRead (fun _ _ _ => ?_) ?_
      | refine keeps_foldMap (fun _ _ _ => ?_) ?_ | refine keeps_foldAcc (fun _ _ _ => ?_) ?_
      | refine keeps_foldWr (fun _ _ _ => ?_) ?_ | refine keeps_forUpWr (fun _ _ _ => ?_) ?_
      | refine keeps_foldAcc1 (fun _ _ _ => ?_) ?_
    | split | intro _ | dsimp only | fail_if_no_progress (with_reducible refine keeps_up ?_ rfl rfl rfl rfl rfl)
    | fail_if_no_progress (with_reducible refine keeps_mk ?_ id rfl rfl (Nat.le_add_right _ _) (Nat.le_refl _))
    | fail_if_no_progress (with_reducible refine keeps_mk ?_ (wf_filter _) rfl rfl (Nat.le_refl _) (Nat.le_refl _))
    | fail_if_no_progress (with_reducible refine keeps_mk ?_ (wf_cellsSet _ _) rfl rfl (Nat.le_refl _) (Nat.le_refl _))
    | fail_if_no_progress (with_reducible refine keeps_mk ?_ (fun _ => rfl) rfl rfl (Nat.le_refl _) (Nat.le_refl _))

theorem queuePacket_keeps {s0 : State} {s : State} {k : Nat} {p : Packet} (h0 : Keeps s0 s) : Keeps s0 (queuePacket s k p) := by
  unfold queuePacket
  repeat' first
    | with_reducible first
      | assumption | refine State_setPort_keeps ?_ | refine pump_keeps ?_

theorem nonMinimal_keeps {s0 : State} {s : State} {p : Packet} {mask : Nat} (h0 : Keeps s0 s) : Keeps s0 (nonMinimal s p mask).2 := by
  unfold nonMinimal
  repeat' first
    | with_reducible first
      | assumption | refine drawChoice_keeps ?_
    | split | dsimp only

theorem inject_keeps {s0 : State} {s : State} {p : Packet} (h0 : Keeps s0 s) : Keeps s0 (inject s p).1 := by
  unfold inject
  repeat' first
    | with_reducible first
      | assumption | refine fabCtr_keeps ?_ | refine nonMinimal_keeps ?_ | refine queuePacket_keeps ?_
    | split | dsimp only

theorem sendRequest_keeps {s0 : State} {s : State} {p : Packet} {dev : Nat} {wr : Bool} {owner : ReqFor} (h0 : Keeps s0 s) : Keeps s0 (sendRequest s p dev wr owner).1 := by
  unfold sendRequest
  repeat' first
    | with_reducible first
      | assumption | refine inject_keeps ?_
    | split | dsimp only | fail_if_no_progress (with_reducible refine keeps_up ?_ rfl rfl rfl rfl rfl)

theorem takeRequest_keeps {s0 s t : State} {tid dev : Nat} {r : FabReq} (h0 : Keeps s0 s)
    (h : takeRequest s tid dev = some (r, t)) : Keeps s0 t := by
  unfold takeRequest at h
  split at h
  · cases h
  · cases h
    exact keeps_mk h0 id rfl rfl (Nat.le_refl _) (Nat.le_refl _)

theorem mapRec_keeps {s0 : State} {s : State} {c : CmdRef} {f : Rec → Rec} (h0 : Keeps s0 s) : Keeps s0 (mapRec s c f) :=
  keeps_up h0 rfl rfl rfl rfl rfl

theorem setRecSt_keeps {s0 : State} {s : State} {c : CmdRef} {st : RecSt} (h0 : Keeps s0 s) : Keeps s0 (setRecSt s c st) :=
  keeps_up h0 rfl rfl rfl rfl rfl

theorem closeFrame_keeps {s0 : State} {s : State} {q : Nat} (h0 : Keeps s0 s) : Keeps s0 (closeFrame s q) := by
  unfold closeFrame
  repeat' first
    | with_reducible first
      | assumption | refine State_setQueue_keeps ?_
    | split | dsimp only | fail_if_no_progress (with_reducible refine keeps_up ?_ rfl rfl rfl rfl rfl)

theorem postOne_keeps {s0 : State} {s : State} {c : CmdRef} {v : Cpl} (h0 : Keeps s0 s) : Keeps s0 (postOne s c v).1 := by
  unfold postOne
  repeat' first
    | with_reducible first
      | assumption | refine State_setQueue_keeps ?_ | refine sendMsix_keeps ?_ | refine setRecSt_keeps ?_
      | refine vnote_keeps ?_ | refine vwrite_keeps ?_ | refine keeps_ite ?_ ?_
    | split

theorem fetchTo_keeps {s0 : State} {s : State} {q : Nat} {n : Nat} (h0 : Keeps s0 s) : Keeps s0 (fetchTo s q n) := by
  unfold fetchTo
  repeat' first
    | with_reducible first
      | assumption | refine State_setQueue_keeps ?_ | refine drawBytes_keeps ?_ | refine keeps_ite ?_ ?_
      | refine keeps_ite1 ?_ ?_ | refine keeps_foldl (fun _ _ _ => ?_) ?_ | refine keeps_forUp (fun _ _ _ => ?_) ?_
      | refine keeps_fold1 (fun _ _ _ => ?_) ?_ | refine keeps_foldRead (fun _ _ _ => ?_) ?_
      | refine keeps_foldMap (fun _ _ _ => ?_) ?_ | refine keeps_foldAcc (fun _ _ _ => ?_) ?_
      | refine keeps_foldWr (fun _ _ _ => ?_) ?_ | refine keeps_forUpWr (fun _ _ _ => ?_) ?_
      | refine keeps_foldAcc1 (fun _ _ _ => ?_) ?_
    | split | intro _ | dsimp only | fail_if_no_progress (with_reducible refine keeps_up ?_ rfl rfl rfl rfl rfl)
    | fail_if_no_progress (with_reducible refine keeps_mk ?_ id rfl rfl (Nat.le_add_right _ _) (Nat.le_refl _))
    | fail_if_no_progress (with_reducible refine keeps_mk ?_ (wf_filter _) rfl rfl (Nat.le_refl _) (Nat.le_refl _))
    | fail_if_no_progress (with_reducible refine keeps_mk ?_ (wf_cellsSet _ _) rfl rfl (Nat.le_refl _) (Nat.le_refl _))
    | fail_if_no_progress (with_reducible refine keeps_mk ?_ (fun _ => rfl) rfl rfl (Nat.le_refl _) (Nat.le_refl _))

theorem failRecs_keeps {s0 : State} {s : State} {q : Nat} {rs : List Rec} {cpl : Rec → Cpl} (h0 : Keeps s0 s) : Keeps s0 (failRecs s q rs cpl) := by
  unfold failRecs
  repeat' first
    | with_reducible first
      | assumption | refine closeFrame_keeps ?_ | refine postOne_keeps ?_ | refine keeps_ite ?_ ?_
      | refine keeps_ite1 ?_ ?_ | refine keeps_foldl (fun _ _ _ => ?_) ?_ | refine keeps_forUp (fun _ _ _ => ?_) ?_
      | refine keeps_fold1 (fun _ _ _ => ?_) ?_ | refine keeps_foldRead (fun _ _ _ => ?_) ?_
      | refine keeps_foldMap (fun _ _ _ => ?_) ?_ | refine keeps_foldAcc (fun _ _ _ => ?_) ?_
      | refine keeps_foldWr (fun _ _ _ => ?_) ?_ | refine keeps_forUpWr (fun _ _ _ => ?_) ?_
      | refine keeps_foldAcc1 (fun _ _ _ => ?_) ?_
    | split | intro _ | dsimp only | fail_if_no_progress (with_reducible refine keeps_up ?_ rfl rfl rfl rfl rfl)
    | fail_if_no_progress (with_reducible refine keeps_mk ?_ id rfl rfl (Nat.le_add_right _ _) (Nat.le_refl _))
    | fail_if_no_progress (with_reducible refine keeps_mk ?_ (wf_filter _) rfl rfl (Nat.le_refl _) (Nat.le_refl _))
    | fail_if_no_progress (with_reducible refine keeps_mk ?_ (wf_cellsSet _ _) rfl rfl (Nat.le_refl _) (Nat.le_refl _))
    | fail_if_no_progress (with_reducible refine keeps_mk ?_ (fun _ => rfl) rfl rfl (Nat.le_refl _) (Nat.le_refl _))

theorem failUnstarted_keeps {s0 : State} {s : State} {q : Nat} {st : Nat} (h0 : Keeps s0 s) : Keeps s0 (failUnstarted s q st) := by
  unfold failUnstarted
  repeat' first
    | with_reducible first
      | assumption | refine failRecs_keeps ?_ | refine fetchTo_keeps ?_ | refine keeps_ite ?_ ?_
      | refine keeps_ite1 ?_ ?_ | refine keeps_foldl (fun _ _ _ => ?_) ?_ | refine keeps_forUp (fun _ _ _ => ?_) ?_
      | refine keeps_fold1 (fun _ _ _ => ?_) ?_ | refine keeps_foldRead (fun _ _ _ => ?_) ?_
      | refine keeps_foldMap (fun _ _ _ => ?_) ?_ | refine keeps_foldAcc (fun _ _ _ => ?_) ?_
      | refine keeps_foldWr (fun _ _ _ => ?_) ?_ | refine keeps_forUpWr (fun _ _ _ => ?_) ?_
      | refine keeps_foldAcc1 (fun _ _ _ => ?_) ?_
    | split | intro _ | dsimp only | fail_if_no_progress (with_reducible refine keeps_up ?_ rfl rfl rfl rfl rfl)
    | fail_if_no_progress (with_reducible refine keeps_mk ?_ id rfl rfl (Nat.le_add_right _ _) (Nat.le_refl _))
    | fail_if_no_progress (with_reducible refine keeps_mk ?_ (wf_filter _) rfl rfl (Nat.le_refl _) (Nat.le_refl _))
    | fail_if_no_progress (with_reducible refine keeps_mk ?_ (wf_cellsSet _ _) rfl rfl (Nat.le_refl _) (Nat.le_refl _))
    | fail_if_no_progress (with_reducible refine keeps_mk ?_ (fun _ => rfl) rfl rfl (Nat.le_refl _) (Nat.le_refl _))

theorem exitQueue_keeps {s0 : State} {s : State} {q : Nat} (h0 : Keeps s0 s) : Keeps s0 (exitQueue s q) := by
  unfold exitQueue
  repeat' first
    | with_reducible first
      | assumption | refine failRecs_keeps ?_ | refine fetchTo_keeps ?_ | refine keeps_ite ?_ ?_
      | refine keeps_ite1 ?_ ?_ | refine keeps_foldl (fun _ _ _ => ?_) ?_ | refine keeps_forUp (fun _ _ _ => ?_) ?_
      | refine keeps_fold1 (fun _ _ _ => ?_) ?_ | refine keeps_foldRead (fun _ _ _ => ?_) ?_
      | refine keeps_foldMap (fun _ _ _ => ?_) ?_ | refine keeps_foldAcc (fun _ _ _ => ?_) ?_
      | refine keeps_foldWr (fun _ _ _ => ?_) ?_ | refine keeps_forUpWr (fun _ _ _ => ?_) ?_
      | refine keeps_foldAcc1 (fun _ _ _ => ?_) ?_
    | split | intro _ | dsimp only | fail_if_no_progress (with_reducible refine keeps_up ?_ rfl rfl rfl rfl rfl)
    | fail_if_no_progress (with_reducible refine keeps_mk ?_ id rfl rfl (Nat.le_add_right _ _) (Nat.le_refl _))
    | fail_if_no_progress (with_reducible refine keeps_mk ?_ (wf_filter _) rfl rfl (Nat.le_refl _) (Nat.le_refl _))
    | fail_if_no_progress (with_reducible refine keeps_mk ?_ (wf_cellsSet _ _) rfl rfl (Nat.le_refl _) (Nat.le_refl _))
    | fail_if_no_progress (with_reducible refine keeps_mk ?_ (fun _ => rfl) rfl rfl (Nat.le_refl _) (Nat.le_refl _))

theorem stopQueue_keeps {s0 : State} {s : State} {q : Nat} {code : Nat} (h0 : Keeps s0 s) : Keeps s0 (stopQueue s q code) := by
  unfold stopQueue
  repeat' first
    | with_reducible first
      | assumption | refine State_setQueue_keeps ?_ | refine failUnstarted_keeps ?_ | refine sendMsix_keeps ?_
      | refine keeps_ite ?_ ?_

theorem complete_keeps {s0 : State} {s : State} {c : CmdRef} {v : Cpl} (h0 : Keeps s0 s) : Keeps s0 (complete s c v) := by
  unfold complete
  repeat' first
    | with_reducible first
      | assumption | refine closeFrame_keeps ?_ | refine postOne_keeps ?_ | refine stopQueue_keeps ?_
      | refine keeps_ite ?_ ?_

theorem completeSt_keeps {s0 : State} {s : State} {c : CmdRef} {st : Nat} (h0 : Keeps s0 s) : Keeps s0 (completeSt s c st) := by
  unfold completeSt
  repeat' first
    | with_reducible first
      | assumption | refine complete_keeps ?_

theorem markHold_keeps {s0 : State} {s : State} {gid : Nat} {h : Nat} (h0 : Keeps s0 s) : Keeps s0 (markHold s gid h) :=
  keeps_up h0 rfl rfl rfl rfl rfl

theorem requestHold_keeps {s0 : State} {s : State} {gid : Nat} {h : Nat} {cause : Nat} (h0 : Keeps s0 s) : Keeps s0 (requestHold s gid h cause) := by
  unfold requestHold
  repeat' first
    | with_reducible first
      | assumption | refine firstSeen_keeps ?_ | refine forwardGroup_keeps ?_ | refine markHold_keeps ?_
      | refine keeps_ite ?_ ?_

theorem freeResult_keeps {s0 : State} {s : State} {q : Nat} {va : Nat} {n : Nat} (h0 : Keeps s0 s) : Keeps s0 (freeResult s q va n) := by
  unfold freeResult
  repeat' first
    | with_reducible first
      | assumption | refine drawBytes_keeps ?_ | refine vwrite_keeps ?_ | refine keeps_ite ?_ ?_

theorem abortColl_keeps {s0 : State} {s : State} {c : Coll} {st : Nat} (h0 : Keeps s0 s) : Keeps s0 (abortColl s c st) := by
  unfold abortColl
  repeat' first
    | with_reducible first
      | assumption | refine completeSt_keeps ?_ | refine freeResult_keeps ?_
    | fail_if_no_progress (with_reducible refine keeps_up ?_ rfl rfl rfl rfl rfl)

theorem failLate_keeps {s0 : State} {s : State} {q : Nat} (h0 : Keeps s0 s) : Keeps s0 (failLate s q) := by
  unfold failLate
  repeat' first
    | with_reducible first
      | assumption | refine completeSt_keeps ?_ | refine failRecs_keeps ?_ | refine fetchTo_keeps ?_
      | refine keeps_ite ?_ ?_ | refine keeps_ite1 ?_ ?_ | refine keeps_foldl (fun _ _ _ => ?_) ?_
      | refine keeps_forUp (fun _ _ _ => ?_) ?_ | refine keeps_fold1 (fun _ _ _ => ?_) ?_
      | refine keeps_foldRead (fun _ _ _ => ?_) ?_ | refine keeps_foldMap (fun _ _ _ => ?_) ?_
      | refine keeps_foldAcc (fun _ _ _ => ?_) ?_ | refine keeps_foldWr (fun _ _ _ => ?_) ?_
      | refine keeps_forUpWr (fun _ _ _ => ?_) ?_ | refine keeps_foldAcc1 (fun _ _ _ => ?_) ?_
    | split | intro _ | dsimp only | fail_if_no_progress (with_reducible refine keeps_up ?_ rfl rfl rfl rfl rfl)
    | fail_if_no_progress (with_reducible refine keeps_mk ?_ id rfl rfl (Nat.le_add_right _ _) (Nat.le_refl _))
    | fail_if_no_progress (with_reducible refine keeps_mk ?_ (wf_filter _) rfl rfl (Nat.le_refl _) (Nat.le_refl _))
    | fail_if_no_progress (with_reducible refine keeps_mk ?_ (wf_cellsSet _ _) rfl rfl (Nat.le_refl _) (Nat.le_refl _))
    | fail_if_no_progress (with_reducible refine keeps_mk ?_ (fun _ => rfl) rfl rfl (Nat.le_refl _) (Nat.le_refl _))

theorem abortLocal_keeps {s0 : State} {s : State} {gid : Nat} {st : Nat} (h0 : Keeps s0 s) : Keeps s0 (abortLocal s gid st) := by
  unfold abortLocal
  repeat' first
    | with_reducible first
      | assumption | refine abortColl_keeps ?_ | refine completeSt_keeps ?_ | refine failLate_keeps ?_
      | refine stopQueue_keeps ?_ | refine keeps_ite ?_ ?_ | refine keeps_ite1 ?_ ?_
      | refine keeps_foldl (fun _ _ _ => ?_) ?_ | refine keeps_forUp (fun _ _ _ => ?_) ?_
      | refine keeps_fold1 (fun _ _ _ => ?_) ?_ | refine keeps_foldRead (fun _ _ _ => ?_) ?_
      | refine keeps_foldMap (fun _ _ _ => ?_) ?_ | refine keeps_foldAcc (fun _ _ _ => ?_) ?_
      | refine keeps_foldWr (fun _ _ _ => ?_) ?_ | refine keeps_forUpWr (fun _ _ _ => ?_) ?_
      | refine keeps_foldAcc1 (fun _ _ _ => ?_) ?_
    | split | intro _ | dsimp only | fail_if_no_progress (with_reducible refine keeps_up ?_ rfl rfl rfl rfl rfl)
    | fail_if_no_progress (with_reducible refine keeps_mk ?_ id rfl rfl (Nat.le_add_right _ _) (Nat.le_refl _))
    | fail_if_no_progress (with_reducible refine keeps_mk ?_ (wf_filter _) rfl rfl (Nat.le_refl _) (Nat.le_refl _))
    | fail_if_no_progress (with_reducible refine keeps_mk ?_ (wf_cellsSet _ _) rfl rfl (Nat.le_refl _) (Nat.le_refl _))
    | fail_if_no_progress (with_reducible refine keeps_mk ?_ (fun _ => rfl) rfl rfl (Nat.le_refl _) (Nat.le_refl _))

theorem announceAbort_keeps {s0 : State} {s : State} {gid : Nat} {st : Nat} (h0 : Keeps s0 s) : Keeps s0 (announceAbort s gid st) := by
  unfold announceAbort
  repeat' first
    | with_reducible first
      | assumption | refine firstAbort_keeps ?_ | refine forwardGroup_keeps ?_ | refine keeps_ite ?_ ?_
      | refine keeps_ite1 ?_ ?_ | refine keeps_foldl (fun _ _ _ => ?_) ?_ | refine keeps_forUp (fun _ _ _ => ?_) ?_
      | refine keeps_fold1 (fun _ _ _ => ?_) ?_ | refine keeps_foldRead (fun _ _ _ => ?_) ?_
      | refine keeps_foldMap (fun _ _ _ => ?_) ?_ | refine keeps_foldAcc (fun _ _ _ => ?_) ?_
      | refine keeps_foldWr (fun _ _ _ => ?_) ?_ | refine keeps_forUpWr (fun _ _ _ => ?_) ?_
      | refine keeps_foldAcc1 (fun _ _ _ => ?_) ?_
    | split | intro _ | dsimp only | fail_if_no_progress (with_reducible refine keeps_up ?_ rfl rfl rfl rfl rfl)
    | fail_if_no_progress (with_reducible refine keeps_mk ?_ id rfl rfl (Nat.le_add_right _ _) (Nat.le_refl _))
    | fail_if_no_progress (with_reducible refine keeps_mk ?_ (wf_filter _) rfl rfl (Nat.le_refl _) (Nat.le_refl _))
    | fail_if_no_progress (with_reducible refine keeps_mk ?_ (wf_cellsSet _ _) rfl rfl (Nat.le_refl _) (Nat.le_refl _))
    | fail_if_no_progress (with_reducible refine keeps_mk ?_ (fun _ => rfl) rfl rfl (Nat.le_refl _) (Nat.le_refl _))

theorem sendAbort_keeps {s0 : State} {s : State} {gid : Nat} {st : Nat} (h0 : Keeps s0 s) : Keeps s0 (sendAbort s gid st) := by
  unfold sendAbort
  repeat' first
    | with_reducible first
      | assumption | refine abortLocal_keeps ?_ | refine announceAbort_keeps ?_ | refine keeps_ite ?_ ?_
      | refine keeps_ite1 ?_ ?_ | refine keeps_foldl (fun _ _ _ => ?_) ?_ | refine keeps_forUp (fun _ _ _ => ?_) ?_
      | refine keeps_fold1 (fun _ _ _ => ?_) ?_ | refine keeps_foldRead (fun _ _ _ => ?_) ?_
      | refine keeps_foldMap (fun _ _ _ => ?_) ?_ | refine keeps_foldAcc (fun _ _ _ => ?_) ?_
      | refine keeps_foldWr (fun _ _ _ => ?_) ?_ | refine keeps_forUpWr (fun _ _ _ => ?_) ?_
      | refine keeps_foldAcc1 (fun _ _ _ => ?_) ?_
    | split | intro _ | dsimp only | fail_if_no_progress (with_reducible refine keeps_up ?_ rfl rfl rfl rfl rfl)
    | fail_if_no_progress (with_reducible refine keeps_mk ?_ id rfl rfl (Nat.le_add_right _ _) (Nat.le_refl _))
    | fail_if_no_progress (with_reducible refine keeps_mk ?_ (wf_filter _) rfl rfl (Nat.le_refl _) (Nat.le_refl _))
    | fail_if_no_progress (with_reducible refine keeps_mk ?_ (wf_cellsSet _ _) rfl rfl (Nat.le_refl _) (Nat.le_refl _))
    | fail_if_no_progress (with_reducible refine keeps_mk ?_ (fun _ => rfl) rfl rfl (Nat.le_refl _) (Nat.le_refl _))

theorem abortOf_keeps {s0 : State} {s : State} {q : Nat} {st : Nat} (h0 : Keeps s0 s) : Keeps s0 (abortOf s q st) := by
  unfold abortOf
  repeat' first
    | with_reducible first
      | assumption | refine sendAbort_keeps ?_ | refine keeps_ite ?_ ?_

theorem sendMsg_keeps {s0 : State} {s : State} {m : DieMsg} (h0 : Keeps s0 s) : Keeps s0 (sendMsg s m) :=
  keeps_up h0 rfl rfl rfl rfl rfl

theorem bringCtr_keeps {s0 : State} {s : State} {o : Nat} {n : Nat} (h0 : Keeps s0 s) : Keeps s0 (bringCtr s o n) :=
  keeps_up h0 rfl rfl rfl rfl rfl

theorem agtUpdate_keeps {s0 : State} {s : State} {f : Agt → Agt} (h0 : Keeps s0 s) : Keeps s0 (agtUpdate s f) :=
  keeps_up h0 rfl rfl rfl rfl rfl

theorem unstageAll_keeps {s0 : State} {s : State} {p : Nat} (h0 : Keeps s0 s) : Keeps s0 (unstageAll s p) := by
  unfold unstageAll
  repeat' first
    | with_reducible first
      | assumption | refine unstage_keeps ?_ | refine keeps_foldl (fun _ _ _ => ?_) ?_

theorem dropFlight_keeps {s0 : State} {s : State} {p : Nat} (h0 : Keeps s0 s) : Keeps s0 (dropFlight s p) := by
  unfold dropFlight
  repeat' first
    | with_reducible first
      | assumption | refine State_setCore_keeps ?_ | refine coreCtr_keeps ?_ | refine queueCtr_keeps ?_
      | refine sendMsg_keeps ?_ | refine keeps_ite ?_ ?_ | refine keeps_ite1 ?_ ?_
      | refine keeps_foldl (fun _ _ _ => ?_) ?_ | refine keeps_forUp (fun _ _ _ => ?_) ?_
      | refine keeps_fold1 (fun _ _ _ => ?_) ?_ | refine keeps_foldRead (fun _ _ _ => ?_) ?_
      | refine keeps_foldMap (fun _ _ _ => ?_) ?_ | refine keeps_foldAcc (fun _ _ _ => ?_) ?_
      | refine keeps_foldWr (fun _ _ _ => ?_) ?_ | refine keeps_forUpWr (fun _ _ _ => ?_) ?_
      | refine keeps_foldAcc1 (fun _ _ _ => ?_) ?_
    | split | intro _ | dsimp only | fail_if_no_progress (with_reducible refine keeps_up ?_ rfl rfl rfl rfl rfl)
    | fail_if_no_progress (with_reducible refine keeps_mk ?_ id rfl rfl (Nat.le_add_right _ _) (Nat.le_refl _))
    | fail_if_no_progress (with_reducible refine keeps_mk ?_ (wf_filter _) rfl rfl (Nat.le_refl _) (Nat.le_refl _))
    | fail_if_no_progress (with_reducible refine keeps_mk ?_ (wf_cellsSet _ _) rfl rfl (Nat.le_refl _) (Nat.le_refl _))
    | fail_if_no_progress (with_reducible refine keeps_mk ?_ (fun _ => rfl) rfl rfl (Nat.le_refl _) (Nat.le_refl _))

theorem clearStore_keeps {s0 : State} {s : State} {p : Nat} (h0 : Keeps s0 s) : Keeps s0 (clearStore s p) := by
  unfold clearStore
  repeat' first
    | with_reducible assumption
    | fail_if_no_progress (with_reducible refine keeps_mk ?_ (wf_filter _) rfl rfl (Nat.le_refl _) (Nat.le_refl _))

theorem haltCore_keeps {s0 : State} {s : State} {p : Nat} {st : Nat} (h0 : Keeps s0 s) : Keeps s0 (haltCore s p st) := by
  unfold haltCore
  repeat' first
    | with_reducible first
      | assumption | refine State_setCore_keeps ?_ | refine completeSt_keeps ?_ | refine dropFlight_keeps ?_
      | refine unstageAll_keeps ?_ | refine keeps_foldl (fun _ _ _ => ?_) ?_

theorem resetCore_keeps {s0 : State} {s : State} {p : Nat} {st : Nat} (h0 : Keeps s0 s) : Keeps s0 (resetCore s p st) := by
  unfold resetCore
  repeat' first
    | with_reducible first
      | assumption | refine bringCtr_keeps ?_ | refine haltCore_keeps ?_ | refine keeps_ite ?_ ?_
    | fail_if_no_progress (with_reducible refine keeps_up ?_ rfl rfl rfl rfl rfl)

theorem haltCluster_keeps {s0 : State} {s : State} {c : Nat} {st : Nat} (h0 : Keeps s0 s) : Keeps s0 (haltCluster s c st) := by
  unfold haltCluster
  repeat' first
    | with_reducible first
      | assumption | refine clearStore_keeps ?_ | refine haltCore_keeps ?_ | refine keeps_ite ?_ ?_
      | refine keeps_foldl (fun _ _ _ => ?_) ?_

theorem resetCluster_keeps {s0 : State} {s : State} {c : Nat} {st : Nat} (h0 : Keeps s0 s) : Keeps s0 (resetCluster s c st) := by
  unfold resetCluster
  repeat' first
    | with_reducible first
      | assumption | refine bringCtr_keeps ?_ | refine haltCluster_keeps ?_ | refine keeps_ite ?_ ?_
    | fail_if_no_progress (with_reducible refine keeps_up ?_ rfl rfl rfl rfl rfl)

theorem fenceCore_keeps {s0 : State} {s : State} {p : Nat} {cause : Nat} {st : Nat} (h0 : Keeps s0 s) : Keeps s0 (fenceCore s p cause st) := by
  unfold fenceCore
  repeat' first
    | with_reducible first
      | assumption | refine State_setCore_keeps ?_ | refine agtUpdate_keeps ?_ | refine clearStore_keeps ?_
      | refine completeSt_keeps ?_ | refine dropFlight_keeps ?_ | refine logAdd_keeps ?_ | refine raiseIrq_keeps ?_
      | refine unstageAll_keeps ?_ | refine keeps_ite ?_ ?_ | refine keeps_foldl (fun _ _ _ => ?_) ?_
    | fail_if_no_progress (with_reducible refine keeps_up ?_ rfl rfl rfl rfl rfl)

theorem parityHalt_keeps {s0 : State} {s : State} {p : Nat} {unit : Nat} (h0 : Keeps s0 s) : Keeps s0 (parityHalt s p unit) := by
  unfold parityHalt
  repeat' first
    | with_reducible first
      | assumption | refine State_setCore_keeps ?_ | refine bringCtr_keeps ?_ | refine fenceCore_keeps ?_
      | refine logAdd_keeps ?_ | refine resetCore_keeps ?_ | refine keeps_ite ?_ ?_

theorem sramSweep_keeps {s0 : State} {s : State} (h0 : Keeps s0 s) : Keeps s0 (sramSweep s) := by
  unfold sramSweep
  repeat' first
    | with_reducible first
      | assumption | refine fenceCore_keeps ?_ | refine keeps_ite ?_ ?_ | refine keeps_foldl (fun _ _ _ => ?_) ?_

theorem becomeMaster_keeps {s0 : State} {s : State} (h0 : Keeps s0 s) : Keeps s0 (becomeMaster s) :=
  keeps_up h0 rfl rfl rfl rfl rfl

theorem domainOfOne_keeps {s0 : State} {s : State} (h0 : Keeps s0 s) : Keeps s0 (domainOfOne s) :=
  keeps_up h0 rfl rfl rfl rfl rfl

theorem reelect_keeps {s0 : State} {s : State} (h0 : Keeps s0 s) : Keeps s0 (reelect s) := by
  unfold reelect
  repeat' first
    | with_reducible first
      | assumption | refine becomeMaster_keeps ?_ | refine domainOfOne_keeps ?_ | refine keeps_ite ?_ ?_
    | fail_if_no_progress (with_reducible refine keeps_up ?_ rfl rfl rfl rfl rfl)

theorem passMaster_keeps {s0 : State} {s : State} (h0 : Keeps s0 s) : Keeps s0 (passMaster s) := by
  unfold passMaster
  repeat' first
    | with_reducible first
      | assumption | refine reelect_keeps ?_
    | fail_if_no_progress (with_reducible refine keeps_up ?_ rfl rfl rfl rfl rfl)

theorem withoutMaster_keeps {s0 : State} {s : State} {gone : List Nat} (h0 : Keeps s0 s) : Keeps s0 (withoutMaster s gone) := by
  unfold withoutMaster
  repeat' first
    | with_reducible first
      | assumption | refine reelect_keeps ?_ | refine keeps_ite ?_ ?_ | refine keeps_ite1 ?_ ?_
      | refine keeps_foldl (fun _ _ _ => ?_) ?_ | refine keeps_forUp (fun _ _ _ => ?_) ?_
      | refine keeps_fold1 (fun _ _ _ => ?_) ?_ | refine keeps_foldRead (fun _ _ _ => ?_) ?_
      | refine keeps_foldMap (fun _ _ _ => ?_) ?_ | refine keeps_foldAcc (fun _ _ _ => ?_) ?_
      | refine keeps_foldWr (fun _ _ _ => ?_) ?_ | refine keeps_forUpWr (fun _ _ _ => ?_) ?_
      | refine keeps_foldAcc1 (fun _ _ _ => ?_) ?_
    | split | intro _ | dsimp only | fail_if_no_progress (with_reducible refine keeps_up ?_ rfl rfl rfl rfl rfl)
    | fail_if_no_progress (with_reducible refine keeps_mk ?_ id rfl rfl (Nat.le_add_right _ _) (Nat.le_refl _))
    | fail_if_no_progress (with_reducible refine keeps_mk ?_ (wf_filter _) rfl rfl (Nat.le_refl _) (Nat.le_refl _))
    | fail_if_no_progress (with_reducible refine keeps_mk ?_ (wf_cellsSet _ _) rfl rfl (Nat.le_refl _) (Nat.le_refl _))
    | fail_if_no_progress (with_reducible refine keeps_mk ?_ (fun _ => rfl) rfl rfl (Nat.le_refl _) (Nat.le_refl _))

theorem masterLost_keeps {s0 : State} {s : State} (h0 : Keeps s0 s) : Keeps s0 (masterLost s) := by
  unfold masterLost
  repeat' first
    | with_reducible first
      | assumption | refine becomeMaster_keeps ?_ | refine reelect_keeps ?_ | refine withoutMaster_keeps ?_
      | refine keeps_ite ?_ ?_ | refine keeps_ite1 ?_ ?_ | refine keeps_foldl (fun _ _ _ => ?_) ?_
      | refine keeps_forUp (fun _ _ _ => ?_) ?_ | refine keeps_fold1 (fun _ _ _ => ?_) ?_
      | refine keeps_foldRead (fun _ _ _ => ?_) ?_ | refine keeps_foldMap (fun _ _ _ => ?_) ?_
      | refine keeps_foldAcc (fun _ _ _ => ?_) ?_ | refine keeps_foldWr (fun _ _ _ => ?_) ?_
      | refine keeps_forUpWr (fun _ _ _ => ?_) ?_ | refine keeps_foldAcc1 (fun _ _ _ => ?_) ?_
    | split | intro _ | dsimp only | fail_if_no_progress (with_reducible refine keeps_up ?_ rfl rfl rfl rfl rfl)
    | fail_if_no_progress (with_reducible refine keeps_mk ?_ id rfl rfl (Nat.le_add_right _ _) (Nat.le_refl _))
    | fail_if_no_progress (with_reducible refine keeps_mk ?_ (wf_filter _) rfl rfl (Nat.le_refl _) (Nat.le_refl _))
    | fail_if_no_progress (with_reducible refine keeps_mk ?_ (wf_cellsSet _ _) rfl rfl (Nat.le_refl _) (Nat.le_refl _))
    | fail_if_no_progress (with_reducible refine keeps_mk ?_ (fun _ => rfl) rfl rfl (Nat.le_refl _) (Nat.le_refl _))

theorem announce_keeps {s0 : State} {s : State} (h0 : Keeps s0 s) : Keeps s0 (announce s) := by
  unfold announce
  repeat' first
    | with_reducible first
      | assumption | refine firstSeen_keeps ?_ | refine flood_keeps ?_
    | fail_if_no_progress (with_reducible refine keeps_up ?_ rfl rfl rfl rfl rfl)

theorem chooseParent_keeps {s0 : State} {s : State} (h0 : Keeps s0 s) : Keeps s0 (chooseParent s) := by
  unfold chooseParent
  repeat' first
    | with_reducible first
      | assumption | refine keeps_ite ?_ ?_
    | fail_if_no_progress (with_reducible refine keeps_up ?_ rfl rfl rfl rfl rfl)

theorem portDomain_keeps {s0 : State} {s : State} {k : Nat} (h0 : Keeps s0 s) : Keeps s0 (portDomain s k) := by
  unfold portDomain
  repeat' first
    | with_reducible first
      | assumption | refine announce_keeps ?_ | refine chooseParent_keeps ?_ | refine reelect_keeps ?_
      | refine keeps_ite ?_ ?_
    | fail_if_no_progress (with_reducible refine keeps_up ?_ rfl rfl rfl rfl rfl)

theorem portChanged_keeps {s0 : State} {s : State} {k : Nat} (h0 : Keeps s0 s) : Keeps s0 (portChanged s k) := by
  unfold portChanged
  repeat' first
    | with_reducible first
      | assumption | refine agtUpdate_keeps ?_ | refine logAdd_keeps ?_ | refine raiseIrq_keeps ?_

theorem dropQueued_keeps {s0 : State} {s : State} {k : Nat} (h0 : Keeps s0 s) : Keeps s0 (dropQueued s k) := by
  unfold dropQueued
  repeat' first
    | with_reducible first
      | assumption | refine creditBack_keeps ?_ | refine keeps_ite ?_ ?_ | refine keeps_ite1 ?_ ?_
      | refine keeps_foldl (fun _ _ _ => ?_) ?_ | refine keeps_forUp (fun _ _ _ => ?_) ?_
      | refine keeps_fold1 (fun _ _ _ => ?_) ?_ | refine keeps_foldRead (fun _ _ _ => ?_) ?_
      | refine keeps_foldMap (fun _ _ _ => ?_) ?_ | refine keeps_foldAcc (fun _ _ _ => ?_) ?_
      | refine keeps_foldWr (fun _ _ _ => ?_) ?_ | refine keeps_forUpWr (fun _ _ _ => ?_) ?_
      | refine keeps_foldAcc1 (fun _ _ _ => ?_) ?_
    | split | intro _ | dsimp only | fail_if_no_progress (with_reducible refine keeps_up ?_ rfl rfl rfl rfl rfl)
    | fail_if_no_progress (with_reducible refine keeps_mk ?_ id rfl rfl (Nat.le_add_right _ _) (Nat.le_refl _))
    | fail_if_no_progress (with_reducible refine keeps_mk ?_ (wf_filter _) rfl rfl (Nat.le_refl _) (Nat.le_refl _))
    | fail_if_no_progress (with_reducible refine keeps_mk ?_ (wf_cellsSet _ _) rfl rfl (Nat.le_refl _) (Nat.le_refl _))
    | fail_if_no_progress (with_reducible refine keeps_mk ?_ (fun _ => rfl) rfl rfl (Nat.le_refl _) (Nat.le_refl _))

theorem feedSet_keeps {s0 : State} {s : State} {k : Nat} {on : Bool} (h0 : Keeps s0 s) : Keeps s0 (feedSet s k on) := by
  unfold feedSet
  repeat' first
    | with_reducible first
      | assumption | refine State_setPort_keeps ?_ | refine keeps_ite ?_ ?_ | refine keeps_ite1 ?_ ?_
      | refine keeps_foldl (fun _ _ _ => ?_) ?_ | refine keeps_forUp (fun _ _ _ => ?_) ?_
      | refine keeps_fold1 (fun _ _ _ => ?_) ?_ | refine keeps_foldRead (fun _ _ _ => ?_) ?_
      | refine keeps_foldMap (fun _ _ _ => ?_) ?_ | refine keeps_foldAcc (fun _ _ _ => ?_) ?_
      | refine keeps_foldWr (fun _ _ _ => ?_) ?_ | refine keeps_forUpWr (fun _ _ _ => ?_) ?_
      | refine keeps_foldAcc1 (fun _ _ _ => ?_) ?_
    | split | intro _ | dsimp only | fail_if_no_progress (with_reducible refine keeps_up ?_ rfl rfl rfl rfl rfl)
    | fail_if_no_progress (with_reducible refine keeps_mk ?_ id rfl rfl (Nat.le_add_right _ _) (Nat.le_refl _))
    | fail_if_no_progress (with_reducible refine keeps_mk ?_ (wf_filter _) rfl rfl (Nat.le_refl _) (Nat.le_refl _))
    | fail_if_no_progress (with_reducible refine keeps_mk ?_ (wf_cellsSet _ _) rfl rfl (Nat.le_refl _) (Nat.le_refl _))
    | fail_if_no_progress (with_reducible refine keeps_mk ?_ (fun _ => rfl) rfl rfl (Nat.le_refl _) (Nat.le_refl _))

theorem portSet_keeps {s0 : State} {s : State} {k : Nat} {st : PortSt} {cause : Nat} (h0 : Keeps s0 s) : Keeps s0 (portSet s k st cause) := by
  unfold portSet
  repeat' first
    | with_reducible first
      | assumption | refine State_setPort_keeps ?_ | refine dropQueued_keeps ?_ | refine feedSet_keeps ?_
      | refine portChanged_keeps ?_ | refine portDomain_keeps ?_ | refine keeps_ite ?_ ?_ | refine keeps_ite1 ?_ ?_
      | refine keeps_foldl (fun _ _ _ => ?_) ?_ | refine keeps_forUp (fun _ _ _ => ?_) ?_
      | refine keeps_fold1 (fun _ _ _ => ?_) ?_ | refine keeps_foldRead (fun _ _ _ => ?_) ?_
      | refine keeps_foldMap (fun _ _ _ => ?_) ?_ | refine keeps_foldAcc (fun _ _ _ => ?_) ?_
      | refine keeps_foldWr (fun _ _ _ => ?_) ?_ | refine keeps_forUpWr (fun _ _ _ => ?_) ?_
      | refine keeps_foldAcc1 (fun _ _ _ => ?_) ?_
    | split | intro _ | dsimp only | fail_if_no_progress (with_reducible refine keeps_up ?_ rfl rfl rfl rfl rfl)
    | fail_if_no_progress (with_reducible refine keeps_mk ?_ id rfl rfl (Nat.le_add_right _ _) (Nat.le_refl _))
    | fail_if_no_progress (with_reducible refine keeps_mk ?_ (wf_filter _) rfl rfl (Nat.le_refl _) (Nat.le_refl _))
    | fail_if_no_progress (with_reducible refine keeps_mk ?_ (wf_cellsSet _ _) rfl rfl (Nat.le_refl _) (Nat.le_refl _))
    | fail_if_no_progress (with_reducible refine keeps_mk ?_ (fun _ => rfl) rfl rfl (Nat.le_refl _) (Nat.le_refl _))

theorem portTrain_keeps {s0 : State} {s : State} {k : Nat} (h0 : Keeps s0 s) : Keeps s0 (portTrain s k) := by
  unfold portTrain
  repeat' first
    | with_reducible first
      | assumption | refine State_setPort_keeps ?_ | refine feedSet_keeps ?_ | refine portSet_keeps ?_
      | refine keeps_ite ?_ ?_ | refine keeps_ite1 ?_ ?_ | refine keeps_foldl (fun _ _ _ => ?_) ?_
      | refine keeps_forUp (fun _ _ _ => ?_) ?_ | refine keeps_fold1 (fun _ _ _ => ?_) ?_
      | refine keeps_foldRead (fun _ _ _ => ?_) ?_ | refine keeps_foldMap (fun _ _ _ => ?_) ?_
      | refine keeps_foldAcc (fun _ _ _ => ?_) ?_ | refine keeps_foldWr (fun _ _ _ => ?_) ?_
      | refine keeps_forUpWr (fun _ _ _ => ?_) ?_ | refine keeps_foldAcc1 (fun _ _ _ => ?_) ?_
    | split | intro _ | dsimp only | fail_if_no_progress (with_reducible refine keeps_up ?_ rfl rfl rfl rfl rfl)
    | fail_if_no_progress (with_reducible refine keeps_mk ?_ id rfl rfl (Nat.le_add_right _ _) (Nat.le_refl _))
    | fail_if_no_progress (with_reducible refine keeps_mk ?_ (wf_filter _) rfl rfl (Nat.le_refl _) (Nat.le_refl _))
    | fail_if_no_progress (with_reducible refine keeps_mk ?_ (wf_cellsSet _ _) rfl rfl (Nat.le_refl _) (Nat.le_refl _))
    | fail_if_no_progress (with_reducible refine keeps_mk ?_ (fun _ => rfl) rfl rfl (Nat.le_refl _) (Nat.le_refl _))

theorem portEnable_keeps {s0 : State} {s : State} {k : Nat} (h0 : Keeps s0 s) : Keeps s0 (portEnable s k) := by
  unfold portEnable
  repeat' first
    | with_reducible first
      | assumption | refine State_setPort_keeps ?_ | refine portSet_keeps ?_ | refine portTrain_keeps ?_
      | refine writeIgnored_keeps ?_ | refine keeps_ite ?_ ?_ | refine keeps_ite1 ?_ ?_
      | refine keeps_foldl (fun _ _ _ => ?_) ?_ | refine keeps_forUp (fun _ _ _ => ?_) ?_
      | refine keeps_fold1 (fun _ _ _ => ?_) ?_ | refine keeps_foldRead (fun _ _ _ => ?_) ?_
      | refine keeps_foldMap (fun _ _ _ => ?_) ?_ | refine keeps_foldAcc (fun _ _ _ => ?_) ?_
      | refine keeps_foldWr (fun _ _ _ => ?_) ?_ | refine keeps_forUpWr (fun _ _ _ => ?_) ?_
      | refine keeps_foldAcc1 (fun _ _ _ => ?_) ?_
    | split | intro _ | dsimp only | fail_if_no_progress (with_reducible refine keeps_up ?_ rfl rfl rfl rfl rfl)
    | fail_if_no_progress (with_reducible refine keeps_mk ?_ id rfl rfl (Nat.le_add_right _ _) (Nat.le_refl _))
    | fail_if_no_progress (with_reducible refine keeps_mk ?_ (wf_filter _) rfl rfl (Nat.le_refl _) (Nat.le_refl _))
    | fail_if_no_progress (with_reducible refine keeps_mk ?_ (wf_cellsSet _ _) rfl rfl (Nat.le_refl _) (Nat.le_refl _))
    | fail_if_no_progress (with_reducible refine keeps_mk ?_ (fun _ => rfl) rfl rfl (Nat.le_refl _) (Nat.le_refl _))

theorem portDisable_keeps {s0 : State} {s : State} {k : Nat} (h0 : Keeps s0 s) : Keeps s0 (portDisable s k) := by
  unfold portDisable
  repeat' first
    | with_reducible first
      | assumption | refine State_setPort_keeps ?_ | refine portSet_keeps ?_ | refine writeIgnored_keeps ?_
      | refine keeps_ite ?_ ?_

theorem portCommit_keeps {s0 : State} {s : State} {k : Nat} (h0 : Keeps s0 s) : Keeps s0 (portCommit s k) := by
  unfold portCommit
  repeat' first
    | with_reducible first
      | assumption | refine State_setPort_keeps ?_ | refine writeIgnored_keeps ?_ | refine keeps_ite ?_ ?_

theorem portCtrlWrite_keeps {s0 : State} {s : State} {k : Nat} {v : Nat} (h0 : Keeps s0 s) : Keeps s0 (portCtrlWrite s k v) := by
  unfold portCtrlWrite
  repeat' first
    | with_reducible first
      | assumption | refine State_setPort_keeps ?_ | refine portCommit_keeps ?_ | refine portDisable_keeps ?_
      | refine portEnable_keeps ?_ | refine writeIgnored_keeps ?_ | refine keeps_ite ?_ ?_

theorem trainingFlits_keeps {s0 : State} {s : State} {k : Nat} (h0 : Keeps s0 s) : Keeps s0 (trainingFlits s k) := by
  unfold trainingFlits
  repeat' first
    | with_reducible first
      | assumption | refine portCtr_keeps ?_ | refine keeps_ite ?_ ?_ | refine keeps_ite1 ?_ ?_
      | refine keeps_foldl (fun _ _ _ => ?_) ?_ | refine keeps_forUp (fun _ _ _ => ?_) ?_
      | refine keeps_fold1 (fun _ _ _ => ?_) ?_ | refine keeps_foldRead (fun _ _ _ => ?_) ?_
      | refine keeps_foldMap (fun _ _ _ => ?_) ?_ | refine keeps_foldAcc (fun _ _ _ => ?_) ?_
      | refine keeps_foldWr (fun _ _ _ => ?_) ?_ | refine keeps_forUpWr (fun _ _ _ => ?_) ?_
      | refine keeps_foldAcc1 (fun _ _ _ => ?_) ?_
    | split | intro _ | dsimp only | fail_if_no_progress (with_reducible refine keeps_up ?_ rfl rfl rfl rfl rfl)
    | fail_if_no_progress (with_reducible refine keeps_mk ?_ id rfl rfl (Nat.le_add_right _ _) (Nat.le_refl _))
    | fail_if_no_progress (with_reducible refine keeps_mk ?_ (wf_filter _) rfl rfl (Nat.le_refl _) (Nat.le_refl _))
    | fail_if_no_progress (with_reducible refine keeps_mk ?_ (wf_cellsSet _ _) rfl rfl (Nat.le_refl _) (Nat.le_refl _))
    | fail_if_no_progress (with_reducible refine keeps_mk ?_ (fun _ => rfl) rfl rfl (Nat.le_refl _) (Nat.le_refl _))

theorem portUpWith_keeps {s0 : State} {s : State} {k : Nat} {nd : Nat} {np : Nat} {rt : Nat} {pipe : Nat} (h0 : Keeps s0 s) : Keeps s0 (portUpWith s k nd np rt pipe) := by
  unfold portUpWith
  repeat' first
    | with_reducible first
      | assumption | refine State_setPort_keeps ?_ | refine portSet_keeps ?_ | refine trainingFlits_keeps ?_
      | refine keeps_ite ?_ ?_ | refine keeps_ite1 ?_ ?_ | refine keeps_foldl (fun _ _ _ => ?_) ?_
      | refine keeps_forUp (fun _ _ _ => ?_) ?_ | refine keeps_fold1 (fun _ _ _ => ?_) ?_
      | refine keeps_foldRead (fun _ _ _ => ?_) ?_ | refine keeps_foldMap (fun _ _ _ => ?_) ?_
      | refine keeps_foldAcc (fun _ _ _ => ?_) ?_ | refine keeps_foldWr (fun _ _ _ => ?_) ?_
      | refine keeps_forUpWr (fun _ _ _ => ?_) ?_ | refine keeps_foldAcc1 (fun _ _ _ => ?_) ?_
    | split | intro _ | dsimp only | fail_if_no_progress (with_reducible refine keeps_up ?_ rfl rfl rfl rfl rfl)
    | fail_if_no_progress (with_reducible refine keeps_mk ?_ id rfl rfl (Nat.le_add_right _ _) (Nat.le_refl _))
    | fail_if_no_progress (with_reducible refine keeps_mk ?_ (wf_filter _) rfl rfl (Nat.le_refl _) (Nat.le_refl _))
    | fail_if_no_progress (with_reducible refine keeps_mk ?_ (wf_cellsSet _ _) rfl rfl (Nat.le_refl _) (Nat.le_refl _))
    | fail_if_no_progress (with_reducible refine keeps_mk ?_ (fun _ => rfl) rfl rfl (Nat.le_refl _) (Nat.le_refl _))

theorem portWindow_keeps {s0 : State} {s : State} {k : Nat} {w : PortWindow} (h0 : Keeps s0 s) : Keeps s0 (portWindow s k w) := by
  unfold portWindow
  repeat' first
    | with_reducible first
      | assumption | refine State_setPort_keeps ?_ | refine logAdd_keeps ?_ | refine portSet_keeps ?_
      | refine keeps_ite ?_ ?_
    | fail_if_no_progress (with_reducible refine keeps_up ?_ rfl rfl rfl rfl rfl)

theorem fabCfgWrite_keeps {s0 : State} {s : State} {v : Nat} (h0 : Keeps s0 s) : Keeps s0 (fabCfgWrite s v) := by
  unfold fabCfgWrite
  repeat' first
    | with_reducible first
      | assumption | refine agtUpdate_keeps ?_ | refine badAccess_keeps ?_ | refine writeIgnored_keeps ?_
      | refine keeps_ite ?_ ?_
    | fail_if_no_progress (with_reducible refine keeps_up ?_ rfl rfl rfl rfl rfl)

theorem memberWrite_keeps {s0 : State} {s : State} {i : Nat} {self : Bool} {v : Nat} (h0 : Keeps s0 s) : Keeps s0 (memberWrite s i self v) := by
  unfold memberWrite
  repeat' first
    | with_reducible first
      | assumption | refine badAccess_keeps ?_ | refine writeIgnored_keeps ?_ | refine keeps_ite ?_ ?_
    | fail_if_no_progress (with_reducible refine keeps_up ?_ rfl rfl rfl rfl rfl)

theorem targetRead_keeps {s0 : State} {s : State} {a : Nat} {n : Nat} (h0 : Keeps s0 s) : Keeps s0 (targetRead s a n).1 := by
  unfold targetRead
  repeat' first
    | with_reducible first
      | assumption | refine detect_keeps ?_

theorem targetWrite_keeps {s0 : State} {s : State} {a : Nat} {bs : List Byte} {be : List Bool} {pm : List Bool} (h0 : Keeps s0 s) : Keeps s0 (targetWrite s a bs be pm) := by
  unfold targetWrite
  repeat' first
    | with_reducible first
      | assumption | refine writeMem_keeps ?_ | refine keeps_foldl (fun _ _ _ => ?_) ?_

theorem State_setLink_keeps {s0 : State} {s : State} {l : Nat} {x : Link} (h0 : Keeps s0 s) : Keeps s0 (State.setLink s l x) :=
  keeps_up h0 rfl rfl rfl rfl rfl

theorem State_setModule_keeps {s0 : State} {s : State} {l : Nat} {m : Nat} {x : Module} (h0 : Keeps s0 s) : Keeps s0 (State.setModule s l m x) :=
  keeps_up h0 rfl rfl rfl rfl rfl

theorem State_setGuest_keeps {s0 : State} {s : State} {g : Nat} {x : Guest} (h0 : Keeps s0 s) : Keeps s0 (State.setGuest s g x) :=
  keeps_up h0 rfl rfl rfl rfl rfl

theorem forgetDie_keeps {s0 : State} {s : State} {d : Nat} (h0 : Keeps s0 s) : Keeps s0 (forgetDie s d) := by
  unfold forgetDie
  repeat' first
    | with_reducible first
      | assumption | refine State_setDie_keeps ?_ | refine dropDir_keeps ?_ | refine mapDir_keeps ?_
      | refine sendMsg_keeps ?_ | refine uncache_keeps ?_ | refine keeps_ite ?_ ?_ | refine keeps_ite1 ?_ ?_
      | refine keeps_foldl (fun _ _ _ => ?_) ?_ | refine keeps_forUp (fun _ _ _ => ?_) ?_
      | refine keeps_fold1 (fun _ _ _ => ?_) ?_ | refine keeps_foldRead (fun _ _ _ => ?_) ?_
      | refine keeps_foldMap (fun _ _ _ => ?_) ?_ | refine keeps_foldAcc (fun _ _ _ => ?_) ?_
      | refine keeps_foldWr (fun _ _ _ => ?_) ?_ | refine keeps_forUpWr (fun _ _ _ => ?_) ?_
      | refine keeps_foldAcc1 (fun _ _ _ => ?_) ?_
    | split | intro _ | dsimp only | fail_if_no_progress (with_reducible refine keeps_up ?_ rfl rfl rfl rfl rfl)
    | fail_if_no_progress (with_reducible refine keeps_mk ?_ id rfl rfl (Nat.le_add_right _ _) (Nat.le_refl _))
    | fail_if_no_progress (with_reducible refine keeps_mk ?_ (wf_filter _) rfl rfl (Nat.le_refl _) (Nat.le_refl _))
    | fail_if_no_progress (with_reducible refine keeps_mk ?_ (wf_cellsSet _ _) rfl rfl (Nat.le_refl _) (Nat.le_refl _))
    | fail_if_no_progress (with_reducible refine keeps_mk ?_ (fun _ => rfl) rfl rfl (Nat.le_refl _) (Nat.le_refl _))

theorem fenceDie_keeps {s0 : State} {s : State} {d : Nat} (h0 : Keeps s0 s) : Keeps s0 (fenceDie s d) := by
  unfold fenceDie
  repeat' first
    | with_reducible first
      | assumption | refine agtUpdate_keeps ?_ | refine fenceCore_keeps ?_ | refine forgetDie_keeps ?_
      | refine logAdd_keeps ?_ | refine raiseIrq_keeps ?_ | refine keeps_ite ?_ ?_
      | refine keeps_foldl (fun _ _ _ => ?_) ?_ | refine keeps_forUp (fun _ _ _ => ?_) ?_
    | fail_if_no_progress (with_reducible refine keeps_up ?_ rfl rfl rfl rfl rfl)

theorem noteDiscard_keeps {s0 : State} {s : State} {q : Nat} {addrs : List Nat} (h0 : Keeps s0 s) : Keeps s0 (noteDiscard s q addrs) := by
  unfold noteDiscard
  repeat' first
    | with_reducible first
      | assumption | refine logAdd_keeps ?_
    | split

theorem guestState_keeps {s0 : State} {s : State} {g : Nat} {st : Nat} (h0 : Keeps s0 s) : Keeps s0 (guestState s g st) := by
  unfold guestState
  repeat' first
    | with_reducible first
      | assumption | refine State_setGuest_keeps ?_ | refine agtUpdate_keeps ?_ | refine raiseIrq_keeps ?_

theorem guestRefuse_keeps {s0 : State} {s : State} {g : Nat} {reason : Nat} (h0 : Keeps s0 s) : Keeps s0 (guestRefuse s g reason) := by
  unfold guestRefuse
  repeat' first
    | with_reducible first
      | assumption | refine State_setGuest_keeps ?_ | refine guestState_keeps ?_ | refine logAdd_keeps ?_

theorem guestRemove_keeps {s0 : State} {s : State} {g : Nat} {reason : Nat} (h0 : Keeps s0 s) : Keeps s0 (guestRemove s g reason) := by
  unfold guestRemove
  repeat' first
    | with_reducible first
      | assumption | refine State_setGuest_keeps ?_ | refine keeps_ite ?_ ?_

theorem guestCtrlWrite_keeps {s0 : State} {s : State} {g : Nat} {v : Nat} (h0 : Keeps s0 s) : Keeps s0 (guestCtrlWrite s g v) := by
  unfold guestCtrlWrite
  repeat' first
    | with_reducible first
      | assumption | refine State_setGuest_keeps ?_ | refine badAccess_keeps ?_ | refine guestRefuse_keeps ?_
      | refine guestRemove_keeps ?_ | refine writeIgnored_keeps ?_ | refine keeps_ite ?_ ?_
    | fail_if_no_progress (with_reducible refine keeps_up ?_ rfl rfl rfl rfl rfl)

theorem guestServe_keeps {s0 : State} {s : State} {g : Nat} {wr : Bool} {dva : Nat} {n : Nat} {data : List Byte} {be : List Bool} {pm : List Bool} (h0 : Keeps s0 s) : Keeps s0 (guestServe s g wr dva n data be pm) := by
  unfold guestServe
  repeat' first
    | with_reducible first
      | assumption | refine State_setGuest_keeps ?_ | refine sramSweep_keeps ?_ | refine targetRead_keeps ?_
      | refine targetWrite_keeps ?_ | refine vnote_keeps ?_
    | split | dsimp only | fail_if_no_progress (with_reducible refine keeps_up ?_ rfl rfl rfl rfl rfl)

theorem guestSample_keeps {s0 : State} {s : State} {g : Nat} {w10 : Nat} (h0 : Keeps s0 s) : Keeps s0 (guestSample s g w10) := by
  unfold guestSample
  repeat' first
    | with_reducible first
      | assumption | refine State_setGuest_keeps ?_ | refine guestRemove_keeps ?_ | refine keeps_ite ?_ ?_
    | fail_if_no_progress (with_reducible refine keeps_up ?_ rfl rfl rfl rfl rfl)

theorem moduleDown_keeps {s0 : State} {s : State} {l : Nat} {m : Nat} {cause : Nat} (h0 : Keeps s0 s) : Keeps s0 (moduleDown s l m cause) := by
  unfold moduleDown
  repeat' first
    | with_reducible first
      | assumption | refine State_setModule_keeps ?_ | refine fenceDie_keeps ?_ | refine guestRemove_keeps ?_
      | refine logAdd_keeps ?_ | refine raiseIrq_keeps ?_ | refine keeps_ite ?_ ?_

theorem monitorWindow_keeps {s0 : State} {s : State} {l : Nat} {m : Nat} (h0 : Keeps s0 s) : Keeps s0 (monitorWindow s l m) := by
  unfold monitorWindow
  repeat' first
    | with_reducible first
      | assumption | refine State_setModule_keeps ?_ | refine logAdd_keeps ?_ | refine raiseIrq_keeps ?_
      | refine keeps_ite ?_ ?_

theorem scaleInval_keeps {s0 : State} {s : State} {n : Nat} {t : Nat} (h0 : Keeps s0 s) : Keeps s0 (scaleInval s n t) :=
  keeps_up h0 rfl rfl rfl rfl rfl

theorem scaleRead_keeps {s0 : State} {s : State} {p : Nat} {n : Nat} {t : Nat} (h0 : Keeps s0 s) : Keeps s0 (scaleRead s p n t) := by
  unfold scaleRead
  repeat' first
    | with_reducible first
      | assumption | refine State_setCore_keeps ?_ | refine keeps_ite ?_ ?_ | refine keeps_ite1 ?_ ?_
      | refine keeps_foldl (fun _ _ _ => ?_) ?_ | refine keeps_forUp (fun _ _ _ => ?_) ?_
      | refine keeps_fold1 (fun _ _ _ => ?_) ?_ | refine keeps_foldRead (fun _ _ _ => ?_) ?_
      | refine keeps_foldMap (fun _ _ _ => ?_) ?_ | refine keeps_foldAcc (fun _ _ _ => ?_) ?_
      | refine keeps_foldWr (fun _ _ _ => ?_) ?_ | refine keeps_forUpWr (fun _ _ _ => ?_) ?_
      | refine keeps_foldAcc1 (fun _ _ _ => ?_) ?_
    | split | intro _ | dsimp only | fail_if_no_progress (with_reducible refine keeps_up ?_ rfl rfl rfl rfl rfl)
    | fail_if_no_progress (with_reducible refine keeps_mk ?_ id rfl rfl (Nat.le_add_right _ _) (Nat.le_refl _))
    | fail_if_no_progress (with_reducible refine keeps_mk ?_ (wf_filter _) rfl rfl (Nat.le_refl _) (Nat.le_refl _))
    | fail_if_no_progress (with_reducible refine keeps_mk ?_ (wf_cellsSet _ _) rfl rfl (Nat.le_refl _) (Nat.le_refl _))
    | fail_if_no_progress (with_reducible refine keeps_mk ?_ (fun _ => rfl) rfl rfl (Nat.le_refl _) (Nat.le_refl _))

theorem scaleWriteBack_keeps {s0 : State} {s : State} {ks : List Nat} (h0 : Keeps s0 s) : Keeps s0 (scaleWriteBack s ks) := by
  unfold scaleWriteBack
  repeat' first
    | with_reducible first
      | assumption | refine writeMem_keeps ?_ | refine keeps_ite ?_ ?_ | refine keeps_ite1 ?_ ?_
      | refine keeps_foldl (fun _ _ _ => ?_) ?_ | refine keeps_forUp (fun _ _ _ => ?_) ?_
      | refine keeps_fold1 (fun _ _ _ => ?_) ?_ | refine keeps_foldRead (fun _ _ _ => ?_) ?_
      | refine keeps_foldMap (fun _ _ _ => ?_) ?_ | refine keeps_foldAcc (fun _ _ _ => ?_) ?_
      | refine keeps_foldWr (fun _ _ _ => ?_) ?_ | refine keeps_forUpWr (fun _ _ _ => ?_) ?_
      | refine keeps_foldAcc1 (fun _ _ _ => ?_) ?_
    | split | intro _ | dsimp only | fail_if_no_progress (with_reducible refine keeps_up ?_ rfl rfl rfl rfl rfl)
    | fail_if_no_progress (with_reducible refine keeps_mk ?_ id rfl rfl (Nat.le_add_right _ _) (Nat.le_refl _))
    | fail_if_no_progress (with_reducible refine keeps_mk ?_ (wf_filter _) rfl rfl (Nat.le_refl _) (Nat.le_refl _))
    | fail_if_no_progress (with_reducible refine keeps_mk ?_ (wf_cellsSet _ _) rfl rfl (Nat.le_refl _) (Nat.le_refl _))
    | fail_if_no_progress (with_reducible refine keeps_mk ?_ (fun _ => rfl) rfl rfl (Nat.le_refl _) (Nat.le_refl _))

theorem putEntry_keeps {s0 : State} {s : State} {n : Nat} {t : Nat} {e : Entry} (h0 : Keeps s0 s) : Keeps s0 (putEntry s n t e) :=
  keeps_up h0 rfl rfl rfl rfl rfl

theorem recordAmax_keeps {s0 : State} {s : State} {n : Nat} {t : Nat} {kind : Nat} {amax : W32} {ovf : Nat} (h0 : Keeps s0 s) : Keeps s0 (recordAmax s n t kind amax ovf) :=
  keeps_up h0 rfl rfl rfl rfl rfl

theorem scaleAnswer_keeps {s0 : State} {s : State} {n : Nat} {i : Nat} {tv : Val} (h0 : Keeps s0 s) : Keeps s0 (scaleAnswer s n i tv) := by
  unfold scaleAnswer
  repeat' first
    | with_reducible first
      | assumption | refine expOr_keeps ?_ | refine putEntry_keeps ?_

theorem commitBegin_keeps {s0 : State} {s : State} {n : Nat} {first : Nat} {cnt : Nat} (h0 : Keeps s0 s) : Keeps s0 (commitBegin s n first cnt) := by
  unfold commitBegin
  repeat' first
    | with_reducible first
      | assumption | refine State_setEntry_keeps ?_ | refine keeps_ite ?_ ?_ | refine keeps_ite1 ?_ ?_
      | refine keeps_foldl (fun _ _ _ => ?_) ?_ | refine keeps_forUp (fun _ _ _ => ?_) ?_
      | refine keeps_fold1 (fun _ _ _ => ?_) ?_ | refine keeps_foldRead (fun _ _ _ => ?_) ?_
      | refine keeps_foldMap (fun _ _ _ => ?_) ?_ | refine keeps_foldAcc (fun _ _ _ => ?_) ?_
      | refine keeps_foldWr (fun _ _ _ => ?_) ?_ | refine keeps_forUpWr (fun _ _ _ => ?_) ?_
      | refine keeps_foldAcc1 (fun _ _ _ => ?_) ?_
    | split | intro _ | dsimp only | fail_if_no_progress (with_reducible refine keeps_up ?_ rfl rfl rfl rfl rfl)
    | fail_if_no_progress (with_reducible refine keeps_mk ?_ id rfl rfl (Nat.le_add_right _ _) (Nat.le_refl _))
    | fail_if_no_progress (with_reducible refine keeps_mk ?_ (wf_filter _) rfl rfl (Nat.le_refl _) (Nat.le_refl _))
    | fail_if_no_progress (with_reducible refine keeps_mk ?_ (wf_cellsSet _ _) rfl rfl (Nat.le_refl _) (Nat.le_refl _))
    | fail_if_no_progress (with_reducible refine keeps_mk ?_ (fun _ => rfl) rfl rfl (Nat.le_refl _) (Nat.le_refl _))

theorem commitEntry_keeps {s0 : State} {s : State} {n : Nat} {t : Nat} {a : W32} {ovf : Bool} (h0 : Keeps s0 s) : Keeps s0 (commitEntry s n t a ovf) := by
  unfold commitEntry
  repeat' first
    | with_reducible first
      | assumption | refine numxCtr_keeps ?_ | refine putEntry_keeps ?_ | refine keeps_ite ?_ ?_
      | refine keeps_ite1 ?_ ?_ | refine keeps_foldl (fun _ _ _ => ?_) ?_ | refine keeps_forUp (fun _ _ _ => ?_) ?_
      | refine keeps_fold1 (fun _ _ _ => ?_) ?_ | refine keeps_foldRead (fun _ _ _ => ?_) ?_
      | refine keeps_foldMap (fun _ _ _ => ?_) ?_ | refine keeps_foldAcc (fun _ _ _ => ?_) ?_
      | refine keeps_foldWr (fun _ _ _ => ?_) ?_ | refine keeps_forUpWr (fun _ _ _ => ?_) ?_
      | refine keeps_foldAcc1 (fun _ _ _ => ?_) ?_
    | split | intro _ | dsimp only | fail_if_no_progress (with_reducible refine keeps_up ?_ rfl rfl rfl rfl rfl)
    | fail_if_no_progress (with_reducible refine keeps_mk ?_ id rfl rfl (Nat.le_add_right _ _) (Nat.le_refl _))
    | fail_if_no_progress (with_reducible refine keeps_mk ?_ (wf_filter _) rfl rfl (Nat.le_refl _) (Nat.le_refl _))
    | fail_if_no_progress (with_reducible refine keeps_mk ?_ (wf_cellsSet _ _) rfl rfl (Nat.le_refl _) (Nat.le_refl _))
    | fail_if_no_progress (with_reducible refine keeps_mk ?_ (fun _ => rfl) rfl rfl (Nat.le_refl _) (Nat.le_refl _))

theorem scaleClearAll_keeps {s0 : State} {s : State} {n : Nat} {first : Nat} {cnt : Nat} (h0 : Keeps s0 s) : Keeps s0 (scaleClearAll s n first cnt) := by
  unfold scaleClearAll
  repeat' first
    | with_reducible first
      | assumption | refine putEntry_keeps ?_ | refine keeps_forUp (fun _ _ _ => ?_) ?_

theorem scaleRescaleAll_keeps {s0 : State} {s : State} {n : Nat} {first : Nat} {cnt : Nat} (h0 : Keeps s0 s) : Keeps s0 (scaleRescaleAll s n first cnt) := by
  unfold scaleRescaleAll
  repeat' first
    | with_reducible first
      | assumption | refine putEntry_keeps ?_ | refine keeps_forUp (fun _ _ _ => ?_) ?_

theorem scaleLoadAll_keeps {s0 : State} {s : State} {n : Nat} {first : Nat} {cnt : Nat} {img : List Byte} (h0 : Keeps s0 s) : Keeps s0 (scaleLoadAll s n first cnt img) := by
  unfold scaleLoadAll
  repeat' first
    | with_reducible first
      | assumption | refine putEntry_keeps ?_ | refine keeps_forUp (fun _ _ _ => ?_) ?_

theorem capFloor_keeps {s0 : State} {s : State} {n : Nat} (h0 : Keeps s0 s) : Keeps s0 (capFloor s n) := by
  unfold capFloor
  repeat' first
    | with_reducible first
      | assumption | refine logAdd_keeps ?_ | refine raiseIrq_keeps ?_ | refine keeps_ite ?_ ?_
      | refine keeps_ite1 ?_ ?_ | refine keeps_foldl (fun _ _ _ => ?_) ?_ | refine keeps_forUp (fun _ _ _ => ?_) ?_
      | refine keeps_fold1 (fun _ _ _ => ?_) ?_ | refine keeps_foldRead (fun _ _ _ => ?_) ?_
      | refine keeps_foldMap (fun _ _ _ => ?_) ?_ | refine keeps_foldAcc (fun _ _ _ => ?_) ?_
      | refine keeps_foldWr (fun _ _ _ => ?_) ?_ | refine keeps_forUpWr (fun _ _ _ => ?_) ?_
      | refine keeps_foldAcc1 (fun _ _ _ => ?_) ?_
    | split | intro _ | dsimp only | fail_if_no_progress (with_reducible refine keeps_up ?_ rfl rfl rfl rfl rfl)
    | fail_if_no_progress (with_reducible refine keeps_mk ?_ id rfl rfl (Nat.le_add_right _ _) (Nat.le_refl _))
    | fail_if_no_progress (with_reducible refine keeps_mk ?_ (wf_filter _) rfl rfl (Nat.le_refl _) (Nat.le_refl _))
    | fail_if_no_progress (with_reducible refine keeps_mk ?_ (wf_cellsSet _ _) rfl rfl (Nat.le_refl _) (Nat.le_refl _))
    | fail_if_no_progress (with_reducible refine keeps_mk ?_ (fun _ => rfl) rfl rfl (Nat.le_refl _) (Nat.le_refl _))

theorem opSelect_keeps {s0 : State} {s : State} {tk : Nat} (h0 : Keeps s0 s) : Keeps s0 (opSelect s tk) := by
  unfold opSelect
  repeat' first
    | with_reducible first
      | assumption | refine capFloor_keeps ?_ | refine requestHold_keeps ?_ | refine keeps_ite ?_ ?_
      | refine keeps_ite1 ?_ ?_ | refine keeps_foldl (fun _ _ _ => ?_) ?_ | refine keeps_forUp (fun _ _ _ => ?_) ?_
      | refine keeps_fold1 (fun _ _ _ => ?_) ?_ | refine keeps_foldRead (fun _ _ _ => ?_) ?_
      | refine keeps_foldMap (fun _ _ _ => ?_) ?_ | refine keeps_foldAcc (fun _ _ _ => ?_) ?_
      | refine keeps_foldWr (fun _ _ _ => ?_) ?_ | refine keeps_forUpWr (fun _ _ _ => ?_) ?_
      | refine keeps_foldAcc1 (fun _ _ _ => ?_) ?_
    | split | intro _ | dsimp only | fail_if_no_progress (with_reducible refine keeps_up ?_ rfl rfl rfl rfl rfl)
    | fail_if_no_progress (with_reducible refine keeps_mk ?_ id rfl rfl (Nat.le_add_right _ _) (Nat.le_refl _))
    | fail_if_no_progress (with_reducible refine keeps_mk ?_ (wf_filter _) rfl rfl (Nat.le_refl _) (Nat.le_refl _))
    | fail_if_no_progress (with_reducible refine keeps_mk ?_ (wf_cellsSet _ _) rfl rfl (Nat.le_refl _) (Nat.le_refl _))
    | fail_if_no_progress (with_reducible refine keeps_mk ?_ (fun _ => rfl) rfl rfl (Nat.le_refl _) (Nat.le_refl _))

theorem withLimit_keeps {s0 : State} {s : State} {p : Pwr} (h0 : Keeps s0 s) : Keeps s0 (withLimit s p) := by
  unfold withLimit
  repeat' first
    | with_reducible first
      | assumption | refine raiseIrq_keeps ?_ | refine keeps_ite ?_ ?_
    | fail_if_no_progress (with_reducible refine keeps_up ?_ rfl rfl rfl rfl rfl)

theorem thermTick_keeps {s0 : State} {s : State} (h0 : Keeps s0 s) : Keeps s0 (thermTick s) := by
  unfold thermTick
  repeat' first
    | with_reducible first
      | assumption | refine withLimit_keeps ?_ | refine keeps_ite ?_ ?_
    | fail_if_no_progress (with_reducible refine keeps_up ?_ rfl rfl rfl rfl rfl)

theorem powerDown_keeps {s0 : State} {s : State} {st : PkgSt} (h0 : Keeps s0 s) : Keeps s0 (powerDown s st) := by
  unfold powerDown
  repeat' first
    | with_reducible assumption
    | fail_if_no_progress (with_reducible refine keeps_mk ?_ (fun _ => rfl) rfl rfl (Nat.le_refl _) (Nat.le_refl _))

theorem stateEnergy_keeps {s0 : State} {s : State} (h0 : Keeps s0 s) : Keeps s0 (stateEnergy s) :=
  keeps_mk h0 id rfl rfl (Nat.le_add_right _ _) (Nat.le_refl _)

theorem logState_keeps {s0 : State} {s : State} {old : PkgSt} (h0 : Keeps s0 s) : Keeps s0 (logState s old) := by
  unfold logState
  repeat' first
    | with_reducible first
      | assumption | refine logAdd_keeps ?_ | refine stateEnergy_keeps ?_

theorem leaveGroups_keeps {s0 : State} {s : State} (h0 : Keeps s0 s) : Keeps s0 (leaveGroups s) := by
  unfold leaveGroups
  repeat' first
    | with_reducible first
      | assumption | refine announceAbort_keeps ?_ | refine keeps_ite ?_ ?_ | refine keeps_ite1 ?_ ?_
      | refine keeps_foldl (fun _ _ _ => ?_) ?_ | refine keeps_forUp (fun _ _ _ => ?_) ?_
      | refine keeps_fold1 (fun _ _ _ => ?_) ?_ | refine keeps_foldRead (fun _ _ _ => ?_) ?_
      | refine keeps_foldMap (fun _ _ _ => ?_) ?_ | refine keeps_foldAcc (fun _ _ _ => ?_) ?_
      | refine keeps_foldWr (fun _ _ _ => ?_) ?_ | refine keeps_forUpWr (fun _ _ _ => ?_) ?_
      | refine keeps_foldAcc1 (fun _ _ _ => ?_) ?_
    | split | intro _ | dsimp only | fail_if_no_progress (with_reducible refine keeps_up ?_ rfl rfl rfl rfl rfl)
    | fail_if_no_progress (with_reducible refine keeps_mk ?_ id rfl rfl (Nat.le_add_right _ _) (Nat.le_refl _))
    | fail_if_no_progress (with_reducible refine keeps_mk ?_ (wf_filter _) rfl rfl (Nat.le_refl _) (Nat.le_refl _))
    | fail_if_no_progress (with_reducible refine keeps_mk ?_ (wf_cellsSet _ _) rfl rfl (Nat.le_refl _) (Nat.le_refl _))
    | fail_if_no_progress (with_reducible refine keeps_mk ?_ (fun _ => rfl) rfl rfl (Nat.le_refl _) (Nat.le_refl _))

theorem trip_keeps {s0 : State} {s : State} {cause : Nat} {sensor : Nat} {reading : Nat} (h0 : Keeps s0 s) : Keeps s0 (trip s cause sensor reading) := by
  unfold trip
  repeat' first
    | with_reducible first
      | assumption | refine leaveGroups_keeps ?_ | refine logAdd_keeps ?_ | refine logState_keeps ?_
      | refine powerDown_keeps ?_ | refine keeps_ite ?_ ?_ | refine keeps_ite1 ?_ ?_
      | refine keeps_foldl (fun _ _ _ => ?_) ?_ | refine keeps_forUp (fun _ _ _ => ?_) ?_
      | refine keeps_fold1 (fun _ _ _ => ?_) ?_ | refine keeps_foldRead (fun _ _ _ => ?_) ?_
      | refine keeps_foldMap (fun _ _ _ => ?_) ?_ | refine keeps_foldAcc (fun _ _ _ => ?_) ?_
      | refine keeps_foldWr (fun _ _ _ => ?_) ?_ | refine keeps_forUpWr (fun _ _ _ => ?_) ?_
      | refine keeps_foldAcc1 (fun _ _ _ => ?_) ?_
    | split | intro _ | dsimp only | fail_if_no_progress (with_reducible refine keeps_up ?_ rfl rfl rfl rfl rfl)
    | fail_if_no_progress (with_reducible refine keeps_mk ?_ id rfl rfl (Nat.le_add_right _ _) (Nat.le_refl _))
    | fail_if_no_progress (with_reducible refine keeps_mk ?_ (wf_filter _) rfl rfl (Nat.le_refl _) (Nat.le_refl _))
    | fail_if_no_progress (with_reducible refine keeps_mk ?_ (wf_cellsSet _ _) rfl rfl (Nat.le_refl _) (Nat.le_refl _))
    | fail_if_no_progress (with_reducible refine keeps_mk ?_ (fun _ => rfl) rfl rfl (Nat.le_refl _) (Nat.le_refl _))

theorem fastSample_keeps {s0 : State} {s : State} {watts : Nat} {vin10 : Nat} {clk : Nat} (h0 : Keeps s0 s) : Keeps s0 (fastSample s watts vin10 clk) := by
  unfold fastSample
  repeat' first
    | with_reducible first
      | assumption | refine keeps_ite ?_ ?_
    | fail_if_no_progress (with_reducible refine keeps_up ?_ rfl rfl rfl rfl rfl)

theorem thermalSample_keeps {s0 : State} {s : State} {r : ThermalRead} (h0 : Keeps s0 s) : Keeps s0 (thermalSample s r) := by
  unfold thermalSample
  repeat' first
    | with_reducible first
      | assumption | refine trip_keeps ?_
    | split | dsimp only | fail_if_no_progress (with_reducible refine keeps_up ?_ rfl rfl rfl rfl rfl)

theorem discardCopies_keeps {s0 : State} {s : State} (h0 : Keeps s0 s) : Keeps s0 (discardCopies s) := by
  unfold discardCopies
  repeat' first
    | with_reducible first
      | assumption | refine dropFlight_keeps ?_ | refine uncache_keeps ?_ | refine unstageAll_keeps ?_
      | refine keeps_foldl (fun _ _ _ => ?_) ?_
    | fail_if_no_progress (with_reducible refine keeps_up ?_ rfl rfl rfl rfl rfl)

theorem clearStores_keeps {s0 : State} {s : State} (h0 : Keeps s0 s) : Keeps s0 (clearStores s) := by
  unfold clearStores
  repeat' first
    | with_reducible assumption
    | fail_if_no_progress (with_reducible refine keeps_mk ?_ (wf_filter _) rfl rfl (Nat.le_refl _) (Nat.le_refl _))

theorem freshTick_keeps {s0 : State} {s : State} (h0 : Keeps s0 s) : Keeps s0 (freshTick s) :=
  keeps_up h0 rfl rfl rfl rfl rfl

theorem stateIgnored_keeps {s0 : State} {s : State} (h0 : Keeps s0 s) : Keeps s0 (stateIgnored s) := by
  unfold stateIgnored
  repeat' first
    | with_reducible first
      | assumption | refine writeIgnored_keeps ?_

theorem reqDormant_keeps {s0 : State} {s : State} (h0 : Keeps s0 s) : Keeps s0 (reqDormant s) := by
  unfold reqDormant
  repeat' first
    | with_reducible first
      | assumption | refine State_setGuest_keeps ?_ | refine State_setPort_keeps ?_ | refine feedSet_keeps ?_
      | refine portSet_keeps ?_ | refine stateIgnored_keeps ?_ | refine keeps_ite ?_ ?_ | refine keeps_ite1 ?_ ?_
      | refine keeps_foldl (fun _ _ _ => ?_) ?_ | refine keeps_forUp (fun _ _ _ => ?_) ?_
      | refine keeps_fold1 (fun _ _ _ => ?_) ?_ | refine keeps_foldRead (fun _ _ _ => ?_) ?_
      | refine keeps_foldMap (fun _ _ _ => ?_) ?_ | refine keeps_foldAcc (fun _ _ _ => ?_) ?_
      | refine keeps_foldWr (fun _ _ _ => ?_) ?_ | refine keeps_forUpWr (fun _ _ _ => ?_) ?_
      | refine keeps_foldAcc1 (fun _ _ _ => ?_) ?_
    | split | intro _ | dsimp only | fail_if_no_progress (with_reducible refine keeps_up ?_ rfl rfl rfl rfl rfl)
    | fail_if_no_progress (with_reducible refine keeps_mk ?_ id rfl rfl (Nat.le_add_right _ _) (Nat.le_refl _))
    | fail_if_no_progress (with_reducible refine keeps_mk ?_ (wf_filter _) rfl rfl (Nat.le_refl _) (Nat.le_refl _))
    | fail_if_no_progress (with_reducible refine keeps_mk ?_ (wf_cellsSet _ _) rfl rfl (Nat.le_refl _) (Nat.le_refl _))
    | fail_if_no_progress (with_reducible refine keeps_mk ?_ (fun _ => rfl) rfl rfl (Nat.le_refl _) (Nat.le_refl _))

theorem enterDormant_keeps {s0 : State} {s : State} (h0 : Keeps s0 s) : Keeps s0 (enterDormant s) := by
  unfold enterDormant
  repeat' first
    | with_reducible first
      | assumption | refine agtUpdate_keeps ?_ | refine capFloor_keeps ?_ | refine clearStores_keeps ?_
      | refine discardCopies_keeps ?_ | refine logState_keeps ?_ | refine scaleWriteBack_keeps ?_
      | refine keeps_ite ?_ ?_ | refine keeps_ite1 ?_ ?_ | refine keeps_foldl (fun _ _ _ => ?_) ?_
      | refine keeps_forUp (fun _ _ _ => ?_) ?_ | refine keeps_fold1 (fun _ _ _ => ?_) ?_
      | refine keeps_foldRead (fun _ _ _ => ?_) ?_ | refine keeps_foldMap (fun _ _ _ => ?_) ?_
      | refine keeps_foldAcc (fun _ _ _ => ?_) ?_ | refine keeps_foldWr (fun _ _ _ => ?_) ?_
      | refine keeps_forUpWr (fun _ _ _ => ?_) ?_ | refine keeps_foldAcc1 (fun _ _ _ => ?_) ?_
    | split | intro _ | dsimp only | fail_if_no_progress (with_reducible refine keeps_up ?_ rfl rfl rfl rfl rfl)
    | fail_if_no_progress (with_reducible refine keeps_mk ?_ id rfl rfl (Nat.le_add_right _ _) (Nat.le_refl _))
    | fail_if_no_progress (with_reducible refine keeps_mk ?_ (wf_filter _) rfl rfl (Nat.le_refl _) (Nat.le_refl _))
    | fail_if_no_progress (with_reducible refine keeps_mk ?_ (wf_cellsSet _ _) rfl rfl (Nat.le_refl _) (Nat.le_refl _))
    | fail_if_no_progress (with_reducible refine keeps_mk ?_ (fun _ => rfl) rfl rfl (Nat.le_refl _) (Nat.le_refl _))

theorem reqWake_keeps {s0 : State} {s : State} (h0 : Keeps s0 s) : Keeps s0 (reqWake s) := by
  unfold reqWake
  repeat' first
    | with_reducible first
      | assumption | refine stateIgnored_keeps ?_ | refine keeps_ite ?_ ?_
    | fail_if_no_progress (with_reducible refine keeps_up ?_ rfl rfl rfl rfl rfl)

theorem wakeDone_keeps {s0 : State} {s : State} (h0 : Keeps s0 s) : Keeps s0 (wakeDone s) := by
  unfold wakeDone
  repeat' first
    | with_reducible first
      | assumption | refine State_setGuest_keeps ?_ | refine agtUpdate_keeps ?_ | refine freshTick_keeps ?_
      | refine logState_keeps ?_ | refine portTrain_keeps ?_ | refine raiseIrq_keeps ?_ | refine reelect_keeps ?_
      | refine keeps_ite ?_ ?_ | refine keeps_forUp (fun _ _ _ => ?_) ?_
    | fail_if_no_progress (with_reducible refine keeps_up ?_ rfl rfl rfl rfl rfl)

theorem enterStandby_keeps {s0 : State} {s : State} (h0 : Keeps s0 s) : Keeps s0 (enterStandby s) := by
  unfold enterStandby
  repeat' first
    | with_reducible first
      | assumption | refine logState_keeps ?_ | refine powerDown_keeps ?_

theorem reqStandby_keeps {s0 : State} {s : State} (h0 : Keeps s0 s) : Keeps s0 (reqStandby s) := by
  unfold reqStandby
  repeat' first
    | with_reducible first
      | assumption | refine abortOf_keeps ?_ | refine enterStandby_keeps ?_ | refine stateIgnored_keeps ?_
      | refine keeps_ite ?_ ?_ | refine keeps_foldl (fun _ _ _ => ?_) ?_
    | fail_if_no_progress (with_reducible refine keeps_up ?_ rfl rfl rfl rfl rfl)

theorem drainOver_keeps {s0 : State} {s : State} (h0 : Keeps s0 s) : Keeps s0 (drainOver s) := by
  unfold drainOver
  repeat' first
    | with_reducible first
      | assumption | refine complete_keeps ?_ | refine enterStandby_keeps ?_ | refine exitQueue_keeps ?_
      | refine haltCore_keeps ?_ | refine keeps_ite ?_ ?_ | refine keeps_ite1 ?_ ?_
      | refine keeps_foldl (fun _ _ _ => ?_) ?_ | refine keeps_forUp (fun _ _ _ => ?_) ?_
      | refine keeps_fold1 (fun _ _ _ => ?_) ?_ | refine keeps_foldRead (fun _ _ _ => ?_) ?_
      | refine keeps_foldMap (fun _ _ _ => ?_) ?_ | refine keeps_foldAcc (fun _ _ _ => ?_) ?_
      | refine keeps_foldWr (fun _ _ _ => ?_) ?_ | refine keeps_forUpWr (fun _ _ _ => ?_) ?_
      | refine keeps_foldAcc1 (fun _ _ _ => ?_) ?_
    | split | intro _ | dsimp only | fail_if_no_progress (with_reducible refine keeps_up ?_ rfl rfl rfl rfl rfl)
    | fail_if_no_progress (with_reducible refine keeps_mk ?_ id rfl rfl (Nat.le_add_right _ _) (Nat.le_refl _))
    | fail_if_no_progress (with_reducible refine keeps_mk ?_ (wf_filter _) rfl rfl (Nat.le_refl _) (Nat.le_refl _))
    | fail_if_no_progress (with_reducible refine keeps_mk ?_ (wf_cellsSet _ _) rfl rfl (Nat.le_refl _) (Nat.le_refl _))
    | fail_if_no_progress (with_reducible refine keeps_mk ?_ (fun _ => rfl) rfl rfl (Nat.le_refl _) (Nat.le_refl _))

theorem stateReqWrite_keeps {s0 : State} {s : State} {v : Nat} (h0 : Keeps s0 s) : Keeps s0 (stateReqWrite s v) := by
  unfold stateReqWrite
  repeat' first
    | with_reducible first
      | assumption | refine badAccess_keeps ?_ | refine reqDormant_keeps ?_ | refine reqStandby_keeps ?_
      | refine reqWake_keeps ?_
    | split

theorem pwrCtrlWrite_keeps {s0 : State} {s : State} {v : Nat} (h0 : Keeps s0 s) : Keeps s0 (pwrCtrlWrite s v) := by
  unfold pwrCtrlWrite
  repeat' first
    | with_reducible first
      | assumption | refine writeIgnored_keeps ?_ | refine keeps_ite ?_ ?_
    | fail_if_no_progress (with_reducible refine keeps_up ?_ rfl rfl rfl rfl rfl)

theorem tableLoad_keeps {s0 : State} {s : State} {i : Nat} (h0 : Keeps s0 s) : Keeps s0 (tableLoad s i) := by
  unfold tableLoad
  repeat' first
    | with_reducible first
      | assumption | refine detect_keeps ?_ | refine pageErr_keeps ?_ | refine keeps_ite ?_ ?_
    | fail_if_no_progress (with_reducible refine keeps_up ?_ rfl rfl rfl rfl rfl)

theorem tablesApply_keeps {s0 : State} {s : State} (h0 : Keeps s0 s) : Keeps s0 (tablesApply s) := by
  unfold tablesApply
  repeat' first
    | with_reducible first
      | assumption | refine tableLoad_keeps ?_ | refine keeps_foldl (fun _ _ _ => ?_) ?_
    | fail_if_no_progress (with_reducible refine keeps_up ?_ rfl rfl rfl rfl rfl)

theorem logCopies_keeps {s0 : State} {s : State} {i : Nat} {a : FuseCopy} {b : FuseCopy} (h0 : Keeps s0 s) : Keeps s0 (logCopies s i a b) := by
  unfold logCopies
  repeat' first
    | with_reducible first
      | assumption | refine logAdd_keeps ?_ | refine keeps_ite ?_ ?_

theorem bringFail_keeps {s0 : State} {s : State} {step : Nat} {cause : Nat} (h0 : Keeps s0 s) : Keeps s0 (bringFail s step cause) := by
  unfold bringFail
  repeat' first
    | with_reducible first
      | assumption | refine logAdd_keeps ?_ | refine powerDown_keeps ?_
    | fail_if_no_progress (with_reducible refine keeps_up ?_ rfl rfl rfl rfl rfl)

theorem fenceAtBringup_keeps {s0 : State} {s : State} {d : Nat} {cause : Nat} (h0 : Keeps s0 s) : Keeps s0 (fenceAtBringup s d cause) := by
  unfold fenceAtBringup
  repeat' first
    | with_reducible first
      | assumption | refine logAdd_keeps ?_ | refine keeps_ite ?_ ?_
    | fail_if_no_progress (with_reducible refine keeps_up ?_ rfl rfl rfl rfl rfl)

theorem trainModule_keeps {s0 : State} {s : State} {l : Nat} {m : Nat} {cold : Bool} {trained : Bool} {lanes : Nat} (h0 : Keeps s0 s) : Keeps s0 (trainModule s l m cold trained lanes) :=
  keeps_up h0 rfl rfl rfl rfl rfl

theorem trainLanes_keeps {s0 : State} {s : State} {cold : Bool} {fused : Nat} {d : Nat} {m : Nat} {trained : Bool} {lanes : Nat} (h0 : Keeps s0 s) : Keeps s0 (trainLanes s cold fused d m trained lanes) := by
  unfold trainLanes
  repeat' first
    | with_reducible first
      | assumption | refine logAdd_keeps ?_ | refine trainModule_keeps ?_ | refine keeps_ite ?_ ?_
      | refine keeps_ite1 ?_ ?_ | refine keeps_foldl (fun _ _ _ => ?_) ?_ | refine keeps_forUp (fun _ _ _ => ?_) ?_
      | refine keeps_fold1 (fun _ _ _ => ?_) ?_ | refine keeps_foldRead (fun _ _ _ => ?_) ?_
      | refine keeps_foldMap (fun _ _ _ => ?_) ?_ | refine keeps_foldAcc (fun _ _ _ => ?_) ?_
      | refine keeps_foldWr (fun _ _ _ => ?_) ?_ | refine keeps_forUpWr (fun _ _ _ => ?_) ?_
      | refine keeps_foldAcc1 (fun _ _ _ => ?_) ?_
    | split | intro _ | dsimp only | fail_if_no_progress (with_reducible refine keeps_up ?_ rfl rfl rfl rfl rfl)
    | fail_if_no_progress (with_reducible refine keeps_mk ?_ id rfl rfl (Nat.le_add_right _ _) (Nat.le_refl _))
    | fail_if_no_progress (with_reducible refine keeps_mk ?_ (wf_filter _) rfl rfl (Nat.le_refl _) (Nat.le_refl _))
    | fail_if_no_progress (with_reducible refine keeps_mk ?_ (wf_cellsSet _ _) rfl rfl (Nat.le_refl _) (Nat.le_refl _))
    | fail_if_no_progress (with_reducible refine keeps_mk ?_ (fun _ => rfl) rfl rfl (Nat.le_refl _) (Nat.le_refl _))

theorem trainDieModule_keeps {s0 : State} {s : State} {cold : Bool} {f : FuseCopy} {x : SeqInput} {d : Nat} {m : Nat} (h0 : Keeps s0 s) : Keeps s0 (trainDieModule s cold f x d m) := by
  unfold trainDieModule
  repeat' first
    | with_reducible first
      | assumption | refine trainLanes_keeps ?_ | refine keeps_ite ?_ ?_ | refine keeps_ite1 ?_ ?_
      | refine keeps_foldl (fun _ _ _ => ?_) ?_ | refine keeps_forUp (fun _ _ _ => ?_) ?_
      | refine keeps_fold1 (fun _ _ _ => ?_) ?_ | refine keeps_foldRead (fun _ _ _ => ?_) ?_
      | refine keeps_foldMap (fun _ _ _ => ?_) ?_ | refine keeps_foldAcc (fun _ _ _ => ?_) ?_
      | refine keeps_foldWr (fun _ _ _ => ?_) ?_ | refine keeps_forUpWr (fun _ _ _ => ?_) ?_
      | refine keeps_foldAcc1 (fun _ _ _ => ?_) ?_
    | split | intro _ | dsimp only | fail_if_no_progress (with_reducible refine keeps_up ?_ rfl rfl rfl rfl rfl)
    | fail_if_no_progress (with_reducible refine keeps_mk ?_ id rfl rfl (Nat.le_add_right _ _) (Nat.le_refl _))
    | fail_if_no_progress (with_reducible refine keeps_mk ?_ (wf_filter _) rfl rfl (Nat.le_refl _) (Nat.le_refl _))
    | fail_if_no_progress (with_reducible refine keeps_mk ?_ (wf_cellsSet _ _) rfl rfl (Nat.le_refl _) (Nat.le_refl _))
    | fail_if_no_progress (with_reducible refine keeps_mk ?_ (fun _ => rfl) rfl rfl (Nat.le_refl _) (Nat.le_refl _))

theorem dieModules_keeps {s0 : State} {s : State} {d : Nat} (h0 : Keeps s0 s) : Keeps s0 (dieModules s d) := by
  unfold dieModules
  repeat' first
    | with_reducible first
      | assumption | refine fenceAtBringup_keeps ?_ | refine keeps_ite ?_ ?_

theorem trainDie_keeps {s0 : State} {s : State} {cold : Bool} {f : FuseCopy} {x : SeqInput} {d : Nat} (h0 : Keeps s0 s) : Keeps s0 (trainDie s cold f x d) := by
  unfold trainDie
  repeat' first
    | with_reducible first
      | assumption | refine State_setLink_keeps ?_ | refine dieModules_keeps ?_ | refine fenceAtBringup_keeps ?_
      | refine trainDieModule_keeps ?_ | refine keeps_ite ?_ ?_ | refine keeps_forUp (fun _ _ _ => ?_) ?_

theorem findGuest_keeps {s0 : State} {s : State} {x : SeqInput} {g : Nat} (h0 : Keeps s0 s) : Keeps s0 (findGuest s x g) := by
  unfold findGuest
  repeat' first
    | with_reducible first
      | assumption | refine State_setGuest_keeps ?_ | refine State_setLink_keeps ?_
      | refine State_setModule_keeps ?_ | refine guestRefuse_keeps ?_ | refine keeps_ite ?_ ?_
      | refine trainModule_keeps ?_ | refine keeps_forUp (fun _ _ _ => ?_) ?_
    | split

theorem seqStart_keeps {s0 : State} {s : State} (h0 : Keeps s0 s) : Keeps s0 (seqStart s) :=
  keeps_up h0 rfl rfl rfl rfl rfl

theorem fuseDie_keeps {s0 : State} {s : State} {d : Nat} (h0 : Keeps s0 s) : Keeps s0 (fuseDie s d).1 := by
  unfold fuseDie
  repeat' first
    | with_reducible first
      | assumption | refine fenceAtBringup_keeps ?_ | refine logAdd_keeps ?_ | refine logCopies_keeps ?_
      | refine keeps_foldl (fun _ _ _ => ?_) ?_
    | split | dsimp only | fail_if_no_progress (with_reducible refine keeps_up ?_ rfl rfl rfl rfl rfl)

theorem seqTests_keeps {s0 : State} {s : State} {x : SeqInput} (h0 : Keeps s0 s) : Keeps s0 (seqTests s x) := by
  unfold seqTests
  repeat' first
    | with_reducible first
      | assumption | refine fenceAtBringup_keeps ?_ | refine logAdd_keeps ?_
      | refine keeps_foldl (fun _ _ _ => ?_) ?_
    | fail_if_no_progress (with_reducible refine keeps_up ?_ rfl rfl rfl rfl rfl)

theorem seqWindows_keeps {s0 : State} {s : State} (h0 : Keeps s0 s) : Keeps s0 (seqWindows s) := by
  unfold seqWindows
  repeat' first
    | with_reducible first
      | assumption | refine State_setPort_keeps ?_ | refine portTrain_keeps ?_
      | refine keeps_forUp (fun _ _ _ => ?_) ?_
    | fail_if_no_progress (with_reducible refine keeps_up ?_ rfl rfl rfl rfl rfl)

theorem seqRest_keeps {s0 : State} {s : State} {x : SeqInput} (h0 : Keeps s0 s) : Keeps s0 (seqRest s x) := by
  unfold seqRest
  repeat' first
    | with_reducible first
      | assumption | refine bringFail_keeps ?_ | refine findGuest_keeps ?_ | refine fuseDie_keeps ?_
      | refine logCopies_keeps ?_ | refine seqTests_keeps ?_ | refine seqWindows_keeps ?_ | refine trainDie_keeps ?_
      | refine keeps_foldl (fun _ _ _ => ?_) ?_ | refine keeps_fold1 (fun _ _ _ => ?_) ?_
    | split | dsimp only | fail_if_no_progress (with_reducible refine keeps_up ?_ rfl rfl rfl rfl rfl)
    | fail_if_no_progress (with_reducible refine keeps_mk ?_ (fun _ => rfl) rfl rfl (Nat.le_refl _) (Nat.le_refl _))

theorem runSequence_keeps {s0 : State} {s : State} {x : SeqInput} (h0 : Keeps s0 s) : Keeps s0 (runSequence s x) := by
  unfold runSequence
  repeat' first
    | with_reducible first
      | assumption | refine bringFail_keeps ?_ | refine seqRest_keeps ?_ | refine seqStart_keeps ?_
      | refine keeps_ite ?_ ?_
    | fail_if_no_progress (with_reducible refine keeps_up ?_ rfl rfl rfl rfl rfl)

theorem windowRetrain_keeps {s0 : State} {s : State} {l : Nat} {m : Nat} {trained : Bool} {lanes : Nat} (h0 : Keeps s0 s) : Keeps s0 (windowRetrain s l m trained lanes) := by
  unfold windowRetrain
  repeat' first
    | with_reducible first
      | assumption | refine trainLanes_keeps ?_ | refine trainModule_keeps ?_ | refine keeps_ite ?_ ?_
      | refine keeps_ite1 ?_ ?_ | refine keeps_foldl (fun _ _ _ => ?_) ?_ | refine keeps_forUp (fun _ _ _ => ?_) ?_
      | refine keeps_fold1 (fun _ _ _ => ?_) ?_ | refine keeps_foldRead (fun _ _ _ => ?_) ?_
      | refine keeps_foldMap (fun _ _ _ => ?_) ?_ | refine keeps_foldAcc (fun _ _ _ => ?_) ?_
      | refine keeps_foldWr (fun _ _ _ => ?_) ?_ | refine keeps_forUpWr (fun _ _ _ => ?_) ?_
      | refine keeps_foldAcc1 (fun _ _ _ => ?_) ?_
    | split | intro _ | dsimp only | fail_if_no_progress (with_reducible refine keeps_up ?_ rfl rfl rfl rfl rfl)
    | fail_if_no_progress (with_reducible refine keeps_mk ?_ id rfl rfl (Nat.le_add_right _ _) (Nat.le_refl _))
    | fail_if_no_progress (with_reducible refine keeps_mk ?_ (wf_filter _) rfl rfl (Nat.le_refl _) (Nat.le_refl _))
    | fail_if_no_progress (with_reducible refine keeps_mk ?_ (wf_cellsSet _ _) rfl rfl (Nat.le_refl _) (Nat.le_refl _))
    | fail_if_no_progress (with_reducible refine keeps_mk ?_ (fun _ => rfl) rfl rfl (Nat.le_refl _) (Nat.le_refl _))

theorem windowEnds_keeps {s0 : State} {s : State} {l : Nat} {m : Nat} {trained : Bool} {lanes : Nat} (h0 : Keeps s0 s) : Keeps s0 (windowEnds s l m trained lanes) := by
  unfold windowEnds
  repeat' first
    | with_reducible first
      | assumption | refine State_setLink_keeps ?_ | refine State_setModule_keeps ?_ | refine bringFail_keeps ?_
      | refine dieModules_keeps ?_ | refine guestRefuse_keeps ?_ | refine windowRetrain_keeps ?_
      | refine keeps_ite ?_ ?_ | refine keeps_ite1 ?_ ?_ | refine keeps_foldl (fun _ _ _ => ?_) ?_
      | refine keeps_forUp (fun _ _ _ => ?_) ?_ | refine keeps_fold1 (fun _ _ _ => ?_) ?_
      | refine keeps_foldRead (fun _ _ _ => ?_) ?_ | refine keeps_foldMap (fun _ _ _ => ?_) ?_
      | refine keeps_foldAcc (fun _ _ _ => ?_) ?_ | refine keeps_foldWr (fun _ _ _ => ?_) ?_
      | refine keeps_forUpWr (fun _ _ _ => ?_) ?_ | refine keeps_foldAcc1 (fun _ _ _ => ?_) ?_
    | split | intro _ | dsimp only | fail_if_no_progress (with_reducible refine keeps_up ?_ rfl rfl rfl rfl rfl)
    | fail_if_no_progress (with_reducible refine keeps_mk ?_ id rfl rfl (Nat.le_add_right _ _) (Nat.le_refl _))
    | fail_if_no_progress (with_reducible refine keeps_mk ?_ (wf_filter _) rfl rfl (Nat.le_refl _) (Nat.le_refl _))
    | fail_if_no_progress (with_reducible refine keeps_mk ?_ (wf_cellsSet _ _) rfl rfl (Nat.le_refl _) (Nat.le_refl _))
    | fail_if_no_progress (with_reducible refine keeps_mk ?_ (fun _ => rfl) rfl rfl (Nat.le_refl _) (Nat.le_refl _))

theorem portDropped_keeps {s0 : State} {s : State} {k : Nat} (h0 : Keeps s0 s) : Keeps s0 (portDropped s k) := by
  unfold portDropped
  repeat' first
    | with_reducible first
      | assumption | refine State_setPort_keeps ?_ | refine logAdd_keeps ?_ | refine portSet_keeps ?_
      | refine keeps_ite ?_ ?_
    | fail_if_no_progress (with_reducible refine keeps_up ?_ rfl rfl rfl rfl rfl)

theorem readyCores_keeps {s0 : State} {s : State} (h0 : Keeps s0 s) : Keeps s0 (readyCores s) := by
  unfold readyCores
  repeat' first
    | with_reducible first
      | assumption | refine State_setCore_keeps ?_ | refine keeps_ite ?_ ?_
      | refine keeps_foldl (fun _ _ _ => ?_) ?_

theorem readyParts_keeps {s0 : State} {s : State} (h0 : Keeps s0 s) : Keeps s0 (readyParts s) :=
  keeps_up h0 rfl rfl rfl rfl rfl

theorem belowGrade_keeps {s0 : State} {s : State} (h0 : Keeps s0 s) : Keeps s0 (belowGrade s) := by
  unfold belowGrade
  repeat' first
    | with_reducible first
      | assumption | refine logAdd_keeps ?_ | refine keeps_ite ?_ ?_
    | fail_if_no_progress (with_reducible refine keeps_up ?_ rfl rfl rfl rfl rfl)

theorem ready11_keeps {s0 : State} {s : State} {ms : Nat} (h0 : Keeps s0 s) : Keeps s0 (ready11 s ms) := by
  unfold ready11
  repeat' first
    | with_reducible first
      | assumption | refine agtUpdate_keeps ?_ | refine belowGrade_keeps ?_ | refine freshTick_keeps ?_
      | refine logAdd_keeps ?_ | refine logState_keeps ?_ | refine raiseIrq_keeps ?_ | refine readyCores_keeps ?_
      | refine readyParts_keeps ?_ | refine reelect_keeps ?_ | refine sendMsix_keeps ?_ | refine keeps_ite ?_ ?_
      | refine keeps_foldl (fun _ _ _ => ?_) ?_
    | fail_if_no_progress (with_reducible refine keeps_up ?_ rfl rfl rfl rfl rfl)

theorem fetchOne_keeps {s0 : State} {s : State} {q : Nat} (h0 : Keeps s0 s) : Keeps s0 (fetchOne s q) := by
  unfold fetchOne
  repeat' first
    | with_reducible first
      | assumption | refine State_setQueue_keeps ?_ | refine stopQueue_keeps ?_ | refine vdetect_keeps ?_
      | refine vnote_keeps ?_ | refine keeps_ite ?_ ?_ | refine keeps_ite1 ?_ ?_
      | refine keeps_foldl (fun _ _ _ => ?_) ?_ | refine keeps_forUp (fun _ _ _ => ?_) ?_
      | refine keeps_fold1 (fun _ _ _ => ?_) ?_ | refine keeps_foldRead (fun _ _ _ => ?_) ?_
      | refine keeps_foldMap (fun _ _ _ => ?_) ?_ | refine keeps_foldAcc (fun _ _ _ => ?_) ?_
      | refine keeps_foldWr (fun _ _ _ => ?_) ?_ | refine keeps_forUpWr (fun _ _ _ => ?_) ?_
      | refine keeps_foldAcc1 (fun _ _ _ => ?_) ?_
    | split | intro _ | dsimp only | fail_if_no_progress (with_reducible refine keeps_up ?_ rfl rfl rfl rfl rfl)
    | fail_if_no_progress (with_reducible refine keeps_mk ?_ id rfl rfl (Nat.le_add_right _ _) (Nat.le_refl _))
    | fail_if_no_progress (with_reducible refine keeps_mk ?_ (wf_filter _) rfl rfl (Nat.le_refl _) (Nat.le_refl _))
    | fail_if_no_progress (with_reducible refine keeps_mk ?_ (wf_cellsSet _ _) rfl rfl (Nat.le_refl _) (Nat.le_refl _))
    | fail_if_no_progress (with_reducible refine keeps_mk ?_ (fun _ => rfl) rfl rfl (Nat.le_refl _) (Nat.le_refl _))

theorem fetchAll_keeps {s0 : State} {s : State} {q : Nat} (h0 : Keeps s0 s) : Keeps s0 (fetchAll s q) := by
  unfold fetchAll
  repeat' first
    | with_reducible first
      | assumption | refine fetchOne_keeps ?_ | refine sramSweep_keeps ?_ | refine keeps_ite ?_ ?_
      | refine keeps_ite1 ?_ ?_ | refine keeps_foldl (fun _ _ _ => ?_) ?_ | refine keeps_forUp (fun _ _ _ => ?_) ?_
      | refine keeps_fold1 (fun _ _ _ => ?_) ?_ | refine keeps_foldRead (fun _ _ _ => ?_) ?_
      | refine keeps_foldMap (fun _ _ _ => ?_) ?_ | refine keeps_foldAcc (fun _ _ _ => ?_) ?_
      | refine keeps_foldWr (fun _ _ _ => ?_) ?_ | refine keeps_forUpWr (fun _ _ _ => ?_) ?_
      | refine keeps_foldAcc1 (fun _ _ _ => ?_) ?_
    | split | intro _ | dsimp only | fail_if_no_progress (with_reducible refine keeps_up ?_ rfl rfl rfl rfl rfl)
    | fail_if_no_progress (with_reducible refine keeps_mk ?_ id rfl rfl (Nat.le_add_right _ _) (Nat.le_refl _))
    | fail_if_no_progress (with_reducible refine keeps_mk ?_ (wf_filter _) rfl rfl (Nat.le_refl _) (Nat.le_refl _))
    | fail_if_no_progress (with_reducible refine keeps_mk ?_ (wf_cellsSet _ _) rfl rfl (Nat.le_refl _) (Nat.le_refl _))
    | fail_if_no_progress (with_reducible refine keeps_mk ?_ (fun _ => rfl) rfl rfl (Nat.le_refl _) (Nat.le_refl _))

theorem startFrame_keeps {s0 : State} {s : State} {q : Nat} {tk : Nat} (h0 : Keeps s0 s) : Keeps s0 (startFrame s q tk) := by
  unfold startFrame
  repeat' first
    | with_reducible first
      | assumption | refine State_setQueue_keeps ?_ | refine queueCtr_keeps ?_ | refine keeps_ite ?_ ?_
    | split

theorem raiseOverrun_keeps {s0 : State} {s : State} {q : Nat} (h0 : Keeps s0 s) : Keeps s0 (raiseOverrun s q) := by
  unfold raiseOverrun
  repeat' first
    | with_reducible first
      | assumption | refine State_setQueue_keeps ?_ | refine queueCtr_keeps ?_ | refine tickCtr_keeps ?_
    | split | dsimp only

theorem dispatch_keeps {s0 : State} {s : State} {q : Nat} {n : Nat} {own : Rec → Bool} {f : Rec → State} (h0 : Keeps s0 s) (h1 : ∀ v0, Keeps s0 (f v0)) : Keeps s0 (dispatch s q n own f) := by
  unfold dispatch
  repeat' first
    | with_reducible first
      | assumption | refine completeSt_keeps ?_ | refine h1 _ | refine keeps_ite ?_ ?_
    | split

end Sys2Proof.Machine
end

