-- ==== Sys2Proof/Laws/KeepsUnits.lean ====
section
/-!
SUPPORT. The preservation lemmas of the control commands, ports, bring-up, bodies and collectives.
-/
namespace Sys2Proof.Machine

theorem enableQueue_keeps {s0 : State} {s : State} {q : Nat} (h0 : Keeps s0 s) : Keeps s0 (enableQueue s q) := by
  unfold enableQueue
  repeat' first
    | with_reducible first
      | assumption | refine State_setQueue_keeps ?_ | refine writeIgnored_keeps ?_ | refine keeps_ite ?_ ?_

theorem disableQueue_keeps {s0 : State} {s : State} {q : Nat} (h0 : Keeps s0 s) : Keeps s0 (disableQueue s q) := by
  unfold disableQueue
  repeat' first
    | with_reducible first
      | assumption | refine State_setQueue_keeps ?_ | refine abortOf_keeps ?_ | refine failUnstarted_keeps ?_
      | refine keeps_ite ?_ ?_

theorem disableDone_keeps {s0 : State} {s : State} {q : Nat} (h0 : Keeps s0 s) : Keeps s0 (disableDone s q) := by
  unfold disableDone
  repeat' first
    | with_reducible first
      | assumption | refine State_setQueue_keeps ?_ | refine sendMsix_keeps ?_ | refine keeps_ite ?_ ?_
    | fail_if_no_progress (with_reducible refine keeps_up ?_ rfl rfl rfl rfl rfl)

theorem flrEnd_keeps {s0 : State} {s : State} {f : Nat} (h0 : Keeps s0 s) : Keeps s0 (flrEnd s f) := by
  unfold flrEnd
  repeat' first
    | with_reducible first
      | assumption | refine keeps_ite ?_ ?_
    | fail_if_no_progress (with_reducible refine keeps_up ?_ rfl rfl rfl rfl rfl)

theorem flrSweep_keeps {s0 : State} {s : State} (h0 : Keeps s0 s) : Keeps s0 (flrSweep s) := by
  unfold flrSweep
  repeat' first
    | with_reducible first
      | assumption | refine flrEnd_keeps ?_ | refine keeps_foldl (fun _ _ _ => ?_) ?_

theorem doorbellIgnored_keeps {s0 : State} {s : State} {q : Nat} {ofs : Nat} (h0 : Keeps s0 s) : Keeps s0 (doorbellIgnored s q ofs) := by
  unfold doorbellIgnored
  repeat' first
    | with_reducible first
      | assumption | refine queueCtr_keeps ?_ | refine writeIgnored_keeps ?_

theorem sqTailWrite_keeps {s0 : State} {s : State} {f : Nat} {q : Nat} {v : Nat} (h0 : Keeps s0 s) : Keeps s0 (sqTailWrite s f q v) := by
  unfold sqTailWrite
  repeat' first
    | with_reducible first
      | assumption | refine State_setQueue_keeps ?_ | refine doorbellIgnored_keeps ?_ | refine foreignWrite_keeps ?_
      | refine keeps_ite ?_ ?_

theorem cqHeadWrite_keeps {s0 : State} {s : State} {f : Nat} {q : Nat} {v : Nat} (h0 : Keeps s0 s) : Keeps s0 (cqHeadWrite s f q v) := by
  unfold cqHeadWrite
  repeat' first
    | with_reducible first
      | assumption | refine State_setQueue_keeps ?_ | refine doorbellIgnored_keeps ?_ | refine foreignWrite_keeps ?_
      | refine keeps_ite ?_ ?_

theorem queueAccess_keeps {s0 : State} {s : State} {f : Nat} {q : Nat} {ofs : Nat} {k : State} (h0 : Keeps s0 s) (h1 : Keeps s0 k) : Keeps s0 (queueAccess s f q ofs k) := by
  unfold queueAccess
  repeat' first
    | with_reducible first
      | assumption | refine foreignWrite_keeps ?_ | refine keeps_ite ?_ ?_

theorem execQueueEnable_keeps {s0 : State} {f : Fin 9} {q : Fin 64} {s : State} (h0 : Keeps s0 s) : OutKeeps s0 (execQueueEnable f q s) := by
  unfold execQueueEnable
  repeat' first
    | with_reducible first
      | assumption | refine outKeeps_next ?_ | refine enableQueue_keeps ?_ | refine queueAccess_keeps ?_ ?_

theorem execQueueDisable_keeps {s0 : State} {f : Fin 9} {q : Fin 64} {s : State} (h0 : Keeps s0 s) : OutKeeps s0 (execQueueDisable f q s) := by
  unfold execQueueDisable
  repeat' first
    | with_reducible first
      | assumption | refine outKeeps_next ?_ | refine disableQueue_keeps ?_ | refine queueAccess_keeps ?_ ?_

theorem execDisableComplete_keeps {s0 : State} {q : Fin 64} {s : State} (h0 : Keeps s0 s) : OutKeeps s0 (execDisableComplete q s) := by
  unfold execDisableComplete
  repeat' first
    | with_reducible first
      | assumption | refine outKeeps_next ?_ | refine disableDone_keeps ?_ | refine flrSweep_keeps ?_

theorem doorbellRsv_keeps {s0 : State} {s : State} {q : Nat} {ofs : Nat} {v : Nat} (h0 : Keeps s0 s) : Keeps s0 (doorbellRsv s q ofs v) := by
  unfold doorbellRsv
  repeat' first
    | with_reducible first
      | assumption | refine badAccess_keeps ?_ | refine keeps_ite ?_ ?_

theorem execSqTail_keeps {s0 : State} {f : Fin 9} {q : Fin 64} {v : W64} {s : State} (h0 : Keeps s0 s) : OutKeeps s0 (execSqTail f q v s) := by
  unfold execSqTail
  repeat' first
    | with_reducible first
      | assumption | refine outKeeps_next ?_ | refine doorbellRsv_keeps ?_ | refine sqTailWrite_keeps ?_
      | refine keeps_ite ?_ ?_

theorem execCqHead_keeps {s0 : State} {f : Fin 9} {q : Fin 64} {v : W64} {s : State} (h0 : Keeps s0 s) : OutKeeps s0 (execCqHead f q v s) := by
  unfold execCqHead
  repeat' first
    | with_reducible first
      | assumption | refine outKeeps_next ?_ | refine cqHeadWrite_keeps ?_ | refine doorbellRsv_keeps ?_
      | refine keeps_ite ?_ ?_

theorem execCommandFetch_keeps {s0 : State} {q : Fin 64} {s : State} (h0 : Keeps s0 s) : OutKeeps s0 (execCommandFetch q s) := by
  unfold execCommandFetch
  repeat' first
    | with_reducible first
      | assumption | refine outKeeps_next ?_ | refine fetchAll_keeps ?_ | refine keeps_ite ?_ ?_

theorem State_setHeng_keeps {s0 : State} {s : State} {p : Nat} {e : Nat} {x : HEng} (h0 : Keeps s0 s) : Keeps s0 (State.setHeng s p e x) :=
  keeps_up h0 rfl rfl rfl rfl rfl

theorem heronTake_keeps {s0 s t : State} {p e : Nat} {c : CmdRef} {r : Rec} (h0 : Keeps s0 s)
    (h : heronTake s p e = some (t, c, r)) : Keeps s0 t := by
  unfold heronTake at h
  dsimp only at h
  split at h
  · cases h
  · split at h
    · cases h
    · split at h
      · cases h
      · cases h
        exact State_setHeng_keeps (setRecSt_keeps h0)

theorem heronOver_keeps {s0 : State} {s : State} {p : Nat} {e : Nat} {st : Nat} {pf : Bool} {x : HRun} (h0 : Keeps s0 s) : Keeps s0 (heronOver s p e st pf x) := by
  unfold heronOver
  repeat' first
    | with_reducible first
      | assumption | refine State_setHeng_keeps ?_ | refine complete_keeps ?_

theorem heronKickN_keeps {s0 s : State} {p e n : Nat} (h0 : Keeps s0 s) : Keeps s0 (heronKickN p e n s) := by
  induction n generalizing s with
  | zero => exact h0
  | succ n ih =>
    unfold heronKickN
    split
    · exact h0
    · rename_i t c r h
      have ht := heronTake_keeps h0 h
      split
      · exact ih (heronOver_keeps ht)
      · exact ht

theorem heronKick_keeps {s0 : State} {s : State} {p : Nat} {e : Nat} (h0 : Keeps s0 s) : Keeps s0 (heronKick s p e) := by
  unfold heronKick
  repeat' first
    | with_reducible first
      | assumption | refine heronKickN_keeps ?_

theorem State_setCtl_keeps {s0 : State} {s : State} {c : Bool} {x : Ctl} (h0 : Keeps s0 s) : Keeps s0 (State.setCtl s c x) := by
  unfold State.setCtl
  repeat' first
    | with_reducible assumption
    | split | fail_if_no_progress (with_reducible refine keeps_up ?_ rfl rfl rfl rfl rfl)

theorem State_setSlot_keeps {s0 : State} {s : State} {k : Nat} {x : Slot} (h0 : Keeps s0 s) : Keeps s0 (State.setSlot s k x) := by
  unfold State.setSlot
  repeat' first
    | with_reducible assumption
    | split | fail_if_no_progress (with_reducible refine keeps_up ?_ rfl rfl rfl rfl rfl)

theorem ctlLog_keeps {s0 : State} {s : State} {c : Bool} {e : LogIn} (h0 : Keeps s0 s) : Keeps s0 (ctlLog s c e) := by
  unfold ctlLog
  repeat' first
    | with_reducible first
      | assumption | refine logAdd_keeps ?_

theorem loseAuth_keeps {s0 : State} {s : State} {c : Bool} (h0 : Keeps s0 s) : Keeps s0 (loseAuth s c) := by
  unfold loseAuth
  repeat' first
    | with_reducible first
      | assumption | refine State_setCtl_keeps ?_ | refine ctlLog_keeps ?_ | refine keeps_ite ?_ ?_

theorem staleKey_keeps {s0 : State} {s : State} {block : Nat} {k : AuthKey} (h0 : Keeps s0 s) : Keeps s0 (staleKey s block k) := by
  unfold staleKey
  repeat' first
    | with_reducible first
      | assumption | refine bmgtCtr_keeps ?_ | refine logAdd_keeps ?_ | refine loseAuth_keeps ?_
      | refine keeps_ite ?_ ?_
    | fail_if_no_progress (with_reducible refine keeps_up ?_ rfl rfl rfl rfl rfl)

theorem dropWork_keeps {s0 : State} {s : State} (h0 : Keeps s0 s) : Keeps s0 (dropWork s) := by
  unfold dropWork
  repeat' first
    | with_reducible first
      | assumption | refine State_setSlot_keeps ?_
    | split | fail_if_no_progress (with_reducible refine keeps_up ?_ rfl rfl rfl rfl rfl)

theorem claimAuth_keeps {s0 : State} {s : State} {c : Bool} {cause : Nat} (h0 : Keeps s0 s) : Keeps s0 (claimAuth s c cause) := by
  unfold claimAuth
  repeat' first
    | with_reducible first
      | assumption | refine State_setCtl_keeps ?_ | refine bmgtCtr_keeps ?_ | refine ctlLog_keeps ?_
      | refine dropWork_keeps ?_ | refine staleKey_keeps ?_ | refine keeps_ite ?_ ?_
    | fail_if_no_progress (with_reducible refine keeps_up ?_ rfl rfl rfl rfl rfl)

theorem claimFrom_keeps {s0 : State} {s : State} {a : Option Bool} {b : Bool} {cause : Nat} (h0 : Keeps s0 s) : Keeps s0 (claimFrom s a b cause) := by
  unfold claimFrom
  repeat' first
    | with_reducible first
      | assumption | refine claimAuth_keeps ?_ | refine loseAuth_keeps ?_
    | split | dsimp only

theorem handOver_keeps {s0 : State} {s : State} {cause : Nat} (h0 : Keeps s0 s) : Keeps s0 (handOver s cause) := by
  unfold handOver
  repeat' first
    | with_reducible first
      | assumption | refine State_setCtl_keeps ?_ | refine claimFrom_keeps ?_
    | split

theorem fwLog_keeps {s0 : State} {s : State} {k : Nat} {action : Nat} (h0 : Keeps s0 s) : Keeps s0 (fwLog s k action) := by
  unfold fwLog
  repeat' first
    | with_reducible first
      | assumption | refine logAdd_keeps ?_

theorem rollBack_keeps {s0 : State} {s : State} {k : Nat} (h0 : Keeps s0 s) : Keeps s0 (rollBack s k) := by
  unfold rollBack
  repeat' first
    | with_reducible first
      | assumption | refine State_setSlot_keeps ?_ | refine fwLog_keeps ?_
    | fail_if_no_progress (with_reducible refine keeps_up ?_ rfl rfl rfl rfl rfl)

theorem bootDone_keeps {s0 : State} {s : State} {c : Bool} {k : Nat} (h0 : Keeps s0 s) : Keeps s0 (bootDone s c k) := by
  unfold bootDone
  repeat' first
    | with_reducible first
      | assumption | refine State_setCtl_keeps ?_ | refine claimAuth_keeps ?_ | refine claimFrom_keeps ?_ | refine keeps_ite ?_ ?_

theorem controllerBoot_keeps {s0 : State} {s : State} {c : Bool} {selfTest : Bool} (h0 : Keeps s0 s) : Keeps s0 (controllerBoot s c selfTest) := by
  unfold controllerBoot
  repeat' first
    | with_reducible first
      | assumption | refine State_setCtl_keeps ?_ | refine bootDone_keeps ?_ | refine ctlLog_keeps ?_
      | refine rollBack_keeps ?_ | refine keeps_foldl (fun _ _ _ => ?_) ?_
    | split | dsimp only

theorem resetCtl_keeps {s0 : State} {s : State} {c : Bool} (h0 : Keeps s0 s) : Keeps s0 (resetCtl s c) := by
  unfold resetCtl
  repeat' first
    | with_reducible first
      | assumption | refine State_setCtl_keeps ?_

theorem watchdog_keeps {s0 : State} {s : State} {c : Bool} (h0 : Keeps s0 s) : Keeps s0 (watchdog s c) := by
  unfold watchdog
  repeat' first
    | with_reducible first
      | assumption | refine State_setCtl_keeps ?_ | refine claimAuth_keeps ?_ | refine resetCtl_keeps ?_
      | refine rollBack_keeps ?_ | refine keeps_ite ?_ ?_
    | split

theorem requestUpdate_keeps {s0 : State} {s : State} {i : ImageFacts} (h0 : Keeps s0 s) : Keeps s0 (requestUpdate s i).1 := by
  unfold requestUpdate
  repeat' first
    | with_reducible first
      | assumption | refine State_setSlot_keeps ?_
    | split | fail_if_no_progress (with_reducible refine keeps_up ?_ rfl rfl rfl rfl rfl)

theorem verifyUpdate_keeps {s0 : State} {s : State} (h0 : Keeps s0 s) : Keeps s0 (verifyUpdate s).1 := by
  unfold verifyUpdate
  repeat' first
    | with_reducible first
      | assumption | refine State_setSlot_keeps ?_ | refine fwLog_keeps ?_
    | split | dsimp only | fail_if_no_progress (with_reducible refine keeps_up ?_ rfl rfl rfl rfl rfl)

theorem activate_keeps {s0 : State} {s : State} (h0 : Keeps s0 s) : Keeps s0 (activate s).1 := by
  unfold activate
  repeat' first
    | with_reducible first
      | assumption | refine State_setSlot_keeps ?_ | refine fwLog_keeps ?_ | refine resetCtl_keeps ?_
    | split | dsimp only | fail_if_no_progress (with_reducible refine keeps_up ?_ rfl rfl rfl rfl rfl)

theorem commitTrial_keeps {s0 : State} {s : State} {k : Nat} (h0 : Keeps s0 s) : Keeps s0 (commitTrial s k) := by
  unfold commitTrial
  repeat' first
    | with_reducible first
      | assumption | refine State_setSlot_keeps ?_ | refine fwLog_keeps ?_ | refine resetCtl_keeps ?_
    | split | dsimp only | fail_if_no_progress (with_reducible refine keeps_up ?_ rfl rfl rfl rfl rfl)

theorem respond_keeps {s0 : State} {s : State} {code : Nat} {d : List Byte} (h0 : Keeps s0 s) : Keeps s0 (respond s code d) :=
  keeps_up h0 rfl rfl rfl rfl rfl

theorem noReply_keeps {s0 : State} {s : State} (h0 : Keeps s0 s) : Keeps s0 (noReply s) :=
  keeps_up h0 rfl rfl rfl rfl rfl

theorem omc_keeps {s0 : State} {s : State} {m : Medium} {media : List Medium} {f : State} (h0 : Keeps s0 s) (h1 : Keeps s0 f) : Keeps s0 (omc s m media f) := by
  unfold omc
  repeat' first
    | with_reducible first
      | assumption | refine noReply_keeps ?_ | refine respond_keeps ?_ | refine keeps_ite ?_ ?_

theorem setState_keeps {s0 : State} {s : State} {req : Nat} {x : SeqInput} {unmet : Nat} (h0 : Keeps s0 s) : Keeps s0 (setState s req x unmet) := by
  unfold setState
  repeat' first
    | with_reducible first
      | assumption | refine logAdd_keeps ?_ | refine logState_keeps ?_ | refine powerDown_keeps ?_
      | refine respond_keeps ?_ | refine runSequence_keeps ?_ | refine keeps_ite ?_ ?_

theorem dispatchOrRetry_keeps {s0 : State} {s : State} {q : Nat} {n : Nat} {own : Rec → Bool} {f : Rec → State} (h0 : Keeps s0 s) (h1 : ∀ v0, Keeps s0 (f v0)) : Keeps s0 (dispatchOrRetry s q n own f) := by
  unfold dispatchOrRetry
  repeat' first
    | with_reducible first
      | assumption | refine dispatch_keeps ?_ ?_ | refine h1 _
    | split

theorem checked_keeps {s0 : State} {s : State} {c : CmdRef} {l : List (Bool × Nat)} {k : State} (h0 : Keeps s0 s) (h1 : Keeps s0 k) : Keeps s0 (checked s c l k) := by
  unfold checked
  repeat' first
    | with_reducible first
      | assumption | refine completeSt_keeps ?_ | refine keeps_ite ?_ ?_

theorem nopRun_keeps {s0 : State} {s : State} {q : Nat} {n : Nat} (h0 : Keeps s0 s) : Keeps s0 (nopRun s q n) := by
  unfold nopRun
  repeat' first
    | with_reducible first
      | assumption | refine checked_keeps ?_ ?_ | refine completeSt_keeps ?_ | refine dispatch_keeps ?_ ?_
    | intro _

theorem tickWaitRun_keeps {s0 : State} {s : State} {q : Nat} {n : Nat} (h0 : Keeps s0 s) : Keeps s0 (tickWaitRun s q n) := by
  unfold tickWaitRun
  repeat' first
    | with_reducible first
      | assumption | refine checked_keeps ?_ ?_ | refine complete_keeps ?_ | refine dispatch_keeps ?_ ?_
    | intro _

theorem epochRun_keeps {s0 : State} {s : State} {q : Nat} {n : Nat} (h0 : Keeps s0 s) : Keeps s0 (epochRun s q n) := by
  unfold epochRun
  repeat' first
    | with_reducible first
      | assumption | refine State_setQueue_keeps ?_ | refine checked_keeps ?_ ?_ | refine complete_keeps ?_
      | refine dispatch_keeps ?_ ?_
    | intro _

theorem hintRun_keeps {s0 : State} {s : State} {q : Nat} {n : Nat} (h0 : Keeps s0 s) : Keeps s0 (hintRun s q n) := by
  unfold hintRun
  repeat' first
    | with_reducible first
      | assumption | refine checked_keeps ?_ ?_ | refine completeSt_keeps ?_ | refine dispatch_keeps ?_ ?_
    | intro _ | fail_if_no_progress (with_reducible refine keeps_up ?_ rfl rfl rfl rfl rfl)

theorem fenceRaise_keeps {s0 : State} {s : State} {i : Nat} {v : Nat} (h0 : Keeps s0 s) : Keeps s0 (fenceRaise s i v) :=
  keeps_up h0 rfl rfl rfl rfl rfl

theorem fenceSignalRun_keeps {s0 : State} {s : State} {q : Nat} {n : Nat} (h0 : Keeps s0 s) : Keeps s0 (fenceSignalRun s q n) := by
  unfold fenceSignalRun
  repeat' first
    | with_reducible first
      | assumption | refine checked_keeps ?_ ?_ | refine completeSt_keeps ?_ | refine complete_keeps ?_
      | refine dispatch_keeps ?_ ?_ | refine fenceRaise_keeps ?_ | refine sendRequest_keeps ?_
      | refine setRecSt_keeps ?_ | refine keeps_ite ?_ ?_
    | intro _

theorem fenceWaitRun_keeps {s0 : State} {s : State} {q : Nat} {n : Nat} (h0 : Keeps s0 s) : Keeps s0 (fenceWaitRun s q n) := by
  unfold fenceWaitRun
  repeat' first
    | with_reducible first
      | assumption | refine checked_keeps ?_ ?_ | refine complete_keeps ?_ | refine dispatchOrRetry_keeps ?_ ?_
      | refine setRecSt_keeps ?_ | refine keeps_ite ?_ ?_
    | intro _

theorem scaleDone_keeps {s0 : State} {s : State} {c : CmdRef} {r : Rec} {bad : Bool} (h0 : Keeps s0 s) : Keeps s0 (scaleDone s c r bad) := by
  unfold scaleDone
  repeat' first
    | with_reducible first
      | assumption | refine complete_keeps ?_

theorem scaleRun_keeps {s0 : State} {s : State} {c : CmdRef} {r : Rec} (h0 : Keeps s0 s) : Keeps s0 (scaleRun s c r) := by
  unfold scaleRun
  repeat' first
    | with_reducible first
      | assumption | refine completeSt_keeps ?_ | refine complete_keeps ?_ | refine scaleClearAll_keeps ?_
      | refine scaleDone_keeps ?_ | refine scaleLoadAll_keeps ?_ | refine scaleRescaleAll_keeps ?_
      | refine setRecSt_keeps ?_ | refine vdetect_keeps ?_ | refine vnote_keeps ?_ | refine vwrite_keeps ?_
      | refine keeps_ite ?_ ?_ | refine keeps_ite1 ?_ ?_ | refine keeps_foldl (fun _ _ _ => ?_) ?_
      | refine keeps_forUp (fun _ _ _ => ?_) ?_ | refine keeps_fold1 (fun _ _ _ => ?_) ?_
      | refine keeps_foldRead (fun _ _ _ => ?_) ?_ | refine keeps_foldMap (fun _ _ _ => ?_) ?_
      | refine keeps_foldAcc (fun _ _ _ => ?_) ?_ | refine keeps_foldWr (fun _ _ _ => ?_) ?_
      | refine keeps_forUpWr (fun _ _ _ => ?_) ?_ | refine keeps_foldAcc1 (fun _ _ _ => ?_) ?_
    | split | intro _ | dsimp only | fail_if_no_progress (with_reducible refine keeps_up ?_ rfl rfl rfl rfl rfl)
    | fail_if_no_progress (with_reducible refine keeps_mk ?_ id rfl rfl (Nat.le_add_right _ _) (Nat.le_refl _))
    | fail_if_no_progress (with_reducible refine keeps_mk ?_ (wf_filter _) rfl rfl (Nat.le_refl _) (Nat.le_refl _))
    | fail_if_no_progress (with_reducible refine keeps_mk ?_ (wf_cellsSet _ _) rfl rfl (Nat.le_refl _) (Nat.le_refl _))
    | fail_if_no_progress (with_reducible refine keeps_mk ?_ (fun _ => rfl) rfl rfl (Nat.le_refl _) (Nat.le_refl _))

theorem scaleCmd_keeps {s0 : State} {s : State} {q : Nat} {n : Nat} {own : Nat → Bool} (h0 : Keeps s0 s) : Keeps s0 (scaleCmd s q n own) := by
  unfold scaleCmd
  repeat' first
    | with_reducible first
      | assumption | refine checked_keeps ?_ ?_ | refine dispatchOrRetry_keeps ?_ ?_ | refine scaleRun_keeps ?_
      | refine sramSweep_keeps ?_ | refine keeps_ite ?_ ?_ | refine keeps_ite1 ?_ ?_
      | refine keeps_foldl (fun _ _ _ => ?_) ?_ | refine keeps_forUp (fun _ _ _ => ?_) ?_
      | refine keeps_fold1 (fun _ _ _ => ?_) ?_ | refine keeps_foldRead (fun _ _ _ => ?_) ?_
      | refine keeps_foldMap (fun _ _ _ => ?_) ?_ | refine keeps_foldAcc (fun _ _ _ => ?_) ?_
      | refine keeps_foldWr (fun _ _ _ => ?_) ?_ | refine keeps_forUpWr (fun _ _ _ => ?_) ?_
      | refine keeps_foldAcc1 (fun _ _ _ => ?_) ?_
    | split | intro _ | dsimp only | fail_if_no_progress (with_reducible refine keeps_up ?_ rfl rfl rfl rfl rfl)
    | fail_if_no_progress (with_reducible refine keeps_mk ?_ id rfl rfl (Nat.le_add_right _ _) (Nat.le_refl _))
    | fail_if_no_progress (with_reducible refine keeps_mk ?_ (wf_filter _) rfl rfl (Nat.le_refl _) (Nat.le_refl _))
    | fail_if_no_progress (with_reducible refine keeps_mk ?_ (wf_cellsSet _ _) rfl rfl (Nat.le_refl _) (Nat.le_refl _))
    | fail_if_no_progress (with_reducible refine keeps_mk ?_ (fun _ => rfl) rfl rfl (Nat.le_refl _) (Nat.le_refl _))

theorem execNop_keeps {s0 : State} {q : Fin 64} {n : Nat} {s : State} (h0 : Keeps s0 s) : OutKeeps s0 (execNop q n s) := by
  unfold execNop
  repeat' first
    | with_reducible first
      | assumption | refine outKeeps_next ?_ | refine nopRun_keeps ?_

theorem execTickWait_keeps {s0 : State} {q : Fin 64} {n : Nat} {s : State} (h0 : Keeps s0 s) : OutKeeps s0 (execTickWait q n s) := by
  unfold execTickWait
  repeat' first
    | with_reducible first
      | assumption | refine outKeeps_next ?_ | refine tickWaitRun_keeps ?_

theorem execEpoch_keeps {s0 : State} {q : Fin 64} {n : Nat} {s : State} (h0 : Keeps s0 s) : OutKeeps s0 (execEpoch q n s) := by
  unfold execEpoch
  repeat' first
    | with_reducible first
      | assumption | refine outKeeps_next ?_ | refine epochRun_keeps ?_

theorem execHint_keeps {s0 : State} {q : Fin 64} {n : Nat} {s : State} (h0 : Keeps s0 s) : OutKeeps s0 (execHint q n s) := by
  unfold execHint
  repeat' first
    | with_reducible first
      | assumption | refine outKeeps_next ?_ | refine hintRun_keeps ?_

theorem execFenceSignal_keeps {s0 : State} {q : Fin 64} {n : Nat} {s : State} (h0 : Keeps s0 s) : OutKeeps s0 (execFenceSignal q n s) := by
  unfold execFenceSignal
  repeat' first
    | with_reducible first
      | assumption | refine outKeeps_next ?_ | refine fenceSignalRun_keeps ?_

theorem execFenceWait_keeps {s0 : State} {q : Fin 64} {n : Nat} {s : State} (h0 : Keeps s0 s) : OutKeeps s0 (execFenceWait q n s) := by
  unfold execFenceWait
  repeat' first
    | with_reducible first
      | assumption | refine outKeeps_next ?_ | refine fenceWaitRun_keeps ?_

theorem execScaleClear_keeps {s0 : State} {q : Fin 64} {n : Nat} {s : State} (h0 : Keeps s0 s) : OutKeeps s0 (execScaleClear q n s) := by
  unfold execScaleClear
  repeat' first
    | with_reducible first
      | assumption | refine outKeeps_next ?_ | refine scaleCmd_keeps ?_

theorem execScaleLoad_keeps {s0 : State} {q : Fin 64} {n : Nat} {s : State} (h0 : Keeps s0 s) : OutKeeps s0 (execScaleLoad q n s) := by
  unfold execScaleLoad
  repeat' first
    | with_reducible first
      | assumption | refine outKeeps_next ?_ | refine scaleCmd_keeps ?_

theorem execScaleStore_keeps {s0 : State} {q : Fin 64} {n : Nat} {s : State} (h0 : Keeps s0 s) : OutKeeps s0 (execScaleStore q n s) := by
  unfold execScaleStore
  repeat' first
    | with_reducible first
      | assumption | refine outKeeps_next ?_ | refine scaleCmd_keeps ?_

theorem execScaleRescale_keeps {s0 : State} {q : Fin 64} {n : Nat} {s : State} (h0 : Keeps s0 s) : OutKeeps s0 (execScaleRescale q n s) := by
  unfold execScaleRescale
  repeat' first
    | with_reducible first
      | assumption | refine outKeeps_next ?_ | refine scaleCmd_keeps ?_

theorem vreadMarked_keeps {s0 : State} {s : State} {c : Nat} {va : Nat} {n : Nat} (h0 : Keeps s0 s) : Keeps s0 (vreadMarked s c va n).s := by
  unfold vreadMarked
  repeat' first
    | with_reducible first
      | assumption | refine detect_keeps ?_ | refine vnote_keeps ?_ | refine keeps_foldRead (fun _ _ _ => ?_) ?_
    | split

theorem vput_keeps {s0 : State} {s : State} {c : Nat} {va : Nat} {bs : Marked} (h0 : Keeps s0 s) : Keeps s0 (vput s c va bs) := by
  unfold vput
  repeat' first
    | with_reducible first
      | assumption | refine vwrite_keeps ?_ | refine keeps_foldl (fun _ _ _ => ?_) ?_
    | split

theorem putSegs_keeps {s0 : State} {s : State} {c : Nat} {va : Nat} {segs : List (Nat × Nat)} {bs : Marked} (h0 : Keeps s0 s) : Keeps s0 (putSegs s c va segs bs) := by
  unfold putSegs
  repeat' first
    | with_reducible first
      | assumption | refine vput_keeps ?_ | refine keeps_fold1 (fun _ _ _ => ?_) ?_

theorem setColl_keeps {s0 : State} {s : State} {x : Coll} (h0 : Keeps s0 s) : Keeps s0 (setColl s x) :=
  keeps_up h0 rfl rfl rfl rfl rfl

theorem sendS_keeps {s0 : State} {s : State} {k : Nat} {c : Coll} {x : SendC} {reserve : Bool} (h0 : Keeps s0 s) : Keeps s0 (sendS s k c x reserve) := by
  unfold sendS
  repeat' first
    | with_reducible first
      | assumption | refine ceCtr_keeps ?_ | refine portCtr_keeps ?_ | refine setColl_keeps ?_
      | refine keeps_ite ?_ ?_
    | fail_if_no_progress (with_reducible refine keeps_up ?_ rfl rfl rfl rfl rfl)

theorem sendColl_keeps {s0 : State} {s : State} {c : Coll} {x : SendC} {f : Nat} (h0 : Keeps s0 s) : Keeps s0 (sendColl s c x f) := by
  unfold sendColl
  repeat' first
    | with_reducible first
      | assumption | refine inject_keeps ?_

theorem sendDirect_keeps {s0 : State} {s : State} {ref : CmdRef} (h0 : Keeps s0 s) : Keeps s0 (sendDirect s ref) := by
  unfold sendDirect
  repeat' first
    | with_reducible first
      | assumption | refine sendColl_keeps ?_ | refine setColl_keeps ?_ | refine keeps_foldl (fun _ _ _ => ?_) ?_
      | refine keeps_forUp (fun _ _ _ => ?_) ?_
    | split | dsimp only

theorem sendAllDirect_keeps {s0 : State} {s : State} (h0 : Keeps s0 s) : Keeps s0 (sendAllDirect s) := by
  unfold sendAllDirect
  repeat' first
    | with_reducible first
      | assumption | refine sendDirect_keeps ?_ | refine keeps_foldl (fun _ _ _ => ?_) ?_

theorem sendCollCtl_keeps {s0 : State} {s : State} {c : Coll} {m : Nat} {code : Nat} {first : Nat} (h0 : Keeps s0 s) : Keeps s0 (sendCollCtl s c m code first) := by
  unfold sendCollCtl
  repeat' first
    | with_reducible first
      | assumption | refine inject_keeps ?_ | refine sendAbort_keeps ?_ | refine keeps_ite ?_ ?_

theorem gatherRead_keeps {s0 : State} {s : State} {ctx : Nat} {hdr : Nat} {n : Nat} (h0 : Keeps s0 s) : Keeps s0 (gatherRead s ctx hdr n).1 := by
  unfold gatherRead
  repeat' first
    | with_reducible first
      | assumption | refine vreadMarked_keeps ?_

theorem pfAccess_keeps {s0 : State} {s : State} {k : State} (h0 : Keeps s0 s) (h1 : Keeps s0 k) : Keeps s0 (pfAccess s k) := by
  unfold pfAccess
  repeat' first
    | with_reducible first
      | assumption | refine keeps_ite ?_ ?_

theorem execPortEnable_keeps {s0 : State} {k : Fin 64} {s : State} (h0 : Keeps s0 s) : OutKeeps s0 (execPortEnable k s) := by
  unfold execPortEnable
  repeat' first
    | with_reducible first
      | assumption | refine outKeeps_next ?_ | refine pfAccess_keeps ?_ ?_ | refine portEnable_keeps ?_

theorem execPortDisable_keeps {s0 : State} {k : Fin 64} {s : State} (h0 : Keeps s0 s) : OutKeeps s0 (execPortDisable k s) := by
  unfold execPortDisable
  repeat' first
    | with_reducible first
      | assumption | refine outKeeps_next ?_ | exact outKeeps_refused | refine outKeeps_ite ?_ ?_
      | refine pfAccess_keeps ?_ ?_ | refine portDisable_keeps ?_ | refine sendAllDirect_keeps ?_
      | refine keeps_ite ?_ ?_ | refine keeps_ite1 ?_ ?_ | refine keeps_foldl (fun _ _ _ => ?_) ?_
      | refine keeps_forUp (fun _ _ _ => ?_) ?_ | refine keeps_fold1 (fun _ _ _ => ?_) ?_
      | refine keeps_foldRead (fun _ _ _ => ?_) ?_ | refine keeps_foldMap (fun _ _ _ => ?_) ?_
      | refine keeps_foldAcc (fun _ _ _ => ?_) ?_ | refine keeps_foldWr (fun _ _ _ => ?_) ?_
      | refine keeps_forUpWr (fun _ _ _ => ?_) ?_ | refine keeps_foldAcc1 (fun _ _ _ => ?_) ?_
    | split | intro _ | dsimp only | fail_if_no_progress (with_reducible refine keeps_up ?_ rfl rfl rfl rfl rfl)
    | fail_if_no_progress (with_reducible refine keeps_mk ?_ id rfl rfl (Nat.le_add_right _ _) (Nat.le_refl _))
    | fail_if_no_progress (with_reducible refine keeps_mk ?_ (wf_filter _) rfl rfl (Nat.le_refl _) (Nat.le_refl _))
    | fail_if_no_progress (with_reducible refine keeps_mk ?_ (wf_cellsSet _ _) rfl rfl (Nat.le_refl _) (Nat.le_refl _))
    | fail_if_no_progress (with_reducible refine keeps_mk ?_ (fun _ => rfl) rfl rfl (Nat.le_refl _) (Nat.le_refl _))

theorem execPortUp_keeps {s0 : State} {k : Fin 64} {nd : Fin 262144} {np : Fin 64} {rt : Nat} {pipe : Nat} {s : State} (h0 : Keeps s0 s) : OutKeeps s0 (execPortUp k nd np rt pipe s) := by
  unfold execPortUp
  repeat' first
    | with_reducible first
      | assumption | refine outKeeps_next ?_ | refine portUpWith_keeps ?_

theorem execPortTrainingFail_keeps {s0 : State} {k : Fin 64} {cause : Nat} {s : State} (h0 : Keeps s0 s) : OutKeeps s0 (execPortTrainingFail k cause s) := by
  unfold execPortTrainingFail
  repeat' first
    | with_reducible first
      | assumption | refine outKeeps_next ?_ | refine portSet_keeps ?_ | refine keeps_ite ?_ ?_

theorem execPortRetrain_keeps {s0 : State} {k : Fin 64} {s : State} (h0 : Keeps s0 s) : OutKeeps s0 (execPortRetrain k s) := by
  unfold execPortRetrain
  repeat' first
    | with_reducible first
      | assumption | refine outKeeps_next ?_ | refine portTrain_keeps ?_ | refine keeps_ite ?_ ?_

theorem execPortDown_keeps {s0 : State} {k : Fin 64} {cause : Nat} {s : State} (h0 : Keeps s0 s) : OutKeeps s0 (execPortDown k cause s) := by
  unfold execPortDown
  repeat' first
    | with_reducible first
      | assumption | refine outKeeps_next ?_ | exact outKeeps_refused | refine outKeeps_ite ?_ ?_
      | refine portSet_keeps ?_ | refine sendAllDirect_keeps ?_ | refine keeps_ite ?_ ?_ | refine keeps_ite1 ?_ ?_
      | refine keeps_foldl (fun _ _ _ => ?_) ?_ | refine keeps_forUp (fun _ _ _ => ?_) ?_
      | refine keeps_fold1 (fun _ _ _ => ?_) ?_ | refine keeps_foldRead (fun _ _ _ => ?_) ?_
      | refine keeps_foldMap (fun _ _ _ => ?_) ?_ | refine keeps_foldAcc (fun _ _ _ => ?_) ?_
      | refine keeps_foldWr (fun _ _ _ => ?_) ?_ | refine keeps_forUpWr (fun _ _ _ => ?_) ?_
      | refine keeps_foldAcc1 (fun _ _ _ => ?_) ?_
    | split | intro _ | dsimp only | fail_if_no_progress (with_reducible refine keeps_up ?_ rfl rfl rfl rfl rfl)
    | fail_if_no_progress (with_reducible refine keeps_mk ?_ id rfl rfl (Nat.le_add_right _ _) (Nat.le_refl _))
    | fail_if_no_progress (with_reducible refine keeps_mk ?_ (wf_filter _) rfl rfl (Nat.le_refl _) (Nat.le_refl _))
    | fail_if_no_progress (with_reducible refine keeps_mk ?_ (wf_cellsSet _ _) rfl rfl (Nat.le_refl _) (Nat.le_refl _))
    | fail_if_no_progress (with_reducible refine keeps_mk ?_ (fun _ => rfl) rfl rfl (Nat.le_refl _) (Nat.le_refl _))

theorem execBerWindow_keeps {s0 : State} {k : Fin 64} {w : PortWindow} {s : State} (h0 : Keeps s0 s) : OutKeeps s0 (execBerWindow k w s) := by
  unfold execBerWindow
  repeat' first
    | with_reducible first
      | assumption | refine outKeeps_next ?_ | exact outKeeps_refused | refine outKeeps_ite ?_ ?_
      | refine portWindow_keeps ?_ | refine sendAllDirect_keeps ?_ | refine keeps_ite ?_ ?_
      | refine keeps_ite1 ?_ ?_ | refine keeps_foldl (fun _ _ _ => ?_) ?_ | refine keeps_forUp (fun _ _ _ => ?_) ?_
      | refine keeps_fold1 (fun _ _ _ => ?_) ?_ | refine keeps_foldRead (fun _ _ _ => ?_) ?_
      | refine keeps_foldMap (fun _ _ _ => ?_) ?_ | refine keeps_foldAcc (fun _ _ _ => ?_) ?_
      | refine keeps_foldWr (fun _ _ _ => ?_) ?_ | refine keeps_forUpWr (fun _ _ _ => ?_) ?_
      | refine keeps_foldAcc1 (fun _ _ _ => ?_) ?_
    | split | intro _ | dsimp only | fail_if_no_progress (with_reducible refine keeps_up ?_ rfl rfl rfl rfl rfl)
    | fail_if_no_progress (with_reducible refine keeps_mk ?_ id rfl rfl (Nat.le_add_right _ _) (Nat.le_refl _))
    | fail_if_no_progress (with_reducible refine keeps_mk ?_ (wf_filter _) rfl rfl (Nat.le_refl _) (Nat.le_refl _))
    | fail_if_no_progress (with_reducible refine keeps_mk ?_ (wf_cellsSet _ _) rfl rfl (Nat.le_refl _) (Nat.le_refl _))
    | fail_if_no_progress (with_reducible refine keeps_mk ?_ (fun _ => rfl) rfl rfl (Nat.le_refl _) (Nat.le_refl _))

theorem execSchedCommit_keeps {s0 : State} {k : Fin 64} {s : State} (h0 : Keeps s0 s) : OutKeeps s0 (execSchedCommit k s) := by
  unfold execSchedCommit
  repeat' first
    | with_reducible first
      | assumption | refine outKeeps_next ?_ | refine pfAccess_keeps ?_ ?_ | refine portCommit_keeps ?_

theorem execCwFlitAck_keeps {s0 : State} {k : Fin 64} {ack : Nat} {stall : Nat} {s : State} (h0 : Keeps s0 s) : OutKeeps s0 (execCwFlitAck k ack stall s) := by
  unfold execCwFlitAck
  repeat' first
    | with_reducible first
      | assumption | refine outKeeps_next ?_ | refine State_setPort_keeps ?_ | refine portCtr_keeps ?_
      | refine pump_keeps ?_ | refine keeps_ite ?_ ?_

theorem execCausewayReplay_keeps {s0 : State} {k : Fin 64} {ack : Nat} {s : State} (h0 : Keeps s0 s) : OutKeeps s0 (execCausewayReplay k ack s) := by
  unfold execCausewayReplay
  repeat' first
    | with_reducible first
      | assumption | refine outKeeps_next ?_ | exact outKeeps_refused | refine outKeeps_ite ?_ ?_
      | refine State_setPort_keeps ?_ | refine portCtr_keeps ?_ | refine portSet_keeps ?_ | refine pump_keeps ?_
      | refine sendAllDirect_keeps ?_ | refine keeps_ite ?_ ?_ | refine keeps_ite1 ?_ ?_
      | refine keeps_foldl (fun _ _ _ => ?_) ?_ | refine keeps_forUp (fun _ _ _ => ?_) ?_
      | refine keeps_fold1 (fun _ _ _ => ?_) ?_ | refine keeps_foldRead (fun _ _ _ => ?_) ?_
      | refine keeps_foldMap (fun _ _ _ => ?_) ?_ | refine keeps_foldAcc (fun _ _ _ => ?_) ?_
      | refine keeps_foldWr (fun _ _ _ => ?_) ?_ | refine keeps_forUpWr (fun _ _ _ => ?_) ?_
      | refine keeps_foldAcc1 (fun _ _ _ => ?_) ?_
    | split | intro _ | dsimp only | fail_if_no_progress (with_reducible refine keeps_up ?_ rfl rfl rfl rfl rfl)
    | fail_if_no_progress (with_reducible refine keeps_mk ?_ id rfl rfl (Nat.le_add_right _ _) (Nat.le_refl _))
    | fail_if_no_progress (with_reducible refine keeps_mk ?_ (wf_filter _) rfl rfl (Nat.le_refl _) (Nat.le_refl _))
    | fail_if_no_progress (with_reducible refine keeps_mk ?_ (wf_cellsSet _ _) rfl rfl (Nat.le_refl _) (Nat.le_refl _))
    | fail_if_no_progress (with_reducible refine keeps_mk ?_ (fun _ => rfl) rfl rfl (Nat.le_refl _) (Nat.le_refl _))

theorem execCwCrcErr_keeps {s0 : State} {e : CwError} {s : State} (h0 : Keeps s0 s) : OutKeeps s0 (execCwCrcErr e s) := by
  unfold execCwCrcErr
  repeat' first
    | with_reducible first
      | assumption | refine outKeeps_next ?_ | exact outKeeps_refused | refine outKeeps_ite ?_ ?_
      | refine State_setPort_keeps ?_ | refine keeps_ite ?_ ?_ | refine keeps_ite1 ?_ ?_
      | refine keeps_foldl (fun _ _ _ => ?_) ?_ | refine keeps_forUp (fun _ _ _ => ?_) ?_
      | refine keeps_fold1 (fun _ _ _ => ?_) ?_ | refine keeps_foldRead (fun _ _ _ => ?_) ?_
      | refine keeps_foldMap (fun _ _ _ => ?_) ?_ | refine keeps_foldAcc (fun _ _ _ => ?_) ?_
      | refine keeps_foldWr (fun _ _ _ => ?_) ?_ | refine keeps_forUpWr (fun _ _ _ => ?_) ?_
      | refine keeps_foldAcc1 (fun _ _ _ => ?_) ?_
    | split | intro _ | dsimp only | fail_if_no_progress (with_reducible refine keeps_up ?_ rfl rfl rfl rfl rfl)
    | fail_if_no_progress (with_reducible refine keeps_mk ?_ id rfl rfl (Nat.le_add_right _ _) (Nat.le_refl _))
    | fail_if_no_progress (with_reducible refine keeps_mk ?_ (wf_filter _) rfl rfl (Nat.le_refl _) (Nat.le_refl _))
    | fail_if_no_progress (with_reducible refine keeps_mk ?_ (wf_cellsSet _ _) rfl rfl (Nat.le_refl _) (Nat.le_refl _))
    | fail_if_no_progress (with_reducible refine keeps_mk ?_ (fun _ => rfl) rfl rfl (Nat.le_refl _) (Nat.le_refl _))

theorem execCwReplayFlit_keeps {s0 : State} {k : Fin 64} {seq : Nat} {s : State} (h0 : Keeps s0 s) : OutKeeps s0 (execCwReplayFlit k seq s) := by
  unfold execCwReplayFlit
  repeat' first
    | with_reducible first
      | assumption | refine outKeeps_next ?_ | refine State_setPort_keeps ?_ | refine keeps_ite ?_ ?_

theorem execCreditReturn_keeps {s0 : State} {k : Fin 64} {floors : List Nat} {shared : Nat} {stall : Nat} {s : State} (h0 : Keeps s0 s) : OutKeeps s0 (execCreditReturn k floors shared stall s) := by
  unfold execCreditReturn
  repeat' first
    | with_reducible first
      | assumption | refine outKeeps_next ?_ | refine State_setPort_keeps ?_ | refine portCtr_keeps ?_
      | refine pump_keeps ?_ | refine keeps_ite ?_ ?_

theorem takePacket_keeps {s0 : State} {s : State} {k : Nat} {p : Packet} (h0 : Keeps s0 s) : Keeps s0 (takePacket s k p) := by
  unfold takePacket
  repeat' first
    | with_reducible first
      | assumption | refine arrive_keeps ?_ | refine returnCredits_keeps ?_ | refine keeps_ite ?_ ?_
      | refine keeps_ite1 ?_ ?_ | refine keeps_foldl (fun _ _ _ => ?_) ?_ | refine keeps_forUp (fun _ _ _ => ?_) ?_
      | refine keeps_fold1 (fun _ _ _ => ?_) ?_ | refine keeps_foldRead (fun _ _ _ => ?_) ?_
      | refine keeps_foldMap (fun _ _ _ => ?_) ?_ | refine keeps_foldAcc (fun _ _ _ => ?_) ?_
      | refine keeps_foldWr (fun _ _ _ => ?_) ?_ | refine keeps_forUpWr (fun _ _ _ => ?_) ?_
      | refine keeps_foldAcc1 (fun _ _ _ => ?_) ?_
    | split | intro _ | dsimp only | fail_if_no_progress (with_reducible refine keeps_up ?_ rfl rfl rfl rfl rfl)
    | fail_if_no_progress (with_reducible refine keeps_mk ?_ id rfl rfl (Nat.le_add_right _ _) (Nat.le_refl _))
    | fail_if_no_progress (with_reducible refine keeps_mk ?_ (wf_filter _) rfl rfl (Nat.le_refl _) (Nat.le_refl _))
    | fail_if_no_progress (with_reducible refine keeps_mk ?_ (wf_cellsSet _ _) rfl rfl (Nat.le_refl _) (Nat.le_refl _))
    | fail_if_no_progress (with_reducible refine keeps_mk ?_ (fun _ => rfl) rfl rfl (Nat.le_refl _) (Nat.le_refl _))

theorem answerUnreach_keeps {s0 : State} {s : State} {p : Packet} (h0 : Keeps s0 s) : Keeps s0 (answerUnreach s p) := by
  unfold answerUnreach
  repeat' first
    | with_reducible first
      | assumption | refine fabCtr_keeps ?_ | refine inject_keeps ?_
    | split

theorem routePacket_keeps {s0 : State} {s : State} {k : Nat} {p : Packet} (h0 : Keeps s0 s) : Keeps s0 (routePacket s k p) := by
  unfold routePacket
  repeat' first
    | with_reducible first
      | assumption | refine answerUnreach_keeps ?_ | refine arrive_keeps ?_ | refine queuePacket_keeps ?_
      | refine takePacket_keeps ?_ | refine keeps_ite ?_ ?_ | refine keeps_ite1 ?_ ?_
      | refine keeps_foldl (fun _ _ _ => ?_) ?_ | refine keeps_forUp (fun _ _ _ => ?_) ?_
      | refine keeps_fold1 (fun _ _ _ => ?_) ?_ | refine keeps_foldRead (fun _ _ _ => ?_) ?_
      | refine keeps_foldMap (fun _ _ _ => ?_) ?_ | refine keeps_foldAcc (fun _ _ _ => ?_) ?_
      | refine keeps_foldWr (fun _ _ _ => ?_) ?_ | refine keeps_forUpWr (fun _ _ _ => ?_) ?_
      | refine keeps_foldAcc1 (fun _ _ _ => ?_) ?_
    | split | intro _ | dsimp only | fail_if_no_progress (with_reducible refine keeps_up ?_ rfl rfl rfl rfl rfl)
    | fail_if_no_progress (with_reducible refine keeps_mk ?_ id rfl rfl (Nat.le_add_right _ _) (Nat.le_refl _))
    | fail_if_no_progress (with_reducible refine keeps_mk ?_ (wf_filter _) rfl rfl (Nat.le_refl _) (Nat.le_refl _))
    | fail_if_no_progress (with_reducible refine keeps_mk ?_ (wf_cellsSet _ _) rfl rfl (Nat.le_refl _) (Nat.le_refl _))
    | fail_if_no_progress (with_reducible refine keeps_mk ?_ (fun _ => rfl) rfl rfl (Nat.le_refl _) (Nat.le_refl _))

theorem execPacketRoute_keeps {s0 : State} {k : Fin 64} {p : Packet} {s : State} (h0 : Keeps s0 s) : OutKeeps s0 (execPacketRoute k p s) := by
  unfold execPacketRoute
  repeat' first
    | with_reducible first
      | assumption | refine outKeeps_next ?_ | refine fabCtr_keeps ?_ | refine routePacket_keeps ?_
      | refine takePacket_keeps ?_ | refine keeps_ite ?_ ?_

theorem received_keeps {s0 : State} {s : State} {k : Nat} {p : Packet} {t : Nat} {f : State → State} (h0 : Keeps s0 s) (h1 : ∀ v0, Keeps s0 v0 → Keeps s0 (f v0)) : Keeps s0 (received s k p t f) := by
  unfold received
  repeat' first
    | with_reducible first
      | assumption | refine answerUnreach_keeps ?_ | refine takePacket_keeps ?_ | refine h1 _ ?_
      | refine keeps_ite ?_ ?_ | refine keeps_ite1 ?_ ?_ | refine keeps_foldl (fun _ _ _ => ?_) ?_
      | refine keeps_forUp (fun _ _ _ => ?_) ?_ | refine keeps_fold1 (fun _ _ _ => ?_) ?_
      | refine keeps_foldRead (fun _ _ _ => ?_) ?_ | refine keeps_foldMap (fun _ _ _ => ?_) ?_
      | refine keeps_foldAcc (fun _ _ _ => ?_) ?_ | refine keeps_foldWr (fun _ _ _ => ?_) ?_
      | refine keeps_forUpWr (fun _ _ _ => ?_) ?_ | refine keeps_foldAcc1 (fun _ _ _ => ?_) ?_
    | split | intro _ | dsimp only | fail_if_no_progress (with_reducible refine keeps_up ?_ rfl rfl rfl rfl rfl)
    | fail_if_no_progress (with_reducible refine keeps_mk ?_ id rfl rfl (Nat.le_add_right _ _) (Nat.le_refl _))
    | fail_if_no_progress (with_reducible refine keeps_mk ?_ (wf_filter _) rfl rfl (Nat.le_refl _) (Nat.le_refl _))
    | fail_if_no_progress (with_reducible refine keeps_mk ?_ (wf_cellsSet _ _) rfl rfl (Nat.le_refl _) (Nat.le_refl _))
    | fail_if_no_progress (with_reducible refine keeps_mk ?_ (fun _ => rfl) rfl rfl (Nat.le_refl _) (Nat.le_refl _))

theorem answer_keeps {s0 : State} {s : State} {p : Packet} {a : Packet} (h0 : Keeps s0 s) : Keeps s0 (answer s p a) := by
  unfold answer
  repeat' first
    | with_reducible first
      | assumption | refine inject_keeps ?_

theorem execRdReq_keeps {s0 : State} {k : Fin 64} {p : Packet} {s : State} (h0 : Keeps s0 s) : OutKeeps s0 (execRdReq k p s) := by
  unfold execRdReq
  repeat' first
    | with_reducible first
      | assumption | refine outKeeps_next ?_ | exact outKeeps_refused | refine outKeeps_ite ?_ ?_
      | refine answer_keeps ?_ | refine received_keeps ?_ ?_ | refine sramSweep_keeps ?_
      | refine targetRead_keeps ?_ | refine keeps_ite ?_ ?_ | refine keeps_ite1 ?_ ?_
      | refine keeps_foldl (fun _ _ _ => ?_) ?_ | refine keeps_forUp (fun _ _ _ => ?_) ?_
      | refine keeps_fold1 (fun _ _ _ => ?_) ?_ | refine keeps_foldRead (fun _ _ _ => ?_) ?_
      | refine keeps_foldMap (fun _ _ _ => ?_) ?_ | refine keeps_foldAcc (fun _ _ _ => ?_) ?_
      | refine keeps_foldWr (fun _ _ _ => ?_) ?_ | refine keeps_forUpWr (fun _ _ _ => ?_) ?_
      | refine keeps_foldAcc1 (fun _ _ _ => ?_) ?_
    | split | intro _ | dsimp only | fail_if_no_progress (with_reducible refine keeps_up ?_ rfl rfl rfl rfl rfl)
    | fail_if_no_progress (with_reducible refine keeps_mk ?_ id rfl rfl (Nat.le_add_right _ _) (Nat.le_refl _))
    | fail_if_no_progress (with_reducible refine keeps_mk ?_ (wf_filter _) rfl rfl (Nat.le_refl _) (Nat.le_refl _))
    | fail_if_no_progress (with_reducible refine keeps_mk ?_ (wf_cellsSet _ _) rfl rfl (Nat.le_refl _) (Nat.le_refl _))
    | fail_if_no_progress (with_reducible refine keeps_mk ?_ (fun _ => rfl) rfl rfl (Nat.le_refl _) (Nat.le_refl _))

theorem execCwWr_keeps {s0 : State} {k : Fin 64} {p : Packet} {s : State} (h0 : Keeps s0 s) : OutKeeps s0 (execCwWr k p s) := by
  unfold execCwWr
  repeat' first
    | with_reducible first
      | assumption | refine outKeeps_next ?_ | exact outKeeps_refused | refine outKeeps_ite ?_ ?_
      | refine answer_keeps ?_ | refine received_keeps ?_ ?_ | refine targetWrite_keeps ?_ | refine keeps_ite ?_ ?_
      | refine keeps_ite1 ?_ ?_ | refine keeps_foldl (fun _ _ _ => ?_) ?_ | refine keeps_forUp (fun _ _ _ => ?_) ?_
      | refine keeps_fold1 (fun _ _ _ => ?_) ?_ | refine keeps_foldRead (fun _ _ _ => ?_) ?_
      | refine keeps_foldMap (fun _ _ _ => ?_) ?_ | refine keeps_foldAcc (fun _ _ _ => ?_) ?_
      | refine keeps_foldWr (fun _ _ _ => ?_) ?_ | refine keeps_forUpWr (fun _ _ _ => ?_) ?_
      | refine keeps_foldAcc1 (fun _ _ _ => ?_) ?_
    | split | intro _ | dsimp only | fail_if_no_progress (with_reducible refine keeps_up ?_ rfl rfl rfl rfl rfl)
    | fail_if_no_progress (with_reducible refine keeps_mk ?_ id rfl rfl (Nat.le_add_right _ _) (Nat.le_refl _))
    | fail_if_no_progress (with_reducible refine keeps_mk ?_ (wf_filter _) rfl rfl (Nat.le_refl _) (Nat.le_refl _))
    | fail_if_no_progress (with_reducible refine keeps_mk ?_ (wf_cellsSet _ _) rfl rfl (Nat.le_refl _) (Nat.le_refl _))
    | fail_if_no_progress (with_reducible refine keeps_mk ?_ (fun _ => rfl) rfl rfl (Nat.le_refl _) (Nat.le_refl _))

theorem execFenceSig_keeps {s0 : State} {k : Fin 64} {p : Packet} {s : State} (h0 : Keeps s0 s) : OutKeeps s0 (execFenceSig k p s) := by
  unfold execFenceSig
  repeat' first
    | with_reducible first
      | assumption | refine outKeeps_next ?_ | exact outKeeps_refused | refine outKeeps_ite ?_ ?_
      | refine answer_keeps ?_ | refine fenceRaise_keeps ?_ | refine logAdd_keeps ?_ | refine received_keeps ?_ ?_
      | refine keeps_ite ?_ ?_ | refine keeps_ite1 ?_ ?_ | refine keeps_foldl (fun _ _ _ => ?_) ?_
      | refine keeps_forUp (fun _ _ _ => ?_) ?_ | refine keeps_fold1 (fun _ _ _ => ?_) ?_
      | refine keeps_foldRead (fun _ _ _ => ?_) ?_ | refine keeps_foldMap (fun _ _ _ => ?_) ?_
      | refine keeps_foldAcc (fun _ _ _ => ?_) ?_ | refine keeps_foldWr (fun _ _ _ => ?_) ?_
      | refine keeps_forUpWr (fun _ _ _ => ?_) ?_ | refine keeps_foldAcc1 (fun _ _ _ => ?_) ?_
    | split | intro _ | dsimp only | fail_if_no_progress (with_reducible refine keeps_up ?_ rfl rfl rfl rfl rfl)
    | fail_if_no_progress (with_reducible refine keeps_mk ?_ id rfl rfl (Nat.le_add_right _ _) (Nat.le_refl _))
    | fail_if_no_progress (with_reducible refine keeps_mk ?_ (wf_filter _) rfl rfl (Nat.le_refl _) (Nat.le_refl _))
    | fail_if_no_progress (with_reducible refine keeps_mk ?_ (wf_cellsSet _ _) rfl rfl (Nat.le_refl _) (Nat.le_refl _))
    | fail_if_no_progress (with_reducible refine keeps_mk ?_ (fun _ => rfl) rfl rfl (Nat.le_refl _) (Nat.le_refl _))

theorem execFabCfgWrite_keeps {s0 : State} {v : W64} {s : State} (h0 : Keeps s0 s) : OutKeeps s0 (execFabCfgWrite v s) := by
  unfold execFabCfgWrite
  repeat' first
    | with_reducible first
      | assumption | refine outKeeps_next ?_ | refine fabCfgWrite_keeps ?_ | refine pfAccess_keeps ?_ ?_

theorem execMemberTableWrite_keeps {s0 : State} {i : Fin 96} {self : Bool} {v : W64} {s : State} (h0 : Keeps s0 s) : OutKeeps s0 (execMemberTableWrite i self v s) := by
  unfold execMemberTableWrite
  repeat' first
    | with_reducible first
      | assumption | refine outKeeps_next ?_ | refine memberWrite_keeps ?_ | refine pfAccess_keeps ?_ ?_

theorem execSetState_keeps {s0 : State} {m : Medium} {req : Nat} {x : SeqInput} {unmet : Fin 4} {s : State} (h0 : Keeps s0 s) : OutKeeps s0 (execSetState m req x unmet s) := by
  unfold execSetState
  repeat' first
    | with_reducible first
      | assumption | refine outKeeps_next ?_ | refine omc_keeps ?_ ?_ | refine setState_keeps ?_

theorem execDieLinkWindow_keeps {s0 : State} {l : Fin 6} {m : Fin 16} {trained : Bool} {lanes : Nat} {s : State} (h0 : Keeps s0 s) : OutKeeps s0 (execDieLinkWindow l m trained lanes s) := by
  unfold execDieLinkWindow
  repeat' first
    | with_reducible first
      | assumption | refine outKeeps_next ?_ | refine windowEnds_keeps ?_ | refine keeps_ite ?_ ?_

theorem execPortDropped_keeps {s0 : State} {k : Fin 64} {s : State} (h0 : Keeps s0 s) : OutKeeps s0 (execPortDropped k s) := by
  unfold execPortDropped
  repeat' first
    | with_reducible first
      | assumption | refine outKeeps_next ?_ | refine portDropped_keeps ?_

theorem execSequenceTimeLimit_keeps {s0 : State} {s : State} (h0 : Keeps s0 s) : OutKeeps s0 (execSequenceTimeLimit s) := by
  unfold execSequenceTimeLimit
  repeat' first
    | with_reducible first
      | assumption | refine outKeeps_next ?_ | refine bringFail_keeps ?_ | refine keeps_ite ?_ ?_

theorem execReady_keeps {s0 : State} {ms : Nat} {s : State} (h0 : Keeps s0 s) : OutKeeps s0 (execReady ms s) := by
  unfold execReady
  repeat' first
    | with_reducible first
      | assumption | refine outKeeps_next ?_ | refine ready11_keeps ?_

theorem setVe_keeps {s0 : State} {s : State} {p : Nat} {x : Ve} (h0 : Keeps s0 s) : Keeps s0 (setVe s p x) :=
  keeps_up h0 rfl rfl rfl rfl rfl

theorem veReg_keeps {f} : BodyKeeps (veReg f) := by
  intro s0 s p i h
  unfold veReg
  repeat' first
    | with_reducible first
      | assumption | refine eff_ok ?_ | refine setVe_keeps ?_

theorem scalar2_keeps {f} : BodyKeeps (scalar2 f) := by
  intro s0 s p i h
  unfold scalar2
  repeat' first
    | with_reducible first
      | assumption | refine veReg_keeps _ _ _ _ ?_

theorem scalarF_keeps {f} : BodyKeeps (scalarF f) := by
  intro s0 s p i h
  unfold scalarF
  repeat' first
    | with_reducible first
      | assumption | refine veReg_keeps _ _ _ _ ?_

theorem veSacc_keeps : BodyKeeps (veSacc ) := by
  intro s0 s p i h
  unfold veSacc
  repeat' first
    | with_reducible first
      | assumption | refine veReg_keeps _ _ _ _ ?_

theorem veW2f_keeps : BodyKeeps (veW2f ) := by
  intro s0 s p i h
  unfold veW2f
  repeat' first
    | with_reducible first
      | assumption | refine veReg_keeps _ _ _ _ ?_

theorem veF2w_keeps : BodyKeeps (veF2w ) := by
  intro s0 s p i h
  unfold veF2w
  repeat' first
    | with_reducible first
      | assumption | refine veReg_keeps _ _ _ _ ?_

theorem veVext_keeps : BodyKeeps (veVext ) := by
  intro s0 s p i h
  unfold veVext
  repeat' first
    | with_reducible first
      | assumption | refine veReg_keeps _ _ _ _ ?_

theorem countPoison_keeps {s0 : State} {s : State} {p : Nat} {us : List Nat} (h0 : Keeps s0 s) : Keeps s0 (countPoison s p us) := by
  unfold countPoison
  repeat' first
    | with_reducible first
      | assumption | refine coreCtr_keeps ?_

theorem loadUnits_keeps {s0 : State} {s : State} {p : Nat} {us : List Nat} (h0 : Keeps s0 s) : Keeps s0 (loadUnits s p us) := by
  unfold loadUnits
  repeat' first
    | with_reducible first
      | assumption | refine countPoison_keeps ?_ | refine detectUnit_keeps ?_
      | refine keeps_foldl (fun _ _ _ => ?_) ?_

theorem veSld_keeps : BodyKeeps (veSld ) := by
  intro s0 s p i h
  unfold veSld
  repeat' first
    | with_reducible first
      | assumption | refine eff_ok ?_ | refine eff_stop ?_ | refine eff_ite ?_ ?_ | refine loadUnits_keeps ?_
      | refine setVe_keeps ?_

theorem veSst_keeps : BodyKeeps (veSst ) := by
  intro s0 s p i h
  unfold veSst
  repeat' first
    | with_reducible first
      | assumption | refine eff_ok ?_ | refine eff_stop ?_ | refine eff_ite ?_ ?_ | refine writeMem_keeps ?_

theorem veLoad_keeps {mode} : BodyKeeps (veLoad mode) := by
  intro s0 s p i h
  unfold veLoad
  repeat' first
    | with_reducible first
      | assumption | refine eff_ok ?_ | refine eff_stop ?_ | refine eff_ite ?_ ?_ | refine loadUnits_keeps ?_
      | refine setVe_keeps ?_

theorem veStore_keeps {mode} : BodyKeeps (veStore mode) := by
  intro s0 s p i h
  unfold veStore
  repeat' first
    | with_reducible first
      | assumption | refine eff_ok ?_ | refine eff_stop ?_ | refine eff_ite ?_ ?_ | refine writeRuns_keeps ?_

theorem veMld_keeps : BodyKeeps (veMld ) := by
  intro s0 s p i h
  unfold veMld
  repeat' first
    | with_reducible first
      | assumption | refine eff_ok ?_ | refine eff_stop ?_ | refine eff_ite ?_ ?_ | refine loadUnits_keeps ?_
      | refine setVe_keeps ?_

theorem veMst_keeps : BodyKeeps (veMst ) := by
  intro s0 s p i h
  unfold veMst
  repeat' first
    | with_reducible first
      | assumption | refine eff_ok ?_ | refine eff_stop ?_ | refine eff_ite ?_ ?_ | refine writeMem_keeps ?_

theorem lanes1_keeps {f} : BodyKeeps (lanes1 f) := by
  intro s0 s p i h
  unfold lanes1
  repeat' first
    | with_reducible first
      | assumption | refine veReg_keeps _ _ _ _ ?_

theorem lanes2_keeps {f} : BodyKeeps (lanes2 f) := by
  intro s0 s p i h
  unfold lanes2
  repeat' first
    | with_reducible first
      | assumption | refine veReg_keeps _ _ _ _ ?_

theorem lanes3_keeps {f} : BodyKeeps (lanes3 f) := by
  intro s0 s p i h
  unfold lanes3
  repeat' first
    | with_reducible first
      | assumption | refine veReg_keeps _ _ _ _ ?_

theorem lanesSat_keeps {f} : BodyKeeps (lanesSat f) := by
  intro s0 s p i h
  unfold lanesSat
  repeat' first
    | with_reducible first
      | assumption | refine veReg_keeps _ _ _ _ ?_

theorem veVsel_keeps : BodyKeeps (veVsel ) := by
  intro s0 s p i h
  unfold veVsel
  repeat' first
    | with_reducible first
      | assumption | refine veReg_keeps _ _ _ _ ?_

theorem veVbc_keeps : BodyKeeps (veVbc ) := by
  intro s0 s p i h
  unfold veVbc
  repeat' first
    | with_reducible first
      | assumption | refine veReg_keeps _ _ _ _ ?_

theorem veViota_keeps : BodyKeeps (veViota ) := by
  intro s0 s p i h
  unfold veViota
  repeat' first
    | with_reducible first
      | assumption | refine veReg_keeps _ _ _ _ ?_

theorem veVcmpF_keeps : BodyKeeps (veVcmpF ) := by
  intro s0 s p i h
  unfold veVcmpF
  repeat' first
    | with_reducible first
      | assumption | refine veReg_keeps _ _ _ _ ?_

theorem veVcmpI_keeps : BodyKeeps (veVcmpI ) := by
  intro s0 s p i h
  unfold veVcmpI
  repeat' first
    | with_reducible first
      | assumption | refine veReg_keeps _ _ _ _ ?_

theorem veVnan_keeps : BodyKeeps (veVnan ) := by
  intro s0 s p i h
  unfold veVnan
  repeat' first
    | with_reducible first
      | assumption | refine veReg_keeps _ _ _ _ ?_

theorem mask2_keeps {f} : BodyKeeps (mask2 f) := by
  intro s0 s p i h
  unfold mask2
  repeat' first
    | with_reducible first
      | assumption | refine veReg_keeps _ _ _ _ ?_

theorem veMnot_keeps : BodyKeeps (veMnot ) := by
  intro s0 s p i h
  unfold veMnot
  repeat' first
    | with_reducible first
      | assumption | refine veReg_keeps _ _ _ _ ?_

theorem veMvl_keeps : BodyKeeps (veMvl ) := by
  intro s0 s p i h
  unfold veMvl
  repeat' first
    | with_reducible first
      | assumption | refine veReg_keeps _ _ _ _ ?_

theorem veMpop_keeps : BodyKeeps (veMpop ) := by
  intro s0 s p i h
  unfold veMpop
  repeat' first
    | with_reducible first
      | assumption | refine veReg_keeps _ _ _ _ ?_

theorem veMfirst_keeps : BodyKeeps (veMfirst ) := by
  intro s0 s p i h
  unfold veMfirst
  repeat' first
    | with_reducible first
      | assumption | refine veReg_keeps _ _ _ _ ?_

theorem veSum_keeps {sq wide} : BodyKeeps (veSum sq wide) := by
  intro s0 s p i h
  unfold veSum
  repeat' first
    | with_reducible first
      | assumption | refine veReg_keeps _ _ _ _ ?_

theorem veExtreme_keeps {f g empty} : BodyKeeps (veExtreme f g empty) := by
  intro s0 s p i h
  unfold veExtreme
  repeat' first
    | with_reducible first
      | assumption | refine veReg_keeps _ _ _ _ ?_

theorem veArgmax_keeps : BodyKeeps (veArgmax ) := by
  intro s0 s p i h
  unfold veArgmax
  repeat' first
    | with_reducible first
      | assumption | refine veReg_keeps _ _ _ _ ?_

theorem veRsumI_keeps : BodyKeeps (veRsumI ) := by
  intro s0 s p i h
  unfold veRsumI
  repeat' first
    | with_reducible first
      | assumption | refine veReg_keeps _ _ _ _ ?_

theorem veVperm_keeps : BodyKeeps (veVperm ) := by
  intro s0 s p i h
  unfold veVperm
  repeat' first
    | with_reducible first
      | assumption | refine veReg_keeps _ _ _ _ ?_

theorem veVpermh_keeps : BodyKeeps (veVpermh ) := by
  intro s0 s p i h
  unfold veVpermh
  repeat' first
    | with_reducible first
      | assumption | refine veReg_keeps _ _ _ _ ?_

theorem veSlide_keeps {down} : BodyKeeps (veSlide down) := by
  intro s0 s p i h
  unfold veSlide
  repeat' first
    | with_reducible first
      | assumption | refine veReg_keeps _ _ _ _ ?_

theorem veVcomp_keeps : BodyKeeps (veVcomp ) := by
  intro s0 s p i h
  unfold veVcomp
  repeat' first
    | with_reducible first
      | assumption | refine veReg_keeps _ _ _ _ ?_

theorem veVexpd_keeps : BodyKeeps (veVexpd ) := by
  intro s0 s p i h
  unfold veVexpd
  repeat' first
    | with_reducible first
      | assumption | refine veReg_keeps _ _ _ _ ?_

theorem veVrev_keeps : BodyKeeps (veVrev ) := by
  intro s0 s p i h
  unfold veVrev
  repeat' first
    | with_reducible first
      | assumption | refine veReg_keeps _ _ _ _ ?_

theorem veConvert_keeps {src dst} : BodyKeeps (veConvert src dst) := by
  intro s0 s p i h
  unfold veConvert
  repeat' first
    | with_reducible first
      | assumption | refine veReg_keeps _ _ _ _ ?_

theorem veVpack_keeps : BodyKeeps (veVpack ) := by
  intro s0 s p i h
  unfold veVpack
  repeat' first
    | with_reducible first
      | assumption | refine veReg_keeps _ _ _ _ ?_

theorem veUnpack_keeps {h} : BodyKeeps (veUnpack h) := by
  intro s0 s p i h
  unfold veUnpack
  repeat' first
    | with_reducible first
      | assumption | refine veReg_keeps _ _ _ _ ?_

theorem veVqnt_keeps : BodyKeeps (veVqnt ) := by
  intro s0 s p i h
  unfold veVqnt
  repeat' first
    | with_reducible first
      | assumption | refine veReg_keeps _ _ _ _ ?_

theorem veWadd_keeps : BodyKeeps (veWadd ) := by
  intro s0 s p i h
  unfold veWadd
  repeat' first
    | with_reducible first
      | assumption | refine veReg_keeps _ _ _ _ ?_

theorem veWaddf_keeps : BodyKeeps (veWaddf ) := by
  intro s0 s p i h
  unfold veWaddf
  repeat' first
    | with_reducible first
      | assumption | refine veReg_keeps _ _ _ _ ?_

theorem veWfrom_keeps : BodyKeeps (veWfrom ) := by
  intro s0 s p i h
  unfold veWfrom
  repeat' first
    | with_reducible first
      | assumption | refine veReg_keeps _ _ _ _ ?_

theorem veWto_keeps : BodyKeeps (veWto ) := by
  intro s0 s p i h
  unfold veWto
  repeat' first
    | with_reducible first
      | assumption | refine veReg_keeps _ _ _ _ ?_

theorem veWfromi_keeps : BodyKeeps (veWfromi ) := by
  intro s0 s p i h
  unfold veWfromi
  repeat' first
    | with_reducible first
      | assumption | refine veReg_keeps _ _ _ _ ?_

theorem veLoadConv_keeps {toInt} : BodyKeeps (veLoadConv toInt) := by
  intro s0 s p i h
  unfold veLoadConv
  repeat' first
    | with_reducible first
      | assumption | refine eff_ok ?_ | refine eff_stop ?_ | refine eff_ite ?_ ?_ | refine loadUnits_keeps ?_
      | refine setVe_keeps ?_

theorem storeScalar_keeps {s0 : State} {src : Sty} {s : State} {p : Nat} {i : VI} (h0 : Keeps s0 s) : EffKeeps s0 (storeScalar src s p i) := by
  unfold storeScalar
  repeat' first
    | with_reducible first
      | assumption | refine eff_ok ?_ | refine eff_stop ?_ | refine eff_ite ?_ ?_ | refine setVe_keeps ?_
      | refine writeRuns_keeps ?_

theorem storeMx_keeps {s0 : State} {s : State} {p : Nat} {i : VI} (h0 : Keeps s0 s) : EffKeeps s0 (storeMx s p i) := by
  unfold storeMx
  repeat' first
    | with_reducible first
      | assumption | refine eff_ok ?_ | refine eff_stop ?_ | refine eff_ite ?_ ?_ | refine setVe_keeps ?_
      | refine writeMem_keeps ?_

theorem veStoreF_keeps : BodyKeeps (veStoreF ) := by
  intro s0 s p i h
  unfold veStoreF
  repeat' first
    | with_reducible first
      | assumption | refine eff_ite ?_ ?_ | refine storeMx_keeps ?_ | refine storeScalar_keeps ?_

theorem veStoreI_keeps : BodyKeeps (veStoreI ) := by
  intro s0 s p i h
  unfold veStoreI
  repeat' first
    | with_reducible first
      | assumption | refine storeScalar_keeps ?_

theorem veSplLd_keeps : BodyKeeps (veSplLd ) := by
  intro s0 s p i h
  unfold veSplLd
  repeat' first
    | with_reducible first
      | assumption | refine eff_ok ?_ | refine eff_stop ?_ | refine eff_ite ?_ ?_ | refine loadUnits_keeps ?_
      | refine setVe_keeps ?_

theorem veSplSt_keeps : BodyKeeps (veSplSt ) := by
  intro s0 s p i h
  unfold veSplSt
  repeat' first
    | with_reducible first
      | assumption | refine eff_ok ?_ | refine eff_stop ?_ | refine eff_ite ?_ ?_ | refine writeMem_keeps ?_

theorem veSplFold_keeps : BodyKeeps (veSplFold ) := by
  intro s0 s p i h
  unfold veSplFold
  repeat' first
    | with_reducible first
      | assumption | refine eff_ok ?_ | refine eff_stop ?_ | refine eff_ite ?_ ?_ | refine loadUnits_keeps ?_
      | refine setVe_keeps ?_

theorem veLwait_keeps : BodyKeeps (veLwait ) := by
  intro s0 s p i h
  unfold veLwait
  repeat' first
    | with_reducible first
      | assumption | refine eff_ok ?_ | refine eff_stop ?_ | refine eff_wait ?_ | refine eff_ite ?_ ?_
      | refine setVe_keeps ?_

theorem veLpeek_keeps : BodyKeeps (veLpeek ) := by
  intro s0 s p i h
  unfold veLpeek
  repeat' first
    | with_reducible first
      | assumption | refine eff_ok ?_ | refine eff_ite ?_ ?_ | refine setVe_keeps ?_

theorem veLld_keeps : BodyKeeps (veLld ) := by
  intro s0 s p i h
  unfold veLld
  repeat' first
    | with_reducible first
      | assumption | refine eff_ok ?_ | refine eff_stop ?_ | refine eff_ite ?_ ?_ | refine setVe_keeps ?_

theorem veLldw_keeps : BodyKeeps (veLldw ) := by
  intro s0 s p i h
  unfold veLldw
  repeat' first
    | with_reducible first
      | assumption | refine eff_ok ?_ | refine eff_stop ?_ | refine eff_ite ?_ ?_ | refine setVe_keeps ?_

theorem veLrel_keeps : BodyKeeps (veLrel ) := by
  intro s0 s p i h
  unfold veLrel
  repeat' first
    | with_reducible first
      | assumption | refine eff_ok ?_ | refine eff_stop ?_ | refine eff_ite ?_ ?_ | refine State_setCore_keeps ?_

theorem veBranch_keeps {cond} : BodyKeeps (veBranch cond) := by
  intro s0 s p i h
  unfold veBranch
  repeat' first
    | with_reducible first
      | assumption | refine eff_ok ?_ | refine eff_jump ?_ | refine eff_ite ?_ ?_

theorem veLoop_keeps : BodyKeeps (veLoop ) := by
  intro s0 s p i h
  unfold veLoop
  repeat' first
    | with_reducible first
      | assumption | refine eff_ok ?_ | refine eff_jump ?_ | refine eff_ite ?_ ?_ | refine setVe_keeps ?_

theorem veSetvl_keeps : BodyKeeps (veSetvl ) := by
  intro s0 s p i h
  unfold veSetvl
  repeat' first
    | with_reducible first
      | assumption | refine veReg_keeps _ _ _ _ ?_

theorem veSetvli_keeps : BodyKeeps (veSetvli ) := by
  intro s0 s p i h
  unfold veSetvli
  repeat' first
    | with_reducible first
      | assumption | refine veReg_keeps _ _ _ _ ?_

theorem mxaEnqueue_keeps {s0 : State} {s : State} {q : Nat} {n : Nat} {p : Nat} (h0 : Keeps s0 s) : Keeps s0 (mxaEnqueue s q n p) :=
  keeps_up h0 rfl rfl rfl rfl rfl

theorem tileRun_keeps {s0 : State} {s : State} {q : Nat} {n : Nat} (h0 : Keeps s0 s) : Keeps s0 (tileRun s q n) := by
  unfold tileRun
  repeat' first
    | with_reducible first
      | assumption | refine checked_keeps ?_ ?_ | refine dispatch_keeps ?_ ?_ | refine mxaEnqueue_keeps ?_
    | intro _

theorem setMxa_keeps {s0 : State} {s : State} {p : Nat} {m : Mxa} (h0 : Keeps s0 s) : Keeps s0 (setMxa s p m) :=
  keeps_up h0 rfl rfl rfl rfl rfl

theorem mxaTake_keeps {s0 : State} {s : State} {p : Nat} {c : CmdRef} (h0 : Keeps s0 s) : Keeps s0 (mxaTake s p c) :=
  keeps_up h0 rfl rfl rfl rfl rfl

theorem mxaStalls_keeps {s0 : State} {s : State} {p : Nat} {w : MxaWaits} (h0 : Keeps s0 s) : Keeps s0 (mxaStalls s p w) := by
  unfold mxaStalls
  repeat' first
    | with_reducible first
      | assumption | refine coreCtr_keeps ?_

theorem tileIssue_keeps {s0 : State} {s : State} {p : Nat} {w : MxaWaits} {c : CmdRef} {r : Rec} (h0 : Keeps s0 s) : Keeps s0 (tileIssue s p w c r) := by
  unfold tileIssue
  repeat' first
    | with_reducible first
      | assumption | refine State_setCore_keeps ?_ | refine completeSt_keeps ?_ | refine coreCtr_keeps ?_
      | refine loadUnits_keeps ?_ | refine mxaStalls_keeps ?_ | refine mxaTake_keeps ?_ | refine parityHalt_keeps ?_
      | refine setMxa_keeps ?_ | refine keeps_ite ?_ ?_ | refine keeps_ite1 ?_ ?_
      | refine keeps_foldl (fun _ _ _ => ?_) ?_ | refine keeps_forUp (fun _ _ _ => ?_) ?_
      | refine keeps_fold1 (fun _ _ _ => ?_) ?_ | refine keeps_foldRead (fun _ _ _ => ?_) ?_
      | refine keeps_foldMap (fun _ _ _ => ?_) ?_ | refine keeps_foldAcc (fun _ _ _ => ?_) ?_
      | refine keeps_foldWr (fun _ _ _ => ?_) ?_ | refine keeps_forUpWr (fun _ _ _ => ?_) ?_
      | refine keeps_foldAcc1 (fun _ _ _ => ?_) ?_
    | split | intro _ | dsimp only | fail_if_no_progress (with_reducible refine keeps_up ?_ rfl rfl rfl rfl rfl)
    | fail_if_no_progress (with_reducible refine keeps_mk ?_ id rfl rfl (Nat.le_add_right _ _) (Nat.le_refl _))
    | fail_if_no_progress (with_reducible refine keeps_mk ?_ (wf_filter _) rfl rfl (Nat.le_refl _) (Nat.le_refl _))
    | fail_if_no_progress (with_reducible refine keeps_mk ?_ (wf_cellsSet _ _) rfl rfl (Nat.le_refl _) (Nat.le_refl _))
    | fail_if_no_progress (with_reducible refine keeps_mk ?_ (fun _ => rfl) rfl rfl (Nat.le_refl _) (Nat.le_refl _))

theorem tileNext_keeps {s0 : State} {s : State} {p : Nat} {w : MxaWaits} (h0 : Keeps s0 s) : Keeps s0 (tileNext s p w) := by
  unfold tileNext
  repeat' first
    | with_reducible first
      | assumption | refine sramSweep_keeps ?_ | refine tileIssue_keeps ?_ | refine keeps_ite ?_ ?_
    | split

theorem tileDone_keeps {s0 : State} {s : State} {p : Nat} (h0 : Keeps s0 s) : Keeps s0 (tileDone s p) := by
  unfold tileDone
  repeat' first
    | with_reducible first
      | assumption | refine complete_keeps ?_ | refine setMxa_keeps ?_
    | split | dsimp only

theorem execTile_keeps {s0 : State} {q : Fin 64} {n : Nat} {s : State} (h0 : Keeps s0 s) : OutKeeps s0 (execTile q n s) := by
  unfold execTile
  repeat' first
    | with_reducible first
      | assumption | refine outKeeps_next ?_ | refine tileRun_keeps ?_

theorem execTileIssue_keeps {s0 : State} {p : Fin 256} {w : MxaWaits} {s : State} (h0 : Keeps s0 s) : OutKeeps s0 (execTileIssue p w s) := by
  unfold execTileIssue
  repeat' first
    | with_reducible first
      | assumption | refine outKeeps_next ?_ | refine tileNext_keeps ?_

theorem execTileComplete_keeps {s0 : State} {p : Fin 256} {s : State} (h0 : Keeps s0 s) : OutKeeps s0 (execTileComplete p s) := by
  unfold execTileComplete
  repeat' first
    | with_reducible first
      | assumption | refine outKeeps_next ?_ | refine tileDone_keeps ?_

theorem collFail_keeps {s0 : State} {s : State} {c : CmdRef} {st : Nat} (h0 : Keeps s0 s) : Keeps s0 (collFail s c st) := by
  unfold collFail
  repeat' first
    | with_reducible first
      | assumption | refine abortOf_keeps ?_ | refine complete_keeps ?_ | refine keeps_ite ?_ ?_
      | refine keeps_ite1 ?_ ?_ | refine keeps_foldl (fun _ _ _ => ?_) ?_ | refine keeps_forUp (fun _ _ _ => ?_) ?_
      | refine keeps_fold1 (fun _ _ _ => ?_) ?_ | refine keeps_foldRead (fun _ _ _ => ?_) ?_
      | refine keeps_foldMap (fun _ _ _ => ?_) ?_ | refine keeps_foldAcc (fun _ _ _ => ?_) ?_
      | refine keeps_foldWr (fun _ _ _ => ?_) ?_ | refine keeps_forUpWr (fun _ _ _ => ?_) ?_
      | refine keeps_foldAcc1 (fun _ _ _ => ?_) ?_
    | split | intro _ | dsimp only | fail_if_no_progress (with_reducible refine keeps_up ?_ rfl rfl rfl rfl rfl)
    | fail_if_no_progress (with_reducible refine keeps_mk ?_ id rfl rfl (Nat.le_add_right _ _) (Nat.le_refl _))
    | fail_if_no_progress (with_reducible refine keeps_mk ?_ (wf_filter _) rfl rfl (Nat.le_refl _) (Nat.le_refl _))
    | fail_if_no_progress (with_reducible refine keeps_mk ?_ (wf_cellsSet _ _) rfl rfl (Nat.le_refl _) (Nat.le_refl _))
    | fail_if_no_progress (with_reducible refine keeps_mk ?_ (fun _ => rfl) rfl rfl (Nat.le_refl _) (Nat.le_refl _))

theorem raggedShares_keeps {s0 : State} {s : State} {c : CmdRef} {r : Rec} {n : Nat} {self : Nat} (h0 : Keeps s0 s) : Keeps s0 (raggedShares s c r n self).s := by
  unfold raggedShares
  repeat' first
    | with_reducible first
      | assumption | refine vreadMarked_keeps ?_
    | split | dsimp only

theorem collShares_keeps {s0 : State} {s : State} {c : CmdRef} {r : Rec} {n : Nat} {self : Nat} (h0 : Keeps s0 s) : Keeps s0 (collShares s c r n self).s := by
  unfold collShares
  repeat' first
    | with_reducible first
      | assumption | refine raggedShares_keeps ?_
    | split

theorem linkExcl_keeps {s0 : State} {s : State} {c : CmdRef} {r : Rec} (h0 : Keeps s0 s) : Keeps s0 (linkExcl s c r).1 := by
  unfold linkExcl
  repeat' first
    | with_reducible first
      | assumption | refine vreadMarked_keeps ?_
    | split | dsimp only

theorem gatherStart_keeps {s0 : State} {s : State} {r : Rec} {c : Coll} (h0 : Keeps s0 s) : Keeps s0 (gatherStart s r c).1.s := by
  unfold gatherStart
  repeat' first
    | with_reducible first
      | assumption | refine gatherRead_keeps ?_ | refine vreadMarked_keeps ?_
    | split | dsimp only

theorem collPlan_keeps {s0 : State} {s : State} {c : CmdRef} {r : Rec} {devs : List Nat} {self : Nat} {seq : Nat} (h0 : Keeps s0 s) : Keeps s0 (collPlan s c r devs self seq).s := by
  unfold collPlan
  repeat' first
    | with_reducible first
      | assumption | refine collShares_keeps ?_ | refine commitBegin_keeps ?_ | refine gatherStart_keeps ?_
      | refine linkExcl_keeps ?_ | refine vnote_keeps ?_ | refine vreadMarked_keeps ?_ | refine keeps_ite ?_ ?_
      | refine keeps_ite1 ?_ ?_ | refine keeps_foldl (fun _ _ _ => ?_) ?_ | refine keeps_forUp (fun _ _ _ => ?_) ?_
      | refine keeps_fold1 (fun _ _ _ => ?_) ?_ | refine keeps_foldRead (fun _ _ _ => ?_) ?_
      | refine keeps_foldMap (fun _ _ _ => ?_) ?_ | refine keeps_foldAcc (fun _ _ _ => ?_) ?_
      | refine keeps_foldWr (fun _ _ _ => ?_) ?_ | refine keeps_forUpWr (fun _ _ _ => ?_) ?_
      | refine keeps_foldAcc1 (fun _ _ _ => ?_) ?_
    | split | intro _ | dsimp only | fail_if_no_progress (with_reducible refine keeps_up ?_ rfl rfl rfl rfl rfl)
    | fail_if_no_progress (with_reducible refine keeps_mk ?_ id rfl rfl (Nat.le_add_right _ _) (Nat.le_refl _))
    | fail_if_no_progress (with_reducible refine keeps_mk ?_ (wf_filter _) rfl rfl (Nat.le_refl _) (Nat.le_refl _))
    | fail_if_no_progress (with_reducible refine keeps_mk ?_ (wf_cellsSet _ _) rfl rfl (Nat.le_refl _) (Nat.le_refl _))
    | fail_if_no_progress (with_reducible refine keeps_mk ?_ (fun _ => rfl) rfl rfl (Nat.le_refl _) (Nat.le_refl _))

theorem collAcks_keeps {s0 : State} {s : State} {ref : CmdRef} (h0 : Keeps s0 s) : Keeps s0 (collAcks s ref) := by
  unfold collAcks
  repeat' first
    | with_reducible first
      | assumption | refine sendCollCtl_keeps ?_ | refine setColl_keeps ?_ | refine keeps_foldl (fun _ _ _ => ?_) ?_
    | split

theorem ringBlock_keeps {s0 : State} {s : State} {ref : CmdRef} {r : Rec} {b : Nat} (h0 : Keeps s0 s) : Keeps s0 (ringBlock s ref r b) := by
  unfold ringBlock
  repeat' first
    | with_reducible first
      | assumption | refine State_setFence_keeps ?_ | refine putSegs_keeps ?_ | refine setColl_keeps ?_
    | split

theorem ringRun_keeps {s0 : State} {s : State} {ref : CmdRef} {r : Rec} (h0 : Keeps s0 s) : Keeps s0 (ringRun s ref r) := by
  unfold ringRun
  repeat' first
    | with_reducible first
      | assumption | refine ringBlock_keeps ?_ | refine setColl_keeps ?_ | refine keeps_forUp (fun _ _ _ => ?_) ?_
    | split | dsimp only

theorem collPhase2_keeps {s0 : State} {s : State} {r : Rec} {c : Coll} (h0 : Keeps s0 s) : Keeps s0 (collPhase2 s r c) :=
  keeps_up h0 rfl rfl rfl rfl rfl

theorem handRuns_keeps {s0 : State} {s : State} {c : Coll} {w : Nat} {data : Marked} (h0 : Keeps s0 s) : Keeps s0 (handRuns s c w data) := by
  unfold handRuns
  repeat' first
    | with_reducible first
      | assumption | refine keeps_ite ?_ ?_ | refine keeps_forUp (fun _ _ _ => ?_) ?_
    | fail_if_no_progress (with_reducible refine keeps_up ?_ rfl rfl rfl rfl rfl)

theorem collCommit_keeps {s0 : State} {s : State} {r : Rec} {c : Coll} (h0 : Keeps s0 s) : Keeps s0 (collCommit s r c) := by
  unfold collCommit
  repeat' first
    | with_reducible first
      | assumption | refine commitEntry_keeps ?_ | refine keeps_forUp (fun _ _ _ => ?_) ?_

theorem staleShares_keeps {s0 : State} {s : State} {r : Rec} {c : Coll} (h0 : Keeps s0 s) : Keeps s0 (staleShares s r c) := by
  unfold staleShares
  repeat' first
    | with_reducible first
      | assumption | refine freeResult_keeps ?_ | refine keeps_foldl (fun _ _ _ => ?_) ?_

theorem collWrite_keeps {s0 : State} {s : State} {r : Rec} {c : Coll} (h0 : Keeps s0 s) : Keeps s0 (collWrite s r c) := by
  unfold collWrite
  repeat' first
    | with_reducible first
      | assumption | refine collCommit_keeps ?_ | refine handRuns_keeps ?_ | refine putSegs_keeps ?_
      | refine setColl_keeps ?_ | refine staleShares_keeps ?_ | refine keeps_ite ?_ ?_
      | refine keeps_foldl (fun _ _ _ => ?_) ?_

theorem collDone_keeps {s0 : State} {s : State} {ref : CmdRef} (h0 : Keeps s0 s) : Keeps s0 (collDone s ref) := by
  unfold collDone
  repeat' first
    | with_reducible first
      | assumption | refine ceCtr_keeps ?_ | refine complete_keeps ?_
    | split | fail_if_no_progress (with_reducible refine keeps_up ?_ rfl rfl rfl rfl rfl)

theorem collStep_keeps {s0 : State} {s : State} {ref : CmdRef} (h0 : Keeps s0 s) : Keeps s0 (collStep s ref) := by
  unfold collStep
  repeat' first
    | with_reducible first
      | assumption | refine collAcks_keeps ?_ | refine collDone_keeps ?_ | refine collPhase2_keeps ?_
      | refine collWrite_keeps ?_ | refine ringRun_keeps ?_ | refine sendDirect_keeps ?_
    | split

theorem versionMiss_keeps {s0 : State} {s : State} {c : Coll} {x : RecvC} (h0 : Keeps s0 s) : Keeps s0 (versionMiss s c x) := by
  unfold versionMiss
  repeat' first
    | with_reducible first
      | assumption | refine ceCtr_keeps ?_ | refine sendCollCtl_keeps ?_ | refine setColl_keeps ?_
      | refine keeps_ite ?_ ?_

theorem collFlit_keeps {s0 : State} {s : State} {c : Coll} {full : Bool} {f : SFlit} (h0 : Keeps s0 s) : Keeps s0 (collFlit s c full f) := by
  unfold collFlit
  repeat' first
    | with_reducible first
      | assumption | refine ceCtr_keeps ?_ | refine collStep_keeps ?_ | refine sendAbort_keeps ?_
      | refine setColl_keeps ?_ | refine versionMiss_keeps ?_
    | split

theorem flitIn_keeps {s0 : State} {s : State} {gid : Nat} {dev : Option Nat} {full : Bool} {f : SFlit} (h0 : Keeps s0 s) : Keeps s0 (flitIn s gid dev full f) := by
  unfold flitIn
  repeat' first
    | with_reducible first
      | assumption | refine ceCtr_keeps ?_ | refine collFlit_keeps ?_ | refine keeps_ite ?_ ?_
    | split | fail_if_no_progress (with_reducible refine keeps_up ?_ rfl rfl rfl rfl rfl)

theorem collBegin_keeps {s0 : State} {s : State} {c : CmdRef} (h0 : Keeps s0 s) : Keeps s0 (collBegin s c) := by
  unfold collBegin
  repeat' first
    | with_reducible first
      | assumption | refine State_setQueue_keeps ?_ | refine collFail_keeps ?_ | refine collFlit_keeps ?_
      | refine collPlan_keeps ?_ | refine collStep_keeps ?_ | refine setRecSt_keeps ?_ | refine sramSweep_keeps ?_
      | refine keeps_foldl (fun _ _ _ => ?_) ?_
    | split | dsimp only | fail_if_no_progress (with_reducible refine keeps_up ?_ rfl rfl rfl rfl rfl)

theorem gatherNow_keeps {s0 : State} {s : State} {c : Coll} {r : Rec} (h0 : Keeps s0 s) : Keeps s0 (gatherNow s c r) := by
  unfold gatherNow
  repeat' first
    | with_reducible first
      | assumption | refine collStep_keeps ?_ | refine gatherRead_keeps ?_ | refine setColl_keeps ?_
      | refine sramSweep_keeps ?_ | refine keeps_ite ?_ ?_ | refine keeps_ite1 ?_ ?_
      | refine keeps_foldl (fun _ _ _ => ?_) ?_ | refine keeps_forUp (fun _ _ _ => ?_) ?_
      | refine keeps_fold1 (fun _ _ _ => ?_) ?_ | refine keeps_foldRead (fun _ _ _ => ?_) ?_
      | refine keeps_foldMap (fun _ _ _ => ?_) ?_ | refine keeps_foldAcc (fun _ _ _ => ?_) ?_
      | refine keeps_foldWr (fun _ _ _ => ?_) ?_ | refine keeps_forUpWr (fun _ _ _ => ?_) ?_
      | refine keeps_foldAcc1 (fun _ _ _ => ?_) ?_
    | split | intro _ | dsimp only | fail_if_no_progress (with_reducible refine keeps_up ?_ rfl rfl rfl rfl rfl)
    | fail_if_no_progress (with_reducible refine keeps_mk ?_ id rfl rfl (Nat.le_add_right _ _) (Nat.le_refl _))
    | fail_if_no_progress (with_reducible refine keeps_mk ?_ (wf_filter _) rfl rfl (Nat.le_refl _) (Nat.le_refl _))
    | fail_if_no_progress (with_reducible refine keeps_mk ?_ (wf_cellsSet _ _) rfl rfl (Nat.le_refl _) (Nat.le_refl _))
    | fail_if_no_progress (with_reducible refine keeps_mk ?_ (fun _ => rfl) rfl rfl (Nat.le_refl _) (Nat.le_refl _))

theorem reissueNow_keeps {s0 : State} {s : State} {c : Coll} {r : Rec} {y : SendC} (h0 : Keeps s0 s) : Keeps s0 (reissueNow s c r y) := by
  unfold reissueNow
  repeat' first
    | with_reducible first
      | assumption | refine ceCtr_keeps ?_ | refine gatherRead_keeps ?_ | refine sendColl_keeps ?_
      | refine setColl_keeps ?_ | refine sramSweep_keeps ?_ | refine keeps_forUp (fun _ _ _ => ?_) ?_

theorem reissueWaiting_keeps {s0 : State} {s : State} (h0 : Keeps s0 s) : Keeps s0 (reissueWaiting s) := by
  unfold reissueWaiting
  repeat' first
    | with_reducible first
      | assumption | refine gatherNow_keeps ?_ | refine reissueNow_keeps ?_ | refine keeps_ite ?_ ?_
      | refine keeps_ite1 ?_ ?_ | refine keeps_foldl (fun _ _ _ => ?_) ?_ | refine keeps_forUp (fun _ _ _ => ?_) ?_
      | refine keeps_fold1 (fun _ _ _ => ?_) ?_ | refine keeps_foldRead (fun _ _ _ => ?_) ?_
      | refine keeps_foldMap (fun _ _ _ => ?_) ?_ | refine keeps_foldAcc (fun _ _ _ => ?_) ?_
      | refine keeps_foldWr (fun _ _ _ => ?_) ?_ | refine keeps_forUpWr (fun _ _ _ => ?_) ?_
      | refine keeps_foldAcc1 (fun _ _ _ => ?_) ?_
    | split | intro _ | dsimp only | fail_if_no_progress (with_reducible refine keeps_up ?_ rfl rfl rfl rfl rfl)
    | fail_if_no_progress (with_reducible refine keeps_mk ?_ id rfl rfl (Nat.le_add_right _ _) (Nat.le_refl _))
    | fail_if_no_progress (with_reducible refine keeps_mk ?_ (wf_filter _) rfl rfl (Nat.le_refl _) (Nat.le_refl _))
    | fail_if_no_progress (with_reducible refine keeps_mk ?_ (wf_cellsSet _ _) rfl rfl (Nat.le_refl _) (Nat.le_refl _))
    | fail_if_no_progress (with_reducible refine keeps_mk ?_ (fun _ => rfl) rfl rfl (Nat.le_refl _) (Nat.le_refl _))

theorem collKick_keeps {s0 : State} {s : State} (h0 : Keeps s0 s) : Keeps s0 (collKick s) := by
  unfold collKick
  repeat' first
    | with_reducible first
      | assumption | refine collBegin_keeps ?_ | refine keeps_foldl (fun _ _ _ => ?_) ?_
      | refine keeps_forUp (fun _ _ _ => ?_) ?_ | refine reissueWaiting_keeps ?_
    | split | dsimp only | fail_if_no_progress (with_reducible refine keeps_up ?_ rfl rfl rfl rfl rfl)

theorem collRun_keeps {s0 : State} {s : State} {q : Nat} {n : Nat} {own : Nat → Bool} (h0 : Keeps s0 s) : Keeps s0 (collRun s q n own) := by
  unfold collRun
  repeat' first
    | with_reducible first
      | assumption | refine collFail_keeps ?_ | refine collKick_keeps ?_ | refine mapRec_keeps ?_
      | refine keeps_ite ?_ ?_
    | split | fail_if_no_progress (with_reducible refine keeps_up ?_ rfl rfl rfl rfl rfl)

theorem execReduceScatter_keeps {s0 : State} {q : Fin 64} {n : Nat} {s : State} (h0 : Keeps s0 s) : OutKeeps s0 (execReduceScatter q n s) := by
  unfold execReduceScatter
  repeat' first
    | with_reducible first
      | assumption | refine outKeeps_next ?_ | refine collRun_keeps ?_

theorem execAllGather_keeps {s0 : State} {q : Fin 64} {n : Nat} {s : State} (h0 : Keeps s0 s) : OutKeeps s0 (execAllGather q n s) := by
  unfold execAllGather
  repeat' first
    | with_reducible first
      | assumption | refine outKeeps_next ?_ | refine collRun_keeps ?_

theorem execAllReduce_keeps {s0 : State} {q : Fin 64} {n : Nat} {s : State} (h0 : Keeps s0 s) : OutKeeps s0 (execAllReduce q n s) := by
  unfold execAllReduce
  repeat' first
    | with_reducible first
      | assumption | refine outKeeps_next ?_ | refine collRun_keeps ?_

theorem execBroadcast_keeps {s0 : State} {q : Fin 64} {n : Nat} {s : State} (h0 : Keeps s0 s) : OutKeeps s0 (execBroadcast q n s) := by
  unfold execBroadcast
  repeat' first
    | with_reducible first
      | assumption | refine outKeeps_next ?_ | refine collRun_keeps ?_

theorem execAllToAll_keeps {s0 : State} {q : Fin 64} {n : Nat} {s : State} (h0 : Keeps s0 s) : OutKeeps s0 (execAllToAll q n s) := by
  unfold execAllToAll
  repeat' first
    | with_reducible first
      | assumption | refine outKeeps_next ?_ | refine collRun_keeps ?_

theorem execSeqRing_keeps {s0 : State} {q : Fin 64} {n : Nat} {s : State} (h0 : Keeps s0 s) : OutKeeps s0 (execSeqRing q n s) := by
  unfold execSeqRing
  repeat' first
    | with_reducible first
      | assumption | refine outKeeps_next ?_ | refine collRun_keeps ?_

theorem execAmaxMax_keeps {s0 : State} {q : Fin 64} {n : Nat} {s : State} (h0 : Keeps s0 s) : OutKeeps s0 (execAmaxMax q n s) := by
  unfold execAmaxMax
  repeat' first
    | with_reducible first
      | assumption | refine outKeeps_next ?_ | refine collRun_keeps ?_

theorem execParamGather_keeps {s0 : State} {q : Fin 64} {n : Nat} {s : State} (h0 : Keeps s0 s) : OutKeeps s0 (execParamGather q n s) := by
  unfold execParamGather
  repeat' first
    | with_reducible first
      | assumption | refine outKeeps_next ?_ | refine collRun_keeps ?_

theorem sendTransit_keeps {s0 : State} {s : State} {k : Nat} {j : Nat} {gid : Nat} {reserve : Bool} (h0 : Keeps s0 s) : Keeps s0 (sendTransit s k j gid reserve) := by
  unfold sendTransit
  repeat' first
    | with_reducible first
      | assumption | refine State_setPort_keeps ?_ | refine portCtr_keeps ?_
    | split | dsimp only | fail_if_no_progress (with_reducible refine keeps_up ?_ rfl rfl rfl rfl rfl)

theorem windowStep_keeps {s0 : State} {s : State} {k : Nat} {e : Nat} {gid : Nat} {reserve : Bool} (h0 : Keeps s0 s) : Keeps s0 (windowStep s k e gid reserve) := by
  unfold windowStep
  repeat' first
    | with_reducible first
      | assumption | refine sendS_keeps ?_ | refine sendTransit_keeps ?_ | refine keeps_ite ?_ ?_
    | split

theorem windowClose_keeps {s0 : State} {s : State} {k : Nat} {e : Nat} {gid : Nat} (h0 : Keeps s0 s) : Keeps s0 (windowClose s k e gid) := by
  unfold windowClose
  repeat' first
    | with_reducible first
      | assumption | refine State_setPort_keeps ?_ | refine setColl_keeps ?_ | refine keeps_ite ?_ ?_
      | refine keeps_ite1 ?_ ?_ | refine keeps_foldl (fun _ _ _ => ?_) ?_ | refine keeps_forUp (fun _ _ _ => ?_) ?_
      | refine keeps_fold1 (fun _ _ _ => ?_) ?_ | refine keeps_foldRead (fun _ _ _ => ?_) ?_
      | refine keeps_foldMap (fun _ _ _ => ?_) ?_ | refine keeps_foldAcc (fun _ _ _ => ?_) ?_
      | refine keeps_foldWr (fun _ _ _ => ?_) ?_ | refine keeps_forUpWr (fun _ _ _ => ?_) ?_
      | refine keeps_foldAcc1 (fun _ _ _ => ?_) ?_
    | split | intro _ | dsimp only | fail_if_no_progress (with_reducible refine keeps_up ?_ rfl rfl rfl rfl rfl)
    | fail_if_no_progress (with_reducible refine keeps_mk ?_ id rfl rfl (Nat.le_add_right _ _) (Nat.le_refl _))
    | fail_if_no_progress (with_reducible refine keeps_mk ?_ (wf_filter _) rfl rfl (Nat.le_refl _) (Nat.le_refl _))
    | fail_if_no_progress (with_reducible refine keeps_mk ?_ (wf_cellsSet _ _) rfl rfl (Nat.le_refl _) (Nat.le_refl _))
    | fail_if_no_progress (with_reducible refine keeps_mk ?_ (fun _ => rfl) rfl rfl (Nat.le_refl _) (Nat.le_refl _))

theorem windowRun_keeps {s0 : State} {s : State} {k : Nat} {e : Nat} {n : Nat} {reserve : Bool} (h0 : Keeps s0 s) : Keeps s0 (windowRun s k e n reserve) := by
  unfold windowRun
  repeat' first
    | with_reducible first
      | assumption | refine State_setPort_keeps ?_ | refine windowClose_keeps ?_ | refine windowStep_keeps ?_
      | refine keeps_forUp (fun _ _ _ => ?_) ?_
    | split

theorem slotMiss_keeps {s0 : State} {s : State} {i : Nat} (h0 : Keeps s0 s) : Keeps s0 (slotMiss s i) := by
  unfold slotMiss
  repeat' first
    | with_reducible first
      | assumption | refine setColl_keeps ?_
    | split

theorem execSWindowOpen_keeps {s0 : State} {k : Fin 64} {e : Fin 256} {n : Nat} {s : State} (h0 : Keeps s0 s) : OutKeeps s0 (execSWindowOpen k e n s) := by
  unfold execSWindowOpen
  repeat' first
    | with_reducible first
      | assumption | refine outKeeps_next ?_ | refine windowRun_keeps ?_

theorem execSSlotMiss_keeps {s0 : State} {i : Nat} {s : State} (h0 : Keeps s0 s) : OutKeeps s0 (execSSlotMiss i s) := by
  unfold execSSlotMiss
  repeat' first
    | with_reducible first
      | assumption | refine outKeeps_next ?_ | refine slotMiss_keeps ?_

theorem execReserveWindow_keeps {s0 : State} {k : Fin 64} {e : Fin 256} {n : Nat} {s : State} (h0 : Keeps s0 s) : OutKeeps s0 (execReserveWindow k e n s) := by
  unfold execReserveWindow
  repeat' first
    | with_reducible first
      | assumption | refine outKeeps_next ?_ | refine windowRun_keeps ?_

theorem sReceive_keeps {s0 : State} {s : State} {k : Nat} {f : SFlit} {full : Bool} (h0 : Keeps s0 s) : Keeps s0 (sReceive s k f full) := by
  unfold sReceive
  repeat' first
    | with_reducible first
      | assumption | refine State_setPort_keeps ?_ | refine collKick_keeps ?_ | refine flitIn_keeps ?_
      | refine portCtr_keeps ?_ | refine keeps_ite ?_ ?_ | refine keeps_ite1 ?_ ?_
      | refine keeps_foldl (fun _ _ _ => ?_) ?_ | refine keeps_forUp (fun _ _ _ => ?_) ?_
      | refine keeps_fold1 (fun _ _ _ => ?_) ?_ | refine keeps_foldRead (fun _ _ _ => ?_) ?_
      | refine keeps_foldMap (fun _ _ _ => ?_) ?_ | refine keeps_foldAcc (fun _ _ _ => ?_) ?_
      | refine keeps_foldWr (fun _ _ _ => ?_) ?_ | refine keeps_forUpWr (fun _ _ _ => ?_) ?_
      | refine keeps_foldAcc1 (fun _ _ _ => ?_) ?_
    | split | intro _ | dsimp only | fail_if_no_progress (with_reducible refine keeps_up ?_ rfl rfl rfl rfl rfl)
    | fail_if_no_progress (with_reducible refine keeps_mk ?_ id rfl rfl (Nat.le_add_right _ _) (Nat.le_refl _))
    | fail_if_no_progress (with_reducible refine keeps_mk ?_ (wf_filter _) rfl rfl (Nat.le_refl _) (Nat.le_refl _))
    | fail_if_no_progress (with_reducible refine keeps_mk ?_ (wf_cellsSet _ _) rfl rfl (Nat.le_refl _) (Nat.le_refl _))
    | fail_if_no_progress (with_reducible refine keeps_mk ?_ (fun _ => rfl) rfl rfl (Nat.le_refl _) (Nat.le_refl _))

theorem collReceive_keeps {s0 : State} {s : State} {k : Nat} {p : Packet} {full : Bool} (h0 : Keeps s0 s) : Keeps s0 (collReceive s k p full) := by
  unfold collReceive
  repeat' first
    | with_reducible first
      | assumption | refine collKick_keeps ?_ | refine flitIn_keeps ?_ | refine received_keeps ?_ ?_
      | refine keeps_ite ?_ ?_ | refine keeps_ite1 ?_ ?_ | refine keeps_foldl (fun _ _ _ => ?_) ?_
      | refine keeps_forUp (fun _ _ _ => ?_) ?_ | refine keeps_fold1 (fun _ _ _ => ?_) ?_
      | refine keeps_foldRead (fun _ _ _ => ?_) ?_ | refine keeps_foldMap (fun _ _ _ => ?_) ?_
      | refine keeps_foldAcc (fun _ _ _ => ?_) ?_ | refine keeps_foldWr (fun _ _ _ => ?_) ?_
      | refine keeps_forUpWr (fun _ _ _ => ?_) ?_ | refine keeps_foldAcc1 (fun _ _ _ => ?_) ?_
    | split | intro _ | dsimp only | fail_if_no_progress (with_reducible refine keeps_up ?_ rfl rfl rfl rfl rfl)
    | fail_if_no_progress (with_reducible refine keeps_mk ?_ id rfl rfl (Nat.le_add_right _ _) (Nat.le_refl _))
    | fail_if_no_progress (with_reducible refine keeps_mk ?_ (wf_filter _) rfl rfl (Nat.le_refl _) (Nat.le_refl _))
    | fail_if_no_progress (with_reducible refine keeps_mk ?_ (wf_cellsSet _ _) rfl rfl (Nat.le_refl _) (Nat.le_refl _))
    | fail_if_no_progress (with_reducible refine keeps_mk ?_ (fun _ => rfl) rfl rfl (Nat.le_refl _) (Nat.le_refl _))

theorem ctlColl_keeps {s0 : State} {s : State} {p : Packet} {x : CollCtl} (h0 : Keeps s0 s) : Keeps s0 (ctlColl s p x).1 := by
  unfold ctlColl
  repeat' first
    | with_reducible first
      | assumption | refine ceCtr_keeps ?_
    | split

theorem ctlReceive_keeps {s0 s : State} {k : Nat} {p : Packet} {own : Nat → Bool} {f : State → Coll → CollCtl → State}
    (h0 : Keeps s0 s) (h1 : ∀ t c x, Keeps s0 t → Keeps s0 (f t c x)) : Keeps s0 (ctlReceive s k p own f) := by
  unfold ctlReceive
  split
  · exact h0
  · rename_i x _
    refine keeps_ite h0 (received_keeps h0 fun t ht => keeps_ite ht ?_)
    have hc := ctlColl_keeps (p := p) (x := x) ht
    split
    · rename_i e; rw [e] at hc; exact hc
    · rename_i e; rw [e] at hc; exact collKick_keeps (h1 _ _ _ hc)

theorem resend_keeps {s0 : State} {s : State} {c : Coll} {x : CollCtl} (h0 : Keeps s0 s) : Keeps s0 (resend s c x) := by
  unfold resend
  repeat' first
    | with_reducible first
      | assumption | refine ceCtr_keeps ?_ | refine sendColl_keeps ?_ | refine keeps_forUp (fun _ _ _ => ?_) ?_
    | split

theorem ackIn_keeps {s0 : State} {s : State} {c : Coll} {x : CollCtl} (h0 : Keeps s0 s) : Keeps s0 (ackIn s c x) := by
  unfold ackIn
  repeat' first
    | with_reducible first
      | assumption | refine collStep_keeps ?_ | refine setColl_keeps ?_
    | split

theorem reissueIn_keeps {s0 : State} {s : State} {c : Coll} {x : CollCtl} (h0 : Keeps s0 s) : Keeps s0 (reissueIn s c x) := by
  unfold reissueIn
  repeat' first
    | with_reducible first
      | assumption | refine setColl_keeps ?_ | refine reissueNow_keeps ?_ | refine keeps_ite ?_ ?_
    | split

theorem execSFlitReceive_keeps {s0 : State} {k : Fin 64} {f : SFlit} {full : Bool} {s : State} (h0 : Keeps s0 s) : OutKeeps s0 (execSFlitReceive k f full s) := by
  unfold execSFlitReceive
  repeat' first
    | with_reducible first
      | assumption | refine outKeeps_next ?_ | refine sReceive_keeps ?_

theorem execColl_keeps {s0 : State} {k : Fin 64} {p : Packet} {full : Bool} {s : State} (h0 : Keeps s0 s) : OutKeeps s0 (execColl k p full s) := by
  unfold execColl
  repeat' first
    | with_reducible first
      | assumption | refine outKeeps_next ?_ | refine collReceive_keeps ?_

theorem execResend_keeps {s0 : State} {k : Fin 64} {p : Packet} {s : State} (h0 : Keeps s0 s) : OutKeeps s0 (execResend k p s) := by
  unfold execResend
  repeat' first
    | with_reducible first
      | assumption | refine outKeeps_next ?_ | refine ctlReceive_keeps ?_ ?_ | refine resend_keeps ?_
    | intro _

theorem execAck_keeps {s0 : State} {k : Fin 64} {p : Packet} {s : State} (h0 : Keeps s0 s) : OutKeeps s0 (execAck k p s) := by
  unfold execAck
  repeat' first
    | with_reducible first
      | assumption | refine outKeeps_next ?_ | refine ackIn_keeps ?_ | refine ctlReceive_keeps ?_ ?_
    | intro _

theorem execReissue_keeps {s0 : State} {k : Fin 64} {p : Packet} {s : State} (h0 : Keeps s0 s) : OutKeeps s0 (execReissue k p s) := by
  unfold execReissue
  repeat' first
    | with_reducible first
      | assumption | refine outKeeps_next ?_ | refine ctlReceive_keeps ?_ ?_ | refine reissueIn_keeps ?_
    | intro _

theorem collResends_keeps {s0 : State} {s : State} {c : Coll} (h0 : Keeps s0 s) : Keeps s0 (collResends s c) := by
  unfold collResends
  repeat' first
    | with_reducible first
      | assumption | refine ceCtr_keeps ?_ | refine sendCollCtl_keeps ?_ | refine keeps_foldl (fun _ _ _ => ?_) ?_
    | split

theorem holdPoint_keeps {s0 : State} {s : State} {q : Nat} (h0 : Keeps s0 s) : Keeps s0 (holdPoint s q) := by
  unfold holdPoint
  repeat' first
    | with_reducible first
      | assumption | refine ceCtr_keeps ?_ | refine collResends_keeps ?_ | refine forwardGroup_keeps ?_
      | refine markHold_keeps ?_ | refine raiseOverrun_keeps ?_ | refine requestHold_keeps ?_
      | refine keeps_foldl (fun _ _ _ => ?_) ?_
    | split | dsimp only

theorem execOverrun_keeps {s0 : State} {q : Fin 64} {s : State} (h0 : Keeps s0 s) : OutKeeps s0 (execOverrun q s) := by
  unfold execOverrun
  repeat' first
    | with_reducible first
      | assumption | refine outKeeps_next ?_ | refine holdPoint_keeps ?_

end Sys2Proof.Machine
end

