-- ==== Sys2Proof/Laws/KeepsTick.lean ====
section
/-!
SUPPORT. The preservation lemmas of the tick, registers and Heron.
-/
namespace Sys2Proof.Machine

theorem veKick_keeps {s0 : State} {s : State} {p : Nat} (h0 : Keeps s0 s) : Keeps s0 (veKick s p) := by
  unfold veKick
  repeat' first
    | with_reducible first
      | assumption | refine setRecSt_keeps ?_ | refine setVe_keeps ?_ | refine keeps_ite ?_ ?_
    | split

theorem veFinish_keeps {s0 : State} {s : State} {p : Nat} {st : Nat} {final : VeSt} {bad : Bool} (h0 : Keeps s0 s) : Keeps s0 (veFinish s p st final bad) := by
  unfold veFinish
  repeat' first
    | with_reducible first
      | assumption | refine complete_keeps ?_ | refine setVe_keeps ?_ | refine veKick_keeps ?_
    | split | dsimp only

theorem veCount_keeps {s0 : State} {s : State} {p : Nat} {w : VeWaits} {branch : Nat} (h0 : Keeps s0 s) : Keeps s0 (veCount s p w branch) := by
  unfold veCount
  repeat' first
    | with_reducible first
      | assumption | refine coreCtr_keeps ?_ | refine setVe_keeps ?_

theorem vePc_keeps {s0 : State} {s : State} {p : Nat} {n : Int} (h0 : Keeps s0 s) : Keeps s0 (vePc s p n) :=
  keeps_up h0 rfl rfl rfl rfl rfl

theorem veApply_keeps {s0 : State} {p : Nat} {w : VeWaits} {e : VeEff} (h : EffKeeps s0 e) : Keeps s0 (veApply p w e) := by
  cases e with
  | ok s => exact vePc_keeps (veCount_keeps h)
  | jump s n => exact vePc_keeps (veCount_keeps h)
  | fin s => exact veFinish_keeps (veCount_keeps h)
  | stop s st => exact veFinish_keeps (veCount_keeps h)
  | wait s => exact setVe_keeps (coreCtr_keeps (coreCtr_keeps h))

theorem veParity_keeps {s0 : State} {s : State} {p : Nat} (h0 : Keeps s0 s) : Keeps s0 (veParity s p) := by
  unfold veParity
  repeat' first
    | with_reducible first
      | assumption | refine State_setCore_keeps ?_ | refine parityHalt_keeps ?_

theorem veRun_keeps {s0 s : State} {p : Nat} {w : VeWaits} {own : VI → Bool} {body : VeBody} (h0 : Keeps s0 s)
    (h1 : BodyKeeps body) : Keeps s0 (veRun p w own body s) := by
  unfold veRun
  split
  · exact h0
  · split
    · exact h0
    · dsimp only
      split
      · exact h0
      · split
        · exact veParity_keeps h0
        · exact sramSweep_keeps (veApply_keeps (h1 _ _ _ _ h0))

theorem veIllegal_keeps {s0 : State} {p : Nat} {w : VeWaits} {s : State} (h0 : Keeps s0 s) : Keeps s0 (veIllegal p w s) := by
  unfold veIllegal
  repeat' first
    | with_reducible first
      | assumption | refine loadUnits_keeps ?_ | refine sramSweep_keeps ?_ | refine veCount_keeps ?_
      | refine veFinish_keeps ?_ | refine veParity_keeps ?_ | refine keeps_ite ?_ ?_

theorem veStep_keeps {s0 : State} {p : Fin 256} {w : VeWaits} {cls : Nat} {fn : Nat} {body : VeBody} {s : State} (h0 : Keeps s0 s) (h1 : BodyKeeps body) : OutKeeps s0 (veStep p w cls fn body s) := by
  unfold veStep
  repeat' first
    | with_reducible first
      | assumption | refine outKeeps_next ?_ | refine veRun_keeps ?_ ?_

theorem veProgRun_keeps {s0 : State} {s : State} {q : Nat} {n : Nat} (h0 : Keeps s0 s) : Keeps s0 (veProgRun s q n) := by
  unfold veProgRun
  repeat' first
    | with_reducible first
      | assumption | refine checked_keeps ?_ ?_ | refine dispatch_keeps ?_ ?_ | refine setRecSt_keeps ?_
      | refine setVe_keeps ?_ | refine veKick_keeps ?_
    | intro _

theorem scrubAt_keeps {s0 : State} {s : State} {a : Nat} {found : Nat} (h0 : Keeps s0 s) : Keeps s0 (scrubAt s a found) := by
  unfold scrubAt
  repeat' first
    | with_reducible first
      | assumption | refine coreCtr_keeps ?_ | refine detectUnit_keeps ?_ | refine sramSweep_keeps ?_
      | refine keeps_ite ?_ ?_
    | fail_if_no_progress (with_reducible refine keeps_up ?_ rfl rfl rfl rfl rfl)

theorem execVeProg_keeps {s0 : State} {q : Fin 64} {n : Nat} {s : State} (h0 : Keeps s0 s) : OutKeeps s0 (execVeProg q n s) := by
  unfold execVeProg
  repeat' first
    | with_reducible first
      | assumption | refine outKeeps_next ?_ | refine veProgRun_keeps ?_

theorem execScrub_keeps {s0 : State} {a : Nat} {found : Fin 3} {s : State} (h0 : Keeps s0 s) : OutKeeps s0 (execScrub a found s) := by
  unfold execScrub
  repeat' first
    | with_reducible first
      | assumption | refine outKeeps_next ?_ | refine scrubAt_keeps ?_

theorem closeAt_keeps {s0 : State} {s : State} {tk : Nat} {q : Nat} (h0 : Keeps s0 s) : Keeps s0 (closeAt s tk q) := by
  unfold closeAt
  repeat' first
    | with_reducible first
      | assumption | refine State_setQueue_keeps ?_ | refine raiseOverrun_keeps ?_
    | split | dsimp only

theorem holdAt_keeps {s0 : State} {s : State} {tk : Nat} (h0 : Keeps s0 s) : Keeps s0 (holdAt s tk) := by
  unfold holdAt
  repeat' first
    | with_reducible first
      | assumption | refine State_setGroup_keeps ?_ | refine queueCtr_keeps ?_ | refine tickCtr_keeps ?_
      | refine keeps_ite ?_ ?_ | refine keeps_foldl (fun _ _ _ => ?_) ?_
    | split

theorem countAt_keeps {s0 : State} {s : State} {tk : Nat} (h0 : Keeps s0 s) : Keeps s0 (countAt s tk) :=
  keeps_up h0 rfl rfl rfl rfl rfl

theorem partReset_keeps {s0 : State} {s : State} {n : Nat} (h0 : Keeps s0 s) : Keeps s0 (partReset s n) := by
  unfold partReset
  repeat' first
    | with_reducible first
      | assumption | refine abortOf_keeps ?_ | refine bringCtr_keeps ?_ | refine haltCore_keeps ?_
      | refine stopQueue_keeps ?_ | refine keeps_ite ?_ ?_ | refine keeps_foldl (fun _ _ _ => ?_) ?_
    | fail_if_no_progress (with_reducible refine keeps_up ?_ rfl rfl rfl rfl rfl)

theorem partClusters_keeps {s0 : State} {s : State} {n : Nat} (h0 : Keeps s0 s) : Keeps s0 (partClusters s n) := by
  unfold partClusters
  repeat' first
    | with_reducible first
      | assumption | refine resetCluster_keeps ?_ | refine keeps_ite ?_ ?_ | refine keeps_foldl (fun _ _ _ => ?_) ?_
    | fail_if_no_progress (with_reducible refine keeps_up ?_ rfl rfl rfl rfl rfl)

theorem applyReset_keeps {s0 : State} {s : State} {r : ScopeReq} (h0 : Keeps s0 s) : Keeps s0 (applyReset s r) := by
  unfold applyReset
  repeat' first
    | with_reducible first
      | assumption | refine partReset_keeps ?_ | refine resetCluster_keeps ?_ | refine resetCore_keeps ?_
    | split

theorem applyFence_keeps {s0 : State} {s : State} {r : ScopeReq} (h0 : Keeps s0 s) : Keeps s0 (applyFence s r) := by
  unfold applyFence
  repeat' first
    | with_reducible first
      | assumption | refine fenceCore_keeps ?_ | refine keeps_foldl (fun _ _ _ => ?_) ?_
    | split

theorem hostRequests_keeps {s0 : State} {s : State} (h0 : Keeps s0 s) : Keeps s0 (hostRequests s) := by
  unfold hostRequests
  repeat' first
    | with_reducible first
      | assumption | refine applyFence_keeps ?_ | refine applyReset_keeps ?_
      | refine keeps_foldl (fun _ _ _ => ?_) ?_
    | fail_if_no_progress (with_reducible refine keeps_up ?_ rfl rfl rfl rfl rfl)

theorem movePart_keeps {s0 : State} {s : State} {r : Nat} {v : Nat} (h0 : Keeps s0 s) : Keeps s0 (movePart s r v) := by
  unfold movePart
  repeat' first
    | with_reducible first
      | assumption | refine writeIgnored_keeps ?_ | refine keeps_ite ?_ ?_ | refine keeps_foldl (fun _ _ _ => ?_) ?_
    | fail_if_no_progress (with_reducible refine keeps_up ?_ rfl rfl rfl rfl rfl)

theorem moveFence_keeps {s0 : State} {s : State} {i : Nat} {v : Nat} (h0 : Keeps s0 s) : Keeps s0 (moveFence s i v) := by
  unfold moveFence
  repeat' first
    | with_reducible first
      | assumption | refine State_setFence_keeps ?_ | refine keeps_forUp (fun _ _ _ => ?_) ?_

theorem applySlot_keeps {s0 : State} {s : State} {o : Nat} {v : W64} (h0 : Keeps s0 s) : Keeps s0 (applySlot s o v) :=
  keeps_up h0 rfl rfl rfl rfl rfl

theorem schedApply_keeps {s0 : State} {s : State} {k : Nat} (h0 : Keeps s0 s) : Keeps s0 (schedApply s k) := by
  unfold schedApply
  repeat' first
    | with_reducible first
      | assumption | refine State_setPort_keeps ?_ | refine writeIgnored_keeps ?_ | refine keeps_ite ?_ ?_
      | refine keeps_foldl (fun _ _ _ => ?_) ?_

theorem periodApply_keeps {s0 : State} {s : State} {tk : Nat} {sel : Nat} (h0 : Keeps s0 s) : Keeps s0 (periodApply s tk sel) := by
  unfold periodApply
  repeat' first
    | with_reducible first
      | assumption | refine stopQueue_keeps ?_ | refine keeps_ite ?_ ?_ | refine keeps_foldl (fun _ _ _ => ?_) ?_
    | fail_if_no_progress (with_reducible refine keeps_up ?_ rfl rfl rfl rfl rfl)

theorem measureAt_keeps {s0 : State} {s : State} {idle : Bool} {m : SlotMeasure} (h0 : Keeps s0 s) : Keeps s0 (measureAt s idle m) := by
  unfold measureAt
  repeat' first
    | with_reducible first
      | assumption | refine keeps_ite ?_ ?_
    | fail_if_no_progress (with_reducible refine keeps_up ?_ rfl rfl rfl rfl rfl)

theorem ctrlAt_keeps {s0 : State} {s : State} (h0 : Keeps s0 s) : Keeps s0 (ctrlAt s) := by
  unfold ctrlAt
  repeat' first
    | with_reducible first
      | assumption | refine withLimit_keeps ?_
    | split

theorem mapsAt_keeps {s0 : State} {s : State} (h0 : Keeps s0 s) : Keeps s0 (mapsAt s) := by
  unfold mapsAt
  repeat' first
    | with_reducible first
      | assumption | refine moveFence_keeps ?_ | refine movePart_keeps ?_ | refine keeps_foldl (fun _ _ _ => ?_) ?_
    | fail_if_no_progress (with_reducible refine keeps_up ?_ rfl rfl rfl rfl rfl)

theorem tablesAt_keeps {s0 : State} {s : State} (h0 : Keeps s0 s) : Keeps s0 (tablesAt s) := by
  unfold tablesAt
  repeat' first
    | with_reducible first
      | assumption | refine applySlot_keeps ?_ | refine schedApply_keeps ?_ | refine tablesApply_keeps ?_
      | refine keeps_foldl (fun _ _ _ => ?_) ?_ | refine keeps_forUp (fun _ _ _ => ?_) ?_
    | fail_if_no_progress (with_reducible refine keeps_up ?_ rfl rfl rfl rfl rfl)

theorem periodAt_keeps {s0 : State} {s : State} {tk : Nat} (h0 : Keeps s0 s) : Keeps s0 (periodAt s tk) := by
  unfold periodAt
  repeat' first
    | with_reducible first
      | assumption | refine periodApply_keeps ?_
    | split | fail_if_no_progress (with_reducible refine keeps_up ?_ rfl rfl rfl rfl rfl)

theorem masterAt_keeps {s0 : State} {s : State} (h0 : Keeps s0 s) : Keeps s0 (masterAt s) := by
  unfold masterAt
  repeat' first
    | with_reducible first
      | assumption | refine masterLost_keeps ?_ | refine passMaster_keeps ?_ | refine reelect_keeps ?_
      | refine keeps_ite ?_ ?_ | refine keeps_ite1 ?_ ?_ | refine keeps_foldl (fun _ _ _ => ?_) ?_
      | refine keeps_forUp (fun _ _ _ => ?_) ?_ | refine keeps_fold1 (fun _ _ _ => ?_) ?_
      | refine keeps_foldRead (fun _ _ _ => ?_) ?_ | refine keeps_foldMap (fun _ _ _ => ?_) ?_
      | refine keeps_foldAcc (fun _ _ _ => ?_) ?_ | refine keeps_foldWr (fun _ _ _ => ?_) ?_
      | refine keeps_forUpWr (fun _ _ _ => ?_) ?_ | refine keeps_foldAcc1 (fun _ _ _ => ?_) ?_
    | split | intro _ | dsimp only | fail_if_no_progress (with_reducible refine keeps_up ?_ rfl rfl rfl rfl rfl)
    | fail_if_no_progress (with_reducible refine keeps_mk ?_ id rfl rfl (Nat.le_add_right _ _) (Nat.le_refl _))
    | fail_if_no_progress (with_reducible refine keeps_mk ?_ (wf_filter _) rfl rfl (Nat.le_refl _) (Nat.le_refl _))
    | fail_if_no_progress (with_reducible refine keeps_mk ?_ (wf_cellsSet _ _) rfl rfl (Nat.le_refl _) (Nat.le_refl _))
    | fail_if_no_progress (with_reducible refine keeps_mk ?_ (fun _ => rfl) rfl rfl (Nat.le_refl _) (Nat.le_refl _))

theorem agtAt_keeps {s0 : State} {old : State} {s : State} (h0 : Keeps s0 old) (h1 : Keeps s0 s) : Keeps s0 (agtAt old s) := by
  unfold agtAt
  repeat' first
    | with_reducible first
      | assumption | refine agtUpdate_keeps ?_ | refine keeps_ite ?_ ?_

theorem powerAt_keeps {s0 : State} {s : State} {idle : Bool} {m : SlotMeasure} (h0 : Keeps s0 s) : Keeps s0 (powerAt s idle m) := by
  unfold powerAt
  repeat' first
    | with_reducible first
      | assumption | refine ctrlAt_keeps ?_ | refine measureAt_keeps ?_ | refine thermTick_keeps ?_
    | fail_if_no_progress (with_reducible refine keeps_up ?_ rfl rfl rfl rfl rfl)

theorem changesAt_keeps {s0 : State} {s : State} {tk : Nat} {idle : Bool} {m : SlotMeasure} (h0 : Keeps s0 s) : Keeps s0 (changesAt s tk idle m) := by
  unfold changesAt
  repeat' first
    | with_reducible first
      | assumption | refine agtAt_keeps ?_ ?_ | refine hostRequests_keeps ?_ | refine mapsAt_keeps ?_
      | refine masterAt_keeps ?_ | refine opSelect_keeps ?_ | refine periodAt_keeps ?_ | refine powerAt_keeps ?_
      | refine tablesAt_keeps ?_

theorem energyAt_keeps {s0 : State} {s : State} {op : Nat} {po : Tab Nat} {m : SlotMeasure} (h0 : Keeps s0 s) : Keeps s0 (energyAt s op po m) := by
  unfold energyAt
  repeat' first
    | with_reducible first
      | assumption | refine queueCtr_keeps ?_ | refine keeps_ite ?_ ?_ | refine keeps_ite1 ?_ ?_
      | refine keeps_foldl (fun _ _ _ => ?_) ?_ | refine keeps_forUp (fun _ _ _ => ?_) ?_
      | refine keeps_fold1 (fun _ _ _ => ?_) ?_ | refine keeps_foldRead (fun _ _ _ => ?_) ?_
      | refine keeps_foldMap (fun _ _ _ => ?_) ?_ | refine keeps_foldAcc (fun _ _ _ => ?_) ?_
      | refine keeps_foldWr (fun _ _ _ => ?_) ?_ | refine keeps_forUpWr (fun _ _ _ => ?_) ?_
      | refine keeps_foldAcc1 (fun _ _ _ => ?_) ?_
    | split | intro _ | dsimp only | fail_if_no_progress (with_reducible refine keeps_up ?_ rfl rfl rfl rfl rfl)
    | fail_if_no_progress (with_reducible refine keeps_mk ?_ id rfl rfl (Nat.le_add_right _ _) (Nat.le_refl _))
    | fail_if_no_progress (with_reducible refine keeps_mk ?_ (wf_filter _) rfl rfl (Nat.le_refl _) (Nat.le_refl _))
    | fail_if_no_progress (with_reducible refine keeps_mk ?_ (wf_cellsSet _ _) rfl rfl (Nat.le_refl _) (Nat.le_refl _))
    | fail_if_no_progress (with_reducible refine keeps_mk ?_ (fun _ => rfl) rfl rfl (Nat.le_refl _) (Nat.le_refl _))

theorem advance_keeps {s0 : State} {s : State} (h0 : Keeps s0 s) : Keeps s0 (advance s) :=
  keeps_up h0 rfl rfl rfl rfl rfl

theorem timeFlits_keeps {s0 : State} {s : State} (h0 : Keeps s0 s) : Keeps s0 (timeFlits s) := by
  unfold timeFlits
  repeat' first
    | with_reducible first
      | assumption | refine firstSeen_keeps ?_ | refine flood_keeps ?_ | refine sendCtl_keeps ?_
    | split | fail_if_no_progress (with_reducible refine keeps_up ?_ rfl rfl rfl rfl rfl)

theorem stepTime_keeps {s0 : State} {s : State} (h0 : Keeps s0 s) : Keeps s0 (stepTime s) := by
  unfold stepTime
  repeat' first
    | with_reducible first
      | assumption | refine keeps_ite ?_ ?_
    | fail_if_no_progress (with_reducible refine keeps_up ?_ rfl rfl rfl rfl rfl)

theorem portsAt_keeps {s0 : State} {s : State} (h0 : Keeps s0 s) : Keeps s0 (portsAt s) :=
  keeps_up h0 rfl rfl rfl rfl rfl

theorem sluiceTick_keeps {s0 : State} {s : State} {m : SlotMeasure} (h0 : Keeps s0 s) : Keeps s0 (sluiceTick s m) := by
  unfold sluiceTick
  repeat' first
    | with_reducible first
      | assumption | refine advance_keeps ?_ | refine changesAt_keeps ?_ | refine closeAt_keeps ?_
      | refine countAt_keeps ?_ | refine energyAt_keeps ?_ | refine holdAt_keeps ?_ | refine portsAt_keeps ?_
      | refine scaleWriteBack_keeps ?_ | refine sendAllDirect_keeps ?_ | refine startFrame_keeps ?_
      | refine stepTime_keeps ?_ | refine timeFlits_keeps ?_ | refine keeps_ite ?_ ?_ | refine keeps_ite1 ?_ ?_
      | refine keeps_foldl (fun _ _ _ => ?_) ?_ | refine keeps_forUp (fun _ _ _ => ?_) ?_
      | refine keeps_fold1 (fun _ _ _ => ?_) ?_ | refine keeps_foldRead (fun _ _ _ => ?_) ?_
      | refine keeps_foldMap (fun _ _ _ => ?_) ?_ | refine keeps_foldAcc (fun _ _ _ => ?_) ?_
      | refine keeps_foldWr (fun _ _ _ => ?_) ?_ | refine keeps_forUpWr (fun _ _ _ => ?_) ?_
      | refine keeps_foldAcc1 (fun _ _ _ => ?_) ?_
    | split | intro _ | dsimp only | fail_if_no_progress (with_reducible refine keeps_up ?_ rfl rfl rfl rfl rfl)
    | fail_if_no_progress (with_reducible refine keeps_mk ?_ id rfl rfl (Nat.le_add_right _ _) (Nat.le_refl _))
    | fail_if_no_progress (with_reducible refine keeps_mk ?_ (wf_filter _) rfl rfl (Nat.le_refl _) (Nat.le_refl _))
    | fail_if_no_progress (with_reducible refine keeps_mk ?_ (wf_cellsSet _ _) rfl rfl (Nat.le_refl _) (Nat.le_refl _))
    | fail_if_no_progress (with_reducible refine keeps_mk ?_ (fun _ => rfl) rfl rfl (Nat.le_refl _) (Nat.le_refl _))

theorem tickAtChange_keeps {s0 : State} {s : State} {due : Option (Nat × Nat)} {m : SlotMeasure} (h0 : Keeps s0 s) : Keeps s0 (tickAtChange s due m) := by
  unfold tickAtChange
  repeat' first
    | with_reducible first
      | assumption | refine sluiceTick_keeps ?_
    | split

theorem execSluiceTick_keeps {s0 : State} {m : SlotMeasure} {s : State} (h0 : Keeps s0 s) : OutKeeps s0 (execSluiceTick m s) := by
  unfold execSluiceTick
  repeat' first
    | with_reducible first
      | assumption | refine outKeeps_next ?_ | refine sluiceTick_keeps ?_

theorem execHintExpiry_keeps {s0 : State} {q : Fin 64} {s : State} (h0 : Keeps s0 s) : OutKeeps s0 (execHintExpiry q s) := by
  unfold execHintExpiry
  repeat' first
    | with_reducible first
      | assumption | refine outKeeps_next ?_
    | fail_if_no_progress (with_reducible refine keeps_up ?_ rfl rfl rfl rfl rfl)

theorem holdLimit_keeps {s0 : State} {s : State} {gid : Nat} (h0 : Keeps s0 s) : Keeps s0 (holdLimit s gid) := by
  unfold holdLimit
  repeat' first
    | with_reducible first
      | assumption | refine State_setGroup_keeps ?_ | refine completeSt_keeps ?_ | refine failUnstarted_keeps ?_
      | refine sendAbort_keeps ?_ | refine keeps_foldl (fun _ _ _ => ?_) ?_
    | split

theorem execHoldLimitAbort_keeps {s0 : State} {gid : Fin 65536} {s : State} (h0 : Keeps s0 s) : OutKeeps s0 (execHoldLimitAbort gid s) := by
  unfold execHoldLimitAbort
  repeat' first
    | with_reducible first
      | assumption | refine outKeeps_next ?_ | refine holdLimit_keeps ?_

theorem periodRequest_keeps {s0 : State} {s : State} {v : Nat} {dt : Nat} (h0 : Keeps s0 s) : Keeps s0 (periodRequest s v dt) := by
  unfold periodRequest
  repeat' first
    | with_reducible first
      | assumption | refine firstSeen_keeps ?_ | refine flood_keeps ?_ | refine writeIgnored_keeps ?_
      | refine keeps_ite ?_ ?_
    | fail_if_no_progress (with_reducible refine keeps_up ?_ rfl rfl rfl rfl rfl)

theorem execPeriodRequest_keeps {s0 : State} {v : W64} {dt : Nat} {s : State} (h0 : Keeps s0 s) : OutKeeps s0 (execPeriodRequest v dt s) := by
  unfold execPeriodRequest
  repeat' first
    | with_reducible first
      | assumption | refine outKeeps_next ?_ | refine periodRequest_keeps ?_ | refine pfAccess_keeps ?_ ?_

theorem execPeriodChange_keeps {s0 : State} {m : SlotMeasure} {s : State} (h0 : Keeps s0 s) : OutKeeps s0 (execPeriodChange m s) := by
  unfold execPeriodChange
  repeat' first
    | with_reducible first
      | assumption | refine outKeeps_next ?_ | refine tickAtChange_keeps ?_

theorem execPeriodAdoption_keeps {s0 : State} {m : SlotMeasure} {s : State} (h0 : Keeps s0 s) : OutKeeps s0 (execPeriodAdoption m s) := by
  unfold execPeriodAdoption
  repeat' first
    | with_reducible first
      | assumption | refine outKeeps_next ?_ | refine tickAtChange_keeps ?_ | refine keeps_ite ?_ ?_

theorem execMasterTakeover_keeps {s0 : State} {s : State} (h0 : Keeps s0 s) : OutKeeps s0 (execMasterTakeover s) := by
  unfold execMasterTakeover
  repeat' first
    | with_reducible first
      | assumption | refine outKeeps_next ?_ | exact outKeeps_refused | refine outKeeps_ite ?_ ?_
      | refine masterLost_keeps ?_ | refine keeps_ite ?_ ?_ | refine keeps_ite1 ?_ ?_
      | refine keeps_foldl (fun _ _ _ => ?_) ?_ | refine keeps_forUp (fun _ _ _ => ?_) ?_
      | refine keeps_fold1 (fun _ _ _ => ?_) ?_ | refine keeps_foldRead (fun _ _ _ => ?_) ?_
      | refine keeps_foldMap (fun _ _ _ => ?_) ?_ | refine keeps_foldAcc (fun _ _ _ => ?_) ?_
      | refine keeps_foldWr (fun _ _ _ => ?_) ?_ | refine keeps_forUpWr (fun _ _ _ => ?_) ?_
      | refine keeps_foldAcc1 (fun _ _ _ => ?_) ?_
    | split | intro _ | dsimp only | fail_if_no_progress (with_reducible refine keeps_up ?_ rfl rfl rfl rfl rfl)
    | fail_if_no_progress (with_reducible refine keeps_mk ?_ id rfl rfl (Nat.le_add_right _ _) (Nat.le_refl _))
    | fail_if_no_progress (with_reducible refine keeps_mk ?_ (wf_filter _) rfl rfl (Nat.le_refl _) (Nat.le_refl _))
    | fail_if_no_progress (with_reducible refine keeps_mk ?_ (wf_cellsSet _ _) rfl rfl (Nat.le_refl _) (Nat.le_refl _))
    | fail_if_no_progress (with_reducible refine keeps_mk ?_ (fun _ => rfl) rfl rfl (Nat.le_refl _) (Nat.le_refl _))

theorem execTimeExchangeMissing_keeps {s0 : State} {s : State} (h0 : Keeps s0 s) : OutKeeps s0 (execTimeExchangeMissing s) := by
  unfold execTimeExchangeMissing
  repeat' first
    | with_reducible first
      | assumption | refine outKeeps_next ?_ | refine keeps_ite ?_ ?_
    | fail_if_no_progress (with_reducible refine keeps_up ?_ rfl rfl rfl rfl rfl)

theorem takeCtl_keeps {s0 : State} {s : State} {k : Nat} (h0 : Keeps s0 s) : Keeps s0 (takeCtl s k) :=
  keeps_up h0 rfl rfl rfl rfl rfl

theorem execTimeReq_keeps {s0 : State} {k : Fin 64} {seq : Nat} {t2 : Nat} {t3 : Nat} {s : State} (h0 : Keeps s0 s) : OutKeeps s0 (execTimeReq k seq t2 t3 s) := by
  unfold execTimeReq
  repeat' first
    | with_reducible first
      | assumption | refine outKeeps_next ?_ | refine sendCtl_keeps ?_ | refine takeCtl_keeps ?_
      | refine keeps_ite ?_ ?_
    | fail_if_no_progress (with_reducible refine keeps_up ?_ rfl rfl rfl rfl rfl)

theorem applyOffset_keeps {s0 : State} {s : State} {o : Int} (h0 : Keeps s0 s) : Keeps s0 (applyOffset s o) := by
  unfold applyOffset
  repeat' first
    | with_reducible first
      | assumption | refine keeps_ite ?_ ?_
    | fail_if_no_progress (with_reducible refine keeps_up ?_ rfl rfl rfl rfl rfl)

theorem execTimeRsp_keeps {s0 : State} {k : Fin 64} {seq : Nat} {t2 : Nat} {t3 : Nat} {t4 : Nat} {s : State} (h0 : Keeps s0 s) : OutKeeps s0 (execTimeRsp k seq t2 t3 t4 s) := by
  unfold execTimeRsp
  repeat' first
    | with_reducible first
      | assumption | refine outKeeps_next ?_ | refine applyOffset_keeps ?_ | refine takeCtl_keeps ?_
    | split | dsimp only

theorem adoptPeriod_keeps {s0 : State} {s : State} {sel : Nat} {dt : Nat} (h0 : Keeps s0 s) : Keeps s0 (adoptPeriod s sel dt) := by
  unfold adoptPeriod
  repeat' first
    | with_reducible first
      | assumption | refine keeps_ite ?_ ?_
    | fail_if_no_progress (with_reducible refine keeps_up ?_ rfl rfl rfl rfl rfl)

theorem followBeacon_keeps {s0 : State} {s : State} {k : Nat} {m : Nat} {b : Nat} {hops : Nat} (h0 : Keeps s0 s) : Keeps s0 (followBeacon s k m b hops) := by
  unfold followBeacon
  repeat' first
    | with_reducible first
      | assumption | refine chooseParent_keeps ?_ | refine reelect_keeps ?_
    | fail_if_no_progress (with_reducible refine keeps_up ?_ rfl rfl rfl rfl rfl)

theorem execBeacon_keeps {s0 : State} {k : Fin 64} {m : Fin 262144} {b : Fin 262144} {hops : Fin 16} {tick : Nat} {sel : Nat} {dt : Nat} {s : State} (h0 : Keeps s0 s) : OutKeeps s0 (execBeacon k m b hops tick sel dt s) := by
  unfold execBeacon
  repeat' first
    | with_reducible first
      | assumption | refine outKeeps_next ?_ | refine adoptPeriod_keeps ?_ | refine firstSeen_keeps ?_
      | refine flood_keeps ?_ | refine followBeacon_keeps ?_ | refine takeCtl_keeps ?_ | refine keeps_ite ?_ ?_

theorem execCandidate_keeps {s0 : State} {k : Fin 64} {dev : Fin 262144} {now : Bool} {seq : Nat} {s : State} (h0 : Keeps s0 s) : OutKeeps s0 (execCandidate k dev now seq s) := by
  unfold execCandidate
  repeat' first
    | with_reducible first
      | assumption | refine outKeeps_next ?_ | refine firstSeen_keeps ?_ | refine flood_keeps ?_
      | refine reelect_keeps ?_ | refine takeCtl_keeps ?_ | refine keeps_ite ?_ ?_
    | fail_if_no_progress (with_reducible refine keeps_up ?_ rfl rfl rfl rfl rfl)

theorem holdArrives_keeps {s0 : State} {s : State} {gid : Nat} {h : Nat} (h0 : Keeps s0 s) : Keeps s0 (holdArrives s gid h) := by
  unfold holdArrives
  repeat' first
    | with_reducible first
      | assumption | refine logAdd_keeps ?_ | refine markHold_keeps ?_ | refine sendAbort_keeps ?_
      | refine tickCtr_keeps ?_ | refine keeps_ite ?_ ?_

theorem execHoldMsg_keeps {s0 : State} {k : Fin 64} {gid : Fin 65536} {h : Nat} {origin : Fin 262144} {cause : Nat} {s : State} (h0 : Keeps s0 s) : OutKeeps s0 (execHoldMsg k gid h origin cause s) := by
  unfold execHoldMsg
  repeat' first
    | with_reducible first
      | assumption | refine outKeeps_next ?_ | refine firstSeen_keeps ?_ | refine forwardGroup_keeps ?_
      | refine holdArrives_keeps ?_ | refine takeCtl_keeps ?_ | refine keeps_ite ?_ ?_

theorem execAbortMsg_keeps {s0 : State} {k : Fin 64} {gid : Fin 65536} {st : Fin 256} {origin : Fin 262144} {s : State} (h0 : Keeps s0 s) : OutKeeps s0 (execAbortMsg k gid st origin s) := by
  unfold execAbortMsg
  repeat' first
    | with_reducible first
      | assumption | refine outKeeps_next ?_ | exact outKeeps_refused | refine outKeeps_ite ?_ ?_
      | refine abortLocal_keeps ?_ | refine firstAbort_keeps ?_ | refine forwardGroup_keeps ?_
      | refine takeCtl_keeps ?_ | refine keeps_ite ?_ ?_ | refine keeps_ite1 ?_ ?_
      | refine keeps_foldl (fun _ _ _ => ?_) ?_ | refine keeps_forUp (fun _ _ _ => ?_) ?_
      | refine keeps_fold1 (fun _ _ _ => ?_) ?_ | refine keeps_foldRead (fun _ _ _ => ?_) ?_
      | refine keeps_foldMap (fun _ _ _ => ?_) ?_ | refine keeps_foldAcc (fun _ _ _ => ?_) ?_
      | refine keeps_foldWr (fun _ _ _ => ?_) ?_ | refine keeps_forUpWr (fun _ _ _ => ?_) ?_
      | refine keeps_foldAcc1 (fun _ _ _ => ?_) ?_
    | split | intro _ | dsimp only | fail_if_no_progress (with_reducible refine keeps_up ?_ rfl rfl rfl rfl rfl)
    | fail_if_no_progress (with_reducible refine keeps_mk ?_ id rfl rfl (Nat.le_add_right _ _) (Nat.le_refl _))
    | fail_if_no_progress (with_reducible refine keeps_mk ?_ (wf_filter _) rfl rfl (Nat.le_refl _) (Nat.le_refl _))
    | fail_if_no_progress (with_reducible refine keeps_mk ?_ (wf_cellsSet _ _) rfl rfl (Nat.le_refl _) (Nat.le_refl _))
    | fail_if_no_progress (with_reducible refine keeps_mk ?_ (fun _ => rfl) rfl rfl (Nat.le_refl _) (Nat.le_refl _))

theorem execPeriodMsg_keeps {s0 : State} {k : Fin 64} {tc : Nat} {sel : Nat} {s : State} (h0 : Keeps s0 s) : OutKeeps s0 (execPeriodMsg k tc sel s) := by
  unfold execPeriodMsg
  repeat' first
    | with_reducible first
      | assumption | refine outKeeps_next ?_ | refine firstSeen_keeps ?_ | refine flood_keeps ?_
      | refine takeCtl_keeps ?_ | refine keeps_ite ?_ ?_
    | fail_if_no_progress (with_reducible refine keeps_up ?_ rfl rfl rfl rfl rfl)

theorem execPartitionClusterResets_keeps {s0 : State} {n : Fin 8} {s : State} (h0 : Keeps s0 s) : OutKeeps s0 (execPartitionClusterResets n s) := by
  unfold execPartitionClusterResets
  repeat' first
    | with_reducible first
      | assumption | refine outKeeps_next ?_ | refine partClusters_keeps ?_

theorem rsvCheck_keeps {s0 : State} {s : State} {pg : Nat} {o : Nat} {v : Nat} {rsv : Nat} (h0 : Keeps s0 s) : Keeps s0 (rsvCheck s pg o v rsv) := by
  unfold rsvCheck
  repeat' first
    | with_reducible first
      | assumption | refine badAccess_keeps ?_ | refine keeps_ite ?_ ?_

theorem irqStatWrite_keeps {s0 : State} {s : State} {v : Nat} (h0 : Keeps s0 s) : Keeps s0 (irqStatWrite s v) :=
  keeps_up h0 rfl rfl rfl rfl rfl

theorem irqMaskWrite_keeps {s0 : State} {s : State} {v : Nat} (h0 : Keeps s0 s) : Keeps s0 (irqMaskWrite s v) := by
  unfold irqMaskWrite
  repeat' first
    | with_reducible first
      | assumption | refine sendMsix_keeps ?_ | refine keeps_ite ?_ ?_ | refine keeps_forUp (fun _ _ _ => ?_) ?_
    | fail_if_no_progress (with_reducible refine keeps_up ?_ rfl rfl rfl rfl rfl)

theorem partMapWrite_keeps {s0 : State} {s : State} {r : Nat} {v : Nat} (h0 : Keeps s0 s) : Keeps s0 (partMapWrite s r v) := by
  unfold partMapWrite
  repeat' first
    | with_reducible first
      | assumption | refine writeIgnored_keeps ?_ | refine keeps_ite ?_ ?_
    | fail_if_no_progress (with_reducible refine keeps_up ?_ rfl rfl rfl rfl rfl)

theorem fenceMapWrite_keeps {s0 : State} {s : State} {i : Nat} {v : Nat} (h0 : Keeps s0 s) : Keeps s0 (fenceMapWrite s i v) := by
  unfold fenceMapWrite
  repeat' first
    | with_reducible first
      | assumption | refine rsvCheck_keeps ?_ | refine writeIgnored_keeps ?_ | refine keeps_ite ?_ ?_
    | fail_if_no_progress (with_reducible refine keeps_up ?_ rfl rfl rfl rfl rfl)

theorem bar4BaseWrite_keeps {s0 : State} {s : State} {v : Nat} (h0 : Keeps s0 s) : Keeps s0 (bar4BaseWrite s v) := by
  unfold bar4BaseWrite
  repeat' first
    | with_reducible first
      | assumption | refine rsvCheck_keeps ?_ | refine writeIgnored_keeps ?_ | refine keeps_ite ?_ ?_
    | fail_if_no_progress (with_reducible refine keeps_up ?_ rfl rfl rfl rfl rfl)

theorem vfCtxWrite_keeps {s0 : State} {s : State} {v : Nat} (h0 : Keeps s0 s) : Keeps s0 (vfCtxWrite s v) := by
  unfold vfCtxWrite
  repeat' first
    | with_reducible first
      | assumption | refine rsvCheck_keeps ?_ | refine writeIgnored_keeps ?_ | refine keeps_ite ?_ ?_
    | fail_if_no_progress (with_reducible refine keeps_up ?_ rfl rfl rfl rfl rfl)

theorem writeHost_keeps {s0 : State} {s : State} {o : Nat} {v : Nat} (h0 : Keeps s0 s) : Keeps s0 (writeHost s o v) := by
  unfold writeHost
  repeat' first
    | with_reducible first
      | assumption | refine badAccess_keeps ?_ | refine bar4BaseWrite_keeps ?_ | refine fenceMapWrite_keeps ?_
      | refine irqMaskWrite_keeps ?_ | refine irqStatWrite_keeps ?_ | refine partMapWrite_keeps ?_
      | refine rsvCheck_keeps ?_ | refine vfCtxWrite_keeps ?_ | refine keeps_ite ?_ ?_

theorem tickCtrlWrite_keeps {s0 : State} {s : State} {v : Nat} (h0 : Keeps s0 s) : Keeps s0 (tickCtrlWrite s v) := by
  unfold tickCtrlWrite
  repeat' first
    | with_reducible first
      | assumption | refine announce_keeps ?_ | refine reelect_keeps ?_ | refine keeps_ite ?_ ?_
    | fail_if_no_progress (with_reducible refine keeps_up ?_ rfl rfl rfl rfl rfl)

theorem resetWrite_keeps {s0 : State} {s : State} {v : Nat} (h0 : Keeps s0 s) : Keeps s0 (resetWrite s v) := by
  unfold resetWrite
  repeat' first
    | with_reducible first
      | assumption | refine rsvCheck_keeps ?_ | refine writeIgnored_keeps ?_ | refine keeps_ite ?_ ?_
    | fail_if_no_progress (with_reducible refine keeps_up ?_ rfl rfl rfl rfl rfl)

theorem fenceReqWrite_keeps {s0 : State} {s : State} {v : Nat} (h0 : Keeps s0 s) : Keeps s0 (fenceReqWrite s v) := by
  unfold fenceReqWrite
  repeat' first
    | with_reducible first
      | assumption | refine rsvCheck_keeps ?_ | refine writeIgnored_keeps ?_ | refine keeps_ite ?_ ?_
    | fail_if_no_progress (with_reducible refine keeps_up ?_ rfl rfl rfl rfl rfl)

theorem logSelWrite_keeps {s0 : State} {s : State} {v : Nat} (h0 : Keeps s0 s) : Keeps s0 (logSelWrite s v) := by
  unfold logSelWrite
  repeat' first
    | with_reducible first
      | assumption | refine rsvCheck_keeps ?_
    | fail_if_no_progress (with_reducible refine keeps_up ?_ rfl rfl rfl rfl rfl)

theorem scaleBaseWrite_keeps {s0 : State} {s : State} {n : Nat} {v : Nat} (h0 : Keeps s0 s) : Keeps s0 (scaleBaseWrite s n v) := by
  unfold scaleBaseWrite
  repeat' first
    | with_reducible first
      | assumption | refine rsvCheck_keeps ?_ | refine writeIgnored_keeps ?_ | refine keeps_ite ?_ ?_
    | fail_if_no_progress (with_reducible refine keeps_up ?_ rfl rfl rfl rfl rfl)

theorem wispCtrlWrite_keeps {s0 : State} {s : State} {n : Nat} {v : Nat} (h0 : Keeps s0 s) : Keeps s0 (wispCtrlWrite s n v) := by
  unfold wispCtrlWrite
  repeat' first
    | with_reducible first
      | assumption | refine rsvCheck_keeps ?_ | refine writeIgnored_keeps ?_ | refine keeps_ite ?_ ?_
    | fail_if_no_progress (with_reducible refine keeps_up ?_ rfl rfl rfl rfl rfl)

theorem xbarWrite_keeps {s0 : State} {s : State} {d : Nat} {v : Nat} (h0 : Keeps s0 s) : Keeps s0 (xbarWrite s d v) := by
  unfold xbarWrite
  repeat' first
    | with_reducible first
      | assumption | refine rsvCheck_keeps ?_
    | fail_if_no_progress (with_reducible refine keeps_up ?_ rfl rfl rfl rfl rfl)

theorem fgrpWrite_keeps {s0 : State} {s : State} {o : Nat} {v : Nat} (h0 : Keeps s0 s) : Keeps s0 (fgrpWrite s o v) := by
  unfold fgrpWrite
  repeat' first
    | with_reducible first
      | assumption | refine badAccess_keeps ?_ | refine rsvCheck_keeps ?_
    | split | fail_if_no_progress (with_reducible refine keeps_up ?_ rfl rfl rfl rfl rfl)

theorem cwinWrite_keeps {s0 : State} {s : State} {o : Nat} {v : Nat} (h0 : Keeps s0 s) : Keeps s0 (cwinWrite s o v) := by
  unfold cwinWrite
  repeat' first
    | with_reducible first
      | assumption | refine rsvCheck_keeps ?_
    | fail_if_no_progress (with_reducible refine keeps_up ?_ rfl rfl rfl rfl rfl)

theorem rtgWrite_keeps {s0 : State} {s : State} {i : Nat} {o : Nat} {v : Nat} (h0 : Keeps s0 s) : Keeps s0 (rtgWrite s i o v) := by
  unfold rtgWrite
  repeat' first
    | with_reducible first
      | assumption | refine badAccess_keeps ?_
    | split | fail_if_no_progress (with_reducible refine keeps_up ?_ rfl rfl rfl rfl rfl)

theorem monCfgWrite_keeps {s0 : State} {s : State} {l : Nat} {v : Nat} (h0 : Keeps s0 s) : Keeps s0 (monCfgWrite s l v) := by
  unfold monCfgWrite
  repeat' first
    | with_reducible first
      | assumption | refine State_setLink_keeps ?_ | refine rsvCheck_keeps ?_ | refine writeIgnored_keeps ?_
      | refine keeps_ite ?_ ?_

theorem fenceCntWrite_keeps {s0 : State} {s : State} {i : Nat} {v : Nat} (h0 : Keeps s0 s) : Keeps s0 (fenceCntWrite s i v) := by
  unfold fenceCntWrite
  repeat' first
    | with_reducible first
      | assumption | refine fenceRaise_keeps ?_ | refine rsvCheck_keeps ?_

theorem rootWrite_keeps {s0 : State} {s : State} {c : Nat} {v : Nat} (h0 : Keeps s0 s) : Keeps s0 (rootWrite s c v) := by
  unfold rootWrite
  repeat' first
    | with_reducible first
      | assumption | refine State_setCtx_keeps ?_ | refine rsvCheck_keeps ?_ | refine writeIgnored_keeps ?_
      | refine keeps_ite ?_ ?_

theorem invWrite_keeps {s0 : State} {s : State} {c : Nat} {v : Nat} (h0 : Keeps s0 s) : Keeps s0 (invWrite s c v) := by
  unfold invWrite
  repeat' first
    | with_reducible first
      | assumption | refine State_setCtx_keeps ?_ | refine rsvCheck_keeps ?_ | refine writeIgnored_keeps ?_
      | refine keeps_ite ?_ ?_

theorem invComplete_keeps {s0 : State} {s : State} {c : Nat} (h0 : Keeps s0 s) : Keeps s0 (invComplete s c) := by
  unfold invComplete
  repeat' first
    | with_reducible first
      | assumption | refine State_setCtx_keeps ?_
    | split | dsimp only | fail_if_no_progress (with_reducible refine keeps_up ?_ rfl rfl rfl rfl rfl)

theorem queueProp_keeps {s0 : State} {s : State} {q : Nat} {o : Nat} {v : Nat} {rsv : Nat} {f : Queue → W64 → Queue} (h0 : Keeps s0 s) : Keeps s0 (queueProp s q o v rsv f) := by
  unfold queueProp
  repeat' first
    | with_reducible first
      | assumption | refine State_setQueue_keeps ?_ | refine rsvCheck_keeps ?_ | refine writeIgnored_keeps ?_
      | refine keeps_ite ?_ ?_

theorem writeQueue_keeps {s0 : State} {s : State} {q : Nat} {o : Nat} {v : Nat} (h0 : Keeps s0 s) : Keeps s0 (writeQueue s q o v) := by
  unfold writeQueue
  repeat' first
    | with_reducible first
      | assumption | refine State_setQueue_keeps ?_ | refine badAccess_keeps ?_ | refine disableQueue_keeps ?_
      | refine enableQueue_keeps ?_ | refine queueProp_keeps ?_ | refine rsvCheck_keeps ?_
    | split

theorem schedWrite_keeps {s0 : State} {s : State} {k : Nat} {o : Nat} {v : Nat} (h0 : Keeps s0 s) : Keeps s0 (schedWrite s k o v) := by
  unfold schedWrite
  repeat' first
    | with_reducible first
      | assumption | refine State_setPort_keeps ?_ | refine rsvCheck_keeps ?_

theorem regParity_keeps {s0 : State} {s : State} {b : Block} {pg : Nat} (h0 : Keeps s0 s) : Keeps s0 (regParity s b pg) := by
  unfold regParity
  repeat' first
    | with_reducible first
      | assumption | refine State_setCtx_keeps ?_ | refine State_setFence_keeps ?_ | refine State_setGuest_keeps ?_
      | refine State_setPort_keeps ?_ | refine State_setQueue_keeps ?_ | refine agtUpdate_keeps ?_
      | refine pageErr_keeps ?_ | refine withLimit_keeps ?_ | refine keeps_ite ?_ ?_ | refine keeps_ite1 ?_ ?_
      | refine keeps_foldl (fun _ _ _ => ?_) ?_ | refine keeps_forUp (fun _ _ _ => ?_) ?_
      | refine keeps_fold1 (fun _ _ _ => ?_) ?_ | refine keeps_foldRead (fun _ _ _ => ?_) ?_
      | refine keeps_foldMap (fun _ _ _ => ?_) ?_ | refine keeps_foldAcc (fun _ _ _ => ?_) ?_
      | refine keeps_foldWr (fun _ _ _ => ?_) ?_ | refine keeps_forUpWr (fun _ _ _ => ?_) ?_
      | refine keeps_foldAcc1 (fun _ _ _ => ?_) ?_
    | split | intro _ | dsimp only | fail_if_no_progress (with_reducible refine keeps_up ?_ rfl rfl rfl rfl rfl)
    | fail_if_no_progress (with_reducible refine keeps_mk ?_ id rfl rfl (Nat.le_add_right _ _) (Nat.le_refl _))
    | fail_if_no_progress (with_reducible refine keeps_mk ?_ (wf_filter _) rfl rfl (Nat.le_refl _) (Nat.le_refl _))
    | fail_if_no_progress (with_reducible refine keeps_mk ?_ (wf_cellsSet _ _) rfl rfl (Nat.le_refl _) (Nat.le_refl _))
    | fail_if_no_progress (with_reducible refine keeps_mk ?_ (fun _ => rfl) rfl rfl (Nat.le_refl _) (Nat.le_refl _))

theorem injectCore_keeps {s0 : State} {s : State} {p : Nat} {v : Nat} (h0 : Keeps s0 s) : Keeps s0 (injectCore s p v) := by
  unfold injectCore
  repeat' first
    | with_reducible first
      | assumption | refine State_setCore_keeps ?_ | refine keeps_ite ?_ ?_

theorem injectWrite_keeps {s0 : State} {s : State} {b : Block} {pg : Nat} {v : Nat} (h0 : Keeps s0 s) : Keeps s0 (injectWrite s b pg v) := by
  unfold injectWrite
  repeat' first
    | with_reducible first
      | assumption | refine injectCore_keeps ?_ | refine regParity_keeps ?_ | refine keeps_ite ?_ ?_

theorem writeHeader_keeps {s0 : State} {s : State} {b : Block} {pg : Nat} {o : Nat} {v : Nat} (h0 : Keeps s0 s) : Keeps s0 (writeHeader s b pg o v) := by
  unfold writeHeader
  repeat' first
    | with_reducible first
      | assumption | refine State_setPage_keeps ?_ | refine badAccess_keeps ?_ | refine injectWrite_keeps ?_
      | refine rsvCheck_keeps ?_
    | split

theorem writeBlock_keeps {s0 : State} {s : State} {dt : Nat} {b : Block} {pg : Nat} {o : Nat} {v : Nat} (h0 : Keeps s0 s) : Keeps s0 (writeBlock s dt b pg o v) := by
  unfold writeBlock
  repeat' first
    | with_reducible first
      | assumption | refine badAccess_keeps ?_ | refine cwinWrite_keeps ?_ | refine fabCfgWrite_keeps ?_
      | refine fenceCntWrite_keeps ?_ | refine fenceReqWrite_keeps ?_ | refine fgrpWrite_keeps ?_
      | refine guestCtrlWrite_keeps ?_ | refine handOver_keeps ?_ | refine invWrite_keeps ?_
      | refine logSelWrite_keeps ?_ | refine memberWrite_keeps ?_ | refine monCfgWrite_keeps ?_
      | refine periodRequest_keeps ?_ | refine portCtrlWrite_keeps ?_ | refine pwrCtrlWrite_keeps ?_
      | refine resetWrite_keeps ?_ | refine rootWrite_keeps ?_ | refine rsvCheck_keeps ?_ | refine rtgWrite_keeps ?_
      | refine scaleBaseWrite_keeps ?_ | refine schedWrite_keeps ?_ | refine sendAllDirect_keeps ?_
      | refine stateReqWrite_keeps ?_ | refine tickCtrlWrite_keeps ?_ | refine wispCtrlWrite_keeps ?_
      | refine writeHost_keeps ?_ | refine writeQueue_keeps ?_ | refine xbarWrite_keeps ?_ | refine keeps_ite ?_ ?_
      | refine keeps_ite1 ?_ ?_ | refine keeps_foldl (fun _ _ _ => ?_) ?_ | refine keeps_forUp (fun _ _ _ => ?_) ?_
      | refine keeps_fold1 (fun _ _ _ => ?_) ?_ | refine keeps_foldRead (fun _ _ _ => ?_) ?_
      | refine keeps_foldMap (fun _ _ _ => ?_) ?_ | refine keeps_foldAcc (fun _ _ _ => ?_) ?_
      | refine keeps_foldWr (fun _ _ _ => ?_) ?_ | refine keeps_forUpWr (fun _ _ _ => ?_) ?_
      | refine keeps_foldAcc1 (fun _ _ _ => ?_) ?_
    | split | intro _ | dsimp only | fail_if_no_progress (with_reducible refine keeps_up ?_ rfl rfl rfl rfl rfl)
    | fail_if_no_progress (with_reducible refine keeps_mk ?_ id rfl rfl (Nat.le_add_right _ _) (Nat.le_refl _))
    | fail_if_no_progress (with_reducible refine keeps_mk ?_ (wf_filter _) rfl rfl (Nat.le_refl _) (Nat.le_refl _))
    | fail_if_no_progress (with_reducible refine keeps_mk ?_ (wf_cellsSet _ _) rfl rfl (Nat.le_refl _) (Nat.le_refl _))
    | fail_if_no_progress (with_reducible refine keeps_mk ?_ (fun _ => rfl) rfl rfl (Nat.le_refl _) (Nat.le_refl _))

theorem regPut_keeps {s0 : State} {s : State} {dt : Nat} {pg : Nat} {o : Nat} {v : Nat} (h0 : Keeps s0 s) : Keeps s0 (regPut s dt pg o v) := by
  unfold regPut
  repeat' first
    | with_reducible first
      | assumption | refine badAccess_keeps ?_ | refine writeBlock_keeps ?_ | refine writeHeader_keeps ?_
      | refine writeIgnored_keeps ?_
    | split

theorem msixPut_keeps {s0 : State} {s : State} {f : Nat} {w : Nat} {v : Nat} (h0 : Keeps s0 s) : Keeps s0 (msixPut s f w v) := by
  unfold msixPut
  repeat' first
    | with_reducible first
      | assumption | refine sendMsix_keeps ?_ | refine keeps_ite ?_ ?_
    | split | fail_if_no_progress (with_reducible refine keeps_up ?_ rfl rfl rfl rfl rfl)

theorem bellPut_keeps {s0 : State} {s : State} {f : Nat} {q : Nat} {o : Nat} {v : Nat} (h0 : Keeps s0 s) : Keeps s0 (bellPut s f q o v) := by
  unfold bellPut
  repeat' first
    | with_reducible first
      | assumption | refine badAccess_keeps ?_ | refine cqHeadWrite_keeps ?_ | refine doorbellRsv_keeps ?_
      | refine foreignWrite_keeps ?_ | refine sqTailWrite_keeps ?_
    | split

theorem spaceRead_keeps {s0 : State} {s : State} {dt : Nat} {f : Nat} {ofs : Nat} {n : Nat} (h0 : Keeps s0 s) : Keeps s0 (spaceRead s dt f ofs n).1 := by
  unfold spaceRead
  repeat' first
    | with_reducible first
      | assumption | refine badAccess_keeps ?_
    | split

theorem regPutBy_keeps {s0 : State} {s : State} {dt : Nat} {f : Nat} {pg : Nat} {r : Nat} {v : Nat} (h0 : Keeps s0 s) : Keeps s0 (regPutBy s dt f pg r v) := by
  unfold regPutBy
  repeat' first
    | with_reducible first
      | assumption | refine foreignWrite_keeps ?_ | refine regPut_keeps ?_ | refine keeps_ite ?_ ?_

theorem spaceWrite_keeps {s0 : State} {s : State} {dt : Nat} {f : Nat} {ofs : Nat} {bs : List Byte} (h0 : Keeps s0 s) : Keeps s0 (spaceWrite s dt f ofs bs) := by
  unfold spaceWrite
  repeat' first
    | with_reducible first
      | assumption | refine badAccess_keeps ?_ | refine bellPut_keeps ?_ | refine foreignWrite_keeps ?_
      | refine hostCtr_keeps ?_ | refine msixPut_keeps ?_ | refine pageErr_keeps ?_ | refine regPutBy_keeps ?_
      | refine keeps_ite ?_ ?_ | refine keeps_foldl (fun _ _ _ => ?_) ?_ | refine keeps_forUp (fun _ _ _ => ?_) ?_
    | split

theorem mapRun_keeps {s0 : State} {s : State} {p : Nat} {e : Nat} {f : HRun → HRun} (h0 : Keeps s0 s) : Keeps s0 (mapRun s p e f) := by
  unfold mapRun
  repeat' first
    | with_reducible first
      | assumption | refine State_setHeng_keeps ?_
    | split | dsimp only

theorem heronFault_keeps {s0 : State} {s : State} {p : Nat} {e : Nat} {st : Nat} {num : Nat} (h0 : Keeps s0 s) : Keeps s0 (heronFault s p e st num) := by
  unfold heronFault
  repeat' first
    | with_reducible first
      | assumption | refine State_setHeng_keeps ?_ | refine mapRun_keeps ?_

theorem heronXlatFault_keeps {s0 : State} {s : State} {p : Nat} {e : Nat} {st : Nat} {num : Nat} {ctx : Nat} (h0 : Keeps s0 s) : Keeps s0 (heronXlatFault s p e st num ctx) := by
  unfold heronXlatFault
  repeat' first
    | with_reducible first
      | assumption | refine ctxCtr_keeps ?_ | refine heronFault_keeps ?_

theorem heronCheck_keeps {s0 : State} {s : State} {p : Nat} {e : Nat} (h0 : Keeps s0 s) : Keeps s0 (heronCheck s p e) := by
  unfold heronCheck
  repeat' first
    | with_reducible first
      | assumption | refine heronKick_keeps ?_ | refine heronOver_keeps ?_
    | split | dsimp only

theorem heronRetire_keeps {s0 : State} {s : State} {p : Nat} {e : Nat} {id : Nat} (h0 : Keeps s0 s) : Keeps s0 (heronRetire s p e id) := by
  unfold heronRetire
  repeat' first
    | with_reducible first
      | assumption | refine coreCtr_keeps ?_ | refine heronCheck_keeps ?_ | refine mapRun_keeps ?_
    | split

theorem keepSegs_keeps {s0 : State} {s : State} {w : ReqId} {keep : HSeg → Bool} (h0 : Keeps s0 s) : Keeps s0 (keepSegs s w keep) := by
  unfold keepSegs
  repeat' first
    | with_reducible first
      | assumption | refine mapRun_keeps ?_

theorem heronDeliver_keeps {s0 : State} {s : State} {p : Nat} {e : Nat} {cs : List Chunk} (h0 : Keeps s0 s) : Keeps s0 (heronDeliver s p e cs) := by
  unfold heronDeliver
  repeat' first
    | with_reducible first
      | assumption | refine coreCtr_keeps ?_ | refine mapRun_keeps ?_ | refine writeMem_keeps ?_
      | refine writeRuns_keeps ?_ | refine keeps_foldl (fun _ _ _ => ?_) ?_

theorem deliverSegs_keeps {s0 : State} {s : State} {w : ReqId} {take : HSeg → Bool} {mk : State → List HSeg → List Chunk} (h0 : Keeps s0 s) : Keeps s0 (deliverSegs s w take mk) := by
  unfold deliverSegs
  repeat' first
    | with_reducible first
      | assumption | refine heronDeliver_keeps ?_ | refine heronRetire_keeps ?_ | refine keepSegs_keeps ?_
    | split

theorem deliverLine_keeps {s0 : State} {s : State} {w : ReqId} {l : Nat} {data : List Byte} {bad : List Bool} (h0 : Keeps s0 s) : Keeps s0 (deliverLine s w l data bad) := by
  unfold deliverLine
  repeat' first
    | with_reducible first
      | assumption | refine deliverSegs_keeps ?_

theorem detectSegs_keeps {s0 : State} {s : State} {segs : List HSeg} (h0 : Keeps s0 s) : Keeps s0 (detectSegs s segs) := by
  unfold detectSegs
  repeat' first
    | with_reducible first
      | assumption | refine detect_keeps ?_ | refine keeps_foldl (fun _ _ _ => ?_) ?_

theorem readLine_keeps {s0 : State} {s : State} {l : Nat} (h0 : Keeps s0 s) : Keeps s0 (readLine s l).1 := by
  unfold readLine
  repeat' first
    | with_reducible first
      | assumption | refine detect_keeps ?_

theorem guestWindowErr_keeps {s0 : State} {s : State} {p : Nat} {e : Nat} {g : Nat} {a : Nat} (h0 : Keeps s0 s) : Keeps s0 (guestWindowErr s p e g a) := by
  unfold guestWindowErr
  repeat' first
    | with_reducible first
      | assumption | refine logAdd_keeps ?_ | refine mapRun_keeps ?_
    | split

theorem heronDiscard_keeps {s0 : State} {s : State} {p : Nat} {e : Nat} {a : Nat} (h0 : Keeps s0 s) : Keeps s0 (heronDiscard s p e a) := by
  unfold heronDiscard
  repeat' first
    | with_reducible first
      | assumption | refine logAdd_keeps ?_ | refine mapRun_keeps ?_
    | split

theorem homeStore_keeps {s0 : State} {s : State} {req : Option ReqId} {a : Nat} {bs : List Byte} {bad : Bool} (h0 : Keeps s0 s) : Keeps s0 (homeStore s req a bs bad).1 := by
  unfold homeStore
  repeat' first
    | with_reducible first
      | assumption | refine sendMsg_keeps ?_ | refine storeBytes_keeps ?_ | refine unstage_keeps ?_
      | refine keeps_ite ?_ ?_ | refine keeps_ite1 ?_ ?_ | refine keeps_foldl (fun _ _ _ => ?_) ?_
      | refine keeps_forUp (fun _ _ _ => ?_) ?_ | refine keeps_fold1 (fun _ _ _ => ?_) ?_
      | refine keeps_foldRead (fun _ _ _ => ?_) ?_ | refine keeps_foldMap (fun _ _ _ => ?_) ?_
      | refine keeps_foldAcc (fun _ _ _ => ?_) ?_ | refine keeps_foldWr (fun _ _ _ => ?_) ?_
      | refine keeps_forUpWr (fun _ _ _ => ?_) ?_ | refine keeps_foldAcc1 (fun _ _ _ => ?_) ?_
    | split | intro _ | dsimp only | fail_if_no_progress (with_reducible refine keeps_up ?_ rfl rfl rfl rfl rfl)
    | fail_if_no_progress (with_reducible refine keeps_mk ?_ id rfl rfl (Nat.le_add_right _ _) (Nat.le_refl _))
    | fail_if_no_progress (with_reducible refine keeps_mk ?_ (wf_filter _) rfl rfl (Nat.le_refl _) (Nat.le_refl _))
    | fail_if_no_progress (with_reducible refine keeps_mk ?_ (wf_cellsSet _ _) rfl rfl (Nat.le_refl _) (Nat.le_refl _))
    | fail_if_no_progress (with_reducible refine keeps_mk ?_ (fun _ => rfl) rfl rfl (Nat.le_refl _) (Nat.le_refl _))

theorem installLine_keeps {s0 : State} {s : State} {d : Nat} {l : Nat} {pf : Option (Nat × Nat)} (h0 : Keeps s0 s) : Keeps s0 (installLine s d l pf) := by
  unfold installLine
  repeat' first
    | with_reducible first
      | assumption | refine State_setDie_keeps ?_ | refine drawChoice_keeps ?_ | refine sendMsg_keeps ?_
      | refine uncache_keeps ?_ | refine keeps_ite ?_ ?_

theorem stageLine_keeps {s0 : State} {s : State} {p : Nat} {l : Nat} {q : Nat} {used : Bool} (h0 : Keeps s0 s) : Keeps s0 (stageLine s p l q used) := by
  unfold stageLine
  repeat' first
    | with_reducible first
      | assumption | refine State_setCore_keeps ?_ | refine unstage_keeps ?_
    | split

theorem countOnTime_keeps {s0 : State} {s : State} {p : Nat} {q : Nat} (h0 : Keeps s0 s) : Keeps s0 (countOnTime s p q) :=
  keeps_up h0 rfl rfl rfl rfl rfl

theorem useStaged_keeps {s0 : State} {s : State} {p : Nat} {l : Nat} (h0 : Keeps s0 s) : Keeps s0 (useStaged s p l) := by
  unfold useStaged
  repeat' first
    | with_reducible first
      | assumption | refine State_setCore_keeps ?_ | refine countOnTime_keeps ?_
    | split | dsimp only

theorem useCached_keeps {s0 : State} {s : State} {d : Nat} {l : Nat} (h0 : Keeps s0 s) : Keeps s0 (useCached s d l) := by
  unfold useCached
  repeat' first
    | with_reducible first
      | assumption | refine State_setDie_keeps ?_ | refine countOnTime_keeps ?_
    | split | dsimp only

theorem loseCopy_keeps {s0 : State} {s : State} {p : Nat} {l : Nat} (h0 : Keeps s0 s) : Keeps s0 (loseCopy s p l) := by
  unfold loseCopy
  repeat' first
    | with_reducible first
      | assumption | refine coreCtr_keeps ?_ | refine uncache_keeps ?_ | refine unstage_keeps ?_
      | refine keeps_ite ?_ ?_ | refine keeps_ite1 ?_ ?_ | refine keeps_foldl (fun _ _ _ => ?_) ?_
      | refine keeps_forUp (fun _ _ _ => ?_) ?_ | refine keeps_fold1 (fun _ _ _ => ?_) ?_
      | refine keeps_foldRead (fun _ _ _ => ?_) ?_ | refine keeps_foldMap (fun _ _ _ => ?_) ?_
      | refine keeps_foldAcc (fun _ _ _ => ?_) ?_ | refine keeps_foldWr (fun _ _ _ => ?_) ?_
      | refine keeps_forUpWr (fun _ _ _ => ?_) ?_ | refine keeps_foldAcc1 (fun _ _ _ => ?_) ?_
    | split | intro _ | dsimp only | fail_if_no_progress (with_reducible refine keeps_up ?_ rfl rfl rfl rfl rfl)
    | fail_if_no_progress (with_reducible refine keeps_mk ?_ id rfl rfl (Nat.le_add_right _ _) (Nat.le_refl _))
    | fail_if_no_progress (with_reducible refine keeps_mk ?_ (wf_filter _) rfl rfl (Nat.le_refl _) (Nat.le_refl _))
    | fail_if_no_progress (with_reducible refine keeps_mk ?_ (wf_cellsSet _ _) rfl rfl (Nat.le_refl _) (Nat.le_refl _))
    | fail_if_no_progress (with_reducible refine keeps_mk ?_ (fun _ => rfl) rfl rfl (Nat.le_refl _) (Nat.le_refl _))

theorem mergeFlight_keeps {s0 : State} {s : State} {k : Nat} {l : Nat} {w : ReqId} (h0 : Keeps s0 s) : Keeps s0 (mergeFlight s k l w) := by
  unfold mergeFlight
  repeat' first
    | with_reducible first
      | assumption | refine State_setCore_keeps ?_ | refine coreCtr_keeps ?_ | refine queueCtr_keeps ?_
    | split | dsimp only

theorem fillPrefetch_keeps {s0 : State} {s : State} {k : Nat} {l : Nat} {keep : Bool} {data : List Byte} {bad : List Bool} (h0 : Keeps s0 s) : Keeps s0 (fillPrefetch s k l keep data bad) := by
  unfold fillPrefetch
  repeat' first
    | with_reducible first
      | assumption | refine State_setCore_keeps ?_ | refine coreCtr_keeps ?_ | refine deliverLine_keeps ?_
      | refine heronCheck_keeps ?_ | refine installLine_keeps ?_ | refine mapRun_keeps ?_ | refine queueCtr_keeps ?_
      | refine stageLine_keeps ?_ | refine keeps_foldl (fun _ _ _ => ?_) ?_
    | split | dsimp only

theorem heronRun_keeps {s0 : State} {s : State} {q : Nat} {n : Nat} {pf : Bool} (h0 : Keeps s0 s) : Keeps s0 (heronRun s q n pf) := by
  unfold heronRun
  repeat' first
    | with_reducible first
      | assumption | refine State_setHeng_keeps ?_ | refine checked_keeps ?_ ?_ | refine dispatch_keeps ?_ ?_
      | refine heronKick_keeps ?_ | refine setRecSt_keeps ?_
    | intro _

theorem tlbFill_keeps {s0 : State} {s : State} {p : Nat} {l : Leaf} (h0 : Keeps s0 s) : Keeps s0 (tlbFill s p l) := by
  unfold tlbFill
  repeat' first
    | with_reducible first
      | assumption | refine State_setCore_keeps ?_ | refine drawChoice_keeps ?_ | refine keeps_ite ?_ ?_

theorem startWalk_keeps {s0 : State} {s : State} {p : Nat} {e : Nat} {c : Nat} {dva : Nat} (h0 : Keeps s0 s) : Keeps s0 (startWalk s p e c dva) := by
  unfold startWalk
  repeat' first
    | with_reducible first
      | assumption | refine State_setHeng_keeps ?_ | refine coreCtr_keeps ?_ | refine ctxCtr_keeps ?_
      | refine keeps_ite ?_ ?_

theorem zeroNear_keeps {s0 : State} {s : State} {p : Nat} {r : Rec} {near : Nat} {len : Nat} (h0 : Keeps s0 s) : Keeps s0 (zeroNear s p r near len) := by
  unfold zeroNear
  repeat' first
    | with_reducible first
      | assumption | refine writeMem_keeps ?_ | refine keeps_ite ?_ ?_

theorem poisonNear_keeps {s0 : State} {s : State} {p : Nat} {e : Nat} {r : Rec} {near : Nat} {len : Nat} {lines : Nat} (h0 : Keeps s0 s) : Keeps s0 (poisonNear s p e r near len lines) := by
  unfold poisonNear
  repeat' first
    | with_reducible first
      | assumption | refine drawBytes_keeps ?_ | refine mapRun_keeps ?_ | refine writeMem_keeps ?_
      | refine keeps_ite ?_ ?_

theorem endSeg_keeps {s0 : State} {s : State} {p : Nat} {e : Nat} {r : Rec} {near : Nat} {len : Nat} {dropped : Nat} (h0 : Keeps s0 s) : Keeps s0 (endSeg s p e r near len dropped) := by
  unfold endSeg
  repeat' first
    | with_reducible first
      | assumption | refine mapRun_keeps ?_ | refine zeroNear_keeps ?_

theorem growReq_keeps {s0 s : State} {p e : Nat} {r : Rec} {n : Nat} {c : HCur} {l : List (Nat × Nat × Nat)} (h0 : Keeps s0 s) :
    Keeps s0 (growReq p e r n s c l).1 := by
  induction n generalizing s c l with
  | zero => exact h0
  | succ n ih =>
    unfold growReq
    dsimp only
    split
    · refine keeps_ite1 h0 (keeps_ite1 ?_ (ih ?_)) <;> exact keeps_ite (loadUnits_keeps h0) h0
    · exact keeps_ite1 h0 (ih (endSeg_keeps (loadUnits_keeps h0)))
    · exact h0

theorem readFrom_keeps {s0 : State} {s : State} {p : Nat} {r : Rec} {bad : List Nat} {w : ReqId} {l : Nat} (h0 : Keeps s0 s) : Keeps s0 (readFrom s p r bad w l).1 := by
  unfold readFrom
  repeat' first
    | with_reducible first
      | assumption | refine loseCopy_keeps ?_ | refine mergeFlight_keeps ?_ | refine sendMsg_keeps ?_
      | refine useCached_keeps ?_ | refine useStaged_keeps ?_ | refine keeps_ite ?_ ?_ | refine keeps_ite1 ?_ ?_
      | refine keeps_foldl (fun _ _ _ => ?_) ?_ | refine keeps_forUp (fun _ _ _ => ?_) ?_
      | refine keeps_fold1 (fun _ _ _ => ?_) ?_ | refine keeps_foldRead (fun _ _ _ => ?_) ?_
      | refine keeps_foldMap (fun _ _ _ => ?_) ?_ | refine keeps_foldAcc (fun _ _ _ => ?_) ?_
      | refine keeps_foldWr (fun _ _ _ => ?_) ?_ | refine keeps_forUpWr (fun _ _ _ => ?_) ?_
      | refine keeps_foldAcc1 (fun _ _ _ => ?_) ?_
    | split | intro _ | dsimp only | fail_if_no_progress (with_reducible refine keeps_up ?_ rfl rfl rfl rfl rfl)
    | fail_if_no_progress (with_reducible refine keeps_mk ?_ id rfl rfl (Nat.le_add_right _ _) (Nat.le_refl _))
    | fail_if_no_progress (with_reducible refine keeps_mk ?_ (wf_filter _) rfl rfl (Nat.le_refl _) (Nat.le_refl _))
    | fail_if_no_progress (with_reducible refine keeps_mk ?_ (wf_cellsSet _ _) rfl rfl (Nat.le_refl _) (Nat.le_refl _))
    | fail_if_no_progress (with_reducible refine keeps_mk ?_ (fun _ => rfl) rfl rfl (Nat.le_refl _) (Nat.le_refl _))

theorem addReq_keeps {s0 : State} {s : State} {p : Nat} {e : Nat} {q : HReq} {c : HCur} (h0 : Keeps s0 s) : Keeps s0 (addReq s p e q c) := by
  unfold addReq
  repeat' first
    | with_reducible first
      | assumption | refine State_setHeng_keeps ?_ | refine coreCtr_keeps ?_ | refine mapRun_keeps ?_

theorem issueRead_keeps {s0 : State} {s : State} {p : Nat} {e : Nat} {r : Rec} {bad : List Nat} {l : List (Nat × Nat × Nat)} {c : HCur} {num : Nat} {a0 : Nat} {pa0 : Nat} {total : Nat} (h0 : Keeps s0 s) : Keeps s0 (issueRead s p e r bad l c num a0 pa0 total) := by
  unfold issueRead
  repeat' first
    | with_reducible first
      | assumption | refine addReq_keeps ?_ | refine guestWindowErr_keeps ?_ | refine readFrom_keeps ?_
      | refine keeps_ite ?_ ?_ | refine keeps_ite1 ?_ ?_ | refine keeps_foldl (fun _ _ _ => ?_) ?_
      | refine keeps_forUp (fun _ _ _ => ?_) ?_ | refine keeps_fold1 (fun _ _ _ => ?_) ?_
      | refine keeps_foldRead (fun _ _ _ => ?_) ?_ | refine keeps_foldMap (fun _ _ _ => ?_) ?_
      | refine keeps_foldAcc (fun _ _ _ => ?_) ?_ | refine keeps_foldWr (fun _ _ _ => ?_) ?_
      | refine keeps_forUpWr (fun _ _ _ => ?_) ?_ | refine keeps_foldAcc1 (fun _ _ _ => ?_) ?_
    | split | intro _ | dsimp only | fail_if_no_progress (with_reducible refine keeps_up ?_ rfl rfl rfl rfl rfl)
    | fail_if_no_progress (with_reducible refine keeps_mk ?_ id rfl rfl (Nat.le_add_right _ _) (Nat.le_refl _))
    | fail_if_no_progress (with_reducible refine keeps_mk ?_ (wf_filter _) rfl rfl (Nat.le_refl _) (Nat.le_refl _))
    | fail_if_no_progress (with_reducible refine keeps_mk ?_ (wf_cellsSet _ _) rfl rfl (Nat.le_refl _) (Nat.le_refl _))
    | fail_if_no_progress (with_reducible refine keeps_mk ?_ (fun _ => rfl) rfl rfl (Nat.le_refl _) (Nat.le_refl _))

theorem writeTo_keeps {s0 : State} {s : State} {p : Nat} {e : Nat} {w : ReqId} {a : Nat} {bs : List (Byte × Bool)} (h0 : Keeps s0 s) : Keeps s0 (writeTo s p e w a bs).1 := by
  unfold writeTo
  repeat' first
    | with_reducible first
      | assumption | refine heronDiscard_keeps ?_ | refine homeStore_keeps ?_ | refine sendMsg_keeps ?_
      | refine writeMem_keeps ?_ | refine keeps_ite ?_ ?_ | refine keeps_ite1 ?_ ?_
      | refine keeps_foldl (fun _ _ _ => ?_) ?_ | refine keeps_forUp (fun _ _ _ => ?_) ?_
      | refine keeps_fold1 (fun _ _ _ => ?_) ?_ | refine keeps_foldRead (fun _ _ _ => ?_) ?_
      | refine keeps_foldMap (fun _ _ _ => ?_) ?_ | refine keeps_foldAcc (fun _ _ _ => ?_) ?_
      | refine keeps_foldWr (fun _ _ _ => ?_) ?_ | refine keeps_forUpWr (fun _ _ _ => ?_) ?_
      | refine keeps_foldAcc1 (fun _ _ _ => ?_) ?_
    | split | intro _ | dsimp only | fail_if_no_progress (with_reducible refine keeps_up ?_ rfl rfl rfl rfl rfl)
    | fail_if_no_progress (with_reducible refine keeps_mk ?_ id rfl rfl (Nat.le_add_right _ _) (Nat.le_refl _))
    | fail_if_no_progress (with_reducible refine keeps_mk ?_ (wf_filter _) rfl rfl (Nat.le_refl _) (Nat.le_refl _))
    | fail_if_no_progress (with_reducible refine keeps_mk ?_ (wf_cellsSet _ _) rfl rfl (Nat.le_refl _) (Nat.le_refl _))
    | fail_if_no_progress (with_reducible refine keeps_mk ?_ (fun _ => rfl) rfl rfl (Nat.le_refl _) (Nat.le_refl _))

theorem issueWrite_keeps {s0 : State} {s : State} {dt : Nat} {p : Nat} {e : Nat} {l : List (Nat × Nat × Nat)} {c : HCur} {num : Nat} {pa0 : Nat} {total : Nat} (h0 : Keeps s0 s) : Keeps s0 (issueWrite s dt p e l c num pa0 total) := by
  unfold issueWrite
  repeat' first
    | with_reducible first
      | assumption | refine addReq_keeps ?_ | refine guestWindowErr_keeps ?_ | refine loadUnits_keeps ?_
      | refine mapRun_keeps ?_ | refine spaceWrite_keeps ?_ | refine writeTo_keeps ?_ | refine keeps_ite ?_ ?_
      | refine keeps_fold1 (fun _ _ _ => ?_) ?_
    | split | fail_if_no_progress (with_reducible refine keeps_up ?_ rfl rfl rfl rfl rfl)

theorem issueFab_keeps {s0 : State} {s : State} {p : Nat} {e : Nat} {r : Rec} {l : List (Nat × Nat × Nat)} {c : HCur} {num : Nat} {a0 : Nat} {total : Nat} (h0 : Keeps s0 s) : Keeps s0 (issueFab s p e r l c num a0 total) := by
  unfold issueFab
  repeat' first
    | with_reducible first
      | assumption | refine addReq_keeps ?_ | refine heronDiscard_keeps ?_ | refine heronFault_keeps ?_
      | refine loadUnits_keeps ?_ | refine mapRun_keeps ?_ | refine sendRequest_keeps ?_
      | refine targetWrite_keeps ?_
    | split | dsimp only

theorem issueAt_keeps {s0 : State} {s : State} {dt : Nat} {p : Nat} {e : Nat} {r : Rec} {bad : List Nat} {c : HCur} {a : Nat} {pa : Option Nat} (h0 : Keeps s0 s) : Keeps s0 (issueAt s dt p e r bad c a pa) := by
  unfold issueAt
  repeat' first
    | with_reducible first
      | assumption | refine growReq_keeps ?_ | refine issueFab_keeps ?_ | refine issueRead_keeps ?_
      | refine issueWrite_keeps ?_ | refine keeps_ite ?_ ?_ | refine keeps_ite1 ?_ ?_
      | refine keeps_foldl (fun _ _ _ => ?_) ?_ | refine keeps_forUp (fun _ _ _ => ?_) ?_
      | refine keeps_fold1 (fun _ _ _ => ?_) ?_ | refine keeps_foldRead (fun _ _ _ => ?_) ?_
      | refine keeps_foldMap (fun _ _ _ => ?_) ?_ | refine keeps_foldAcc (fun _ _ _ => ?_) ?_
      | refine keeps_foldWr (fun _ _ _ => ?_) ?_ | refine keeps_forUpWr (fun _ _ _ => ?_) ?_
      | refine keeps_foldAcc1 (fun _ _ _ => ?_) ?_
    | split | intro _ | dsimp only | fail_if_no_progress (with_reducible refine keeps_up ?_ rfl rfl rfl rfl rfl)
    | fail_if_no_progress (with_reducible refine keeps_mk ?_ id rfl rfl (Nat.le_add_right _ _) (Nat.le_refl _))
    | fail_if_no_progress (with_reducible refine keeps_mk ?_ (wf_filter _) rfl rfl (Nat.le_refl _) (Nat.le_refl _))
    | fail_if_no_progress (with_reducible refine keeps_mk ?_ (wf_cellsSet _ _) rfl rfl (Nat.le_refl _) (Nat.le_refl _))
    | fail_if_no_progress (with_reducible refine keeps_mk ?_ (fun _ => rfl) rfl rfl (Nat.le_refl _) (Nat.le_refl _))

theorem demandItem_keeps {s0 : State} {s : State} {dt : Nat} {p : Nat} {e : Nat} {r : Rec} {bad : List Nat} {h : HRun} (h0 : Keeps s0 s) : Keeps s0 (demandItem s dt p e r bad h) := by
  unfold demandItem
  repeat' first
    | with_reducible first
      | assumption | refine endSeg_keeps ?_ | refine heronFault_keeps ?_ | refine heronXlatFault_keeps ?_
      | refine issueAt_keeps ?_ | refine loadUnits_keeps ?_ | refine mapRun_keeps ?_ | refine poisonNear_keeps ?_
      | refine startWalk_keeps ?_ | refine zeroNear_keeps ?_ | refine keeps_ite ?_ ?_ | refine keeps_ite1 ?_ ?_
      | refine keeps_foldl (fun _ _ _ => ?_) ?_ | refine keeps_forUp (fun _ _ _ => ?_) ?_
      | refine keeps_fold1 (fun _ _ _ => ?_) ?_ | refine keeps_foldRead (fun _ _ _ => ?_) ?_
      | refine keeps_foldMap (fun _ _ _ => ?_) ?_ | refine keeps_foldAcc (fun _ _ _ => ?_) ?_
      | refine keeps_foldWr (fun _ _ _ => ?_) ?_ | refine keeps_forUpWr (fun _ _ _ => ?_) ?_
      | refine keeps_foldAcc1 (fun _ _ _ => ?_) ?_
    | split | intro _ | dsimp only | fail_if_no_progress (with_reducible refine keeps_up ?_ rfl rfl rfl rfl rfl)
    | fail_if_no_progress (with_reducible refine keeps_mk ?_ id rfl rfl (Nat.le_add_right _ _) (Nat.le_refl _))
    | fail_if_no_progress (with_reducible refine keeps_mk ?_ (wf_filter _) rfl rfl (Nat.le_refl _) (Nat.le_refl _))
    | fail_if_no_progress (with_reducible refine keeps_mk ?_ (wf_cellsSet _ _) rfl rfl (Nat.le_refl _) (Nat.le_refl _))
    | fail_if_no_progress (with_reducible refine keeps_mk ?_ (fun _ => rfl) rfl rfl (Nat.le_refl _) (Nat.le_refl _))

theorem watchFlight_keeps {s0 : State} {s : State} {k : Nat} {l : Nat} {c : CmdRef} (h0 : Keeps s0 s) : Keeps s0 (watchFlight s k l c) := by
  unfold watchFlight
  repeat' first
    | with_reducible first
      | assumption | refine State_setCore_keeps ?_ | refine keeps_ite ?_ ?_ | refine keeps_ite1 ?_ ?_
      | refine keeps_foldl (fun _ _ _ => ?_) ?_ | refine keeps_forUp (fun _ _ _ => ?_) ?_
      | refine keeps_fold1 (fun _ _ _ => ?_) ?_ | refine keeps_foldRead (fun _ _ _ => ?_) ?_
      | refine keeps_foldMap (fun _ _ _ => ?_) ?_ | refine keeps_foldAcc (fun _ _ _ => ?_) ?_
      | refine keeps_foldWr (fun _ _ _ => ?_) ?_ | refine keeps_forUpWr (fun _ _ _ => ?_) ?_
      | refine keeps_foldAcc1 (fun _ _ _ => ?_) ?_
    | split | intro _ | dsimp only | fail_if_no_progress (with_reducible refine keeps_up ?_ rfl rfl rfl rfl rfl)
    | fail_if_no_progress (with_reducible refine keeps_mk ?_ id rfl rfl (Nat.le_add_right _ _) (Nat.le_refl _))
    | fail_if_no_progress (with_reducible refine keeps_mk ?_ (wf_filter _) rfl rfl (Nat.le_refl _) (Nat.le_refl _))
    | fail_if_no_progress (with_reducible refine keeps_mk ?_ (wf_cellsSet _ _) rfl rfl (Nat.le_refl _) (Nat.le_refl _))
    | fail_if_no_progress (with_reducible refine keeps_mk ?_ (fun _ => rfl) rfl rfl (Nat.le_refl _) (Nat.le_refl _))

theorem prefetchLine_keeps {s0 : State} {p : Nat} {e : Nat} {r : Rec} {h : HRun} {id : Nat} {l : Nat} {s : State} (h0 : Keeps s0 s) : Keeps s0 (prefetchLine p e r h id l s) := by
  unfold prefetchLine
  repeat' first
    | with_reducible first
      | assumption | refine State_setCore_keeps ?_ | refine coreCtr_keeps ?_ | refine mapRun_keeps ?_
      | refine queueCtr_keeps ?_ | refine sendMsg_keeps ?_ | refine watchFlight_keeps ?_ | refine keeps_ite ?_ ?_
      | refine keeps_ite1 ?_ ?_ | refine keeps_foldl (fun _ _ _ => ?_) ?_ | refine keeps_forUp (fun _ _ _ => ?_) ?_
      | refine keeps_fold1 (fun _ _ _ => ?_) ?_ | refine keeps_foldRead (fun _ _ _ => ?_) ?_
      | refine keeps_foldMap (fun _ _ _ => ?_) ?_ | refine keeps_foldAcc (fun _ _ _ => ?_) ?_
      | refine keeps_foldWr (fun _ _ _ => ?_) ?_ | refine keeps_forUpWr (fun _ _ _ => ?_) ?_
      | refine keeps_foldAcc1 (fun _ _ _ => ?_) ?_
    | split | intro _ | dsimp only | fail_if_no_progress (with_reducible refine keeps_up ?_ rfl rfl rfl rfl rfl)
    | fail_if_no_progress (with_reducible refine keeps_mk ?_ id rfl rfl (Nat.le_add_right _ _) (Nat.le_refl _))
    | fail_if_no_progress (with_reducible refine keeps_mk ?_ (wf_filter _) rfl rfl (Nat.le_refl _) (Nat.le_refl _))
    | fail_if_no_progress (with_reducible refine keeps_mk ?_ (wf_cellsSet _ _) rfl rfl (Nat.le_refl _) (Nat.le_refl _))
    | fail_if_no_progress (with_reducible refine keeps_mk ?_ (fun _ => rfl) rfl rfl (Nat.le_refl _) (Nat.le_refl _))

theorem prefetchDrop_keeps {s0 : State} {s : State} {p : Nat} {e : Nat} {q : Nat} {n : Nat} (h0 : Keeps s0 s) : Keeps s0 (prefetchDrop s p e q n) := by
  unfold prefetchDrop
  repeat' first
    | with_reducible first
      | assumption | refine coreCtr_keeps ?_ | refine mapRun_keeps ?_ | refine queueCtr_keeps ?_

theorem prefetchMove_keeps {s0 : State} {s : State} {p : Nat} {e : Nat} {r : Rec} {h : HRun} {c : HCur} {far : Int} {len : Nat} {room : Nat} (h0 : Keeps s0 s) : Keeps s0 (prefetchMove s p e r h c far len room) := by
  unfold prefetchMove
  repeat' first
    | with_reducible first
      | assumption | refine State_setHeng_keeps ?_ | refine mapRun_keeps ?_ | refine prefetchDrop_keeps ?_
      | refine prefetchLine_keeps ?_ | refine keeps_foldl (fun _ _ _ => ?_) ?_
    | split | dsimp only

theorem prefetchStep_keeps {s0 : State} {s : State} {p : Nat} {e : Nat} {r : Rec} {h : HRun} (h0 : Keeps s0 s) : Keeps s0 (prefetchStep s p e r h) := by
  unfold prefetchStep
  repeat' first
    | with_reducible first
      | assumption | refine heronFault_keeps ?_ | refine loadUnits_keeps ?_ | refine mapRun_keeps ?_
      | refine prefetchMove_keeps ?_
    | split | dsimp only

theorem heronIssue_keeps {s0 : State} {s : State} {p : Nat} {e : Nat} {pf : Bool} {dt : Nat} {bad : List Nat} (h0 : Keeps s0 s) : Keeps s0 (heronIssue s p e pf dt bad) := by
  unfold heronIssue
  repeat' first
    | with_reducible first
      | assumption | refine demandItem_keeps ?_ | refine heronCheck_keeps ?_ | refine prefetchStep_keeps ?_
      | refine sramSweep_keeps ?_ | refine keeps_ite ?_ ?_ | refine keeps_ite1 ?_ ?_
      | refine keeps_foldl (fun _ _ _ => ?_) ?_ | refine keeps_forUp (fun _ _ _ => ?_) ?_
      | refine keeps_fold1 (fun _ _ _ => ?_) ?_ | refine keeps_foldRead (fun _ _ _ => ?_) ?_
      | refine keeps_foldMap (fun _ _ _ => ?_) ?_ | refine keeps_foldAcc (fun _ _ _ => ?_) ?_
      | refine keeps_foldWr (fun _ _ _ => ?_) ?_ | refine keeps_forUpWr (fun _ _ _ => ?_) ?_
      | refine keeps_foldAcc1 (fun _ _ _ => ?_) ?_
    | split | intro _ | dsimp only | fail_if_no_progress (with_reducible refine keeps_up ?_ rfl rfl rfl rfl rfl)
    | fail_if_no_progress (with_reducible refine keeps_mk ?_ id rfl rfl (Nat.le_add_right _ _) (Nat.le_refl _))
    | fail_if_no_progress (with_reducible refine keeps_mk ?_ (wf_filter _) rfl rfl (Nat.le_refl _) (Nat.le_refl _))
    | fail_if_no_progress (with_reducible refine keeps_mk ?_ (wf_cellsSet _ _) rfl rfl (Nat.le_refl _) (Nat.le_refl _))
    | fail_if_no_progress (with_reducible refine keeps_mk ?_ (fun _ => rfl) rfl rfl (Nat.le_refl _) (Nat.le_refl _))

theorem walkDone_keeps {s0 : State} {s : State} {p : Nat} {e : Nat} (h0 : Keeps s0 s) : Keeps s0 (walkDone s p e) := by
  unfold walkDone
  repeat' first
    | with_reducible first
      | assumption | refine State_setCtx_keeps ?_ | refine State_setHeng_keeps ?_ | refine heronCheck_keeps ?_
      | refine heronXlatFault_keeps ?_ | refine tlbFill_keeps ?_
    | split | dsimp only

theorem readResponse_keeps {s0 : State} {s : State} {p : Nat} {e : Nat} {id : Nat} {dt : Nat} {data : List Byte} {err : Bool} (h0 : Keeps s0 s) : Keeps s0 (readResponse s p e id dt data err) := by
  unfold readResponse
  repeat' first
    | with_reducible first
      | assumption | refine deliverSegs_keeps ?_ | refine detectSegs_keeps ?_ | refine drawBytes_keeps ?_
      | refine guestWindowErr_keeps ?_ | refine heronCheck_keeps ?_ | refine heronFault_keeps ?_
      | refine mapRun_keeps ?_ | refine spaceRead_keeps ?_ | refine targetRead_keeps ?_
    | split | dsimp only

theorem writeAck_keeps {s0 : State} {s : State} {p : Nat} {e : Nat} {id : Nat} (h0 : Keeps s0 s) : Keeps s0 (writeAck s p e id) := by
  unfold writeAck
  repeat' first
    | with_reducible first
      | assumption | refine guestWindowErr_keeps ?_ | refine heronRetire_keeps ?_ | refine keepSegs_keeps ?_
      | refine keeps_ite ?_ ?_ | refine keeps_ite1 ?_ ?_ | refine keeps_foldl (fun _ _ _ => ?_) ?_
      | refine keeps_forUp (fun _ _ _ => ?_) ?_ | refine keeps_fold1 (fun _ _ _ => ?_) ?_
      | refine keeps_foldRead (fun _ _ _ => ?_) ?_ | refine keeps_foldMap (fun _ _ _ => ?_) ?_
      | refine keeps_foldAcc (fun _ _ _ => ?_) ?_ | refine keeps_foldWr (fun _ _ _ => ?_) ?_
      | refine keeps_forUpWr (fun _ _ _ => ?_) ?_ | refine keeps_foldAcc1 (fun _ _ _ => ?_) ?_
    | split | intro _ | dsimp only | fail_if_no_progress (with_reducible refine keeps_up ?_ rfl rfl rfl rfl rfl)
    | fail_if_no_progress (with_reducible refine keeps_mk ?_ id rfl rfl (Nat.le_add_right _ _) (Nat.le_refl _))
    | fail_if_no_progress (with_reducible refine keeps_mk ?_ (wf_filter _) rfl rfl (Nat.le_refl _) (Nat.le_refl _))
    | fail_if_no_progress (with_reducible refine keeps_mk ?_ (wf_cellsSet _ _) rfl rfl (Nat.le_refl _) (Nat.le_refl _))
    | fail_if_no_progress (with_reducible refine keeps_mk ?_ (fun _ => rfl) rfl rfl (Nat.le_refl _) (Nat.le_refl _))

theorem execGather_keeps {s0 : State} {q : Fin 64} {n : Nat} {s : State} (h0 : Keeps s0 s) : OutKeeps s0 (execGather q n s) := by
  unfold execGather
  repeat' first
    | with_reducible first
      | assumption | refine outKeeps_next ?_ | refine heronRun_keeps ?_

theorem execPrefetch_keeps {s0 : State} {q : Fin 64} {n : Nat} {s : State} (h0 : Keeps s0 s) : OutKeeps s0 (execPrefetch q n s) := by
  unfold execPrefetch
  repeat' first
    | with_reducible first
      | assumption | refine outKeeps_next ?_ | refine heronRun_keeps ?_

theorem execHeronRequestIssue_keeps {s0 : State} {p : Fin 256} {e : Bool} {pf : Bool} {w : IssueInput} {s : State} (h0 : Keeps s0 s) : OutKeeps s0 (execHeronRequestIssue p e pf w s) := by
  unfold execHeronRequestIssue
  repeat' first
    | with_reducible first
      | assumption | refine outKeeps_next ?_ | exact outKeeps_refused | refine outKeeps_ite ?_ ?_
      | refine heronIssue_keeps ?_ | refine keeps_ite ?_ ?_ | refine keeps_ite1 ?_ ?_
      | refine keeps_foldl (fun _ _ _ => ?_) ?_ | refine keeps_forUp (fun _ _ _ => ?_) ?_
      | refine keeps_fold1 (fun _ _ _ => ?_) ?_ | refine keeps_foldRead (fun _ _ _ => ?_) ?_
      | refine keeps_foldMap (fun _ _ _ => ?_) ?_ | refine keeps_foldAcc (fun _ _ _ => ?_) ?_
      | refine keeps_foldWr (fun _ _ _ => ?_) ?_ | refine keeps_forUpWr (fun _ _ _ => ?_) ?_
      | refine keeps_foldAcc1 (fun _ _ _ => ?_) ?_
    | split | intro _ | dsimp only | fail_if_no_progress (with_reducible refine keeps_up ?_ rfl rfl rfl rfl rfl)
    | fail_if_no_progress (with_reducible refine keeps_mk ?_ id rfl rfl (Nat.le_add_right _ _) (Nat.le_refl _))
    | fail_if_no_progress (with_reducible refine keeps_mk ?_ (wf_filter _) rfl rfl (Nat.le_refl _) (Nat.le_refl _))
    | fail_if_no_progress (with_reducible refine keeps_mk ?_ (wf_cellsSet _ _) rfl rfl (Nat.le_refl _) (Nat.le_refl _))
    | fail_if_no_progress (with_reducible refine keeps_mk ?_ (fun _ => rfl) rfl rfl (Nat.le_refl _) (Nat.le_refl _))

theorem execPageWalk_keeps {s0 : State} {p : Fin 256} {e : Bool} {s : State} (h0 : Keeps s0 s) : OutKeeps s0 (execPageWalk p e s) := by
  unfold execPageWalk
  repeat' first
    | with_reducible first
      | assumption | refine outKeeps_next ?_ | refine walkDone_keeps ?_

theorem execHeronReadResponse_keeps {s0 : State} {p : Fin 256} {e : Bool} {id : Nat} {dt : Nat} {data : List Byte} {err : Bool} {s : State} (h0 : Keeps s0 s) : OutKeeps s0 (execHeronReadResponse p e id dt data err s) := by
  unfold execHeronReadResponse
  repeat' first
    | with_reducible first
      | assumption | refine outKeeps_next ?_ | refine readResponse_keeps ?_ | refine sramSweep_keeps ?_

theorem execHeronWriteAck_keeps {s0 : State} {p : Fin 256} {e : Bool} {id : Nat} {s : State} (h0 : Keeps s0 s) : OutKeeps s0 (execHeronWriteAck p e id s) := by
  unfold execHeronWriteAck
  repeat' first
    | with_reducible first
      | assumption | refine outKeeps_next ?_ | refine writeAck_keeps ?_

theorem execPrefetchFill_keeps {s0 : State} {p : Fin 256} {i : Nat} {s : State} (h0 : Keeps s0 s) : OutKeeps s0 (execPrefetchFill p i s) := by
  unfold execPrefetchFill
  repeat' first
    | with_reducible first
      | assumption | refine outKeeps_next ?_ | refine fillPrefetch_keeps ?_ | refine readLine_keeps ?_
    | split

end Sys2Proof.Machine
end

