-- ==== Sys2Proof/Laws/KeepsCmds.lean ====
section
/-!
SUPPORT. The preservation lemmas of the drains, host, links, power, security and updates.
-/
namespace Sys2Proof.Machine

theorem dropMsg_keeps {s0 : State} {s : State} {i : Nat} (h0 : Keeps s0 s) : Keeps s0 (dropMsg s i) :=
  keeps_up h0 rfl rfl rfl rfl rfl

theorem onMsg_keeps {s0 : State} {s : State} {i : Nat} {t : Nat} {f : State → DieMsg → State} (h0 : Keeps s0 s) (h1 : ∀ v0 v1, Keeps s0 v0 → Keeps s0 (f v0 v1)) : Keeps s0 (onMsg s i t f) := by
  unfold onMsg
  repeat' first
    | with_reducible first
      | assumption | refine dropMsg_keeps ?_ | refine h1 _ _ ?_
    | split

theorem sendInv_keeps {s0 : State} {s : State} {l : Nat} {v : BitVec 4} {flag : Bool} (h0 : Keeps s0 s) : Keeps s0 (sendInv s l v flag) := by
  unfold sendInv
  repeat' first
    | with_reducible first
      | assumption | refine dirBump_keeps ?_ | refine sendMsg_keeps ?_ | refine keeps_ite ?_ ?_
      | refine keeps_ite1 ?_ ?_ | refine keeps_foldl (fun _ _ _ => ?_) ?_ | refine keeps_forUp (fun _ _ _ => ?_) ?_
      | refine keeps_fold1 (fun _ _ _ => ?_) ?_ | refine keeps_foldRead (fun _ _ _ => ?_) ?_
      | refine keeps_foldMap (fun _ _ _ => ?_) ?_ | refine keeps_foldAcc (fun _ _ _ => ?_) ?_
      | refine keeps_foldWr (fun _ _ _ => ?_) ?_ | refine keeps_forUpWr (fun _ _ _ => ?_) ?_
      | refine keeps_foldAcc1 (fun _ _ _ => ?_) ?_
    | split | intro _ | dsimp only | fail_if_no_progress (with_reducible refine keeps_up ?_ rfl rfl rfl rfl rfl)
    | fail_if_no_progress (with_reducible refine keeps_mk ?_ id rfl rfl (Nat.le_add_right _ _) (Nat.le_refl _))
    | fail_if_no_progress (with_reducible refine keeps_mk ?_ (wf_filter _) rfl rfl (Nat.le_refl _) (Nat.le_refl _))
    | fail_if_no_progress (with_reducible refine keeps_mk ?_ (wf_cellsSet _ _) rfl rfl (Nat.le_refl _) (Nat.le_refl _))
    | fail_if_no_progress (with_reducible refine keeps_mk ?_ (fun _ => rfl) rfl rfl (Nat.le_refl _) (Nat.le_refl _))

theorem settleDir_keeps {s0 : State} {s : State} {l : Nat} (h0 : Keeps s0 s) : Keeps s0 (settleDir s l) := by
  unfold settleDir
  repeat' first
    | with_reducible first
      | assumption | refine sendMsg_keeps ?_
    | split | fail_if_no_progress (with_reducible refine keeps_up ?_ rfl rfl rfl rfl rfl)

theorem readDirect_keeps {s0 : State} {s : State} {m : DieMsg} (h0 : Keeps s0 s) : Keeps s0 (readDirect s m) := by
  unfold readDirect
  repeat' first
    | with_reducible first
      | assumption | refine readLine_keeps ?_ | refine sendMsg_keeps ?_

theorem dirFill_keeps {s0 : State} {s : State} {m : DieMsg} {e : DirEntry} {isNew : Bool} (h0 : Keeps s0 s) : Keeps s0 (dirFill s m e isNew) :=
  keeps_up h0 rfl rfl rfl rfl rfl

theorem readAtK_keeps {s0 : State} {s : State} {i : Nat} {m : DieMsg} (h0 : Keeps s0 s) : Keeps s0 (readAtK s i m) := by
  unfold readAtK
  repeat' first
    | with_reducible first
      | assumption | refine dirBump_keeps ?_ | refine dirFill_keeps ?_ | refine dropMsg_keeps ?_
      | refine mapDir_keeps ?_ | refine readDirect_keeps ?_ | refine sendInv_keeps ?_ | refine keeps_ite ?_ ?_
    | split

theorem filterInc_keeps {s0 : State} {s : State} {l : Nat} (h0 : Keeps s0 s) : Keeps s0 (filterInc s l) := by
  unfold filterInc
  repeat' first
    | with_reducible first
      | assumption | refine State_setDie_keeps ?_ | refine dirBump_keeps ?_ | refine keeps_ite ?_ ?_

theorem readAtHome_keeps {s0 : State} {s : State} {m : DieMsg} (h0 : Keeps s0 s) : Keeps s0 (readAtHome s m) := by
  unfold readAtHome
  repeat' first
    | with_reducible first
      | assumption | refine filterInc_keeps ?_ | refine readLine_keeps ?_ | refine sendMsg_keeps ?_
      | refine keeps_ite ?_ ?_

theorem readBack_keeps {s0 : State} {s : State} {m : DieMsg} (h0 : Keeps s0 s) : Keeps s0 (readBack s m) := by
  unfold readBack
  repeat' first
    | with_reducible first
      | assumption | refine deliverLine_keeps ?_ | refine fillPrefetch_keeps ?_ | refine installLine_keeps ?_
      | refine mapDir_keeps ?_ | refine settleDir_keeps ?_
    | split

theorem writeAtHome_keeps {s0 : State} {s : State} {i : Nat} {m : DieMsg} (h0 : Keeps s0 s) : Keeps s0 (writeAtHome s i m) := by
  unfold writeAtHome
  repeat' first
    | with_reducible first
      | assumption | refine dropMsg_keeps ?_ | refine heronDiscard_keeps ?_ | refine homeStore_keeps ?_
      | refine sendMsg_keeps ?_ | refine writeMem_keeps ?_ | refine keeps_ite ?_ ?_ | refine keeps_ite1 ?_ ?_
      | refine keeps_foldl (fun _ _ _ => ?_) ?_ | refine keeps_forUp (fun _ _ _ => ?_) ?_
      | refine keeps_fold1 (fun _ _ _ => ?_) ?_ | refine keeps_foldRead (fun _ _ _ => ?_) ?_
      | refine keeps_foldMap (fun _ _ _ => ?_) ?_ | refine keeps_foldAcc (fun _ _ _ => ?_) ?_
      | refine keeps_foldWr (fun _ _ _ => ?_) ?_ | refine keeps_forUpWr (fun _ _ _ => ?_) ?_
      | refine keeps_foldAcc1 (fun _ _ _ => ?_) ?_
    | split | intro _ | dsimp only | fail_if_no_progress (with_reducible refine keeps_up ?_ rfl rfl rfl rfl rfl)
    | fail_if_no_progress (with_reducible refine keeps_mk ?_ id rfl rfl (Nat.le_add_right _ _) (Nat.le_refl _))
    | fail_if_no_progress (with_reducible refine keeps_mk ?_ (wf_filter _) rfl rfl (Nat.le_refl _) (Nat.le_refl _))
    | fail_if_no_progress (with_reducible refine keeps_mk ?_ (wf_cellsSet _ _) rfl rfl (Nat.le_refl _) (Nat.le_refl _))
    | fail_if_no_progress (with_reducible refine keeps_mk ?_ (fun _ => rfl) rfl rfl (Nat.le_refl _) (Nat.le_refl _))

theorem writeBack_keeps {s0 : State} {s : State} {m : DieMsg} (h0 : Keeps s0 s) : Keeps s0 (writeBack s m) := by
  unfold writeBack
  repeat' first
    | with_reducible first
      | assumption | refine heronRetire_keeps ?_ | refine keepSegs_keeps ?_
    | split

theorem invAtK_keeps {s0 : State} {s : State} {m : DieMsg} (h0 : Keeps s0 s) : Keeps s0 (invAtK s m) := by
  unfold invAtK
  repeat' first
    | with_reducible first
      | assumption | refine dirBump_keeps ?_ | refine mapDir_keeps ?_ | refine sendInv_keeps ?_
      | refine sendMsg_keeps ?_ | refine settleDir_keeps ?_
    | split | dsimp only

theorem invAtCache_keeps {s0 : State} {s : State} {m : DieMsg} (h0 : Keeps s0 s) : Keeps s0 (invAtCache s m) := by
  unfold invAtCache
  repeat' first
    | with_reducible first
      | assumption | refine sendMsg_keeps ?_ | refine uncache_keeps ?_

theorem invAcked_keeps {s0 : State} {s : State} {m : DieMsg} (h0 : Keeps s0 s) : Keeps s0 (invAcked s m) := by
  unfold invAcked
  repeat' first
    | with_reducible first
      | assumption | refine mapDir_keeps ?_ | refine sendMsg_keeps ?_ | refine settleDir_keeps ?_
    | split

theorem invFinished_keeps {s0 : State} {s : State} {m : DieMsg} (h0 : Keeps s0 s) : Keeps s0 (invFinished s m) := by
  unfold invFinished
  repeat' first
    | with_reducible first
      | assumption | refine sendMsg_keeps ?_ | refine writeBack_keeps ?_ | refine keeps_ite ?_ ?_
      | refine keeps_ite1 ?_ ?_ | refine keeps_foldl (fun _ _ _ => ?_) ?_ | refine keeps_forUp (fun _ _ _ => ?_) ?_
      | refine keeps_fold1 (fun _ _ _ => ?_) ?_ | refine keeps_foldRead (fun _ _ _ => ?_) ?_
      | refine keeps_foldMap (fun _ _ _ => ?_) ?_ | refine keeps_foldAcc (fun _ _ _ => ?_) ?_
      | refine keeps_foldWr (fun _ _ _ => ?_) ?_ | refine keeps_forUpWr (fun _ _ _ => ?_) ?_
      | refine keeps_foldAcc1 (fun _ _ _ => ?_) ?_
    | split | intro _ | dsimp only | fail_if_no_progress (with_reducible refine keeps_up ?_ rfl rfl rfl rfl rfl)
    | fail_if_no_progress (with_reducible refine keeps_mk ?_ id rfl rfl (Nat.le_add_right _ _) (Nat.le_refl _))
    | fail_if_no_progress (with_reducible refine keeps_mk ?_ (wf_filter _) rfl rfl (Nat.le_refl _) (Nat.le_refl _))
    | fail_if_no_progress (with_reducible refine keeps_mk ?_ (wf_cellsSet _ _) rfl rfl (Nat.le_refl _) (Nat.le_refl _))
    | fail_if_no_progress (with_reducible refine keeps_mk ?_ (fun _ => rfl) rfl rfl (Nat.le_refl _) (Nat.le_refl _))

theorem evictNoted_keeps {s0 : State} {s : State} {m : DieMsg} (h0 : Keeps s0 s) : Keeps s0 (evictNoted s m) := by
  unfold evictNoted
  repeat' first
    | with_reducible first
      | assumption | refine mapDir_keeps ?_ | refine settleDir_keeps ?_
    | split

theorem execRd_keeps {s0 : State} {i : Nat} {s : State} (h0 : Keeps s0 s) : OutKeeps s0 (execRd i s) := by
  unfold execRd
  repeat' first
    | with_reducible first
      | assumption | refine outKeeps_next ?_ | refine readAtK_keeps ?_ | refine sramSweep_keeps ?_
    | split

theorem execRdRc_keeps {s0 : State} {i : Nat} {s : State} (h0 : Keeps s0 s) : OutKeeps s0 (execRdRc i s) := by
  unfold execRdRc
  repeat' first
    | with_reducible first
      | assumption | refine outKeeps_next ?_ | refine onMsg_keeps ?_ ?_ | refine readAtHome_keeps ?_
    | intro _

theorem execRsp_keeps {s0 : State} {i : Nat} {s : State} (h0 : Keeps s0 s) : OutKeeps s0 (execRsp i s) := by
  unfold execRsp
  repeat' first
    | with_reducible first
      | assumption | refine outKeeps_next ?_ | refine onMsg_keeps ?_ ?_ | refine readBack_keeps ?_
      | refine sramSweep_keeps ?_
    | intro _

theorem execWr_keeps {s0 : State} {i : Nat} {s : State} (h0 : Keeps s0 s) : OutKeeps s0 (execWr i s) := by
  unfold execWr
  repeat' first
    | with_reducible first
      | assumption | refine outKeeps_next ?_ | refine writeAtHome_keeps ?_
    | split

theorem execWrAck_keeps {s0 : State} {i : Nat} {s : State} (h0 : Keeps s0 s) : OutKeeps s0 (execWrAck i s) := by
  unfold execWrAck
  repeat' first
    | with_reducible first
      | assumption | refine outKeeps_next ?_ | refine onMsg_keeps ?_ ?_ | refine writeBack_keeps ?_
    | intro _

theorem execInv_keeps {s0 : State} {i : Nat} {s : State} (h0 : Keeps s0 s) : OutKeeps s0 (execInv i s) := by
  unfold execInv
  repeat' first
    | with_reducible first
      | assumption | refine outKeeps_next ?_ | refine invAtCache_keeps ?_ | refine invAtK_keeps ?_
      | refine onMsg_keeps ?_ ?_ | refine keeps_ite ?_ ?_
    | intro _

theorem execInvAck_keeps {s0 : State} {i : Nat} {s : State} (h0 : Keeps s0 s) : OutKeeps s0 (execInvAck i s) := by
  unfold execInvAck
  repeat' first
    | with_reducible first
      | assumption | refine outKeeps_next ?_ | refine invAcked_keeps ?_ | refine onMsg_keeps ?_ ?_
    | intro _

theorem execInvDone_keeps {s0 : State} {i : Nat} {s : State} (h0 : Keeps s0 s) : OutKeeps s0 (execInvDone i s) := by
  unfold execInvDone
  repeat' first
    | with_reducible first
      | assumption | refine outKeeps_next ?_ | refine invFinished_keeps ?_ | refine onMsg_keeps ?_ ?_
    | intro _

theorem execEvictNote_keeps {s0 : State} {i : Nat} {s : State} (h0 : Keeps s0 s) : OutKeeps s0 (execEvictNote i s) := by
  unfold execEvictNote
  repeat' first
    | with_reducible first
      | assumption | refine outKeeps_next ?_ | refine evictNoted_keeps ?_ | refine onMsg_keeps ?_ ?_
    | intro _

theorem execFdec_keeps {s0 : State} {i : Nat} {s : State} (h0 : Keeps s0 s) : OutKeeps s0 (execFdec i s) := by
  unfold execFdec
  repeat' first
    | with_reducible first
      | assumption | refine outKeeps_next ?_ | refine filterDec_keeps ?_ | refine onMsg_keeps ?_ ?_
    | intro _

theorem storeMarked_keeps {s0 : State} {s : State} {a : Nat} {bs : List (Byte × Bool)} (h0 : Keeps s0 s) : Keeps s0 (storeMarked s a bs) := by
  unfold storeMarked
  repeat' first
    | with_reducible first
      | assumption | refine writeMem_keeps ?_ | refine keeps_foldl (fun _ _ _ => ?_) ?_
    | split

theorem drainXlate_keeps {s0 : State} {s : State} {p : Nat} {ctx : Nat} {va : Nat} (h0 : Keeps s0 s) : Keeps s0 (drainXlate s p ctx va).1 := by
  unfold drainXlate
  repeat' first
    | with_reducible first
      | assumption | refine coreCtr_keeps ?_ | refine ctxCtr_keeps ?_ | refine tlbFill_keeps ?_
    | split | dsimp only

theorem drainPart_keeps {s0 : State} {dt : Nat} {q : Nat} {a : Nat} {bs : List (Byte × Bool)} {x : DrainWr} (h0 : Keeps s0 x.s) : Keeps s0 (drainPart dt q a bs x).s := by
  unfold drainPart
  repeat' first
    | with_reducible first
      | assumption | refine logAdd_keeps ?_ | refine noteDiscard_keeps ?_ | refine spaceWrite_keeps ?_
      | refine storeMarked_keeps ?_
    | split | dsimp only | fail_if_no_progress (with_reducible refine keeps_up ?_ rfl rfl rfl rfl rfl)

theorem drainRow_keeps {s0 : State} {dt : Nat} {p : Nat} {q : Nat} {ctx : Nat} {va : Nat} {bs : List (Byte × Bool)} {x : DrainWr} (h0 : Keeps s0 x.s) : Keeps s0 (drainRow dt p q ctx va bs x).s := by
  unfold drainRow
  repeat' first
    | with_reducible first
      | assumption | refine drainPart_keeps ?_ | refine drainXlate_keeps ?_
      | refine keeps_fold1 (fun _ _ _ => ?_) ?_ | refine keeps_foldWr (fun _ _ _ => ?_) ?_
    | split | dsimp only

theorem drainRows_keeps {s0 : State} {s : State} {dt : Nat} {p : Nat} {q : Nat} {r : Rec} {rows : List (List (Byte × Bool))} (h0 : Keeps s0 s) : Keeps s0 (drainRows s dt p q r rows).1 := by
  unfold drainRows
  repeat' first
    | with_reducible first
      | assumption | refine drainRow_keeps ?_ | refine storeMarked_keeps ?_
      | refine keeps_forUpWr (fun _ _ _ => ?_) ?_
    | split

theorem scaleReads_keeps {s0 : State} {s : State} {p : Nat} {q : Nat} {r : Rec} (h0 : Keeps s0 s) : Keeps s0 (scaleReads s p q r) := by
  unfold scaleReads
  repeat' first
    | with_reducible first
      | assumption | refine scaleRead_keeps ?_ | refine keeps_ite ?_ ?_ | refine keeps_ite1 ?_ ?_
      | refine keeps_foldl (fun _ _ _ => ?_) ?_ | refine keeps_forUp (fun _ _ _ => ?_) ?_
      | refine keeps_fold1 (fun _ _ _ => ?_) ?_ | refine keeps_foldRead (fun _ _ _ => ?_) ?_
      | refine keeps_foldMap (fun _ _ _ => ?_) ?_ | refine keeps_foldAcc (fun _ _ _ => ?_) ?_
      | refine keeps_foldWr (fun _ _ _ => ?_) ?_ | refine keeps_forUpWr (fun _ _ _ => ?_) ?_
      | refine keeps_foldAcc1 (fun _ _ _ => ?_) ?_
    | split | intro _ | dsimp only | fail_if_no_progress (with_reducible refine keeps_up ?_ rfl rfl rfl rfl rfl)
    | fail_if_no_progress (with_reducible refine keeps_mk ?_ id rfl rfl (Nat.le_add_right _ _) (Nat.le_refl _))
    | fail_if_no_progress (with_reducible refine keeps_mk ?_ (wf_filter _) rfl rfl (Nat.le_refl _) (Nat.le_refl _))
    | fail_if_no_progress (with_reducible refine keeps_mk ?_ (wf_cellsSet _ _) rfl rfl (Nat.le_refl _) (Nat.le_refl _))
    | fail_if_no_progress (with_reducible refine keeps_mk ?_ (fun _ => rfl) rfl rfl (Nat.le_refl _) (Nat.le_refl _))

theorem drainRun_keeps {s0 : State} {s : State} {q : Nat} {n : Nat} {op : Nat} (h0 : Keeps s0 s) : Keeps s0 (drainRun s q n op) := by
  unfold drainRun
  repeat' first
    | with_reducible first
      | assumption | refine checked_keeps ?_ ?_ | refine dispatch_keeps ?_ ?_ | refine mxaEnqueue_keeps ?_
      | refine scaleReads_keeps ?_ | refine keeps_ite ?_ ?_ | refine keeps_ite1 ?_ ?_
      | refine keeps_foldl (fun _ _ _ => ?_) ?_ | refine keeps_forUp (fun _ _ _ => ?_) ?_
      | refine keeps_fold1 (fun _ _ _ => ?_) ?_ | refine keeps_foldRead (fun _ _ _ => ?_) ?_
      | refine keeps_foldMap (fun _ _ _ => ?_) ?_ | refine keeps_foldAcc (fun _ _ _ => ?_) ?_
      | refine keeps_foldWr (fun _ _ _ => ?_) ?_ | refine keeps_forUpWr (fun _ _ _ => ?_) ?_
      | refine keeps_foldAcc1 (fun _ _ _ => ?_) ?_
    | split | intro _ | dsimp only | fail_if_no_progress (with_reducible refine keeps_up ?_ rfl rfl rfl rfl rfl)
    | fail_if_no_progress (with_reducible refine keeps_mk ?_ id rfl rfl (Nat.le_add_right _ _) (Nat.le_refl _))
    | fail_if_no_progress (with_reducible refine keeps_mk ?_ (wf_filter _) rfl rfl (Nat.le_refl _) (Nat.le_refl _))
    | fail_if_no_progress (with_reducible refine keeps_mk ?_ (wf_cellsSet _ _) rfl rfl (Nat.le_refl _) (Nat.le_refl _))
    | fail_if_no_progress (with_reducible refine keeps_mk ?_ (fun _ => rfl) rfl rfl (Nat.le_refl _) (Nat.le_refl _))

theorem wispOffer_keeps {s0 : State} {s : State} {p : Nat} {q : Nat} {r : Rec} {vals : List Nat} (h0 : Keeps s0 s) : Keeps s0 (wispOffer s p q r vals).1 := by
  unfold wispOffer
  repeat' first
    | with_reducible first
      | assumption | refine numxCtr_keeps ?_ | refine setMxa_keeps ?_
    | split | dsimp only

theorem wispFill_keeps {s0 : State} {s : State} {p : Nat} {sel : Bool} {r : Rec} {o : TileOut} {e : Int} (h0 : Keeps s0 s) : Keeps s0 (wispFill s p sel r o e) := by
  unfold wispFill
  repeat' first
    | with_reducible first
      | assumption | refine setMxa_keeps ?_
    | split | dsimp only

theorem wispExcursion_keeps {s0 : State} {s : State} {p : Nat} {w : WispTask} {err : Nat} (h0 : Keeps s0 s) : Keeps s0 (wispExcursion s p w err) := by
  unfold wispExcursion
  repeat' first
    | with_reducible first
      | assumption | refine State_setEntry_keeps ?_ | refine logAdd_keeps ?_ | refine numxCtr_keeps ?_
      | refine keeps_ite ?_ ?_

theorem wispDone_keeps {s0 : State} {s : State} {p : Nat} (h0 : Keeps s0 s) : Keeps s0 (wispDone s p) := by
  unfold wispDone
  repeat' first
    | with_reducible first
      | assumption | refine setMxa_keeps ?_ | refine wispExcursion_keeps ?_
    | split | dsimp only

theorem drainEnd_keeps {s0 : State} {s : State} {p : Nat} {c : CmdRef} {r : Rec} {f : DrainFin} (h0 : Keeps s0 s) : Keeps s0 (drainEnd s p c r f) := by
  unfold drainEnd
  repeat' first
    | with_reducible first
      | assumption | refine complete_keeps ?_ | refine coreCtr_keeps ?_ | refine recordAmax_keeps ?_
      | refine keeps_ite ?_ ?_

theorem drainPut_keeps {s0 : State} {s : State} {dt : Nat} {p : Nat} {q : Nat} {r : Rec} {o : TileOut} (h0 : Keeps s0 s) : Keeps s0 (drainPut s dt p q r o).1 := by
  unfold drainPut
  repeat' first
    | with_reducible first
      | assumption | refine drainRows_keeps ?_ | refine setMxa_keeps ?_
    | split

theorem peatHold_keeps {s0 : State} {s : State} {p : Nat} {q : Nat} {r : Rec} {vals : List Nat} (h0 : Keeps s0 s) : Keeps s0 (peatHold s p q r vals) :=
  keeps_up h0 rfl rfl rfl rfl rfl

theorem peatTie_keeps {s0 : State} {s : State} {dt : Nat} {p : Nat} {c : CmdRef} {r : Rec} {vals : List Nat} {f : DrainFin} (h0 : Keeps s0 s) : Keeps s0 (peatTie s dt p c r vals f) := by
  unfold peatTie
  repeat' first
    | with_reducible first
      | assumption | refine coreCtr_keeps ?_ | refine drainEnd_keeps ?_ | refine drainRows_keeps ?_
      | refine setMxa_keeps ?_ | refine keeps_ite ?_ ?_ | refine keeps_ite1 ?_ ?_
      | refine keeps_foldl (fun _ _ _ => ?_) ?_ | refine keeps_forUp (fun _ _ _ => ?_) ?_
      | refine keeps_fold1 (fun _ _ _ => ?_) ?_ | refine keeps_foldRead (fun _ _ _ => ?_) ?_
      | refine keeps_foldMap (fun _ _ _ => ?_) ?_ | refine keeps_foldAcc (fun _ _ _ => ?_) ?_
      | refine keeps_foldWr (fun _ _ _ => ?_) ?_ | refine keeps_forUpWr (fun _ _ _ => ?_) ?_
      | refine keeps_foldAcc1 (fun _ _ _ => ?_) ?_
    | split | intro _ | dsimp only | fail_if_no_progress (with_reducible refine keeps_up ?_ rfl rfl rfl rfl rfl)
    | fail_if_no_progress (with_reducible refine keeps_mk ?_ id rfl rfl (Nat.le_add_right _ _) (Nat.le_refl _))
    | fail_if_no_progress (with_reducible refine keeps_mk ?_ (wf_filter _) rfl rfl (Nat.le_refl _) (Nat.le_refl _))
    | fail_if_no_progress (with_reducible refine keeps_mk ?_ (wf_cellsSet _ _) rfl rfl (Nat.le_refl _) (Nat.le_refl _))
    | fail_if_no_progress (with_reducible refine keeps_mk ?_ (fun _ => rfl) rfl rfl (Nat.le_refl _) (Nat.le_refl _))

theorem drainOnce_keeps {s0 : State} {s : State} {dt : Nat} {p : Nat} {c : CmdRef} {r : Rec} {vals : List Nat} {f : DrainFin} (h0 : Keeps s0 s) : Keeps s0 (drainOnce s dt p c r vals f) := by
  unfold drainOnce
  repeat' first
    | with_reducible first
      | assumption | refine drainEnd_keeps ?_ | refine drainPut_keeps ?_ | refine peatHold_keeps ?_
      | refine peatTie_keeps ?_ | refine setMxa_keeps ?_ | refine wispFill_keeps ?_ | refine keeps_ite ?_ ?_

theorem drainCold_keeps {s0 : State} {s : State} {p : Nat} {c : CmdRef} {r : Rec} {vals : List Nat} {f : DrainFin} (h0 : Keeps s0 s) : Keeps s0 (drainCold s p c r vals f) :=
  keeps_up h0 rfl rfl rfl rfl rfl

theorem peatDetect_keeps {s0 : State} {s : State} {p : Nat} {e : Nat} {ws : List Nat} (h0 : Keeps s0 s) : Keeps s0 (peatDetect s p e ws) := by
  unfold peatDetect
  repeat' first
    | with_reducible first
      | assumption | refine State_setCore_keeps ?_ | refine logAdd_keeps ?_ | refine setMxa_keeps ?_
      | refine keeps_ite ?_ ?_ | refine keeps_ite1 ?_ ?_ | refine keeps_foldl (fun _ _ _ => ?_) ?_
      | refine keeps_forUp (fun _ _ _ => ?_) ?_ | refine keeps_fold1 (fun _ _ _ => ?_) ?_
      | refine keeps_foldRead (fun _ _ _ => ?_) ?_ | refine keeps_foldMap (fun _ _ _ => ?_) ?_
      | refine keeps_foldAcc (fun _ _ _ => ?_) ?_ | refine keeps_foldWr (fun _ _ _ => ?_) ?_
      | refine keeps_forUpWr (fun _ _ _ => ?_) ?_ | refine keeps_foldAcc1 (fun _ _ _ => ?_) ?_
    | split | intro _ | dsimp only | fail_if_no_progress (with_reducible refine keeps_up ?_ rfl rfl rfl rfl rfl)
    | fail_if_no_progress (with_reducible refine keeps_mk ?_ id rfl rfl (Nat.le_add_right _ _) (Nat.le_refl _))
    | fail_if_no_progress (with_reducible refine keeps_mk ?_ (wf_filter _) rfl rfl (Nat.le_refl _) (Nat.le_refl _))
    | fail_if_no_progress (with_reducible refine keeps_mk ?_ (wf_cellsSet _ _) rfl rfl (Nat.le_refl _) (Nat.le_refl _))
    | fail_if_no_progress (with_reducible refine keeps_mk ?_ (fun _ => rfl) rfl rfl (Nat.le_refl _) (Nat.le_refl _))

theorem drainGo_keeps {s0 : State} {s : State} {dt : Nat} {p : Nat} {words : List Nat} {c : CmdRef} {r : Rec} (h0 : Keeps s0 s) : Keeps s0 (drainGo s dt p words c r) := by
  unfold drainGo
  repeat' first
    | with_reducible first
      | assumption | refine State_setCore_keeps ?_ | refine drainCold_keeps ?_ | refine drainOnce_keeps ?_
      | refine loadUnits_keeps ?_ | refine parityHalt_keeps ?_ | refine peatDetect_keeps ?_
      | refine scaleReads_keeps ?_ | refine setMxa_keeps ?_ | refine wispOffer_keeps ?_ | refine keeps_ite ?_ ?_
      | refine keeps_ite1 ?_ ?_ | refine keeps_foldl (fun _ _ _ => ?_) ?_ | refine keeps_forUp (fun _ _ _ => ?_) ?_
      | refine keeps_fold1 (fun _ _ _ => ?_) ?_ | refine keeps_foldRead (fun _ _ _ => ?_) ?_
      | refine keeps_foldMap (fun _ _ _ => ?_) ?_ | refine keeps_foldAcc (fun _ _ _ => ?_) ?_
      | refine keeps_foldWr (fun _ _ _ => ?_) ?_ | refine keeps_forUpWr (fun _ _ _ => ?_) ?_
      | refine keeps_foldAcc1 (fun _ _ _ => ?_) ?_
    | split | intro _ | dsimp only | fail_if_no_progress (with_reducible refine keeps_up ?_ rfl rfl rfl rfl rfl)
    | fail_if_no_progress (with_reducible refine keeps_mk ?_ id rfl rfl (Nat.le_add_right _ _) (Nat.le_refl _))
    | fail_if_no_progress (with_reducible refine keeps_mk ?_ (wf_filter _) rfl rfl (Nat.le_refl _) (Nat.le_refl _))
    | fail_if_no_progress (with_reducible refine keeps_mk ?_ (wf_cellsSet _ _) rfl rfl (Nat.le_refl _) (Nat.le_refl _))
    | fail_if_no_progress (with_reducible refine keeps_mk ?_ (fun _ => rfl) rfl rfl (Nat.le_refl _) (Nat.le_refl _))

theorem drainHead_keeps {s0 : State} {s : State} {dt : Nat} {p : Nat} {words : List Nat} {busy : Bool} (h0 : Keeps s0 s) : Keeps s0 (drainHead s dt p words busy) := by
  unfold drainHead
  repeat' first
    | with_reducible first
      | assumption | refine State_setEntry_keeps ?_ | refine complete_keeps ?_ | refine drainEnd_keeps ?_
      | refine drainGo_keeps ?_ | refine mxaTake_keeps ?_ | refine setMxa_keeps ?_ | refine sramSweep_keeps ?_
      | refine wispOffer_keeps ?_ | refine keeps_ite ?_ ?_ | refine keeps_ite1 ?_ ?_
      | refine keeps_foldl (fun _ _ _ => ?_) ?_ | refine keeps_forUp (fun _ _ _ => ?_) ?_
      | refine keeps_fold1 (fun _ _ _ => ?_) ?_ | refine keeps_foldRead (fun _ _ _ => ?_) ?_
      | refine keeps_foldMap (fun _ _ _ => ?_) ?_ | refine keeps_foldAcc (fun _ _ _ => ?_) ?_
      | refine keeps_foldWr (fun _ _ _ => ?_) ?_ | refine keeps_forUpWr (fun _ _ _ => ?_) ?_
      | refine keeps_foldAcc1 (fun _ _ _ => ?_) ?_
    | split | intro _ | dsimp only | fail_if_no_progress (with_reducible refine keeps_up ?_ rfl rfl rfl rfl rfl)
    | fail_if_no_progress (with_reducible refine keeps_mk ?_ id rfl rfl (Nat.le_add_right _ _) (Nat.le_refl _))
    | fail_if_no_progress (with_reducible refine keeps_mk ?_ (wf_filter _) rfl rfl (Nat.le_refl _) (Nat.le_refl _))
    | fail_if_no_progress (with_reducible refine keeps_mk ?_ (wf_cellsSet _ _) rfl rfl (Nat.le_refl _) (Nat.le_refl _))
    | fail_if_no_progress (with_reducible refine keeps_mk ?_ (fun _ => rfl) rfl rfl (Nat.le_refl _) (Nat.le_refl _))

theorem drainNext_keeps {s0 : State} {s : State} {p : Nat} {dt : Nat} {words : List Nat} (h0 : Keeps s0 s) : Keeps s0 (drainNext s p dt words) := by
  unfold drainNext
  repeat' first
    | with_reducible first
      | assumption | refine drainGo_keeps ?_ | refine drainHead_keeps ?_ | refine sramSweep_keeps ?_
      | refine keeps_ite ?_ ?_ | refine keeps_ite1 ?_ ?_ | refine keeps_foldl (fun _ _ _ => ?_) ?_
      | refine keeps_forUp (fun _ _ _ => ?_) ?_ | refine keeps_fold1 (fun _ _ _ => ?_) ?_
      | refine keeps_foldRead (fun _ _ _ => ?_) ?_ | refine keeps_foldMap (fun _ _ _ => ?_) ?_
      | refine keeps_foldAcc (fun _ _ _ => ?_) ?_ | refine keeps_foldWr (fun _ _ _ => ?_) ?_
      | refine keeps_forUpWr (fun _ _ _ => ?_) ?_ | refine keeps_foldAcc1 (fun _ _ _ => ?_) ?_
    | split | intro _ | dsimp only | fail_if_no_progress (with_reducible refine keeps_up ?_ rfl rfl rfl rfl rfl)
    | fail_if_no_progress (with_reducible refine keeps_mk ?_ id rfl rfl (Nat.le_add_right _ _) (Nat.le_refl _))
    | fail_if_no_progress (with_reducible refine keeps_mk ?_ (wf_filter _) rfl rfl (Nat.le_refl _) (Nat.le_refl _))
    | fail_if_no_progress (with_reducible refine keeps_mk ?_ (wf_cellsSet _ _) rfl rfl (Nat.le_refl _) (Nat.le_refl _))
    | fail_if_no_progress (with_reducible refine keeps_mk ?_ (fun _ => rfl) rfl rfl (Nat.le_refl _) (Nat.le_refl _))

theorem drainPass2_keeps {s0 : State} {s : State} {dt : Nat} {p : Nat} {cold : Nat} {d : ScalingDrain} {r : Rec} (h0 : Keeps s0 s) : Keeps s0 (drainPass2 s dt p cold d r) := by
  unfold drainPass2
  repeat' first
    | with_reducible first
      | assumption | refine coreCtr_keeps ?_ | refine drainEnd_keeps ?_ | refine drainPut_keeps ?_
      | refine setMxa_keeps ?_ | refine wispFill_keeps ?_ | refine keeps_ite ?_ ?_

theorem scaleAnswered_keeps {s0 : State} {s : State} {p : Nat} {cold : Nat} {dt : Nat} (h0 : Keeps s0 s) : Keeps s0 (scaleAnswered s p cold dt) := by
  unfold scaleAnswered
  repeat' first
    | with_reducible first
      | assumption | refine drainPass2_keeps ?_ | refine numxCtr_keeps ?_ | refine scaleAnswer_keeps ?_
      | refine setMxa_keeps ?_ | refine sramSweep_keeps ?_ | refine keeps_ite ?_ ?_
    | split

theorem scaleTimeout_keeps {s0 : State} {s : State} {p : Nat} (h0 : Keeps s0 s) : Keeps s0 (scaleTimeout s p) := by
  unfold scaleTimeout
  repeat' first
    | with_reducible first
      | assumption | refine complete_keeps ?_ | refine numxCtr_keeps ?_ | refine setMxa_keeps ?_
      | refine keeps_ite ?_ ?_ | refine keeps_ite1 ?_ ?_ | refine keeps_foldl (fun _ _ _ => ?_) ?_
      | refine keeps_forUp (fun _ _ _ => ?_) ?_ | refine keeps_fold1 (fun _ _ _ => ?_) ?_
      | refine keeps_foldRead (fun _ _ _ => ?_) ?_ | refine keeps_foldMap (fun _ _ _ => ?_) ?_
      | refine keeps_foldAcc (fun _ _ _ => ?_) ?_ | refine keeps_foldWr (fun _ _ _ => ?_) ?_
      | refine keeps_forUpWr (fun _ _ _ => ?_) ?_ | refine keeps_foldAcc1 (fun _ _ _ => ?_) ?_
    | split | intro _ | dsimp only | fail_if_no_progress (with_reducible refine keeps_up ?_ rfl rfl rfl rfl rfl)
    | fail_if_no_progress (with_reducible refine keeps_mk ?_ id rfl rfl (Nat.le_add_right _ _) (Nat.le_refl _))
    | fail_if_no_progress (with_reducible refine keeps_mk ?_ (wf_filter _) rfl rfl (Nat.le_refl _) (Nat.le_refl _))
    | fail_if_no_progress (with_reducible refine keeps_mk ?_ (wf_cellsSet _ _) rfl rfl (Nat.le_refl _) (Nat.le_refl _))
    | fail_if_no_progress (with_reducible refine keeps_mk ?_ (fun _ => rfl) rfl rfl (Nat.le_refl _) (Nat.le_refl _))

theorem execDrain_keeps {s0 : State} {q : Fin 64} {n : Nat} {s : State} (h0 : Keeps s0 s) : OutKeeps s0 (execDrain q n s) := by
  unfold execDrain
  repeat' first
    | with_reducible first
      | assumption | refine outKeeps_next ?_ | refine drainRun_keeps ?_

theorem execPeatFlush_keeps {s0 : State} {q : Fin 64} {n : Nat} {s : State} (h0 : Keeps s0 s) : OutKeeps s0 (execPeatFlush q n s) := by
  unfold execPeatFlush
  repeat' first
    | with_reducible first
      | assumption | refine outKeeps_next ?_ | refine drainRun_keeps ?_

theorem execDrainStart_keeps {s0 : State} {p : Fin 256} {w : DrainInput} {s : State} (h0 : Keeps s0 s) : OutKeeps s0 (execDrainStart p w s) := by
  unfold execDrainStart
  repeat' first
    | with_reducible first
      | assumption | refine outKeeps_next ?_ | exact outKeeps_refused | refine outKeeps_ite ?_ ?_
      | refine drainNext_keeps ?_ | refine keeps_ite ?_ ?_ | refine keeps_ite1 ?_ ?_
      | refine keeps_foldl (fun _ _ _ => ?_) ?_ | refine keeps_forUp (fun _ _ _ => ?_) ?_
      | refine keeps_fold1 (fun _ _ _ => ?_) ?_ | refine keeps_foldRead (fun _ _ _ => ?_) ?_
      | refine keeps_foldMap (fun _ _ _ => ?_) ?_ | refine keeps_foldAcc (fun _ _ _ => ?_) ?_
      | refine keeps_foldWr (fun _ _ _ => ?_) ?_ | refine keeps_forUpWr (fun _ _ _ => ?_) ?_
      | refine keeps_foldAcc1 (fun _ _ _ => ?_) ?_
    | split | intro _ | dsimp only | fail_if_no_progress (with_reducible refine keeps_up ?_ rfl rfl rfl rfl rfl)
    | fail_if_no_progress (with_reducible refine keeps_mk ?_ id rfl rfl (Nat.le_add_right _ _) (Nat.le_refl _))
    | fail_if_no_progress (with_reducible refine keeps_mk ?_ (wf_filter _) rfl rfl (Nat.le_refl _) (Nat.le_refl _))
    | fail_if_no_progress (with_reducible refine keeps_mk ?_ (wf_cellsSet _ _) rfl rfl (Nat.le_refl _) (Nat.le_refl _))
    | fail_if_no_progress (with_reducible refine keeps_mk ?_ (fun _ => rfl) rfl rfl (Nat.le_refl _) (Nat.le_refl _))

theorem execScaleAnswer_keeps {s0 : State} {p : Fin 256} {cold : Nat} {dt : Nat} {s : State} (h0 : Keeps s0 s) : OutKeeps s0 (execScaleAnswer p cold dt s) := by
  unfold execScaleAnswer
  repeat' first
    | with_reducible first
      | assumption | refine outKeeps_next ?_ | refine scaleAnswered_keeps ?_

theorem execScaleWaitTimeout_keeps {s0 : State} {p : Fin 256} {s : State} (h0 : Keeps s0 s) : OutKeeps s0 (execScaleWaitTimeout p s) := by
  unfold execScaleWaitTimeout
  repeat' first
    | with_reducible first
      | assumption | refine outKeeps_next ?_ | refine scaleTimeout_keeps ?_

theorem execWispResult_keeps {s0 : State} {p : Fin 256} {s : State} (h0 : Keeps s0 s) : OutKeeps s0 (execWispResult p s) := by
  unfold execWispResult
  repeat' first
    | with_reducible first
      | assumption | refine outKeeps_next ?_ | refine wispDone_keeps ?_

theorem failReq_keeps {s0 : State} {s : State} {w : ReqId} {st : Nat} {num : Nat} (h0 : Keeps s0 s) : Keeps s0 (failReq s w st num) := by
  unfold failReq
  repeat' first
    | with_reducible first
      | assumption | refine heronCheck_keeps ?_ | refine heronFault_keeps ?_ | refine mapRun_keeps ?_

theorem heronAnswer_keeps {s0 : State} {s : State} {w : ReqId} {stat : Nat} {data : List Byte} {pmap : List Bool} (h0 : Keeps s0 s) : Keeps s0 (heronAnswer s w stat data pmap) := by
  unfold heronAnswer
  repeat' first
    | with_reducible first
      | assumption | refine deliverSegs_keeps ?_ | refine drawBytes_keeps ?_ | refine failReq_keeps ?_
      | refine heronDiscard_keeps ?_ | refine heronRetire_keeps ?_ | refine keepSegs_keeps ?_
    | split

theorem fenceAnswer_keeps {s0 : State} {s : State} {c : CmdRef} {stat : Nat} (h0 : Keeps s0 s) : Keeps s0 (fenceAnswer s c stat) := by
  unfold fenceAnswer
  repeat' first
    | with_reducible first
      | assumption | refine completeSt_keeps ?_ | refine complete_keeps ?_
    | split
    | fail_if_no_progress (with_reducible refine keeps_mk ?_ id rfl rfl (Nat.le_add_right _ _) (Nat.le_refl _))

theorem answered_keeps {s0 s : State} {k : Nat} {p : Packet} {t : Nat} (h0 : Keeps s0 s) : Keeps s0 (answered s k p t) := by
  unfold answered
  refine received_keeps h0 fun v hv => ?_
  split
  · exact hv
  · rename_i r u e
    have hu := takeRequest_keeps hv e
    split
    · exact keeps_ite hv (sramSweep_keeps (heronAnswer_keeps hu))
    · exact keeps_ite (fenceAnswer_keeps hu) hv

theorem execRdRsp_keeps {s0 : State} {k : Fin 64} {p : Packet} {s : State} (h0 : Keeps s0 s) : OutKeeps s0 (execRdRsp k p s) := by
  unfold execRdRsp
  repeat' first
    | with_reducible first
      | assumption | refine outKeeps_next ?_ | refine answered_keeps ?_

theorem execCwWrAck_keeps {s0 : State} {k : Fin 64} {p : Packet} {s : State} (h0 : Keeps s0 s) : OutKeeps s0 (execCwWrAck k p s) := by
  unfold execCwWrAck
  repeat' first
    | with_reducible first
      | assumption | refine outKeeps_next ?_ | refine answered_keeps ?_

theorem execFenceAck_keeps {s0 : State} {k : Fin 64} {p : Packet} {s : State} (h0 : Keeps s0 s) : OutKeeps s0 (execFenceAck k p s) := by
  unfold execFenceAck
  repeat' first
    | with_reducible first
      | assumption | refine outKeeps_next ?_ | refine answered_keeps ?_

theorem execFabricTimeout_keeps {s0 : State} {tid : Fin 65536} {s : State} (h0 : Keeps s0 s) : OutKeeps s0 (execFabricTimeout tid s) := by
  unfold execFabricTimeout
  repeat' first
    | with_reducible first
      | assumption | refine outKeeps_next ?_ | refine completeSt_keeps ?_ | refine heronAnswer_keeps ?_
    | split | fail_if_no_progress (with_reducible refine keeps_up ?_ rfl rfl rfl rfl rfl)

theorem flrStart_keeps {s0 : State} {s : State} {f : Nat} (h0 : Keeps s0 s) : Keeps s0 (flrStart s f) := by
  unfold flrStart
  repeat' first
    | with_reducible first
      | assumption | refine disableDone_keeps ?_ | refine disableQueue_keeps ?_ | refine flrSweep_keeps ?_
      | refine keeps_ite ?_ ?_ | refine keeps_foldl (fun _ _ _ => ?_) ?_
    | fail_if_no_progress (with_reducible refine keeps_up ?_ rfl rfl rfl rfl rfl)

theorem flrTimeout_keeps {s0 : State} {s : State} (h0 : Keeps s0 s) : Keeps s0 (flrTimeout s) := by
  unfold flrTimeout
  repeat' first
    | with_reducible first
      | assumption | refine completeSt_keeps ?_ | refine disableDone_keeps ?_ | refine flrSweep_keeps ?_
      | refine resetCore_keeps ?_ | refine keeps_foldl (fun _ _ _ => ?_) ?_

theorem linkDown_keeps {s0 : State} {s : State} (h0 : Keeps s0 s) : Keeps s0 (linkDown s) := by
  unfold linkDown
  repeat' first
    | with_reducible first
      | assumption | refine flrStart_keeps ?_ | refine keeps_ite ?_ ?_
    | fail_if_no_progress (with_reducible refine keeps_up ?_ rfl rfl rfl rfl rfl)

theorem execRefclkALoss_keeps {s0 : State} {s : State} (h0 : Keeps s0 s) : OutKeeps s0 (execRefclkALoss s) := by
  unfold execRefclkALoss
  repeat' first
    | with_reducible first
      | assumption | refine outKeeps_next ?_ | refine linkDown_keeps ?_ | refine keeps_ite ?_ ?_
    | fail_if_no_progress (with_reducible refine keeps_up ?_ rfl rfl rfl rfl rfl)

theorem execPerst_keeps {s0 : State} {s : State} (h0 : Keeps s0 s) : OutKeeps s0 (execPerst s) := by
  unfold execPerst
  repeat' first
    | with_reducible first
      | assumption | refine outKeeps_next ?_ | refine linkDown_keeps ?_ | refine keeps_ite ?_ ?_
    | fail_if_no_progress (with_reducible refine keeps_up ?_ rfl rfl rfl rfl rfl)

theorem execPerstRelease_keeps {s0 : State} {s : State} (h0 : Keeps s0 s) : OutKeeps s0 (execPerstRelease s) := by
  unfold execPerstRelease
  repeat' first
    | with_reducible first
      | assumption | refine outKeeps_next ?_ | refine keeps_ite ?_ ?_
    | fail_if_no_progress (with_reducible refine keeps_up ?_ rfl rfl rfl rfl rfl)

theorem execFunctionLevelReset_keeps {s0 : State} {f : Fin 9} {s : State} (h0 : Keeps s0 s) : OutKeeps s0 (execFunctionLevelReset f s) := by
  unfold execFunctionLevelReset
  repeat' first
    | with_reducible first
      | assumption | refine outKeeps_next ?_ | refine flrStart_keeps ?_ | refine keeps_ite ?_ ?_

theorem execFlrTimeout_keeps {s0 : State} {s : State} (h0 : Keeps s0 s) : OutKeeps s0 (execFlrTimeout s) := by
  unfold execFlrTimeout
  repeat' first
    | with_reducible first
      | assumption | refine outKeeps_next ?_ | refine flrTimeout_keeps ?_

theorem execVfEnable_keeps {s0 : State} {n : Fin 9} {s : State} (h0 : Keeps s0 s) : OutKeeps s0 (execVfEnable n s) := by
  unfold execVfEnable
  repeat' first
    | with_reducible first
      | assumption | refine outKeeps_next ?_ | refine keeps_ite ?_ ?_
    | fail_if_no_progress (with_reducible refine keeps_up ?_ rfl rfl rfl rfl rfl)

theorem execVfEnableClear_keeps {s0 : State} {s : State} (h0 : Keeps s0 s) : OutKeeps s0 (execVfEnableClear s) := by
  unfold execVfEnableClear
  repeat' first
    | with_reducible first
      | assumption | refine outKeeps_next ?_ | refine flrStart_keeps ?_ | refine keeps_ite ?_ ?_
      | refine keeps_forUp (fun _ _ _ => ?_) ?_
    | fail_if_no_progress (with_reducible refine keeps_up ?_ rfl rfl rfl rfl rfl)

theorem execBar4Resize_keeps {s0 : State} {k : Fin 12} {s : State} (h0 : Keeps s0 s) : OutKeeps s0 (execBar4Resize k s) := by
  unfold execBar4Resize
  repeat' first
    | with_reducible first
      | assumption | refine outKeeps_next ?_ | refine keeps_ite ?_ ?_
    | fail_if_no_progress (with_reducible refine keeps_up ?_ rfl rfl rfl rfl rfl)

theorem execBar4BaseWrite_keeps {s0 : State} {v : W64} {s : State} (h0 : Keeps s0 s) : OutKeeps s0 (execBar4BaseWrite v s) := by
  unfold execBar4BaseWrite
  repeat' first
    | with_reducible first
      | assumption | refine outKeeps_next ?_ | refine bar4BaseWrite_keeps ?_ | refine pfAccess_keeps ?_ ?_

theorem bar4Note_keeps {s0 : State} {s : State} {f : Nat} {o : Nat} {n : Nat} {wr : Bool} (h0 : Keeps s0 s) : Keeps s0 (bar4Note s f o n wr) := by
  unfold bar4Note
  repeat' first
    | with_reducible first
      | assumption | refine vnote_keeps ?_ | refine keeps_ite ?_ ?_

theorem execBar4Read_keeps {s0 : State} {f : Fin 9} {o : Nat} {n : Nat} {s : State} (h0 : Keeps s0 s) : OutKeeps s0 (execBar4Read f o n s) := by
  unfold execBar4Read
  repeat' first
    | with_reducible first
      | assumption | refine outKeeps_next ?_ | refine bar4Note_keeps ?_ | refine detect_keeps ?_
      | refine hostCtr_keeps ?_ | refine respond_keeps ?_
    | split | dsimp only

theorem execBar4Write_keeps {s0 : State} {f : Fin 9} {o : Nat} {data : List Byte} {ep : Bool} {s : State} (h0 : Keeps s0 s) : OutKeeps s0 (execBar4Write f o data ep s) := by
  unfold execBar4Write
  repeat' first
    | with_reducible first
      | assumption | refine outKeeps_next ?_ | refine bar4Note_keeps ?_ | refine hostCtr_keeps ?_
      | refine writeMem_keeps ?_
    | split | dsimp only

theorem execXlatRootWrite_keeps {s0 : State} {c : Fin 64} {v : W64} {s : State} (h0 : Keeps s0 s) : OutKeeps s0 (execXlatRootWrite c v s) := by
  unfold execXlatRootWrite
  repeat' first
    | with_reducible first
      | assumption | refine outKeeps_next ?_ | refine pfAccess_keeps ?_ ?_ | refine rootWrite_keeps ?_

theorem execXlatInv_keeps {s0 : State} {c : Fin 64} {v : W64} {s : State} (h0 : Keeps s0 s) : OutKeeps s0 (execXlatInv c v s) := by
  unfold execXlatInv
  repeat' first
    | with_reducible first
      | assumption | refine outKeeps_next ?_ | refine invWrite_keeps ?_ | refine pfAccess_keeps ?_ ?_

theorem execXlatInvComplete_keeps {s0 : State} {c : Fin 64} {s : State} (h0 : Keeps s0 s) : OutKeeps s0 (execXlatInvComplete c s) := by
  unfold execXlatInvComplete
  repeat' first
    | with_reducible first
      | assumption | refine outKeeps_next ?_ | refine invComplete_keeps ?_

theorem execCoreReset_keeps {s0 : State} {p : Fin 256} {s : State} (h0 : Keeps s0 s) : OutKeeps s0 (execCoreReset p s) := by
  unfold execCoreReset
  repeat' first
    | with_reducible first
      | assumption | refine outKeeps_next ?_ | refine pfAccess_keeps ?_ ?_ | refine resetWrite_keeps ?_

theorem execClusterReset_keeps {s0 : State} {c : Fin 256} {s : State} (h0 : Keeps s0 s) : OutKeeps s0 (execClusterReset c s) := by
  unfold execClusterReset
  repeat' first
    | with_reducible first
      | assumption | refine outKeeps_next ?_ | refine pfAccess_keeps ?_ ?_ | refine resetWrite_keeps ?_

theorem execPartitionReset_keeps {s0 : State} {n : Fin 256} {s : State} (h0 : Keeps s0 s) : OutKeeps s0 (execPartitionReset n s) := by
  unfold execPartitionReset
  repeat' first
    | with_reducible first
      | assumption | refine outKeeps_next ?_ | refine pfAccess_keeps ?_ ?_ | refine resetWrite_keeps ?_

theorem execFenceCoreRequest_keeps {s0 : State} {p : Fin 256} {s : State} (h0 : Keeps s0 s) : OutKeeps s0 (execFenceCoreRequest p s) := by
  unfold execFenceCoreRequest
  repeat' first
    | with_reducible first
      | assumption | refine outKeeps_next ?_ | refine fenceReqWrite_keeps ?_ | refine pfAccess_keeps ?_ ?_

theorem execFenceClusterRequest_keeps {s0 : State} {c : Fin 256} {s : State} (h0 : Keeps s0 s) : OutKeeps s0 (execFenceClusterRequest c s) := by
  unfold execFenceClusterRequest
  repeat' first
    | with_reducible first
      | assumption | refine outKeeps_next ?_ | refine fenceReqWrite_keeps ?_ | refine pfAccess_keeps ?_ ?_

theorem injectBit_keeps {s0 : State} {s : State} {p : Nat} {b : Nat} (h0 : Keeps s0 s) : Keeps s0 (injectBit s p b) := by
  unfold injectBit
  repeat' first
    | with_reducible first
      | assumption | refine pfAccess_keeps ?_ ?_ | refine regPut_keeps ?_

theorem execInjectCsUncorr_keeps {s0 : State} {p : Fin 256} {s : State} (h0 : Keeps s0 s) : OutKeeps s0 (execInjectCsUncorr p s) := by
  unfold execInjectCsUncorr
  repeat' first
    | with_reducible first
      | assumption | refine outKeeps_next ?_ | refine injectBit_keeps ?_

theorem execInjectDrainParity_keeps {s0 : State} {p : Fin 256} {s : State} (h0 : Keeps s0 s) : OutKeeps s0 (execInjectDrainParity p s) := by
  unfold execInjectDrainParity
  repeat' first
    | with_reducible first
      | assumption | refine outKeeps_next ?_ | refine injectBit_keeps ?_

theorem execInjectVeParity_keeps {s0 : State} {p : Fin 256} {s : State} (h0 : Keeps s0 s) : OutKeeps s0 (execInjectVeParity p s) := by
  unfold execInjectVeParity
  repeat' first
    | with_reducible first
      | assumption | refine outKeeps_next ?_ | refine injectBit_keeps ?_

theorem execInjectMxaParity_keeps {s0 : State} {p : Fin 256} {s : State} (h0 : Keeps s0 s) : OutKeeps s0 (execInjectMxaParity p s) := by
  unfold execInjectMxaParity
  repeat' first
    | with_reducible first
      | assumption | refine outKeeps_next ?_ | refine injectBit_keeps ?_

theorem execInjectRegParity_keeps {s0 : State} {pg : Fin 16384} {s : State} (h0 : Keeps s0 s) : OutKeeps s0 (execInjectRegParity pg s) := by
  unfold execInjectRegParity
  repeat' first
    | with_reducible first
      | assumption | refine outKeeps_next ?_ | refine pfAccess_keeps ?_ ?_ | refine regPut_keeps ?_

theorem execPartitionMapWrite_keeps {s0 : State} {r : Fin 4} {v : W64} {s : State} (h0 : Keeps s0 s) : OutKeeps s0 (execPartitionMapWrite r v s) := by
  unfold execPartitionMapWrite
  repeat' first
    | with_reducible first
      | assumption | refine outKeeps_next ?_ | refine partMapWrite_keeps ?_ | refine pfAccess_keeps ?_ ?_

theorem execFenceMapWrite_keeps {s0 : State} {i : Fin 32} {v : W64} {s : State} (h0 : Keeps s0 s) : OutKeeps s0 (execFenceMapWrite i v s) := by
  unfold execFenceMapWrite
  repeat' first
    | with_reducible first
      | assumption | refine outKeeps_next ?_ | refine fenceMapWrite_keeps ?_ | refine pfAccess_keeps ?_ ?_

theorem execFenceCntWrite_keeps {s0 : State} {i : Fin 256} {v : W64} {s : State} (h0 : Keeps s0 s) : OutKeeps s0 (execFenceCntWrite i v s) := by
  unfold execFenceCntWrite
  repeat' first
    | with_reducible first
      | assumption | refine outKeeps_next ?_ | refine fenceCntWrite_keeps ?_ | refine pfAccess_keeps ?_ ?_

theorem execRegisterWrite_keeps {s0 : State} {f : Fin 9} {ofs : Nat} {dt : Nat} {data : List Byte} {s : State} (h0 : Keeps s0 s) : OutKeeps s0 (execRegisterWrite f ofs dt data s) := by
  unfold execRegisterWrite
  repeat' first
    | with_reducible first
      | assumption | refine outKeeps_next ?_ | refine spaceWrite_keeps ?_ | refine keeps_ite ?_ ?_

theorem execRegisterRead_keeps {s0 : State} {f : Fin 9} {ofs : Nat} {dt : Nat} {n : Nat} {s : State} (h0 : Keeps s0 s) : OutKeeps s0 (execRegisterRead f ofs dt n s) := by
  unfold execRegisterRead
  repeat' first
    | with_reducible first
      | assumption | refine outKeeps_next ?_ | refine respond_keeps ?_ | refine spaceRead_keeps ?_
      | refine keeps_ite ?_ ?_

theorem onModule_keeps {s0 : State} {s : State} {l : Nat} {m : Nat} {f : Module → Module} (h0 : Keeps s0 s) : Keeps s0 (onModule s l m f) := by
  unfold onModule
  repeat' first
    | with_reducible first
      | assumption | refine State_setModule_keeps ?_ | refine keeps_ite ?_ ?_

theorem execLinkReplay_keeps {s0 : State} {l : Fin 6} {m : Fin 16} {ack : Nat} {s : State} (h0 : Keeps s0 s) : OutKeeps s0 (execLinkReplay l m ack s) := by
  unfold execLinkReplay
  repeat' first
    | with_reducible first
      | assumption | refine outKeeps_next ?_ | refine onModule_keeps ?_

theorem execModuleDown_keeps {s0 : State} {l : Fin 6} {m : Fin 16} {cause : Fin 3} {s : State} (h0 : Keeps s0 s) : OutKeeps s0 (execModuleDown l m cause s) := by
  unfold execModuleDown
  repeat' first
    | with_reducible first
      | assumption | refine outKeeps_next ?_ | refine moduleDown_keeps ?_

theorem execLinkMonitorWindow_keeps {s0 : State} {l : Fin 6} {m : Fin 16} {s : State} (h0 : Keeps s0 s) : OutKeeps s0 (execLinkMonitorWindow l m s) := by
  unfold execLinkMonitorWindow
  repeat' first
    | with_reducible first
      | assumption | refine outKeeps_next ?_ | refine monitorWindow_keeps ?_

theorem execUcieCrcErr_keeps {s0 : State} {l : Fin 6} {m : Fin 16} {s : State} (h0 : Keeps s0 s) : OutKeeps s0 (execUcieCrcErr l m s) := by
  unfold execUcieCrcErr
  repeat' first
    | with_reducible first
      | assumption | refine outKeeps_next ?_ | refine onModule_keeps ?_

theorem execUcieReplayFlit_keeps {s0 : State} {l : Fin 6} {m : Fin 16} {seq : Nat} {s : State} (h0 : Keeps s0 s) : OutKeeps s0 (execUcieReplayFlit l m seq s) := by
  unfold execUcieReplayFlit
  repeat' first
    | with_reducible first
      | assumption | refine outKeeps_next ?_ | refine onModule_keeps ?_

theorem execUcieFlitAck_keeps {s0 : State} {l : Fin 6} {m : Fin 16} {ack : Nat} {tx : Nat} {rx : Nat} {stall : Nat} {s : State} (h0 : Keeps s0 s) : OutKeeps s0 (execUcieFlitAck l m ack tx rx stall s) := by
  unfold execUcieFlitAck
  repeat' first
    | with_reducible first
      | assumption | refine outKeeps_next ?_ | refine onModule_keeps ?_

theorem execGuestAdmit_keeps {s0 : State} {g : Fin 2} {v : W64} {s : State} (h0 : Keeps s0 s) : OutKeeps s0 (execGuestAdmit g v s) := by
  unfold execGuestAdmit
  repeat' first
    | with_reducible first
      | assumption | refine outKeeps_next ?_ | refine guestCtrlWrite_keeps ?_ | refine pfAccess_keeps ?_ ?_

theorem execGuestAdmitAck_keeps {s0 : State} {g : Fin 2} {s : State} (h0 : Keeps s0 s) : OutKeeps s0 (execGuestAdmitAck g s) := by
  unfold execGuestAdmitAck
  repeat' first
    | with_reducible first
      | assumption | refine outKeeps_next ?_ | refine State_setGuest_keeps ?_ | refine guestState_keeps ?_
      | refine keeps_ite ?_ ?_

theorem execGuestRemove_keeps {s0 : State} {g : Fin 2} {v : W64} {s : State} (h0 : Keeps s0 s) : OutKeeps s0 (execGuestRemove g v s) := by
  unfold execGuestRemove
  repeat' first
    | with_reducible first
      | assumption | refine outKeeps_next ?_ | refine guestCtrlWrite_keeps ?_ | refine pfAccess_keeps ?_ ?_

theorem execGuestRailOff_keeps {s0 : State} {g : Fin 2} {s : State} (h0 : Keeps s0 s) : OutKeeps s0 (execGuestRailOff g s) := by
  unfold execGuestRailOff
  repeat' first
    | with_reducible first
      | assumption | refine outKeeps_next ?_ | refine State_setGuest_keeps ?_ | refine guestState_keeps ?_
      | refine logAdd_keeps ?_ | refine keeps_ite ?_ ?_

theorem execGuestRequest_keeps {s0 : State} {g : Fin 2} {wr : Bool} {dva : W64} {n : Nat} {data : List Byte} {be : List Bool} {pm : List Bool} {s : State} (h0 : Keeps s0 s) : OutKeeps s0 (execGuestRequest g wr dva n data be pm s) := by
  unfold execGuestRequest
  repeat' first
    | with_reducible first
      | assumption | refine outKeeps_next ?_ | refine guestServe_keeps ?_

theorem execGuestPowerSample_keeps {s0 : State} {g : Fin 2} {w10 : Nat} {s : State} (h0 : Keeps s0 s) : OutKeeps s0 (execGuestPowerSample g w10 s) := by
  unfold execGuestPowerSample
  repeat' first
    | with_reducible first
      | assumption | refine outKeeps_next ?_ | refine guestSample_keeps ?_

theorem execControllerBoot_keeps {s0 : State} {c : Bool} {selfTest : Bool} {s : State} (h0 : Keeps s0 s) : OutKeeps s0 (execControllerBoot c selfTest s) := by
  unfold execControllerBoot
  repeat' first
    | with_reducible first
      | assumption | refine outKeeps_next ?_ | refine controllerBoot_keeps ?_

theorem execInitialClaimTimeout_keeps {s0 : State} {s : State} (h0 : Keeps s0 s) : OutKeeps s0 (execInitialClaimTimeout s) := by
  unfold execInitialClaimTimeout
  repeat' first
    | with_reducible first
      | assumption | refine outKeeps_next ?_ | refine claimAuth_keeps ?_ | refine keeps_ite ?_ ?_

theorem execHeartbeatTimeout_keeps {s0 : State} {c : Bool} {s : State} (h0 : Keeps s0 s) : OutKeeps s0 (execHeartbeatTimeout c s) := by
  unfold execHeartbeatTimeout
  repeat' first
    | with_reducible first
      | assumption | refine outKeeps_next ?_ | refine claimAuth_keeps ?_ | refine keeps_ite ?_ ?_

theorem execWatchdogExpiry_keeps {s0 : State} {c : Bool} {s : State} (h0 : Keeps s0 s) : OutKeeps s0 (execWatchdogExpiry c s) := by
  unfold execWatchdogExpiry
  repeat' first
    | with_reducible first
      | assumption | refine outKeeps_next ?_ | refine watchdog_keeps ?_

theorem execHandover_keeps {s0 : State} {s : State} (h0 : Keeps s0 s) : OutKeeps s0 (execHandover s) := by
  unfold execHandover
  repeat' first
    | with_reducible first
      | assumption | refine outKeeps_next ?_ | refine handOver_keeps ?_ | refine pfAccess_keeps ?_ ?_

theorem execOmcHandover_keeps {s0 : State} {m : Medium} {s : State} (h0 : Keeps s0 s) : OutKeeps s0 (execOmcHandover m s) := by
  unfold execOmcHandover
  repeat' first
    | with_reducible first
      | assumption | refine outKeeps_next ?_ | refine handOver_keeps ?_ | refine omc_keeps ?_ ?_
      | refine respond_keeps ?_ | refine rollBack_keeps ?_
    | split

theorem execManagementWrite_keeps {s0 : State} {block : Nat} {c : Bool} {s : State} (h0 : Keeps s0 s) : OutKeeps s0 (execManagementWrite block c s) := by
  unfold execManagementWrite
  repeat' first
    | with_reducible first
      | assumption | refine outKeeps_next ?_ | refine staleKey_keeps ?_ | refine keeps_ite ?_ ?_
    | fail_if_no_progress (with_reducible refine keeps_up ?_ rfl rfl rfl rfl rfl)

theorem execLogEntry_keeps {s0 : State} {code : Fin 65536} {inst : Fin 256} {src : Fin 16} {sev : Fin 4} {ctrl : Bool} {args : List W64} {s : State} (h0 : Keeps s0 s) : OutKeeps s0 (execLogEntry code inst src sev ctrl args s) := by
  unfold execLogEntry
  repeat' first
    | with_reducible first
      | assumption | refine outKeeps_next ?_ | refine logAdd_keeps ?_ | refine keeps_ite ?_ ?_

theorem execLogSuppressWindow_keeps {s0 : State} {code : Fin 65536} {inst : Fin 256} {s : State} (h0 : Keeps s0 s) : OutKeeps s0 (execLogSuppressWindow code inst s) := by
  unfold execLogSuppressWindow
  repeat' first
    | with_reducible first
      | assumption | refine outKeeps_next ?_ | refine logStore_keeps ?_
    | split | fail_if_no_progress (with_reducible refine keeps_up ?_ rfl rfl rfl rfl rfl)

theorem execLogPersist_keeps {s0 : State} {s : State} (h0 : Keeps s0 s) : OutKeeps s0 (execLogPersist s) := by
  unfold execLogPersist
  repeat' first
    | with_reducible first
      | assumption | refine outKeeps_next ?_ | refine keeps_ite ?_ ?_
    | fail_if_no_progress (with_reducible refine keeps_up ?_ rfl rfl rfl rfl rfl)

theorem pldmFw_keeps {s0 s : State} {m : Medium} {r : State × Bool} (h0 : Keeps s0 s) (h1 : Keeps s0 r.1) :
    Keeps s0 (pldmFw s m r) := keeps_ite (noReply_keeps h0) (respond_keeps h1)

theorem execRequestUpdate_keeps {s0 : State} {m : Medium} {i : ImageFacts} {s : State} (h0 : Keeps s0 s) : OutKeeps s0 (execRequestUpdate m i s) := by
  unfold execRequestUpdate
  repeat' first
    | with_reducible first
      | assumption | refine outKeeps_next ?_ | refine pldmFw_keeps ?_ ?_ | refine requestUpdate_keeps ?_

theorem execFirmwareVerify_keeps {s0 : State} {m : Medium} {s : State} (h0 : Keeps s0 s) : OutKeeps s0 (execFirmwareVerify m s) := by
  unfold execFirmwareVerify
  repeat' first
    | with_reducible first
      | assumption | refine outKeeps_next ?_ | refine pldmFw_keeps ?_ ?_ | refine verifyUpdate_keeps ?_

theorem execActivateFirmware_keeps {s0 : State} {m : Medium} {s : State} (h0 : Keeps s0 s) : OutKeeps s0 (execActivateFirmware m s) := by
  unfold execActivateFirmware
  repeat' first
    | with_reducible first
      | assumption | refine outKeeps_next ?_ | refine activate_keeps ?_ | refine pldmFw_keeps ?_ ?_

theorem execTrialTimeout_keeps {s0 : State} {s : State} (h0 : Keeps s0 s) : OutKeeps s0 (execTrialTimeout s) := by
  unfold execTrialTimeout
  repeat' first
    | with_reducible first
      | assumption | refine outKeeps_next ?_ | refine commitTrial_keeps ?_
    | split

theorem execFwCommit_keeps {s0 : State} {m : Medium} {s : State} (h0 : Keeps s0 s) : OutKeeps s0 (execFwCommit m s) := by
  unfold execFwCommit
  repeat' first
    | with_reducible first
      | assumption | refine outKeeps_next ?_ | refine commitTrial_keeps ?_ | refine omc_keeps ?_ ?_
      | refine respond_keeps ?_
    | split

theorem execSvnCommit_keeps {s0 s : State} {m : Medium} (h0 : Keeps s0 s) : OutKeeps s0 (execSvnCommit m s) := by
  unfold execSvnCommit
  refine outKeeps_next (omc_keeps h0 ?_)
  split
  · exact respond_keeps h0
  · dsimp only
    split
    · rename_i hv
      exact respond_keeps (fwLog_keeps (keeps_mk h0 id rfl rfl (Nat.le_refl _) (Nat.le_of_lt hv)))
    · exact respond_keeps h0

theorem execGetState_keeps {s0 : State} {m : Medium} {s : State} (h0 : Keeps s0 s) : OutKeeps s0 (execGetState m s) := by
  unfold execGetState
  repeat' first
    | with_reducible first
      | assumption | refine outKeeps_next ?_ | refine noReply_keeps ?_ | refine respond_keeps ?_
      | refine keeps_ite ?_ ?_

theorem execReadReg_keeps {s0 : State} {m : Medium} {pg : Nat} {ofs : Nat} {s : State} (h0 : Keeps s0 s) : OutKeeps s0 (execReadReg m pg ofs s) := by
  unfold execReadReg
  repeat' first
    | with_reducible first
      | assumption | refine outKeeps_next ?_ | refine omc_keeps ?_ ?_ | refine respond_keeps ?_
      | refine keeps_ite ?_ ?_

theorem execLogRead_keeps {s0 : State} {m : Medium} {seq : Nat} {n : Nat} {s : State} (h0 : Keeps s0 s) : OutKeeps s0 (execLogRead m seq n s) := by
  unfold execLogRead
  repeat' first
    | with_reducible first
      | assumption | refine outKeeps_next ?_ | refine noReply_keeps ?_ | refine respond_keeps ?_
      | refine keeps_ite ?_ ?_

theorem execLogFlashRead_keeps {s0 : State} {m : Medium} {place : Nat} {n : Nat} {s : State} (h0 : Keeps s0 s) : OutKeeps s0 (execLogFlashRead m place n s) := by
  unfold execLogFlashRead
  repeat' first
    | with_reducible first
      | assumption | refine outKeeps_next ?_ | refine omc_keeps ?_ ?_ | refine respond_keeps ?_
      | refine keeps_ite ?_ ?_

theorem execEthCfg_keeps {s0 : State} {m : Medium} {enable : Bool} {dhcp : Bool} {addr : W32} {mask : W32} {gateway : W32} {allow : List W32} {s : State} (h0 : Keeps s0 s) : OutKeeps s0 (execEthCfg m enable dhcp addr mask gateway allow s) := by
  unfold execEthCfg
  repeat' first
    | with_reducible first
      | assumption | refine outKeeps_next ?_ | refine omc_keeps ?_ ?_ | refine respond_keeps ?_
      | refine keeps_ite ?_ ?_
    | fail_if_no_progress (with_reducible refine keeps_up ?_ rfl rfl rfl rfl rfl)

theorem execEthDatagram_keeps {s0 : State} {peer : W32} {s : State} (h0 : Keeps s0 s) : OutKeeps s0 (execEthDatagram peer s) := by
  unfold execEthDatagram
  repeat' first
    | with_reducible first
      | assumption | refine outKeeps_next ?_ | refine bmgtCtr_keeps ?_ | refine keeps_ite ?_ ?_

theorem sensorValue_keeps {s0 : State} {s : State} {id : Nat} (h0 : Keeps s0 s) : Keeps s0 (sensorValue s id).1 := by
  unfold sensorValue
  repeat' first
    | with_reducible first
      | assumption | refine drawBytes_keeps ?_
    | split

theorem execGetSensorReading_keeps {s0 : State} {m : Medium} {id : Nat} {s : State} (h0 : Keeps s0 s) : OutKeeps s0 (execGetSensorReading m id s) := by
  unfold execGetSensorReading
  repeat' first
    | with_reducible first
      | assumption | refine outKeeps_next ?_ | refine noReply_keeps ?_ | refine respond_keeps ?_
      | refine sensorValue_keeps ?_ | refine keeps_ite ?_ ?_

theorem execMctpControl_keeps {s0 : State} {m : Medium} {eid : Option Byte} {s : State} (h0 : Keeps s0 s) : OutKeeps s0 (execMctpControl m eid s) := by
  unfold execMctpControl
  repeat' first
    | with_reducible first
      | assumption | refine outKeeps_next ?_ | refine noReply_keeps ?_ | refine respond_keeps ?_
    | split | fail_if_no_progress (with_reducible refine keeps_up ?_ rfl rfl rfl rfl rfl)

theorem execVinApplied_keeps {s0 s : State} {mv : Int} {slew : Fin 4} {dbg : Bool} (h0 : Keeps s0 s) :
    OutKeeps s0 (execVinApplied mv slew dbg s) :=
  outKeeps_next (keeps_ite (keeps_mk h0 (fun _ => rfl) rfl rfl (Nat.le_refl _) (Nat.le_refl _)) h0)

theorem execVinRemoved_keeps {s0 s : State} (h0 : Keeps s0 s) : OutKeeps s0 (execVinRemoved s) :=
  outKeeps_next (keeps_ite (keeps_mk h0 (fun _ => rfl) rfl rfl (Nat.le_refl _) (Nat.le_refl _)) h0)

theorem thermistor_keeps {s0 : State} {s : State} {i : Nat} {mv : Nat} (h0 : Keeps s0 s) : Keeps s0 (thermistor s i mv) := by
  unfold thermistor
  repeat' first
    | with_reducible first
      | assumption | refine logAdd_keeps ?_ | refine keeps_ite ?_ ?_
    | fail_if_no_progress (with_reducible refine keeps_up ?_ rfl rfl rfl rfl rfl)

theorem execThermistorSample_keeps {s0 : State} {mv0 : Nat} {mv1 : Nat} {s : State} (h0 : Keeps s0 s) : OutKeeps s0 (execThermistorSample mv0 mv1 s) := by
  unfold execThermistorSample
  repeat' first
    | with_reducible first
      | assumption | refine outKeeps_next ?_ | refine thermistor_keeps ?_ | refine keeps_ite ?_ ?_

theorem execThermalSample_keeps {s0 : State} {r : ThermalRead} {s : State} (h0 : Keeps s0 s) : OutKeeps s0 (execThermalSample r s) := by
  unfold execThermalSample
  repeat' first
    | with_reducible first
      | assumption | refine outKeeps_next ?_ | refine thermalSample_keeps ?_

theorem execCoolFlowLow_keeps {s0 : State} {us : Nat} {s : State} (h0 : Keeps s0 s) : OutKeeps s0 (execCoolFlowLow us s) := by
  unfold execCoolFlowLow
  repeat' first
    | with_reducible first
      | assumption | refine outKeeps_next ?_ | refine logAdd_keeps ?_ | refine trip_keeps ?_
      | refine keeps_ite ?_ ?_
    | fail_if_no_progress (with_reducible refine keeps_up ?_ rfl rfl rfl rfl rfl)

theorem execInputFault_keeps {s0 : State} {kind : Fin 4} {reading : Nat} {s : State} (h0 : Keeps s0 s) : OutKeeps s0 (execInputFault kind reading s) := by
  unfold execInputFault
  repeat' first
    | with_reducible first
      | assumption | refine outKeeps_next ?_ | refine logAdd_keeps ?_ | refine trip_keeps ?_
    | split | fail_if_no_progress (with_reducible refine keeps_up ?_ rfl rfl rfl rfl rfl)

theorem execRemoteSenseOpen_keeps {s0 : State} {s : State} (h0 : Keeps s0 s) : OutKeeps s0 (execRemoteSenseOpen s) := by
  unfold execRemoteSenseOpen
  repeat' first
    | with_reducible first
      | assumption | refine outKeeps_next ?_ | refine logAdd_keeps ?_ | refine raiseIrq_keeps ?_
      | refine keeps_ite ?_ ?_
    | fail_if_no_progress (with_reducible refine keeps_up ?_ rfl rfl rfl rfl rfl)

theorem execRemoteSenseRestored_keeps {s0 : State} {s : State} (h0 : Keeps s0 s) : OutKeeps s0 (execRemoteSenseRestored s) := by
  unfold execRemoteSenseRestored
  repeat' first
    | with_reducible first
      | assumption | refine outKeeps_next ?_
    | fail_if_no_progress (with_reducible refine keeps_up ?_ rfl rfl rfl rfl rfl)

theorem execStageFail_keeps {s0 : State} {i : Fin 24} {s : State} (h0 : Keeps s0 s) : OutKeeps s0 (execStageFail i s) := by
  unfold execStageFail
  repeat' first
    | with_reducible first
      | assumption | refine outKeeps_next ?_ | refine logAdd_keeps ?_ | refine raiseIrq_keeps ?_
      | refine trip_keeps ?_ | refine keeps_ite ?_ ?_
    | fail_if_no_progress (with_reducible refine keeps_up ?_ rfl rfl rfl rfl rfl)

theorem execRailOvercurrent_keeps {s0 : State} {r : Fin 50} {reading : Nat} {s : State} (h0 : Keeps s0 s) : OutKeeps s0 (execRailOvercurrent r reading s) := by
  unfold execRailOvercurrent
  repeat' first
    | with_reducible first
      | assumption | refine outKeeps_next ?_ | refine fenceCore_keeps ?_ | refine logAdd_keeps ?_
      | refine raiseIrq_keeps ?_ | refine resetCluster_keeps ?_ | refine trip_keeps ?_ | refine keeps_ite ?_ ?_
      | refine keeps_foldl (fun _ _ _ => ?_) ?_
    | fail_if_no_progress (with_reducible refine keeps_up ?_ rfl rfl rfl rfl rfl)

theorem execDroopDetect_keeps {s0 : State} {c : Fin 32} {s : State} (h0 : Keeps s0 s) : OutKeeps s0 (execDroopDetect c s) := by
  unfold execDroopDetect
  repeat' first
    | with_reducible first
      | assumption | refine outKeeps_next ?_ | refine keeps_ite ?_ ?_
    | fail_if_no_progress (with_reducible refine keeps_up ?_ rfl rfl rfl rfl rfl)

theorem execDroopEnd_keeps {s0 : State} {c : Fin 32} {s : State} (h0 : Keeps s0 s) : OutKeeps s0 (execDroopEnd c s) := by
  unfold execDroopEnd
  repeat' first
    | with_reducible first
      | assumption | refine outKeeps_next ?_
    | fail_if_no_progress (with_reducible refine keeps_up ?_ rfl rfl rfl rfl rfl)

theorem execDroopPersist_keeps {s0 : State} {p : Fin 256} {s : State} (h0 : Keeps s0 s) : OutKeeps s0 (execDroopPersist p s) := by
  unfold execDroopPersist
  repeat' first
    | with_reducible first
      | assumption | refine outKeeps_next ?_ | refine fenceCore_keeps ?_ | refine keeps_ite ?_ ?_

theorem execDiodeMismatch_keeps {s0 : State} {p : Fin 256} {s : State} (h0 : Keeps s0 s) : OutKeeps s0 (execDiodeMismatch p s) := by
  unfold execDiodeMismatch
  repeat' first
    | with_reducible first
      | assumption | refine outKeeps_next ?_ | refine fenceCore_keeps ?_ | refine keeps_ite ?_ ?_

theorem execFastLimiterSample_keeps {s0 : State} {watts : Nat} {vin10 : Nat} {clk : Nat} {s : State} (h0 : Keeps s0 s) : OutKeeps s0 (execFastLimiterSample watts vin10 clk s) := by
  unfold execFastLimiterSample
  repeat' first
    | with_reducible first
      | assumption | refine outKeeps_next ?_ | refine fastSample_keeps ?_ | refine keeps_ite ?_ ?_

theorem execRefclkBLoss_keeps {s0 : State} {s : State} (h0 : Keeps s0 s) : OutKeeps s0 (execRefclkBLoss s) := by
  unfold execRefclkBLoss
  repeat' first
    | with_reducible first
      | assumption | refine outKeeps_next ?_ | refine announce_keeps ?_ | refine reelect_keeps ?_
      | refine keeps_ite ?_ ?_
    | fail_if_no_progress (with_reducible refine keeps_up ?_ rfl rfl rfl rfl rfl)

theorem execRefclkBReturn_keeps {s0 : State} {s : State} (h0 : Keeps s0 s) : OutKeeps s0 (execRefclkBReturn s) := by
  unfold execRefclkBReturn
  repeat' first
    | with_reducible first
      | assumption | refine outKeeps_next ?_ | refine announce_keeps ?_ | refine reelect_keeps ?_
      | refine seqRest_keeps ?_
    | split | dsimp only | fail_if_no_progress (with_reducible refine keeps_up ?_ rfl rfl rfl rfl rfl)

theorem execDormantRequest_keeps {s0 : State} {s : State} (h0 : Keeps s0 s) : OutKeeps s0 (execDormantRequest s) := by
  unfold execDormantRequest
  repeat' first
    | with_reducible first
      | assumption | refine outKeeps_next ?_ | refine pfAccess_keeps ?_ ?_ | refine stateReqWrite_keeps ?_

theorem execDormantEntryComplete_keeps {s0 : State} {s : State} (h0 : Keeps s0 s) : OutKeeps s0 (execDormantEntryComplete s) := by
  unfold execDormantEntryComplete
  repeat' first
    | with_reducible first
      | assumption | refine outKeeps_next ?_ | refine enterDormant_keeps ?_

theorem execWakeRequest_keeps {s0 : State} {s : State} (h0 : Keeps s0 s) : OutKeeps s0 (execWakeRequest s) := by
  unfold execWakeRequest
  repeat' first
    | with_reducible first
      | assumption | refine outKeeps_next ?_ | refine pfAccess_keeps ?_ ?_ | refine stateReqWrite_keeps ?_

theorem execWakeComplete_keeps {s0 : State} {s : State} (h0 : Keeps s0 s) : OutKeeps s0 (execWakeComplete s) := by
  unfold execWakeComplete
  repeat' first
    | with_reducible first
      | assumption | refine outKeeps_next ?_ | refine wakeDone_keeps ?_

theorem execStandbyRequest_keeps {s0 : State} {s : State} (h0 : Keeps s0 s) : OutKeeps s0 (execStandbyRequest s) := by
  unfold execStandbyRequest
  repeat' first
    | with_reducible first
      | assumption | refine outKeeps_next ?_ | refine pfAccess_keeps ?_ ?_ | refine stateReqWrite_keeps ?_

theorem execStandbyDrainTimeout_keeps {s0 : State} {s : State} (h0 : Keeps s0 s) : OutKeeps s0 (execStandbyDrainTimeout s) := by
  unfold execStandbyDrainTimeout
  repeat' first
    | with_reducible first
      | assumption | refine outKeeps_next ?_ | refine drainOver_keeps ?_

theorem execPwrCtrlWrite_keeps {s0 : State} {v : W64} {s : State} (h0 : Keeps s0 s) : OutKeeps s0 (execPwrCtrlWrite v s) := by
  unfold execPwrCtrlWrite
  repeat' first
    | with_reducible first
      | assumption | refine outKeeps_next ?_ | refine pfAccess_keeps ?_ ?_ | refine pwrCtrlWrite_keeps ?_

theorem execParityError_keeps {s0 : State} {p : Fin 256} {unit : Fin 4} {s : State} (h0 : Keeps s0 s) : OutKeeps s0 (execParityError p unit s) := by
  unfold execParityError
  repeat' first
    | with_reducible first
      | assumption | refine outKeeps_next ?_ | refine parityHalt_keeps ?_

theorem execParityAgeOut_keeps {s0 : State} {p : Fin 256} {s : State} (h0 : Keeps s0 s) : OutKeeps s0 (execParityAgeOut p s) := by
  unfold execParityAgeOut
  repeat' first
    | with_reducible first
      | assumption | refine outKeeps_next ?_ | refine State_setCore_keeps ?_ | refine keeps_ite ?_ ?_

theorem wakeCore_keeps {s0 : State} {s : State} {p : Nat} (h0 : Keeps s0 s) : Keeps s0 (wakeCore s p) := by
  unfold wakeCore
  repeat' first
    | with_reducible first
      | assumption | refine State_setCore_keeps ?_ | refine heronKick_keeps ?_ | refine veKick_keeps ?_

theorem execCoreResetEnd_keeps {s0 : State} {p : Fin 256} {s : State} (h0 : Keeps s0 s) : OutKeeps s0 (execCoreResetEnd p s) := by
  unfold execCoreResetEnd
  repeat' first
    | with_reducible first
      | assumption | refine outKeeps_next ?_ | refine wakeCore_keeps ?_ | refine keeps_ite ?_ ?_
    | fail_if_no_progress (with_reducible refine keeps_up ?_ rfl rfl rfl rfl rfl)

theorem execClusterResetEnd_keeps {s0 : State} {c : Fin 32} {s : State} (h0 : Keeps s0 s) : OutKeeps s0 (execClusterResetEnd c s) := by
  unfold execClusterResetEnd
  repeat' first
    | with_reducible first
      | assumption | refine outKeeps_next ?_ | refine wakeCore_keeps ?_ | refine keeps_ite ?_ ?_
      | refine keeps_foldl (fun _ _ _ => ?_) ?_
    | fail_if_no_progress (with_reducible refine keeps_up ?_ rfl rfl rfl rfl rfl)

theorem execAlertTimeout_keeps {s0 : State} {s : State} (h0 : Keeps s0 s) : OutKeeps s0 (execAlertTimeout s) := by
  unfold execAlertTimeout
  repeat' first
    | with_reducible first
      | assumption | refine outKeeps_next ?_
    | fail_if_no_progress (with_reducible refine keeps_up ?_ rfl rfl rfl rfl rfl)

theorem spdmSet_keeps {s0 : State} {s : State} {m : Medium} {x : SpdmSt} (h0 : Keeps s0 s) : Keeps s0 (spdmSet s m x) :=
  keeps_up h0 rfl rfl rfl rfl rfl

theorem spdmReq_keeps {s0 : State} {s : State} {m : Medium} {ok : Bool} {f : State} (h0 : Keeps s0 s) (h1 : Keeps s0 f) : Keeps s0 (spdmReq s m ok f) := by
  unfold spdmReq
  repeat' first
    | with_reducible first
      | assumption | refine noReply_keeps ?_ | refine respond_keeps ?_ | refine keeps_ite ?_ ?_

theorem respondFree_keeps {s0 : State} {s : State} {n : Nat} (h0 : Keeps s0 s) : Keeps s0 (respondFree s n) := by
  unfold respondFree
  repeat' first
    | with_reducible first
      | assumption | refine drawBytes_keeps ?_ | refine respond_keeps ?_

theorem execGetVersion_keeps {s0 : State} {m : Medium} {s : State} (h0 : Keeps s0 s) : OutKeeps s0 (execGetVersion m s) := by
  unfold execGetVersion
  repeat' first
    | with_reducible first
      | assumption | refine outKeeps_next ?_ | refine respond_keeps ?_ | refine spdmReq_keeps ?_ ?_
      | refine spdmSet_keeps ?_

theorem execGetCapabilities_keeps {s0 : State} {m : Medium} {s : State} (h0 : Keeps s0 s) : OutKeeps s0 (execGetCapabilities m s) := by
  unfold execGetCapabilities
  repeat' first
    | with_reducible first
      | assumption | refine outKeeps_next ?_ | refine respond_keeps ?_ | refine spdmReq_keeps ?_ ?_
      | refine spdmSet_keeps ?_

theorem execNegotiateAlgorithms_keeps {s0 : State} {m : Medium} {p384 : Bool} {sha384 : Bool} {s : State} (h0 : Keeps s0 s) : OutKeeps s0 (execNegotiateAlgorithms m p384 sha384 s) := by
  unfold execNegotiateAlgorithms
  repeat' first
    | with_reducible first
      | assumption | refine outKeeps_next ?_ | refine respond_keeps ?_ | refine spdmReq_keeps ?_ ?_
      | refine spdmSet_keeps ?_

theorem execGetDigests_keeps {s0 : State} {m : Medium} {s : State} (h0 : Keeps s0 s) : OutKeeps s0 (execGetDigests m s) := by
  unfold execGetDigests
  repeat' first
    | with_reducible first
      | assumption | refine outKeeps_next ?_ | refine respondFree_keeps ?_ | refine spdmReq_keeps ?_ ?_

theorem execGetCertificate_keeps {s0 : State} {m : Medium} {slot : Fin 8} {n : Nat} {s : State} (h0 : Keeps s0 s) : OutKeeps s0 (execGetCertificate m slot n s) := by
  unfold execGetCertificate
  repeat' first
    | with_reducible first
      | assumption | refine outKeeps_next ?_ | refine respondFree_keeps ?_ | refine spdmReq_keeps ?_ ?_

theorem execChallenge_keeps {s0 : State} {m : Medium} {slot : Fin 8} {s : State} (h0 : Keeps s0 s) : OutKeeps s0 (execChallenge m slot s) := by
  unfold execChallenge
  repeat' first
    | with_reducible first
      | assumption | refine outKeeps_next ?_ | refine respondFree_keeps ?_ | refine spdmReq_keeps ?_ ?_

theorem execGetMeasurements_keeps {s0 : State} {m : Medium} {index : Nat} {signed : Bool} {s : State} (h0 : Keeps s0 s) : OutKeeps s0 (execGetMeasurements m index signed s) := by
  unfold execGetMeasurements
  repeat' first
    | with_reducible first
      | assumption | refine outKeeps_next ?_ | refine drawBytes_keeps ?_ | refine respond_keeps ?_
      | refine spdmReq_keeps ?_ ?_ | refine keeps_ite ?_ ?_

theorem execI3cIsolate_keeps {s0 : State} {scl : Bool} {sda : Bool} {s : State} (h0 : Keeps s0 s) : OutKeeps s0 (execI3cIsolate scl sda s) := by
  unfold execI3cIsolate
  repeat' first
    | with_reducible first
      | assumption | refine outKeeps_next ?_ | refine logAdd_keeps ?_ | refine keeps_ite ?_ ?_
    | fail_if_no_progress (with_reducible refine keeps_up ?_ rfl rfl rfl rfl rfl)

theorem execI3cRejoin_keeps {s0 : State} {s : State} (h0 : Keeps s0 s) : OutKeeps s0 (execI3cRejoin s) := by
  unfold execI3cRejoin
  repeat' first
    | with_reducible first
      | assumption | refine outKeeps_next ?_ | refine logAdd_keeps ?_ | refine keeps_ite ?_ ?_
    | fail_if_no_progress (with_reducible refine keeps_up ?_ rfl rfl rfl rfl rfl)

theorem execLsmIsolate_keeps {s0 : State} {b : Fin 2} {s : State} (h0 : Keeps s0 s) : OutKeeps s0 (execLsmIsolate b s) := by
  unfold execLsmIsolate
  repeat' first
    | with_reducible first
      | assumption | refine outKeeps_next ?_ | refine logAdd_keeps ?_ | refine keeps_ite ?_ ?_
      | refine keeps_forUp (fun _ _ _ => ?_) ?_
    | fail_if_no_progress (with_reducible refine keeps_up ?_ rfl rfl rfl rfl rfl)

theorem execLsmRejoin_keeps {s0 : State} {b : Fin 2} {s : State} (h0 : Keeps s0 s) : OutKeeps s0 (execLsmRejoin b s) := by
  unfold execLsmRejoin
  repeat' first
    | with_reducible first
      | assumption | refine outKeeps_next ?_
    | fail_if_no_progress (with_reducible refine keeps_up ?_ rfl rfl rfl rfl rfl)

theorem execLsmInterrupt_keeps {s0 : State} {e : Fin 16} {feed : Fin 4} {flags : W32} {s : State} (h0 : Keeps s0 s) : OutKeeps s0 (execLsmInterrupt e feed flags s) := by
  unfold execLsmInterrupt
  repeat' first
    | with_reducible first
      | assumption | refine outKeeps_next ?_ | refine logAdd_keeps ?_ | refine keeps_ite ?_ ?_

theorem tapBoundary_keeps {s0 s : State} (h0 : Keeps s0 s) : Keeps s0 (tapCapture.boundary s).1 :=
  by unfold tapCapture.boundary; exact keeps_fold1 (fun _ _ h => drawChoice_keeps (k := 2) h) h0
theorem tapCapture_keeps {s0 s : State} (h0 : Keeps s0 s) : Keeps s0 (tapCapture s).1 := by
  unfold tapCapture
  split
  · exact h0
  · exact tapBoundary_keeps h0
  · exact tapBoundary_keeps h0
  · exact h0

theorem tapEdge_keeps {s0 : State} {s : State} {tms : Bool} {tdi : Bool} (h0 : Keeps s0 s) : Keeps s0 (tapEdge s tms tdi) := by
  unfold tapEdge
  repeat' first
    | with_reducible first
      | assumption | refine tapCapture_keeps ?_
    | split | dsimp only | fail_if_no_progress (with_reducible refine keeps_up ?_ rfl rfl rfl rfl rfl)

theorem execTapClock_keeps {s0 : State} {seven : Bool} {tms : Bool} {tdi : Bool} {trst : Bool} {s : State} (h0 : Keeps s0 s) : OutKeeps s0 (execTapClock seven tms tdi trst s) := by
  unfold execTapClock
  repeat' first
    | with_reducible first
      | assumption | refine outKeeps_next ?_ | exact outKeeps_refused | refine outKeeps_ite ?_ ?_
      | refine tapEdge_keeps ?_
    | fail_if_no_progress (with_reducible refine keeps_up ?_ rfl rfl rfl rfl rfl)

theorem dropHand_keeps {s0 : State} {s : State} {q : Nat} {rs : Option Nat} (h0 : Keeps s0 s) : Keeps s0 (dropHand s q rs) := by
  unfold dropHand
  repeat' first
    | with_reducible assumption
    | split | fail_if_no_progress (with_reducible refine keeps_up ?_ rfl rfl rfl rfl rfl)

theorem updEnd_keeps {s0 : State} {s : State} {c : CmdRef} {st : Nat} {poison : Bool} (h0 : Keeps s0 s) : Keeps s0 (updEnd s c st poison) := by
  unfold updEnd
  repeat' first
    | with_reducible first
      | assumption | refine complete_keeps ?_ | refine dropHand_keeps ?_ | refine keeps_ite ?_ ?_
      | refine keeps_ite1 ?_ ?_ | refine keeps_foldl (fun _ _ _ => ?_) ?_ | refine keeps_forUp (fun _ _ _ => ?_) ?_
      | refine keeps_fold1 (fun _ _ _ => ?_) ?_ | refine keeps_foldRead (fun _ _ _ => ?_) ?_
      | refine keeps_foldMap (fun _ _ _ => ?_) ?_ | refine keeps_foldAcc (fun _ _ _ => ?_) ?_
      | refine keeps_foldWr (fun _ _ _ => ?_) ?_ | refine keeps_forUpWr (fun _ _ _ => ?_) ?_
      | refine keeps_foldAcc1 (fun _ _ _ => ?_) ?_
    | split | intro _ | dsimp only | fail_if_no_progress (with_reducible refine keeps_up ?_ rfl rfl rfl rfl rfl)
    | fail_if_no_progress (with_reducible refine keeps_mk ?_ id rfl rfl (Nat.le_add_right _ _) (Nat.le_refl _))
    | fail_if_no_progress (with_reducible refine keeps_mk ?_ (wf_filter _) rfl rfl (Nat.le_refl _) (Nat.le_refl _))
    | fail_if_no_progress (with_reducible refine keeps_mk ?_ (wf_cellsSet _ _) rfl rfl (Nat.le_refl _) (Nat.le_refl _))
    | fail_if_no_progress (with_reducible refine keeps_mk ?_ (fun _ => rfl) rfl rfl (Nat.le_refl _) (Nat.le_refl _))

theorem updFail_keeps {s0 : State} {s : State} {c : CmdRef} {st : Nat} (h0 : Keeps s0 s) : Keeps s0 (updFail s c st) := by
  unfold updFail
  repeat' first
    | with_reducible first
      | assumption | refine updEnd_keeps ?_ | refine keeps_ite ?_ ?_ | refine keeps_ite1 ?_ ?_
      | refine keeps_foldl (fun _ _ _ => ?_) ?_ | refine keeps_forUp (fun _ _ _ => ?_) ?_
      | refine keeps_fold1 (fun _ _ _ => ?_) ?_ | refine keeps_foldRead (fun _ _ _ => ?_) ?_
      | refine keeps_foldMap (fun _ _ _ => ?_) ?_ | refine keeps_foldAcc (fun _ _ _ => ?_) ?_
      | refine keeps_foldWr (fun _ _ _ => ?_) ?_ | refine keeps_forUpWr (fun _ _ _ => ?_) ?_
      | refine keeps_foldAcc1 (fun _ _ _ => ?_) ?_
    | split | intro _ | dsimp only | fail_if_no_progress (with_reducible refine keeps_up ?_ rfl rfl rfl rfl rfl)
    | fail_if_no_progress (with_reducible refine keeps_mk ?_ id rfl rfl (Nat.le_add_right _ _) (Nat.le_refl _))
    | fail_if_no_progress (with_reducible refine keeps_mk ?_ (wf_filter _) rfl rfl (Nat.le_refl _) (Nat.le_refl _))
    | fail_if_no_progress (with_reducible refine keeps_mk ?_ (wf_cellsSet _ _) rfl rfl (Nat.le_refl _) (Nat.le_refl _))
    | fail_if_no_progress (with_reducible refine keeps_mk ?_ (fun _ => rfl) rfl rfl (Nat.le_refl _) (Nat.le_refl _))

theorem updDispatch_keeps {s0 : State} {s : State} {q : Nat} {n : Nat} (h0 : Keeps s0 s) : Keeps s0 (updDispatch s q n) := by
  unfold updDispatch
  repeat' first
    | with_reducible first
      | assumption | refine collKick_keeps ?_ | refine mapRec_keeps ?_ | refine updFail_keeps ?_
      | refine keeps_ite ?_ ?_
    | split | fail_if_no_progress (with_reducible refine keeps_up ?_ rfl rfl rfl rfl rfl)

theorem execUpdate_keeps {s0 : State} {q : Fin 64} {n : Nat} {s : State} (h0 : Keeps s0 s) : OutKeeps s0 (execUpdate q n s) := by
  unfold execUpdate
  repeat' first
    | with_reducible first
      | assumption | refine outKeeps_next ?_ | refine updDispatch_keeps ?_

theorem mapRange_keeps {s0 : State} {ctx : Nat} {x : UpdMap} {g : Nat × Nat} {wr : Bool} (h0 : Keeps s0 x.s) : Keeps s0 (mapRange ctx x g wr).s := by
  unfold mapRange
  repeat' first
    | with_reducible first
      | assumption | refine vnote_keeps ?_ | refine keeps_foldMap (fun _ _ _ => ?_) ?_
    | split

theorem mapAll_keeps {s0 : State} {s : State} {ctx : Nat} {r : Rec} (h0 : Keeps s0 s) : Keeps s0 (mapAll s ctx r).s := by
  unfold mapAll
  repeat' first
    | with_reducible first
      | assumption | refine mapRange_keeps ?_
    | split

theorem armMaps_keeps {s0 : State} {s : State} {c : CmdRef} {r : Rec} {h : Shard} (h0 : Keeps s0 s) : Keeps s0 (armMaps s c r h) := by
  unfold armMaps
  repeat' first
    | with_reducible first
      | assumption | refine mapAll_keeps ?_ | refine updFail_keeps ?_
    | split | dsimp only | fail_if_no_progress (with_reducible refine keeps_up ?_ rfl rfl rfl rfl rfl)

theorem armUpdate_keeps {s0 : State} {s : State} {c : CmdRef} {r : Rec} (h0 : Keeps s0 s) : Keeps s0 (armUpdate s c r) := by
  unfold armUpdate
  repeat' first
    | with_reducible first
      | assumption | refine abortOf_keeps ?_ | refine armMaps_keeps ?_ | refine detect_keeps ?_
      | refine mapRange_keeps ?_ | refine setRecSt_keeps ?_ | refine updEnd_keeps ?_ | refine updFail_keeps ?_
      | refine keeps_ite ?_ ?_ | refine keeps_ite1 ?_ ?_ | refine keeps_foldl (fun _ _ _ => ?_) ?_
      | refine keeps_forUp (fun _ _ _ => ?_) ?_ | refine keeps_fold1 (fun _ _ _ => ?_) ?_
      | refine keeps_foldRead (fun _ _ _ => ?_) ?_ | refine keeps_foldMap (fun _ _ _ => ?_) ?_
      | refine keeps_foldAcc (fun _ _ _ => ?_) ?_ | refine keeps_foldWr (fun _ _ _ => ?_) ?_
      | refine keeps_forUpWr (fun _ _ _ => ?_) ?_ | refine keeps_foldAcc1 (fun _ _ _ => ?_) ?_
    | split | intro _ | dsimp only | fail_if_no_progress (with_reducible refine keeps_up ?_ rfl rfl rfl rfl rfl)
    | fail_if_no_progress (with_reducible refine keeps_mk ?_ id rfl rfl (Nat.le_add_right _ _) (Nat.le_refl _))
    | fail_if_no_progress (with_reducible refine keeps_mk ?_ (wf_filter _) rfl rfl (Nat.le_refl _) (Nat.le_refl _))
    | fail_if_no_progress (with_reducible refine keeps_mk ?_ (wf_cellsSet _ _) rfl rfl (Nat.le_refl _) (Nat.le_refl _))
    | fail_if_no_progress (with_reducible refine keeps_mk ?_ (fun _ => rfl) rfl rfl (Nat.le_refl _) (Nat.le_refl _))

theorem updArm_keeps {s0 : State} {s : State} (h0 : Keeps s0 s) : Keeps s0 (updArm s) := by
  unfold updArm
  repeat' first
    | with_reducible first
      | assumption | refine armUpdate_keeps ?_ | refine collKick_keeps ?_ | refine sramSweep_keeps ?_
    | split | dsimp only

theorem execUpdateArm_keeps {s0 : State} {s : State} (h0 : Keeps s0 s) : OutKeeps s0 (execUpdateArm s) := by
  unfold execUpdateArm
  repeat' first
    | with_reducible first
      | assumption | refine outKeeps_next ?_ | refine updArm_keeps ?_

theorem updRead_keeps {s0 : State} {u : UpdRun} {s : State} {va : Nat} {n : Nat} (h0 : Keeps s0 s) : Keeps s0 (updRead u s va n).1 := by
  unfold updRead
  repeat' first
    | with_reducible first
      | assumption | refine detect_keeps ?_ | refine keeps_foldl (fun _ _ _ => ?_) ?_

theorem updWrite_keeps {s0 : State} {u : UpdRun} {x : UpdAcc} {va : Nat} {bs : List Byte} (h0 : Keeps s0 x.s) : Keeps s0 (updWrite u x va bs).s := by
  unfold updWrite
  repeat' first
    | with_reducible first
      | assumption | refine writeMem_keeps ?_

theorem handElem_keeps {s0 : State} {s : State} {q : Nat} {n : Nat} {dst : Nat} {w : Nat} {i : Nat} (h0 : Keeps s0 s) : Keeps s0 (handElem s q n dst w i).1 := by
  unfold handElem
  repeat' first
    | with_reducible first
      | assumption | refine vreadMarked_keeps ?_
    | split | dsimp only

theorem gradVal_keeps {s0 : State} {u : UpdRun} {s : State} {r : Rec} {i : Nat} (h0 : Keeps s0 s) : Keeps s0 (gradVal u s r i).1 := by
  unfold gradVal
  repeat' first
    | with_reducible first
      | assumption | refine handElem_keeps ?_ | refine updRead_keeps ?_
    | split

theorem momVal_keeps {s0 : State} {u : UpdRun} {s : State} {r : Rec} {i : Nat} (h0 : Keeps s0 s) : Keeps s0 (momVal u s r i).1 := by
  unfold momVal
  repeat' first
    | with_reducible first
      | assumption | refine updRead_keeps ?_
    | split

theorem frozenAt_keeps {s0 : State} {u : UpdRun} {s : State} {r : Rec} {i : Nat} (h0 : Keeps s0 s) : Keeps s0 (frozenAt u s r i).1 := by
  unfold frozenAt
  repeat' first
    | with_reducible first
      | assumption | refine updRead_keeps ?_

theorem updParam_keeps {s0 : State} {u : UpdRun} {r : Rec} {x : UpdAcc} {i : Nat} (h0 : Keeps s0 x.s) : Keeps s0 (updParam u r x i).1.s := by
  unfold updParam
  repeat' first
    | with_reducible first
      | assumption | refine frozenAt_keeps ?_ | refine gradVal_keeps ?_ | refine momVal_keeps ?_
      | refine updRead_keeps ?_ | refine updWrite_keeps ?_
    | split | dsimp only

theorem momWhole_keeps {s0 : State} {u : UpdRun} {r : Rec} {x : UpdAcc} {b : Nat} {vs : List Val} (h0 : Keeps s0 x.s) : Keeps s0 (momWhole u r x b vs).s := by
  unfold momWhole
  repeat' first
    | with_reducible first
      | assumption | refine updWrite_keeps ?_

theorem momHeld_keeps {s0 : State} {u : UpdRun} {r : Rec} {x : UpdAcc} {b : Nat} {k : Nat} {ms : List (Option Val)} (h0 : Keeps s0 x.s) : Keeps s0 (momHeld u r x b k ms).s := by
  unfold momHeld
  repeat' first
    | with_reducible first
      | assumption | refine updWrite_keeps ?_ | refine keeps_foldAcc (fun _ _ _ => ?_) ?_
    | split

theorem updBlock_keeps {s0 : State} {u : UpdRun} {r : Rec} {x : UpdAcc} {b : Nat} (h0 : Keeps s0 x.s) : Keeps s0 (updBlock u r x b).s := by
  unfold updBlock
  repeat' first
    | with_reducible first
      | assumption | refine momHeld_keeps ?_ | refine momWhole_keeps ?_ | refine updParam_keeps ?_
      | refine updRead_keeps ?_ | refine keeps_foldAcc1 (fun _ _ _ => ?_) ?_
    | split | dsimp only

theorem updCtr_keeps {s0 : State} {s : State} {o : Nat} {n : Nat} (h0 : Keeps s0 s) : Keeps s0 (updCtr s o n) :=
  keeps_up h0 rfl rfl rfl rfl rfl

theorem updCounts_keeps {s0 : State} {s : State} {x : UpdAcc} {n : Nat} {miss : Nat} {ns : Nat} (h0 : Keeps s0 s) (h1 : Keeps s0 x.s) : Keeps s0 (updCounts s x n miss ns) := by
  unfold updCounts
  repeat' first
    | with_reducible first
      | assumption | refine updCtr_keeps ?_

theorem updWritePhase_keeps {s0 : State} {s : State} {u : UpdRun} {r : Rec} {ns : Nat} (h0 : Keeps s0 s) : Keeps s0 (updWritePhase s u r ns) := by
  unfold updWritePhase
  repeat' first
    | with_reducible first
      | assumption | refine collKick_keeps ?_ | refine complete_keeps ?_ | refine dropHand_keeps ?_
      | refine noteDiscard_keeps ?_ | refine sramSweep_keeps ?_ | refine updBlock_keeps ?_
      | refine updCounts_keeps ?_ ?_ | refine updWrite_keeps ?_ | refine keeps_foldAcc (fun _ _ _ => ?_) ?_
    | fail_if_no_progress (with_reducible refine keeps_up ?_ rfl rfl rfl rfl rfl)

theorem updPhase_keeps {s0 : State} {s : State} {ns : Nat} (h0 : Keeps s0 s) : Keeps s0 (updPhase s ns) := by
  unfold updPhase
  repeat' first
    | with_reducible first
      | assumption | refine collKick_keeps ?_ | refine updFail_keeps ?_ | refine updWritePhase_keeps ?_
    | split | fail_if_no_progress (with_reducible refine keeps_up ?_ rfl rfl rfl rfl rfl)

theorem execUpdateWritePhase_keeps {s0 : State} {ns : Nat} {s : State} (h0 : Keeps s0 s) : OutKeeps s0 (execUpdateWritePhase ns s) := by
  unfold execUpdateWritePhase
  repeat' first
    | with_reducible first
      | assumption | refine outKeeps_next ?_ | refine updPhase_keeps ?_

end Sys2Proof.Machine
end

