-- ==== Sys2Proof/Laws/KeepsVe.lean ====
section
/-!
SUPPORT. The preservation lemmas of the vector-engine commands.
-/
namespace Sys2Proof.Machine

theorem execVeIllegalInstruction_keeps {s0 : State} {p : Fin 256} {w : VeWaits} {s : State} (h0 : Keeps s0 s) : OutKeeps s0 (execVeIllegalInstruction p w s) := by
  unfold execVeIllegalInstruction
  repeat' first
    | with_reducible first
      | assumption | refine outKeeps_next ?_ | refine veIllegal_keeps ?_

theorem execVeNop_keeps {s0 : State} {p : Fin 256} {w : VeWaits} {s : State} (h0 : Keeps s0 s) : OutKeeps s0 (execVeNop p w s) := by
  unfold execVeNop
  repeat' first
    | with_reducible first
      | assumption | refine eff_ok ?_ | refine veStep_keeps ?_ ?_
    | intro _

theorem execEndProg_keeps {s0 : State} {p : Fin 256} {w : VeWaits} {s : State} (h0 : Keeps s0 s) : OutKeeps s0 (execEndProg p w s) := by
  unfold execEndProg
  repeat' first
    | with_reducible first
      | assumption | refine eff_fin ?_ | refine veStep_keeps ?_ ?_
    | intro _

theorem execBr_keeps {s0 : State} {p : Fin 256} {w : VeWaits} {s : State} (h0 : Keeps s0 s) : OutKeeps s0 (execBr p w s) := by
  unfold execBr
  repeat' first
    | with_reducible first
      | assumption | exact veBranch_keeps | refine veStep_keeps ?_ ?_

theorem execBz_keeps {s0 : State} {p : Fin 256} {w : VeWaits} {s : State} (h0 : Keeps s0 s) : OutKeeps s0 (execBz p w s) := by
  unfold execBz
  repeat' first
    | with_reducible first
      | assumption | exact veBranch_keeps | refine veStep_keeps ?_ ?_

theorem execBnz_keeps {s0 : State} {p : Fin 256} {w : VeWaits} {s : State} (h0 : Keeps s0 s) : OutKeeps s0 (execBnz p w s) := by
  unfold execBnz
  repeat' first
    | with_reducible first
      | assumption | exact veBranch_keeps | refine veStep_keeps ?_ ?_

theorem execBlt_keeps {s0 : State} {p : Fin 256} {w : VeWaits} {s : State} (h0 : Keeps s0 s) : OutKeeps s0 (execBlt p w s) := by
  unfold execBlt
  repeat' first
    | with_reducible first
      | assumption | exact veBranch_keeps | refine veStep_keeps ?_ ?_

theorem execLoopS_keeps {s0 : State} {p : Fin 256} {w : VeWaits} {s : State} (h0 : Keeps s0 s) : OutKeeps s0 (execLoopS p w s) := by
  unfold execLoopS
  repeat' first
    | with_reducible first
      | assumption | exact veLoop_keeps | refine veStep_keeps ?_ ?_

theorem execSetvl_keeps {s0 : State} {p : Fin 256} {w : VeWaits} {s : State} (h0 : Keeps s0 s) : OutKeeps s0 (execSetvl p w s) := by
  unfold execSetvl
  repeat' first
    | with_reducible first
      | assumption | exact veSetvl_keeps | refine veStep_keeps ?_ ?_

theorem execSetvli_keeps {s0 : State} {p : Fin 256} {w : VeWaits} {s : State} (h0 : Keeps s0 s) : OutKeeps s0 (execSetvli p w s) := by
  unfold execSetvli
  repeat' first
    | with_reducible first
      | assumption | exact veSetvli_keeps | refine veStep_keeps ?_ ?_

theorem execVf2i_keeps {s0 : State} {p : Fin 256} {w : VeWaits} {s : State} (h0 : Keeps s0 s) : OutKeeps s0 (execVf2i p w s) := by
  unfold execVf2i
  repeat' first
    | with_reducible first
      | assumption | exact veConvert_keeps | refine veStep_keeps ?_ ?_

theorem execVi2f_keeps {s0 : State} {p : Fin 256} {w : VeWaits} {s : State} (h0 : Keeps s0 s) : OutKeeps s0 (execVi2f p w s) := by
  unfold execVi2f
  repeat' first
    | with_reducible first
      | assumption | exact veConvert_keeps | refine veStep_keeps ?_ ?_

theorem execVpack_keeps {s0 : State} {p : Fin 256} {w : VeWaits} {s : State} (h0 : Keeps s0 s) : OutKeeps s0 (execVpack p w s) := by
  unfold execVpack
  repeat' first
    | with_reducible first
      | assumption | exact veVpack_keeps | refine veStep_keeps ?_ ?_

theorem execVunlo_keeps {s0 : State} {p : Fin 256} {w : VeWaits} {s : State} (h0 : Keeps s0 s) : OutKeeps s0 (execVunlo p w s) := by
  unfold execVunlo
  repeat' first
    | with_reducible first
      | assumption | exact veUnpack_keeps | refine veStep_keeps ?_ ?_

theorem execVunhi_keeps {s0 : State} {p : Fin 256} {w : VeWaits} {s : State} (h0 : Keeps s0 s) : OutKeeps s0 (execVunhi p w s) := by
  unfold execVunhi
  repeat' first
    | with_reducible first
      | assumption | exact veUnpack_keeps | refine veStep_keeps ?_ ?_

theorem execVqnt_keeps {s0 : State} {p : Fin 256} {w : VeWaits} {s : State} (h0 : Keeps s0 s) : OutKeeps s0 (execVqnt p w s) := by
  unfold execVqnt
  repeat' first
    | with_reducible first
      | assumption | exact veVqnt_keeps | refine veStep_keeps ?_ ?_

theorem execWadd_keeps {s0 : State} {p : Fin 256} {w : VeWaits} {s : State} (h0 : Keeps s0 s) : OutKeeps s0 (execWadd p w s) := by
  unfold execWadd
  repeat' first
    | with_reducible first
      | assumption | exact veWadd_keeps | refine veStep_keeps ?_ ?_

theorem execWaddf_keeps {s0 : State} {p : Fin 256} {w : VeWaits} {s : State} (h0 : Keeps s0 s) : OutKeeps s0 (execWaddf p w s) := by
  unfold execWaddf
  repeat' first
    | with_reducible first
      | assumption | exact veWaddf_keeps | refine veStep_keeps ?_ ?_

theorem execWfrom_keeps {s0 : State} {p : Fin 256} {w : VeWaits} {s : State} (h0 : Keeps s0 s) : OutKeeps s0 (execWfrom p w s) := by
  unfold execWfrom
  repeat' first
    | with_reducible first
      | assumption | exact veWfrom_keeps | refine veStep_keeps ?_ ?_

theorem execWto_keeps {s0 : State} {p : Fin 256} {w : VeWaits} {s : State} (h0 : Keeps s0 s) : OutKeeps s0 (execWto p w s) := by
  unfold execWto
  repeat' first
    | with_reducible first
      | assumption | exact veWto_keeps | refine veStep_keeps ?_ ?_

theorem execWfromi_keeps {s0 : State} {p : Fin 256} {w : VeWaits} {s : State} (h0 : Keeps s0 s) : OutKeeps s0 (execWfromi p w s) := by
  unfold execWfromi
  repeat' first
    | with_reducible first
      | assumption | exact veWfromi_keeps | refine veStep_keeps ?_ ?_

theorem execVaddF_keeps {s0 : State} {p : Fin 256} {w : VeWaits} {s : State} (h0 : Keeps s0 s) : OutKeeps s0 (execVaddF p w s) := by
  unfold execVaddF
  repeat' first
    | with_reducible first
      | assumption | exact lanes2_keeps | refine veStep_keeps ?_ ?_

theorem execVsubF_keeps {s0 : State} {p : Fin 256} {w : VeWaits} {s : State} (h0 : Keeps s0 s) : OutKeeps s0 (execVsubF p w s) := by
  unfold execVsubF
  repeat' first
    | with_reducible first
      | assumption | exact lanes2_keeps | refine veStep_keeps ?_ ?_

theorem execVmulF_keeps {s0 : State} {p : Fin 256} {w : VeWaits} {s : State} (h0 : Keeps s0 s) : OutKeeps s0 (execVmulF p w s) := by
  unfold execVmulF
  repeat' first
    | with_reducible first
      | assumption | exact lanes2_keeps | refine veStep_keeps ?_ ?_

theorem execVfmaF_keeps {s0 : State} {p : Fin 256} {w : VeWaits} {s : State} (h0 : Keeps s0 s) : OutKeeps s0 (execVfmaF p w s) := by
  unfold execVfmaF
  repeat' first
    | with_reducible first
      | assumption | exact lanes3_keeps | refine veStep_keeps ?_ ?_

theorem execVfmsF_keeps {s0 : State} {p : Fin 256} {w : VeWaits} {s : State} (h0 : Keeps s0 s) : OutKeeps s0 (execVfmsF p w s) := by
  unfold execVfmsF
  repeat' first
    | with_reducible first
      | assumption | exact lanes3_keeps | refine veStep_keeps ?_ ?_

theorem execVfnmaF_keeps {s0 : State} {p : Fin 256} {w : VeWaits} {s : State} (h0 : Keeps s0 s) : OutKeeps s0 (execVfnmaF p w s) := by
  unfold execVfnmaF
  repeat' first
    | with_reducible first
      | assumption | exact lanes3_keeps | refine veStep_keeps ?_ ?_

theorem execVminF_keeps {s0 : State} {p : Fin 256} {w : VeWaits} {s : State} (h0 : Keeps s0 s) : OutKeeps s0 (execVminF p w s) := by
  unfold execVminF
  repeat' first
    | with_reducible first
      | assumption | exact lanes2_keeps | refine veStep_keeps ?_ ?_

theorem execVmaxF_keeps {s0 : State} {p : Fin 256} {w : VeWaits} {s : State} (h0 : Keeps s0 s) : OutKeeps s0 (execVmaxF p w s) := by
  unfold execVmaxF
  repeat' first
    | with_reducible first
      | assumption | exact lanes2_keeps | refine veStep_keeps ?_ ?_

theorem execVabsF_keeps {s0 : State} {p : Fin 256} {w : VeWaits} {s : State} (h0 : Keeps s0 s) : OutKeeps s0 (execVabsF p w s) := by
  unfold execVabsF
  repeat' first
    | with_reducible first
      | assumption | exact lanes1_keeps | refine veStep_keeps ?_ ?_

theorem execVnegF_keeps {s0 : State} {p : Fin 256} {w : VeWaits} {s : State} (h0 : Keeps s0 s) : OutKeeps s0 (execVnegF p w s) := by
  unfold execVnegF
  repeat' first
    | with_reducible first
      | assumption | exact lanes1_keeps | refine veStep_keeps ?_ ?_

theorem execVcpsF_keeps {s0 : State} {p : Fin 256} {w : VeWaits} {s : State} (h0 : Keeps s0 s) : OutKeeps s0 (execVcpsF p w s) := by
  unfold execVcpsF
  repeat' first
    | with_reducible first
      | assumption | exact lanes2_keeps | refine veStep_keeps ?_ ?_

theorem execVmov_keeps {s0 : State} {p : Fin 256} {w : VeWaits} {s : State} (h0 : Keeps s0 s) : OutKeeps s0 (execVmov p w s) := by
  unfold execVmov
  repeat' first
    | with_reducible first
      | assumption | exact lanes1_keeps | refine veStep_keeps ?_ ?_

theorem execVbc_keeps {s0 : State} {p : Fin 256} {w : VeWaits} {s : State} (h0 : Keeps s0 s) : OutKeeps s0 (execVbc p w s) := by
  unfold execVbc
  repeat' first
    | with_reducible first
      | assumption | exact veVbc_keeps | refine veStep_keeps ?_ ?_

theorem execVsel_keeps {s0 : State} {p : Fin 256} {w : VeWaits} {s : State} (h0 : Keeps s0 s) : OutKeeps s0 (execVsel p w s) := by
  unfold execVsel
  repeat' first
    | with_reducible first
      | assumption | exact veVsel_keeps | refine veStep_keeps ?_ ?_

theorem execVaddI_keeps {s0 : State} {p : Fin 256} {w : VeWaits} {s : State} (h0 : Keeps s0 s) : OutKeeps s0 (execVaddI p w s) := by
  unfold execVaddI
  repeat' first
    | with_reducible first
      | assumption | exact lanes2_keeps | refine veStep_keeps ?_ ?_

theorem execVsubI_keeps {s0 : State} {p : Fin 256} {w : VeWaits} {s : State} (h0 : Keeps s0 s) : OutKeeps s0 (execVsubI p w s) := by
  unfold execVsubI
  repeat' first
    | with_reducible first
      | assumption | exact lanes2_keeps | refine veStep_keeps ?_ ?_

theorem execVmulI_keeps {s0 : State} {p : Fin 256} {w : VeWaits} {s : State} (h0 : Keeps s0 s) : OutKeeps s0 (execVmulI p w s) := by
  unfold execVmulI
  repeat' first
    | with_reducible first
      | assumption | exact lanes2_keeps | refine veStep_keeps ?_ ?_

theorem execVaddsI_keeps {s0 : State} {p : Fin 256} {w : VeWaits} {s : State} (h0 : Keeps s0 s) : OutKeeps s0 (execVaddsI p w s) := by
  unfold execVaddsI
  repeat' first
    | with_reducible first
      | assumption | exact lanesSat_keeps | refine veStep_keeps ?_ ?_

theorem execVsubsI_keeps {s0 : State} {p : Fin 256} {w : VeWaits} {s : State} (h0 : Keeps s0 s) : OutKeeps s0 (execVsubsI p w s) := by
  unfold execVsubsI
  repeat' first
    | with_reducible first
      | assumption | exact lanesSat_keeps | refine veStep_keeps ?_ ?_

theorem execVand_keeps {s0 : State} {p : Fin 256} {w : VeWaits} {s : State} (h0 : Keeps s0 s) : OutKeeps s0 (execVand p w s) := by
  unfold execVand
  repeat' first
    | with_reducible first
      | assumption | exact lanes2_keeps | refine veStep_keeps ?_ ?_

theorem execVor_keeps {s0 : State} {p : Fin 256} {w : VeWaits} {s : State} (h0 : Keeps s0 s) : OutKeeps s0 (execVor p w s) := by
  unfold execVor
  repeat' first
    | with_reducible first
      | assumption | exact lanes2_keeps | refine veStep_keeps ?_ ?_

theorem execVxor_keeps {s0 : State} {p : Fin 256} {w : VeWaits} {s : State} (h0 : Keeps s0 s) : OutKeeps s0 (execVxor p w s) := by
  unfold execVxor
  repeat' first
    | with_reducible first
      | assumption | exact lanes2_keeps | refine veStep_keeps ?_ ?_

theorem execVshl_keeps {s0 : State} {p : Fin 256} {w : VeWaits} {s : State} (h0 : Keeps s0 s) : OutKeeps s0 (execVshl p w s) := by
  unfold execVshl
  repeat' first
    | with_reducible first
      | assumption | exact lanes2_keeps | refine veStep_keeps ?_ ?_

theorem execVshr_keeps {s0 : State} {p : Fin 256} {w : VeWaits} {s : State} (h0 : Keeps s0 s) : OutKeeps s0 (execVshr p w s) := by
  unfold execVshr
  repeat' first
    | with_reducible first
      | assumption | exact lanes2_keeps | refine veStep_keeps ?_ ?_

theorem execVsar_keeps {s0 : State} {p : Fin 256} {w : VeWaits} {s : State} (h0 : Keeps s0 s) : OutKeeps s0 (execVsar p w s) := by
  unfold execVsar
  repeat' first
    | with_reducible first
      | assumption | exact lanes2_keeps | refine veStep_keeps ?_ ?_

theorem execVminI_keeps {s0 : State} {p : Fin 256} {w : VeWaits} {s : State} (h0 : Keeps s0 s) : OutKeeps s0 (execVminI p w s) := by
  unfold execVminI
  repeat' first
    | with_reducible first
      | assumption | exact lanes2_keeps | refine veStep_keeps ?_ ?_

theorem execVmaxI_keeps {s0 : State} {p : Fin 256} {w : VeWaits} {s : State} (h0 : Keeps s0 s) : OutKeeps s0 (execVmaxI p w s) := by
  unfold execVmaxI
  repeat' first
    | with_reducible first
      | assumption | exact lanes2_keeps | refine veStep_keeps ?_ ?_

theorem execViota_keeps {s0 : State} {p : Fin 256} {w : VeWaits} {s : State} (h0 : Keeps s0 s) : OutKeeps s0 (execViota p w s) := by
  unfold execViota
  repeat' first
    | with_reducible first
      | assumption | exact veViota_keeps | refine veStep_keeps ?_ ?_

theorem execLwait_keeps {s0 : State} {p : Fin 256} {w : VeWaits} {s : State} (h0 : Keeps s0 s) : OutKeeps s0 (execLwait p w s) := by
  unfold execLwait
  repeat' first
    | with_reducible first
      | assumption | exact veLwait_keeps | refine veStep_keeps ?_ ?_

theorem execLpeek_keeps {s0 : State} {p : Fin 256} {w : VeWaits} {s : State} (h0 : Keeps s0 s) : OutKeeps s0 (execLpeek p w s) := by
  unfold execLpeek
  repeat' first
    | with_reducible first
      | assumption | exact veLpeek_keeps | refine veStep_keeps ?_ ?_

theorem execLld_keeps {s0 : State} {p : Fin 256} {w : VeWaits} {s : State} (h0 : Keeps s0 s) : OutKeeps s0 (execLld p w s) := by
  unfold execLld
  repeat' first
    | with_reducible first
      | assumption | exact veLld_keeps | refine veStep_keeps ?_ ?_

theorem execLldw_keeps {s0 : State} {p : Fin 256} {w : VeWaits} {s : State} (h0 : Keeps s0 s) : OutKeeps s0 (execLldw p w s) := by
  unfold execLldw
  repeat' first
    | with_reducible first
      | assumption | exact veLldw_keeps | refine veStep_keeps ?_ ?_

theorem execLrel_keeps {s0 : State} {p : Fin 256} {w : VeWaits} {s : State} (h0 : Keeps s0 s) : OutKeeps s0 (execLrel p w s) := by
  unfold execLrel
  repeat' first
    | with_reducible first
      | assumption | exact veLrel_keeps | refine veStep_keeps ?_ ?_

theorem execVcmpF_keeps {s0 : State} {p : Fin 256} {w : VeWaits} {s : State} (h0 : Keeps s0 s) : OutKeeps s0 (execVcmpF p w s) := by
  unfold execVcmpF
  repeat' first
    | with_reducible first
      | assumption | refine outKeeps_next ?_ | exact veVcmpF_keeps | refine veRun_keeps ?_ ?_

theorem execVcmpI_keeps {s0 : State} {p : Fin 256} {w : VeWaits} {s : State} (h0 : Keeps s0 s) : OutKeeps s0 (execVcmpI p w s) := by
  unfold execVcmpI
  repeat' first
    | with_reducible first
      | assumption | refine outKeeps_next ?_ | exact veVcmpI_keeps | refine veRun_keeps ?_ ?_

theorem execVnan_keeps {s0 : State} {p : Fin 256} {w : VeWaits} {s : State} (h0 : Keeps s0 s) : OutKeeps s0 (execVnan p w s) := by
  unfold execVnan
  repeat' first
    | with_reducible first
      | assumption | exact veVnan_keeps | refine veStep_keeps ?_ ?_

theorem execMand_keeps {s0 : State} {p : Fin 256} {w : VeWaits} {s : State} (h0 : Keeps s0 s) : OutKeeps s0 (execMand p w s) := by
  unfold execMand
  repeat' first
    | with_reducible first
      | assumption | exact mask2_keeps | refine veStep_keeps ?_ ?_

theorem execMor_keeps {s0 : State} {p : Fin 256} {w : VeWaits} {s : State} (h0 : Keeps s0 s) : OutKeeps s0 (execMor p w s) := by
  unfold execMor
  repeat' first
    | with_reducible first
      | assumption | exact mask2_keeps | refine veStep_keeps ?_ ?_

theorem execMxor_keeps {s0 : State} {p : Fin 256} {w : VeWaits} {s : State} (h0 : Keeps s0 s) : OutKeeps s0 (execMxor p w s) := by
  unfold execMxor
  repeat' first
    | with_reducible first
      | assumption | exact mask2_keeps | refine veStep_keeps ?_ ?_

theorem execMandn_keeps {s0 : State} {p : Fin 256} {w : VeWaits} {s : State} (h0 : Keeps s0 s) : OutKeeps s0 (execMandn p w s) := by
  unfold execMandn
  repeat' first
    | with_reducible first
      | assumption | exact mask2_keeps | refine veStep_keeps ?_ ?_

theorem execMnot_keeps {s0 : State} {p : Fin 256} {w : VeWaits} {s : State} (h0 : Keeps s0 s) : OutKeeps s0 (execMnot p w s) := by
  unfold execMnot
  repeat' first
    | with_reducible first
      | assumption | exact veMnot_keeps | refine veStep_keeps ?_ ?_

theorem execMvl_keeps {s0 : State} {p : Fin 256} {w : VeWaits} {s : State} (h0 : Keeps s0 s) : OutKeeps s0 (execMvl p w s) := by
  unfold execMvl
  repeat' first
    | with_reducible first
      | assumption | exact veMvl_keeps | refine veStep_keeps ?_ ?_

theorem execMpop_keeps {s0 : State} {p : Fin 256} {w : VeWaits} {s : State} (h0 : Keeps s0 s) : OutKeeps s0 (execMpop p w s) := by
  unfold execMpop
  repeat' first
    | with_reducible first
      | assumption | exact veMpop_keeps | refine veStep_keeps ?_ ?_

theorem execMfirst_keeps {s0 : State} {p : Fin 256} {w : VeWaits} {s : State} (h0 : Keeps s0 s) : OutKeeps s0 (execMfirst p w s) := by
  unfold execMfirst
  repeat' first
    | with_reducible first
      | assumption | exact veMfirst_keeps | refine veStep_keeps ?_ ?_

theorem execMld_keeps {s0 : State} {p : Fin 256} {w : VeWaits} {s : State} (h0 : Keeps s0 s) : OutKeeps s0 (execMld p w s) := by
  unfold execMld
  repeat' first
    | with_reducible first
      | assumption | exact veMld_keeps | refine veStep_keeps ?_ ?_

theorem execMst_keeps {s0 : State} {p : Fin 256} {w : VeWaits} {s : State} (h0 : Keeps s0 s) : OutKeeps s0 (execMst p w s) := by
  unfold execMst
  repeat' first
    | with_reducible first
      | assumption | exact veMst_keeps | refine veStep_keeps ?_ ?_

theorem execVld_keeps {s0 : State} {p : Fin 256} {w : VeWaits} {s : State} (h0 : Keeps s0 s) : OutKeeps s0 (execVld p w s) := by
  unfold execVld
  repeat' first
    | with_reducible first
      | assumption | exact veLoad_keeps | refine veStep_keeps ?_ ?_

theorem execVst_keeps {s0 : State} {p : Fin 256} {w : VeWaits} {s : State} (h0 : Keeps s0 s) : OutKeeps s0 (execVst p w s) := by
  unfold execVst
  repeat' first
    | with_reducible first
      | assumption | exact veStore_keeps | refine veStep_keeps ?_ ?_

theorem execVlds_keeps {s0 : State} {p : Fin 256} {w : VeWaits} {s : State} (h0 : Keeps s0 s) : OutKeeps s0 (execVlds p w s) := by
  unfold execVlds
  repeat' first
    | with_reducible first
      | assumption | exact veLoad_keeps | refine veStep_keeps ?_ ?_

theorem execVsts_keeps {s0 : State} {p : Fin 256} {w : VeWaits} {s : State} (h0 : Keeps s0 s) : OutKeeps s0 (execVsts p w s) := by
  unfold execVsts
  repeat' first
    | with_reducible first
      | assumption | exact veStore_keeps | refine veStep_keeps ?_ ?_

theorem execVldx_keeps {s0 : State} {p : Fin 256} {w : VeWaits} {s : State} (h0 : Keeps s0 s) : OutKeeps s0 (execVldx p w s) := by
  unfold execVldx
  repeat' first
    | with_reducible first
      | assumption | exact veLoad_keeps | refine veStep_keeps ?_ ?_

theorem execVstx_keeps {s0 : State} {p : Fin 256} {w : VeWaits} {s : State} (h0 : Keeps s0 s) : OutKeeps s0 (execVstx p w s) := by
  unfold execVstx
  repeat' first
    | with_reducible first
      | assumption | exact veStore_keeps | refine veStep_keeps ?_ ?_

theorem execVldcF_keeps {s0 : State} {p : Fin 256} {w : VeWaits} {s : State} (h0 : Keeps s0 s) : OutKeeps s0 (execVldcF p w s) := by
  unfold execVldcF
  repeat' first
    | with_reducible first
      | assumption | exact veLoadConv_keeps | refine veStep_keeps ?_ ?_

theorem execVldcI_keeps {s0 : State} {p : Fin 256} {w : VeWaits} {s : State} (h0 : Keeps s0 s) : OutKeeps s0 (execVldcI p w s) := by
  unfold execVldcI
  repeat' first
    | with_reducible first
      | assumption | exact veLoadConv_keeps | refine veStep_keeps ?_ ?_

theorem execVstcF_keeps {s0 : State} {p : Fin 256} {w : VeWaits} {s : State} (h0 : Keeps s0 s) : OutKeeps s0 (execVstcF p w s) := by
  unfold execVstcF
  repeat' first
    | with_reducible first
      | assumption | exact veStoreF_keeps | refine veStep_keeps ?_ ?_

theorem execVstcI_keeps {s0 : State} {p : Fin 256} {w : VeWaits} {s : State} (h0 : Keeps s0 s) : OutKeeps s0 (execVstcI p w s) := by
  unfold execVstcI
  repeat' first
    | with_reducible first
      | assumption | exact veStoreI_keeps | refine veStep_keeps ?_ ?_

theorem execSplLd_keeps {s0 : State} {p : Fin 256} {w : VeWaits} {s : State} (h0 : Keeps s0 s) : OutKeeps s0 (execSplLd p w s) := by
  unfold execSplLd
  repeat' first
    | with_reducible first
      | assumption | exact veSplLd_keeps | refine veStep_keeps ?_ ?_

theorem execSplSt_keeps {s0 : State} {p : Fin 256} {w : VeWaits} {s : State} (h0 : Keeps s0 s) : OutKeeps s0 (execSplSt p w s) := by
  unfold execSplSt
  repeat' first
    | with_reducible first
      | assumption | exact veSplSt_keeps | refine veStep_keeps ?_ ?_

theorem execSplFold_keeps {s0 : State} {p : Fin 256} {w : VeWaits} {s : State} (h0 : Keeps s0 s) : OutKeeps s0 (execSplFold p w s) := by
  unfold execSplFold
  repeat' first
    | with_reducible first
      | assumption | exact veSplFold_keeps | refine veStep_keeps ?_ ?_

theorem execVaddB_keeps {s0 : State} {p : Fin 256} {w : VeWaits} {s : State} (h0 : Keeps s0 s) : OutKeeps s0 (execVaddB p w s) := by
  unfold execVaddB
  repeat' first
    | with_reducible first
      | assumption | exact lanes2_keeps | refine veStep_keeps ?_ ?_

theorem execVsubB_keeps {s0 : State} {p : Fin 256} {w : VeWaits} {s : State} (h0 : Keeps s0 s) : OutKeeps s0 (execVsubB p w s) := by
  unfold execVsubB
  repeat' first
    | with_reducible first
      | assumption | exact lanes2_keeps | refine veStep_keeps ?_ ?_

theorem execVmulB_keeps {s0 : State} {p : Fin 256} {w : VeWaits} {s : State} (h0 : Keeps s0 s) : OutKeeps s0 (execVmulB p w s) := by
  unfold execVmulB
  repeat' first
    | with_reducible first
      | assumption | exact lanes2_keeps | refine veStep_keeps ?_ ?_

theorem execVfmaB_keeps {s0 : State} {p : Fin 256} {w : VeWaits} {s : State} (h0 : Keeps s0 s) : OutKeeps s0 (execVfmaB p w s) := by
  unfold execVfmaB
  repeat' first
    | with_reducible first
      | assumption | exact lanes3_keeps | refine veStep_keeps ?_ ?_

theorem execVminB_keeps {s0 : State} {p : Fin 256} {w : VeWaits} {s : State} (h0 : Keeps s0 s) : OutKeeps s0 (execVminB p w s) := by
  unfold execVminB
  repeat' first
    | with_reducible first
      | assumption | exact lanes2_keeps | refine veStep_keeps ?_ ?_

theorem execVmaxB_keeps {s0 : State} {p : Fin 256} {w : VeWaits} {s : State} (h0 : Keeps s0 s) : OutKeeps s0 (execVmaxB p w s) := by
  unfold execVmaxB
  repeat' first
    | with_reducible first
      | assumption | exact lanes2_keeps | refine veStep_keeps ?_ ?_

theorem execVabsB_keeps {s0 : State} {p : Fin 256} {w : VeWaits} {s : State} (h0 : Keeps s0 s) : OutKeeps s0 (execVabsB p w s) := by
  unfold execVabsB
  repeat' first
    | with_reducible first
      | assumption | exact lanes1_keeps | refine veStep_keeps ?_ ?_

theorem execVnegB_keeps {s0 : State} {p : Fin 256} {w : VeWaits} {s : State} (h0 : Keeps s0 s) : OutKeeps s0 (execVnegB p w s) := by
  unfold execVnegB
  repeat' first
    | with_reducible first
      | assumption | exact lanes1_keeps | refine veStep_keeps ?_ ?_

theorem execVperm_keeps {s0 : State} {p : Fin 256} {w : VeWaits} {s : State} (h0 : Keeps s0 s) : OutKeeps s0 (execVperm p w s) := by
  unfold execVperm
  repeat' first
    | with_reducible first
      | assumption | exact veVperm_keeps | refine veStep_keeps ?_ ?_

theorem execVpermh_keeps {s0 : State} {p : Fin 256} {w : VeWaits} {s : State} (h0 : Keeps s0 s) : OutKeeps s0 (execVpermh p w s) := by
  unfold execVpermh
  repeat' first
    | with_reducible first
      | assumption | exact veVpermh_keeps | refine veStep_keeps ?_ ?_

theorem execVsldn_keeps {s0 : State} {p : Fin 256} {w : VeWaits} {s : State} (h0 : Keeps s0 s) : OutKeeps s0 (execVsldn p w s) := by
  unfold execVsldn
  repeat' first
    | with_reducible first
      | assumption | exact veSlide_keeps | refine veStep_keeps ?_ ?_

theorem execVslup_keeps {s0 : State} {p : Fin 256} {w : VeWaits} {s : State} (h0 : Keeps s0 s) : OutKeeps s0 (execVslup p w s) := by
  unfold execVslup
  repeat' first
    | with_reducible first
      | assumption | exact veSlide_keeps | refine veStep_keeps ?_ ?_

theorem execVcomp_keeps {s0 : State} {p : Fin 256} {w : VeWaits} {s : State} (h0 : Keeps s0 s) : OutKeeps s0 (execVcomp p w s) := by
  unfold execVcomp
  repeat' first
    | with_reducible first
      | assumption | exact veVcomp_keeps | refine veStep_keeps ?_ ?_

theorem execVexpd_keeps {s0 : State} {p : Fin 256} {w : VeWaits} {s : State} (h0 : Keeps s0 s) : OutKeeps s0 (execVexpd p w s) := by
  unfold execVexpd
  repeat' first
    | with_reducible first
      | assumption | exact veVexpd_keeps | refine veStep_keeps ?_ ?_

theorem execVrev_keeps {s0 : State} {p : Fin 256} {w : VeWaits} {s : State} (h0 : Keeps s0 s) : OutKeeps s0 (execVrev p w s) := by
  unfold execVrev
  repeat' first
    | with_reducible first
      | assumption | exact veVrev_keeps | refine veStep_keeps ?_ ?_

theorem execRsum_keeps {s0 : State} {p : Fin 256} {w : VeWaits} {s : State} (h0 : Keeps s0 s) : OutKeeps s0 (execRsum p w s) := by
  unfold execRsum
  repeat' first
    | with_reducible first
      | assumption | exact veSum_keeps | refine veStep_keeps ?_ ?_

theorem execRssq_keeps {s0 : State} {p : Fin 256} {w : VeWaits} {s : State} (h0 : Keeps s0 s) : OutKeeps s0 (execRssq p w s) := by
  unfold execRssq
  repeat' first
    | with_reducible first
      | assumption | exact veSum_keeps | refine veStep_keeps ?_ ?_

theorem execRmax_keeps {s0 : State} {p : Fin 256} {w : VeWaits} {s : State} (h0 : Keeps s0 s) : OutKeeps s0 (execRmax p w s) := by
  unfold execRmax
  repeat' first
    | with_reducible first
      | assumption | exact veExtreme_keeps | refine veStep_keeps ?_ ?_

theorem execRmin_keeps {s0 : State} {p : Fin 256} {w : VeWaits} {s : State} (h0 : Keeps s0 s) : OutKeeps s0 (execRmin p w s) := by
  unfold execRmin
  repeat' first
    | with_reducible first
      | assumption | exact veExtreme_keeps | refine veStep_keeps ?_ ?_

theorem execRamax_keeps {s0 : State} {p : Fin 256} {w : VeWaits} {s : State} (h0 : Keeps s0 s) : OutKeeps s0 (execRamax p w s) := by
  unfold execRamax
  repeat' first
    | with_reducible first
      | assumption | exact veExtreme_keeps | refine veStep_keeps ?_ ?_

theorem execRsumW_keeps {s0 : State} {p : Fin 256} {w : VeWaits} {s : State} (h0 : Keeps s0 s) : OutKeeps s0 (execRsumW p w s) := by
  unfold execRsumW
  repeat' first
    | with_reducible first
      | assumption | exact veSum_keeps | refine veStep_keeps ?_ ?_

theorem execRssqW_keeps {s0 : State} {p : Fin 256} {w : VeWaits} {s : State} (h0 : Keeps s0 s) : OutKeeps s0 (execRssqW p w s) := by
  unfold execRssqW
  repeat' first
    | with_reducible first
      | assumption | exact veSum_keeps | refine veStep_keeps ?_ ?_

theorem execArgmax_keeps {s0 : State} {p : Fin 256} {w : VeWaits} {s : State} (h0 : Keeps s0 s) : OutKeeps s0 (execArgmax p w s) := by
  unfold execArgmax
  repeat' first
    | with_reducible first
      | assumption | exact veArgmax_keeps | refine veStep_keeps ?_ ?_

theorem execRsumI_keeps {s0 : State} {p : Fin 256} {w : VeWaits} {s : State} (h0 : Keeps s0 s) : OutKeeps s0 (execRsumI p w s) := by
  unfold execRsumI
  repeat' first
    | with_reducible first
      | assumption | exact veRsumI_keeps | refine veStep_keeps ?_ ?_

theorem execAdd_keeps {s0 : State} {p : Fin 256} {w : VeWaits} {s : State} (h0 : Keeps s0 s) : OutKeeps s0 (execAdd p w s) := by
  unfold execAdd
  repeat' first
    | with_reducible first
      | assumption | exact scalar2_keeps | refine veStep_keeps ?_ ?_

theorem execSub_keeps {s0 : State} {p : Fin 256} {w : VeWaits} {s : State} (h0 : Keeps s0 s) : OutKeeps s0 (execSub p w s) := by
  unfold execSub
  repeat' first
    | with_reducible first
      | assumption | exact scalar2_keeps | refine veStep_keeps ?_ ?_

theorem execMul_keeps {s0 : State} {p : Fin 256} {w : VeWaits} {s : State} (h0 : Keeps s0 s) : OutKeeps s0 (execMul p w s) := by
  unfold execMul
  repeat' first
    | with_reducible first
      | assumption | exact scalar2_keeps | refine veStep_keeps ?_ ?_

theorem execAndS_keeps {s0 : State} {p : Fin 256} {w : VeWaits} {s : State} (h0 : Keeps s0 s) : OutKeeps s0 (execAndS p w s) := by
  unfold execAndS
  repeat' first
    | with_reducible first
      | assumption | exact scalar2_keeps | refine veStep_keeps ?_ ?_

theorem execOrS_keeps {s0 : State} {p : Fin 256} {w : VeWaits} {s : State} (h0 : Keeps s0 s) : OutKeeps s0 (execOrS p w s) := by
  unfold execOrS
  repeat' first
    | with_reducible first
      | assumption | exact scalar2_keeps | refine veStep_keeps ?_ ?_

theorem execXorS_keeps {s0 : State} {p : Fin 256} {w : VeWaits} {s : State} (h0 : Keeps s0 s) : OutKeeps s0 (execXorS p w s) := by
  unfold execXorS
  repeat' first
    | with_reducible first
      | assumption | exact scalar2_keeps | refine veStep_keeps ?_ ?_

theorem execShl_keeps {s0 : State} {p : Fin 256} {w : VeWaits} {s : State} (h0 : Keeps s0 s) : OutKeeps s0 (execShl p w s) := by
  unfold execShl
  repeat' first
    | with_reducible first
      | assumption | exact scalar2_keeps | refine veStep_keeps ?_ ?_

theorem execShr_keeps {s0 : State} {p : Fin 256} {w : VeWaits} {s : State} (h0 : Keeps s0 s) : OutKeeps s0 (execShr p w s) := by
  unfold execShr
  repeat' first
    | with_reducible first
      | assumption | exact scalar2_keeps | refine veStep_keeps ?_ ?_

theorem execSar_keeps {s0 : State} {p : Fin 256} {w : VeWaits} {s : State} (h0 : Keeps s0 s) : OutKeeps s0 (execSar p w s) := by
  unfold execSar
  repeat' first
    | with_reducible first
      | assumption | exact scalar2_keeps | refine veStep_keeps ?_ ?_

theorem execSmin_keeps {s0 : State} {p : Fin 256} {w : VeWaits} {s : State} (h0 : Keeps s0 s) : OutKeeps s0 (execSmin p w s) := by
  unfold execSmin
  repeat' first
    | with_reducible first
      | assumption | exact scalar2_keeps | refine veStep_keeps ?_ ?_

theorem execSmax_keeps {s0 : State} {p : Fin 256} {w : VeWaits} {s : State} (h0 : Keeps s0 s) : OutKeeps s0 (execSmax p w s) := by
  unfold execSmax
  repeat' first
    | with_reducible first
      | assumption | exact scalar2_keeps | refine veStep_keeps ?_ ?_

theorem execAddi_keeps {s0 : State} {p : Fin 256} {w : VeWaits} {s : State} (h0 : Keeps s0 s) : OutKeeps s0 (execAddi p w s) := by
  unfold execAddi
  repeat' first
    | with_reducible first
      | assumption | exact veReg_keeps | refine veStep_keeps ?_ ?_

theorem execLi_keeps {s0 : State} {p : Fin 256} {w : VeWaits} {s : State} (h0 : Keeps s0 s) : OutKeeps s0 (execLi p w s) := by
  unfold execLi
  repeat' first
    | with_reducible first
      | assumption | exact veReg_keeps | refine veStep_keeps ?_ ?_

theorem execLsh_keeps {s0 : State} {p : Fin 256} {w : VeWaits} {s : State} (h0 : Keeps s0 s) : OutKeeps s0 (execLsh p w s) := by
  unfold execLsh
  repeat' first
    | with_reducible first
      | assumption | exact veReg_keeps | refine veStep_keeps ?_ ?_

theorem execFadd_keeps {s0 : State} {p : Fin 256} {w : VeWaits} {s : State} (h0 : Keeps s0 s) : OutKeeps s0 (execFadd p w s) := by
  unfold execFadd
  repeat' first
    | with_reducible first
      | assumption | exact scalarF_keeps | refine veStep_keeps ?_ ?_

theorem execFmul_keeps {s0 : State} {p : Fin 256} {w : VeWaits} {s : State} (h0 : Keeps s0 s) : OutKeeps s0 (execFmul p w s) := by
  unfold execFmul
  repeat' first
    | with_reducible first
      | assumption | exact scalarF_keeps | refine veStep_keeps ?_ ?_

theorem execFmax_keeps {s0 : State} {p : Fin 256} {w : VeWaits} {s : State} (h0 : Keeps s0 s) : OutKeeps s0 (execFmax p w s) := by
  unfold execFmax
  repeat' first
    | with_reducible first
      | assumption | exact scalarF_keeps | refine veStep_keeps ?_ ?_

theorem execFmin_keeps {s0 : State} {p : Fin 256} {w : VeWaits} {s : State} (h0 : Keeps s0 s) : OutKeeps s0 (execFmin p w s) := by
  unfold execFmin
  repeat' first
    | with_reducible first
      | assumption | exact scalarF_keeps | refine veStep_keeps ?_ ?_

theorem execSacc_keeps {s0 : State} {p : Fin 256} {w : VeWaits} {s : State} (h0 : Keeps s0 s) : OutKeeps s0 (execSacc p w s) := by
  unfold execSacc
  repeat' first
    | with_reducible first
      | assumption | exact veSacc_keeps | refine veStep_keeps ?_ ?_

theorem execW2f_keeps {s0 : State} {p : Fin 256} {w : VeWaits} {s : State} (h0 : Keeps s0 s) : OutKeeps s0 (execW2f p w s) := by
  unfold execW2f
  repeat' first
    | with_reducible first
      | assumption | exact veW2f_keeps | refine veStep_keeps ?_ ?_

theorem execF2w_keeps {s0 : State} {p : Fin 256} {w : VeWaits} {s : State} (h0 : Keeps s0 s) : OutKeeps s0 (execF2w p w s) := by
  unfold execF2w
  repeat' first
    | with_reducible first
      | assumption | exact veF2w_keeps | refine veStep_keeps ?_ ?_

theorem execVext_keeps {s0 : State} {p : Fin 256} {w : VeWaits} {s : State} (h0 : Keeps s0 s) : OutKeeps s0 (execVext p w s) := by
  unfold execVext
  repeat' first
    | with_reducible first
      | assumption | exact veVext_keeps | refine veStep_keeps ?_ ?_

theorem execSld_keeps {s0 : State} {p : Fin 256} {w : VeWaits} {s : State} (h0 : Keeps s0 s) : OutKeeps s0 (execSld p w s) := by
  unfold execSld
  repeat' first
    | with_reducible first
      | assumption | exact veSld_keeps | refine veStep_keeps ?_ ?_

theorem execSst_keeps {s0 : State} {p : Fin 256} {w : VeWaits} {s : State} (h0 : Keeps s0 s) : OutKeeps s0 (execSst p w s) := by
  unfold execSst
  repeat' first
    | with_reducible first
      | assumption | exact veSst_keeps | refine veStep_keeps ?_ ?_

theorem execStrd_keeps {s0 : State} {p : Fin 256} {w : VeWaits} {s : State} (h0 : Keeps s0 s) : OutKeeps s0 (execStrd p w s) := by
  unfold execStrd
  repeat' first
    | with_reducible first
      | assumption | exact veReg_keeps | refine veStep_keeps ?_ ?_

theorem execStclr_keeps {s0 : State} {p : Fin 256} {w : VeWaits} {s : State} (h0 : Keeps s0 s) : OutKeeps s0 (execStclr p w s) := by
  unfold execStclr
  repeat' first
    | with_reducible first
      | assumption | exact veReg_keeps | refine veStep_keeps ?_ ?_

theorem execVexp2_keeps {s0 : State} {p : Fin 256} {w : VeWaits} {s : State} (h0 : Keeps s0 s) : OutKeeps s0 (execVexp2 p w s) := by
  unfold execVexp2
  repeat' first
    | with_reducible first
      | assumption | exact lanes1_keeps | refine veStep_keeps ?_ ?_

theorem execVlog2_keeps {s0 : State} {p : Fin 256} {w : VeWaits} {s : State} (h0 : Keeps s0 s) : OutKeeps s0 (execVlog2 p w s) := by
  unfold execVlog2
  repeat' first
    | with_reducible first
      | assumption | exact lanes1_keeps | refine veStep_keeps ?_ ?_

theorem execVrcp_keeps {s0 : State} {p : Fin 256} {w : VeWaits} {s : State} (h0 : Keeps s0 s) : OutKeeps s0 (execVrcp p w s) := by
  unfold execVrcp
  repeat' first
    | with_reducible first
      | assumption | exact lanes1_keeps | refine veStep_keeps ?_ ?_

theorem execVrsq_keeps {s0 : State} {p : Fin 256} {w : VeWaits} {s : State} (h0 : Keeps s0 s) : OutKeeps s0 (execVrsq p w s) := by
  unfold execVrsq
  repeat' first
    | with_reducible first
      | assumption | exact lanes1_keeps | refine veStep_keeps ?_ ?_

theorem execVsqrt_keeps {s0 : State} {p : Fin 256} {w : VeWaits} {s : State} (h0 : Keeps s0 s) : OutKeeps s0 (execVsqrt p w s) := by
  unfold execVsqrt
  repeat' first
    | with_reducible first
      | assumption | exact lanes1_keeps | refine veStep_keeps ?_ ?_

theorem execVtanh_keeps {s0 : State} {p : Fin 256} {w : VeWaits} {s : State} (h0 : Keeps s0 s) : OutKeeps s0 (execVtanh p w s) := by
  unfold execVtanh
  repeat' first
    | with_reducible first
      | assumption | exact lanes1_keeps | refine veStep_keeps ?_ ?_

theorem execVsig_keeps {s0 : State} {p : Fin 256} {w : VeWaits} {s : State} (h0 : Keeps s0 s) : OutKeeps s0 (execVsig p w s) := by
  unfold execVsig
  repeat' first
    | with_reducible first
      | assumption | exact lanes1_keeps | refine veStep_keeps ?_ ?_

theorem execVsilu_keeps {s0 : State} {p : Fin 256} {w : VeWaits} {s : State} (h0 : Keeps s0 s) : OutKeeps s0 (execVsilu p w s) := by
  unfold execVsilu
  repeat' first
    | with_reducible first
      | assumption | exact lanes1_keeps | refine veStep_keeps ?_ ?_

theorem execVgelu_keeps {s0 : State} {p : Fin 256} {w : VeWaits} {s : State} (h0 : Keeps s0 s) : OutKeeps s0 (execVgelu p w s) := by
  unfold execVgelu
  repeat' first
    | with_reducible first
      | assumption | exact lanes1_keeps | refine veStep_keeps ?_ ?_

end Sys2Proof.Machine
end

