-- ==== Sys2Proof/Laws/State.lean ====
section
/-!
SUPPORT. Laws of the state: what each named update leaves of each field, by computation, and that a numbered unit reads
back what was put there and every other unit as before.
-/
namespace Sys2Proof.Machine

/-! ### Sparse tables -/

@[simp] theorem tabGet_tabSet_same {α : Type} (t : Tab α) (d v : α) (j : Nat) : tabGet (tabSet t j v) d j = v := by
  induction t with
  | nil => simp [tabSet, tabGet]
  | cons c t ih =>
    obtain ⟨k, w⟩ := c
    simp only [tabSet]
    split
    · simp_all [tabGet]
    · split
      · simp [tabGet]
      · simp_all [tabGet]

@[simp] theorem tabGet_tabSet_ne {α : Type} (t : Tab α) (d v : α) (j n : Nat) (h : n ≠ j) :
    tabGet (tabSet t j v) d n = tabGet t d n := by
  have hn : ¬ j = n := fun e => h e.symm
  induction t with
  | nil => simp [tabSet, tabGet, hn]
  | cons c t ih =>
    obtain ⟨k, w⟩ := c
    simp only [tabSet]
    split
    · rename_i e; subst e; simp [tabGet, hn]
    · split
      · simp [tabGet, hn]
      · simp only [tabGet, ih]

theorem tabGet_tabSet {α : Type} (t : Tab α) (d v : α) (j n : Nat) :
    tabGet (tabSet t j v) d n = if n = j then v else tabGet t d n := by
  split
  · rename_i e; subst e; simp
  · rename_i e; exact tabGet_tabSet_ne t d v j n e

@[simp] theorem tabSet_tabSet {α : Type} (t : Tab α) (j : Nat) (v w : α) :
    tabSet (tabSet t j v) j w = tabSet t j w := by
  induction t with
  | nil => simp [tabSet]
  | cons c t ih =>
    obtain ⟨k, u⟩ := c
    by_cases h1 : k = j
    · simp [tabSet, h1]
    · by_cases h2 : j < k
      · simp [tabSet, h1, h2]
      · simp [tabSet, h1, h2, ih]

theorem tabGet_tabErase {α : Type} (t : Tab α) (d : α) (j n : Nat) :
    tabGet (tabErase t j) d n = if n = j then d else tabGet t d n := by
  unfold tabErase
  induction t with
  | nil => simp [tabGet]
  | cons c t ih =>
    obtain ⟨k, u⟩ := c
    by_cases h1 : k = j
    · subst h1
      by_cases h2 : n = k
      · subst h2; simpa using ih
      · have h3 : ¬ k = n := fun e => h2 e.symm
        simp only [beq_self_eq_true, Bool.not_true, Bool.false_eq_true, not_false_eq_true, List.filter_cons_of_neg, ih, tabGet,
          h3, if_false]
    · have h3 : (k == j) = false := by simpa using h1
      simp only [h3, Bool.not_false, List.filter_cons_of_pos, tabGet, ih]
      by_cases h2 : n = j
      · subst h2; simp [h1]
      · simp [h2]

/-! ### Numbered units -/

@[simp] theorem core_setCore (s : State) (j : Nat) (x : Core) : (s.setCore j x).core j = x := by
  simp [State.core, State.setCore]
@[simp] theorem core_setCore_ne (s : State) (j n : Nat) (x : Core) (h : n ≠ j) : (s.setCore j x).core n = s.core n := by
  simp [State.core, State.setCore, h]
@[simp] theorem setCore_setCore (s : State) (j : Nat) (x y : Core) : (s.setCore j x).setCore j y = s.setCore j y := by
  simp [State.setCore]
@[simp] theorem queue_setQueue (s : State) (j : Nat) (x : Queue) : (s.setQueue j x).queue j = x := by
  simp [State.queue, State.setQueue]
@[simp] theorem queue_setQueue_ne (s : State) (j n : Nat) (x : Queue) (h : n ≠ j) : (s.setQueue j x).queue n = s.queue n := by
  simp [State.queue, State.setQueue, h]
@[simp] theorem setQueue_setQueue (s : State) (j : Nat) (x y : Queue) : (s.setQueue j x).setQueue j y = s.setQueue j y := by
  simp [State.setQueue]
@[simp] theorem fence_setFence (s : State) (j : Nat) (x : Fence) : (s.setFence j x).fence j = x := by
  simp [State.fence, State.setFence]
@[simp] theorem fence_setFence_ne (s : State) (j n : Nat) (x : Fence) (h : n ≠ j) : (s.setFence j x).fence n = s.fence n := by
  simp [State.fence, State.setFence, h]
@[simp] theorem setFence_setFence (s : State) (j : Nat) (x y : Fence) : (s.setFence j x).setFence j y = s.setFence j y := by
  simp [State.setFence]
@[simp] theorem ctx_setCtx (s : State) (j : Nat) (x : Xlat) : (s.setCtx j x).ctx j = x := by
  simp [State.ctx, State.setCtx]
@[simp] theorem ctx_setCtx_ne (s : State) (j n : Nat) (x : Xlat) (h : n ≠ j) : (s.setCtx j x).ctx n = s.ctx n := by
  simp [State.ctx, State.setCtx, h]
@[simp] theorem setCtx_setCtx (s : State) (j : Nat) (x y : Xlat) : (s.setCtx j x).setCtx j y = s.setCtx j y := by
  simp [State.setCtx]
@[simp] theorem page_setPage (s : State) (j : Nat) (x : Page) : (s.setPage j x).page j = x := by
  simp [State.page, State.setPage]
@[simp] theorem page_setPage_ne (s : State) (j n : Nat) (x : Page) (h : n ≠ j) : (s.setPage j x).page n = s.page n := by
  simp [State.page, State.setPage, h]
@[simp] theorem setPage_setPage (s : State) (j : Nat) (x y : Page) : (s.setPage j x).setPage j y = s.setPage j y := by
  simp [State.setPage]
@[simp] theorem die_setDie (s : State) (j : Nat) (x : Die) : (s.setDie j x).die j = x := by
  simp [State.die, State.setDie]
@[simp] theorem die_setDie_ne (s : State) (j n : Nat) (x : Die) (h : n ≠ j) : (s.setDie j x).die n = s.die n := by
  simp [State.die, State.setDie, h]
@[simp] theorem setDie_setDie (s : State) (j : Nat) (x y : Die) : (s.setDie j x).setDie j y = s.setDie j y := by
  simp [State.setDie]
@[simp] theorem link_setLink (s : State) (j : Nat) (x : Link) : (s.setLink j x).link j = x := by
  simp [State.link, State.setLink]
@[simp] theorem link_setLink_ne (s : State) (j n : Nat) (x : Link) (h : n ≠ j) : (s.setLink j x).link n = s.link n := by
  simp [State.link, State.setLink, h]
@[simp] theorem setLink_setLink (s : State) (j : Nat) (x y : Link) : (s.setLink j x).setLink j y = s.setLink j y := by
  simp [State.setLink]
@[simp] theorem guest_setGuest (s : State) (j : Nat) (x : Guest) : (s.setGuest j x).guest j = x := by
  simp [State.guest, State.setGuest]
@[simp] theorem guest_setGuest_ne (s : State) (j n : Nat) (x : Guest) (h : n ≠ j) : (s.setGuest j x).guest n = s.guest n := by
  simp [State.guest, State.setGuest, h]
@[simp] theorem setGuest_setGuest (s : State) (j : Nat) (x y : Guest) : (s.setGuest j x).setGuest j y = s.setGuest j y := by
  simp [State.setGuest]
@[simp] theorem group_setGroup (s : State) (j : Nat) (x : Group) : (s.setGroup j x).group j = x := by
  simp [State.group, State.setGroup]
@[simp] theorem group_setGroup_ne (s : State) (j n : Nat) (x : Group) (h : n ≠ j) : (s.setGroup j x).group n = s.group n := by
  simp [State.group, State.setGroup, h]
@[simp] theorem setGroup_setGroup (s : State) (j : Nat) (x y : Group) : (s.setGroup j x).setGroup j y = s.setGroup j y := by
  simp [State.setGroup]
@[simp] theorem port_setPort (s : State) (j : Nat) (x : Port) : (s.setPort j x).port j = x := by
  simp [State.port, State.setPort]
@[simp] theorem port_setPort_ne (s : State) (j n : Nat) (x : Port) (h : n ≠ j) : (s.setPort j x).port n = s.port n := by
  simp [State.port, State.setPort, h]
@[simp] theorem setPort_setPort (s : State) (j : Nat) (x y : Port) : (s.setPort j x).setPort j y = s.setPort j y := by
  simp [State.setPort]
@[simp] theorem queue_setCore (s : State) (j n : Nat) (x : Core) : (s.setCore j x).queue n = s.queue n := rfl
@[simp] theorem fence_setCore (s : State) (j n : Nat) (x : Core) : (s.setCore j x).fence n = s.fence n := rfl
@[simp] theorem ctx_setCore (s : State) (j n : Nat) (x : Core) : (s.setCore j x).ctx n = s.ctx n := rfl
@[simp] theorem page_setCore (s : State) (j n : Nat) (x : Core) : (s.setCore j x).page n = s.page n := rfl
@[simp] theorem die_setCore (s : State) (j n : Nat) (x : Core) : (s.setCore j x).die n = s.die n := rfl
@[simp] theorem link_setCore (s : State) (j n : Nat) (x : Core) : (s.setCore j x).link n = s.link n := rfl
@[simp] theorem guest_setCore (s : State) (j n : Nat) (x : Core) : (s.setCore j x).guest n = s.guest n := rfl
@[simp] theorem group_setCore (s : State) (j n : Nat) (x : Core) : (s.setCore j x).group n = s.group n := rfl
@[simp] theorem port_setCore (s : State) (j n : Nat) (x : Core) : (s.setCore j x).port n = s.port n := rfl
@[simp] theorem core_setQueue (s : State) (j n : Nat) (x : Queue) : (s.setQueue j x).core n = s.core n := rfl
@[simp] theorem fence_setQueue (s : State) (j n : Nat) (x : Queue) : (s.setQueue j x).fence n = s.fence n := rfl
@[simp] theorem ctx_setQueue (s : State) (j n : Nat) (x : Queue) : (s.setQueue j x).ctx n = s.ctx n := rfl
@[simp] theorem page_setQueue (s : State) (j n : Nat) (x : Queue) : (s.setQueue j x).page n = s.page n := rfl
@[simp] theorem die_setQueue (s : State) (j n : Nat) (x : Queue) : (s.setQueue j x).die n = s.die n := rfl
@[simp] theorem link_setQueue (s : State) (j n : Nat) (x : Queue) : (s.setQueue j x).link n = s.link n := rfl
@[simp] theorem guest_setQueue (s : State) (j n : Nat) (x : Queue) : (s.setQueue j x).guest n = s.guest n := rfl
@[simp] theorem group_setQueue (s : State) (j n : Nat) (x : Queue) : (s.setQueue j x).group n = s.group n := rfl
@[simp] theorem port_setQueue (s : State) (j n : Nat) (x : Queue) : (s.setQueue j x).port n = s.port n := rfl
@[simp] theorem core_setFence (s : State) (j n : Nat) (x : Fence) : (s.setFence j x).core n = s.core n := rfl
@[simp] theorem queue_setFence (s : State) (j n : Nat) (x : Fence) : (s.setFence j x).queue n = s.queue n := rfl
@[simp] theorem ctx_setFence (s : State) (j n : Nat) (x : Fence) : (s.setFence j x).ctx n = s.ctx n := rfl
@[simp] theorem page_setFence (s : State) (j n : Nat) (x : Fence) : (s.setFence j x).page n = s.page n := rfl
@[simp] theorem die_setFence (s : State) (j n : Nat) (x : Fence) : (s.setFence j x).die n = s.die n := rfl
@[simp] theorem link_setFence (s : State) (j n : Nat) (x : Fence) : (s.setFence j x).link n = s.link n := rfl
@[simp] theorem guest_setFence (s : State) (j n : Nat) (x : Fence) : (s.setFence j x).guest n = s.guest n := rfl
@[simp] theorem group_setFence (s : State) (j n : Nat) (x : Fence) : (s.setFence j x).group n = s.group n := rfl
@[simp] theorem port_setFence (s : State) (j n : Nat) (x : Fence) : (s.setFence j x).port n = s.port n := rfl
@[simp] theorem core_setCtx (s : State) (j n : Nat) (x : Xlat) : (s.setCtx j x).core n = s.core n := rfl
@[simp] theorem queue_setCtx (s : State) (j n : Nat) (x : Xlat) : (s.setCtx j x).queue n = s.queue n := rfl
@[simp] theorem fence_setCtx (s : State) (j n : Nat) (x : Xlat) : (s.setCtx j x).fence n = s.fence n := rfl
@[simp] theorem page_setCtx (s : State) (j n : Nat) (x : Xlat) : (s.setCtx j x).page n = s.page n := rfl
@[simp] theorem die_setCtx (s : State) (j n : Nat) (x : Xlat) : (s.setCtx j x).die n = s.die n := rfl
@[simp] theorem link_setCtx (s : State) (j n : Nat) (x : Xlat) : (s.setCtx j x).link n = s.link n := rfl
@[simp] theorem guest_setCtx (s : State) (j n : Nat) (x : Xlat) : (s.setCtx j x).guest n = s.guest n := rfl
@[simp] theorem group_setCtx (s : State) (j n : Nat) (x : Xlat) : (s.setCtx j x).group n = s.group n := rfl
@[simp] theorem port_setCtx (s : State) (j n : Nat) (x : Xlat) : (s.setCtx j x).port n = s.port n := rfl
@[simp] theorem core_setPage (s : State) (j n : Nat) (x : Page) : (s.setPage j x).core n = s.core n := rfl
@[simp] theorem queue_setPage (s : State) (j n : Nat) (x : Page) : (s.setPage j x).queue n = s.queue n := rfl
@[simp] theorem fence_setPage (s : State) (j n : Nat) (x : Page) : (s.setPage j x).fence n = s.fence n := rfl
@[simp] theorem ctx_setPage (s : State) (j n : Nat) (x : Page) : (s.setPage j x).ctx n = s.ctx n := rfl
@[simp] theorem die_setPage (s : State) (j n : Nat) (x : Page) : (s.setPage j x).die n = s.die n := rfl
@[simp] theorem link_setPage (s : State) (j n : Nat) (x : Page) : (s.setPage j x).link n = s.link n := rfl
@[simp] theorem guest_setPage (s : State) (j n : Nat) (x : Page) : (s.setPage j x).guest n = s.guest n := rfl
@[simp] theorem group_setPage (s : State) (j n : Nat) (x : Page) : (s.setPage j x).group n = s.group n := rfl
@[simp] theorem port_setPage (s : State) (j n : Nat) (x : Page) : (s.setPage j x).port n = s.port n := rfl
@[simp] theorem core_setDie (s : State) (j n : Nat) (x : Die) : (s.setDie j x).core n = s.core n := rfl
@[simp] theorem queue_setDie (s : State) (j n : Nat) (x : Die) : (s.setDie j x).queue n = s.queue n := rfl
@[simp] theorem fence_setDie (s : State) (j n : Nat) (x : Die) : (s.setDie j x).fence n = s.fence n := rfl
@[simp] theorem ctx_setDie (s : State) (j n : Nat) (x : Die) : (s.setDie j x).ctx n = s.ctx n := rfl
@[simp] theorem page_setDie (s : State) (j n : Nat) (x : Die) : (s.setDie j x).page n = s.page n := rfl
@[simp] theorem link_setDie (s : State) (j n : Nat) (x : Die) : (s.setDie j x).link n = s.link n := rfl
@[simp] theorem guest_setDie (s : State) (j n : Nat) (x : Die) : (s.setDie j x).guest n = s.guest n := rfl
@[simp] theorem group_setDie (s : State) (j n : Nat) (x : Die) : (s.setDie j x).group n = s.group n := rfl
@[simp] theorem port_setDie (s : State) (j n : Nat) (x : Die) : (s.setDie j x).port n = s.port n := rfl
@[simp] theorem core_setLink (s : State) (j n : Nat) (x : Link) : (s.setLink j x).core n = s.core n := rfl
@[simp] theorem queue_setLink (s : State) (j n : Nat) (x : Link) : (s.setLink j x).queue n = s.queue n := rfl
@[simp] theorem fence_setLink (s : State) (j n : Nat) (x : Link) : (s.setLink j x).fence n = s.fence n := rfl
@[simp] theorem ctx_setLink (s : State) (j n : Nat) (x : Link) : (s.setLink j x).ctx n = s.ctx n := rfl
@[simp] theorem page_setLink (s : State) (j n : Nat) (x : Link) : (s.setLink j x).page n = s.page n := rfl
@[simp] theorem die_setLink (s : State) (j n : Nat) (x : Link) : (s.setLink j x).die n = s.die n := rfl
@[simp] theorem guest_setLink (s : State) (j n : Nat) (x : Link) : (s.setLink j x).guest n = s.guest n := rfl
@[simp] theorem group_setLink (s : State) (j n : Nat) (x : Link) : (s.setLink j x).group n = s.group n := rfl
@[simp] theorem port_setLink (s : State) (j n : Nat) (x : Link) : (s.setLink j x).port n = s.port n := rfl
@[simp] theorem core_setGuest (s : State) (j n : Nat) (x : Guest) : (s.setGuest j x).core n = s.core n := rfl
@[simp] theorem queue_setGuest (s : State) (j n : Nat) (x : Guest) : (s.setGuest j x).queue n = s.queue n := rfl
@[simp] theorem fence_setGuest (s : State) (j n : Nat) (x : Guest) : (s.setGuest j x).fence n = s.fence n := rfl
@[simp] theorem ctx_setGuest (s : State) (j n : Nat) (x : Guest) : (s.setGuest j x).ctx n = s.ctx n := rfl
@[simp] theorem page_setGuest (s : State) (j n : Nat) (x : Guest) : (s.setGuest j x).page n = s.page n := rfl
@[simp] theorem die_setGuest (s : State) (j n : Nat) (x : Guest) : (s.setGuest j x).die n = s.die n := rfl
@[simp] theorem link_setGuest (s : State) (j n : Nat) (x : Guest) : (s.setGuest j x).link n = s.link n := rfl
@[simp] theorem group_setGuest (s : State) (j n : Nat) (x : Guest) : (s.setGuest j x).group n = s.group n := rfl
@[simp] theorem port_setGuest (s : State) (j n : Nat) (x : Guest) : (s.setGuest j x).port n = s.port n := rfl
@[simp] theorem core_setGroup (s : State) (j n : Nat) (x : Group) : (s.setGroup j x).core n = s.core n := rfl
@[simp] theorem queue_setGroup (s : State) (j n : Nat) (x : Group) : (s.setGroup j x).queue n = s.queue n := rfl
@[simp] theorem fence_setGroup (s : State) (j n : Nat) (x : Group) : (s.setGroup j x).fence n = s.fence n := rfl
@[simp] theorem ctx_setGroup (s : State) (j n : Nat) (x : Group) : (s.setGroup j x).ctx n = s.ctx n := rfl
@[simp] theorem page_setGroup (s : State) (j n : Nat) (x : Group) : (s.setGroup j x).page n = s.page n := rfl
@[simp] theorem die_setGroup (s : State) (j n : Nat) (x : Group) : (s.setGroup j x).die n = s.die n := rfl
@[simp] theorem link_setGroup (s : State) (j n : Nat) (x : Group) : (s.setGroup j x).link n = s.link n := rfl
@[simp] theorem guest_setGroup (s : State) (j n : Nat) (x : Group) : (s.setGroup j x).guest n = s.guest n := rfl
@[simp] theorem port_setGroup (s : State) (j n : Nat) (x : Group) : (s.setGroup j x).port n = s.port n := rfl
@[simp] theorem core_setPort (s : State) (j n : Nat) (x : Port) : (s.setPort j x).core n = s.core n := rfl
@[simp] theorem queue_setPort (s : State) (j n : Nat) (x : Port) : (s.setPort j x).queue n = s.queue n := rfl
@[simp] theorem fence_setPort (s : State) (j n : Nat) (x : Port) : (s.setPort j x).fence n = s.fence n := rfl
@[simp] theorem ctx_setPort (s : State) (j n : Nat) (x : Port) : (s.setPort j x).ctx n = s.ctx n := rfl
@[simp] theorem page_setPort (s : State) (j n : Nat) (x : Port) : (s.setPort j x).page n = s.page n := rfl
@[simp] theorem die_setPort (s : State) (j n : Nat) (x : Port) : (s.setPort j x).die n = s.die n := rfl
@[simp] theorem link_setPort (s : State) (j n : Nat) (x : Port) : (s.setPort j x).link n = s.link n := rfl
@[simp] theorem guest_setPort (s : State) (j n : Nat) (x : Port) : (s.setPort j x).guest n = s.guest n := rfl
@[simp] theorem group_setPort (s : State) (j n : Nat) (x : Port) : (s.setPort j x).group n = s.group n := rfl

/-! ### Fields -/

@[simp] theorem setCore_pst (s : State) (p : Nat) (x : Core) : (s.setCore p x).pst = s.pst := rfl
@[simp] theorem setCore_uptime (s : State) (p : Nat) (x : Core) : (s.setCore p x).uptime = s.uptime := rfl
@[simp] theorem setCore_agt (s : State) (p : Nat) (x : Core) : (s.setCore p x).agt = s.agt := rfl
@[simp] theorem setCore_partNo (s : State) (p : Nat) (x : Core) : (s.setCore p x).partNo = s.partNo := rfl
@[simp] theorem setCore_partOf (s : State) (p : Nat) (x : Core) : (s.setCore p x).partOf = s.partOf := rfl
@[simp] theorem setCore_mem (s : State) (p : Nat) (x : Core) : (s.setCore p x).mem = s.mem := rfl
@[simp] theorem setCore_poison (s : State) (p : Nat) (x : Core) : (s.setCore p x).poison = s.poison := rfl
@[simp] theorem setCore_latent (s : State) (p : Nat) (x : Core) : (s.setCore p x).latent = s.latent := rfl
@[simp] theorem setCore_hbmCorr (s : State) (p : Nat) (x : Core) : (s.setCore p x).hbmCorr = s.hbmCorr := rfl
@[simp] theorem setCore_dies (s : State) (p : Nat) (x : Core) : (s.setCore p x).dies = s.dies := rfl
@[simp] theorem setCore_dir (s : State) (p : Nat) (x : Core) : (s.setCore p x).dir = s.dir := rfl
@[simp] theorem setCore_dirCtr (s : State) (p : Nat) (x : Core) : (s.setCore p x).dirCtr = s.dirCtr := rfl
@[simp] theorem setCore_links (s : State) (p : Nat) (x : Core) : (s.setCore p x).links = s.links := rfl
@[simp] theorem setCore_guests (s : State) (p : Nat) (x : Core) : (s.setCore p x).guests = s.guests := rfl
@[simp] theorem setCore_xbar (s : State) (p : Nat) (x : Core) : (s.setCore p x).xbar = s.xbar := rfl
@[simp] theorem setCore_msgs (s : State) (p : Nat) (x : Core) : (s.setCore p x).msgs = s.msgs := rfl
@[simp] theorem setCore_homeWr (s : State) (p : Nat) (x : Core) : (s.setCore p x).homeWr = s.homeWr := rfl
@[simp] theorem setCore_queues (s : State) (p : Nat) (x : Core) : (s.setCore p x).queues = s.queues := rfl
@[simp] theorem setCore_hubq (s : State) (p : Nat) (x : Core) : (s.setCore p x).hubq = s.hubq := rfl
@[simp] theorem setCore_fences (s : State) (p : Nat) (x : Core) : (s.setCore p x).fences = s.fences := rfl
@[simp] theorem setCore_numx (s : State) (p : Nat) (x : Core) : (s.setCore p x).numx = s.numx := rfl
@[simp] theorem setCore_xlat (s : State) (p : Nat) (x : Core) : (s.setCore p x).xlat = s.xlat := rfl
@[simp] theorem setCore_host (s : State) (p : Nat) (x : Core) : (s.setCore p x).host = s.host := rfl
@[simp] theorem setCore_pages (s : State) (p : Nat) (x : Core) : (s.setCore p x).pages = s.pages := rfl
@[simp] theorem setCore_log (s : State) (p : Nat) (x : Core) : (s.setCore p x).log = s.log := rfl
@[simp] theorem setCore_tick (s : State) (p : Nat) (x : Core) : (s.setCore p x).tick = s.tick := rfl
@[simp] theorem setCore_fab (s : State) (p : Nat) (x : Core) : (s.setCore p x).fab = s.fab := rfl
@[simp] theorem setCore_ce (s : State) (p : Nat) (x : Core) : (s.setCore p x).ce = s.ce := rfl
@[simp] theorem setCore_upd (s : State) (p : Nat) (x : Core) : (s.setCore p x).upd = s.upd := rfl
@[simp] theorem setCore_pwr (s : State) (p : Nat) (x : Core) : (s.setCore p x).pwr = s.pwr := rfl
@[simp] theorem setCore_bring (s : State) (p : Nat) (x : Core) : (s.setCore p x).bring = s.bring := rfl
@[simp] theorem setCore_fuse (s : State) (p : Nat) (x : Core) : (s.setCore p x).fuse = s.fuse := rfl
@[simp] theorem setCore_bit (s : State) (p : Nat) (x : Core) : (s.setCore p x).bit = s.bit := rfl
@[simp] theorem setCore_freeN (s : State) (p : Nat) (x : Core) : (s.setCore p x).freeN = s.freeN := rfl
@[simp] theorem setCore_reply (s : State) (p : Nat) (x : Core) : (s.setCore p x).reply = s.reply := rfl
@[simp] theorem setCore_sent (s : State) (p : Nat) (x : Core) : (s.setCore p x).sent = s.sent := rfl
@[simp] theorem setCore_pending (s : State) (p : Nat) (x : Core) : (s.setCore p x).pending = s.pending := rfl
@[simp] theorem setQueue_pst (s : State) (q : Nat) (x : Queue) : (s.setQueue q x).pst = s.pst := rfl
@[simp] theorem setQueue_uptime (s : State) (q : Nat) (x : Queue) : (s.setQueue q x).uptime = s.uptime := rfl
@[simp] theorem setQueue_agt (s : State) (q : Nat) (x : Queue) : (s.setQueue q x).agt = s.agt := rfl
@[simp] theorem setQueue_partNo (s : State) (q : Nat) (x : Queue) : (s.setQueue q x).partNo = s.partNo := rfl
@[simp] theorem setQueue_partOf (s : State) (q : Nat) (x : Queue) : (s.setQueue q x).partOf = s.partOf := rfl
@[simp] theorem setQueue_mem (s : State) (q : Nat) (x : Queue) : (s.setQueue q x).mem = s.mem := rfl
@[simp] theorem setQueue_poison (s : State) (q : Nat) (x : Queue) : (s.setQueue q x).poison = s.poison := rfl
@[simp] theorem setQueue_latent (s : State) (q : Nat) (x : Queue) : (s.setQueue q x).latent = s.latent := rfl
@[simp] theorem setQueue_hbmCorr (s : State) (q : Nat) (x : Queue) : (s.setQueue q x).hbmCorr = s.hbmCorr := rfl
@[simp] theorem setQueue_cores (s : State) (q : Nat) (x : Queue) : (s.setQueue q x).cores = s.cores := rfl
@[simp] theorem setQueue_dies (s : State) (q : Nat) (x : Queue) : (s.setQueue q x).dies = s.dies := rfl
@[simp] theorem setQueue_dir (s : State) (q : Nat) (x : Queue) : (s.setQueue q x).dir = s.dir := rfl
@[simp] theorem setQueue_dirCtr (s : State) (q : Nat) (x : Queue) : (s.setQueue q x).dirCtr = s.dirCtr := rfl
@[simp] theorem setQueue_links (s : State) (q : Nat) (x : Queue) : (s.setQueue q x).links = s.links := rfl
@[simp] theorem setQueue_guests (s : State) (q : Nat) (x : Queue) : (s.setQueue q x).guests = s.guests := rfl
@[simp] theorem setQueue_xbar (s : State) (q : Nat) (x : Queue) : (s.setQueue q x).xbar = s.xbar := rfl
@[simp] theorem setQueue_msgs (s : State) (q : Nat) (x : Queue) : (s.setQueue q x).msgs = s.msgs := rfl
@[simp] theorem setQueue_homeWr (s : State) (q : Nat) (x : Queue) : (s.setQueue q x).homeWr = s.homeWr := rfl
@[simp] theorem setQueue_hubq (s : State) (q : Nat) (x : Queue) : (s.setQueue q x).hubq = s.hubq := rfl
@[simp] theorem setQueue_fences (s : State) (q : Nat) (x : Queue) : (s.setQueue q x).fences = s.fences := rfl
@[simp] theorem setQueue_numx (s : State) (q : Nat) (x : Queue) : (s.setQueue q x).numx = s.numx := rfl
@[simp] theorem setQueue_xlat (s : State) (q : Nat) (x : Queue) : (s.setQueue q x).xlat = s.xlat := rfl
@[simp] theorem setQueue_host (s : State) (q : Nat) (x : Queue) : (s.setQueue q x).host = s.host := rfl
@[simp] theorem setQueue_pages (s : State) (q : Nat) (x : Queue) : (s.setQueue q x).pages = s.pages := rfl
@[simp] theorem setQueue_log (s : State) (q : Nat) (x : Queue) : (s.setQueue q x).log = s.log := rfl
@[simp] theorem setQueue_tick (s : State) (q : Nat) (x : Queue) : (s.setQueue q x).tick = s.tick := rfl
@[simp] theorem setQueue_fab (s : State) (q : Nat) (x : Queue) : (s.setQueue q x).fab = s.fab := rfl
@[simp] theorem setQueue_ce (s : State) (q : Nat) (x : Queue) : (s.setQueue q x).ce = s.ce := rfl
@[simp] theorem setQueue_upd (s : State) (q : Nat) (x : Queue) : (s.setQueue q x).upd = s.upd := rfl
@[simp] theorem setQueue_pwr (s : State) (q : Nat) (x : Queue) : (s.setQueue q x).pwr = s.pwr := rfl
@[simp] theorem setQueue_bring (s : State) (q : Nat) (x : Queue) : (s.setQueue q x).bring = s.bring := rfl
@[simp] theorem setQueue_fuse (s : State) (q : Nat) (x : Queue) : (s.setQueue q x).fuse = s.fuse := rfl
@[simp] theorem setQueue_bit (s : State) (q : Nat) (x : Queue) : (s.setQueue q x).bit = s.bit := rfl
@[simp] theorem setQueue_freeN (s : State) (q : Nat) (x : Queue) : (s.setQueue q x).freeN = s.freeN := rfl
@[simp] theorem setQueue_reply (s : State) (q : Nat) (x : Queue) : (s.setQueue q x).reply = s.reply := rfl
@[simp] theorem setQueue_sent (s : State) (q : Nat) (x : Queue) : (s.setQueue q x).sent = s.sent := rfl
@[simp] theorem setQueue_pending (s : State) (q : Nat) (x : Queue) : (s.setQueue q x).pending = s.pending := rfl
@[simp] theorem setFence_pst (s : State) (j : Nat) (x : Fence) : (s.setFence j x).pst = s.pst := rfl
@[simp] theorem setFence_uptime (s : State) (j : Nat) (x : Fence) : (s.setFence j x).uptime = s.uptime := rfl
@[simp] theorem setFence_agt (s : State) (j : Nat) (x : Fence) : (s.setFence j x).agt = s.agt := rfl
@[simp] theorem setFence_partNo (s : State) (j : Nat) (x : Fence) : (s.setFence j x).partNo = s.partNo := rfl
@[simp] theorem setFence_partOf (s : State) (j : Nat) (x : Fence) : (s.setFence j x).partOf = s.partOf := rfl
@[simp] theorem setFence_mem (s : State) (j : Nat) (x : Fence) : (s.setFence j x).mem = s.mem := rfl
@[simp] theorem setFence_poison (s : State) (j : Nat) (x : Fence) : (s.setFence j x).poison = s.poison := rfl
@[simp] theorem setFence_latent (s : State) (j : Nat) (x : Fence) : (s.setFence j x).latent = s.latent := rfl
@[simp] theorem setFence_hbmCorr (s : State) (j : Nat) (x : Fence) : (s.setFence j x).hbmCorr = s.hbmCorr := rfl
@[simp] theorem setFence_cores (s : State) (j : Nat) (x : Fence) : (s.setFence j x).cores = s.cores := rfl
@[simp] theorem setFence_dies (s : State) (j : Nat) (x : Fence) : (s.setFence j x).dies = s.dies := rfl
@[simp] theorem setFence_dir (s : State) (j : Nat) (x : Fence) : (s.setFence j x).dir = s.dir := rfl
@[simp] theorem setFence_dirCtr (s : State) (j : Nat) (x : Fence) : (s.setFence j x).dirCtr = s.dirCtr := rfl
@[simp] theorem setFence_links (s : State) (j : Nat) (x : Fence) : (s.setFence j x).links = s.links := rfl
@[simp] theorem setFence_guests (s : State) (j : Nat) (x : Fence) : (s.setFence j x).guests = s.guests := rfl
@[simp] theorem setFence_xbar (s : State) (j : Nat) (x : Fence) : (s.setFence j x).xbar = s.xbar := rfl
@[simp] theorem setFence_msgs (s : State) (j : Nat) (x : Fence) : (s.setFence j x).msgs = s.msgs := rfl
@[simp] theorem setFence_homeWr (s : State) (j : Nat) (x : Fence) : (s.setFence j x).homeWr = s.homeWr := rfl
@[simp] theorem setFence_queues (s : State) (j : Nat) (x : Fence) : (s.setFence j x).queues = s.queues := rfl
@[simp] theorem setFence_hubq (s : State) (j : Nat) (x : Fence) : (s.setFence j x).hubq = s.hubq := rfl
@[simp] theorem setFence_numx (s : State) (j : Nat) (x : Fence) : (s.setFence j x).numx = s.numx := rfl
@[simp] theorem setFence_xlat (s : State) (j : Nat) (x : Fence) : (s.setFence j x).xlat = s.xlat := rfl
@[simp] theorem setFence_host (s : State) (j : Nat) (x : Fence) : (s.setFence j x).host = s.host := rfl
@[simp] theorem setFence_pages (s : State) (j : Nat) (x : Fence) : (s.setFence j x).pages = s.pages := rfl
@[simp] theorem setFence_log (s : State) (j : Nat) (x : Fence) : (s.setFence j x).log = s.log := rfl
@[simp] theorem setFence_tick (s : State) (j : Nat) (x : Fence) : (s.setFence j x).tick = s.tick := rfl
@[simp] theorem setFence_fab (s : State) (j : Nat) (x : Fence) : (s.setFence j x).fab = s.fab := rfl
@[simp] theorem setFence_ce (s : State) (j : Nat) (x : Fence) : (s.setFence j x).ce = s.ce := rfl
@[simp] theorem setFence_upd (s : State) (j : Nat) (x : Fence) : (s.setFence j x).upd = s.upd := rfl
@[simp] theorem setFence_pwr (s : State) (j : Nat) (x : Fence) : (s.setFence j x).pwr = s.pwr := rfl
@[simp] theorem setFence_bring (s : State) (j : Nat) (x : Fence) : (s.setFence j x).bring = s.bring := rfl
@[simp] theorem setFence_fuse (s : State) (j : Nat) (x : Fence) : (s.setFence j x).fuse = s.fuse := rfl
@[simp] theorem setFence_bit (s : State) (j : Nat) (x : Fence) : (s.setFence j x).bit = s.bit := rfl
@[simp] theorem setFence_freeN (s : State) (j : Nat) (x : Fence) : (s.setFence j x).freeN = s.freeN := rfl
@[simp] theorem setFence_reply (s : State) (j : Nat) (x : Fence) : (s.setFence j x).reply = s.reply := rfl
@[simp] theorem setFence_sent (s : State) (j : Nat) (x : Fence) : (s.setFence j x).sent = s.sent := rfl
@[simp] theorem setFence_pending (s : State) (j : Nat) (x : Fence) : (s.setFence j x).pending = s.pending := rfl
@[simp] theorem setCtx_pst (s : State) (c : Nat) (x : Xlat) : (s.setCtx c x).pst = s.pst := rfl
@[simp] theorem setCtx_uptime (s : State) (c : Nat) (x : Xlat) : (s.setCtx c x).uptime = s.uptime := rfl
@[simp] theorem setCtx_agt (s : State) (c : Nat) (x : Xlat) : (s.setCtx c x).agt = s.agt := rfl
@[simp] theorem setCtx_partNo (s : State) (c : Nat) (x : Xlat) : (s.setCtx c x).partNo = s.partNo := rfl
@[simp] theorem setCtx_partOf (s : State) (c : Nat) (x : Xlat) : (s.setCtx c x).partOf = s.partOf := rfl
@[simp] theorem setCtx_mem (s : State) (c : Nat) (x : Xlat) : (s.setCtx c x).mem = s.mem := rfl
@[simp] theorem setCtx_poison (s : State) (c : Nat) (x : Xlat) : (s.setCtx c x).poison = s.poison := rfl
@[simp] theorem setCtx_latent (s : State) (c : Nat) (x : Xlat) : (s.setCtx c x).latent = s.latent := rfl
@[simp] theorem setCtx_hbmCorr (s : State) (c : Nat) (x : Xlat) : (s.setCtx c x).hbmCorr = s.hbmCorr := rfl
@[simp] theorem setCtx_cores (s : State) (c : Nat) (x : Xlat) : (s.setCtx c x).cores = s.cores := rfl
@[simp] theorem setCtx_dies (s : State) (c : Nat) (x : Xlat) : (s.setCtx c x).dies = s.dies := rfl
@[simp] theorem setCtx_dir (s : State) (c : Nat) (x : Xlat) : (s.setCtx c x).dir = s.dir := rfl
@[simp] theorem setCtx_dirCtr (s : State) (c : Nat) (x : Xlat) : (s.setCtx c x).dirCtr = s.dirCtr := rfl
@[simp] theorem setCtx_links (s : State) (c : Nat) (x : Xlat) : (s.setCtx c x).links = s.links := rfl
@[simp] theorem setCtx_guests (s : State) (c : Nat) (x : Xlat) : (s.setCtx c x).guests = s.guests := rfl
@[simp] theorem setCtx_xbar (s : State) (c : Nat) (x : Xlat) : (s.setCtx c x).xbar = s.xbar := rfl
@[simp] theorem setCtx_msgs (s : State) (c : Nat) (x : Xlat) : (s.setCtx c x).msgs = s.msgs := rfl
@[simp] theorem setCtx_homeWr (s : State) (c : Nat) (x : Xlat) : (s.setCtx c x).homeWr = s.homeWr := rfl
@[simp] theorem setCtx_queues (s : State) (c : Nat) (x : Xlat) : (s.setCtx c x).queues = s.queues := rfl
@[simp] theorem setCtx_hubq (s : State) (c : Nat) (x : Xlat) : (s.setCtx c x).hubq = s.hubq := rfl
@[simp] theorem setCtx_fences (s : State) (c : Nat) (x : Xlat) : (s.setCtx c x).fences = s.fences := rfl
@[simp] theorem setCtx_numx (s : State) (c : Nat) (x : Xlat) : (s.setCtx c x).numx = s.numx := rfl
@[simp] theorem setCtx_host (s : State) (c : Nat) (x : Xlat) : (s.setCtx c x).host = s.host := rfl
@[simp] theorem setCtx_pages (s : State) (c : Nat) (x : Xlat) : (s.setCtx c x).pages = s.pages := rfl
@[simp] theorem setCtx_log (s : State) (c : Nat) (x : Xlat) : (s.setCtx c x).log = s.log := rfl
@[simp] theorem setCtx_tick (s : State) (c : Nat) (x : Xlat) : (s.setCtx c x).tick = s.tick := rfl
@[simp] theorem setCtx_fab (s : State) (c : Nat) (x : Xlat) : (s.setCtx c x).fab = s.fab := rfl
@[simp] theorem setCtx_ce (s : State) (c : Nat) (x : Xlat) : (s.setCtx c x).ce = s.ce := rfl
@[simp] theorem setCtx_upd (s : State) (c : Nat) (x : Xlat) : (s.setCtx c x).upd = s.upd := rfl
@[simp] theorem setCtx_pwr (s : State) (c : Nat) (x : Xlat) : (s.setCtx c x).pwr = s.pwr := rfl
@[simp] theorem setCtx_bring (s : State) (c : Nat) (x : Xlat) : (s.setCtx c x).bring = s.bring := rfl
@[simp] theorem setCtx_fuse (s : State) (c : Nat) (x : Xlat) : (s.setCtx c x).fuse = s.fuse := rfl
@[simp] theorem setCtx_bit (s : State) (c : Nat) (x : Xlat) : (s.setCtx c x).bit = s.bit := rfl
@[simp] theorem setCtx_freeN (s : State) (c : Nat) (x : Xlat) : (s.setCtx c x).freeN = s.freeN := rfl
@[simp] theorem setCtx_reply (s : State) (c : Nat) (x : Xlat) : (s.setCtx c x).reply = s.reply := rfl
@[simp] theorem setCtx_sent (s : State) (c : Nat) (x : Xlat) : (s.setCtx c x).sent = s.sent := rfl
@[simp] theorem setCtx_pending (s : State) (c : Nat) (x : Xlat) : (s.setCtx c x).pending = s.pending := rfl
@[simp] theorem setPage_pst (s : State) (n : Nat) (x : Page) : (s.setPage n x).pst = s.pst := rfl
@[simp] theorem setPage_uptime (s : State) (n : Nat) (x : Page) : (s.setPage n x).uptime = s.uptime := rfl
@[simp] theorem setPage_agt (s : State) (n : Nat) (x : Page) : (s.setPage n x).agt = s.agt := rfl
@[simp] theorem setPage_partNo (s : State) (n : Nat) (x : Page) : (s.setPage n x).partNo = s.partNo := rfl
@[simp] theorem setPage_partOf (s : State) (n : Nat) (x : Page) : (s.setPage n x).partOf = s.partOf := rfl
@[simp] theorem setPage_mem (s : State) (n : Nat) (x : Page) : (s.setPage n x).mem = s.mem := rfl
@[simp] theorem setPage_poison (s : State) (n : Nat) (x : Page) : (s.setPage n x).poison = s.poison := rfl
@[simp] theorem setPage_latent (s : State) (n : Nat) (x : Page) : (s.setPage n x).latent = s.latent := rfl
@[simp] theorem setPage_hbmCorr (s : State) (n : Nat) (x : Page) : (s.setPage n x).hbmCorr = s.hbmCorr := rfl
@[simp] theorem setPage_cores (s : State) (n : Nat) (x : Page) : (s.setPage n x).cores = s.cores := rfl
@[simp] theorem setPage_dies (s : State) (n : Nat) (x : Page) : (s.setPage n x).dies = s.dies := rfl
@[simp] theorem setPage_dir (s : State) (n : Nat) (x : Page) : (s.setPage n x).dir = s.dir := rfl
@[simp] theorem setPage_dirCtr (s : State) (n : Nat) (x : Page) : (s.setPage n x).dirCtr = s.dirCtr := rfl
@[simp] theorem setPage_links (s : State) (n : Nat) (x : Page) : (s.setPage n x).links = s.links := rfl
@[simp] theorem setPage_guests (s : State) (n : Nat) (x : Page) : (s.setPage n x).guests = s.guests := rfl
@[simp] theorem setPage_xbar (s : State) (n : Nat) (x : Page) : (s.setPage n x).xbar = s.xbar := rfl
@[simp] theorem setPage_msgs (s : State) (n : Nat) (x : Page) : (s.setPage n x).msgs = s.msgs := rfl
@[simp] theorem setPage_homeWr (s : State) (n : Nat) (x : Page) : (s.setPage n x).homeWr = s.homeWr := rfl
@[simp] theorem setPage_queues (s : State) (n : Nat) (x : Page) : (s.setPage n x).queues = s.queues := rfl
@[simp] theorem setPage_hubq (s : State) (n : Nat) (x : Page) : (s.setPage n x).hubq = s.hubq := rfl
@[simp] theorem setPage_fences (s : State) (n : Nat) (x : Page) : (s.setPage n x).fences = s.fences := rfl
@[simp] theorem setPage_numx (s : State) (n : Nat) (x : Page) : (s.setPage n x).numx = s.numx := rfl
@[simp] theorem setPage_xlat (s : State) (n : Nat) (x : Page) : (s.setPage n x).xlat = s.xlat := rfl
@[simp] theorem setPage_host (s : State) (n : Nat) (x : Page) : (s.setPage n x).host = s.host := rfl
@[simp] theorem setPage_log (s : State) (n : Nat) (x : Page) : (s.setPage n x).log = s.log := rfl
@[simp] theorem setPage_tick (s : State) (n : Nat) (x : Page) : (s.setPage n x).tick = s.tick := rfl
@[simp] theorem setPage_fab (s : State) (n : Nat) (x : Page) : (s.setPage n x).fab = s.fab := rfl
@[simp] theorem setPage_ce (s : State) (n : Nat) (x : Page) : (s.setPage n x).ce = s.ce := rfl
@[simp] theorem setPage_upd (s : State) (n : Nat) (x : Page) : (s.setPage n x).upd = s.upd := rfl
@[simp] theorem setPage_pwr (s : State) (n : Nat) (x : Page) : (s.setPage n x).pwr = s.pwr := rfl
@[simp] theorem setPage_bring (s : State) (n : Nat) (x : Page) : (s.setPage n x).bring = s.bring := rfl
@[simp] theorem setPage_fuse (s : State) (n : Nat) (x : Page) : (s.setPage n x).fuse = s.fuse := rfl
@[simp] theorem setPage_bit (s : State) (n : Nat) (x : Page) : (s.setPage n x).bit = s.bit := rfl
@[simp] theorem setPage_freeN (s : State) (n : Nat) (x : Page) : (s.setPage n x).freeN = s.freeN := rfl
@[simp] theorem setPage_reply (s : State) (n : Nat) (x : Page) : (s.setPage n x).reply = s.reply := rfl
@[simp] theorem setPage_sent (s : State) (n : Nat) (x : Page) : (s.setPage n x).sent = s.sent := rfl
@[simp] theorem setPage_pending (s : State) (n : Nat) (x : Page) : (s.setPage n x).pending = s.pending := rfl
@[simp] theorem setDie_pst (s : State) (d : Nat) (x : Die) : (s.setDie d x).pst = s.pst := rfl
@[simp] theorem setDie_uptime (s : State) (d : Nat) (x : Die) : (s.setDie d x).uptime = s.uptime := rfl
@[simp] theorem setDie_agt (s : State) (d : Nat) (x : Die) : (s.setDie d x).agt = s.agt := rfl
@[simp] theorem setDie_partNo (s : State) (d : Nat) (x : Die) : (s.setDie d x).partNo = s.partNo := rfl
@[simp] theorem setDie_partOf (s : State) (d : Nat) (x : Die) : (s.setDie d x).partOf = s.partOf := rfl
@[simp] theorem setDie_mem (s : State) (d : Nat) (x : Die) : (s.setDie d x).mem = s.mem := rfl
@[simp] theorem setDie_poison (s : State) (d : Nat) (x : Die) : (s.setDie d x).poison = s.poison := rfl
@[simp] theorem setDie_latent (s : State) (d : Nat) (x : Die) : (s.setDie d x).latent = s.latent := rfl
@[simp] theorem setDie_hbmCorr (s : State) (d : Nat) (x : Die) : (s.setDie d x).hbmCorr = s.hbmCorr := rfl
@[simp] theorem setDie_cores (s : State) (d : Nat) (x : Die) : (s.setDie d x).cores = s.cores := rfl
@[simp] theorem setDie_dir (s : State) (d : Nat) (x : Die) : (s.setDie d x).dir = s.dir := rfl
@[simp] theorem setDie_dirCtr (s : State) (d : Nat) (x : Die) : (s.setDie d x).dirCtr = s.dirCtr := rfl
@[simp] theorem setDie_links (s : State) (d : Nat) (x : Die) : (s.setDie d x).links = s.links := rfl
@[simp] theorem setDie_guests (s : State) (d : Nat) (x : Die) : (s.setDie d x).guests = s.guests := rfl
@[simp] theorem setDie_xbar (s : State) (d : Nat) (x : Die) : (s.setDie d x).xbar = s.xbar := rfl
@[simp] theorem setDie_msgs (s : State) (d : Nat) (x : Die) : (s.setDie d x).msgs = s.msgs := rfl
@[simp] theorem setDie_homeWr (s : State) (d : Nat) (x : Die) : (s.setDie d x).homeWr = s.homeWr := rfl
@[simp] theorem setDie_queues (s : State) (d : Nat) (x : Die) : (s.setDie d x).queues = s.queues := rfl
@[simp] theorem setDie_hubq (s : State) (d : Nat) (x : Die) : (s.setDie d x).hubq = s.hubq := rfl
@[simp] theorem setDie_fences (s : State) (d : Nat) (x : Die) : (s.setDie d x).fences = s.fences := rfl
@[simp] theorem setDie_numx (s : State) (d : Nat) (x : Die) : (s.setDie d x).numx = s.numx := rfl
@[simp] theorem setDie_xlat (s : State) (d : Nat) (x : Die) : (s.setDie d x).xlat = s.xlat := rfl
@[simp] theorem setDie_host (s : State) (d : Nat) (x : Die) : (s.setDie d x).host = s.host := rfl
@[simp] theorem setDie_pages (s : State) (d : Nat) (x : Die) : (s.setDie d x).pages = s.pages := rfl
@[simp] theorem setDie_log (s : State) (d : Nat) (x : Die) : (s.setDie d x).log = s.log := rfl
@[simp] theorem setDie_tick (s : State) (d : Nat) (x : Die) : (s.setDie d x).tick = s.tick := rfl
@[simp] theorem setDie_fab (s : State) (d : Nat) (x : Die) : (s.setDie d x).fab = s.fab := rfl
@[simp] theorem setDie_ce (s : State) (d : Nat) (x : Die) : (s.setDie d x).ce = s.ce := rfl
@[simp] theorem setDie_upd (s : State) (d : Nat) (x : Die) : (s.setDie d x).upd = s.upd := rfl
@[simp] theorem setDie_pwr (s : State) (d : Nat) (x : Die) : (s.setDie d x).pwr = s.pwr := rfl
@[simp] theorem setDie_bring (s : State) (d : Nat) (x : Die) : (s.setDie d x).bring = s.bring := rfl
@[simp] theorem setDie_fuse (s : State) (d : Nat) (x : Die) : (s.setDie d x).fuse = s.fuse := rfl
@[simp] theorem setDie_bit (s : State) (d : Nat) (x : Die) : (s.setDie d x).bit = s.bit := rfl
@[simp] theorem setDie_freeN (s : State) (d : Nat) (x : Die) : (s.setDie d x).freeN = s.freeN := rfl
@[simp] theorem setDie_reply (s : State) (d : Nat) (x : Die) : (s.setDie d x).reply = s.reply := rfl
@[simp] theorem setDie_sent (s : State) (d : Nat) (x : Die) : (s.setDie d x).sent = s.sent := rfl
@[simp] theorem setDie_pending (s : State) (d : Nat) (x : Die) : (s.setDie d x).pending = s.pending := rfl
@[simp] theorem setLink_pst (s : State) (l : Nat) (x : Link) : (s.setLink l x).pst = s.pst := rfl
@[simp] theorem setLink_uptime (s : State) (l : Nat) (x : Link) : (s.setLink l x).uptime = s.uptime := rfl
@[simp] theorem setLink_agt (s : State) (l : Nat) (x : Link) : (s.setLink l x).agt = s.agt := rfl
@[simp] theorem setLink_partNo (s : State) (l : Nat) (x : Link) : (s.setLink l x).partNo = s.partNo := rfl
@[simp] theorem setLink_partOf (s : State) (l : Nat) (x : Link) : (s.setLink l x).partOf = s.partOf := rfl
@[simp] theorem setLink_mem (s : State) (l : Nat) (x : Link) : (s.setLink l x).mem = s.mem := rfl
@[simp] theorem setLink_poison (s : State) (l : Nat) (x : Link) : (s.setLink l x).poison = s.poison := rfl
@[simp] theorem setLink_latent (s : State) (l : Nat) (x : Link) : (s.setLink l x).latent = s.latent := rfl
@[simp] theorem setLink_hbmCorr (s : State) (l : Nat) (x : Link) : (s.setLink l x).hbmCorr = s.hbmCorr := rfl
@[simp] theorem setLink_cores (s : State) (l : Nat) (x : Link) : (s.setLink l x).cores = s.cores := rfl
@[simp] theorem setLink_dies (s : State) (l : Nat) (x : Link) : (s.setLink l x).dies = s.dies := rfl
@[simp] theorem setLink_dir (s : State) (l : Nat) (x : Link) : (s.setLink l x).dir = s.dir := rfl
@[simp] theorem setLink_dirCtr (s : State) (l : Nat) (x : Link) : (s.setLink l x).dirCtr = s.dirCtr := rfl
@[simp] theorem setLink_guests (s : State) (l : Nat) (x : Link) : (s.setLink l x).guests = s.guests := rfl
@[simp] theorem setLink_xbar (s : State) (l : Nat) (x : Link) : (s.setLink l x).xbar = s.xbar := rfl
@[simp] theorem setLink_msgs (s : State) (l : Nat) (x : Link) : (s.setLink l x).msgs = s.msgs := rfl
@[simp] theorem setLink_homeWr (s : State) (l : Nat) (x : Link) : (s.setLink l x).homeWr = s.homeWr := rfl
@[simp] theorem setLink_queues (s : State) (l : Nat) (x : Link) : (s.setLink l x).queues = s.queues := rfl
@[simp] theorem setLink_hubq (s : State) (l : Nat) (x : Link) : (s.setLink l x).hubq = s.hubq := rfl
@[simp] theorem setLink_fences (s : State) (l : Nat) (x : Link) : (s.setLink l x).fences = s.fences := rfl
@[simp] theorem setLink_numx (s : State) (l : Nat) (x : Link) : (s.setLink l x).numx = s.numx := rfl
@[simp] theorem setLink_xlat (s : State) (l : Nat) (x : Link) : (s.setLink l x).xlat = s.xlat := rfl
@[simp] theorem setLink_host (s : State) (l : Nat) (x : Link) : (s.setLink l x).host = s.host := rfl
@[simp] theorem setLink_pages (s : State) (l : Nat) (x : Link) : (s.setLink l x).pages = s.pages := rfl
@[simp] theorem setLink_log (s : State) (l : Nat) (x : Link) : (s.setLink l x).log = s.log := rfl
@[simp] theorem setLink_tick (s : State) (l : Nat) (x : Link) : (s.setLink l x).tick = s.tick := rfl
@[simp] theorem setLink_fab (s : State) (l : Nat) (x : Link) : (s.setLink l x).fab = s.fab := rfl
@[simp] theorem setLink_ce (s : State) (l : Nat) (x : Link) : (s.setLink l x).ce = s.ce := rfl
@[simp] theorem setLink_upd (s : State) (l : Nat) (x : Link) : (s.setLink l x).upd = s.upd := rfl
@[simp] theorem setLink_pwr (s : State) (l : Nat) (x : Link) : (s.setLink l x).pwr = s.pwr := rfl
@[simp] theorem setLink_bring (s : State) (l : Nat) (x : Link) : (s.setLink l x).bring = s.bring := rfl
@[simp] theorem setLink_fuse (s : State) (l : Nat) (x : Link) : (s.setLink l x).fuse = s.fuse := rfl
@[simp] theorem setLink_bit (s : State) (l : Nat) (x : Link) : (s.setLink l x).bit = s.bit := rfl
@[simp] theorem setLink_freeN (s : State) (l : Nat) (x : Link) : (s.setLink l x).freeN = s.freeN := rfl
@[simp] theorem setLink_reply (s : State) (l : Nat) (x : Link) : (s.setLink l x).reply = s.reply := rfl
@[simp] theorem setLink_sent (s : State) (l : Nat) (x : Link) : (s.setLink l x).sent = s.sent := rfl
@[simp] theorem setLink_pending (s : State) (l : Nat) (x : Link) : (s.setLink l x).pending = s.pending := rfl
@[simp] theorem setGuest_pst (s : State) (g : Nat) (x : Guest) : (s.setGuest g x).pst = s.pst := rfl
@[simp] theorem setGuest_uptime (s : State) (g : Nat) (x : Guest) : (s.setGuest g x).uptime = s.uptime := rfl
@[simp] theorem setGuest_agt (s : State) (g : Nat) (x : Guest) : (s.setGuest g x).agt = s.agt := rfl
@[simp] theorem setGuest_partNo (s : State) (g : Nat) (x : Guest) : (s.setGuest g x).partNo = s.partNo := rfl
@[simp] theorem setGuest_partOf (s : State) (g : Nat) (x : Guest) : (s.setGuest g x).partOf = s.partOf := rfl
@[simp] theorem setGuest_mem (s : State) (g : Nat) (x : Guest) : (s.setGuest g x).mem = s.mem := rfl
@[simp] theorem setGuest_poison (s : State) (g : Nat) (x : Guest) : (s.setGuest g x).poison = s.poison := rfl
@[simp] theorem setGuest_latent (s : State) (g : Nat) (x : Guest) : (s.setGuest g x).latent = s.latent := rfl
@[simp] theorem setGuest_hbmCorr (s : State) (g : Nat) (x : Guest) : (s.setGuest g x).hbmCorr = s.hbmCorr := rfl
@[simp] theorem setGuest_cores (s : State) (g : Nat) (x : Guest) : (s.setGuest g x).cores = s.cores := rfl
@[simp] theorem setGuest_dies (s : State) (g : Nat) (x : Guest) : (s.setGuest g x).dies = s.dies := rfl
@[simp] theorem setGuest_dir (s : State) (g : Nat) (x : Guest) : (s.setGuest g x).dir = s.dir := rfl
@[simp] theorem setGuest_dirCtr (s : State) (g : Nat) (x : Guest) : (s.setGuest g x).dirCtr = s.dirCtr := rfl
@[simp] theorem setGuest_links (s : State) (g : Nat) (x : Guest) : (s.setGuest g x).links = s.links := rfl
@[simp] theorem setGuest_xbar (s : State) (g : Nat) (x : Guest) : (s.setGuest g x).xbar = s.xbar := rfl
@[simp] theorem setGuest_msgs (s : State) (g : Nat) (x : Guest) : (s.setGuest g x).msgs = s.msgs := rfl
@[simp] theorem setGuest_homeWr (s : State) (g : Nat) (x : Guest) : (s.setGuest g x).homeWr = s.homeWr := rfl
@[simp] theorem setGuest_queues (s : State) (g : Nat) (x : Guest) : (s.setGuest g x).queues = s.queues := rfl
@[simp] theorem setGuest_hubq (s : State) (g : Nat) (x : Guest) : (s.setGuest g x).hubq = s.hubq := rfl
@[simp] theorem setGuest_fences (s : State) (g : Nat) (x : Guest) : (s.setGuest g x).fences = s.fences := rfl
@[simp] theorem setGuest_numx (s : State) (g : Nat) (x : Guest) : (s.setGuest g x).numx = s.numx := rfl
@[simp] theorem setGuest_xlat (s : State) (g : Nat) (x : Guest) : (s.setGuest g x).xlat = s.xlat := rfl
@[simp] theorem setGuest_host (s : State) (g : Nat) (x : Guest) : (s.setGuest g x).host = s.host := rfl
@[simp] theorem setGuest_pages (s : State) (g : Nat) (x : Guest) : (s.setGuest g x).pages = s.pages := rfl
@[simp] theorem setGuest_log (s : State) (g : Nat) (x : Guest) : (s.setGuest g x).log = s.log := rfl
@[simp] theorem setGuest_tick (s : State) (g : Nat) (x : Guest) : (s.setGuest g x).tick = s.tick := rfl
@[simp] theorem setGuest_fab (s : State) (g : Nat) (x : Guest) : (s.setGuest g x).fab = s.fab := rfl
@[simp] theorem setGuest_ce (s : State) (g : Nat) (x : Guest) : (s.setGuest g x).ce = s.ce := rfl
@[simp] theorem setGuest_upd (s : State) (g : Nat) (x : Guest) : (s.setGuest g x).upd = s.upd := rfl
@[simp] theorem setGuest_pwr (s : State) (g : Nat) (x : Guest) : (s.setGuest g x).pwr = s.pwr := rfl
@[simp] theorem setGuest_bring (s : State) (g : Nat) (x : Guest) : (s.setGuest g x).bring = s.bring := rfl
@[simp] theorem setGuest_fuse (s : State) (g : Nat) (x : Guest) : (s.setGuest g x).fuse = s.fuse := rfl
@[simp] theorem setGuest_bit (s : State) (g : Nat) (x : Guest) : (s.setGuest g x).bit = s.bit := rfl
@[simp] theorem setGuest_freeN (s : State) (g : Nat) (x : Guest) : (s.setGuest g x).freeN = s.freeN := rfl
@[simp] theorem setGuest_reply (s : State) (g : Nat) (x : Guest) : (s.setGuest g x).reply = s.reply := rfl
@[simp] theorem setGuest_sent (s : State) (g : Nat) (x : Guest) : (s.setGuest g x).sent = s.sent := rfl
@[simp] theorem setGuest_pending (s : State) (g : Nat) (x : Guest) : (s.setGuest g x).pending = s.pending := rfl
@[simp] theorem setGroup_pst (s : State) (g : Nat) (x : Group) : (s.setGroup g x).pst = s.pst := rfl
@[simp] theorem setGroup_uptime (s : State) (g : Nat) (x : Group) : (s.setGroup g x).uptime = s.uptime := rfl
@[simp] theorem setGroup_agt (s : State) (g : Nat) (x : Group) : (s.setGroup g x).agt = s.agt := rfl
@[simp] theorem setGroup_partNo (s : State) (g : Nat) (x : Group) : (s.setGroup g x).partNo = s.partNo := rfl
@[simp] theorem setGroup_partOf (s : State) (g : Nat) (x : Group) : (s.setGroup g x).partOf = s.partOf := rfl
@[simp] theorem setGroup_mem (s : State) (g : Nat) (x : Group) : (s.setGroup g x).mem = s.mem := rfl
@[simp] theorem setGroup_poison (s : State) (g : Nat) (x : Group) : (s.setGroup g x).poison = s.poison := rfl
@[simp] theorem setGroup_latent (s : State) (g : Nat) (x : Group) : (s.setGroup g x).latent = s.latent := rfl
@[simp] theorem setGroup_hbmCorr (s : State) (g : Nat) (x : Group) : (s.setGroup g x).hbmCorr = s.hbmCorr := rfl
@[simp] theorem setGroup_cores (s : State) (g : Nat) (x : Group) : (s.setGroup g x).cores = s.cores := rfl
@[simp] theorem setGroup_dies (s : State) (g : Nat) (x : Group) : (s.setGroup g x).dies = s.dies := rfl
@[simp] theorem setGroup_dir (s : State) (g : Nat) (x : Group) : (s.setGroup g x).dir = s.dir := rfl
@[simp] theorem setGroup_dirCtr (s : State) (g : Nat) (x : Group) : (s.setGroup g x).dirCtr = s.dirCtr := rfl
@[simp] theorem setGroup_links (s : State) (g : Nat) (x : Group) : (s.setGroup g x).links = s.links := rfl
@[simp] theorem setGroup_guests (s : State) (g : Nat) (x : Group) : (s.setGroup g x).guests = s.guests := rfl
@[simp] theorem setGroup_xbar (s : State) (g : Nat) (x : Group) : (s.setGroup g x).xbar = s.xbar := rfl
@[simp] theorem setGroup_msgs (s : State) (g : Nat) (x : Group) : (s.setGroup g x).msgs = s.msgs := rfl
@[simp] theorem setGroup_homeWr (s : State) (g : Nat) (x : Group) : (s.setGroup g x).homeWr = s.homeWr := rfl
@[simp] theorem setGroup_queues (s : State) (g : Nat) (x : Group) : (s.setGroup g x).queues = s.queues := rfl
@[simp] theorem setGroup_hubq (s : State) (g : Nat) (x : Group) : (s.setGroup g x).hubq = s.hubq := rfl
@[simp] theorem setGroup_fences (s : State) (g : Nat) (x : Group) : (s.setGroup g x).fences = s.fences := rfl
@[simp] theorem setGroup_numx (s : State) (g : Nat) (x : Group) : (s.setGroup g x).numx = s.numx := rfl
@[simp] theorem setGroup_xlat (s : State) (g : Nat) (x : Group) : (s.setGroup g x).xlat = s.xlat := rfl
@[simp] theorem setGroup_host (s : State) (g : Nat) (x : Group) : (s.setGroup g x).host = s.host := rfl
@[simp] theorem setGroup_pages (s : State) (g : Nat) (x : Group) : (s.setGroup g x).pages = s.pages := rfl
@[simp] theorem setGroup_log (s : State) (g : Nat) (x : Group) : (s.setGroup g x).log = s.log := rfl
@[simp] theorem setGroup_fab (s : State) (g : Nat) (x : Group) : (s.setGroup g x).fab = s.fab := rfl
@[simp] theorem setGroup_ce (s : State) (g : Nat) (x : Group) : (s.setGroup g x).ce = s.ce := rfl
@[simp] theorem setGroup_upd (s : State) (g : Nat) (x : Group) : (s.setGroup g x).upd = s.upd := rfl
@[simp] theorem setGroup_pwr (s : State) (g : Nat) (x : Group) : (s.setGroup g x).pwr = s.pwr := rfl
@[simp] theorem setGroup_bring (s : State) (g : Nat) (x : Group) : (s.setGroup g x).bring = s.bring := rfl
@[simp] theorem setGroup_fuse (s : State) (g : Nat) (x : Group) : (s.setGroup g x).fuse = s.fuse := rfl
@[simp] theorem setGroup_bit (s : State) (g : Nat) (x : Group) : (s.setGroup g x).bit = s.bit := rfl
@[simp] theorem setGroup_freeN (s : State) (g : Nat) (x : Group) : (s.setGroup g x).freeN = s.freeN := rfl
@[simp] theorem setGroup_reply (s : State) (g : Nat) (x : Group) : (s.setGroup g x).reply = s.reply := rfl
@[simp] theorem setGroup_sent (s : State) (g : Nat) (x : Group) : (s.setGroup g x).sent = s.sent := rfl
@[simp] theorem setGroup_pending (s : State) (g : Nat) (x : Group) : (s.setGroup g x).pending = s.pending := rfl
@[simp] theorem setEntry_pst (s : State) (n t : Nat) (x : Entry) : (s.setEntry n t x).pst = s.pst := rfl
@[simp] theorem setEntry_uptime (s : State) (n t : Nat) (x : Entry) : (s.setEntry n t x).uptime = s.uptime := rfl
@[simp] theorem setEntry_agt (s : State) (n t : Nat) (x : Entry) : (s.setEntry n t x).agt = s.agt := rfl
@[simp] theorem setEntry_partNo (s : State) (n t : Nat) (x : Entry) : (s.setEntry n t x).partNo = s.partNo := rfl
@[simp] theorem setEntry_partOf (s : State) (n t : Nat) (x : Entry) : (s.setEntry n t x).partOf = s.partOf := rfl
@[simp] theorem setEntry_mem (s : State) (n t : Nat) (x : Entry) : (s.setEntry n t x).mem = s.mem := rfl
@[simp] theorem setEntry_poison (s : State) (n t : Nat) (x : Entry) : (s.setEntry n t x).poison = s.poison := rfl
@[simp] theorem setEntry_latent (s : State) (n t : Nat) (x : Entry) : (s.setEntry n t x).latent = s.latent := rfl
@[simp] theorem setEntry_hbmCorr (s : State) (n t : Nat) (x : Entry) : (s.setEntry n t x).hbmCorr = s.hbmCorr := rfl
@[simp] theorem setEntry_cores (s : State) (n t : Nat) (x : Entry) : (s.setEntry n t x).cores = s.cores := rfl
@[simp] theorem setEntry_dies (s : State) (n t : Nat) (x : Entry) : (s.setEntry n t x).dies = s.dies := rfl
@[simp] theorem setEntry_dir (s : State) (n t : Nat) (x : Entry) : (s.setEntry n t x).dir = s.dir := rfl
@[simp] theorem setEntry_dirCtr (s : State) (n t : Nat) (x : Entry) : (s.setEntry n t x).dirCtr = s.dirCtr := rfl
@[simp] theorem setEntry_links (s : State) (n t : Nat) (x : Entry) : (s.setEntry n t x).links = s.links := rfl
@[simp] theorem setEntry_guests (s : State) (n t : Nat) (x : Entry) : (s.setEntry n t x).guests = s.guests := rfl
@[simp] theorem setEntry_xbar (s : State) (n t : Nat) (x : Entry) : (s.setEntry n t x).xbar = s.xbar := rfl
@[simp] theorem setEntry_msgs (s : State) (n t : Nat) (x : Entry) : (s.setEntry n t x).msgs = s.msgs := rfl
@[simp] theorem setEntry_homeWr (s : State) (n t : Nat) (x : Entry) : (s.setEntry n t x).homeWr = s.homeWr := rfl
@[simp] theorem setEntry_queues (s : State) (n t : Nat) (x : Entry) : (s.setEntry n t x).queues = s.queues := rfl
@[simp] theorem setEntry_hubq (s : State) (n t : Nat) (x : Entry) : (s.setEntry n t x).hubq = s.hubq := rfl
@[simp] theorem setEntry_fences (s : State) (n t : Nat) (x : Entry) : (s.setEntry n t x).fences = s.fences := rfl
@[simp] theorem setEntry_xlat (s : State) (n t : Nat) (x : Entry) : (s.setEntry n t x).xlat = s.xlat := rfl
@[simp] theorem setEntry_host (s : State) (n t : Nat) (x : Entry) : (s.setEntry n t x).host = s.host := rfl
@[simp] theorem setEntry_pages (s : State) (n t : Nat) (x : Entry) : (s.setEntry n t x).pages = s.pages := rfl
@[simp] theorem setEntry_log (s : State) (n t : Nat) (x : Entry) : (s.setEntry n t x).log = s.log := rfl
@[simp] theorem setEntry_tick (s : State) (n t : Nat) (x : Entry) : (s.setEntry n t x).tick = s.tick := rfl
@[simp] theorem setEntry_fab (s : State) (n t : Nat) (x : Entry) : (s.setEntry n t x).fab = s.fab := rfl
@[simp] theorem setEntry_ce (s : State) (n t : Nat) (x : Entry) : (s.setEntry n t x).ce = s.ce := rfl
@[simp] theorem setEntry_upd (s : State) (n t : Nat) (x : Entry) : (s.setEntry n t x).upd = s.upd := rfl
@[simp] theorem setEntry_pwr (s : State) (n t : Nat) (x : Entry) : (s.setEntry n t x).pwr = s.pwr := rfl
@[simp] theorem setEntry_bring (s : State) (n t : Nat) (x : Entry) : (s.setEntry n t x).bring = s.bring := rfl
@[simp] theorem setEntry_fuse (s : State) (n t : Nat) (x : Entry) : (s.setEntry n t x).fuse = s.fuse := rfl
@[simp] theorem setEntry_bit (s : State) (n t : Nat) (x : Entry) : (s.setEntry n t x).bit = s.bit := rfl
@[simp] theorem setEntry_freeN (s : State) (n t : Nat) (x : Entry) : (s.setEntry n t x).freeN = s.freeN := rfl
@[simp] theorem setEntry_reply (s : State) (n t : Nat) (x : Entry) : (s.setEntry n t x).reply = s.reply := rfl
@[simp] theorem setEntry_sent (s : State) (n t : Nat) (x : Entry) : (s.setEntry n t x).sent = s.sent := rfl
@[simp] theorem setEntry_pending (s : State) (n t : Nat) (x : Entry) : (s.setEntry n t x).pending = s.pending := rfl
@[simp] theorem setPort_pst (s : State) (k : Nat) (x : Port) : (s.setPort k x).pst = s.pst := rfl
@[simp] theorem setPort_uptime (s : State) (k : Nat) (x : Port) : (s.setPort k x).uptime = s.uptime := rfl
@[simp] theorem setPort_agt (s : State) (k : Nat) (x : Port) : (s.setPort k x).agt = s.agt := rfl
@[simp] theorem setPort_partNo (s : State) (k : Nat) (x : Port) : (s.setPort k x).partNo = s.partNo := rfl
@[simp] theorem setPort_partOf (s : State) (k : Nat) (x : Port) : (s.setPort k x).partOf = s.partOf := rfl
@[simp] theorem setPort_mem (s : State) (k : Nat) (x : Port) : (s.setPort k x).mem = s.mem := rfl
@[simp] theorem setPort_poison (s : State) (k : Nat) (x : Port) : (s.setPort k x).poison = s.poison := rfl
@[simp] theorem setPort_latent (s : State) (k : Nat) (x : Port) : (s.setPort k x).latent = s.latent := rfl
@[simp] theorem setPort_hbmCorr (s : State) (k : Nat) (x : Port) : (s.setPort k x).hbmCorr = s.hbmCorr := rfl
@[simp] theorem setPort_cores (s : State) (k : Nat) (x : Port) : (s.setPort k x).cores = s.cores := rfl
@[simp] theorem setPort_dies (s : State) (k : Nat) (x : Port) : (s.setPort k x).dies = s.dies := rfl
@[simp] theorem setPort_dir (s : State) (k : Nat) (x : Port) : (s.setPort k x).dir = s.dir := rfl
@[simp] theorem setPort_dirCtr (s : State) (k : Nat) (x : Port) : (s.setPort k x).dirCtr = s.dirCtr := rfl
@[simp] theorem setPort_links (s : State) (k : Nat) (x : Port) : (s.setPort k x).links = s.links := rfl
@[simp] theorem setPort_guests (s : State) (k : Nat) (x : Port) : (s.setPort k x).guests = s.guests := rfl
@[simp] theorem setPort_xbar (s : State) (k : Nat) (x : Port) : (s.setPort k x).xbar = s.xbar := rfl
@[simp] theorem setPort_msgs (s : State) (k : Nat) (x : Port) : (s.setPort k x).msgs = s.msgs := rfl
@[simp] theorem setPort_homeWr (s : State) (k : Nat) (x : Port) : (s.setPort k x).homeWr = s.homeWr := rfl
@[simp] theorem setPort_queues (s : State) (k : Nat) (x : Port) : (s.setPort k x).queues = s.queues := rfl
@[simp] theorem setPort_hubq (s : State) (k : Nat) (x : Port) : (s.setPort k x).hubq = s.hubq := rfl
@[simp] theorem setPort_fences (s : State) (k : Nat) (x : Port) : (s.setPort k x).fences = s.fences := rfl
@[simp] theorem setPort_numx (s : State) (k : Nat) (x : Port) : (s.setPort k x).numx = s.numx := rfl
@[simp] theorem setPort_xlat (s : State) (k : Nat) (x : Port) : (s.setPort k x).xlat = s.xlat := rfl
@[simp] theorem setPort_host (s : State) (k : Nat) (x : Port) : (s.setPort k x).host = s.host := rfl
@[simp] theorem setPort_pages (s : State) (k : Nat) (x : Port) : (s.setPort k x).pages = s.pages := rfl
@[simp] theorem setPort_log (s : State) (k : Nat) (x : Port) : (s.setPort k x).log = s.log := rfl
@[simp] theorem setPort_tick (s : State) (k : Nat) (x : Port) : (s.setPort k x).tick = s.tick := rfl
@[simp] theorem setPort_ce (s : State) (k : Nat) (x : Port) : (s.setPort k x).ce = s.ce := rfl
@[simp] theorem setPort_upd (s : State) (k : Nat) (x : Port) : (s.setPort k x).upd = s.upd := rfl
@[simp] theorem setPort_pwr (s : State) (k : Nat) (x : Port) : (s.setPort k x).pwr = s.pwr := rfl
@[simp] theorem setPort_bring (s : State) (k : Nat) (x : Port) : (s.setPort k x).bring = s.bring := rfl
@[simp] theorem setPort_fuse (s : State) (k : Nat) (x : Port) : (s.setPort k x).fuse = s.fuse := rfl
@[simp] theorem setPort_bit (s : State) (k : Nat) (x : Port) : (s.setPort k x).bit = s.bit := rfl
@[simp] theorem setPort_freeN (s : State) (k : Nat) (x : Port) : (s.setPort k x).freeN = s.freeN := rfl
@[simp] theorem setPort_reply (s : State) (k : Nat) (x : Port) : (s.setPort k x).reply = s.reply := rfl
@[simp] theorem setPort_sent (s : State) (k : Nat) (x : Port) : (s.setPort k x).sent = s.sent := rfl
@[simp] theorem setPort_pending (s : State) (k : Nat) (x : Port) : (s.setPort k x).pending = s.pending := rfl
@[simp] theorem setCtl_pst (s : State) (c : Bool) (x : Ctl) : (s.setCtl c x).pst = s.pst := rfl
@[simp] theorem setCtl_uptime (s : State) (c : Bool) (x : Ctl) : (s.setCtl c x).uptime = s.uptime := rfl
@[simp] theorem setCtl_agt (s : State) (c : Bool) (x : Ctl) : (s.setCtl c x).agt = s.agt := rfl
@[simp] theorem setCtl_partNo (s : State) (c : Bool) (x : Ctl) : (s.setCtl c x).partNo = s.partNo := rfl
@[simp] theorem setCtl_partOf (s : State) (c : Bool) (x : Ctl) : (s.setCtl c x).partOf = s.partOf := rfl
@[simp] theorem setCtl_mem (s : State) (c : Bool) (x : Ctl) : (s.setCtl c x).mem = s.mem := rfl
@[simp] theorem setCtl_poison (s : State) (c : Bool) (x : Ctl) : (s.setCtl c x).poison = s.poison := rfl
@[simp] theorem setCtl_latent (s : State) (c : Bool) (x : Ctl) : (s.setCtl c x).latent = s.latent := rfl
@[simp] theorem setCtl_hbmCorr (s : State) (c : Bool) (x : Ctl) : (s.setCtl c x).hbmCorr = s.hbmCorr := rfl
@[simp] theorem setCtl_cores (s : State) (c : Bool) (x : Ctl) : (s.setCtl c x).cores = s.cores := rfl
@[simp] theorem setCtl_dies (s : State) (c : Bool) (x : Ctl) : (s.setCtl c x).dies = s.dies := rfl
@[simp] theorem setCtl_dir (s : State) (c : Bool) (x : Ctl) : (s.setCtl c x).dir = s.dir := rfl
@[simp] theorem setCtl_dirCtr (s : State) (c : Bool) (x : Ctl) : (s.setCtl c x).dirCtr = s.dirCtr := rfl
@[simp] theorem setCtl_links (s : State) (c : Bool) (x : Ctl) : (s.setCtl c x).links = s.links := rfl
@[simp] theorem setCtl_guests (s : State) (c : Bool) (x : Ctl) : (s.setCtl c x).guests = s.guests := rfl
@[simp] theorem setCtl_xbar (s : State) (c : Bool) (x : Ctl) : (s.setCtl c x).xbar = s.xbar := rfl
@[simp] theorem setCtl_msgs (s : State) (c : Bool) (x : Ctl) : (s.setCtl c x).msgs = s.msgs := rfl
@[simp] theorem setCtl_homeWr (s : State) (c : Bool) (x : Ctl) : (s.setCtl c x).homeWr = s.homeWr := rfl
@[simp] theorem setCtl_queues (s : State) (c : Bool) (x : Ctl) : (s.setCtl c x).queues = s.queues := rfl
@[simp] theorem setCtl_hubq (s : State) (c : Bool) (x : Ctl) : (s.setCtl c x).hubq = s.hubq := rfl
@[simp] theorem setCtl_fences (s : State) (c : Bool) (x : Ctl) : (s.setCtl c x).fences = s.fences := rfl
@[simp] theorem setCtl_numx (s : State) (c : Bool) (x : Ctl) : (s.setCtl c x).numx = s.numx := rfl
@[simp] theorem setCtl_xlat (s : State) (c : Bool) (x : Ctl) : (s.setCtl c x).xlat = s.xlat := rfl
@[simp] theorem setCtl_host (s : State) (c : Bool) (x : Ctl) : (s.setCtl c x).host = s.host := rfl
@[simp] theorem setCtl_pages (s : State) (c : Bool) (x : Ctl) : (s.setCtl c x).pages = s.pages := rfl
@[simp] theorem setCtl_log (s : State) (c : Bool) (x : Ctl) : (s.setCtl c x).log = s.log := rfl
@[simp] theorem setCtl_tick (s : State) (c : Bool) (x : Ctl) : (s.setCtl c x).tick = s.tick := rfl
@[simp] theorem setCtl_fab (s : State) (c : Bool) (x : Ctl) : (s.setCtl c x).fab = s.fab := rfl
@[simp] theorem setCtl_ce (s : State) (c : Bool) (x : Ctl) : (s.setCtl c x).ce = s.ce := rfl
@[simp] theorem setCtl_upd (s : State) (c : Bool) (x : Ctl) : (s.setCtl c x).upd = s.upd := rfl
@[simp] theorem setCtl_pwr (s : State) (c : Bool) (x : Ctl) : (s.setCtl c x).pwr = s.pwr := rfl
@[simp] theorem setCtl_bring (s : State) (c : Bool) (x : Ctl) : (s.setCtl c x).bring = s.bring := rfl
@[simp] theorem setCtl_fuse (s : State) (c : Bool) (x : Ctl) : (s.setCtl c x).fuse = s.fuse := rfl
@[simp] theorem setCtl_freeN (s : State) (c : Bool) (x : Ctl) : (s.setCtl c x).freeN = s.freeN := rfl
@[simp] theorem setCtl_reply (s : State) (c : Bool) (x : Ctl) : (s.setCtl c x).reply = s.reply := rfl
@[simp] theorem setCtl_sent (s : State) (c : Bool) (x : Ctl) : (s.setCtl c x).sent = s.sent := rfl
@[simp] theorem setCtl_pending (s : State) (c : Bool) (x : Ctl) : (s.setCtl c x).pending = s.pending := rfl
@[simp] theorem setSlot_pst (s : State) (k : Nat) (x : Slot) : (s.setSlot k x).pst = s.pst := rfl
@[simp] theorem setSlot_uptime (s : State) (k : Nat) (x : Slot) : (s.setSlot k x).uptime = s.uptime := rfl
@[simp] theorem setSlot_agt (s : State) (k : Nat) (x : Slot) : (s.setSlot k x).agt = s.agt := rfl
@[simp] theorem setSlot_partNo (s : State) (k : Nat) (x : Slot) : (s.setSlot k x).partNo = s.partNo := rfl
@[simp] theorem setSlot_partOf (s : State) (k : Nat) (x : Slot) : (s.setSlot k x).partOf = s.partOf := rfl
@[simp] theorem setSlot_mem (s : State) (k : Nat) (x : Slot) : (s.setSlot k x).mem = s.mem := rfl
@[simp] theorem setSlot_poison (s : State) (k : Nat) (x : Slot) : (s.setSlot k x).poison = s.poison := rfl
@[simp] theorem setSlot_latent (s : State) (k : Nat) (x : Slot) : (s.setSlot k x).latent = s.latent := rfl
@[simp] theorem setSlot_hbmCorr (s : State) (k : Nat) (x : Slot) : (s.setSlot k x).hbmCorr = s.hbmCorr := rfl
@[simp] theorem setSlot_cores (s : State) (k : Nat) (x : Slot) : (s.setSlot k x).cores = s.cores := rfl
@[simp] theorem setSlot_dies (s : State) (k : Nat) (x : Slot) : (s.setSlot k x).dies = s.dies := rfl
@[simp] theorem setSlot_dir (s : State) (k : Nat) (x : Slot) : (s.setSlot k x).dir = s.dir := rfl
@[simp] theorem setSlot_dirCtr (s : State) (k : Nat) (x : Slot) : (s.setSlot k x).dirCtr = s.dirCtr := rfl
@[simp] theorem setSlot_links (s : State) (k : Nat) (x : Slot) : (s.setSlot k x).links = s.links := rfl
@[simp] theorem setSlot_guests (s : State) (k : Nat) (x : Slot) : (s.setSlot k x).guests = s.guests := rfl
@[simp] theorem setSlot_xbar (s : State) (k : Nat) (x : Slot) : (s.setSlot k x).xbar = s.xbar := rfl
@[simp] theorem setSlot_msgs (s : State) (k : Nat) (x : Slot) : (s.setSlot k x).msgs = s.msgs := rfl
@[simp] theorem setSlot_homeWr (s : State) (k : Nat) (x : Slot) : (s.setSlot k x).homeWr = s.homeWr := rfl
@[simp] theorem setSlot_queues (s : State) (k : Nat) (x : Slot) : (s.setSlot k x).queues = s.queues := rfl
@[simp] theorem setSlot_hubq (s : State) (k : Nat) (x : Slot) : (s.setSlot k x).hubq = s.hubq := rfl
@[simp] theorem setSlot_fences (s : State) (k : Nat) (x : Slot) : (s.setSlot k x).fences = s.fences := rfl
@[simp] theorem setSlot_numx (s : State) (k : Nat) (x : Slot) : (s.setSlot k x).numx = s.numx := rfl
@[simp] theorem setSlot_xlat (s : State) (k : Nat) (x : Slot) : (s.setSlot k x).xlat = s.xlat := rfl
@[simp] theorem setSlot_host (s : State) (k : Nat) (x : Slot) : (s.setSlot k x).host = s.host := rfl
@[simp] theorem setSlot_pages (s : State) (k : Nat) (x : Slot) : (s.setSlot k x).pages = s.pages := rfl
@[simp] theorem setSlot_log (s : State) (k : Nat) (x : Slot) : (s.setSlot k x).log = s.log := rfl
@[simp] theorem setSlot_tick (s : State) (k : Nat) (x : Slot) : (s.setSlot k x).tick = s.tick := rfl
@[simp] theorem setSlot_fab (s : State) (k : Nat) (x : Slot) : (s.setSlot k x).fab = s.fab := rfl
@[simp] theorem setSlot_ce (s : State) (k : Nat) (x : Slot) : (s.setSlot k x).ce = s.ce := rfl
@[simp] theorem setSlot_upd (s : State) (k : Nat) (x : Slot) : (s.setSlot k x).upd = s.upd := rfl
@[simp] theorem setSlot_pwr (s : State) (k : Nat) (x : Slot) : (s.setSlot k x).pwr = s.pwr := rfl
@[simp] theorem setSlot_bring (s : State) (k : Nat) (x : Slot) : (s.setSlot k x).bring = s.bring := rfl
@[simp] theorem setSlot_fuse (s : State) (k : Nat) (x : Slot) : (s.setSlot k x).fuse = s.fuse := rfl
@[simp] theorem setSlot_freeN (s : State) (k : Nat) (x : Slot) : (s.setSlot k x).freeN = s.freeN := rfl
@[simp] theorem setSlot_reply (s : State) (k : Nat) (x : Slot) : (s.setSlot k x).reply = s.reply := rfl
@[simp] theorem setSlot_sent (s : State) (k : Nat) (x : Slot) : (s.setSlot k x).sent = s.sent := rfl
@[simp] theorem setSlot_pending (s : State) (k : Nat) (x : Slot) : (s.setSlot k x).pending = s.pending := rfl
@[simp] theorem setVe_pst (s : State) (p : Nat) (x : Ve) : (setVe s p x).pst = s.pst := rfl
@[simp] theorem setVe_uptime (s : State) (p : Nat) (x : Ve) : (setVe s p x).uptime = s.uptime := rfl
@[simp] theorem setVe_agt (s : State) (p : Nat) (x : Ve) : (setVe s p x).agt = s.agt := rfl
@[simp] theorem setVe_partNo (s : State) (p : Nat) (x : Ve) : (setVe s p x).partNo = s.partNo := rfl
@[simp] theorem setVe_partOf (s : State) (p : Nat) (x : Ve) : (setVe s p x).partOf = s.partOf := rfl
@[simp] theorem setVe_mem (s : State) (p : Nat) (x : Ve) : (setVe s p x).mem = s.mem := rfl
@[simp] theorem setVe_poison (s : State) (p : Nat) (x : Ve) : (setVe s p x).poison = s.poison := rfl
@[simp] theorem setVe_latent (s : State) (p : Nat) (x : Ve) : (setVe s p x).latent = s.latent := rfl
@[simp] theorem setVe_hbmCorr (s : State) (p : Nat) (x : Ve) : (setVe s p x).hbmCorr = s.hbmCorr := rfl
@[simp] theorem setVe_dies (s : State) (p : Nat) (x : Ve) : (setVe s p x).dies = s.dies := rfl
@[simp] theorem setVe_dir (s : State) (p : Nat) (x : Ve) : (setVe s p x).dir = s.dir := rfl
@[simp] theorem setVe_dirCtr (s : State) (p : Nat) (x : Ve) : (setVe s p x).dirCtr = s.dirCtr := rfl
@[simp] theorem setVe_links (s : State) (p : Nat) (x : Ve) : (setVe s p x).links = s.links := rfl
@[simp] theorem setVe_guests (s : State) (p : Nat) (x : Ve) : (setVe s p x).guests = s.guests := rfl
@[simp] theorem setVe_xbar (s : State) (p : Nat) (x : Ve) : (setVe s p x).xbar = s.xbar := rfl
@[simp] theorem setVe_msgs (s : State) (p : Nat) (x : Ve) : (setVe s p x).msgs = s.msgs := rfl
@[simp] theorem setVe_homeWr (s : State) (p : Nat) (x : Ve) : (setVe s p x).homeWr = s.homeWr := rfl
@[simp] theorem setVe_queues (s : State) (p : Nat) (x : Ve) : (setVe s p x).queues = s.queues := rfl
@[simp] theorem setVe_hubq (s : State) (p : Nat) (x : Ve) : (setVe s p x).hubq = s.hubq := rfl
@[simp] theorem setVe_fences (s : State) (p : Nat) (x : Ve) : (setVe s p x).fences = s.fences := rfl
@[simp] theorem setVe_numx (s : State) (p : Nat) (x : Ve) : (setVe s p x).numx = s.numx := rfl
@[simp] theorem setVe_xlat (s : State) (p : Nat) (x : Ve) : (setVe s p x).xlat = s.xlat := rfl
@[simp] theorem setVe_host (s : State) (p : Nat) (x : Ve) : (setVe s p x).host = s.host := rfl
@[simp] theorem setVe_pages (s : State) (p : Nat) (x : Ve) : (setVe s p x).pages = s.pages := rfl
@[simp] theorem setVe_log (s : State) (p : Nat) (x : Ve) : (setVe s p x).log = s.log := rfl
@[simp] theorem setVe_tick (s : State) (p : Nat) (x : Ve) : (setVe s p x).tick = s.tick := rfl
@[simp] theorem setVe_fab (s : State) (p : Nat) (x : Ve) : (setVe s p x).fab = s.fab := rfl
@[simp] theorem setVe_ce (s : State) (p : Nat) (x : Ve) : (setVe s p x).ce = s.ce := rfl
@[simp] theorem setVe_upd (s : State) (p : Nat) (x : Ve) : (setVe s p x).upd = s.upd := rfl
@[simp] theorem setVe_pwr (s : State) (p : Nat) (x : Ve) : (setVe s p x).pwr = s.pwr := rfl
@[simp] theorem setVe_bring (s : State) (p : Nat) (x : Ve) : (setVe s p x).bring = s.bring := rfl
@[simp] theorem setVe_fuse (s : State) (p : Nat) (x : Ve) : (setVe s p x).fuse = s.fuse := rfl
@[simp] theorem setVe_bit (s : State) (p : Nat) (x : Ve) : (setVe s p x).bit = s.bit := rfl
@[simp] theorem setVe_freeN (s : State) (p : Nat) (x : Ve) : (setVe s p x).freeN = s.freeN := rfl
@[simp] theorem setVe_reply (s : State) (p : Nat) (x : Ve) : (setVe s p x).reply = s.reply := rfl
@[simp] theorem setVe_sent (s : State) (p : Nat) (x : Ve) : (setVe s p x).sent = s.sent := rfl
@[simp] theorem setVe_pending (s : State) (p : Nat) (x : Ve) : (setVe s p x).pending = s.pending := rfl
@[simp] theorem tickCtr_pst (s : State) (o n : Nat) : (tickCtr s o n).pst = s.pst := rfl
@[simp] theorem tickCtr_uptime (s : State) (o n : Nat) : (tickCtr s o n).uptime = s.uptime := rfl
@[simp] theorem tickCtr_agt (s : State) (o n : Nat) : (tickCtr s o n).agt = s.agt := rfl
@[simp] theorem tickCtr_partNo (s : State) (o n : Nat) : (tickCtr s o n).partNo = s.partNo := rfl
@[simp] theorem tickCtr_partOf (s : State) (o n : Nat) : (tickCtr s o n).partOf = s.partOf := rfl
@[simp] theorem tickCtr_mem (s : State) (o n : Nat) : (tickCtr s o n).mem = s.mem := rfl
@[simp] theorem tickCtr_poison (s : State) (o n : Nat) : (tickCtr s o n).poison = s.poison := rfl
@[simp] theorem tickCtr_latent (s : State) (o n : Nat) : (tickCtr s o n).latent = s.latent := rfl
@[simp] theorem tickCtr_hbmCorr (s : State) (o n : Nat) : (tickCtr s o n).hbmCorr = s.hbmCorr := rfl
@[simp] theorem tickCtr_cores (s : State) (o n : Nat) : (tickCtr s o n).cores = s.cores := rfl
@[simp] theorem tickCtr_dies (s : State) (o n : Nat) : (tickCtr s o n).dies = s.dies := rfl
@[simp] theorem tickCtr_dir (s : State) (o n : Nat) : (tickCtr s o n).dir = s.dir := rfl
@[simp] theorem tickCtr_dirCtr (s : State) (o n : Nat) : (tickCtr s o n).dirCtr = s.dirCtr := rfl
@[simp] theorem tickCtr_links (s : State) (o n : Nat) : (tickCtr s o n).links = s.links := rfl
@[simp] theorem tickCtr_guests (s : State) (o n : Nat) : (tickCtr s o n).guests = s.guests := rfl
@[simp] theorem tickCtr_xbar (s : State) (o n : Nat) : (tickCtr s o n).xbar = s.xbar := rfl
@[simp] theorem tickCtr_msgs (s : State) (o n : Nat) : (tickCtr s o n).msgs = s.msgs := rfl
@[simp] theorem tickCtr_homeWr (s : State) (o n : Nat) : (tickCtr s o n).homeWr = s.homeWr := rfl
@[simp] theorem tickCtr_queues (s : State) (o n : Nat) : (tickCtr s o n).queues = s.queues := rfl
@[simp] theorem tickCtr_hubq (s : State) (o n : Nat) : (tickCtr s o n).hubq = s.hubq := rfl
@[simp] theorem tickCtr_fences (s : State) (o n : Nat) : (tickCtr s o n).fences = s.fences := rfl
@[simp] theorem tickCtr_numx (s : State) (o n : Nat) : (tickCtr s o n).numx = s.numx := rfl
@[simp] theorem tickCtr_xlat (s : State) (o n : Nat) : (tickCtr s o n).xlat = s.xlat := rfl
@[simp] theorem tickCtr_host (s : State) (o n : Nat) : (tickCtr s o n).host = s.host := rfl
@[simp] theorem tickCtr_pages (s : State) (o n : Nat) : (tickCtr s o n).pages = s.pages := rfl
@[simp] theorem tickCtr_log (s : State) (o n : Nat) : (tickCtr s o n).log = s.log := rfl
@[simp] theorem tickCtr_fab (s : State) (o n : Nat) : (tickCtr s o n).fab = s.fab := rfl
@[simp] theorem tickCtr_ce (s : State) (o n : Nat) : (tickCtr s o n).ce = s.ce := rfl
@[simp] theorem tickCtr_upd (s : State) (o n : Nat) : (tickCtr s o n).upd = s.upd := rfl
@[simp] theorem tickCtr_pwr (s : State) (o n : Nat) : (tickCtr s o n).pwr = s.pwr := rfl
@[simp] theorem tickCtr_bring (s : State) (o n : Nat) : (tickCtr s o n).bring = s.bring := rfl
@[simp] theorem tickCtr_fuse (s : State) (o n : Nat) : (tickCtr s o n).fuse = s.fuse := rfl
@[simp] theorem tickCtr_bit (s : State) (o n : Nat) : (tickCtr s o n).bit = s.bit := rfl
@[simp] theorem tickCtr_freeN (s : State) (o n : Nat) : (tickCtr s o n).freeN = s.freeN := rfl
@[simp] theorem tickCtr_reply (s : State) (o n : Nat) : (tickCtr s o n).reply = s.reply := rfl
@[simp] theorem tickCtr_sent (s : State) (o n : Nat) : (tickCtr s o n).sent = s.sent := rfl
@[simp] theorem tickCtr_pending (s : State) (o n : Nat) : (tickCtr s o n).pending = s.pending := rfl
@[simp] theorem numxCtr_pst (s : State) (o n : Nat) : (numxCtr s o n).pst = s.pst := rfl
@[simp] theorem numxCtr_uptime (s : State) (o n : Nat) : (numxCtr s o n).uptime = s.uptime := rfl
@[simp] theorem numxCtr_agt (s : State) (o n : Nat) : (numxCtr s o n).agt = s.agt := rfl
@[simp] theorem numxCtr_partNo (s : State) (o n : Nat) : (numxCtr s o n).partNo = s.partNo := rfl
@[simp] theorem numxCtr_partOf (s : State) (o n : Nat) : (numxCtr s o n).partOf = s.partOf := rfl
@[simp] theorem numxCtr_mem (s : State) (o n : Nat) : (numxCtr s o n).mem = s.mem := rfl
@[simp] theorem numxCtr_poison (s : State) (o n : Nat) : (numxCtr s o n).poison = s.poison := rfl
@[simp] theorem numxCtr_latent (s : State) (o n : Nat) : (numxCtr s o n).latent = s.latent := rfl
@[simp] theorem numxCtr_hbmCorr (s : State) (o n : Nat) : (numxCtr s o n).hbmCorr = s.hbmCorr := rfl
@[simp] theorem numxCtr_cores (s : State) (o n : Nat) : (numxCtr s o n).cores = s.cores := rfl
@[simp] theorem numxCtr_dies (s : State) (o n : Nat) : (numxCtr s o n).dies = s.dies := rfl
@[simp] theorem numxCtr_dir (s : State) (o n : Nat) : (numxCtr s o n).dir = s.dir := rfl
@[simp] theorem numxCtr_dirCtr (s : State) (o n : Nat) : (numxCtr s o n).dirCtr = s.dirCtr := rfl
@[simp] theorem numxCtr_links (s : State) (o n : Nat) : (numxCtr s o n).links = s.links := rfl
@[simp] theorem numxCtr_guests (s : State) (o n : Nat) : (numxCtr s o n).guests = s.guests := rfl
@[simp] theorem numxCtr_xbar (s : State) (o n : Nat) : (numxCtr s o n).xbar = s.xbar := rfl
@[simp] theorem numxCtr_msgs (s : State) (o n : Nat) : (numxCtr s o n).msgs = s.msgs := rfl
@[simp] theorem numxCtr_homeWr (s : State) (o n : Nat) : (numxCtr s o n).homeWr = s.homeWr := rfl
@[simp] theorem numxCtr_queues (s : State) (o n : Nat) : (numxCtr s o n).queues = s.queues := rfl
@[simp] theorem numxCtr_hubq (s : State) (o n : Nat) : (numxCtr s o n).hubq = s.hubq := rfl
@[simp] theorem numxCtr_fences (s : State) (o n : Nat) : (numxCtr s o n).fences = s.fences := rfl
@[simp] theorem numxCtr_xlat (s : State) (o n : Nat) : (numxCtr s o n).xlat = s.xlat := rfl
@[simp] theorem numxCtr_host (s : State) (o n : Nat) : (numxCtr s o n).host = s.host := rfl
@[simp] theorem numxCtr_pages (s : State) (o n : Nat) : (numxCtr s o n).pages = s.pages := rfl
@[simp] theorem numxCtr_log (s : State) (o n : Nat) : (numxCtr s o n).log = s.log := rfl
@[simp] theorem numxCtr_tick (s : State) (o n : Nat) : (numxCtr s o n).tick = s.tick := rfl
@[simp] theorem numxCtr_fab (s : State) (o n : Nat) : (numxCtr s o n).fab = s.fab := rfl
@[simp] theorem numxCtr_ce (s : State) (o n : Nat) : (numxCtr s o n).ce = s.ce := rfl
@[simp] theorem numxCtr_upd (s : State) (o n : Nat) : (numxCtr s o n).upd = s.upd := rfl
@[simp] theorem numxCtr_pwr (s : State) (o n : Nat) : (numxCtr s o n).pwr = s.pwr := rfl
@[simp] theorem numxCtr_bring (s : State) (o n : Nat) : (numxCtr s o n).bring = s.bring := rfl
@[simp] theorem numxCtr_fuse (s : State) (o n : Nat) : (numxCtr s o n).fuse = s.fuse := rfl
@[simp] theorem numxCtr_bit (s : State) (o n : Nat) : (numxCtr s o n).bit = s.bit := rfl
@[simp] theorem numxCtr_freeN (s : State) (o n : Nat) : (numxCtr s o n).freeN = s.freeN := rfl
@[simp] theorem numxCtr_reply (s : State) (o n : Nat) : (numxCtr s o n).reply = s.reply := rfl
@[simp] theorem numxCtr_sent (s : State) (o n : Nat) : (numxCtr s o n).sent = s.sent := rfl
@[simp] theorem numxCtr_pending (s : State) (o n : Nat) : (numxCtr s o n).pending = s.pending := rfl
@[simp] theorem hostCtr_pst (s : State) (o n : Nat) : (hostCtr s o n).pst = s.pst := rfl
@[simp] theorem hostCtr_uptime (s : State) (o n : Nat) : (hostCtr s o n).uptime = s.uptime := rfl
@[simp] theorem hostCtr_agt (s : State) (o n : Nat) : (hostCtr s o n).agt = s.agt := rfl
@[simp] theorem hostCtr_partNo (s : State) (o n : Nat) : (hostCtr s o n).partNo = s.partNo := rfl
@[simp] theorem hostCtr_partOf (s : State) (o n : Nat) : (hostCtr s o n).partOf = s.partOf := rfl
@[simp] theorem hostCtr_mem (s : State) (o n : Nat) : (hostCtr s o n).mem = s.mem := rfl
@[simp] theorem hostCtr_poison (s : State) (o n : Nat) : (hostCtr s o n).poison = s.poison := rfl
@[simp] theorem hostCtr_latent (s : State) (o n : Nat) : (hostCtr s o n).latent = s.latent := rfl
@[simp] theorem hostCtr_hbmCorr (s : State) (o n : Nat) : (hostCtr s o n).hbmCorr = s.hbmCorr := rfl
@[simp] theorem hostCtr_cores (s : State) (o n : Nat) : (hostCtr s o n).cores = s.cores := rfl
@[simp] theorem hostCtr_dies (s : State) (o n : Nat) : (hostCtr s o n).dies = s.dies := rfl
@[simp] theorem hostCtr_dir (s : State) (o n : Nat) : (hostCtr s o n).dir = s.dir := rfl
@[simp] theorem hostCtr_dirCtr (s : State) (o n : Nat) : (hostCtr s o n).dirCtr = s.dirCtr := rfl
@[simp] theorem hostCtr_links (s : State) (o n : Nat) : (hostCtr s o n).links = s.links := rfl
@[simp] theorem hostCtr_guests (s : State) (o n : Nat) : (hostCtr s o n).guests = s.guests := rfl
@[simp] theorem hostCtr_xbar (s : State) (o n : Nat) : (hostCtr s o n).xbar = s.xbar := rfl
@[simp] theorem hostCtr_msgs (s : State) (o n : Nat) : (hostCtr s o n).msgs = s.msgs := rfl
@[simp] theorem hostCtr_homeWr (s : State) (o n : Nat) : (hostCtr s o n).homeWr = s.homeWr := rfl
@[simp] theorem hostCtr_queues (s : State) (o n : Nat) : (hostCtr s o n).queues = s.queues := rfl
@[simp] theorem hostCtr_hubq (s : State) (o n : Nat) : (hostCtr s o n).hubq = s.hubq := rfl
@[simp] theorem hostCtr_fences (s : State) (o n : Nat) : (hostCtr s o n).fences = s.fences := rfl
@[simp] theorem hostCtr_numx (s : State) (o n : Nat) : (hostCtr s o n).numx = s.numx := rfl
@[simp] theorem hostCtr_xlat (s : State) (o n : Nat) : (hostCtr s o n).xlat = s.xlat := rfl
@[simp] theorem hostCtr_pages (s : State) (o n : Nat) : (hostCtr s o n).pages = s.pages := rfl
@[simp] theorem hostCtr_log (s : State) (o n : Nat) : (hostCtr s o n).log = s.log := rfl
@[simp] theorem hostCtr_tick (s : State) (o n : Nat) : (hostCtr s o n).tick = s.tick := rfl
@[simp] theorem hostCtr_fab (s : State) (o n : Nat) : (hostCtr s o n).fab = s.fab := rfl
@[simp] theorem hostCtr_ce (s : State) (o n : Nat) : (hostCtr s o n).ce = s.ce := rfl
@[simp] theorem hostCtr_upd (s : State) (o n : Nat) : (hostCtr s o n).upd = s.upd := rfl
@[simp] theorem hostCtr_pwr (s : State) (o n : Nat) : (hostCtr s o n).pwr = s.pwr := rfl
@[simp] theorem hostCtr_bring (s : State) (o n : Nat) : (hostCtr s o n).bring = s.bring := rfl
@[simp] theorem hostCtr_fuse (s : State) (o n : Nat) : (hostCtr s o n).fuse = s.fuse := rfl
@[simp] theorem hostCtr_bit (s : State) (o n : Nat) : (hostCtr s o n).bit = s.bit := rfl
@[simp] theorem hostCtr_freeN (s : State) (o n : Nat) : (hostCtr s o n).freeN = s.freeN := rfl
@[simp] theorem hostCtr_reply (s : State) (o n : Nat) : (hostCtr s o n).reply = s.reply := rfl
@[simp] theorem hostCtr_sent (s : State) (o n : Nat) : (hostCtr s o n).sent = s.sent := rfl
@[simp] theorem hostCtr_pending (s : State) (o n : Nat) : (hostCtr s o n).pending = s.pending := rfl
@[simp] theorem bmgtCtr_pst (s : State) (o n : Nat) : (bmgtCtr s o n).pst = s.pst := rfl
@[simp] theorem bmgtCtr_uptime (s : State) (o n : Nat) : (bmgtCtr s o n).uptime = s.uptime := rfl
@[simp] theorem bmgtCtr_agt (s : State) (o n : Nat) : (bmgtCtr s o n).agt = s.agt := rfl
@[simp] theorem bmgtCtr_partNo (s : State) (o n : Nat) : (bmgtCtr s o n).partNo = s.partNo := rfl
@[simp] theorem bmgtCtr_partOf (s : State) (o n : Nat) : (bmgtCtr s o n).partOf = s.partOf := rfl
@[simp] theorem bmgtCtr_mem (s : State) (o n : Nat) : (bmgtCtr s o n).mem = s.mem := rfl
@[simp] theorem bmgtCtr_poison (s : State) (o n : Nat) : (bmgtCtr s o n).poison = s.poison := rfl
@[simp] theorem bmgtCtr_latent (s : State) (o n : Nat) : (bmgtCtr s o n).latent = s.latent := rfl
@[simp] theorem bmgtCtr_hbmCorr (s : State) (o n : Nat) : (bmgtCtr s o n).hbmCorr = s.hbmCorr := rfl
@[simp] theorem bmgtCtr_cores (s : State) (o n : Nat) : (bmgtCtr s o n).cores = s.cores := rfl
@[simp] theorem bmgtCtr_dies (s : State) (o n : Nat) : (bmgtCtr s o n).dies = s.dies := rfl
@[simp] theorem bmgtCtr_dir (s : State) (o n : Nat) : (bmgtCtr s o n).dir = s.dir := rfl
@[simp] theorem bmgtCtr_dirCtr (s : State) (o n : Nat) : (bmgtCtr s o n).dirCtr = s.dirCtr := rfl
@[simp] theorem bmgtCtr_links (s : State) (o n : Nat) : (bmgtCtr s o n).links = s.links := rfl
@[simp] theorem bmgtCtr_guests (s : State) (o n : Nat) : (bmgtCtr s o n).guests = s.guests := rfl
@[simp] theorem bmgtCtr_xbar (s : State) (o n : Nat) : (bmgtCtr s o n).xbar = s.xbar := rfl
@[simp] theorem bmgtCtr_msgs (s : State) (o n : Nat) : (bmgtCtr s o n).msgs = s.msgs := rfl
@[simp] theorem bmgtCtr_homeWr (s : State) (o n : Nat) : (bmgtCtr s o n).homeWr = s.homeWr := rfl
@[simp] theorem bmgtCtr_queues (s : State) (o n : Nat) : (bmgtCtr s o n).queues = s.queues := rfl
@[simp] theorem bmgtCtr_hubq (s : State) (o n : Nat) : (bmgtCtr s o n).hubq = s.hubq := rfl
@[simp] theorem bmgtCtr_fences (s : State) (o n : Nat) : (bmgtCtr s o n).fences = s.fences := rfl
@[simp] theorem bmgtCtr_numx (s : State) (o n : Nat) : (bmgtCtr s o n).numx = s.numx := rfl
@[simp] theorem bmgtCtr_xlat (s : State) (o n : Nat) : (bmgtCtr s o n).xlat = s.xlat := rfl
@[simp] theorem bmgtCtr_host (s : State) (o n : Nat) : (bmgtCtr s o n).host = s.host := rfl
@[simp] theorem bmgtCtr_pages (s : State) (o n : Nat) : (bmgtCtr s o n).pages = s.pages := rfl
@[simp] theorem bmgtCtr_log (s : State) (o n : Nat) : (bmgtCtr s o n).log = s.log := rfl
@[simp] theorem bmgtCtr_tick (s : State) (o n : Nat) : (bmgtCtr s o n).tick = s.tick := rfl
@[simp] theorem bmgtCtr_fab (s : State) (o n : Nat) : (bmgtCtr s o n).fab = s.fab := rfl
@[simp] theorem bmgtCtr_ce (s : State) (o n : Nat) : (bmgtCtr s o n).ce = s.ce := rfl
@[simp] theorem bmgtCtr_upd (s : State) (o n : Nat) : (bmgtCtr s o n).upd = s.upd := rfl
@[simp] theorem bmgtCtr_pwr (s : State) (o n : Nat) : (bmgtCtr s o n).pwr = s.pwr := rfl
@[simp] theorem bmgtCtr_bring (s : State) (o n : Nat) : (bmgtCtr s o n).bring = s.bring := rfl
@[simp] theorem bmgtCtr_fuse (s : State) (o n : Nat) : (bmgtCtr s o n).fuse = s.fuse := rfl
@[simp] theorem bmgtCtr_freeN (s : State) (o n : Nat) : (bmgtCtr s o n).freeN = s.freeN := rfl
@[simp] theorem bmgtCtr_reply (s : State) (o n : Nat) : (bmgtCtr s o n).reply = s.reply := rfl
@[simp] theorem bmgtCtr_sent (s : State) (o n : Nat) : (bmgtCtr s o n).sent = s.sent := rfl
@[simp] theorem bmgtCtr_pending (s : State) (o n : Nat) : (bmgtCtr s o n).pending = s.pending := rfl
@[simp] theorem dirBump_pst (s : State) (o n : Nat) : (dirBump s o n).pst = s.pst := rfl
@[simp] theorem dirBump_uptime (s : State) (o n : Nat) : (dirBump s o n).uptime = s.uptime := rfl
@[simp] theorem dirBump_agt (s : State) (o n : Nat) : (dirBump s o n).agt = s.agt := rfl
@[simp] theorem dirBump_partNo (s : State) (o n : Nat) : (dirBump s o n).partNo = s.partNo := rfl
@[simp] theorem dirBump_partOf (s : State) (o n : Nat) : (dirBump s o n).partOf = s.partOf := rfl
@[simp] theorem dirBump_mem (s : State) (o n : Nat) : (dirBump s o n).mem = s.mem := rfl
@[simp] theorem dirBump_poison (s : State) (o n : Nat) : (dirBump s o n).poison = s.poison := rfl
@[simp] theorem dirBump_latent (s : State) (o n : Nat) : (dirBump s o n).latent = s.latent := rfl
@[simp] theorem dirBump_hbmCorr (s : State) (o n : Nat) : (dirBump s o n).hbmCorr = s.hbmCorr := rfl
@[simp] theorem dirBump_cores (s : State) (o n : Nat) : (dirBump s o n).cores = s.cores := rfl
@[simp] theorem dirBump_dies (s : State) (o n : Nat) : (dirBump s o n).dies = s.dies := rfl
@[simp] theorem dirBump_dir (s : State) (o n : Nat) : (dirBump s o n).dir = s.dir := rfl
@[simp] theorem dirBump_links (s : State) (o n : Nat) : (dirBump s o n).links = s.links := rfl
@[simp] theorem dirBump_guests (s : State) (o n : Nat) : (dirBump s o n).guests = s.guests := rfl
@[simp] theorem dirBump_xbar (s : State) (o n : Nat) : (dirBump s o n).xbar = s.xbar := rfl
@[simp] theorem dirBump_msgs (s : State) (o n : Nat) : (dirBump s o n).msgs = s.msgs := rfl
@[simp] theorem dirBump_homeWr (s : State) (o n : Nat) : (dirBump s o n).homeWr = s.homeWr := rfl
@[simp] theorem dirBump_queues (s : State) (o n : Nat) : (dirBump s o n).queues = s.queues := rfl
@[simp] theorem dirBump_hubq (s : State) (o n : Nat) : (dirBump s o n).hubq = s.hubq := rfl
@[simp] theorem dirBump_fences (s : State) (o n : Nat) : (dirBump s o n).fences = s.fences := rfl
@[simp] theorem dirBump_numx (s : State) (o n : Nat) : (dirBump s o n).numx = s.numx := rfl
@[simp] theorem dirBump_xlat (s : State) (o n : Nat) : (dirBump s o n).xlat = s.xlat := rfl
@[simp] theorem dirBump_host (s : State) (o n : Nat) : (dirBump s o n).host = s.host := rfl
@[simp] theorem dirBump_pages (s : State) (o n : Nat) : (dirBump s o n).pages = s.pages := rfl
@[simp] theorem dirBump_log (s : State) (o n : Nat) : (dirBump s o n).log = s.log := rfl
@[simp] theorem dirBump_tick (s : State) (o n : Nat) : (dirBump s o n).tick = s.tick := rfl
@[simp] theorem dirBump_fab (s : State) (o n : Nat) : (dirBump s o n).fab = s.fab := rfl
@[simp] theorem dirBump_ce (s : State) (o n : Nat) : (dirBump s o n).ce = s.ce := rfl
@[simp] theorem dirBump_upd (s : State) (o n : Nat) : (dirBump s o n).upd = s.upd := rfl
@[simp] theorem dirBump_pwr (s : State) (o n : Nat) : (dirBump s o n).pwr = s.pwr := rfl
@[simp] theorem dirBump_bring (s : State) (o n : Nat) : (dirBump s o n).bring = s.bring := rfl
@[simp] theorem dirBump_fuse (s : State) (o n : Nat) : (dirBump s o n).fuse = s.fuse := rfl
@[simp] theorem dirBump_bit (s : State) (o n : Nat) : (dirBump s o n).bit = s.bit := rfl
@[simp] theorem dirBump_freeN (s : State) (o n : Nat) : (dirBump s o n).freeN = s.freeN := rfl
@[simp] theorem dirBump_reply (s : State) (o n : Nat) : (dirBump s o n).reply = s.reply := rfl
@[simp] theorem dirBump_sent (s : State) (o n : Nat) : (dirBump s o n).sent = s.sent := rfl
@[simp] theorem dirBump_pending (s : State) (o n : Nat) : (dirBump s o n).pending = s.pending := rfl
@[simp] theorem fabCtr_pst (s : State) (o n : Nat) : (fabCtr s o n).pst = s.pst := rfl
@[simp] theorem fabCtr_uptime (s : State) (o n : Nat) : (fabCtr s o n).uptime = s.uptime := rfl
@[simp] theorem fabCtr_agt (s : State) (o n : Nat) : (fabCtr s o n).agt = s.agt := rfl
@[simp] theorem fabCtr_partNo (s : State) (o n : Nat) : (fabCtr s o n).partNo = s.partNo := rfl
@[simp] theorem fabCtr_partOf (s : State) (o n : Nat) : (fabCtr s o n).partOf = s.partOf := rfl
@[simp] theorem fabCtr_mem (s : State) (o n : Nat) : (fabCtr s o n).mem = s.mem := rfl
@[simp] theorem fabCtr_poison (s : State) (o n : Nat) : (fabCtr s o n).poison = s.poison := rfl
@[simp] theorem fabCtr_latent (s : State) (o n : Nat) : (fabCtr s o n).latent = s.latent := rfl
@[simp] theorem fabCtr_hbmCorr (s : State) (o n : Nat) : (fabCtr s o n).hbmCorr = s.hbmCorr := rfl
@[simp] theorem fabCtr_cores (s : State) (o n : Nat) : (fabCtr s o n).cores = s.cores := rfl
@[simp] theorem fabCtr_dies (s : State) (o n : Nat) : (fabCtr s o n).dies = s.dies := rfl
@[simp] theorem fabCtr_dir (s : State) (o n : Nat) : (fabCtr s o n).dir = s.dir := rfl
@[simp] theorem fabCtr_dirCtr (s : State) (o n : Nat) : (fabCtr s o n).dirCtr = s.dirCtr := rfl
@[simp] theorem fabCtr_links (s : State) (o n : Nat) : (fabCtr s o n).links = s.links := rfl
@[simp] theorem fabCtr_guests (s : State) (o n : Nat) : (fabCtr s o n).guests = s.guests := rfl
@[simp] theorem fabCtr_xbar (s : State) (o n : Nat) : (fabCtr s o n).xbar = s.xbar := rfl
@[simp] theorem fabCtr_msgs (s : State) (o n : Nat) : (fabCtr s o n).msgs = s.msgs := rfl
@[simp] theorem fabCtr_homeWr (s : State) (o n : Nat) : (fabCtr s o n).homeWr = s.homeWr := rfl
@[simp] theorem fabCtr_queues (s : State) (o n : Nat) : (fabCtr s o n).queues = s.queues := rfl
@[simp] theorem fabCtr_hubq (s : State) (o n : Nat) : (fabCtr s o n).hubq = s.hubq := rfl
@[simp] theorem fabCtr_fences (s : State) (o n : Nat) : (fabCtr s o n).fences = s.fences := rfl
@[simp] theorem fabCtr_numx (s : State) (o n : Nat) : (fabCtr s o n).numx = s.numx := rfl
@[simp] theorem fabCtr_xlat (s : State) (o n : Nat) : (fabCtr s o n).xlat = s.xlat := rfl
@[simp] theorem fabCtr_host (s : State) (o n : Nat) : (fabCtr s o n).host = s.host := rfl
@[simp] theorem fabCtr_pages (s : State) (o n : Nat) : (fabCtr s o n).pages = s.pages := rfl
@[simp] theorem fabCtr_log (s : State) (o n : Nat) : (fabCtr s o n).log = s.log := rfl
@[simp] theorem fabCtr_tick (s : State) (o n : Nat) : (fabCtr s o n).tick = s.tick := rfl
@[simp] theorem fabCtr_ce (s : State) (o n : Nat) : (fabCtr s o n).ce = s.ce := rfl
@[simp] theorem fabCtr_upd (s : State) (o n : Nat) : (fabCtr s o n).upd = s.upd := rfl
@[simp] theorem fabCtr_pwr (s : State) (o n : Nat) : (fabCtr s o n).pwr = s.pwr := rfl
@[simp] theorem fabCtr_bring (s : State) (o n : Nat) : (fabCtr s o n).bring = s.bring := rfl
@[simp] theorem fabCtr_fuse (s : State) (o n : Nat) : (fabCtr s o n).fuse = s.fuse := rfl
@[simp] theorem fabCtr_bit (s : State) (o n : Nat) : (fabCtr s o n).bit = s.bit := rfl
@[simp] theorem fabCtr_freeN (s : State) (o n : Nat) : (fabCtr s o n).freeN = s.freeN := rfl
@[simp] theorem fabCtr_reply (s : State) (o n : Nat) : (fabCtr s o n).reply = s.reply := rfl
@[simp] theorem fabCtr_sent (s : State) (o n : Nat) : (fabCtr s o n).sent = s.sent := rfl
@[simp] theorem fabCtr_pending (s : State) (o n : Nat) : (fabCtr s o n).pending = s.pending := rfl
@[simp] theorem ceCtr_pst (s : State) (o n : Nat) : (ceCtr s o n).pst = s.pst := rfl
@[simp] theorem ceCtr_uptime (s : State) (o n : Nat) : (ceCtr s o n).uptime = s.uptime := rfl
@[simp] theorem ceCtr_agt (s : State) (o n : Nat) : (ceCtr s o n).agt = s.agt := rfl
@[simp] theorem ceCtr_partNo (s : State) (o n : Nat) : (ceCtr s o n).partNo = s.partNo := rfl
@[simp] theorem ceCtr_partOf (s : State) (o n : Nat) : (ceCtr s o n).partOf = s.partOf := rfl
@[simp] theorem ceCtr_mem (s : State) (o n : Nat) : (ceCtr s o n).mem = s.mem := rfl
@[simp] theorem ceCtr_poison (s : State) (o n : Nat) : (ceCtr s o n).poison = s.poison := rfl
@[simp] theorem ceCtr_latent (s : State) (o n : Nat) : (ceCtr s o n).latent = s.latent := rfl
@[simp] theorem ceCtr_hbmCorr (s : State) (o n : Nat) : (ceCtr s o n).hbmCorr = s.hbmCorr := rfl
@[simp] theorem ceCtr_cores (s : State) (o n : Nat) : (ceCtr s o n).cores = s.cores := rfl
@[simp] theorem ceCtr_dies (s : State) (o n : Nat) : (ceCtr s o n).dies = s.dies := rfl
@[simp] theorem ceCtr_dir (s : State) (o n : Nat) : (ceCtr s o n).dir = s.dir := rfl
@[simp] theorem ceCtr_dirCtr (s : State) (o n : Nat) : (ceCtr s o n).dirCtr = s.dirCtr := rfl
@[simp] theorem ceCtr_links (s : State) (o n : Nat) : (ceCtr s o n).links = s.links := rfl
@[simp] theorem ceCtr_guests (s : State) (o n : Nat) : (ceCtr s o n).guests = s.guests := rfl
@[simp] theorem ceCtr_xbar (s : State) (o n : Nat) : (ceCtr s o n).xbar = s.xbar := rfl
@[simp] theorem ceCtr_msgs (s : State) (o n : Nat) : (ceCtr s o n).msgs = s.msgs := rfl
@[simp] theorem ceCtr_homeWr (s : State) (o n : Nat) : (ceCtr s o n).homeWr = s.homeWr := rfl
@[simp] theorem ceCtr_queues (s : State) (o n : Nat) : (ceCtr s o n).queues = s.queues := rfl
@[simp] theorem ceCtr_hubq (s : State) (o n : Nat) : (ceCtr s o n).hubq = s.hubq := rfl
@[simp] theorem ceCtr_fences (s : State) (o n : Nat) : (ceCtr s o n).fences = s.fences := rfl
@[simp] theorem ceCtr_numx (s : State) (o n : Nat) : (ceCtr s o n).numx = s.numx := rfl
@[simp] theorem ceCtr_xlat (s : State) (o n : Nat) : (ceCtr s o n).xlat = s.xlat := rfl
@[simp] theorem ceCtr_host (s : State) (o n : Nat) : (ceCtr s o n).host = s.host := rfl
@[simp] theorem ceCtr_pages (s : State) (o n : Nat) : (ceCtr s o n).pages = s.pages := rfl
@[simp] theorem ceCtr_log (s : State) (o n : Nat) : (ceCtr s o n).log = s.log := rfl
@[simp] theorem ceCtr_tick (s : State) (o n : Nat) : (ceCtr s o n).tick = s.tick := rfl
@[simp] theorem ceCtr_fab (s : State) (o n : Nat) : (ceCtr s o n).fab = s.fab := rfl
@[simp] theorem ceCtr_upd (s : State) (o n : Nat) : (ceCtr s o n).upd = s.upd := rfl
@[simp] theorem ceCtr_pwr (s : State) (o n : Nat) : (ceCtr s o n).pwr = s.pwr := rfl
@[simp] theorem ceCtr_bring (s : State) (o n : Nat) : (ceCtr s o n).bring = s.bring := rfl
@[simp] theorem ceCtr_fuse (s : State) (o n : Nat) : (ceCtr s o n).fuse = s.fuse := rfl
@[simp] theorem ceCtr_bit (s : State) (o n : Nat) : (ceCtr s o n).bit = s.bit := rfl
@[simp] theorem ceCtr_freeN (s : State) (o n : Nat) : (ceCtr s o n).freeN = s.freeN := rfl
@[simp] theorem ceCtr_reply (s : State) (o n : Nat) : (ceCtr s o n).reply = s.reply := rfl
@[simp] theorem ceCtr_sent (s : State) (o n : Nat) : (ceCtr s o n).sent = s.sent := rfl
@[simp] theorem ceCtr_pending (s : State) (o n : Nat) : (ceCtr s o n).pending = s.pending := rfl
@[simp] theorem bringCtr_pst (s : State) (o n : Nat) : (bringCtr s o n).pst = s.pst := rfl
@[simp] theorem bringCtr_uptime (s : State) (o n : Nat) : (bringCtr s o n).uptime = s.uptime := rfl
@[simp] theorem bringCtr_agt (s : State) (o n : Nat) : (bringCtr s o n).agt = s.agt := rfl
@[simp] theorem bringCtr_partNo (s : State) (o n : Nat) : (bringCtr s o n).partNo = s.partNo := rfl
@[simp] theorem bringCtr_partOf (s : State) (o n : Nat) : (bringCtr s o n).partOf = s.partOf := rfl
@[simp] theorem bringCtr_mem (s : State) (o n : Nat) : (bringCtr s o n).mem = s.mem := rfl
@[simp] theorem bringCtr_poison (s : State) (o n : Nat) : (bringCtr s o n).poison = s.poison := rfl
@[simp] theorem bringCtr_latent (s : State) (o n : Nat) : (bringCtr s o n).latent = s.latent := rfl
@[simp] theorem bringCtr_hbmCorr (s : State) (o n : Nat) : (bringCtr s o n).hbmCorr = s.hbmCorr := rfl
@[simp] theorem bringCtr_cores (s : State) (o n : Nat) : (bringCtr s o n).cores = s.cores := rfl
@[simp] theorem bringCtr_dies (s : State) (o n : Nat) : (bringCtr s o n).dies = s.dies := rfl
@[simp] theorem bringCtr_dir (s : State) (o n : Nat) : (bringCtr s o n).dir = s.dir := rfl
@[simp] theorem bringCtr_dirCtr (s : State) (o n : Nat) : (bringCtr s o n).dirCtr = s.dirCtr := rfl
@[simp] theorem bringCtr_links (s : State) (o n : Nat) : (bringCtr s o n).links = s.links := rfl
@[simp] theorem bringCtr_guests (s : State) (o n : Nat) : (bringCtr s o n).guests = s.guests := rfl
@[simp] theorem bringCtr_xbar (s : State) (o n : Nat) : (bringCtr s o n).xbar = s.xbar := rfl
@[simp] theorem bringCtr_msgs (s : State) (o n : Nat) : (bringCtr s o n).msgs = s.msgs := rfl
@[simp] theorem bringCtr_homeWr (s : State) (o n : Nat) : (bringCtr s o n).homeWr = s.homeWr := rfl
@[simp] theorem bringCtr_queues (s : State) (o n : Nat) : (bringCtr s o n).queues = s.queues := rfl
@[simp] theorem bringCtr_hubq (s : State) (o n : Nat) : (bringCtr s o n).hubq = s.hubq := rfl
@[simp] theorem bringCtr_fences (s : State) (o n : Nat) : (bringCtr s o n).fences = s.fences := rfl
@[simp] theorem bringCtr_numx (s : State) (o n : Nat) : (bringCtr s o n).numx = s.numx := rfl
@[simp] theorem bringCtr_xlat (s : State) (o n : Nat) : (bringCtr s o n).xlat = s.xlat := rfl
@[simp] theorem bringCtr_host (s : State) (o n : Nat) : (bringCtr s o n).host = s.host := rfl
@[simp] theorem bringCtr_pages (s : State) (o n : Nat) : (bringCtr s o n).pages = s.pages := rfl
@[simp] theorem bringCtr_log (s : State) (o n : Nat) : (bringCtr s o n).log = s.log := rfl
@[simp] theorem bringCtr_tick (s : State) (o n : Nat) : (bringCtr s o n).tick = s.tick := rfl
@[simp] theorem bringCtr_fab (s : State) (o n : Nat) : (bringCtr s o n).fab = s.fab := rfl
@[simp] theorem bringCtr_ce (s : State) (o n : Nat) : (bringCtr s o n).ce = s.ce := rfl
@[simp] theorem bringCtr_upd (s : State) (o n : Nat) : (bringCtr s o n).upd = s.upd := rfl
@[simp] theorem bringCtr_pwr (s : State) (o n : Nat) : (bringCtr s o n).pwr = s.pwr := rfl
@[simp] theorem bringCtr_fuse (s : State) (o n : Nat) : (bringCtr s o n).fuse = s.fuse := rfl
@[simp] theorem bringCtr_bit (s : State) (o n : Nat) : (bringCtr s o n).bit = s.bit := rfl
@[simp] theorem bringCtr_freeN (s : State) (o n : Nat) : (bringCtr s o n).freeN = s.freeN := rfl
@[simp] theorem bringCtr_reply (s : State) (o n : Nat) : (bringCtr s o n).reply = s.reply := rfl
@[simp] theorem bringCtr_sent (s : State) (o n : Nat) : (bringCtr s o n).sent = s.sent := rfl
@[simp] theorem bringCtr_pending (s : State) (o n : Nat) : (bringCtr s o n).pending = s.pending := rfl
@[simp] theorem updCtr_pst (s : State) (o n : Nat) : (updCtr s o n).pst = s.pst := rfl
@[simp] theorem updCtr_uptime (s : State) (o n : Nat) : (updCtr s o n).uptime = s.uptime := rfl
@[simp] theorem updCtr_agt (s : State) (o n : Nat) : (updCtr s o n).agt = s.agt := rfl
@[simp] theorem updCtr_partNo (s : State) (o n : Nat) : (updCtr s o n).partNo = s.partNo := rfl
@[simp] theorem updCtr_partOf (s : State) (o n : Nat) : (updCtr s o n).partOf = s.partOf := rfl
@[simp] theorem updCtr_mem (s : State) (o n : Nat) : (updCtr s o n).mem = s.mem := rfl
@[simp] theorem updCtr_poison (s : State) (o n : Nat) : (updCtr s o n).poison = s.poison := rfl
@[simp] theorem updCtr_latent (s : State) (o n : Nat) : (updCtr s o n).latent = s.latent := rfl
@[simp] theorem updCtr_hbmCorr (s : State) (o n : Nat) : (updCtr s o n).hbmCorr = s.hbmCorr := rfl
@[simp] theorem updCtr_cores (s : State) (o n : Nat) : (updCtr s o n).cores = s.cores := rfl
@[simp] theorem updCtr_dies (s : State) (o n : Nat) : (updCtr s o n).dies = s.dies := rfl
@[simp] theorem updCtr_dir (s : State) (o n : Nat) : (updCtr s o n).dir = s.dir := rfl
@[simp] theorem updCtr_dirCtr (s : State) (o n : Nat) : (updCtr s o n).dirCtr = s.dirCtr := rfl
@[simp] theorem updCtr_links (s : State) (o n : Nat) : (updCtr s o n).links = s.links := rfl
@[simp] theorem updCtr_guests (s : State) (o n : Nat) : (updCtr s o n).guests = s.guests := rfl
@[simp] theorem updCtr_xbar (s : State) (o n : Nat) : (updCtr s o n).xbar = s.xbar := rfl
@[simp] theorem updCtr_msgs (s : State) (o n : Nat) : (updCtr s o n).msgs = s.msgs := rfl
@[simp] theorem updCtr_homeWr (s : State) (o n : Nat) : (updCtr s o n).homeWr = s.homeWr := rfl
@[simp] theorem updCtr_queues (s : State) (o n : Nat) : (updCtr s o n).queues = s.queues := rfl
@[simp] theorem updCtr_hubq (s : State) (o n : Nat) : (updCtr s o n).hubq = s.hubq := rfl
@[simp] theorem updCtr_fences (s : State) (o n : Nat) : (updCtr s o n).fences = s.fences := rfl
@[simp] theorem updCtr_numx (s : State) (o n : Nat) : (updCtr s o n).numx = s.numx := rfl
@[simp] theorem updCtr_xlat (s : State) (o n : Nat) : (updCtr s o n).xlat = s.xlat := rfl
@[simp] theorem updCtr_host (s : State) (o n : Nat) : (updCtr s o n).host = s.host := rfl
@[simp] theorem updCtr_pages (s : State) (o n : Nat) : (updCtr s o n).pages = s.pages := rfl
@[simp] theorem updCtr_log (s : State) (o n : Nat) : (updCtr s o n).log = s.log := rfl
@[simp] theorem updCtr_tick (s : State) (o n : Nat) : (updCtr s o n).tick = s.tick := rfl
@[simp] theorem updCtr_fab (s : State) (o n : Nat) : (updCtr s o n).fab = s.fab := rfl
@[simp] theorem updCtr_ce (s : State) (o n : Nat) : (updCtr s o n).ce = s.ce := rfl
@[simp] theorem updCtr_pwr (s : State) (o n : Nat) : (updCtr s o n).pwr = s.pwr := rfl
@[simp] theorem updCtr_bring (s : State) (o n : Nat) : (updCtr s o n).bring = s.bring := rfl
@[simp] theorem updCtr_fuse (s : State) (o n : Nat) : (updCtr s o n).fuse = s.fuse := rfl
@[simp] theorem updCtr_bit (s : State) (o n : Nat) : (updCtr s o n).bit = s.bit := rfl
@[simp] theorem updCtr_freeN (s : State) (o n : Nat) : (updCtr s o n).freeN = s.freeN := rfl
@[simp] theorem updCtr_reply (s : State) (o n : Nat) : (updCtr s o n).reply = s.reply := rfl
@[simp] theorem updCtr_sent (s : State) (o n : Nat) : (updCtr s o n).sent = s.sent := rfl
@[simp] theorem updCtr_pending (s : State) (o n : Nat) : (updCtr s o n).pending = s.pending := rfl

end Sys2Proof.Machine
end

