-- ==== Sys2Proof/Laws/Ve.lean ====
section
/-!
SUPPORT. Laws of the vector engine: lanes and mask bits of a written register, what an issued instruction leaves of the
state, the SRAM sweep of a quiet state.
-/
namespace Sys2Proof.Machine

/-! ### Lanes, masks and registers -/

theorem packElems_lt (w : Nat) (l : List Nat) : packElems w l < 2 ^ (w * l.length) := by
  induction l with
  | nil => simp [packElems]
  | cons e es ih =>
    have h1 : e % 2 ^ w < 2 ^ w := Nat.mod_lt _ (by positivity)
    have h2 : 2 ^ (w * (e :: es).length) = 2 ^ w * 2 ^ (w * es.length) := by
      rw [List.length_cons, Nat.mul_add, Nat.mul_one, Nat.pow_add, Nat.mul_comm]
    rw [packElems, h2]
    calc e % 2 ^ w + 2 ^ w * packElems w es < 2 ^ w + 2 ^ w * packElems w es := by omega
      _ = 2 ^ w * (packElems w es + 1) := by ring
      _ ≤ 2 ^ w * 2 ^ (w * es.length) := Nat.mul_le_mul_left _ ih

theorem packElems_get (w : Nat) (l : List Nat) (n : Nat) :
    (packElems w l / 2 ^ (w * n)) % 2 ^ w = l.getD n 0 % 2 ^ w := by
  induction l generalizing n with
  | nil => simp [packElems]
  | cons e es ih =>
    cases n with
    | zero =>
      simp only [Nat.mul_zero, Nat.pow_zero, Nat.div_one, List.getD_cons_zero, packElems]
      rw [Nat.add_mul_mod_self_left, Nat.mod_mod]
    | succ n =>
      have h : 2 ^ (w * (n + 1)) = 2 ^ w * 2 ^ (w * n) := by rw [Nat.mul_add, Nat.mul_one, Nat.pow_add, Nat.mul_comm]
      rw [List.getD_cons_succ, ← ih n, packElems, h, ← Nat.div_div_eq_div_mul,
        Nat.add_mul_div_left _ _ (by positivity), Nat.div_eq_of_lt (Nat.mod_lt _ (by positivity)), Nat.zero_add]

theorem getD_upTo_map {α : Type} (f : Nat → α) (d : α) (n l : Nat) (h : l < n) : ((upTo n).map f).getD l d = f l := by
  simp [upTo, List.getD, h]

theorem lane_mkV (f : Nat → Nat) (l : Nat) (h : l < 256) : lane (mkV f) l = f l % 2 ^ 32 := by
  have hl := packElems_lt 32 ((upTo 256).map f)
  have hb : packElems 32 ((upTo 256).map f) < 2 ^ 8192 := by simpa [upTo] using hl
  unfold lane mkV bits
  rw [BitVec.toNat_ofNat, Nat.mod_eq_of_lt hb, Nat.shiftRight_eq_div_pow,
    show 32 * l + 31 + 1 - 32 * l = 32 by omega, packElems_get, getD_upTo_map f 0 256 l h]

theorem lane_lt (r : BitVec 8192) (l : Nat) : lane r l < 2 ^ 32 := by
  unfold lane bits
  rw [show 32 * l + 31 + 1 - 32 * l = 32 by omega]
  exact Nat.mod_lt _ (by positivity)

theorem mkM_getLsbD (f : Nat → Bool) (l : Nat) (h : l < 256) : (mkM f).getLsbD l = f l := by
  have hb : packElems 1 ((upTo 256).map (fun l => b2n (f l))) < 2 ^ 256 := by
    simpa [upTo] using packElems_lt 1 ((upTo 256).map (fun l => b2n (f l)))
  have hg := packElems_get 1 ((upTo 256).map (fun l => b2n (f l))) l
  rw [getD_upTo_map _ 0 256 l h] at hg
  unfold mkM
  rw [BitVec.getLsbD_ofNat, Nat.testBit_eq_decide_div_mod_eq]
  simp only [Nat.one_mul, Nat.pow_one] at hg
  rw [hg]
  cases f l <;> simp [b2n, h]

@[simp] theorem vreg_setV (x : Ve) (n : Nat) (r : BitVec 8192) : (x.setV n r).vreg n = r := by simp [Ve.vreg, Ve.setV]
@[simp] theorem vreg_setV_ne (x : Ve) (n k : Nat) (r : BitVec 8192) (h : k ≠ n) : (x.setV n r).vreg k = x.vreg k := by
  simp [Ve.vreg, Ve.setV, h]
@[simp] theorem mreg_setM (x : Ve) (n : Nat) (r : BitVec 256) : (x.setM n r).mreg n = r := by simp [Ve.mreg, Ve.setM]
@[simp] theorem mreg_setM_ne (x : Ve) (n k : Nat) (r : BitVec 256) (h : k ≠ n) : (x.setM n r).mreg k = x.mreg k := by
  simp [Ve.mreg, Ve.setM, h]
theorem sreg_setS (x : Ve) (n k : Nat) (r : W64) :
    (x.setS n r).sreg k = if k = n then (if n = 0 then 0 else r) else x.sreg k := by
  unfold Ve.sreg Ve.setS
  by_cases hn : n = 0
  · subst hn; by_cases hk : k = 0 <;> simp [hk]
  · by_cases hk : k = n
    · subst hk; simp [hn]
    · by_cases h0 : k = 0
      · simp [h0, Ne.symm hn]
      · simp [hn, hk, h0]
@[simp] theorem setV_mask (x : Ve) (n : Nat) (r : BitVec 8192) : (x.setV n r).mask = x.mask := rfl
@[simp] theorem setV_s (x : Ve) (n : Nat) (r : BitVec 8192) : (x.setV n r).s = x.s := rfl
@[simp] theorem setS_v (x : Ve) (n : Nat) (r : W64) : (x.setS n r).v = x.v := by unfold Ve.setS; split <;> rfl
@[simp] theorem setS_mask (x : Ve) (n : Nat) (r : W64) : (x.setS n r).mask = x.mask := by unfold Ve.setS; split <;> rfl
@[simp] theorem setM_v (x : Ve) (n : Nat) (r : BitVec 256) : (x.setM n r).v = x.v := rfl
@[simp] theorem setM_s (x : Ve) (n : Nat) (r : BitVec 256) : (x.setM n r).s = x.s := rfl

/-- Everything of a vector engine but its registers, VSTAT and event counts is the same. -/
structure VeSame (x y : Ve) : Prop where
  vl : y.vl = x.vl
  pc : y.pc = x.pc
  st : y.st = x.st
  queue : y.queue = x.queue
  cmd : y.cmd = x.cmd
  slotTaken : y.slotTaken = x.slotTaken
  issued : y.issued = x.issued
  last : y.last = x.last
  waiting : y.waiting = x.waiting
  lastQ : y.lastQ = x.lastQ

theorem VeSame.rfl {x : Ve} : VeSame x x := by constructor <;> first | trivial | exact Eq.refl _
theorem VeSame.trans {x y z : Ve} (a : VeSame x y) (b : VeSame y z) : VeSame x z := by
  constructor
  · rw [b.vl, a.vl]
  · rw [b.pc, a.pc]
  · rw [b.st, a.st]
  · rw [b.queue, a.queue]
  · rw [b.cmd, a.cmd]
  · rw [b.slotTaken, a.slotTaken]
  · rw [b.issued, a.issued]
  · rw [b.last, a.last]
  · rw [b.waiting, a.waiting]
  · rw [b.lastQ, a.lastQ]
theorem same_setV (x : Ve) (n : Nat) (r : BitVec 8192) : VeSame x (x.setV n r) := by constructor <;> exact Eq.refl _
theorem same_setM (x : Ve) (n : Nat) (r : BitVec 256) : VeSame x (x.setM n r) := by constructor <;> exact Eq.refl _
theorem same_setS (x : Ve) (n : Nat) (r : W64) : VeSame x (x.setS n r) := by
  unfold Ve.setS; split
  · exact .rfl
  · constructor <;> exact Eq.refl _
theorem same_flag (x : Ve) (b : Nat) (on : Bool) : VeSame x (x.flag b on) := by
  unfold Ve.flag; split
  · constructor <;> exact Eq.refl _
  · exact .rfl
theorem same_events (x : Ve) (a b : Nat) : VeSame x (x.events a b) := by
  unfold Ve.events
  refine .trans ?_ (same_flag _ _ _)
  refine .trans ?_ (same_flag _ _ _)
  constructor <;> exact Eq.refl _
theorem same_writeLanes (x : Ve) (j : VI) (f : Nat → Nat) : VeSame x (writeLanes x j f) := same_setV ..
theorem same_writeMaskBits (x : Ve) (j : VI) (f : Nat → Bool) : VeSame x (writeMaskBits x j f) := same_setM ..
theorem same_setWide (x : Ve) (n : Nat) (f : Nat → Nat) : VeSame x (setWide x n f) := (same_setV ..).trans (same_setV ..)

@[simp] theorem flag_v (x : Ve) (b : Nat) (on : Bool) : (x.flag b on).v = x.v := by unfold Ve.flag; split <;> rfl
@[simp] theorem flag_s (x : Ve) (b : Nat) (on : Bool) : (x.flag b on).s = x.s := by unfold Ve.flag; split <;> rfl
@[simp] theorem flag_mask (x : Ve) (b : Nat) (on : Bool) : (x.flag b on).mask = x.mask := by unfold Ve.flag; split <;> rfl
@[simp] theorem flag_ovf (x : Ve) (b : Nat) (on : Bool) : (x.flag b on).ovf = x.ovf := by unfold Ve.flag; split <;> rfl
@[simp] theorem flag_nanIn (x : Ve) (b : Nat) (on : Bool) : (x.flag b on).nanIn = x.nanIn := by
  unfold Ve.flag; split <;> rfl
@[simp] theorem flag_stat (x : Ve) (b : Nat) (on : Bool) : (x.flag b on).stat = x.stat ||| statBit b on := by
  unfold Ve.flag statBit; split <;> simp
@[simp] theorem flag_vreg (x : Ve) (b n : Nat) (on : Bool) : (x.flag b on).vreg n = x.vreg n := by simp [Ve.vreg]
@[simp] theorem flag_sreg (x : Ve) (b n : Nat) (on : Bool) : (x.flag b on).sreg n = x.sreg n := by simp [Ve.sreg]
@[simp] theorem flag_mreg (x : Ve) (b n : Nat) (on : Bool) : (x.flag b on).mreg n = x.mreg n := by simp [Ve.mreg]
@[simp] theorem events_v (x : Ve) (a b : Nat) : (x.events a b).v = x.v := by simp [Ve.events]
@[simp] theorem events_s (x : Ve) (a b : Nat) : (x.events a b).s = x.s := by simp [Ve.events]
@[simp] theorem events_mask (x : Ve) (a b : Nat) : (x.events a b).mask = x.mask := by simp [Ve.events]
@[simp] theorem events_ovf (x : Ve) (a b : Nat) : (x.events a b).ovf = x.ovf + a := by simp [Ve.events]
@[simp] theorem events_nanIn (x : Ve) (a b : Nat) : (x.events a b).nanIn = x.nanIn + b := by simp [Ve.events]
@[simp] theorem events_stat (x : Ve) (a b : Nat) : (x.events a b).stat = x.stat ||| evBits a b := by
  simp only [Ve.events, flag_stat, evBits, BitVec.or_assoc]
  congr 2
  · unfold statBit vsOvf; by_cases h : a = 0 <;> simp [h]
  · unfold statBit vsNanIn; by_cases h : b = 0 <;> simp [h]
@[simp] theorem events_vreg (x : Ve) (a b n : Nat) : (x.events a b).vreg n = x.vreg n := by simp [Ve.vreg]
@[simp] theorem events_sreg (x : Ve) (a b n : Nat) : (x.events a b).sreg n = x.sreg n := by simp [Ve.sreg]
@[simp] theorem events_mreg (x : Ve) (a b n : Nat) : (x.events a b).mreg n = x.mreg n := by simp [Ve.mreg]
@[simp] theorem setV_stat (x : Ve) (n : Nat) (r : BitVec 8192) : (x.setV n r).stat = x.stat := rfl
@[simp] theorem setV_ovf (x : Ve) (n : Nat) (r : BitVec 8192) : (x.setV n r).ovf = x.ovf := rfl
@[simp] theorem setV_nanIn (x : Ve) (n : Nat) (r : BitVec 8192) : (x.setV n r).nanIn = x.nanIn := rfl
@[simp] theorem setM_stat (x : Ve) (n : Nat) (r : BitVec 256) : (x.setM n r).stat = x.stat := rfl
@[simp] theorem setM_ovf (x : Ve) (n : Nat) (r : BitVec 256) : (x.setM n r).ovf = x.ovf := rfl
@[simp] theorem setM_nanIn (x : Ve) (n : Nat) (r : BitVec 256) : (x.setM n r).nanIn = x.nanIn := rfl
@[simp] theorem setS_stat (x : Ve) (n : Nat) (r : W64) : (x.setS n r).stat = x.stat := by unfold Ve.setS; split <;> rfl
@[simp] theorem setS_ovf (x : Ve) (n : Nat) (r : W64) : (x.setS n r).ovf = x.ovf := by unfold Ve.setS; split <;> rfl
@[simp] theorem setS_nanIn (x : Ve) (n : Nat) (r : W64) : (x.setS n r).nanIn = x.nanIn := by unfold Ve.setS; split <;> rfl
@[simp] theorem evBits_zero : evBits 0 0 = 0 := rfl

/-- Lane `l` of V[D] after `writeLanes`. -/
theorem lane_writeLanes (x : Ve) (j : VI) (f : Nat → Nat) (l : Nat) (h : l < 256) :
    lane ((writeLanes x j f).vreg j.d) l
      = if active x j l then f l % 2 ^ 32
        else if decide (l < x.vl) && j.zm then 0 else lane (x.vreg j.d) l := by
  unfold writeLanes
  rw [vreg_setV, lane_mkV _ _ h]
  split
  · rfl
  · split
    · simp
    · exact Nat.mod_eq_of_lt (lane_lt _ _)

/-- Bit `l` of MK[D] after `writeMaskBits`. -/
theorem bit_writeMaskBits (x : Ve) (j : VI) (f : Nat → Bool) (l : Nat) (h : l < 256) :
    ((writeMaskBits x j f).mreg j.d).getLsbD l
      = if active x j l then f l
        else if decide (l < x.vl) && j.zm then false else (x.mreg j.d).getLsbD l := by
  unfold writeMaskBits
  rw [mreg_setM, mkM_getLsbD _ _ h]

/-! ### The sweep of a quiet state -/

theorem sramSweep_quiet {s : State} (h : SramQuiet s) : sramSweep s = s := by
  unfold sramSweep
  generalize s.cores = l
  induction l with
  | nil => rfl
  | cons c l ih => simp only [List.foldl_cons, h c.1, Bool.false_eq_true, if_false]; exact ih

theorem answers_of {c : Instr} {s u : State} (h : exec c s = .next (sramSweep u)) : Answers c s u :=
  ⟨h, fun q => by rw [h, sramSweep_quiet q]⟩

/-! ### The issue of an instruction -/

@[simp] theorem coreCtr_zero (s : State) (p o : Nat) : coreCtr s p o 0 = s := by simp [coreCtr]

/-- Counting changes the counters of one core. -/
theorem coreCtr_withVe (s : State) (p : Nat) (y : Ve) (k : Ctrs) (o n : Nat) :
    coreCtr (withVe s p y k) p o n = withVe s p y (ctrAdd k o n) := by
  unfold coreCtr withVe
  by_cases h : n = 0
  · simp [h, ctrAdd]
  · simp [h]

theorem withVe_setVe (s : State) (p : Nat) (y z : Ve) (k : Ctrs) : setVe (withVe s p y k) p z = withVe s p z k := by
  simp [setVe, withVe]

@[simp] theorem withVe_ve (s : State) (p : Nat) (y : Ve) (k : Ctrs) : ((withVe s p y k).core p).ve = y := by
  simp [withVe]

/-- What a register-only instruction leaves: the new vector engine one word on, and new counters. -/
theorem veApply_ok (s : State) (p : Nat) (w : VeWaits) (y : Ve) :
    ∃ k, veApply p w (.ok (setVe s p y))
      = withVe s p { y with st := .running, pc := y.pc + 8, issued := y.issued + 1 } k := by
  have h0 : setVe s p y = withVe s p y (s.core p).ctr := rfl
  refine ⟨ctrAdd (ctrAdd (ctrAdd (ctrAdd (ctrAdd (ctrAdd (s.core p).ctr 0x148 1) 0x150 (1 + w.lagg + w.mem + w.dep + 0))
    0x158 w.lagg) 0x160 0) 0x168 w.mem) 0x170 w.dep, ?_⟩
  simp only [veApply, veCount, vePc, h0, coreCtr_withVe, withVe_setVe, withVe_ve]
  rfl

/-- An instruction that issues answers what its effect makes of the state. -/
theorem veRun_issues {s : State} {p : Fin 256} {cls fn word : Nat} {w : VeWaits} {own : VI → Bool} {body : VeBody}
    (h : VeIssues s p cls fn word) (ho : own (decodeVI word) = true) :
    veRun p w own body s = sramSweep (veApply p w (body s p (decodeVI word))) := by
  unfold veRun
  simp [h.ready, h.fetched, h.legal, ho, h.sound]

theorem isVI_of {s : State} {p cls fn word : Nat} (h : VeIssues s p cls fn word) : isVI cls fn (decodeVI word) = true := by
  simp [isVI, h.cls, h.fn]

theorem veNext_of {x y : Ve} (h : VeSame x y) :
    VeNext x { y with st := .running, pc := y.pc + 8, issued := y.issued + 1 } := by
  constructor
  · simp [h.pc]
  · simp [h.issued]
  · rfl
  · exact h.vl
  · exact h.cmd
  · exact h.queue
  · exact h.slotTaken
  · exact h.waiting

/-- A register-only instruction that issues. -/
theorem veReg_answers {c : Instr} {s : State} {p : Fin 256} {cls fn word : Nat} {w : VeWaits} {own : VI → Bool}
    {g : Ve → VI → Ve} (he : exec c s = .next (veRun p w own (veReg g) s)) (h : VeIssues s p cls fn word)
    (ho : own (decodeVI word) = true) (hs : VeSame (s.core p).ve (g (s.core p).ve (decodeVI word))) :
    ∃ y k, Answers c s (withVe s p y k) ∧ VeNext (s.core p).ve y
      ∧ y.v = (g (s.core p).ve (decodeVI word)).v ∧ y.s = (g (s.core p).ve (decodeVI word)).s
      ∧ y.mask = (g (s.core p).ve (decodeVI word)).mask ∧ y.ovf = (g (s.core p).ve (decodeVI word)).ovf
      ∧ y.nanIn = (g (s.core p).ve (decodeVI word)).nanIn ∧ y.stat = (g (s.core p).ve (decodeVI word)).stat := by
  obtain ⟨k, hk⟩ := veApply_ok s p w (g (s.core p).ve (decodeVI word))
  refine ⟨_, k, answers_of ?_, veNext_of hs, rfl, rfl, rfl, rfl, rfl, rfl⟩
  rw [he, veRun_issues h ho]
  exact congrArg (fun t => Host.Outcome.next (sramSweep t)) hk

end Sys2Proof.Machine
end

