-- ==== Sys2Proof/WellFormed.lean ====
section
/-!
DEFINITION. Which commands are well formed: every field of a message within the width that the spec gives it, and lists
as long as what they stand for. A meaning is total on ill-formed commands too.
-/
namespace Sys2Proof

/-- Whether a number fits an 8-bit field. -/
def byteWf (n : Nat) : Bool := decide (n < 256)
/-- Whether a number is a timestamp of R380. -/
def timeWf (n : Nat) : Bool := decide (n < 2 ^ 56)
/-- The 64-byte lines that a run of bytes from a line's start takes. -/
def ceilLines (n : Nat) : Nat := (n + 63) / 64

/-- R365, R409: the fields of an S flit, and as much data as its index says. -/
def SFlit.wf (f : SFlit) : Bool :=
  decide (f.group < 2 ^ 16) && decide (f.sseq < 2 ^ 15) && decide (f.srcM < 2 ^ 18) && decide (f.dstM < 2 ^ 18)
    && decide (f.seq < 2 ^ 16) && decide (f.epoch < 2 ^ 16) && decide (f.op < 16) && decide (f.fidx < 2 ^ 24)
    && decide (f.pmap < 2 ^ 14) && decide (f.bytes < 2 ^ 40) && decide (f.version < 2 ^ 32)
    && decide (f.data.length = if f.fidx = 0 then 208 else 224)
    && (f.fidx == 0 || (f.bytes == 0 && f.version == 0))

/-- R413: the fields of a control chunk. -/
def CollCtl.wf (c : CollCtl) : Bool :=
  decide (c.code < 16) && decide (c.sender < 2 ^ 18) && decide (c.seq < 2 ^ 16) && decide (c.epoch < 2 ^ 16)
    && decide (c.first < 2 ^ 24) && decide (c.count < 2 ^ 24)

/-- R369, R370: the fields of a packet header and the lengths of its chunks. -/
def Packet.wf (p : Packet) : Bool :=
  decide (p.ptype < 64) && decide (p.dst < 2 ^ 18) && decide (p.src < 2 ^ 18) && decide (p.vc < 6) && decide (p.via < 1024)
    && decide (p.rphase < 4) && decide (p.tid < 2 ^ 16) && decide (p.nlines < 128) && decide (p.stat < 4)
    && decide (p.hops < 16) && decide (p.laddr < 2 ^ 38) && decide (p.group < 2 ^ 16)
    && (p.be.isEmpty || p.be.length == 64 * p.nlines) && (p.pmap.isEmpty || p.pmap.length == p.nlines)
    && (p.data.isEmpty || p.data.length == 64 * p.nlines)
    && (match p.flit with | some f => f.wf | none => true) && (match p.ctl with | some c => c.wf | none => true)

/-- R438, R455: what is measured over a slot has at most one amount per site, cluster, queue and crossbar output. -/
def SlotMeasure.wf (m : SlotMeasure) : Bool :=
  decide (m.guest.length ≤ 2) && decide (m.cluster.length ≤ 32) && decide (m.queue.length ≤ 64) && decide (m.uncore.length ≤ 64)
     && decide (m.xbar.length ≤ 44)

/-- R444: a sample has 512 core diodes and 96 others. -/
def ThermalRead.wf (r : ThermalRead) : Bool := r.core.length == 512 && r.other.length == 96

/-- Whether a command is well formed. -/
def Instr.wf : Instr → Bool
  | .logEntry _ _ _ _ _ args => decide (args.length ≤ 4)
  | .thermalSample r => r.wf
  | .sluiceTick m => m.wf
  | .periodChange m => m.wf
  | .periodAdoption m => m.wf
  | .timeReq _ seq t2 t3 => byteWf seq && timeWf t2 && timeWf t3
  | .timeRsp _ seq t2 t3 t4 => byteWf seq && timeWf t2 && timeWf t3 && timeWf t4
  | .beacon _ _ _ _ tick sel _ => decide (tick < 2 ^ 64) && decide (sel < 8)
  | .candidate _ _ _ seq => decide (seq < 2 ^ 32)
  | .holdMsg _ _ h _ cause => decide (h < 2 ^ 64) && decide (cause < 4)
  | .periodMsg _ tc sel => decide (tc < 2 ^ 64) && decide (sel < 8)
  | .sFlitReceive _ f _ => f.wf
  | .coll _ p _ => p.wf
  | .resend _ p => p.wf
  | .ack _ p => p.wf
  | .reissue _ p => p.wf
  | .guestRequest _ w _ n data be pm =>
    decide (data.length = if w then 64 * n else 0) && pm.length == ceilLines data.length && (be.isEmpty || be.length == data.length)
  | .berWindow _ w => decide (w.syms.length ≤ 4)
  | .packetRoute _ p => p.wf
  | .rdReq _ p => p.wf
  | .rdRsp _ p => p.wf
  | .cwWr _ p => p.wf
  | .cwWrAck _ p => p.wf
  | .fenceSig _ p => p.wf
  | .fenceAck _ p => p.wf
  | .bar4Read _ _ n => decide (0 < n)
  | .bar4Write _ _ data _ => !data.isEmpty
  | .registerWrite _ _ _ data => !data.isEmpty
  | .creditReturn _ floors _ _ => decide (floors.length ≤ 6)
  | .cwCrcErr e => decide (e.got.length ≤ 6)
  | .registerRead _ _ _ n => decide (0 < n)
  | .vinApplied _ _ _ | .vinRemoved | .controllerBoot _ _ | .initialClaimTimeout | .heartbeatTimeout _
  | .watchdogExpiry _ | .handover | .managementWrite _ _ | .logSuppressWindow _ _ | .logPersist
  | .requestUpdate _ _ | .firmwareVerify _ | .activateFirmware _ | .trialTimeout | .fwCommit _ | .svnCommit _
  | .getState _ | .setState _ _ _ _ | .dieLinkWindow _ _ _ _ | .portDropped _ | .sequenceTimeLimit | .ready _
  | .omcHandover _ | .readReg _ _ _ | .logRead _ _ _ | .logFlashRead _ _ _ | .ethCfg _ _ _ _ _ _ _
  | .ethDatagram _ | .getVersion _ | .getCapabilities _ | .negotiateAlgorithms _ _ _ | .getDigests _
  | .getCertificate _ _ _ | .challenge _ _ | .getMeasurements _ _ _ | .getSensorReading _ _ | .mctpControl _ _
  | .i3cIsolate _ _ | .i3cRejoin | .lsmIsolate _ | .lsmInterrupt _ _ _ | .thermistorSample _ _ | .coolFlowLow _
  | .inputFault _ _ | .remoteSenseOpen | .stageFail _ | .railOvercurrent _ _ | .droopDetect _ | .droopPersist _
  | .diodeMismatch _ | .fastLimiterSample _ _ _ | .refclkBLoss | .refclkBReturn | .refclkALoss | .perst
  | .functionLevelReset _ | .flrTimeout | .vfEnableClear | .dormantRequest | .wakeRequest | .standbyRequest
  | .standbyDrainTimeout | .pwrCtrlWrite _ | .hintExpiry _ | .overrun _ | .holdLimitAbort _ | .periodRequest _ _
  | .masterTakeover | .timeExchangeMissing | .abortMsg _ _ _ _ | .queueEnable _ _ | .queueDisable _ _
  | .disableComplete _ | .sqTail _ _ _ | .cqHead _ _ _ | .commandFetch _ | .nop _ _ | .tile _ _ | .tileIssue _ _
  | .tileComplete _ | .drain _ _ | .peatFlush _ _ | .drainStart _ _ | .scaleAnswer _ _ _ | .scaleWaitTimeout _
  | .wispResult _ | .parityError _ _ | .veProg _ _ | .veIllegalInstruction _ _ | .veNop _ _ | .endProg _ _
  | .br _ _ | .bz _ _ | .bnz _ _ | .blt _ _ | .loopS _ _ | .setvl _ _ | .setvli _ _ | .add _ _ | .sub _ _
  | .mul _ _ | .andS _ _ | .orS _ _ | .xorS _ _ | .shl _ _ | .shr _ _ | .sar _ _ | .smin _ _ | .smax _ _
  | .addi _ _ | .li _ _ | .lsh _ _ | .fadd _ _ | .fmul _ _ | .fmax _ _ | .fmin _ _ | .sacc _ _ | .w2f _ _
  | .f2w _ _ | .vext _ _ | .sld _ _ | .sst _ _ | .strd _ _ | .stclr _ _ | .vaddF _ _ | .vsubF _ _ | .vmulF _ _
  | .vfmaF _ _ | .vfmsF _ _ | .vfnmaF _ _ | .vminF _ _ | .vmaxF _ _ | .vabsF _ _ | .vnegF _ _ | .vcpsF _ _
  | .vmov _ _ | .vbc _ _ | .vsel _ _ | .vaddB _ _ | .vsubB _ _ | .vmulB _ _ | .vfmaB _ _ | .vminB _ _ | .vmaxB _ _
  | .vabsB _ _ | .vnegB _ _ | .vaddI _ _ | .vsubI _ _ | .vmulI _ _ | .vaddsI _ _ | .vsubsI _ _ | .vand _ _
  | .vor _ _ | .vxor _ _ | .vshl _ _ | .vshr _ _ | .vsar _ _ | .vminI _ _ | .vmaxI _ _ | .viota _ _ | .vcmpF _ _
  | .vcmpI _ _ | .vnan _ _ | .mand _ _ | .mor _ _ | .mxor _ _ | .mandn _ _ | .mnot _ _ | .mvl _ _ | .mpop _ _
  | .mfirst _ _ | .mld _ _ | .mst _ _ | .vexp2 _ _ | .vlog2 _ _ | .vrcp _ _ | .vrsq _ _ | .vsqrt _ _ | .vtanh _ _
  | .vsig _ _ | .vsilu _ _ | .vgelu _ _ | .rsum _ _ | .rssq _ _ | .rmax _ _ | .rmin _ _ | .ramax _ _ | .rsumW _ _
  | .rssqW _ _ | .argmax _ _ | .rsumI _ _ | .vperm _ _ | .vpermh _ _ | .vsldn _ _ | .vslup _ _ | .vcomp _ _
  | .vexpd _ _ | .vrev _ _ | .vf2i _ _ | .vi2f _ _ | .vpack _ _ | .vunlo _ _ | .vunhi _ _ | .vqnt _ _ | .wadd _ _
  | .waddf _ _ | .wfrom _ _ | .wto _ _ | .wfromi _ _ | .vld _ _ | .vst _ _ | .vlds _ _ | .vsts _ _ | .vldx _ _
  | .vstx _ _ | .vldcF _ _ | .vldcI _ _ | .vstcF _ _ | .vstcI _ _ | .splLd _ _ | .splSt _ _ | .splFold _ _
  | .lwait _ _ | .lpeek _ _ | .lld _ _ | .lldw _ _ | .lrel _ _ | .gather _ _ | .prefetch _ _
  | .heronRequestIssue _ _ _ _ | .pageWalk _ _ | .heronReadResponse _ _ _ _ _ _ | .heronWriteAck _ _ _
  | .prefetchFill _ _ | .scrub _ _ | .reduceScatter _ _ | .allGather _ _ | .allReduce _ _ | .broadcast _ _
  | .allToAll _ _ | .seqRing _ _ | .amaxMax _ _ | .paramGather _ _ | .sWindowOpen _ _ _ | .sSlotMiss _
  | .reserveWindow _ _ _ | .update _ _ | .updateArm | .updateWritePhase _ | .scaleClear _ _ | .scaleLoad _ _
  | .scaleStore _ _ | .scaleRescale _ _ | .hint _ _ | .fenceSignal _ _ | .fenceWait _ _ | .tickWait _ _
  | .epoch _ _ | .rd _ | .rdRc _ | .rsp _ | .wr _ | .wrAck _ | .inv _ | .invAck _ | .invDone _ | .evictNote _
  | .fdec _ | .linkReplay _ _ _ | .moduleDown _ _ _ | .linkMonitorWindow _ _ | .guestAdmit _ _ | .guestAdmitAck _
  | .guestRemove _ _ | .guestRailOff _ | .guestPowerSample _ _ | .portEnable _ | .portDisable _
  | .portUp _ _ _ _ _ | .portTrainingFail _ _ | .portRetrain _ | .portDown _ _ | .schedCommit _
  | .causewayReplay _ _ | .fabricTimeout _ | .fabCfgWrite _ | .memberTableWrite _ _ _ | .coreReset _
  | .clusterReset _ | .partitionReset _ | .partitionClusterResets _ | .fenceCoreRequest _ | .fenceClusterRequest _
  | .injectCsUncorr _ | .injectDrainParity _ | .injectVeParity _ | .injectMxaParity _ | .injectRegParity _
  | .partitionMapWrite _ _ | .fenceMapWrite _ _ | .fenceCntWrite _ _ | .bar4BaseWrite _ | .xlatRootWrite _ _
  | .xlatInv _ _ | .xlatInvComplete _ | .ucieCrcErr _ _ | .ucieReplayFlit _ _ _ | .ucieFlitAck _ _ _ _ _ _
  | .cwReplayFlit _ _ | .cwFlitAck _ _ _ | .droopEnd _ | .parityAgeOut _ | .wakeComplete
  | .dormantEntryComplete | .coreResetEnd _ | .clusterResetEnd _ | .lsmRejoin _ | .perstRelease | .alertTimeout
  | .remoteSenseRestored | .vfEnable _ | .bar4Resize _ | .tapClock _ _ _ _ => true

end Sys2Proof
end

