-- ==== Sys2Proof/Tests/Slice0.lean ====
section
/-!
SUPPORT. The model's own tests: commands that are not well formed, worked examples of the spec, and for each statement
with hypotheses a state and operands that meet all of them.
-/
namespace Sys2Proof.Tests
open Sys2Proof.Machine

set_option Elab.async false

/-! ### Ill-formed commands -/

theorem test_wf_log_arguments : (Instr.logEntry 1 0 0 0 false [0, 0, 0, 0, 0]).wf = false := by decide
theorem test_wf_thermal_sample : (Instr.thermalSample ⟨[0], []⟩).wf = false := by decide
theorem test_wf_slot_measure : (Instr.sluiceTick { guest := [0, 0, 0] }).wf = false := by decide
theorem test_wf_cw_crc_err : (Instr.cwCrcErr ⟨0, [0, 0, 0, 0, 0, 0, 0], none⟩).wf = false := by decide
theorem test_wf_period_change : (Instr.periodChange { guest := [0, 0, 0] }).wf = false := by decide
theorem test_wf_period_adoption : (Instr.periodAdoption { guest := [0, 0, 0] }).wf = false := by decide
theorem test_wf_time_request : (Instr.timeReq 0 256 0 0).wf = false := by decide
theorem test_wf_time_response : (Instr.timeRsp 0 0 0 0 (2 ^ 56)).wf = false := by decide
theorem test_wf_beacon : (Instr.beacon 0 0 0 0 0 8 0).wf = false := by decide
theorem test_wf_candidate : (Instr.candidate 0 0 true (2 ^ 32)).wf = false := by decide
theorem test_wf_hold : (Instr.holdMsg 0 0 0 0 4).wf = false := by decide
theorem test_wf_period : (Instr.periodMsg 0 0 8).wf = false := by decide
/-- A flit of a contribution, with `k` data bytes. -/
def flit (fidx k : Nat) : SFlit := ⟨7, 0, 1, 0, 0, 0, 0, fidx, 0, false, false, false, 0, 0, List.replicate k 0⟩

theorem test_wf_s_flit : (Instr.sFlitReceive 0 (flit 1 208) false).wf = false := by decide +kernel
theorem test_wf_packet : (Instr.packetRoute 0 { ptype := 64, dst := 0, src := 0 }).wf = false := by decide
theorem test_wf_packet_data :
    (Instr.cwWr 0 { ptype := 3, dst := 0, src := 0, nlines := 1, data := [0] }).wf = false := by decide
theorem test_wf_packet_flit : (Instr.coll 0 { ptype := 16, dst := 0, src := 0, flit := some (flit 0 224) } false).wf = false := by decide +kernel
theorem test_wf_packet_control :
    (Instr.resend 0 { ptype := 17, dst := 0, src := 0, ctl := some ⟨16, 0, 0, 0, 0, 0⟩ }).wf = false := by decide
theorem test_wf_guest_request : (Instr.guestRequest 0 true 0 64 [0] [] []).wf = false := by decide
theorem test_wf_ber_window : (Instr.berWindow 0 { bits := 0, syms := [0, 0, 0, 0, 0] }).wf = false := by decide
theorem test_wf_bar4_read : (Instr.bar4Read 0 0 0).wf = false := by decide
theorem test_wf_bar4_write : (Instr.bar4Write 0 0 [] false).wf = false := by decide
theorem test_wf_register_write : (Instr.registerWrite 0 0 0 []).wf = false := by decide
theorem test_wf_register_read : (Instr.registerRead 0 0 0 0).wf = false := by decide
theorem test_wf_credit_return : (Instr.creditReturn 0 [0, 0, 0, 0, 0, 0, 0] 0 0).wf = false := by decide
theorem test_wf_tick : (Instr.sluiceTick {}).wf = true := by decide

/-! ### States of the witnesses -/

/-- The package Active with every core, die and stack in service, and every capability. -/
def on : State := { State.reset with
  pst := .active
  agt := { State.reset.agt with
    valid := true, enabled := BitVec.allOnes 256, diesActive := 15, stacksActive := BitVec.allOnes 32, cap := 0x3FFF }
  partOf := (upTo 32).map (fun c => (c, 0))
  host := { State.reset.host with linkUp := true } }

/-- `on` with the `n` bytes of `v` at `a`. -/
def put (s : State) (a n v : Nat) : State := { s with mem := cellsSet s.mem a (toLE n v) }

/-- A vector-engine instruction word of class `cls` and function `fn` whose fields d, a, b, c are `f`. -/
def vword (cls fn : Nat) (d a b c low : Nat) : Nat :=
  cls * 2 ^ 60 + fn * 2 ^ 54 + d * 2 ^ 44 + a * 2 ^ 39 + b * 2 ^ 34 + c * 2 ^ 29 + low

/-- Core 3 running a program of queue 0 that stands at `word`, with registers `x`. -/
def veOn (x : Ve) (word : Nat) : State :=
  (put on (csAddr 3 0) 8 word).setCore 3 { (on.core 3) with ve := { x with st := .running, cmd := some ⟨0, 0⟩ } }

/-- `VeIssues` as a computation. -/
def issues (s : State) (cls fn word : Nat) : Bool :=
  veReady s 3 && veWord s 3 == some word && veLegal word && (decodeVI word).cls == cls && (decodeVI word).fn == fn
    && !(s.core 3).ras.injVe

theorem issues_iff {s : State} {cls fn word : Nat} (h : issues s cls fn word = true) : VeIssues s 3 cls fn word := by
  simp only [issues, Bool.and_eq_true, beq_iff_eq, Bool.not_eq_true'] at h
  obtain ⟨⟨⟨⟨⟨a, b⟩, c⟩, d⟩, e⟩, g⟩ := h
  exact ⟨a, b, c, d, e, g⟩

/-! ### The vector engine -/

/-- A legal word for a function: its operands in registers 1, as far as it takes them, format 2 and IMM 1 where it needs
them. -/
def tryWord (cls fn : Nat) : Nat :=
  ([vword cls fn 1 1 1 1 0, vword cls fn 1 1 1 0 0, vword cls fn 1 1 0 1 0, vword cls fn 1 1 0 0 0, vword cls fn 1 0 0 0 0,
    vword cls fn 0 1 0 0 0, vword cls fn 1 1 0 0 (2 * 2 ^ 25), vword cls fn 1 1 0 0 (12 * 2 ^ 25), vword cls fn 0 1 1 0 0, vword cls fn 0 0 0 0 1,
    vword cls fn 0 0 0 0 0].find? veLegal).getD 0

/-- Whether the word of a function issues with registers `x`. -/
def tries (x : Ve) (cls fn : Nat) : Bool := issues (veOn x (tryWord cls fn)) cls fn (tryWord cls fn)

/-- S1 an address of 64-byte alignment, S2 another. -/
def two : Ve := { s := [(1, 0x2000), (2, 0x3000)] }

theorem wit_LaneInstructionsWriteTheirLanes : ∀ r ∈ laneRows, tries {} r.cls r.fn = true := by decide +kernel
theorem wit_ScalarInstructionsWriteTheirRegister :
    ∀ r ∈ scalarRows ++ reduceRows, tries {} r.cls r.fn = true := by decide +kernel
theorem wit_MaskInstructionsWriteTheirMask : ∀ r ∈ maskRows, ∀ fn ∈ r.fns, tries {} 5 fn = true := by decide +kernel
theorem wit_WideInstructionsWriteTheirPair :
    (∀ r ∈ wideRows, tries {} 9 r.fn = true) ∧ tries {} 9 20 = true := by decide +kernel
theorem wit_ControlInstructionsSetVlAndStatus :
    tries {} 0 7 = true ∧ tries {} 0 8 = true ∧ tries {} 1 36 = true ∧ tries {} 0 0 = true := by decide +kernel
theorem wit_BranchesMoveTheProgramCounter : ∀ fn ∈ ([2, 3, 4, 5, 6] : List Nat), tries {} 0 fn = true := by decide +kernel

theorem wit_LoadsWriteTheirLanes : ∀ r ∈ loadRows, tries two 10 r.fn = true
    ∧ ∀ l, l < 256 → r.ok (veOn two (tryWord 10 r.fn)) 3 (decodeVI (tryWord 10 r.fn)) l = true := by decide +kernel

/-- The address of an access with S1 as its base. -/
def baseOf (x : Ve) (cls fn : Nat) : Nat := baseAddr x (decodeVI (tryWord cls fn))

theorem wit_SingleLoadsWriteTheirRegister :
    (tries two 1 33 = true ∧ csOk (baseOf two 1 33) 8 8 = true) ∧ (tries two 5 24 = true ∧ csOk (baseOf two 5 24) 32 8 = true)
      ∧ (tries two 10 10 = true ∧ csOk (baseOf two 10 10) 1280 64 = true)
      ∧ (tries { s := [(1, 64)] } 10 12 = true ∧ (decodeVI (tryWord 10 12)).c = 1
        ∧ ∀ k, k < 64 → csOk (convAddr (baseOf { s := [(1, 64)] } 10 12) (k * 64)) 1280 64 = true)
      ∧ (tries {} 10 12 = true ∧ Ve.sreg {} (decodeVI (tryWord 10 12)).c = 0
        ∧ (Ve.sreg {} (decodeVI (tryWord 10 12)).b).toNat % 64 = 0 ∧ baseOf {} 10 12 % 64 = 0) := by decide +kernel
/-- The last address at which each single access still fits. -/
theorem wit_SingleLoads_at_the_end : csOk (csSize - 8) 8 8 = true ∧ csOk (csSize - 32) 32 8 = true
    ∧ csOk (csSize - 1280) 1280 64 = true ∧ csOk (csSize - 1216) 1280 64 = false := by decide +kernel

theorem wit_StoresWriteTheirBytes :
    (tries two 1 34 = true ∧ csOk (baseOf two 1 34) 8 8 = true) ∧ (tries two 5 25 = true ∧ csOk (baseOf two 5 25) 32 8 = true)
      ∧ (tries two 10 11 = true ∧ csOk (baseOf two 10 11) 1280 64 = true)
      ∧ ∀ r ∈ ([(1, 0), (3, 1), (5, 2)] : List (Nat × Nat)), tries two 10 r.1 = true
        ∧ ∀ l, l < 256 → csOk (laneAddr (veOn two (tryWord 10 r.1) |>.core 3).ve (decodeVI (tryWord 10 r.1)) r.2 l) 4 4 = true := by
  decide +kernel
theorem wit_ConvertingStoresWriteTheirCodes : ∀ fn ∈ ([8, 9] : List Nat), tries two 10 fn = true
    ∧ fmtMx (fmtOf (decodeVI (tryWord 10 fn)).fmt) = false
    ∧ (∀ l, l < 256 → storeFits (veOn two (tryWord 10 fn)) 3 (decodeVI (tryWord 10 fn)) l = true)
    ∧ convAddr (baseOf two 10 fn) (codeBytes (veOn two (tryWord 10 fn)) 3 (decodeVI (tryWord 10 fn)) - 1) < csSize := by
  decide +kernel
theorem wit_MxStoresWriteBlocksAndScales :
    issues (veOn two (vword 10 8 1 1 0 0 (8 * 2 ^ 25))) 10 8 (vword 10 8 1 1 0 0 (8 * 2 ^ 25)) = true
      ∧ fmtMx (fmtOf 8) = true
      ∧ csOk 0x2000 (4 * styBits (accFmt (decodeVI (vword 10 8 1 1 0 0 (8 * 2 ^ 25)))) * 8) 32 = true ∧ csOk 0x3000 8 1 = true := by
  decide +kernel

/-- S1 one byte beyond an aligned address. -/
def odd : Ve := { s := [(1, 0x2001), (2, 0x3000)] }
theorem wit_MisplacedAccessesStopTheProgram :
    (∀ r ∈ loadRows, tries { s := [(1, 0x5FFFFF), (2, 0)] } 10 r.fn = true ∧ ∃ l, l < 256
      ∧ r.ok (veOn { s := [(1, 0x5FFFFF), (2, 0)] } (tryWord 10 r.fn)) 3 (decodeVI (tryWord 10 r.fn)) l = false)
    ∧ (∀ r ∈ ([(1, 0), (3, 1), (5, 2)] : List (Nat × Nat)), tries odd 10 r.1 = true
      ∧ csOk (laneAddr (veOn odd (tryWord 10 r.1) |>.core 3).ve (decodeVI (tryWord 10 r.1)) r.2 1) 4 4 = false)
    ∧ (∀ r ∈ ([(1, 33, 8, 8), (1, 34, 8, 8), (5, 24, 32, 8), (5, 25, 32, 8), (10, 10, 1280, 64), (10, 11, 1280, 64)] :
        List (Nat × Nat × Nat × Nat)), tries odd r.1 r.2.1 = true ∧ csOk (baseOf odd r.1 r.2.1) r.2.2.1 r.2.2.2 = false) := by
  decide +kernel

/-- The state with core 3's head lagg slot as given, taken by the program or not. -/
def laggOn (fn : Nat) (l : LaggSlot) (taken : Bool) : State :=
  let s := veOn { slotTaken := taken } (tryWord 11 fn)
  s.setCore 3 { s.core 3 with mxa := { (s.core 3).mxa with lagg := [(0, l)] } }

theorem wit_LaggInstructionsReadTheHeadSlot :
    (∀ fn ∈ ([0, 1] : List Nat), issues (laggOn fn { taken := true, ready := true } false) 11 fn (tryWord 11 fn) = true
      ∧ (headSlot (laggOn fn { taken := true, ready := true } false) 3).ready = true
      ∧ (headSlot (laggOn fn { taken := true, ready := true } false) 3).queue
          = ((laggOn fn { taken := true, ready := true } false).core 3).ve.queue)
    ∧ (∀ fn ∈ ([0, 1] : List Nat), tries {} 11 fn = true ∧ (headSlot (veOn {} (tryWord 11 fn)) 3).ready = false)
    ∧ (∀ e ∈ ([(4, 0), (2, 2), (3, 13)] : List (Nat × Nat)),
        issues (laggOn e.1 { taken := true, ready := true, fmt := e.2 } true) 11 e.1 (tryWord 11 e.1) = true)
    ∧ fmtOf 2 ≠ .acc35 := by decide +kernel

theorem wit_ProgramsEndWithTheirCompletion : tries {} 0 1 = true
    ∧ (veReady (veOn {} 0xFFFFFFFFFFFFFFFF) 3 = true ∧ ((veOn {} 0xFFFFFFFFFFFFFFFF).core 3).ras.injVe = false
      ∧ veWord (veOn {} 0xFFFFFFFFFFFFFFFF) 3 = some 0xFFFFFFFFFFFFFFFF ∧ veLegal 0xFFFFFFFFFFFFFFFF = false) := by
  decide +kernel

/-! ### Queues and records -/

/-- `on` with context 0: DVA 0 to 2³⁰ − 1 is device address 0 onward, readable and writable, on die 0. -/
def mapped : State :=
  (put (put (put on 0x40000000 8 0x40001001) 0x40001000 8 0xF) 0x40001008 8 0x4000000F).setCtx 0 { root := 0x8000000040000000 }

/-- A record. -/
def rcd (n w : Nat) : Rec := ⟨n, BitVec.ofNat 512 w, .fetched, 0⟩

/-- Queue 0 running with record 0 `w` as its frame. -/
def qOn (w : Nat) : State := mapped.setQueue 0 {
  ctrl := 6 * 2 ^ 21, ring := 0x20000, cring := 0x10000, st := .running, fetched := 1, sqTail := 1, recs := [rcd 0 w]
  next := 1, frame := some { first := 0, len := 1, startTick := 0, closing := 4 } }

/-- `Starts` of record 0 of queue 0 as a computation. -/
def startsB (s : State) (r : Rec) : Bool :=
  s.pst == .active && findRec s ⟨0, 0⟩ == some r && mayStart (s.queue 0) r && headerStatus s 0 r == 0

theorem starts_iff {s : State} {r : Rec} (h : startsB s r = true) : Starts s 0 0 r := by
  simp only [startsB, Bool.and_eq_true, beq_iff_eq] at h
  obtain ⟨⟨⟨a, b⟩, c⟩, d⟩ := h
  exact ⟨a, b, c, d⟩

/-- Whether a record of these 512 bits starts. -/
def goes (w : Nat) : Bool := startsB (qOn w) (rcd 0 w)

/-- Queue 0 Disabled with fields that an enable accepts. -/
def qOff : State := mapped.setQueue 0 { ctrl := 6 * 2 ^ 21, ring := 0x20000, cring := 0x10000 }

theorem wit_QueuesAreEnabledAndDisabled :
    (served qOff = true ∧ fnExists qOff 0 = true ∧ ownsQueue qOff 0 0 = true ∧ enableOk qOff 0 = true)
      ∧ (served on = true ∧ fnExists on 0 = true ∧ ownsQueue on 0 0 = true ∧ enableOk on 0 = false)
      ∧ (served (qOn 0) = true ∧ fnExists (qOn 0) 0 = true ∧ ownsQueue (qOn 0) 0 0 = true
        ∧ ((qOn 0).queue 0).st ≠ .disabled ∧ ((qOn 0).queue 0).draining = false ∧ collPending (qOn 0) 0 = false)
      ∧ (((on.setQueue 0 { st := .stopped, draining := true }).queue 0).draining = true
        ∧ ((on.setQueue 0 { st := .stopped, draining := true }).queue 0).frame = none) := by decide +kernel

/-- Queue 0 running, owned by virtual function 1, with `t` records submitted. -/
def qVf (t : Nat) : State :=
  let s := on.setQueue 0 { ctrl := BitVec.ofNat 64 (6 * 2 ^ 21 + 2 ^ 29), st := .running, sqTail := BitVec.ofNat 32 t }
  { s with host := { s.host with vfEnable := true, numVfs := 1 } }

theorem wit_DoorbellsMoveForward :
    (((qVf 5).pst = .active ∧ (qVf 5).host.linkUp = true ∧ fnExists (qVf 5) 1 = true ∧ ((qVf 5).queue 0).func = 1
        ∧ ((qVf 5).queue 0).st = .running)
      ∧ (64 + 2 ^ 32 - ((qVf 5).queue 0).sqTail.toNat) % 2 ^ 32 < 2 ^ 31
      ∧ (64 + 2 ^ 32 - ((qVf 5).queue 0).cqHead.toNat) % 2 ^ 32 ≤ ((qVf 5).queue 0).size)
    ∧ (((qVf 5).queue 0).cqHead.toNat = 0 ∧ ((qVf 5).queue 0).completed = 0 ∧ ((qVf 5).queue 0).size = 64)
    ∧ (fnExists (qVf 5) 0 = true ∧ ((qVf 5).queue 0).func ≠ 0) := by decide +kernel

/-- Queue 0 running with record 0 of its ring holding `w` and one record submitted. -/
def qFetch (w : Nat) : State :=
  put (mapped.setQueue 0 { ctrl := 6 * 2 ^ 21, ring := 0x20000, cring := 0x10000, st := .running, sqTail := 1 }) 0x20000 64 w

theorem wit_FetchAppendsTheNextRecord :
    ((qFetch 0x400).pst = .active ∧ ((qFetch 0x400).queue 0).st = .running ∧ ((qFetch 0x400).queue 0).fetchRoom = 1
        ∧ (vread (qFetch 0x400) 0 0x20000 64).fault = none ∧ (vread (qFetch 0x400) 0 0x20000 64).bad = false
        ∧ (ofLE (vread (qFetch 0x400) 0 0x20000 64).data).testBit 10 = true
        ∧ ((qFetch 0x400).queue 0).recVa ((qFetch 0x400).queue 0).fetched = 0x20000)
      ∧ ((on.setQueue 0 { ctrl := 6 * 2 ^ 21, st := .running, sqTail := 1 }).queue 0).fetchRoom = 1
      ∧ (vread (on.setQueue 0 { ctrl := 6 * 2 ^ 21, st := .running, sqTail := 1 }) 0 0 64).fault ≠ none
      ∧ (vread { qFetch 0x400 with poison := [0x20000] } 0 0x20000 64).bad = true := by decide +kernel

/-- A record of a reserved opcode, and a NOP with a reserved header bit. -/
theorem wit_HeaderChecksDecideTheStatus : ∀ w ∈ ([0xFF, 2 ^ 14] : List Nat), findRec (qOn w) ⟨0, 0⟩ = some (rcd 0 w)
    ∧ mayStart ((qOn w).queue 0) (rcd 0 w) = true
    ∧ ((rcd 0 w).opcode = 0 ∨ knownOpcode (rcd 0 w).opcode = false) ∧ headerStatus (qOn w) 0 (rcd 0 w) ≠ 0 := by
  decide +kernel

theorem wit_CompletionsArePosted : findRec (qOn 0) ⟨0, 0⟩ = some (rcd 0 0) ∧ (rcd 0 0).isDone = false
    ∧ xlate (qOn 0) ((qOn 0).queue 0).ctxNo (ringSlot ((qOn 0).queue 0)) true = .pa 0x10000
    ∧ (inHbm 0x10000 || inCs 0x10000) = true ∧ lateDie (qOn 0) 0x10000 = false := by decide +kernel

theorem wit_ControlRecordsComplete :
    (goes 0 = true ∧ (rcd 0 0).zero 511 64 = true)
      ∧ (goes 0x1C = true ∧ (rcd 0 0x1C).opcode = 0x1C ∧ (rcd 0 0x1C).zero 511 129 = true
        ∧ ((qOn 0x1C).queue 0).frame.isSome = true ∧ (rcd 0 0x1C).b 128 = false)
      ∧ (goes (0x1D + 2 ^ 64) = true ∧ (rcd 0 (0x1D + 2 ^ 64)).zero 511 80 = true
        ∧ (rcd 0 (0x1D + 2 ^ 64)).f 79 64 = (((qOn (0x1D + 2 ^ 64)).queue 0).epoch + 1) % 65536)
      ∧ (goes (0x19 + 6 * 2 ^ 64 + 4300 * 2 ^ 68) = true ∧ (rcd 0 (0x19 + 6 * 2 ^ 64 + 4300 * 2 ^ 68)).zero 511 100 = true
        ∧ (rcd 0 (0x19 + 6 * 2 ^ 64 + 4300 * 2 ^ 68)).f 83 68 = partTdp .p4032x
        ∧ (rcd 0 (0x19 + 6 * 2 ^ 64 + 4300 * 2 ^ 68)).f 67 64 = 6) := by decide +kernel

/-- A fence command of opcode `o` for counter 255 of this package with the largest value. -/
def fenceW (o : Nat) : Nat := o + (255 * 2 ^ 38 + 2 ^ 38 - 1) * 2 ^ 64
theorem wit_FencesRaiseAndWait : ∀ o ∈ ([0x1A, 0x1B] : List Nat), goes (fenceW o) = true
    ∧ (rcd 0 (fenceW o)).opcode = o ∧ (rcd 0 (fenceW o)).zero 511 128 = true
    ∧ tokenDev ((rcd 0 (fenceW o)).w 1) = devId (qOn 0) ∧ tokenCtr ((rcd 0 (fenceW o)).w 1) = 255
    ∧ ((qOn 0).fence 255).owner = ((qOn 0).queue 0).part := by decide +kernel

/-- A SCALE command of operation `op` on the last entry, with a buffer at DVA 0x30000 where it takes one. -/
def scaleW (op : Nat) : Nat :=
  0x18 + op * 2 ^ 64 + 65535 * 2 ^ 68 + 2 ^ 84 + (if op = 1 ∨ op = 2 then 0x30000 * 2 ^ 128 else 0)
theorem wit_ScaleCommandsChangeTheirEntries :
    (∀ op ∈ ([0, 1, 2, 3] : List Nat), goes (scaleW op) = true ∧ (rcd 0 (scaleW op)).opcode = 0x18
        ∧ (rcd 0 (scaleW op)).sop = op ∧ firstStatus (scaleChecks (rcd 0 (scaleW op))) = 0
        ∧ (rcd 0 (scaleW op)).f 83 68 = 65535 ∧ (rcd 0 (scaleW op)).f 100 84 = 1)
      ∧ ((vread (qOn (scaleW 1)) 0 0x30000 128).fault = none ∧ (vread (qOn (scaleW 1)) 0 0x30000 128).bad = false)
      ∧ imageOk (ofLE (Entry.image {})) = true
      ∧ ((qOn (scaleW 2)).entry 0 65535).scaling = false
      ∧ vwriteFault (qOn (scaleW 2)) 0 0x30000 128 = none := by decide +kernel

theorem wit_CoreRecordsEnterTheirStream :
    (goes 1 = true ∧ firstStatus (tileChecks (qOn 1) (rcd 0 1)) = 0)
      ∧ (∀ w ∈ ([2 + 15 * 2 ^ 124 + 2 * 2 ^ 112, 3] : List Nat), goes w = true
        ∧ firstStatus (drainChecks (qOn w) (rcd 0 w)) = 0)
      ∧ (goes (4 + 0x5FFFF8 * 2 ^ 64) = true ∧ (rcd 0 (4 + 0x5FFFF8 * 2 ^ 64)).zero 511 384 = true
        ∧ (rcd 0 (4 + 0x5FFFF8 * 2 ^ 64)).zero 127 87 = true ∧ (rcd 0 (4 + 0x5FFFF8 * 2 ^ 64)).f 86 64 = 0x5FFFF8
        ∧ 0x5FFFF8 % 8 = 0 ∧ 0x5FFFF8 < csSize)
      ∧ (∀ o ∈ ([(8, false), (9, true)] : List (Nat × Bool)), goes o.1 = true ∧ heronFields (rcd 0 o.1) o.2 = false
        ∧ (rcd 0 o.1).hMode = 0 ∧ heronExtents (rcd 0 o.1) o.2 = false) := by decide +kernel

/-- Queue 0 of `w` as the member of group 7, whose members are device 0 (this package) and device 1. -/
def qGroup (w : Nat) : State :=
  let s := qOn w
  let s := s.setQueue 0 { s.queue 0 with ctrl := BitVec.ofNat 64 (6 * 2 ^ 21 + 2 ^ 47 + 2 ^ 39 + 7 * 2 ^ 48) }
  { s with
    fab := { s.fab with slots := [(0, { slot := BitVec.ofNat 64 (2 ^ 63 + 7 * 2 ^ 46) })] }
    ce := { s.ce with valid := [0], members := [(0, [0, 1])] } }

/-- A COLLECTIVE of operation `op`. -/
def collW (op : Nat) : Nat := 0x10 + op * 2 ^ 80 + (if op = 7 then 8 * 2 ^ 84 else 0)
theorem wit_HubRecordsEnterTheirStream :
    (∀ op ∈ ([0, 1, 2, 3, 4, 5, 6, 7] : List Nat), startsB (qGroup (collW op)) (rcd 0 (collW op)) = true
        ∧ (rcd 0 (collW op)).opcode = 0x10 ∧ (rcd 0 (collW op)).cOp = op
        ∧ firstStatus (collChecks (qGroup (collW op)) 0 (rcd 0 (collW op))) = 0)
      ∧ goes 0x11 = true ∧ updChecks (qOn 0x11) ⟨0, 0⟩ (rcd 0 0x11) = 0 := by decide +kernel

/-! ### Addresses, numbers and shares -/

/-- The package with core 0 out of service. -/
def coreOut : State := { on with agt := { on.agt with enabled := BitVec.allOnes 256 - 1 } }

theorem wit_AddressesHaveTheirTargets :
    (homeDie 0x1FFFFFFFFFF = 3 ∧ homeStack 0x1FFFFFFFFFF = 31 ∧ homeStack 0 = 0)
      ∧ paStatus on (csAddr 255 6291456) = some 0x22 ∧ paStatus on (csAddr 255 8388607) = some 0x22
      ∧ paStatus on (csAddr 255 6291455) = none ∧ paStatus coreOut (csAddr 0 0) = some 0xA0 := by decide +kernel

theorem wit_ConversionsKeepZeroCanonizeNanAndSaturate :
    ((fltOf .bf16).isSome = true ∧ (fltOf .e4m3).isSome = true)
      ∧ (decodeS .fp32 0x7FC00000 = .nan ∧ decodeS .fp32 0xFF800001 = .nan)
      ∧ decodeS .bf16 (encodeS .bf16 .nan .rne false).bits = .nan ∧ Nat.testBit (2 ^ 39) 39 = true
      ∧ (fltOf .int8 = none ∧ fltOf .mxi8 = none)
      ∧ (∀ t ∈ ([.e3m2, .e2m3, .e2m1] : List Sty), (fltOf t).isSome = true
        ∧ ∀ q ∈ fltOf t, dyLt (fltMax q).1 (fltMax q).2 (roundAt .rne 1 100 (quantum q 1 100)) (quantum q 1 100) = true) := by
  decide +kernel
/-- R56: 300 and −300 as INT8, and 1,000 as E2M1. -/
theorem test_integer_and_fp4_targets_saturate :
    (encodeS .int8 (.fin false 300 0) .rne true).bits = 127 ∧ (encodeS .int8 (.fin true 300 0) .rne false).bits = 0x80
      ∧ (encodeS .e2m1 (.fin false 1000 0) .rne true).bits = 7 := by decide +kernel

/-- R401: ten elements over four members of an ALL_REDUCE: q = 64, and the others own none. -/
theorem wit_EvenSharesFollowTheirRule :
    (rcd 0 (collW 2 + 10 * 2 ^ 224)).cRagged = false ∧ (rcd 0 (collW 2 + 10 * 2 ^ 224)).cOp = 2
      ∧ (collShares on ⟨0, 0⟩ (rcd 0 (collW 2 + 10 * 2 ^ 224)) 4 0).shares = [10, 0, 0, 0]
      ∧ (rcd 0 (collW 4)).cOp = 4 ∧ (rcd 0 (collW 0)).cOp = 0
      ∧ ({ dst := 0, data := [(0, false)], total := 1 } : SendC).total ≤ 1 := by decide +kernel

/-! ### The event log and management -/

/-- A controller that acts under epoch 1. -/
def actor : Ctl := { st := .acting, slot := some 0, seen := 1, claim := 1 }
/-- A standby controller of slot `k`. -/
def standby (k : Nat) : Ctl := { st := .standby, slot := some k, seen := 1 }
/-- An image that passes every boot check. -/
def image : ImageFacts := { headerOk := true, keyMatches := true, sigOk := true, bodyOk := true, svn := 3 }
/-- The package with BMA acting and BMB standing by, both on slot 0. -/
def managed : State := { on with bit := { on.bit with
  bma := actor, bmb := standby 0, key := ⟨1, false⟩, claimedOnce := true, slot0 := ⟨.confirmed, image⟩ } }
/-- The same in another package state. -/
def managedIn (p : PkgSt) : State := { managed with pst := p }
/-- The window of code 5 with `n` arrivals. -/
def windowed (n : Nat) : State := { managed with log := { managed.log with wins := [⟨5, 0, 0, n⟩] } }

theorem wit_LogEntriesAreStored :
    (managed.pst ≠ .off ∧ managed.log.wins.find? (fun w => w.code == 5 && w.inst == 0) = none)
      ∧ ((windowed 16).log.wins.find? (fun w => w.code == 5 && w.inst == 0) = some ⟨5, 0, 0, 16⟩
        ∧ (windowed 16).uptime < 0 + 1000000000)
      ∧ (windowed 17).log.wins.find? (fun w => w.code == 5 && w.inst == 0) = some ⟨5, 0, 0, 17⟩
      ∧ acting managed ≠ none ∧ answersAny managed .i3c = true ∧ answers managed .i3c = true := by decide +kernel

/-- BMA resetting, BMB standing by, nothing claimed yet. -/
def unclaimed : State := { managed with bit := { managed.bit with
  bma := {}, bmb := { st := .standby, slot := some 0 }, key := {}, claimedOnce := false } }
/-- BMB in reset beside an acting BMA; with an image in slot 0 or none. -/
def booting (s0 : Slot) : State := { managed with bit := { managed.bit with bmb := {}, slot0 := s0 } }

theorem wit_AuthorityPassesByClaims :
    ((booting ⟨.confirmed, image⟩).pst ≠ .off ∧ ((booting ⟨.confirmed, image⟩).ctl true).st = .resetting
        ∧ ([0, 1] : List Nat).find? (fun k => bootCheck (booting ⟨.confirmed, image⟩) k == 0) = some 0
        ∧ ((booting ⟨.confirmed, image⟩).slot 0).st ≠ .trial ∧ (booting ⟨.confirmed, image⟩).bit.trial ≠ some 0
        ∧ (booting ⟨.confirmed, image⟩).bit.claimedOnce = true)
      ∧ (((booting {}).ctl true).st = .resetting
        ∧ ([0, 1] : List Nat).find? (fun k => bootCheck (booting {}) k == 0) = none)
      ∧ (unclaimed.bit.claimedOnce = false ∧ unclaimed.bit.bmb.st = .standby ∧ (unclaimed.ctl true).seen < 0xFFFFFFFF
        ∧ AuthKey.below ⟨(unclaimed.ctl true).seen + 1, true⟩ unclaimed.bit.key = false)
      ∧ (managed.bit.claimedOnce = true ∧ (managed.ctl true).st = .standby ∧ (managed.ctl true).seen < 0xFFFFFFFF
        ∧ AuthKey.below ⟨(managed.ctl true).seen + 1, true⟩ managed.bit.key = false)
      ∧ ((managed.ctl true).st ≠ .resetting ∧ (managed.ctl true).st ≠ .acting ∧ managed.bit.trial = none)
      ∧ ((managed.ctl false).st = .acting ∧ (managed.ctl (!false)).st = .standby
        ∧ max (managed.ctl true).seen managed.bit.key.epoch < 0xFFFFFFFF)
      ∧ (acting managed = some false ∧ standbyCtl managed = some true ∧ served managed = true
        ∧ answers managed .i3c = true) := by decide +kernel

/-- Slot 1 with an image of the given state, in transfer or verified. -/
def updating (st : SlotSt) (i : ImageFacts) (x : Option Nat) (v : Bool) : State := { managedIn .standby with
  bit := { (managedIn .standby).bit with slot1 := ⟨st, i⟩, xfer := x, verified := v } }
/-- The acting controller runs slot 0 on trial. -/
def onTrial : State := { managed with bit := { managed.bit with trial := some 0, slot0 := ⟨.trial, image⟩, slot1 := ⟨.confirmed, image⟩ } }

theorem wit_FirmwareIsUpdatedInSteps :
    (answersAny (managedIn .standby) .i3c = true ∧ updateOpen (managedIn .standby) = true
        ∧ (managedIn .standby).bit.xfer = none ∧ (managedIn .standby).bit.trial = none
        ∧ idleSlot (managedIn .standby) = some 1)
      ∧ ((updating .empty image (some 1) false).bit.xfer = some 1
        ∧ imageCheck (updating .empty image (some 1) false) ((updating .empty image (some 1) false).slot 1).img = 0)
      ∧ ((updating .empty {} (some 1) false).bit.xfer = some 1
        ∧ imageCheck (updating .empty {} (some 1) false) ((updating .empty {} (some 1) false).slot 1).img ≠ 0)
      ∧ (updateOpen (updating .valid image none true) = true ∧ idleSlot (updating .valid image none true) = some 1
        ∧ ((updating .valid image none true).slot 1).st = .valid ∧ standbyCtl (updating .valid image none true) = some true
        ∧ answersAny (updating .valid image none true) .i3c = true)
      ∧ (onTrial.bit.trial = some 0 ∧ acting onTrial = some false ∧ (onTrial.ctl false).slot = some 0
        ∧ answers onTrial .i3c = true)
      ∧ confirmedSlot managed = some 0 := by decide +kernel

/-- Management with Ethernet enabled, a sensor sampled and an SPDM exchange negotiated. -/
def talking : State := { managed with bit := { managed.bit with
  eth := { managed.bit.eth with enable := true }, sensors := [(0x700, 250)], spdm := [(mediumNo .i3c, .negotiated)] } }

theorem wit_ManagementRequestsAreAnswered :
    answersAny talking .i3c = true ∧ answers talking .i3c = true ∧ talking.pst ≠ .off ∧ talking.bit.eth.enable = true
      ∧ (sensorKnown 0x700 = true ∧ sensorLost talking 0x700 = false
        ∧ talking.bit.sensors.find? (fun e => e.1 == 0x700) = some (0x700, 250))
      ∧ spdmAt talking .i3c = .negotiated := by decide +kernel

/-- Test port 1 in use, at `st` with instruction `ir`. -/
def tapAt (st : TapSt) (ir : TapIr) (dbg : Bool) : State := { managed with bit := { managed.bit with
  i3cIsolated := true, tapPort := 1, dbgEn := dbg, tap := { managed.bit.tap with st := st, ir := ir } } }

theorem wit_BusesRejoinAndTapFollowsItsDiagram :
    (managed.bit.i3cIsolated = false ∧ (tapAt .tlr .idcode true).bit.i3cIsolated = true
        ∧ managed.bit.lsmIsolated.getLsbD 1 = false ∧ acting managed ≠ none ∧ managed.bit.lsmIsolated.getLsbD (15 / 8) = false)
      ∧ (managed.bit.tapPort = 0 ∧ managed.bit.tap.st = .tlr)
      ∧ (∀ st ∈ ([.capDr, .shDr, .shIr] : List TapSt), (tapAt st .idcode true).bit.tapPort = 1
        ∧ ¬(tapServed (tapAt st .idcode true) (tapAt st .idcode true).bit.tap.ir = .priv ∧ st = .capDr))
      ∧ (tapNext .tlr true = .tlr ∧ (tapAt .capDr .priv true).bit.tapPort ≠ 0 ∧ (tapAt .capDr .priv true).bit.tapPort ≠ 2)
      ∧ ((tapAt .capDr .priv true).bit.tap.ir = .priv ∧ (tapAt .capDr .priv true).bit.dbgEn = true
        ∧ (tapAt .capDr .priv true).bit.tap.st = .capDr) := by decide +kernel

/-! ### Power, protection and the package states -/

/-- The managed package, in a package state, with no work. -/
def pwrOf (p : PkgSt) (f : Pwr → Pwr) : State := { managedIn p with pwr := f (managedIn p).pwr }
/-- The power-on sequence of a part whose every test passes. -/
def fine : SeqInput := {}

theorem wit_PackageStatesFollowTheirRequests :
    ((managedIn .off).pst = .off ∧ (36000 : Int) ≤ 44000)
      ∧ ((managedIn .standby).pst = .standby ∧ (managedIn .tripped).pst = .tripped)
      ∧ (managed.host.linkUp = true ∧ managed.pst = .active ∧ managed.pwr.entering = false ∧ managed.pwr.exiting = false
        ∧ anyReset managed = false ∧ managed.queues.any (fun e => e.2.st != .disabled) = false)
      ∧ (pwrOf .active (fun x => { x with entering := true })).pwr.entering = true
      ∧ ((managedIn .dormant).host.linkUp = true ∧ (managedIn .dormant).pst = .dormant)
      ∧ (pwrOf .dormant (fun x => { x with waking := true })).pwr.waking = true
      ∧ (∀ q, q < 64 → ((managed.queue q).groupEn && (managed.queue q).st == .running) = false)
      ∧ (pwrOf .active (fun x => { x with exiting := true })).pwr.exiting = true
      ∧ (answers (managedIn .standby) .i3c = true ∧ (managedIn .standby).bring.run = false)
      ∧ answers (managedIn .tripped) .i3c = true := by decide +kernel

/-- A sample with every core diode at `c` and every other at `o`. -/
def diodes (c o : Int) : ThermalRead := ⟨List.replicate 512 c, List.replicate 96 o⟩
/-- The package with rail 0's overcurrents at `l`. -/
def railed (l : List Nat) : State := { managed with bring := { managed.bring with railOc := [(0, l)] } }
/-- PWR.CTRL at the part's greatest cap and operating point 11. -/
def capWord : W64 := 4300 + 11 * 2 ^ 32

theorem wit_ProtectionsTripOrActOnTheirSamples :
    ((2 : Fin 4).val < 3 ∧ managed.pst ≠ .off ∧ managed.pst ≠ .tripped)
      ∧ (thermalTemps (diodes 1100 400)).any (fun e => decide (1100 ≤ e.2) && decide (e.1 < 0x318)) = true
      ∧ (popCount 24 ((pwrOf .active (fun x => { x with stagesBad := 0xFFF })).pwr.stagesBad
            ||| BitVec.ofNat 24 (2 ^ 12)).toNat > 12
        ∧ (pwrOf .active (fun x => { x with stagesBad := 0xFFF })).pwr.stagesBad.getLsbD 12 = false
        ∧ popCount 24 ((pwrOf .active (fun x => { x with stagesBad := 0x7FF })).pwr.stagesBad
            ||| BitVec.ofNat 24 (2 ^ 12)).toNat = 12)
      ∧ (32 : Fin 50).val = 32 ∧ managed.pwr.rangeLogged = false ∧ managed.pwr.rsenseLost = false
      ∧ tabGet (railed []).bring.railOc [] 0 = [] ∧ tabGet (railed [0]).bring.railOc [] 0 = [0]
      ∧ tabGet (railed [0, 0]).bring.railOc [] 0 = [0, 0]
      ∧ ((railed [0]).uptime < 0 + 1000000000 ∧ (railed [0]).uptime < 0 + dayNs ∧ (clusterCores 0).any (coreOn (railed [0])) = true)
      ∧ managed.pwr.droop.contains 31 = false ∧ coreOn managed 255 = true
      ∧ (25 < 26 ∧ 2449 < 2450)
      ∧ ((∀ e ∈ thermalTemps (diodes 1059 400), e.2 < 1060)
        ∧ (thermalTemps (diodes 1099 400)).any (fun e => decide (1100 ≤ e.2) && decide (e.1 < 0x318)) = false
        ∧ (hotRuns (pwrOf .active (fun x => { x with over106 := [(0x2FF, 99)] })).pwr (thermalTemps (diodes 1060 400))).any
            (fun e => decide (100 ≤ e.2)) = true
        ∧ (hotRuns (pwrOf .active (fun x => { x with over106 := [(0x2FF, 98)] })).pwr (thermalTemps (diodes 1060 400))).any
            (fun e => decide (100 ≤ e.2)) = false)
      ∧ ((pwrOf .active (fun x => { x with rangeLogged := true })).pwr.rangeLogged = true
        ∧ (pwrOf .active (fun x => { x with rsenseLost := true })).pwr.rsenseLost = true
        ∧ (pwrOf .active (fun x => { x with sensorLogged := [1] })).pwr.sensorLogged.contains 1 = true
        ∧ managed.pwr.sensorLogged.contains 1 = false ∧ bits (0 : W64).toNat 15 0 < 1200)
      ∧ (5000 < 5001 ∧ ¬ (5000 < 5000 ∨ 125 * 4000 < 100 * 5000))
      ∧ (served managed = true ∧ bits capWord.toNat 15 0 = 4300 ∧ partTdp managed.partNo = 4300
        ∧ managed.agt.opEn.getLsbD (bits capWord.toNat 35 32) = true ∧ bits capWord.toNat 63 36 = 0
        ∧ bits capWord.toNat 31 17 = 0) := by decide +kernel

/-! ### Resets, fences and injected errors -/

/-- Core 9 with the parity halts `l`. -/
def halted (l : List Nat) : State := managed.setCore 9 { managed.core 9 with ras := { (managed.core 9).ras with parity := l } }
/-- The package with the given resets under way. -/
def resets (cs ks ps : List Nat) : State := { managed with bring := { managed.bring with
  coreResets := cs, clusterResets := ks, partWait := ps } }

theorem wit_CoresAreResetFencedAndInjected :
    (∀ l ∈ ([[], [0], [0, 0]] : List (List Nat)), (halted l).pst = .active ∧ coreOn (halted l) 9 = true
        ∧ ((halted l).core 9).ras.inReset = false ∧ (halted l).bring.clusterResets.contains (9 / 8) = false
        ∧ (((halted l).core 9).ras.parity.filter (fun t => decide ((halted l).uptime < t + dayNs))).length = l.length)
      ∧ ((halted [0]).core 9).ras.parity ≠ []
      ∧ (resets [9] [] []).bring.coreResets.contains 9 = true ∧ (resets [] [31] []).bring.clusterResets.contains 31 = true
      ∧ (resets [] [] [7]).bring.partWait.contains 7 = true
      ∧ (served managed = true ∧ scopeOk managed 0 255 = true ∧ scopeOk managed 1 31 = true ∧ scopeOk managed 2 0 = true
        ∧ scopeOk coreOut 0 0 = false ∧ served coreOut = true ∧ scopeOk managed 1 32 = false ∧ scopeOk managed 2 8 = false)
      ∧ (∀ pg ∈ ([2, 6, 0xB, 0xC, 0xF, 0x19, 0x6F, 0x13F] : List Nat), (pageBlock pg).isSome = true)
      ∧ (pageBlock 0xC).isSome = true ∧ (pageBlock 0xF).isSome = true := by decide +kernel

/-! ### The host -/

/-- A queue of virtual function 1 that drains, both under reset. -/
def flring : State :=
  let s := managed.setQueue 63 { ctrl := BitVec.ofNat 64 (2 ^ 29), st := .stopped, draining := true }
  { s with host := { s.host with flrs := [1], vfEnable := true, numVfs := 8, perst := false } }

/-- A queue of virtual function 1 that drains with a record of its frame unfinished. -/
def flFrame : Queue := { ctrl := BitVec.ofNat 64 (2 ^ 29), st := .stopped, draining := true, recs := [rcd 0 0]
                         frame := some { first := 0, len := 1, startTick := 0, closing := 4 } }

/-- What the default and every listed value of a table satisfy, every reading satisfies. -/
theorem tabGet_all {α : Type} {P : α → Prop} {d : α} (hd : P d) :
    ∀ t : Tab α, (∀ e ∈ t, P e.2) → ∀ i, P (tabGet t d i) := by
  intro t h i
  induction t with
  | nil => exact hd
  | cons e t ih =>
    unfold tabGet
    split
    · exact h e (by simp)
    · exact ih (fun x hx => h x (by simp [hx]))

theorem wit_TheHostLinkComesAndGoes :
    ((managedIn .standby).pst = .standby ∧ (managedIn .standby).host.perst = false)
      ∧ ((managedIn .dormant).pst = .dormant ∧ (managedIn .dormant).host.perst = false)
      ∧ (∀ q, (flring.queue q).draining = true → (flring.queue q).st ≠ .running)
      ∧ (served flring = true ∧ fnExists flring 8 = true)
      ∧ ((flring.queue 63).draining = true ∧ (flring.queue 63).frame = none
        ∧ flring.host.flrs.contains (flring.queue 63).func = true)
      ∧ managed.host.vfEnable = false ∧ flring.host.vfEnable = true
      ∧ (flFrame.st = .stopped ∧ flFrame.draining = true ∧ flFrame.frame = some { first := 0, len := 1, startTick := 0, closing := 4 }
        ∧ frameRecs flFrame = [rcd 0 0] ∧ findRec (managed.setQueue 63 flFrame) ⟨63, 0⟩ = some (rcd 0 0)
        ∧ (rcd 0 0).isDone = false) :=
  ⟨by decide +kernel, by decide +kernel, tabGet_all (P := fun x : Queue => x.draining = true → x.st ≠ .running) (by decide) _ (by decide +kernel), by decide +kernel, by decide +kernel,
    by decide +kernel, by decide +kernel, by decide +kernel⟩

/-- Virtual function 1 with context 0 behind its BAR4. -/
def vfOn : State := { mapped with host := { mapped.host with vfEnable := true, numVfs := 8, vfCtx := 0x80 } }

theorem wit_Bar4ReachesHbm :
    served managed = true ∧ managed.pst = .active
      ∧ (bits (2 ^ 36 : W64).toNat 63 44 = 0 ∧ bits (2 ^ 36 : W64).toNat 29 0 = 0
        ∧ (2 ^ 36 : W64).toNat % 2 ^ managed.host.bar4Log = 0
        ∧ (2 ^ 36 : W64).toNat + 2 ^ managed.host.bar4Log ≤ 0x20000000000)
      ∧ (2 ^ 36 - 8 + 8 ≤ 2 ^ managed.host.bar4Log
        ∧ bar4Hbm managed (managed.host.bar4Base.toNat + (2 ^ 36 - 8)) 8 = true)
      ∧ bar4Hbm { managed with agt := { managed.agt with diesActive := 14 } } 0 8 = false
      ∧ (served vfOn = true ∧ fnExists vfOn 1 = true ∧ vfOn.pst = .active
        ∧ (∀ w ∈ ([false, true] : List Bool), bar4Target vfOn 1 0x1000 8 w = some 0x1000)
        ∧ bar4Target vfOn 1 (2 ^ 36 - 8) 16 false = none ∧ bar4Target vfOn 1 (2 ^ 35) 8 true = none) := by decide +kernel

/-- A context whose invalidation waits. -/
def invOn : State := managed.setCtx 63 { inv := some 0, root := 0x8000000000000000 }

/-- An invalidation of context 0 that waits for the walk of engine H1 of core 255. -/
def invWalk : State :=
  let s := (qOn 0).setCore 255 { (qOn 0).core 255 with heron := { h1 := { run := some { ref := ⟨0, 0⟩ }, walk := some 0 } } }
  s.setCtx 0 { s.ctx 0 with inv := some 0, walks := [511] }

theorem wit_ContextsMapsAndCountersAreWritten :
    (ctxInUse managed 63 = false ∧ ctxInUse (qOn 0) 0 = true ∧ served (qOn 0) = true
        ∧ bits (0x40000000 : W64).toNat 62 44 = 0 ∧ bits (0x40000000 : W64).toNat 11 0 = 0)
      ∧ ((0x8000000040000000 : W64).getLsbD 63 = true ∧ hbmOk managed (bits (0x8000000040000000 : W64).toNat 43 12 * 4096) = true
        ∧ hbmOk managed (bits (0x8000000040000000 : W64).toNat 43 12 * 4096 + 4095) = true
        ∧ lateDie managed (bits (0x8000000040000000 : W64).toNat 43 12 * 4096) = false)
      ∧ ((invWalk.ctx 0).inv = some 0 ∧ (walkers invWalk 0).any (fun k => (invWalk.ctx 0).walks.contains k) = true)
      ∧ ((managed.ctx 63).inv = none ∧ bits (3 : W64).toNat 63 48 = 0 ∧ bits (3 : W64).toNat 15 2 = 0)
      ∧ ((invOn.ctx 63).inv = some 0 ∧ (walkers invOn 63).any (fun k => (invOn.ctx 63).walks.contains k) = false)
      ∧ (∀ i, i < 8 → bits (0x0706050403020100 : W64).toNat (8 * i + 7) (8 * i) < 8 ∧ tabGet managed.partOf 255 (8 * 3 + i) ≠ 255)
      ∧ (Nat.land (0x0808080808080808 : W64).toNat 0xF0F0F0F0F0F0F0F0 = 0
        ∧ ∀ c, c < 8 → bits (0x0808080808080808 : W64).toNat (8 * c + 2) (8 * c) = (managed.fence (8 * 31 + c)).owner)
      ∧ (0x3FFFFFFFFF : W64).toNat < 2 ^ 38 := by decide +kernel

theorem wit_RegistersAreReadAndWritten :
    ((pageBlock 0x10FF).isSome = true ∧ 4088 % 8 = 0 ∧ 4088 < 4096)
      ∧ (fnExists flring 1 = true ∧ served flring = true ∧ regSpace 0x3FFFFFF = .unmapped)
      ∧ seesPage flring 1 2 = false ∧ (pageBlock 2).isSome = true ∧ bits (0xFFFFFFFF : W64).toNat 63 32 = 0 := by
  decide +kernel
/-! ### The tick and domain time -/

/-- Tick state changed. -/
def ticked (f : Tick → Tick) : State := { managed with tick := f managed.tick }
/-- A change to select 3 announced for domain time `t`. -/
def changing (t : Nat) : State := ticked (fun x => { x with change := some (t, 3) })

theorem wit_TicksAdvanceDomainTime :
    (managed.pst = .active ∧ managed.tick.stepBy = 0)
      ∧ ((changing 16384).tick.change = some (16384, 3) ∧ 16384 ≤ nextTime (changing 16384))
      ∧ ((ticked (fun x => { x with adopt := some (16384, 0) })).tick.change = none
        ∧ 16384 ≤ nextTime (ticked (fun x => { x with adopt := some (16384, 0) })))
      ∧ nextTime (changing 16385) < 16385
      ∧ (({ managed with pwr := { managed.pwr with next := some capWord } } : State).pwr.next = some capWord
        ∧ ({ managed with bring := { managed.bring with fences := [⟨0, 255⟩] } } : State).bring.fences = [⟨0, 255⟩]
        ∧ ({ managed with host := { managed.host with fencePend := [(31, 7)] } } : State).host.fencePend = [(31, 7)]
        ∧ ({ managed with xbar := { managed.xbar with pend := [(3, 1)] } } : State).xbar.pend = [(3, 1)]) := by decide +kernel

/-- Queue 0 running with one record of one frame submitted. -/
def qReady (w : Nat) : State := mapped.setQueue 0 {
  ctrl := 6 * 2 ^ 21, ring := 0x20000, cring := 0x10000, st := .running, fetched := 1, sqTail := 1, recs := [rcd 0 w] }

theorem wit_FramesStartAtTicks : (qReady 0x400).pst = .active ∧ (qReady 0x400).pwr.exiting = false
    ∧ ((qReady 0x400).queue 0).st = .running ∧ ((qReady 0x400).queue 0).frame = none
    ∧ queueHolds (qReady 0x400) 0 4 = false ∧ ((qReady 0x400).queue 0).groupEn = false
    ∧ nextFrameLen (qReady 0x400) 0 = some 1 ∧ peekRec (qReady 0x400) 0 ((qReady 0x400).queue 0).next = some (rcd 0 0x400)
    ∧ startCond (qReady 0x400) 0 (rcd 0 0x400) 4 = true := by decide +kernel

/-- Port `k` Up between this package and device 5. -/
def upOn (s : State) (k : Nat) : State := s.setPort k { s.port k with
  st := .up, nbrDev := 5, usable := true, shared := 2208, floor := (upTo 6).map (fun v => (v, 32)) }
/-- The package as a slave of device 5 over port 0. -/
def slave (f : Tick → Tick) : State := upOn (ticked (fun x => f { x with
  master := some 5, lone := false, parent := some ⟨0, 5, 0⟩, refclkB := true })) 0

theorem wit_DomainTimeIsKept :
    (isMaster (ticked (fun x => { x with master := some (devId managed) })) = true ∧ (4 : W64).toNat ≤ 4
        ∧ managed.host.linkUp = true ∧ managed.tick.change = none)
      ∧ (isMaster (slave id) = false ∧ served (slave id) = true)
      ∧ ((slave (fun x => { x with backup := some (devId managed), quiet := 4 })).tick.master = some 5 ∧ 5 ≠ devId (slave id)
        ∧ (slave id).tick.backup = none ∧ (slave (fun x => { x with backup := some 9, quiet := 8 })).tick.backup = some 9
        ∧ 9 ≠ devId (slave id) ∧ 8 ≤ (slave (fun x => { x with backup := some 9, quiet := 8 })).tick.quiet)
      ∧ 64 < (slave (fun x => { x with missed := 65 })).tick.missed
      ∧ (0 < (slave (fun x => { x with missed := 64 })).tick.missed ∧ (slave (fun x => { x with missed := 64 })).tick.missed ≤ 64)
      ∧ accepts (slave id) 0 = true
      ∧ ((slave (fun x => { x with sync := some (255, 0) })).tick.parent = some ⟨0, 5, 0⟩
        ∧ (slave (fun x => { x with sync := some (255, 0) })).tick.sync = some (255 % 256, 0))
      ∧ ((25 * 256 : Int).natAbs ≤ 25 * 256 ∧ 25 * 256 < (250 * 256 : Int).natAbs ∧ (250 * 256 : Int).natAbs ≤ 250 * 256
        ∧ 250 * 256 < (250 * 256 + 1 : Int).natAbs)
      ∧ (5 ≠ devId (slave id) ∧ masterAccepted (slave id) 5 9 = true ∧ (slave id).tick.change = none
        ∧ 4 ≠ (slave id).tick.sel ∧ (slave id).tick.adopt = none)
      ∧ (managed.pst ≠ .off ∧ managed.tick.refclkB = true)
      ∧ ((ticked (fun x => { x with refclkB := false })).tick.refclkB = false ∧ managed.bring.wait = none) := by
  decide +kernel

/-- Group 7 with queue 0 as its member, port 0 Up. -/
def grouped : State := upOn (qGroup 0) 0

theorem wit_DomainMessagesActOnce :
    (accepts grouped 0 = true ∧ (slotOf grouped 7).isSome = true ∧ grouped.tick.seen.contains (5, 7, 4) = false
        ∧ grouped.tick.last < 4)
      ∧ (0 ≤ grouped.tick.last ∧ memberQ grouped 7 = some 0 ∧ grouped.tick.seen.contains (5, 7, 0) = false)
      ∧ grouped.tick.seen.any (fun e => e.1 == 6 && e.2.1 == 7 * 2 ^ 18 + 5) = false ∧ grouped.tick.seen.contains (7, 16384, 0) = false
      ∧ (grouped.tick.seen.contains (4, 5, 0) = false ∧ 5 ≠ devId grouped)
      ∧ 64 ≤ ({ grouped with tick := { grouped.tick with groups := [(7, { consec := 64 })] } }.group 7).consec := by
  decide +kernel

/-! ### Ports -/

/-- Port 63 as given. -/
def portAs (x : Port) : State := managed.setPort 63 x

/-- Port 63 as given while a power-on sequence runs. -/
def portIn (x : Port) : State := { portAs x with bring := { managed.bring with run := true } }

theorem wit_PortsTrainAndGoDown_forms :
    (portsRun managed = true ∧ portsRun (managedIn .dormant) = false
        ∧ served ((managedIn .dormant).setPort 63 { st := .disabled }) = true
        ∧ portPresent (managedIn .dormant) 63 = true)
      ∧ (portPresent { managed with partNo := .p4032n } 63 = false ∧ served { managed with partNo := .p4032n } = true)
      ∧ ((portAs { st := .training }).port 63).st = .training
      ∧ (((portAs { st := .training }).port 63).st = .training ∧ managed.fab.cfg.getLsbD 28 = false)
      ∧ ({} : Port).retrain = true ∧ ((portAs { retrain := false }).port 63).retrain = false
      ∧ (∀ w ∈ ([16999999, 17000000, 85000000, 85000001] : List Nat),
        ((portIn { st := .up, firstWin := true }).port 63).st = .up ∧ (portIn { st := .up, firstWin := true }).bring.run = true
        ∧ ((portIn { st := .up, firstWin := true }).port 63).firstWin = true
        ∧ ((85000000 < w ∨ 17000000 ≤ w) ∨ (w ≤ 85000000 ∧ w < 17000000))) := by decide +kernel

theorem wit_PortsTrainAndGoDown :
    (served managed = true ∧ portPresent managed 63 = true ∧ (managed.port 63).st = .disabled)
      ∧ (portPresent (portAs { st := .up }) 63 = true ∧ ((portAs { st := .up }).port 63).st ≠ .disabled)
      ∧ (((portAs { st := .training }).port 63).st = .training ∧ 5 ≠ devId (portAs { st := .training })
        ∧ managed.fab.cfg.getLsbD 28 = false ∧ devId (portAs { st := .training }) = 0)
      ∧ (((portAs { st := .down }).port 63).st = .down ∧ ((portAs { st := .down }).port 63).retrain = true
        ∧ ((portAs { st := .down }).port 63).en = true)
      ∧ ((portAs { st := .up }).port 63).st = .up ∧ managed.bring.run = false
      ∧ ((∀ k, k < 64 → (managed.port k).st = .disabled ∨ (managed.port k).st = .down)
        ∧ 1 ≤ bits (0xC40040641 : W64).toNat 45 35 ∧ bits (0xC40040641 : W64).toNat 45 35 ≤ 1024
        ∧ bits (0xC40040641 : W64).toNat 34 29 ∈ ([0, 2, 18, 34] : List Nat) ∧ bits (0xC40040641 : W64).toNat 11 4 ≠ 0
        ∧ bits (0xC40040641 : W64).toNat 3 1 = 0)
      ∧ (slotBusy managed 95 = false ∧ bits (262144 * 2 ^ 45 : W64).toNat 63 45 ≤ 262144
        ∧ (262144 * 2 ^ 45 : W64).getLsbD 44 = false ∧ bits (262144 * 2 ^ 45 : W64).toNat 5 0 = 0
        ∧ bits (0x3FFFF : W64).toNat 63 18 = 0) := by decide +kernel

/-- A packet of type `t` for device `dst` with `n` lines. -/
def pkt (t dst n : Nat) : Packet := { ptype := t, dst := dst, src := 5, nlines := n }
/-- Port 63 Up with the given queues. -/
def sending (c : List CtlMsg) (b : List (Packet × Nat)) (fl : Tab Nat) (r : List SeqFlit) : State :=
  portAs { st := .up, cq := c, bq := b, floor := fl, shared := 1, replay := r, discarding := true }

theorem wit_FlitsAreSentAndAcknowledged :
    (((sending [.period 0 1] [] [] []).port 63).st = .up ∧ ((sending [.period 0 1] [] [] []).port 63).replay.length < 3072
        ∧ ((sending [.period 0 1] [] [] []).port 63).cq = [.period 0 1])
      ∧ (((sending [] [(pkt 1 5 1, 0)] [] []).port 63).cq = []
        ∧ ((sending [] [(pkt 1 5 1, 0)] [] []).port 63).nextB = some (pkt 1 5 1, 0)
        ∧ packetFlits (pkt 1 5 1) ≤ 0 + 1)
      ∧ (((sending [] [(pkt 1 5 1, 0)] [(0, 1)] []).port 63).nextB = some (pkt 1 5 1, 0)
        ∧ 0 < tabGet ((sending [] [(pkt 1 5 1, 0)] [(0, 1)] []).port 63).floor 0 0)
      ∧ (0 < ((sending [] [] [] [.ctl (.period 0 1)]).port 63).replay.length
        ∧ ((sending [] [] [] [.ctl (.period 0 1)]).port 63).bq = [])
      ∧ ((sending [] [] [] []).port 63).discarding = true
      ∧ (((sending [] [] [] []).port 63).cq = [] ∧ ((sending [] [] [] []).port 63).nextB = none)
      ∧ 3072 ≤ ((sending [] [] [] (List.replicate 3072 (.ctl (.period 0 1)))).port 63).replay.length
      ∧ (∀ n ∈ ([15, 16] : List Nat), ((portAs { st := .up, replays := n }).port 63).st = .up
        ∧ (ackFlits ((portAs { st := .up, replays := n }).port 63) 5).replays = n) := by decide +kernel

/-! ### Die-to-die links, guest sites and bring-up -/

/-- Module 15 of link `l` in use, as given. -/
def modded (l : Nat) (x : Module) : State := managed.setModule l 15 x
/-- Guest site 1 as given, in a state of a link in use. -/
def guestAs (x : Guest) : State := (modded 5 { st := 2 }).setGuest 1 x

theorem wit_ModulesRetryAndFail :
    ((modded 3 { st := 2, unacked := 256, discarding := true }).module 3 15).usable = true
      ∧ (255 < ({ st := 2, unacked := 256 } : Module).unacked)
      ∧ ((modded 3 { st := 2, discarding := true }).module 3 15).discarding = true
      ∧ ((modded 3 { st := 2 }).link 3).thresh = 1000
      ∧ (modded 3 { st := 2 }).agt.diesActive.getLsbD 3 = true
      ∧ (((guestAs { st := 2 }).module 5 15).usable = true ∧ ((guestAs { st := 2 }).guest (5 - 4)).st = 2
        ∧ ((guestAs { st := 2 }).guest (5 - 4)).removing = false)
      ∧ (({ modded 3 { st := 2 } with agt := { managed.agt with diesActive := 7 } } : State).agt.diesActive.getLsbD 3 = false
        ∧ ((guestAs { st := 2, removing := true }).guest (5 - 4)).removing = true
        ∧ ((guestAs { st := 3 }).guest (5 - 4)).st ≠ 1 ∧ ((modded 3 { st := 5 }).module 3 15).usable = false) := by decide +kernel

/-! ### Guest sites and sequences -/

/-- A guest identity block whose power byte is 75, whose window byte is `w` and whose capability byte is `c`. -/
def ident (w c : Nat) : List Byte := [0, 0, 0, 0, 0, 0, 75, BitVec.ofNat 8 w, BitVec.ofNat 8 c]
/-- GUEST.CTRL with ADMIT, a budget of `b` W and the low bits `f`. -/
def ctrlW (b f : Nat) : W64 := BitVec.ofNat 64 (b * 2 ^ 48 + f)
/-- `mapped`, with guest site 1 as given. -/
def siteOn (x : Guest) : State := mapped.setGuest 1 x
/-- Site 1 Active as a bus master in context 0. -/
def masterSite (x : Guest) : State := siteOn { x with st := 2, ctrl := ctrlW 75 4 }

theorem wit_GuestsAreAdmittedServedAndRemoved :
    (served (siteOn { st := 1, ident := ident 0 0 }) = true ∧ ((siteOn { st := 1, ident := ident 0 0 }).guest 1).st = 1
        ∧ (ctrlW 75 1).getLsbD 1 = false ∧ bits (ctrlW 75 1).toNat 63 56 = 0 ∧ bits (ctrlW 75 1).toNat 47 46 = 0
        ∧ bits (ctrlW 75 1).toNat 31 3 = 0
        ∧ admitCheck ((siteOn { st := 1, ident := ident 0 0 }).setGuest 1
            { st := 1, ident := ident 0 0, ctrl := ctrlW 75 1 &&& ~~~3 }) 1 = 0
        ∧ admitCheck ((siteOn { st := 1, ident := ident 0 0 }).setGuest 1
            { st := 1, ident := ident 0 0, ctrl := ctrlW 76 1 &&& ~~~3 }) 1 = 2
        ∧ bits (ctrlW 76 1).toNat 63 56 = 0)
      ∧ (((siteOn { st := 1, admitting := true }).guest 1).st = 1
        ∧ ((siteOn { st := 1, admitting := true }).guest 1).admitting = true)
      ∧ (served (masterSite {}) = true ∧ ((masterSite {}).guest 1).removing = false
        ∧ bits (ctrlW 0 2).toNat 63 56 = 0 ∧ bits (ctrlW 0 2).toNat 47 46 = 0 ∧ bits (ctrlW 0 2).toNat 31 3 = 0)
      ∧ ((masterSite { removing := true }).guest 1).removing = true
      ∧ ((masterSite {}).pst = .active ∧ ((masterSite {}).guest 1).st = 2 ∧ ((masterSite {}).guest 1).master = true
        ∧ 0 / 4096 = (0 + 64 * 64 - 1) / 4096 ∧ (2 ^ 47 : W64).toNat % 2 ^ 48 / 64 * 64 = 2 ^ 47
        ∧ guestTarget (masterSite {}) 0 (2 ^ 47) 64 true = .fault 0x20
        ∧ guestTarget (masterSite {}) 0 0 4096 true = .pa 0 ∧ guestTarget (masterSite {}) 0 0 4096 false = .pa 0
        ∧ (masterSite {}).bring.lateDies = 0 ∧ (linesOf 0 4096).all (fun l => !rangeBad (masterSite {}) l 64) = true)
      ∧ (avgOver (751 :: [750]) (10 * 75) = true ∧ avgOver [750] (10 * 75) = false) := by decide +kernel

/-- Site 1's master with the second line of the page poisoned, under link version `v`. -/
def poisonedSite (v : Nat) : State :=
  let s := masterSite {}
  { s with poison := [64], links := [(5, { s.link 5 with version := v })] }
theorem wit_GuestsAreAdmittedServedAndRemoved_rest :
    (served (masterSite {}) = true ∧ ((masterSite {}).guest 1).st ≠ 1 ∧ (ctrlW 75 1).getLsbD 1 = false)
      ∧ (∀ v ∈ ([1, 2] : List Nat), (linesOf 0 4096).any (fun l => rangeBad (poisonedSite v) l 64) = true
        ∧ guestTarget (poisonedSite v) 0 0 4096 false = .pa 0 ∧ ((poisonedSite v).link 5).version = v)
      ∧ (managedIn .dormant).pst ≠ .active := by decide +kernel

/-- A sequence in progress at step `n` with windows `w` and ports `p` left. -/
def seqOn (n : Nat) (w : List ReadyWin) (p : List Nat) (l : Tab Link) : State := { managed with
  links := l, bring := { managed.bring with run := true, step := n, wins := w, ports := p } }
/-- Link 3 with twelve usable modules, module 15 with `e` errors. -/
def twelve (e : Nat) : Tab Link :=
  [(3, { mods := (upTo 11).map (fun m => (m, { st := 1 })) ++ [(15, { st := 1, ctr := [(0x208, BitVec.ofNat 64 e)] })] })]

/-- A second window with an error on the last die in service. -/
def lastDie : State :=
  let s := seqOn 6 [⟨3, 15, true⟩] [] (twelve 1)
  { s with bring := { s.bring with diesFenced := 7 } }

theorem wit_SequencesFailOrBecomeReady :
    (∀ e ∈ ([0, 1] : List Nat), (seqOn 6 [⟨3, 15, false⟩] [] (twelve e)).bring.run = true
        ∧ (seqOn 6 [⟨3, 15, false⟩] [] (twelve e)).bring.wins.find? (fun v => v.link == 3 && v.mod == 15) = some ⟨3, 15, false⟩
        ∧ ctrGet ((seqOn 6 [⟨3, 15, false⟩] [] (twelve e)).module 3 15).ctr 0x208 = BitVec.ofNat 64 e
        ∧ 12 ≤ ((seqOn 6 [⟨3, 15, false⟩] [] (twelve e)).link 3).usable
        ∧ 0 ∈ diesUp (seqOn 6 [⟨3, 15, false⟩] [] (twelve e)))
      ∧ (lastDie.bring.run = true ∧ lastDie.bring.wins.find? (fun v => v.link == 3 && v.mod == 15) = some ⟨3, 15, true⟩
        ∧ ctrGet (lastDie.module 3 15).ctr 0x208 ≠ 0 ∧ diesUp lastDie = [3]
        ∧ windowState lastDie 3 15 true true 0 = 4
        ∧ ((lastDie.setModule 3 15 { lastDie.module 3 15 with st := 4 }).link 3).usable < 12)
      ∧ (diesUp (seqOn 6 [⟨3, 15, false⟩] [] (twelve 1)) ≠ [3] ∧ managed.bring.run = false
        ∧ (seqOn 10 [] [63] []).bring.step ≠ 11)
      ∧ ((seqOn 10 [] [63] []).bring.run = true ∧ (seqOn 10 [] [63] []).bring.ports.contains 63 = true)
      ∧ ((seqOn 11 [] [] []).bring.run = true ∧ (seqOn 11 [] [] []).bring.step = 11 ∧ (seqOn 11 [] [] []).bring.wins = []
        ∧ (seqOn 11 [] [] []).bring.ports = []) := by decide +kernel

/-! ### Fabric packets and answers -/

/-- Ports 0 and 30 Up, the route to position 7 over port 0, and window 63 open to every package from 0. -/
def fabOn : State :=
  let s := upOn (upOn mapped 0) 30
  let s := s.setFence 255 { s.fence 255 with remote := true }
  { s with fab := { s.fab with
    rtl := [(7, 1)]
    cwin := [(0x4F0, BitVec.ofNat 64 (7 * 2 ^ 61)), (0x4F8, BitVec.ofNat 64 (2 ^ 44 - 2 ^ 16)),
      (0x6F8, BitVec.ofNat 64 (0x3FFFF * 2 ^ 32))] } }
/-- A fence signal for a counter of this package. -/
def signal (i : Nat) : Packet := { ptype := 5, dst := 0, src := 5, token := BitVec.ofNat 64 (i * 2 ^ 38 + 1) }
/-- A packet for position 7 that has made `h` hops on VC 1. -/
def passing (h : Nat) : Packet := { ptype := 1, dst := 7, src := 5, nlines := 1, hops := h, vc := 1 }

theorem wit_FabricPacketsAreServed :
    (accepts fabOn 30 = true ∧ knownPtype (passing 14).ptype = true ∧ (passing 14).dst ≠ devId fabOn ∧ (passing 14).hops < 15
        ∧ arrivedVc fabOn 30 (passing 14) = 2
        ∧ gSpent fabOn 30 (passing 14) = false ∧ routePort fabOn (routeMask fabOn 7 0 0) 2 = some 0)
      ∧ 15 ≤ (passing 15).hops ∧ gSpent fabOn 30 { passing 0 with vc := 2 } = true
      ∧ routePort fabOn (routeMask fabOn 9 0 0) 2 = none ∧ knownPtype 7 = false ∧ 2 ≤ ({ passing 0 with rphase := 3 } : Packet).rphase
      ∧ ((pkt 1 0 4).dst = devId fabOn ∧ gSpent fabOn 30 { pkt 1 0 4 with vc := 5 } = true)
      ∧ (mine fabOn 0 (pkt 1 0 4) 1 = true ∧ targetStat fabOn 5 0 256 false = 0)
      ∧ targetStat fabOn 5 (2 ^ 44 - 2 ^ 16 - 64) 256 false = 3
      ∧ (mine fabOn 0 { pkt 3 0 1 with data := List.replicate 64 1 } 3 = true ∧ targetStat fabOn 5 0 64 true = 0
        ∧ fabOn.bring.lateDies = 0 ∧ targetStat mapped 5 0 64 true = 3)
      ∧ (mine fabOn 0 (signal 255) 5 = true ∧ (fabOn.fence (tokenCtr (signal 255).token.toNat)).remote = true
        ∧ (fabOn.fence (tokenCtr (signal 254).token.toNat)).remote = false) := by decide +kernel

/-- Core 3's engine 0 waiting for request 7, and a fabric request with TID 65535 to device 5. -/
def asking (wr : Bool) (o : ReqFor) : State :=
  let s := fabOn.setCore 3 { fabOn.core 3 with heron := { (fabOn.core 3).heron with h0 := {
    run := some { ref := ⟨0, 0⟩, out := [{ id := 7, wr := wr, dev := some 5, far := 0, total := 64, num := 0, segs := [] }] } } } }
  { s with fab := { s.fab with reqs := [{ tid := 65535, dev := 5, wr := wr, owner := o }] } }
/-- Whether a packet on port 0 takes the request of `o`, and engine 0 of core 3 then holds request 7. -/
def takes (s : State) (p : Packet) (o : ReqFor) (wr : Bool) : Bool :=
  match takeRequest (takePacket s 0 p) p.tid p.src with
  | none => false
  | some (r, u) => r.owner == o && r.wr == wr && match findReq u ⟨3, 0, 7⟩ with | none => false | some (_, q) => q.wr == wr

theorem wit_FabricAnswersReachTheirRequests :
    (∀ e ∈ ([(2, false), (4, true)] : List (Nat × Bool)),
        mine (asking e.2 (.heron 3 0 7)) 0 { pkt e.1 0 0 with tid := 65535 } e.1 = true
        ∧ takes (asking e.2 (.heron 3 0 7)) { pkt e.1 0 0 with tid := 65535 } (.heron 3 0 7) e.2 = true
        ∧ (findReq (asking e.2 (.heron 3 0 7)) ⟨3, 0, 7⟩).isSome = true)
      ∧ (mine (asking true (.fence ⟨0, 0⟩)) 0 { pkt 6 0 0 with tid := 65535 } 6 = true
        ∧ takes (asking true (.fence ⟨0, 0⟩)) { pkt 6 0 0 with tid := 65535 } (.fence ⟨0, 0⟩) true = true)
      ∧ (∀ t ∈ ([2, 4, 6] : List Nat), mine fabOn 0 { pkt t 0 0 with tid := 65535, stat := 3 } t = true
        ∧ (takeRequest (takePacket fabOn 0 { pkt t 0 0 with tid := 65535, stat := 3 }) 65535 5).isNone = true)
      ∧ (asking true (.fence ⟨0, 0⟩)).fab.reqs.find? (fun x => x.tid == 65535)
          = some { tid := 65535, dev := 5, wr := true, owner := .fence ⟨0, 0⟩ } := by decide +kernel

/-! ### The matrix array -/

/-- Queue 0 with record 0 `w`, and core 255's array as given. -/
def arrayOn (w : Nat) (m : Mxa) : State := (qOn w).setCore 255 { (qOn w).core 255 with mxa := m }
/-- A tile operation on bank 1 with K, M and N 1; `i` is INIT. -/
def tileW (i : Nat) : Nat := 1 + i * 2 ^ 83 + 2 ^ 82 + 2 ^ 96 + 2 ^ 104 + 2 ^ 112
/-- The head of queue 0 waits. -/
def waits : Mxa := { waiting := [⟨0, 0⟩] }

theorem wit_TilesRunAndComplete :
    (∀ e ∈ ([(tileW 1, waits, 0), (tileW 0, { waits with bankB := { st := .opened } }, 0), (tileW 0, waits, 0x0D)] :
        List (Nat × Mxa × Nat)),
      mxaReady (arrayOn e.1 e.2.1) 255 = true ∧ findRec (arrayOn e.1 e.2.1) ⟨0, 0⟩ = some (rcd 0 e.1)
        ∧ pickRef ((arrayOn e.1 e.2.1).core 255).mxa.waiting ((arrayOn e.1 e.2.1).core 255).mxa.lastQ
            (tileReady (arrayOn e.1 e.2.1) 255) = some ⟨0, 0⟩
        ∧ tileStart ((arrayOn e.1 e.2.1).core 255).mxa 0 (rcd 0 e.1) = e.2.2
        ∧ ((arrayOn e.1 e.2.1).core 255).ras.injMxa = false ∧ tileEmpty (rcd 0 e.1) = false)
      ∧ (tileEmpty (rcd 0 (tileW 1 - 2 ^ 96)) = true ∧ tileStart waits 0 (rcd 0 (tileW 1 - 2 ^ 96)) = 0)
      ∧ mxaReady (managedIn .dormant) 255 = false
      ∧ ((arrayOn (tileW 1) { issued := [{ ref := ⟨0, 0⟩, bank := 1, g := 4, waited := 0, ovf := 0, poison := false }] }).core 255).mxa.issued
          = { ref := ⟨0, 0⟩, bank := 1, g := 4, waited := 0, ovf := 0, poison := false } :: [] := by decide +kernel

/-- A drain of bank 1 with one element of KIND `k`, destination `d` and tensor 65535. -/
def drainW (k d : Nat) : Nat :=
  2 + (if k = 0 then 15 * 2 ^ 124 else 0) + d * 2 ^ 112 + 2 ^ 111 + (if d = 2 then 11 * 2 ^ 105 else 0) + 2 ^ 240 + 2 ^ 248 + 2 ^ 360
    + k * 2 ^ 385 + 65535 * 2 ^ 428 + 2 ^ 453
/-- The array with bank 1 holding 1.0 in its first element, and a drain in the pipeline. -/
def draining : Mxa := { bankB := { st := .draining, tile := [0x3FFFFFFFF] }, drainWait := some ⟨⟨0, 0⟩, 0⟩ }
/-- Whether a drain in the pipeline may read its rows, with no parity error waiting for it. -/
def drainsB (w : Nat) : Bool :=
  let s := arrayOn w draining
  mxaReady s 255 && findRec s ⟨0, 0⟩ == some (rcd 0 w) && !(s.core 255).ras.injDrain && drainCan s 255 0 (rcd 0 w)
    && (s.core 255).mxa.drainWait == some ⟨⟨0, 0⟩, 0⟩
/-- A scale entry of KIND 1 that the drain at row 0 does not set. -/
def waited : State :=
  let s := arrayOn (drainW 1 0) draining
  { s with
    numx := { s.numx with tab := [(65535, { kind := 1, originRow := 1 })] }
    tick := { s.tick with last := 2 * tickStep s.tick.sel } }
/-- A drain between its passes. -/
def between : ScalingDrain := { ref := ⟨0, 0⟩, vals := [], t := .fin false 1 0, amax := 0, cold := true, wispSel := false, poison := false }
/-- A Wisp task of entry 65535 whose stored value is not finite. -/
def lost : WispTask := { tid := 65535, row0 := 0, col0 := 0, part := 0, rs := [0x3F80], qs := [.nan] }

theorem wit_DrainsRunInOneOrTwoPasses :
    (mxaReady (arrayOn (drainW 0 2) waits) 255 = true ∧ ((arrayOn (drainW 0 2) waits).core 255).mxa.drainWait = none
        ∧ pickRef waits.waiting waits.lastQ (fun c => match findRec (arrayOn (drainW 0 2) waits) c with
          | none => false
          | some r => r.opcode == 3 || (r.opcode == 2 && !waits.issued.any (fun o => o.bank == b2n r.dBank))) = some ⟨0, 0⟩
        ∧ (rcd 0 (drainW 0 2)).isFlush = false ∧ drainStart (arrayOn (drainW 0 2) waits) 255 0 (rcd 0 (drainW 0 2)) = 0x0D)
      ∧ (drainsB (drainW 0 2) = true ∧ needsScale (arrayOn (drainW 0 2) draining) 0 (rcd 0 (drainW 0 2)) = false
        ∧ (rcd 0 (drainW 0 2)).dDest = 2 ∧ (rcd 0 (drainW 0 2)).dPeat = 11)
      ∧ (drainsB (drainW 1 0) = true ∧ needsScale (arrayOn (drainW 1 0) draining) 0 (rcd 0 (drainW 1 0)) = true
        ∧ (rcd 0 (drainW 1 0)).isFlush = false)
      ∧ (mxaReady (arrayOn (drainW 1 1) { scaling := some between }) 255 = true
        ∧ ((arrayOn (drainW 1 1) { scaling := some between }).core 255).mxa.scaling = some between
        ∧ (rcd 0 (drainW 1 1)).dDest = 1 ∧ ((arrayOn (drainW 1 1) { scaling := some between }).core 255).mxa.slotFree = true)
      ∧ (target (waited.entry 0 65535).kind (histMax2 ((waited.entry 0 65535).histMax (waited.entry 0 65535).filled)
          (.fin false 1 0)) (waited.entry 0 65535).coldMargin).isSome = true
      ∧ (mxaReady waited 255 = true ∧ (waited.core 255).mxa.drainWait = some ⟨⟨0, 0⟩, 0⟩
        ∧ findRec waited ⟨0, 0⟩ = some (rcd 0 (drainW 1 0)) ∧ needsScale waited 0 (rcd 0 (drainW 1 0)) = true
        ∧ isScaling waited 0 (rcd 0 (drainW 1 0)) = false ∧ 0 + 2 * tickStep waited.tick.sel ≤ waited.tick.last)
      ∧ (((arrayOn 0 { wisp := some lost }).core 255).mxa.wisp = some lost ∧ wispLost lost = true ∧ lost.tid < 65536) := by
  decide +kernel

/-- A drain waits behind another in the pipeline or alone, its bank opened. -/
def behindOf (d : Option DrainWait) : Mxa := { waits with bankB := { st := .opened, tile := [0x3FFFFFFFF] }, drainWait := d }
/-- A flush waits; Peat entry 0 as given. -/
def flushOn (x : Peat) : State := arrayOn 3 { waits with peat := [(0, x)] }
/-- Core 255 with a parity error armed for its next drain. -/
def armedDrain (w : Nat) : State :=
  let s := arrayOn w draining
  s.setCore 255 { s.core 255 with ras := { (s.core 255).ras with injDrain := true } }
/-- A Wisp task whose stored value is twice the drained one. -/
def twice : WispTask := { lost with qs := [.fin false 2 0] }

theorem wit_DrainsRunInOneOrTwoPasses_forms :
    (drainChoice (arrayOn (drainW 0 0) (behindOf (some ⟨⟨0, 0⟩, 0⟩))) 255 = some ⟨0, 0⟩
        ∧ drainBank (behindOf (some ⟨⟨0, 0⟩, 0⟩)) 0 (rcd 0 (drainW 0 0)) = 0
        ∧ drainChoice (arrayOn (drainW 0 0) (behindOf none)) 255 = some ⟨0, 0⟩
        ∧ drainStart (arrayOn (drainW 0 0) (behindOf none)) 255 0 (rcd 0 (drainW 0 0)) = 0
        ∧ (rcd 0 (drainW 0 0)).isFlush = false)
      ∧ (∀ x ∈ ([{}, { st := .held }] : List Peat), drainChoice (flushOn x) 255 = some ⟨0, 0⟩
        ∧ (rcd 0 3).isFlush = true ∧ drainStart (flushOn x) 255 0 (rcd 0 3) = 0
        ∧ (((flushOn x).core 255).mxa.peatAt (rcd 0 3).dEntry).st = x.st)
      ∧ drainCan (arrayOn (drainW 0 1) { draining with lagg := (upTo 8).map (fun k => (k, { taken := true })) }) 255 0
          (rcd 0 (drainW 0 1)) = false
      ∧ (((armedDrain (drainW 0 2)).core 255).ras.injDrain = true ∧ (rcd 0 (drainW 0 2)).dM ≠ 0 ∧ (rcd 0 (drainW 0 2)).dN ≠ 0)
      ∧ ((rcd 0 (drainW 0 0)).dDest = 0 ∧ (rcd 0 (drainW 0 1)).dDest = 1 ∧ (rcd 0 (drainW 0 2)).dDest = 2)
      ∧ (((arrayOn (drainW 1 1) { scaling := some { between with answered := true }
                                  lagg := (upTo 8).map (fun k => (k, { taken := true })) }).core 255).mxa.slotFree = false
        ∧ findRec (arrayOn (drainW 1 1) {}) ⟨0, 0⟩ = some (rcd 0 (drainW 1 1)))
      ∧ (wispLost twice = false ∧ (Val.fin false 1 (-(bits (wispCtrl (qOn 0) 0) 39 32 : Int))).lt (decodeS .fp32
          (divF32 (sqrtF32 (decodeS .acc35 (wispSums twice).1)) (sqrtF32 (decodeS .acc35 (wispSums twice).2.1)))) = true)
      ∧ (wispSums { lost with qs := [.inf false] }).2.2 = true := by decide +kernel

/-! ### Heron engines -/

/-- Queue 0 with record 0 `w`, and engine H1 of core 255 as given with TLB `t`. -/
def engOn (w : Nat) (x : HEng) (t : List Leaf) : State :=
  (qOn w).setCore 255 { (qOn w).core 255 with heron := { ((qOn w).core 255).heron with h1 := x, tlb := t } }
/-- A strided read of one run of 128 bytes that ends its region, with further bits. -/
def strideW (x : Nat) : Nat := 8 + 128 * 2 ^ 288 + 2 ^ 312 + 2 ^ 328 + 2 ^ 344 + 128 * 2 ^ 160 + x
/-- An indexed read of one element of 512 bytes with ZERO_FILL. -/
def indexW : Nat := 8 + 2 ^ 273 + 2 ^ 277 + 2 ^ 311 + 512 * 2 ^ 335
/-- The command at its first item, with `n` requests outstanding. -/
def atItem (n : Nat) : HRun := {
  ref := ⟨0, 0⟩, out := (upTo n).map (fun i => { id := i, wr := false, dev := none, far := 0, total := 64, num := 0, segs := [] }) }
/-- The identity leaf of the first GiB. -/
def leaf (r w : Bool) : Leaf := { ctx := 0, va := 0, size := 2 ^ 30, pa := 0, r := r, w := w }
/-- Its engine. -/
def atEng (n : Nat) : HEng := { run := some (atItem n) }
/-- Request 7 of one line. -/
def req7 (wr : Bool) : HReq := { id := 7, wr := wr, dev := none, far := 0, total := 64, num := 0, segs := [⟨0, 64, 64, false⟩] }

theorem wit_HeronEnginesMoveTheirStreams :
    ((engOn (strideW 0) (atEng 0) []).pst = .active ∧ coreOn (engOn (strideW 0) (atEng 0) []) 255 = true
        ∧ ((engOn (strideW 0) (atEng 0) []).heng 255 (engNo true)).run = some (atItem 0)
        ∧ findRec (engOn (strideW 0) (atEng 0) []) ⟨0, 0⟩ = some (rcd 0 (strideW 0)) ∧ (rcd 0 (strideW 0)).isPf = false
        ∧ (atItem 0).allIssued = false ∧ (atItem 0).fault = none
        ∧ ((engOn (strideW 0) (atEng 0) []).heng 255 (engNo true)).walk = none)
      ∧ heronItem (engOn (strideW 0) (atEng 0) []) 255 (rcd 0 (strideW 0)) { pos := 1 } = .done
      ∧ (heronItem (put (engOn indexW (atEng 0) []) (csAddr 255 0) 4 0xFFFFFFFF) 255 (rcd 0 indexW) {} = .skip 0 512
        ∧ (rcd 0 indexW).hZero = true)
      ∧ (heronItem (engOn (strideW (2 ^ 64)) (atEng 0) []) 255 (rcd 0 (strideW (2 ^ 64))) {} = .move 1 0 128
        ∧ regionOk (rcd 0 (strideW (2 ^ 64))) 1 128 = false)
      ∧ (heronItem (engOn (strideW 0) (atEng 24) []) 255 (rcd 0 (strideW 0)) {} = .move 0 0 128
        ∧ regionOk (rcd 0 (strideW 0)) 0 128 = true ∧ (rcd 0 (strideW 0)).hFab = false
        ∧ ((engOn (strideW 0) (atEng 24) []).core 255).heron.outstanding 1 = 24
        ∧ ((engOn (strideW 0) (atEng 23) []).core 255).heron.outstanding 1 = 23
        ∧ tlbFind (engOn (strideW 0) (atEng 23) []) 255 0 0 = none ∧ walksOn (engOn (strideW 0) (atEng 23) []) 255 < 16
        ∧ tlbFind (engOn (strideW 0) (atEng 23) [leaf false true]) 255 0 0 = some (leaf false true)
        ∧ leafGrant (leaf false true) 0 false = .fault 0x21
        ∧ tlbFind (engOn (strideW 0) (atEng 23) [leaf true false]) 255 0 0 = some (leaf true false)
        ∧ leafGrant (leaf true false) 0 false = .pa 0 ∧ paStatus (engOn (strideW 0) (atEng 23) []) 0 = none
        ∧ inHbm 0 = true)
      ∧ (((engOn (strideW 0) { atEng 0 with walk := some 0 } []).heng 255 (engNo true)).walk = some 0
        ∧ (walk (engOn (strideW 0) { atEng 0 with walk := some 0 } []) 0 0).isSome = true
        ∧ (∀ l ∈ walk (engOn (strideW 0) { atEng 0 with walk := some 0 } []) 0 0, leafGrant l 0 false = .pa 0))
      ∧ (∀ w ∈ ([false, true] : List Bool),
        findReq (engOn (strideW 0) { run := some { ref := ⟨0, 0⟩, out := [req7 w] } } []) ⟨255, engNo true, 7⟩
          = some ({ ref := ⟨0, 0⟩, out := [req7 w] }, req7 w))
      ∧ (inHbm 0 = true ∧ inHbm (0 + 64 - 1) = true ∧ rangeBad (engOn (strideW 0) {} []) 0 64 = false)
      ∧ (((mapped.setCore 255 { mapped.core 255 with heron := { flight := [⟨64, 1, 0, ⟨0, 0⟩, false, [], []⟩] } }).core 255).heron.flight[0]?
        = some ⟨64, 1, 0, ⟨0, 0⟩, false, [], []⟩)
      ∧ ((mapped.setCore 255 { mapped.core 255 with heron := { stage := List.replicate 2048 ⟨0, true, 0⟩ } }).core 255).heron.stage.length
        ≤ 2048
      ∧ (mapped.pst = .active ∧ inCs (csAddr 255 6291455) = true ∧ paStatus mapped (csAddr 255 6291455) = none
        ∧ lateDie mapped (csAddr 255 6291455) = false ∧ mapped.latent.contains (unitOf (csAddr 255 6291455)) = false) := by
  decide +kernel

/-- Guest site 1 serving 8 KiB of its window; engine H1 of core 255 has request 7 in it. -/
def windowOn (st : Nat) (wr : Bool) : State :=
  let s := engOn (strideW 0) { run := some { ref := ⟨0, 0⟩, out := [{ req7 wr with far := 0xE0000000000 }] } } []
  s.setGuest 1 { s.guest 1 with st := st, ident := ident 13 2, ctrl := BitVec.ofNat 64 (13 * 2 ^ 40) }
/-- Its run. -/
def windowRunOf (wr : Bool) : HRun := { ref := ⟨0, 0⟩, out := [{ req7 wr with far := 0xE0000000000 }] }

/-- Both engines of eight cores of die 3 wait for walks. -/
def walking : State := (upTo 8).foldl (fun s i => s.setCore (192 + i) { s.core (192 + i) with heron := {
  h0 := { atEng 0 with walk := some 0 }, h1 := { atEng 0 with walk := some 0 } } }) mapped

theorem wit_HeronEnginesMoveTheirStreams_rest :
    ((engOn (strideW 0) {} []).heng 255 (engNo true)).run = none
      ∧ mayPrefetch (engOn (strideW (2 ^ 279)) (atEng 0) []) 255 1 (rcd 0 (strideW (2 ^ 279))) (atItem 0) = true
      ∧ mayPrefetch (engOn (strideW 0) (atEng 0) []) 255 1 (rcd 0 (strideW 0)) (atItem 0) = false
      ∧ (heronItem (put (engOn (indexW - 2 ^ 277) (atEng 0) []) (csAddr 255 0) 4 0xFFFFFFFF) 255 (rcd 0 (indexW - 2 ^ 277)) {} = .skip 0 512
        ∧ (rcd 0 (indexW - 2 ^ 277)).hZero = false)
      ∧ (rcd 0 (strideW (2 ^ 276))).hFab = true ∧ paStatus mapped (csAddr 255 6291456) = some 0x22
      ∧ 16 ≤ walksOn walking 255 ∧ tlbFind walking 255 0 0 = none
      ∧ writeWaits (engOn (strideW 0) (atEng 0) []) 255 1 (rcd 0 (strideW 0)) 0 (some 0) 128 = false
      ∧ writeWaits { engOn (strideW (2 ^ 275)) (atEng 0) [] with homeWr := [⟨none, 0x1FFFFFFFFC0⟩] } 255 1
          (rcd 0 (strideW (2 ^ 275))) 0 (some 0x1FFFFFFFFC0) 64 = true
      ∧ flightOf mapped 255 64 = none ∧ (mapped.core 255).heron.stage.any (fun x => x.addr == 64) = false ∧ homeDie 64 ≠ 255 / 64
      ∧ ((mapped.die 3).rc.any (fun y => y.addr == 64) = false ∧ (rcd 0 (strideW 0)).hNoAlloc = false)
      ∧ (∀ w ∈ ([false, true] : List Bool), findReq (windowOn 2 w) ⟨255, engNo true, 7⟩
          = some (windowRunOf w, { req7 w with far := 0xE0000000000 }))
      ∧ (guestOf 0xE0000000000 = some 1 ∧ guestServes (windowOn 2 false) 1 0xE0000000000 = true
        ∧ guestServes (windowOn 4 true) 1 0xE0000000000 = false)
      ∧ mapped.latent.contains (unitOf 0) = false := by decide +kernel

/-! ### Messages between dies -/

/-- The last line of die 3. -/
def lastLine : Nat := 0x1FFFFFFFFC0
/-- Message `m` in flight, with directory `d` and die 3's filter of its line at `c`. -/
def flying (m : DieMsg) (d : List DirEntry) (c : Nat) : State :=
  let s := { mapped with msgs := [m], dir := d }
  s.setDie 3 { s.die 3 with filter := [(filterIdx lastLine, c)] }
/-- A message about the last line for die 1. -/
def about (t : Nat) (k : Bool) : DieMsg := { mtype := t, line := lastLine, die := 1, toK := k, req := some ⟨64, 1, 7⟩ }
/-- Its directory entry. -/
def ent (sh fill acks : BitVec 4) (h : Bool) : DirEntry := { line := lastLine, sharers := sh, fill := fill, acks := acks, home := h }
/-- `Arrives` as a computation. -/
def arrivesB (s : State) (t : Nat) (m : DieMsg) : Bool := s.msgs[0]? == some m && m.mtype == t

/-- A fill that allocated, and a write of the line's last byte. -/
def fill254 : DieMsg := { about 2 false with flag := true }
def wr63 : DieMsg := { about 4 false with ofs := 63, data := [1] }
/-- An INV_DONE for a write that waits at its home. -/
def homeWait : State := { flying (about 8 false) [] 0 with homeWr := [⟨none, lastLine⟩] }

theorem wit_DieMessagesKeepCopiesCoherent :
    (∀ k ∈ ([false, true] : List Bool), arrivesB (flying (about 1 k) [] 0) 1 (about 1 k) = true
        ∧ (flying (about 1 k) [] 0).agt.diesActive.getLsbD 1 = true)
      ∧ (inCs lastLine = false ∧ lateDie (flying (about 1 true) [] 0) lastLine = false
        ∧ sentBefore (flying (about 1 true) [] 0) 0 (fun x => x.mtype == 9 && x.line == lastLine && x.die == 1) = false
        ∧ dirFind (flying (about 1 true) [ent 4 0 0 false] 0) lastLine = some (ent 4 0 0 false)
        ∧ dirFind (flying (about 1 true) [] 0) lastLine = none
        ∧ ((flying (about 1 true) [] 0).dir.filter (fun x => dirSet x.line == dirSet lastLine)).length < 16)
      ∧ (arrivesB (flying fill254 [] 254) 2 fill254 = true
        ∧ homeDie lastLine = 3
        ∧ tabGet ((flying fill254 [] 254).die 3).filter 0 (filterIdx lastLine) = 254)
      ∧ (∀ k ∈ ([false, true] : List Bool), arrivesB (flying (about 3 k) [ent 2 2 0 false] 0) 3 (about 3 k) = true
        ∧ dirFind (flying (about 3 k) [ent 2 2 0 false] 0) lastLine = some (ent 2 2 0 false)
        ∧ (ent 2 2 0 false).fill.getLsbD 1 = true ∧ (ent 2 2 0 false).dead.getLsbD 1 = false)
      ∧ (∀ c ∈ ([0, 1] : List Nat), arrivesB (flying wr63 [] c) 4 wr63 = true
        ∧ inHbm lastLine = true ∧ lastLine % 64 = 0
        ∧ (flying wr63 [] c).bring.lateDies = 0
        ∧ (flying wr63 [] c).homeWr = []
        ∧ tabGet ((flying wr63 [] c).die 3).filter 0 (filterIdx lastLine) = c)
      ∧ arrivesB (flying (about 5 false) [] 0) 5 (about 5 false) = true := by decide +kernel

/-- Message `m` behind another, `o`. -/
def behind (o m : DieMsg) : State := { flying m [] 0 with msgs := [o, m] }
/-- A full directory set of the last line, whose entries die 1 fills, holds, or gives back. -/
def fullSet (fill acks : BitVec 4) : State := flying (about 1 true)
  ((upTo 16).map (fun k => { line := lastLine - (k + 1) * 64 * 524288, sharers := 2, fill := fill, acks := acks })) 0
/-- The line of core 255's store that a write from die 1 reaches. -/
def wrCs : DieMsg := { about 4 false with line := csAddr 255 6291392, ofs := 63, data := [1] }
/-- A remote prefetch of core 64 waits for the line. -/
def fetching : State :=
  let s := flying { about 3 true with req := none } [ent 2 2 0 false] 0
  s.setCore 64 { s.core 64 with heron := { (s.core 64).heron with flight := [⟨lastLine, 0, 1, ⟨0, 0⟩, true, [], []⟩] } }

theorem wit_DieMessagesKeepCopiesCoherent_waits :
    ((behind { about 9 true with req := none } (about 1 true)).msgs[1]? = some (about 1 true)
        ∧ sentBefore (behind { about 9 true with req := none } (about 1 true)) 1
          (fun x => x.mtype == 9 && x.line == lastLine && x.die == 1) = true)
      ∧ (∀ e ∈ ([ent 2 0 0 true, ent 2 0 2 false] : List DirEntry), dirFind (flying (about 1 true) [e] 0) lastLine = some e
        ∧ (e.home = true ∨ e.acks ≠ 0))
      ∧ (∀ x ∈ ([(2, 0), (0, 2), (0, 0)] : List (BitVec 4 × BitVec 4)), dirFind (fullSet x.1 x.2) lastLine = none
        ∧ 16 ≤ ((fullSet x.1 x.2).dir.filter (fun y => dirSet y.line == dirSet lastLine)).length)
      ∧ (fullSet 0 2).dir.any (fun x => x.acks != 0) = true ∧ (fullSet 2 0).dir.find? (fun x => x.fill == 0) = none
      ∧ ((fullSet 0 0).dir.any (fun x => x.acks != 0) = false
        ∧ (fullSet 0 0).dir.find? (fun x => x.fill == 0) = dirFind (fullSet 0 0) (lastLine - 64 * 524288)
        ∧ (dirFind (fullSet 0 0) (lastLine - 64 * 524288)).isSome = true)
      ∧ ({ flying wr63 [] 0 with homeWr := [⟨none, lastLine⟩] } : State).homeWr.any (fun h => h.line == lastLine) = true
      ∧ sentBefore (behind wr63 wr63) 1 (fun x => x.mtype == 4 && x.line == lastLine) = true
      ∧ (paStatus (flying wrCs [] 0) wrCs.line = none ∧ inCs wrCs.line = true ∧ wrCs.line % 64 = 0 ∧ wrCs.ofs < 64
        ∧ wrCs.ofs + wrCs.data.length ≤ 64)
      ∧ (fetching.msgs[0]? = some { about 3 true with req := none } ∧ remoteFlight fetching 1 lastLine = some 64)
      ∧ inCs (csAddr 255 6291392) = true := by decide +kernel

theorem wit_DieMessagesKeepCopiesCoherent_invalidations :
    (arrivesB (flying (about 6 false) [] 0) 6 (about 6 false) = true
        ∧ arrivesB (flying (about 6 true) [ent 2 0 0 false] 0) 6 (about 6 true) = true
        ∧ dirFind (flying (about 6 true) [] 0) lastLine = none
        ∧ dirFind (flying (about 6 true) [ent 2 0 0 false] 0) lastLine = some (ent 2 0 0 false))
      ∧ (∀ e ∈ ([ent 2 0 2 true, ent 6 0 6 true] : List DirEntry), arrivesB (flying (about 7 true) [e] 0) 7 (about 7 true) = true
        ∧ dirFind (flying (about 7 true) [e] 0) lastLine = some e
        ∧ ((e.sharers = dieBit 1 ∧ e.acks = dieBit 1 ∧ e.home = true) ∨ e.sharers &&& ~~~dieBit 1 ≠ 0))
      ∧ (arrivesB homeWait 8 (about 8 false) = true
        ∧ homeWait.homeWr.find? (fun h => h.line == lastLine) = some ⟨none, lastLine⟩)
      ∧ (∀ e ∈ ([ent 2 0 0 false, ent 6 0 0 false] : List DirEntry), arrivesB (flying (about 9 true) [e] 0) 9 (about 9 true) = true
        ∧ dirFind (flying (about 9 true) [e] 0) lastLine = some e ∧ e.fill.getLsbD 1 = false ∧ e.acks.getLsbD 1 = false
        ∧ (e.sharers &&& ~~~dieBit 1 ≠ 0 ∨ (e.sharers &&& ~~~dieBit 1 = 0 ∧ e.acks = 0 ∧ e.home = false)))
      ∧ (arrivesB (flying (about 6 true) [ent 6 2 4 false] 0) 6 (about 6 true) = true
        ∧ arrivesB (flying (about 7 true) [] 0) 7 (about 7 true) = true
        ∧ ((ent 2 0 4 false).sharers &&& ~~~dieBit 1 = 0 ∧ (ent 2 0 4 false).acks &&& ~~~dieBit 1 ≠ 0)
        ∧ ({ homeWait with homeWr := [⟨some ⟨64, 1, 7⟩, lastLine⟩] } : State).homeWr.find? (fun h => h.line == lastLine)
          = some ⟨some ⟨64, 1, 7⟩, lastLine⟩
        ∧ 64 / 64 ≠ homeDie lastLine ∧ 192 / 64 = homeDie lastLine
        ∧ (ent 2 2 0 false).fill.getLsbD 1 = true ∧ (ent 2 0 2 false).acks.getLsbD 1 = true)
      ∧ (∀ c ∈ ([0, 1, 254, 255] : List Nat), arrivesB (flying (about 10 false) [] c) 10 (about 10 false) = true
        ∧ tabGet ((flying (about 10 false) [] c).die 3).filter 0 (filterIdx lastLine) = c) := by decide +kernel

/-! ### Scheduled flits, collectives and updates -/

/-- Group 7 with ports 0 and 1 Up; port 0's entry 255 is `x`, and the group's collectives are `l`. -/
def schedOn (op x : Nat) (l : List Coll) : State :=
  let s := upOn (upOn (qGroup (collW op)) 0) 1
  let s := s.setPort 0 { s.port 0 with table := [(255, BitVec.ofNat 64 x)] }
  { s with ce := { s.ce with colls := l }, tick := { s.tick with lock := 0 } }
/-- Schedule entry for flits of slot 0 that come in on port 1, with further bits. -/
def entryW (x : Nat) : Nat := 2 ^ 63 + 2 ^ 48 + x
/-- The group's collective of operation `op`, with one byte to send to member 1 and one to receive from it. -/
def coll1 (op : Nat) : Coll := {
  ref := ⟨0, 0⟩, part := 0, group := 7, seq := 0, epoch := 0, op := op, sched := 0, self := 0, devs := [0, 1], shares := [1, 1]
  sends := [{ dst := 1, data := [(0, false)], total := 1 }], recvs := [{ src := 1, total := 1 }] }
/-- Member 1's flit for it. -/
def flit1 (op : Nat) : SFlit := { flit 0 208 with op := op, bytes := 1 }

theorem wit_SFlitsFollowTheirSlots :
    (∀ b ∈ ([0, 2 ^ 62] : List Nat), windowOpen (schedOn 0 (entryW b) []) 0 255 = some 7
        ∧ (schedOn 0 (entryW b) []).pst = .active ∧ ((schedOn 0 (entryW b) []).port 0).opened.contains 255 = false
        ∧ (schedEntry (schedOn 0 (entryW b) []) 0 255).testBit 62 = (b != 0))
      ∧ windowOpen (schedOn 0 0 []) 0 255 = none ∧ (schedOn 0 0 []).ce.colls[0]? = none ∧ (qGroup 0).tick.lock = 2
      ∧ (schedOn 0 0 [coll1 0]).ce.colls[0]? = some (coll1 0)
      ∧ (portUp (schedOn 0 (entryW 0) []) 1 = true ∧ slotOf (schedOn 0 (entryW 0) []) 8 = none
        ∧ (slotOf (schedOn 0 (entryW 0) []) 7).map Prod.fst = some 0 ∧ copyPorts (schedOn 0 (entryW 0) []) 0 1 = [0]
        ∧ ((schedOn 0 (entryW 0) []).port 1).transit.length < 1536)
      ∧ (memberQ (schedOn 0 0 [coll1 0]) 7 = some 0 ∧ memberTable (schedOn 0 0 [coll1 0]) 7 = some ([0, 1], 0)
        ∧ (flit1 0).rsv = false ∧ (flit1 0).srcM < [0, 1].length ∧ (flit1 0).dstM = 0
        ∧ (schedOn 0 0 [coll1 0]).ce.colls.find? (fun c => c.group == 7 && c.seq == (flit1 0).seq) = some (coll1 0)
        ∧ (schedOn 0 0 []).ce.colls.find? (fun c => c.group == 7 && c.seq == (flit1 0).seq) = none
        ∧ (32767 + 65536 - ((schedOn 0 0 []).queue 0).collSeq) % 65536 ≤ 32767
        ∧ (schedOn 0 0 []).ce.early = [])
      ∧ (findRec (schedOn 0 0 [coll1 0]) (coll1 0).ref = some (rcd 0 (collW 0)) ∧ (flit1 1).op ≠ (coll1 0).op
        ∧ ({ flit1 0 with epoch := 1 } : SFlit).epoch ≠ (coll1 0).epoch
        ∧ (coll1 0).recv 1 false = some { src := 1, total := 1 } ∧ (flit1 0).bytes = 1 ∧ (flit1 0).fidx < flitCount 1) := by
  decide +kernel

/-- A full transit buffer, with the greatest number of flits that still leaves room and with one more. -/
def transitOn (n : Nat) : State :=
  let s := schedOn 0 (entryW 0) []
  s.setPort 1 { s.port 1 with transit := List.replicate n { flit := flit 0 208, inPort := 1, outs := [0] } }
/-- A gather with VCHK that has its contribution done, repeated or still to come. -/
def gather1 (x : RecvC) : Coll := { coll1 7 with recvs := [x] }

theorem wit_SFlitsFollowTheirSlots_drops :
    ((transitOn 1535).port 1).transit.length < 1536 ∧ 1536 ≤ ((transitOn 1536).port 1).transit.length
      ∧ copyPorts (schedOn 0 0 []) 0 1 = [] ∧ (portUp (schedOn 0 0 []) 63 = false)
      ∧ ([0, 1] : List Nat).length ≤ ({ flit1 0 with srcM := 2 } : SFlit).srcM ∧ ({ flit1 0 with dstM := 1 } : SFlit).dstM ≠ 0
      ∧ 32767 < (32768 + 65536 - ((schedOn 0 0 []).queue 0).collSeq) % 65536
      ∧ heldEarly (schedOn 0 0 []) 7 (flit1 0) = false
      ∧ (let s := schedOn 0 0 []
         heldEarly { s with ce := { s.ce with early := [{ flit1 0 with group := 7 }] } } 7 (flit1 0) = true) := by decide +kernel
theorem wit_SFlitsFollowTheirSlots_contributions :
    (gather1 { src := 1, total := 1, done := true }).recv 1 false = some { src := 1, total := 1, done := true }
      ∧ ({ flit1 7 with bytes := 2 } : SFlit).bytes ≠ 1
      ∧ tabHas ([(0, ([], 0))] : Tab (List Byte × Nat)) (flit1 7).fidx = true
      ∧ (gather1 { src := 1, total := 1, flits := [(0, ([], 0))] }).recv 1 false
          = some { src := 1, total := 1, flits := [(0, ([], 0))] }
      ∧ (rcd 0 (collW 7 + 2 ^ 95)).cVchk = true ∧ ({ flit1 7 with version := 1 } : SFlit).version ≠ (rcd 0 (collW 7 + 2 ^ 95)).cVersion
      ∧ (flit1 7).version = (rcd 0 (collW 7 + 2 ^ 95)).cVersion
      ∧ findRec (qGroup (collW 7 + 2 ^ 95)) (coll1 7).ref = some (rcd 0 (collW 7 + 2 ^ 95)) := by decide +kernel

/-- A control chunk of member 1. -/
def chunk (code : Nat) : CollCtl := ⟨code, 1, 0, 0, 0, 0⟩
/-- A packet of group 7 from device `d`. -/
def collPkt (t d : Nat) (f : Option SFlit) (c : Option CollCtl) : Packet := { ptype := t, dst := 0, src := d, group := 7, flit := f, ctl := c }

/-- A gather in flight of the shard whose header stands at address 0 while the update unit is in its write phase. -/
def busyGather : State :=
  let s := schedOn 7 0 [coll1 7]
  { s with upd := { s.upd with run := some { ref := ⟨0, 0⟩, hdr := ⟨0, 0, 0, 0, 0, 0, 0⟩, map := [(0, 0)], rs := none } } }

theorem wit_CollectivesAreAskedAndAnswered :
    (mine (schedOn 0 0 []) 0 (collPkt 0x10 1 (some (flit1 0)) none) 0x10 = true
        ∧ memberTable (schedOn 0 0 []) 7 = some ([0, 1], 0) ∧ [0, 1].getD (flit1 0).srcM 262144 ≠ 5)
      ∧ (∀ e ∈ ([(0, 1), (0, 2), (7, 3)] : List (Nat × Nat)),
        mine (schedOn e.1 0 [coll1 e.1]) 0 (collPkt 0x11 1 none (some (chunk e.2))) 0x11 = true
        ∧ [0, 1].getD (chunk e.2).sender 262144 = 1 ∧ (chunk e.2).code = e.2
        ∧ (schedOn e.1 0 [coll1 e.1]).ce.colls.find? (fun c => c.group == 7 && c.seq == 0 && c.epoch == 0) = some (coll1 e.1)
        ∧ (coll1 e.1).sendTo 1 = some { dst := 1, data := [(0, false)], total := 1 }
        ∧ (findRec (schedOn e.1 0 [coll1 e.1]) (coll1 e.1).ref).isSome = true)
      ∧ findRec (schedOn 7 0 [coll1 7]) ⟨0, 0⟩ = some (rcd 0 (collW 7))
      ∧ headerBusy (takePacket (schedOn 7 0 [coll1 7]) 0 (collPkt 0x11 1 none (some (chunk 3)))) 0 (rcd 0 (collW 7)).cSrc = false
      ∧ findRec busyGather ⟨0, 0⟩ = some (rcd 0 (collW 7))
      ∧ busyGather.ce.colls = [coll1 7] ∧ memberTable busyGather 7 = some ([0, 1], 0)
      ∧ mine busyGather 0 (collPkt 0x11 1 none (some (chunk 3))) 0x11 = true
      ∧ headerBusy (takePacket busyGather 0 (collPkt 0x11 1 none (some (chunk 3)))) 0 (rcd 0 (collW 7)).cSrc = true
      ∧ mine (schedOn 0 0 []) 0 (collPkt 0x11 5 none (some (chunk 1))) 0x11 = true
      ∧ ((schedOn 0 0 []).pst = .active ∧ ((schedOn 0 0 []).queue 0).groupEn = true
        ∧ ((schedOn 0 0 []).queue 0).frame = some { first := 0, len := 1, startTick := 0, closing := 4 }
        ∧ (schedOn 0 0 []).tick.last < 4 ∧ (schedOn 0 0 []).ce.colls = []) := by decide +kernel

/-- Port 30, a global one, Up; and a packet whose global hops are spent once it has come in there. -/
def globalOn : State := upOn (schedOn 0 0 []) 30
def spent (t : Nat) (c : Option CollCtl) : Packet := { collPkt t 1 none c with vc := 2 }
theorem wit_CollectivesAreAskedAndAnswered_rest :
    (∀ x ∈ ([(0x10, none), (0x11, some (chunk 1)), (0x11, some (chunk 2)), (0x11, some (chunk 3))] : List (Nat × Option CollCtl)),
      accepts globalOn 30 = true ∧ (spent x.1 x.2).dst = devId globalOn ∧ gSpent globalOn 30 (spent x.1 x.2) = true)
      ∧ (collPkt 0x10 1 none none).flit = none ∧ mine (schedOn 0 0 []) 0 (collPkt 0x10 1 none none) 0x10 = true
      ∧ (∀ c ∈ ([0, 4] : List Nat), mine (schedOn 0 0 []) 0 (collPkt 0x11 1 none (some (chunk c))) 0x11 = true
        ∧ (c < 1 ∨ 3 < c))
      ∧ ((coll1 0).op ≠ 7 ∧ ([0, 1] : List Nat).getD (flit1 0).srcM 262144 = 1)
      ∧ ({ coll1 0 with missed := true } : Coll).unsent = true := by decide +kernel

/-- An UPDATE of one parameter whose weights are at DVA `w`; `n` is one more than the record it is linked to. -/
def updW (w : Nat) : Nat := 0x11 + 2 ^ 86 + w * 2 ^ 128 + 0x2000 * 2 ^ 272 + 0x3000 * 2 ^ 224
/-- Queue 0 with UPDATE 1 waiting after record 0, which stands at `x`; and what the unit has armed. -/
def updOn (w : Nat) (x : RecSt) (u : Option UpdRun) : State :=
  let s := qOn 0
  let s := s.setQueue 0 { s.queue 0 with recs := [{ rcd 0 (collW 0) with st := x }, { rcd 1 (updW w) with st := .waiting }] }
  { s with hubq := { s.hubq with upd := [⟨0, 1⟩] }, upd := { s.upd with run := u } }
/-- Its run, armed with a shard whose first parameter is excluded. -/
def armed (n : Option Nat) : UpdRun := { ref := ⟨0, 1⟩, hdr := { exclCount := 1 }, rs := n }
/-- UPDATE 1. -/
def upd1 (w : Nat) : Rec := { rcd 1 (updW w) with st := .waiting }

theorem wit_UpdatesArmAndWrite :
    ((updOn 0x1000 .fetched none).upd.run = none ∧ (updOn 0x1000 .fetched none).pst = .active
        ∧ pickRef (updOn 0x1000 .fetched none).hubq.upd (updOn 0x1000 .fetched none).upd.lastQ
            (fun c => match findRec (updOn 0x1000 .fetched none) c with
              | some r => epochOpen (updOn 0x1000 .fetched none) c r | none => false) = some ⟨0, 1⟩
        ∧ findRec (updOn 0x1000 .fetched none) ⟨0, 1⟩ = some (upd1 0x1000))
      ∧ pickRef ([] : List CmdRef) 0 (fun _ => true) = none
      ∧ (mapAll (updOn (2 ^ 47) .fetched none) 0 (upd1 (2 ^ 47))).fault = some 0x20
      ∧ (mapAll (updOn 0x1000 .fetched none) 0 (upd1 0x1000)).fault = none
      ∧ (updOn 0x1000 .fetched (some (armed none))).upd.run = some (armed none)
      ∧ (∀ e ∈ ([(.done 0, true, false), (.done 1, true, true), (.started, false, false)] : List (RecSt × Bool × Bool)),
        (updOn 0x1000 e.1 (some (armed (some 0)))).upd.run = some (armed (some 0))
        ∧ findRec (updOn 0x1000 e.1 (some (armed (some 0)))) ⟨0, 0⟩ = some { rcd 0 (collW 0) with st := e.1 }
        ∧ ({ rcd 0 (collW 0) with st := e.1 } : Rec).isDone = e.2.1
        ∧ ({ rcd 0 (collW 0) with st := e.1 } : Rec).failed = e.2.2)
      ∧ (frozenAt (armed none) (updOn 0x1000 .fetched none) (upd1 0x1000) 0).2.1 = true
      ∧ ((armed none).hdr.exclFirst ≤ 0 ∧ 0 < (armed none).hdr.exclFirst + (armed none).hdr.exclCount) := by decide +kernel

/-! ### Steps -/

theorem wit_StepsRunTheFrontCommand : ({ on with pending := [.sequenceTimeLimit] } : State).pending = .sequenceTimeLimit :: []
    ∧ on.pending = [] := by decide +kernel

theorem wit_NoStepUndoesTheseInvariants : Memory.wf mapped.mem = true ∧ mapped.mem ≠ []
    ∧ step { mapped with pending := [.sequenceTimeLimit] } = .next mapped := ⟨by decide +kernel, by decide +kernel, rfl⟩

/-! ### Words on the wire, written out from the field maps of R328, R330, R365, R370, R380, R409 and R413 -/

theorem test_crc32 : crc32 ([0x31, 0x32, 0x33, 0x34, 0x35, 0x36, 0x37, 0x38, 0x39] : List Byte) = 0xCBF43926 := by decide +kernel
theorem test_packet_header :
    packetHeader { ptype := 1, dst := 2, src := 3, tid := 4, nlines := 5, hops := 6, laddr := 2 ^ 38 - 1 }
        = 2 ^ 122 + 2 * 2 ^ 104 + 3 * 2 ^ 86 + 4 * 2 ^ 58 + 5 * 2 ^ 51 + 6 * 2 ^ 43 + 2 ^ 38 - 1
      ∧ packetOf (2 ^ 122 + 2 * 2 ^ 104 + 3 * 2 ^ 86 + 4 * 2 ^ 58 + 5 * 2 ^ 51 + 6 * 2 ^ 43 + 2 ^ 38 - 1)
        = { ptype := 1, dst := 2, src := 3, tid := 4, nlines := 5, hops := 6, laddr := 2 ^ 38 - 1 } := by decide +kernel
theorem test_control_words :
    ctlOf (5 * 2 ^ 120 + 7 * 2 ^ 104 + 4 * 2 ^ 40 + 9 * 2 ^ 22 + 2 * 2 ^ 20) = some (.hold 7 4 9 2)
      ∧ ctlOf (5 * 2 ^ 120 + 1) = none ∧ ctlOf (9 * 2 ^ 120) = none
      ∧ (∀ m ∈ ([.timeReq 255 5, .timeRsp 1 2 3, .beacon 5 6 7 8 3, .candidate 5 true 9, .hold 1 2 3 1, .abort 7 0x6A 5,
          .period 16384 4, .portId 5 63 1] : List CtlMsg), ctlOf (ctlWord m) = some m) := by decide +kernel
/-- A flit keeps its fields through its 256 bytes, and one with a flipped bit is refused. -/
theorem test_flit_bytes :
    let u : UFlit := ⟨1023, 5, true, 1, [hdrChunk (3 * 2 ^ 120 + 2 ^ 64), ⟨false, List.replicate 16 7⟩]⟩
    let c : CFlit := { seq := 4095, ack := 6, nak := true, ftype := 1, vc := 5, floor := true, head := true,
                       crFloor := [1, 2, 3, 0, 1, 2], chunks := List.replicate 15 ⟨false, List.replicate 16 9⟩ }
    UFlit.ofBytes u.bytes = some u ∧ CFlit.ofBytes c.bytes = some c
      ∧ CFlit.ofBytes ((8 : Byte) :: c.bytes.drop 1) = none ∧ c.bytes.length = 256 := by decide +kernel
theorem test_collective_words :
    collCtlWord ⟨1, 2, 3, 4, 5, 0⟩ = 2 ^ 124 + 2 * 2 ^ 106 + 3 * 2 ^ 90 + 4 * 2 ^ 74 + 5 * 2 ^ 50
      ∧ sHeader { flit 1 224 with seq := 3, op := 7 } = 2 ^ 110 + 3 * 2 ^ 76 + 7 * 2 ^ 56 + 2 ^ 32 := by decide +kernel

/-! ### Worked examples of the spec -/

/-- spec/02, "one ACC35 value in several targets": 672 in ACC35 converts as its table says. -/
theorem test_one_acc35_value_in_several_targets :
    (convertS .acc35 .fp16 0x208500000 .rne false = ⟨0x6140, false, false⟩
      ∧ convertS .acc35 .bf16 0x208500000 .rne false = ⟨0x4428, false, false⟩
      ∧ convertS .acc35 .e5m2 0x208500000 .rne false = ⟨0x61, false, false⟩
      ∧ convertS .acc35 .e5m2 0x208500000 (.sr 0x2F1A0C44) false = ⟨0x62, false, false⟩)
      ∧ convertS .acc35 .e4m3 0x208500000 .rne false = ⟨0x7E, true, false⟩
      ∧ convertS .acc35 .e4m3 0x208500000 .rne true = ⟨0x7F, true, false⟩
      ∧ convertS .acc35 .e2m1 0x208500000 .rne true = ⟨0x7, true, false⟩
      ∧ convertS .acc35 .int8 0x208500000 .rne false = ⟨0x7F, true, false⟩ := by decide +kernel

/-- spec/02, "one MXFP4 block": 3.7, 1.1, −0.3 and 0 (in FP32) under scale byte 0x7E. -/
theorem test_one_mxfp4_block :
    let b := encodeMx .e2m1 (([0x406CCCCD, 0x3F8CCCCD, 0xBE99999A] ++ List.replicate 29 0).map
      (fun x => (decodeS .fp32 x, .rne))) false
    b.scale = 0x7E ∧ b.elems.take 4 = [0x7, 0x4, 0x9, 0x0] ∧ b.ovf = false
      ∧ (toLE 16 (packElems 4 b.elems)).take 2 = [0x47, 0x09] := by decide +kernel

/-- spec/02, "two ACC35 values in a spill block": the bytes of 1.0 and −2.5. -/
theorem test_two_acc35_values :
    toLE 5 (rneTo .acc35 (.fin false 1 0)) = [0, 0, 0, 0xFF, 1] ∧ toLE 5 (rneTo .acc35 (.fin true 5 (-1))) = [0, 0, 0x40, 0, 6] := by
  decide +kernel

/-- spec/04, "one sum in the tree": lanes 1.0, 2⁻²⁴, 2⁻²⁴, −1.0 sum to 2⁻²³. -/
theorem test_one_sum_in_the_tree :
    let x : Ve := { vl := 4, v := [(7, BitVec.ofNat 8192 (0x3F800000 + 0x33800000 * 2 ^ 32 + 0x33800000 * 2 ^ 64 + 0xBF800000 * 2 ^ 96))] }
    let r := sumRoot false x (decodeVI (vword 8 0 1 7 0 0 0))
    r = 0x1E8000000 ∧ (convertS .acc35 .fp32 r .rne true).bits = 0x34000000 := by decide +kernel

/-- spec/07, "a drain to the lagg queue and its completion": the record passes its checks, KIND 2 fails with
DRAIN_COMBO. -/
def laggDrain (kind : Nat) : Rec := rcd 0x41 (0x0123250000000002 + 0x2001200000000000 * 2 ^ 64 + 0x8080000000000000 * 2 ^ 192
  + 0x0004000002800000 * 2 ^ 320 + (0x00A3100000010000 + kind * 2) * 2 ^ 384 + 0x8000 * 2 ^ 448)
theorem test_a_drain_to_the_lagg_queue :
    firstStatus (drainChecks on (laggDrain 0)) = 0 ∧ firstStatus (drainChecks on (laggDrain 2)) = 0x0A
      ∧ (laggDrain 0).coreNo = 37 ∧ (laggDrain 0).dDest = 1 ∧ (laggDrain 0).dWispEn = true ∧ (laggDrain 0).dTid = 0xA31
      ∧ (laggDrain 0).dRow0 = 256 ∧ (laggDrain 0).dCol0 = 640 := by decide +kernel
/-- Its completion record. -/
theorem test_its_completion :
    cplWord (({ on with tick := { on.tick with last := 409604 } } : State).setQueue 5 { ctrl := 7 * 2 ^ 21 }) 5 (laggDrain 0)
      { res0 := 0x41380000, res1 := 2 * 2 ^ 32 }
      = 0x0123004102050800 + 0x4138000000064004 * 2 ^ 64 + 0x0000000200000000 * 2 ^ 128 := by decide +kernel

/-- spec/10, "a U3 step over four replicas": the weights of p0, p1 and p3 under the given generator values. -/
theorem test_a_u3_step :
    (encodeS .bf16 (.fin false (2 ^ 14 - 2 ^ 5 - 1) (-15)) (.sr 0xA1B20C3D) true).bits = 0x3EFF
      ∧ (encodeS .bf16 (.fin true (2 ^ 14 - 2 ^ 6 - 1) (-16)) (.sr 0x3D0477A2) true).bits = 0xBE7F
      ∧ (encodeS .bf16 (.fin false (2 ^ 14 - 1) (-21)) (.sr 0xFE110302) true).bits = 0x3BFF := by decide +kernel

/-- spec/08, "an overflow and its back-off" and "the first step of a cleared activation": the exponents of 11.5, of 30.25 (30.2 in the text: the same binade) and
of a cold 5.0. -/
theorem test_scale_targets :
    target 2 (.fin false 23 (-1)) 1 = some 4 ∧ target 2 (.fin false 121 (-2)) 1 = some 3 ∧ target 2 (.fin false 5 0) 3 = some 3 := by
  decide +kernel

/-- spec/11, "a marginal module of L1": the block's messages use module 6, and module 10 after the retraining. -/
theorem test_a_marginal_module :
    ({ mods := (upTo 16).map (fun m => (m, { st := 1 })) } : Link).trained.carrier 0x0800004D000 = some 6
      ∧ ({ mods := (upTo 16).map (fun m => (m, { st := if m = 9 then 2 else 1 })) } : Link).trained.carrier 0x0800004D000 = some 10
      ∧ ({ mods := (upTo 16).map (fun m => (m, { st := if m = 9 then 2 else 1 })) } : Link).trained.bandwidth = 3968 := by decide +kernel

/-- spec/12, "one global port and one route": the neighbours of C45 and C3 of package 0x2A37, and the route's ports. -/
theorem test_one_global_port :
    let s : State := { on with fab := { on.fab with cfg := BitVec.ofNat 64 (0x2A37 * 2 ^ 46 + 1024 * 2 ^ 35 + 34 * 2 ^ 29) } }
    expectNbr s 45 = some (0x38922, 57) ∧ expectNbr s 3 = some (0x2A3B, 11) := by decide +kernel

/-- spec/13, "twenty heads and six experts": the flits of 3,145,728 bytes. -/
theorem test_flits_of_a_contribution : flitCount 3145728 = 14044 := by decide +kernel

/-- spec/14, "a cap lowered while at OP0": eleven idle ticks of 16, at the positions it lists. -/
theorem test_a_cap_lowered :
    idleCount (f32Nat 1900) (f32Nat 1350) (f32Nat 1100) = 11
      ∧ (upTo 16).filter (fun j => idlePos j 11) = [1, 2, 4, 5, 7, 8, 10, 11, 13, 14, 15] := by decide +kernel

/-- spec/17, "one walk". -/
theorem test_one_walk :
    let s := put (put (put (put on 0x40000120 8 0x40001001) 0x40001688 8 0x40002001) 0x40002598 8 0x40003101) 0x400031C0 8 0x00810042000F
    xlate (s.setCtx 3 { root := 0x8000000040000000 }) 3 0x123456789ABC false = .pa 0x08100429ABC
      ∧ homeDie 0x08100429ABC = 1 ∧ homeStack 0x08100429ABC = 9 := by decide +kernel

/-- spec/18, "an inlet reading": 0.798 V is 46.0 °C and 0.962 V is 37.7 °C. -/
theorem test_an_inlet_reading : thermDeci 798 = 460 ∧ thermDeci 962 = 377 := by decide +kernel

end Sys2Proof.Tests
end

/-! ### Addresses and their targets (R22, R148, R149) -/
namespace Sys2Proof.Machine

theorem inHbm_csAddr (p o : Nat) : inHbm (csAddr p o) = false := by
  have high : ¬ csAddr p o < 0x20000000000 := by unfold csAddr csBase; omega
  simp [inHbm, high]

theorem inCs_csAddr {p o : Nat} (hp : p < 256) (ho : o < 8388608) : inCs (csAddr p o) = true := by
  have window : 0x80000000000 ≤ csAddr p o ∧ csAddr p o < 0x88000000000 := by unfold csAddr csBase; omega
  simp [inCs, window]

theorem csCore_csAddr {p o : Nat} (ho : o < 8388608) : csCore (csAddr p o) = p := by
  simp only [csCore, csAddr, csBase]; omega

theorem csOfs_csAddr {p o : Nat} (ho : o < 8388608) : csOfs (csAddr p o) = o := by
  simp only [csOfs, csAddr, csBase]; omega

/-- R149: the target of an access to a core-store window looks at the offset first, then at the core. -/
theorem paStatus_csAddr (s : State) {p o : Nat} (hp : p < 256) (ho : o < 8388608) :
    paStatus s (csAddr p o) =
      if csSize ≤ o then some 0x22 else if s.agt.enabled.getLsbD p then none else some 0xA0 := by
  simp only [paStatus, inHbm_csAddr, inCs_csAddr hp ho, csOfs_csAddr ho, csCore_csAddr ho, Bool.false_eq_true, if_true, if_false]

theorem homeStack_eq_land (a : Nat) : homeStack a = 8 * (a >>> 39) + ((a >>> 12) &&& 7) := by
  have low : (a >>> 12) &&& 7 = (a >>> 12) % 8 := Nat.and_two_pow_sub_one_eq_mod (a >>> 12) 3
  rw [low, homeStack]

/-- Settles O25: the targets' checks, read at a core-store address (`paStatus_csAddr`). -/
theorem addressesHaveTheirTargets : Obligations.AddressesHaveTheirTargets := by
  unfold Obligations.AddressesHaveTheirTargets
  refine ⟨fun a _ => ⟨rfl, homeStack_eq_land a⟩, fun p o s hlo hhi => ?_, fun p o s ho => ?_⟩
  · exact (paStatus_csAddr s p.isLt hhi).trans (if_pos hlo)
  · have hlo : ¬ csSize ≤ o := by simpa [csSize] using ho
    rw [paStatus_csAddr s p.isLt (by omega), if_neg hlo]

end Sys2Proof.Machine

namespace Sys2Proof.Machine

/-! ### Reserved bits -/

theorem testBit_mask (hi lo i : Nat) : (mask hi lo).testBit i = (decide (lo ≤ i) && decide (i - lo < hi + 1 - lo)) := by
  rw [mask, Nat.testBit_mul_two_pow, Nat.testBit_two_pow_sub_one]

theorem testBit_bits (x hi lo i : Nat) : (bits x hi lo).testBit i = (decide (i < hi + 1 - lo) && x.testBit (lo + i)) := by
  rw [bits, Nat.testBit_mod_two_pow, Nat.testBit_shiftRight]

/-- The bits of a number under a mask are the masked field in its place. -/
theorem land_mask (x hi lo : Nat) : Nat.land x (mask hi lo) = bits x hi lo * 2 ^ lo := by
  change x &&& mask hi lo = bits x hi lo * 2 ^ lo
  refine Nat.eq_of_testBit_eq fun i => ?_
  rw [Nat.testBit_and, testBit_mask, Nat.testBit_mul_two_pow, testBit_bits]
  by_cases h : lo ≤ i
  · simp [h, Bool.and_comm]
  · simp [h]

/-- Two masks, the second below the first, as one. -/
theorem land_mask_add_mask (x hi lo hi' lo' : Nat) (h : hi' < lo) :
    Nat.land x (mask hi lo + mask hi' lo') = Nat.land x (mask hi lo) ||| Nat.land x (mask hi' lo') := by
  have low : mask hi' lo' < 2 ^ lo := by
    refine Nat.lt_pow_two_of_testBit _ fun i hi => ?_
    rw [testBit_mask, Bool.and_eq_false_iff, decide_eq_false_iff_not, decide_eq_false_iff_not]; omega
  have sum : mask hi lo + mask hi' lo' = mask hi lo ||| mask hi' lo' := by
    rw [mask.eq_def hi lo, Nat.mul_comm, Nat.two_pow_add_eq_or_of_lt low]
  rw [sum]; exact Nat.and_or_distrib_left ..

/-- A value with no reserved bit set passes unchanged (R522). -/
theorem rsvCheck_of_land {v rsv : Nat} (h : Nat.land v rsv = 0) (s : State) (pg o : Nat) : rsvCheck s pg o v rsv = s :=
  if_pos h

theorem without_of_land {v : W64} {rsv : Nat} (h : Nat.land v.toNat rsv = 0) : without v.toNat rsv = v := by
  rw [without, h, Nat.sub_zero, BitVec.ofNat_toNat, BitVec.setWidth_eq]

theorem bits_eq_self {x hi : Nat} (h : x < 2 ^ (hi + 1)) : bits x hi 0 = x := by
  simp [bits, Nat.mod_eq_of_lt h]

/-- R518: a served PF access goes on. -/
theorem pfAccess_of_served {s : State} (h : served s = true) (k : State) : pfAccess s k = k := if_pos h

/-! ### Tables -/

/-- A table read after a function on its values that keeps the default. -/
theorem tabGet_map {α : Type} (f : α → α) {d : α} (hd : f d = d) (t : Tab α) (i : Nat) :
    tabGet (t.map (fun k => (k.1, f k.2))) d i = f (tabGet t d i) := by
  induction t with
  | nil => exact hd.symm
  | cons c t ih =>
    simp only [List.map_cons, tabGet]
    split
    · rfl
    · exact ih

/-! ### XLAT (R545, R546) -/

/-- The reserved bits of XLAT.ROOT. -/
theorem root_rsv {v : Nat} (hh : bits v 62 44 = 0) (hl : bits v 11 0 = 0) : Nat.land v (mask 62 44 + mask 11 0) = 0 := by
  rw [land_mask_add_mask _ _ _ _ _ (by decide), land_mask, land_mask, hh, hl]; rfl

theorem rootWrite_of_unused {s : State} {c : Nat} {v : W64} (hu : ctxInUse s c = false)
    (ht : v.getLsbD 63 = true → hbmOk s (bits v.toNat 43 12 * 4096) = true
      ∧ hbmOk s (bits v.toNat 43 12 * 4096 + 4095) = true ∧ lateDie s (bits v.toNat 43 12 * 4096) = false)
    (hr : Nat.land v.toNat (mask 62 44 + mask 11 0) = 0) :
    rootWrite s c v.toNat = s.setCtx c { s.ctx c with root := v } := by
  have home : (v.toNat.testBit 63 && !(hbmOk s (bits v.toNat 43 12 * 4096) && !lateDie s (bits v.toNat 43 12 * 4096)
      && hbmOk s (bits v.toNat 43 12 * 4096 + 4095))) = false := by
    cases hv : v.toNat.testBit 63 with
    | false => rfl
    | true =>
      obtain ⟨hfirst, hlast, hdie⟩ := ht hv
      simp [hfirst, hlast, hdie]
  simp only [rootWrite, rsvCheck_of_land hr, without_of_land hr, hu, home, Bool.or_self, Bool.false_eq_true, if_false]

theorem rootWrite_of_used {s : State} {c v : Nat} (hu : ctxInUse s c = true)
    (hr : Nat.land v (mask 62 44 + mask 11 0) = 0) : rootWrite s c v = writeIgnored s (0x30 + c) 0x100 := by
  simp only [rootWrite, rsvCheck_of_land hr, hu, Bool.true_or, if_true, xlatPage]

theorem invWrite_of_idle {s : State} {c : Nat} {v : W64} (hi : (s.ctx c).inv = none) (hh : bits v.toNat 63 48 = 0)
    (hl : bits v.toNat 15 2 = 0) :
    invWrite s c v.toNat = s.setCtx c { s.ctx c with inv := some v, walks := walkers s c } := by
  have hfield : bits v.toNat 15 3 = 0 ∧ bits v.toNat 2 0 < 4 := by
    simp only [bits, Nat.shiftRight_eq_div_pow] at hl ⊢; omega
  have hr : Nat.land v.toNat (mask 63 48 + mask 15 3) = 0 := by
    rw [land_mask_add_mask _ _ _ _ _ (by decide), land_mask, land_mask, hh, hfield.1]; rfl
  have hgo : ¬ ((s.ctx c).inv.isSome = true ∨ 4 ≤ bits v.toNat 2 0) := by
    rw [hi]; simpa using hfield.2
  simp only [invWrite, rsvCheck_of_land hr, if_neg hgo, BitVec.ofNat_toNat, BitVec.setWidth_eq]

/-- What the end of an invalidation leaves of a core: the leaves outside its range. -/
def withoutLeaves (c v : Nat) (x : Core) : Core :=
  { x with heron := { x.heron with tlb := x.heron.tlb.filter (fun l => !invHits c v l) } }

theorem invComplete_of_walking {s : State} {c : Nat} {v : W64} (hi : (s.ctx c).inv = some v)
    (hw : (walkers s c).any (fun k => (s.ctx c).walks.contains k) = true) : invComplete s c = s := by
  simp only [invComplete, hi, hw, if_true]

theorem invComplete_of_ended {s : State} {c : Nat} {v : W64} (hi : (s.ctx c).inv = some v)
    (hw : (walkers s c).any (fun k => (s.ctx c).walks.contains k) = false) :
    invComplete s c = { s with cores := s.cores.map (fun k : Nat × Core => (k.1, withoutLeaves c v.toNat k.2)) }.setCtx c
      { s.ctx c with inv := none, walks := [], done := (s.ctx c).done + 1 } := by
  simp only [invComplete, hi, hw, Bool.false_eq_true, if_false]
  rfl

theorem core_map_withoutLeaves (s : State) (c v p : Nat) :
    State.core { s with cores := s.cores.map (fun k : Nat × Core => (k.1, withoutLeaves c v k.2)) } p = withoutLeaves c v (s.core p) :=
  tabGet_map (withoutLeaves c v) rfl s.cores p

/-! ### Maps and counters (R538 to R540) -/

theorem partMapWrite_of_legal {s : State} {r : Nat} {v : W64} (hp : s.pst = .active)
    (hl : ∀ i, i < 8 → (bits v.toNat (8 * i + 7) (8 * i) < 8 ∧ tabGet s.partOf 255 (8 * r + i) ≠ 255)
      ∨ (bits v.toNat (8 * i + 7) (8 * i) = 255 ∧ tabGet s.partOf 255 (8 * r + i) = 255)) :
    partMapWrite s r v.toNat = { s with host := { s.host with partPend := tabSet s.host.partPend r v } } := by
  have good : ((upTo 8).any fun i =>
      (decide (8 ≤ bits v.toNat (8 * i + 7) (8 * i)) && bits v.toNat (8 * i + 7) (8 * i) != 255)
        || (bits v.toNat (8 * i + 7) (8 * i) == 255 && tabGet s.partOf 255 (8 * r + i) != 255)
        || (bits v.toNat (8 * i + 7) (8 * i) != 255 && tabGet s.partOf 255 (8 * r + i) == 255)) = false := by
    refine List.any_eq_false.mpr fun i hi => ?_
    rcases hl i (List.mem_range.mp hi) with ⟨hsmall, hnow⟩ | ⟨hnone, hnow⟩
    · have hne : bits v.toNat (8 * i + 7) (8 * i) ≠ 255 := by omega
      simp [hnow, hne, hsmall]
    · simp [hnone, hnow]
  simp only [partMapWrite, good, hp, bne_self_eq_false, Bool.or_self, Bool.false_eq_true, if_false, BitVec.ofNat_toNat,
    BitVec.setWidth_eq]

theorem fenceMapWrite_of_same {s : State} {i : Nat} {v : W64} (hr : Nat.land v.toNat 0xF0F0F0F0F0F0F0F0 = 0)
    (ho : ∀ c, c < 8 → bits v.toNat (8 * c + 2) (8 * c) = (s.fence (8 * i + c)).owner) :
    fenceMapWrite s i v.toNat = { s with host := { s.host with fencePend := tabSet s.host.fencePend i v } } := by
  have same (busy : Nat → Bool) : ¬ ((upTo 8).any fun c =>
      bits v.toNat (8 * c + 2) (8 * c) != (s.fence (8 * i + c)).owner
        && (busy (bits v.toNat (8 * c + 2) (8 * c)) || busy (s.fence (8 * i + c)).owner)) = true := by
    rw [Bool.not_eq_true]
    refine List.any_eq_false.mpr fun c hc => ?_
    rw [ho c (List.mem_range.mp hc)]; simp
  simp only [fenceMapWrite, rsvCheck_of_land hr, without_of_land hr]
  exact if_neg (same fun n => s.queues.any fun e => e.2.st != .disabled && e.2.part == n)

theorem fenceCntWrite_of_fits {s : State} {i v : Nat} (h : v < 2 ^ 38) : fenceCntWrite s i v = fenceRaise s i v := by
  have hr : Nat.land v (mask 63 38) = 0 := by
    rw [land_mask, bits, Nat.shiftRight_eq_div_pow, Nat.div_eq_of_lt h]; rfl
  rw [fenceCntWrite, rsvCheck_of_land hr, bits_eq_self h]

/-- R217: a fence counter takes the maximum. -/
theorem fenceRaise_val {s : State} {i v : Nat} (h : v < 2 ^ 38) :
    ((fenceRaise s i v).fence i).val.toNat = max (s.fence i).val.toNat v := by
  simp only [fenceRaise, fence_setFence]
  split
  · simp only [BitVec.toNat_ofNat]; omega
  · omega

theorem fenceRaise_owner (s : State) (i v : Nat) : ((fenceRaise s i v).fence i).owner = (s.fence i).owner := by
  simp only [fenceRaise, fence_setFence]

/-- Settles O38: each write by the lemma of its register. -/
theorem contextsMapsAndCountersAreWritten : Obligations.ContextsMapsAndCountersAreWritten := by
  unfold Obligations.ContextsMapsAndCountersAreWritten
  refine ⟨?root, ?used, ?inv, ?walking, ?ended, ?part, ?fences, ?count⟩
  case root =>
    intro c v s hs hu ht hh hl
    exact congrArg _ ((pfAccess_of_served hs _).trans (rootWrite_of_unused hu ht (root_rsv hh hl)))
  case used =>
    intro c v s hs hu hh hl
    exact congrArg _ ((pfAccess_of_served hs _).trans (rootWrite_of_used hu (root_rsv hh hl)))
  case inv =>
    intro c v s hs hi hh hl
    exact congrArg _ ((pfAccess_of_served hs _).trans (invWrite_of_idle hi hh hl))
  case walking =>
    intro c v s hi hw
    exact congrArg _ (invComplete_of_walking hi hw)
  case ended =>
    intro c v s hi hw
    refine ⟨_, congrArg Host.Outcome.next (invComplete_of_ended hi hw), ?_⟩
    simp only [ctx_setCtx, core_setCtx, core_map_withoutLeaves, setCtx_mem, true_and, and_true]
    refine ⟨fun k hk => ctx_setCtx_ne _ _ _ _ hk, fun p l => ?_⟩
    simp [withoutLeaves]
  case part =>
    intro r v s hlink hp hl
    have hs : served s = true := by simp [served, hlink, hp]
    exact congrArg _ ((pfAccess_of_served hs _).trans (partMapWrite_of_legal hp hl))
  case fences =>
    intro i v s hs hr ho
    exact congrArg _ ((pfAccess_of_served hs _).trans (fenceMapWrite_of_same hr ho))
  case count =>
    intro i v s hs hv
    refine ⟨fenceRaise s i v.toNat, congrArg _ ((pfAccess_of_served hs _).trans (fenceCntWrite_of_fits hv)),
      fenceRaise_val hv, fenceRaise_owner s i _, fun k hk => fence_setFence_ne _ _ _ _ hk, rfl, rfl⟩

end Sys2Proof.Machine

namespace Sys2Proof.Machine

/-! ### What a tick settles -/

/-- What the state holds of the things that only step 4 and step 5 of a tick settle (R204): domain time with its period,
the requests and writes that wait, the crossbar's configuration, the power limits, the fence counters, the energy of
the package and the cores enabled. -/
structure TickView where
  pst : PkgSt
  time : Nat
  last : Nat
  sel : Nat
  change : Option (Nat × Nat)
  adopt : Option (Nat × Nat)
  stepBy : Int
  resets : List ScopeReq
  coreFences : List ScopeReq
  partPend : Tab W64
  fencePend : Tab W64
  xbarCfg : Tab W64
  xbarPend : Tab W64
  slotPend : Tab W64
  curOp : Nat
  nextOp : Nat
  next : Option W64
  capW : Nat
  hintEn : Bool
  opMax : Nat
  energy : W64
  fences : Tab Fence
  enabled : BitVec 256

/-- The view of a state. -/
@[simps] def tickView (s : State) : TickView where
  pst := s.pst
  time := s.tick.time
  last := s.tick.last
  sel := s.tick.sel
  change := s.tick.change
  adopt := s.tick.adopt
  stepBy := s.tick.stepBy
  resets := s.bring.resets
  coreFences := s.bring.fences
  partPend := s.host.partPend
  fencePend := s.host.fencePend
  xbarCfg := s.xbar.cfg
  xbarPend := s.xbar.pend
  slotPend := s.fab.slotPend
  curOp := s.pwr.curOp
  nextOp := s.pwr.nextOp
  next := s.pwr.next
  capW := s.pwr.capW
  hintEn := s.pwr.hintEn
  opMax := s.pwr.opMax
  energy := ctrGet s.pwr.ctr 0x120
  fences := s.fences
  enabled := s.agt.enabled

/-- The units that hold data, records, logs or messages are no part of the view. -/
@[simp] theorem tickView_of_data (s : State) {uptime partNo partOf mem poison latent hbmCorr cores dies dir dirCtr links
    guests msgs homeWr queues hubq numx xlat pages log ce upd fuse bit freeN reply sent pending} :
    tickView ⟨s.pst, uptime, s.agt, partNo, partOf, mem, poison, latent, hbmCorr, cores, dies, dir, dirCtr, links, guests,
      s.xbar, msgs, homeWr, queues, hubq, s.fences, numx, xlat, s.host, pages, log, s.tick, s.fab, ce, upd, s.pwr, s.bring,
      fuse, bit, freeN, reply, sent, pending⟩ = tickView s := rfl

@[simp] theorem tickView_ite {c : Prop} [Decidable c] (s t : State) :
    tickView (if c then s else t) = if c then tickView s else tickView t := apply_ite tickView c s t

theorem tickView_foldl {α : Type} {g : State → α → State} (hg : ∀ t e, tickView (g t e) = tickView t) (l : List α)
    (s : State) : tickView (l.foldl g s) = tickView s := by
  induction l generalizing s with
  | nil => rfl
  | cons e l ih => exact (ih (g s e)).trans (hg s e)

theorem tickView_forUp {g : Nat → State → State} (hg : ∀ i t, tickView (g i t) = tickView t) (n : Nat) (s : State) :
    tickView (forUp n g s) = tickView s := tickView_foldl (fun t i => hg i t) _ s

@[simp] theorem tickView_setCore (s : State) (p : Nat) (x : Core) : tickView (s.setCore p x) = tickView s := rfl
@[simp] theorem tickView_setQueue (s : State) (q : Nat) (x : Queue) : tickView (s.setQueue q x) = tickView s := rfl
@[simp] theorem tickView_setCtx (s : State) (c : Nat) (x : Xlat) : tickView (s.setCtx c x) = tickView s := rfl
@[simp] theorem tickView_setPage (s : State) (n : Nat) (x : Page) : tickView (s.setPage n x) = tickView s := rfl
@[simp] theorem tickView_setDie (s : State) (d : Nat) (x : Die) : tickView (s.setDie d x) = tickView s := rfl
@[simp] theorem tickView_setGroup (s : State) (g : Nat) (x : Group) : tickView (s.setGroup g x) = tickView s := rfl
@[simp] theorem tickView_setPort (s : State) (k : Nat) (x : Port) : tickView (s.setPort k x) = tickView s := rfl
@[simp] theorem tickView_setColl (s : State) (x : Coll) : tickView (setColl s x) = tickView s := rfl
@[simp] theorem tickView_tickCtr (s : State) (o n : Nat) : tickView (tickCtr s o n) = tickView s := rfl
@[simp] theorem tickView_dirBump (s : State) (o n : Nat) : tickView (dirBump s o n) = tickView s := rfl
@[simp] theorem tickView_fabCtr (s : State) (o n : Nat) : tickView (fabCtr s o n) = tickView s := rfl
@[simp] theorem tickView_bringCtr (s : State) (o n : Nat) : tickView (bringCtr s o n) = tickView s := rfl
@[simp] theorem tickView_coreCtr (s : State) (p o n : Nat) : tickView (coreCtr s p o n) = tickView s := by simp [coreCtr]
@[simp] theorem tickView_queueCtr (s : State) (q o n : Nat) : tickView (queueCtr s q o n) = tickView s := by simp [queueCtr]
@[simp] theorem tickView_ctxCtr (s : State) (c o n : Nat) : tickView (ctxCtr s c o n) = tickView s := by simp [ctxCtr]
@[simp] theorem tickView_portCtr (s : State) (k o n : Nat) : tickView (portCtr s k o n) = tickView s := by simp [portCtr]

/-! #### Interrupts, page errors and the log -/

@[simp] theorem tickView_sendMsix (s : State) (fn vec : Nat) : tickView (sendMsix s fn vec) = tickView s := by
  simp only [sendMsix]; split
  · rfl
  · split <;> rfl

@[simp] theorem tickView_raiseIrq (s : State) (b : Nat) : tickView (raiseIrq s b) = tickView s := by
  simp only [raiseIrq]; split
  · rfl
  · split
    · rfl
    · exact tickView_sendMsix _ _ _

@[simp] theorem tickView_pageErr (s : State) (pg b ofs : Nat) : tickView (pageErr s pg b ofs) = tickView s := by
  simp [pageErr]

@[simp] theorem tickView_writeIgnored (s : State) (pg ofs : Nat) : tickView (writeIgnored s pg ofs) = tickView s :=
  tickView_pageErr _ _ _ _

@[simp] theorem tickView_logStore (s : State) (e : LogIn) : tickView (logStore s e) = tickView s := by
  simp [logStore]

@[simp] theorem tickView_logAdd (s : State) (e : LogIn) : tickView (logAdd s e) = tickView s := by
  simp only [logAdd]; split
  · simp
  · split <;> simp

/-! #### Memory and its caches -/

@[simp] theorem tickView_unstage (s : State) (p l : Nat) : tickView (unstage s p l) = tickView s := by
  simp only [unstage]; split <;> simp

@[simp] theorem tickView_uncache (s : State) (d l : Nat) : tickView (uncache s d l) = tickView s := by
  simp only [uncache]; split
  · rfl
  · split <;> simp

@[simp] theorem tickView_filterDec (s : State) (l : Nat) : tickView (filterDec s l) = tickView s := by simp [filterDec]

@[simp] theorem tickView_dropDir (s : State) (l : Nat) : tickView (dropDir s l) = tickView s := by simp [dropDir]

@[simp] theorem tickView_mapDir (s : State) (l : Nat) (f : DirEntry → DirEntry) : tickView (mapDir s l f) = tickView s := rfl

@[simp] theorem tickView_recallLine (s : State) (l : Nat) : tickView (recallLine s l) = tickView s := by
  simp only [recallLine]; split
  · rfl
  · simp [tickView_forUp]

@[simp] theorem tickView_invalidateLine (s : State) (l : Nat) : tickView (invalidateLine s l) = tickView s := by
  simp [invalidateLine, tickView_foldl]

@[simp] theorem tickView_storeBytes (s : State) (a : Nat) (bs : List Byte) (bad : Bool) :
    tickView (storeBytes s a bs bad) = tickView s := by simp [storeBytes]

@[simp] theorem tickView_writeMem (s : State) (a : Nat) (bs : List Byte) (bad : Bool) :
    tickView (writeMem s a bs bad) = tickView s := by
  simp [writeMem, tickView_foldl]

@[simp] theorem tickView_vwrite (s : State) (c dva : Nat) (bs : List Byte) (bad : Bool) :
    tickView (vwrite s c dva bs bad) = tickView s := by
  refine tickView_foldl (fun t pc => ?_) _ s
  split <;> simp

@[simp] theorem tickView_vnote (s : State) (c dva n : Nat) (f : Option Nat) : tickView (vnote s c dva n f) = tickView s := by
  simp [vnote]

@[simp] theorem tickView_detectUnit (s : State) (u : Nat) : tickView (detectUnit s u) = tickView s := by
  simp [detectUnit]

@[simp] theorem tickView_detect (s : State) (a n : Nat) : tickView (detect s a n) = tickView s :=
  tickView_foldl tickView_detectUnit _ s

@[simp] theorem tickView_drawBytes (s : State) (n : Nat) : tickView (drawBytes s n).2 = tickView s := rfl
@[simp] theorem tickView_drawChoice (s : State) (k : Nat) : tickView (drawChoice s k).2 = tickView s := rfl

@[simp] theorem tickView_sendMsg (s : State) (m : DieMsg) : tickView (sendMsg s m) = tickView s := by
  simp only [sendMsg]; split <;> rfl

/-! #### Ports and messages -/

@[simp] theorem tickView_creditBack (s : State) (j v n fl : Nat) : tickView (creditBack s j v n fl) = tickView s := by
  simp only [creditBack]; split
  · rfl
  · split <;> rfl

@[simp] theorem tickView_flitForwarded (s : State) (p : Packet) : tickView (flitForwarded s p) = tickView s := by
  simp only [flitForwarded]; split <;> simp

@[simp] theorem tickView_pumpOne (s : State) (k : Nat) : tickView (pumpOne s k) = tickView s := by
  simp only [pumpOne]; split
  · rfl
  · split
    · simp
    · split <;> simp

@[simp] theorem tickView_pump (s : State) (k : Nat) : tickView (pump s k) = tickView s :=
  tickView_forUp (fun _ t => tickView_pumpOne t k) _ s

@[simp] theorem tickView_sendCtl (s : State) (k : Nat) (m : CtlMsg) : tickView (sendCtl s k m) = tickView s := by
  simp [sendCtl]

@[simp] theorem tickView_flood (s : State) (from_ : Option Nat) (m : CtlMsg) : tickView (flood s from_ m) = tickView s := by
  simp [flood, tickView_foldl]

@[simp] theorem tickView_forwardGroup (s : State) (from_ : Option Nat) (gid : Nat) (m : CtlMsg) :
    tickView (forwardGroup s from_ gid m) = tickView s := by
  simp only [forwardGroup]; split <;> simp [tickView_foldl]

@[simp] theorem tickView_firstSeen (s : State) (k : Nat × Nat × Nat) : tickView (firstSeen s k).2 = tickView s := by
  simp only [firstSeen]; split <;> rfl

@[simp] theorem tickView_firstAbort (s : State) (gid origin : Nat) : tickView (firstAbort s gid origin).2 = tickView s := by
  simp only [firstAbort]; split <;> rfl

@[simp] theorem tickView_markHold (s : State) (gid h : Nat) : tickView (markHold s gid h) = tickView s := rfl

@[simp] theorem tickView_requestHold (s : State) (gid h cause : Nat) :
    tickView (requestHold s gid h cause) = tickView s := by simp [requestHold]

@[simp] theorem tickView_nonMinimal (s : State) (p : Packet) (mask : Nat) :
    tickView (nonMinimal s p mask).2 = tickView s := by
  simp only [nonMinimal]; split
  · rfl
  · split
    · split <;> simp
    · simp

@[simp] theorem tickView_queuePacket (s : State) (k : Nat) (p : Packet) : tickView (queuePacket s k p) = tickView s := by
  simp [queuePacket]

@[simp] theorem tickView_inject (s : State) (p : Packet) : tickView (inject s p).1 = tickView s := by
  simp only [inject]; split <;> simp

@[simp] theorem tickView_sendColl (s : State) (c : Coll) (x : SendC) (f : Nat) : tickView (sendColl s c x f) = tickView s :=
  tickView_inject _ _

/-! #### Records, frames and queues -/

@[simp] theorem tickView_setRecSt (s : State) (c : CmdRef) (st : RecSt) : tickView (setRecSt s c st) = tickView s := rfl

@[simp] theorem tickView_closeFrame (s : State) (q : Nat) : tickView (closeFrame s q) = tickView s := by
  simp only [closeFrame]; split
  · rfl
  · split <;> rfl

@[simp] theorem tickView_postOne (s : State) (c : CmdRef) (v : Cpl) : tickView (postOne s c v).1 = tickView s := by
  simp only [postOne]; split
  · rfl
  · split
    · rfl
    · simp

@[simp] theorem tickView_fetchTo (s : State) (q n : Nat) : tickView (fetchTo s q n) = tickView s := by
  refine tickView_forUp (fun _ t => ?_) _ s
  simp only [tickView_setQueue]; split <;> simp

@[simp] theorem tickView_failRecs (s : State) (q : Nat) (rs : List Rec) (cpl : Rec → Cpl) :
    tickView (failRecs s q rs cpl) = tickView s := by
  simp [failRecs, tickView_foldl]

@[simp] theorem tickView_failUnstarted (s : State) (q st : Nat) : tickView (failUnstarted s q st) = tickView s := by
  simp only [failUnstarted, tickView_failRecs]; split <;> simp

@[simp] theorem tickView_stopQueue (s : State) (q code : Nat) : tickView (stopQueue s q code) = tickView s := by
  simp [stopQueue]

@[simp] theorem tickView_complete (s : State) (c : CmdRef) (v : Cpl) : tickView (complete s c v) = tickView s := by
  simp [complete]

@[simp] theorem tickView_completeSt (s : State) (c : CmdRef) (st : Nat) : tickView (completeSt s c st) = tickView s :=
  tickView_complete _ _ _

@[simp] theorem tickView_freeResult (s : State) (q va n : Nat) : tickView (freeResult s q va n) = tickView s := by
  simp [freeResult]

@[simp] theorem tickView_abortColl (s : State) (c : Coll) (st : Nat) : tickView (abortColl s c st) = tickView s := by
  simp [abortColl]

@[simp] theorem tickView_failLate (s : State) (q : Nat) : tickView (failLate s q) = tickView s := by
  simp only [failLate]; split
  · rfl
  · simp [tickView_foldl]

@[simp] theorem tickView_abortLocal (s : State) (gid st : Nat) : tickView (abortLocal s gid st) = tickView s := by
  simp only [abortLocal]; split
  · rfl
  · simp only [tickView_stopQueue, tickView_ite, tickView_failLate, ite_self, tickView_of_data]
    split
    · simp [tickView_foldl]
    · simp [tickView_foldl]

@[simp] theorem tickView_announceAbort (s : State) (gid st : Nat) : tickView (announceAbort s gid st) = tickView s := by
  simp [announceAbort]

@[simp] theorem tickView_abortOf (s : State) (q st : Nat) : tickView (abortOf s q st) = tickView s := by
  simp [abortOf, sendAbort]

/-! #### Core resets and fences -/

@[simp] theorem tickView_unstageAll (s : State) (p : Nat) : tickView (unstageAll s p) = tickView s :=
  tickView_foldl (fun t (x : StageLine) => tickView_unstage t p x.addr) _ s

@[simp] theorem tickView_dropFlight (s : State) (p : Nat) : tickView (dropFlight s p) = tickView s := by
  simp [dropFlight, tickView_foldl]

@[simp] theorem tickView_clearStore (s : State) (p : Nat) : tickView (clearStore s p) = tickView s := rfl

@[simp] theorem tickView_haltCore (s : State) (p st : Nat) : tickView (haltCore s p st) = tickView s := by
  simp [haltCore, tickView_foldl]

/-- The view after an update of BRING that leaves the requests. -/
theorem tickView_bring (s : State) {b : Bring} (hr : b.resets = s.bring.resets) (hf : b.fences = s.bring.fences) :
    tickView { s with bring := b } = tickView s := by
  simp only [tickView, hr, hf]

@[simp] theorem tickView_resetCore (s : State) (p st : Nat) : tickView (resetCore s p st) = tickView s := by
  simp only [resetCore]; split
  · rfl
  · exact (tickView_bring _ rfl rfl).trans (by simp)

@[simp] theorem tickView_haltCluster (s : State) (c st : Nat) : tickView (haltCluster s c st) = tickView s := by
  simp [haltCluster, tickView_foldl]

@[simp] theorem tickView_resetCluster (s : State) (c st : Nat) : tickView (resetCluster s c st) = tickView s := by
  simp only [resetCluster]; split
  · rfl
  · exact (tickView_bring _ rfl rfl).trans (by simp)

@[simp] theorem tickView_partReset (s : State) (n : Nat) : tickView (partReset s n) = tickView s := by
  simp only [partReset]; split
  · rfl
  · refine (tickView_foldl (by simp) _ _).trans ((tickView_foldl (by simp) _ _).trans ?_)
    exact (tickView_bring _ rfl rfl).trans (by simp)

@[simp] theorem tickView_applyReset (s : State) (r : ScopeReq) : tickView (applyReset s r) = tickView s := by
  simp only [applyReset]; split <;> simp

theorem tickView_agtUpdate (s : State) (f : Agt → Agt) :
    tickView (agtUpdate s f) = { tickView s with enabled := (f s.agt).enabled } := rfl

end Sys2Proof.Machine

namespace Sys2Proof.Machine

/-! ### The steps of a tick -/

/-- Fences on cores: nothing else of the view changes, and a core that is off stays off (R480). -/
structure OnlyFences (s u : State) : Prop where
  view : tickView u = { tickView s with enabled := u.agt.enabled }
  off : ∀ p, coreOn s p = false → coreOn u p = false

theorem OnlyFences.refl (s : State) : OnlyFences s s := ⟨rfl, fun _ h => h⟩

theorem OnlyFences.trans {s t u : State} (h : OnlyFences s t) (k : OnlyFences t u) : OnlyFences s u :=
  ⟨by rw [k.view, h.view], fun p hp => k.off p (h.off p hp)⟩

theorem OnlyFences.foldl {α : Type} {g : State → α → State} (hg : ∀ t e, OnlyFences t (g t e)) (l : List α) (s : State) :
    OnlyFences s (l.foldl g s) := by
  induction l generalizing s with
  | nil => exact .refl s
  | cons e l ih => exact (hg s e).trans (ih (g s e))

theorem tickView_fenceCore (s : State) (p cause st : Nat) :
    tickView (fenceCore s p cause st) = { tickView s with
      enabled := if coreOn s p then s.agt.enabled &&& ~~~BitVec.ofNat 256 (2 ^ p) else s.agt.enabled } := by
  simp only [fenceCore]
  cases hp : coreOn s p with
  | false => rfl
  | true =>
    simp only [Bool.not_true, Bool.false_eq_true, if_false, if_true, tickView_logAdd, tickView_raiseIrq]
    refine (tickView_foldl (by simp) _ _).trans ((tickView_foldl (by simp) _ _).trans ?_)
    refine (tickView_bring _ rfl rfl).trans ?_
    simp [tickView_agtUpdate]

theorem enabled_fenceCore (s : State) (p cause st : Nat) : (fenceCore s p cause st).agt.enabled =
    if coreOn s p then s.agt.enabled &&& ~~~BitVec.ofNat 256 (2 ^ p) else s.agt.enabled :=
  congrArg TickView.enabled (tickView_fenceCore s p cause st)

/-- R480: a fence turns its core off and no other. -/
theorem coreOn_fenceCore (s : State) (p cause st n : Nat) :
    coreOn (fenceCore s p cause st) n = (coreOn s n && n != p) := by
  rw [coreOn, enabled_fenceCore]
  cases hp : coreOn s p with
  | false =>
    change coreOn s n = _
    by_cases h : n = p
    · simp [h, hp]
    · simp [h]
  | true =>
    by_cases hn : n < 256
    · simp only [if_true, BitVec.getLsbD_and, BitVec.getLsbD_not, BitVec.getLsbD_ofNat, Nat.testBit_two_pow, hn,
        decide_true, Bool.true_and, coreOn, bne, beq_eq_decide, eq_comm]
    · simp [coreOn, BitVec.getLsbD_of_ge _ _ (Nat.le_of_not_lt hn)]

theorem fenceCore_onlyFences (s : State) (p cause st : Nat) : OnlyFences s (fenceCore s p cause st) where
  view := by rw [tickView_fenceCore, enabled_fenceCore]
  off n hn := by rw [coreOn_fenceCore, hn]; rfl

theorem applyFence_onlyFences (s : State) (r : ScopeReq) : OnlyFences s (applyFence s r) := by
  simp only [applyFence]; split
  · exact fenceCore_onlyFences _ _ _ _
  · exact .foldl (fun t p => fenceCore_onlyFences t p _ _) _ s

/-- R479: after the requests of BRING.FENCE every core that one of them names is off. -/
theorem coreOn_foldl_applyFence {r : ScopeReq} (h0 : r.scope = 0) {fs : List ScopeReq} (hr : r ∈ fs) (s : State) :
    coreOn (fs.foldl applyFence s) r.target = false := by
  induction fs generalizing s with
  | nil => cases hr
  | cons f fs ih =>
    rcases List.mem_cons.mp hr with rfl | hr
    · refine (OnlyFences.foldl applyFence_onlyFences fs _).off _ ?_
      simp only [applyFence, h0, coreOn_fenceCore, bne_self_eq_false, Bool.and_false]
    · exact ih hr _

/-- R474, R479: the requests of the ending slot are taken, and cores are fenced. -/
theorem tickView_hostRequests (s : State) : tickView (hostRequests s) =
    { tickView s with resets := [], coreFences := [], enabled := (hostRequests s).agt.enabled } := by
  refine (OnlyFences.foldl applyFence_onlyFences _ _).view.trans ?_
  rw [tickView_foldl tickView_applyReset]
  rfl

theorem coreOn_hostRequests {s : State} {r : ScopeReq} (hr : r ∈ s.bring.fences) (h0 : r.scope = 0) :
    coreOn (hostRequests s) r.target = false := coreOn_foldl_applyFence h0 hr _

/-! #### The power limits (R436, R440, R445) -/

@[simp] theorem tickView_withLimit (s : State) (p : Pwr) : tickView (withLimit s p) = tickView { s with pwr := p } := by
  simp [withLimit]

theorem tickView_measureAt (s : State) (idle : Bool) (m : SlotMeasure) : tickView (measureAt s idle m) = tickView s := by
  cases idle <;> rfl

theorem tickView_thermTick (s : State) : tickView (thermTick s) = tickView s := by
  simp only [thermTick]; split
  · exact tickView_withLimit _ _
  · split
    · split
      · exact tickView_withLimit _ _
      · rfl
    · rfl

/-- The view after a PWR.CTRL value that waits has come into force (R436). -/
def TickView.controlled (x : TickView) : TickView :=
  { x with
    next := none
    capW := match x.next with | some v => bits v.toNat 15 0 | none => x.capW
    hintEn := match x.next with | some v => v.getLsbD 16 | none => x.hintEn
    opMax := match x.next with | some v => bits v.toNat 35 32 | none => x.opMax }

theorem tickView_ctrlAt (s : State) : tickView (ctrlAt s) = (tickView s).controlled := by
  cases hn : s.pwr.next with
  | none => simp only [ctrlAt, TickView.controlled, tickView, hn]
  | some v =>
    simp only [ctrlAt, hn, tickView_withLimit]
    simp only [TickView.controlled, tickView, hn]
    rfl

theorem tickView_powerAt (s : State) (idle : Bool) (m : SlotMeasure) :
    tickView (powerAt s idle m) = { tickView s with curOp := s.pwr.nextOp }.controlled := by
  have view := tickView_measureAt s idle m
  have next : (measureAt s idle m).pwr.nextOp = s.pwr.nextOp := congrArg TickView.nextOp view
  rw [powerAt, tickView_thermTick, tickView_ctrlAt, ← view, ← next]
  rfl

/-! #### The maps and tables (R28, R321, R374, R538, R539) -/

theorem tickView_movePart (s : State) (r v : Nat) : tickView (movePart s r v) = tickView s := by
  simp only [movePart]; split
  · exact tickView_foldl (by intros; rfl) _ s
  · exact tickView_writeIgnored _ _ _

/-- A step that writes fence counters alone, repeated. -/
theorem tickView_foldl_fences {α : Type} {g : State → α → State}
    (hg : ∀ t e, tickView (g t e) = { tickView t with fences := (g t e).fences }) (l : List α) (s : State) :
    tickView (l.foldl g s) = { tickView s with fences := (l.foldl g s).fences } := by
  induction l generalizing s with
  | nil => rfl
  | cons e l ih => exact (ih (g s e)).trans (by rw [hg s e]; rfl)

theorem tickView_moveFence (s : State) (i v : Nat) :
    tickView (moveFence s i v) = { tickView s with fences := (moveFence s i v).fences } :=
  tickView_foldl_fences (by intros; rfl) _ s

theorem tickView_mapsAt (s : State) :
    tickView (mapsAt s) = { tickView s with partPend := [], fencePend := [], fences := (mapsAt s).fences } := by
  refine (tickView_foldl_fences (fun t e => tickView_moveFence t _ _) _ _).trans ?_
  rw [tickView_foldl (fun t e => tickView_movePart t _ _)]
  rfl

theorem forUp_succ {σ : Type} (n : Nat) (f : Nat → σ → σ) (s : σ) : forUp (n + 1) f s = f n (forUp n f s) := by
  simp [forUp, List.range_succ]

/-- What a run over the numbers below `n` leaves at one of them, where each step writes its own place and no other. -/
theorem forUp_writes {σ β : Type} {g : Nat → σ → σ} {read : Nat → σ → β} {val : Nat → β}
    (own : ∀ c t, read c (g c t) = val c) (other : ∀ c d t, d ≠ c → read d (g c t) = read d t) {n c : Nat} (hc : c < n)
    (s : σ) : read c (forUp n g s) = val c := by
  induction n with
  | zero => omega
  | succ n ih =>
    rw [forUp_succ]
    by_cases h : c = n
    · rw [h, own]
    · rw [other n c _ h, ih (by omega)]

/-- R539: a write of FENCE_MAP[i] gives each of its eight counters its owner. -/
theorem owner_moveFence (s : State) (i v : Nat) {c : Nat} (hc : c < 8) :
    ((moveFence s i v).fence (8 * i + c)).owner = bits v (8 * c + 2) (8 * c) := by
  refine forUp_writes (read := fun c t => (t.fence (8 * i + c)).owner) (val := fun c => bits v (8 * c + 2) (8 * c))
    (fun c t => ?_) (fun c d t hd => ?_) hc s
  · have low : bits v (8 * c + 7) (8 * c) % 8 = bits v (8 * c + 2) (8 * c) := by
      have hw : 8 * c + 7 + 1 - 8 * c = 8 ∧ 8 * c + 2 + 1 - 8 * c = 3 := by omega
      simp only [bits, hw]; omega
    simpa using low
  · simp [fence_setFence_ne _ _ _ _ (show 8 * i + d ≠ 8 * i + c by omega)]

/-- R539: a write of FENCE_MAP that waited alone gives its counters their owners. -/
theorem owner_mapsAt {s : State} {i : Nat} {v : W64} (hp : s.host.fencePend = [(i, v)]) {c : Nat} (hc : c < 8) :
    ((mapsAt s).fence (8 * i + c)).owner = bits v.toNat (8 * c + 2) (8 * c) := by
  simp only [mapsAt, hp, List.foldl_cons, List.foldl_nil]
  exact owner_moveFence _ i v.toNat hc

@[simp] theorem tickView_tableLoad (s : State) (i : Nat) : tickView (tableLoad s i) = tickView s := by
  simp [tableLoad]

theorem tickView_tablesApply (s : State) : tickView (tablesApply s) = tickView s := by
  simp [tablesApply, tickView_foldl]

theorem tickView_schedApply (s : State) (k : Nat) : tickView (schedApply s k) = tickView s := by
  simp [schedApply, tickView_foldl]

/-- The crossbar's configuration once the writes that wait are in it (R321). -/
def TickView.crossbar (x : TickView) : Tab W64 := x.xbarPend.foldl (fun t e => tabSet t e.1 e.2) x.xbarCfg

theorem tickView_tablesAt (s : State) :
    tickView (tablesAt s) = { tickView s with slotPend := [], xbarCfg := (tickView s).crossbar, xbarPend := [] } := by
  rw [tablesAt, tickView_tablesApply]
  generalize ht : forUp 64 _ _ = t
  have view : tickView t = { tickView s with slotPend := [] } := by
    rw [← ht, tickView_forUp (fun k t => tickView_schedApply t k), tickView_foldl (by intros; rfl)]
    rfl
  change { tickView t with xbarCfg := (tickView t).crossbar, xbarPend := [] } = _
  rw [view]; rfl

/-! #### The period, mastership and the next operating point -/

/-- The period that a change due by the view's domain time sets (R199, R578). -/
def TickView.due (x : TickView) : Option Nat :=
  match x.change with
  | some c => if c.1 ≤ x.time then some c.2 else none
  | none => match x.adopt with
    | some c => if c.1 ≤ x.time then some c.2 else none
    | none => none

theorem periodDue_eq (s : State) : periodDue s s.tick.time = (tickView s).due := rfl

/-- The view after a change of period that is due. -/
def TickView.timed (x : TickView) : TickView :=
  { x with
    sel := x.due.getD x.sel
    change := if x.due.isSome then none else x.change
    adopt := if x.due.isSome then none else x.adopt }

theorem tickView_periodApply (s : State) (tk sel : Nat) : tickView (periodApply s tk sel) = { tickView s with sel := sel } := by
  refine (tickView_foldl (fun t q => ?_) _ _).trans rfl
  simp

theorem tickView_periodAt (s : State) (tk : Nat) : tickView (periodAt s tk) = (tickView s).timed := by
  simp only [periodAt, periodDue_eq, TickView.timed]
  cases hd : (tickView s).due with
  | none => rfl
  | some x => exact tickView_periodApply _ tk x

@[simp] theorem tickView_agtAt (old s : State) : tickView (agtAt old s) = tickView s := by
  simp only [agtAt]; split <;> rfl

/-- A change of mastership may drop a step of domain time that is due, and touches nothing else of the view (R201). -/
def MaySkipStep (s u : State) : Prop :=
  ∃ b, (s.tick.stepBy = 0 → b = 0) ∧ tickView u = { tickView s with stepBy := b }

theorem MaySkipStep.refl (s : State) : MaySkipStep s s := ⟨s.tick.stepBy, id, rfl⟩

theorem MaySkipStep.same {s t u : State} (h : MaySkipStep s t) (e : tickView u = tickView t) : MaySkipStep s u := by
  obtain ⟨b, hb, hv⟩ := h
  exact ⟨b, hb, e.trans hv⟩

theorem MaySkipStep.skip {s t u : State} (h : MaySkipStep s t) (e : tickView u = { tickView t with stepBy := 0 }) :
    MaySkipStep s u := by
  obtain ⟨b, hb, hv⟩ := h
  exact ⟨0, fun _ => rfl, by rw [e, hv]⟩

theorem becomeMaster_maySkipStep {a s : State} (h : MaySkipStep a s) : MaySkipStep a (becomeMaster s) := h.skip rfl

theorem reelect_maySkipStep {a s : State} (h : MaySkipStep a s) : MaySkipStep a (reelect s) := by
  simp only [reelect]
  split
  · exact h
  split
  · exact h.skip rfl
  generalize ht : { s with tick := _ } = t
  have view : tickView t = tickView s := by rw [← ht]; rfl
  split
  · exact becomeMaster_maySkipStep (h.same view)
  · exact h.same view

theorem withoutMaster_maySkipStep {a s : State} (h : MaySkipStep a s) (gone : List Nat) :
    MaySkipStep a (withoutMaster s gone) := by
  unfold withoutMaster; exact reelect_maySkipStep (h.same rfl)

theorem masterLost_maySkipStep {a s : State} (h : MaySkipStep a s) : MaySkipStep a (masterLost s) := by
  simp only [masterLost]
  split
  · exact h
  split
  · exact h
  split
  · exact withoutMaster_maySkipStep h _
  split
  · exact reelect_maySkipStep (becomeMaster_maySkipStep (h.same rfl))
  split
  · exact withoutMaster_maySkipStep h _
  · exact h

theorem masterAt_maySkipStep (s : State) : MaySkipStep s (masterAt s) := by
  have h := MaySkipStep.refl s
  simp only [masterAt, passMaster]
  split
  · split
    · exact reelect_maySkipStep (h.same rfl)
    · split
      · exact masterLost_maySkipStep h
      · exact h
  · exact reelect_maySkipStep h

@[simp] theorem tickView_capFloor (s : State) (n : Nat) : tickView (capFloor s n) = tickView s := by simp [capFloor]

theorem tickView_opSelect (s : State) (tk : Nat) :
    tickView (opSelect s tk) = { tickView s with nextOp := (opSelect s tk).pwr.nextOp } := by
  suffices ∃ n, tickView (opSelect s tk) = { tickView s with nextOp := n } by
    obtain ⟨n, hn⟩ := this
    rw [show (opSelect s tk).pwr.nextOp = n from congrArg TickView.nextOp hn, hn]
  simp only [opSelect, tickView_ite]
  rw [tickView_foldl (by simp)]
  simp only [ite_self, tickView_ite, tickView_capFloor]
  exact ⟨_, rfl⟩

end Sys2Proof.Machine

namespace Sys2Proof.Machine

/-! #### The ended slot, its energy and what leaves at a tick -/

@[simp] theorem tickView_raiseOverrun (s : State) (q : Nat) : tickView (raiseOverrun s q) = tickView s := by
  simp only [raiseOverrun]; split
  · rfl
  · split <;> simp

theorem tickView_closeAt (s : State) (tk q : Nat) : tickView (closeAt s tk q) = tickView s := by
  simp only [closeAt]; split
  · rfl
  · simp

theorem tickView_holdAt (s : State) (tk : Nat) : tickView (holdAt s tk) = tickView s := by
  simp only [holdAt, tickView_ite, tickView_tickCtr, ite_self]
  refine (tickView_foldl (fun t e => ?_) _ _).trans (tickView_foldl (by simp) _ s)
  simp only [tickView_ite, tickView_setGroup]
  split
  · split <;> simp
  · rfl

theorem tickView_countAt (s : State) (tk : Nat) : tickView (countAt s tk) = tickView s := rfl

/-- Steps 1 to 3 of a tick: the slot that ends is closed and counted (R204). -/
def slotEnded (s : State) : State :=
  let s := advance s
  let tk := s.tick.last
  countAt (holdAt ((upTo 64).foldl (fun t q => closeAt t tk q) s) tk) tk

theorem tickView_slotEnded (s : State) :
    tickView (slotEnded s) = { tickView s with time := nextTime s, last := nextTime s / 4096 } := by
  simp only [slotEnded, tickView_countAt, tickView_holdAt]
  exact (tickView_foldl (fun t q => tickView_closeAt t _ q) _ _).trans rfl

theorem ctrGet_ctrAdd_same (c : Ctrs) (o n : Nat) : ctrGet (ctrAdd c o n) o = ctrGet c o + BitVec.ofNat 64 n := by
  simp only [ctrAdd, ctrGet]; split
  · next h => simp [h]
  · simp

theorem ctrGet_ctrAdd_ne {o k : Nat} (h : k ≠ o) (c : Ctrs) (n : Nat) : ctrGet (ctrAdd c o n) k = ctrGet c k := by
  simp only [ctrAdd, ctrGet]; split
  · rfl
  · exact tabGet_tabSet_ne _ _ _ _ _ h

theorem ctrGet_addAll {base k : Nat} (h : k < base) (c : Ctrs) (l : List Nat) : ctrGet (addAll c base l) k = ctrGet c k := by
  unfold addAll
  generalize (upTo l.length).zip l = es
  induction es generalizing c with
  | nil => rfl
  | cons e es ih => exact (ih _).trans (ctrGet_ctrAdd_ne (by omega) _ _)

/-- R455: the energy of the ended slot is added to that of the package. -/
theorem tickView_energyAt (s : State) (op : Nat) (po : Tab Nat) (m : SlotMeasure) :
    tickView (energyAt s op po m) = { tickView s with energy := ctrGet s.pwr.ctr 0x120 + BitVec.ofNat 64 m.total } := by
  simp only [energyAt]
  rw [tickView_foldl (by simp)]
  have energy (c : Ctrs) (g p : List Nat) : ctrGet (ctrAdd (ctrAdd (addAll (addAll
      (ctrAdd (ctrAdd (ctrAdd c 0x120 m.total) 0x128 m.unattr) 0x130 m.recovery) 0x138 g) 0x148 p) 0x198 m.thermClk)
      (0x1A0 + 8 * op) 1) 0x120 = ctrGet c 0x120 + BitVec.ofNat 64 m.total := by
    rw [ctrGet_ctrAdd_ne (by omega), ctrGet_ctrAdd_ne (by decide), ctrGet_addAll (by decide), ctrGet_addAll (by decide),
      ctrGet_ctrAdd_ne (by decide), ctrGet_ctrAdd_ne (by decide), ctrGet_ctrAdd_same]
  simp only [tickView, energy]

theorem tickView_scaleWriteBack (s : State) (ks : List Nat) : tickView (scaleWriteBack s ks) = tickView s := by
  refine tickView_foldl (fun t k => ?_) _ s
  simp

theorem tickView_startFrame (s : State) (q tk : Nat) : tickView (startFrame s q tk) = tickView s := by
  simp only [startFrame]
  split
  · rfl
  split
  · rfl
  split
  · simp
  · rfl

theorem tickView_startFrames (s : State) (tk : Nat) (qs : List Nat) :
    tickView (qs.foldl (fun t q => startFrame t q tk) s) = tickView s :=
  tickView_foldl (fun t q => tickView_startFrame t q tk) qs s

theorem tickView_portsAt (s : State) : tickView (portsAt s) = tickView s := rfl

theorem tickView_sendDirect (s : State) (ref : CmdRef) : tickView (sendDirect s ref) = tickView s := by
  simp only [sendDirect]; split
  · rfl
  · refine tickView_foldl (fun t x => ?_) _ s
    simp only [tickView_ite]
    split
    · rfl
    · split <;> simp [tickView_forUp]

theorem tickView_sendAllDirect (s : State) : tickView (sendAllDirect s) = tickView s :=
  tickView_foldl (fun t (c : Coll) => tickView_sendDirect t c.ref) _ s

theorem tickView_timeFlits (s : State) : tickView (timeFlits s) = tickView s := by
  simp only [timeFlits, tickView_ite, tickView_flood, tickView_firstSeen]
  split
  · rfl
  · split
    · rfl
    · exact (tickView_sendCtl _ _ _).trans rfl

theorem tickView_stepTime (s : State) :
    ∃ t, (s.tick.stepBy = 0 → t = s.tick.time) ∧ tickView (stepTime s) = { tickView s with time := t, stepBy := 0 } := by
  simp only [stepTime]; split
  · next h => exact ⟨s.tick.time, fun _ => rfl, by simp only [tickView, h]⟩
  · next h => exact ⟨_, fun h0 => absurd h0 h, rfl⟩

/-! #### The whole tick -/

/-- The view once the pending changes of step 4 have taken effect, but for the fences, the fence counters, mastership and
the next operating point. -/
def TickView.settled (x : TickView) : TickView :=
  { x.controlled.timed with
    resets := [], coreFences := [], partPend := [], fencePend := [], xbarCfg := x.crossbar, xbarPend := []
    slotPend := [], curOp := x.nextOp }

/-- The state in which a tick applies the writes of the maps. -/
def beforeMaps (s : State) (idle : Bool) (m : SlotMeasure) : State := powerAt (hostRequests s) idle m

theorem tickView_beforeMaps (s : State) (idle : Bool) (m : SlotMeasure) : tickView (beforeMaps s idle m) =
    { (tickView s).controlled with
      resets := [], coreFences := [], curOp := s.pwr.nextOp, enabled := (hostRequests s).agt.enabled } := by
  have next : (hostRequests s).pwr.nextOp = s.pwr.nextOp := congrArg TickView.nextOp (tickView_hostRequests s)
  rw [beforeMaps, tickView_powerAt, tickView_hostRequests, next]
  rfl

theorem tickView_changesAt (s : State) (tk : Nat) (idle : Bool) (m : SlotMeasure) :
    ∃ b n, (s.tick.stepBy = 0 → b = 0) ∧ tickView (changesAt s tk idle m) = { (tickView s).settled with
      stepBy := b, nextOp := n, fences := (mapsAt (beforeMaps s idle m)).fences, enabled := (hostRequests s).agt.enabled } := by
  generalize ht : agtAt s (periodAt (tablesAt (mapsAt (beforeMaps s idle m))) tk) = t
  have view : tickView t = { (tickView s).settled with
      nextOp := s.pwr.nextOp, fences := (mapsAt (beforeMaps s idle m)).fences, enabled := (hostRequests s).agt.enabled } := by
    rw [← ht, tickView_agtAt, tickView_periodAt, tickView_tablesAt, tickView_mapsAt, tickView_beforeMaps]
    rfl
  obtain ⟨b, hb, master⟩ := masterAt_maySkipStep t
  have step : t.tick.stepBy = s.tick.stepBy := congrArg TickView.stepBy view
  refine ⟨b, (changesAt s tk idle m).pwr.nextOp, fun h0 => hb (step.trans h0), ?_⟩
  have changes : changesAt s tk idle m = opSelect (masterAt t) tk := by rw [← ht]; rfl
  rw [changes, tickView_opSelect, master, view]

theorem sluiceTick_of_active {s : State} (h : s.pst = .active) (m : SlotMeasure) : sluiceTick s m =
    stepTime (timeFlits (sendAllDirect ((upTo 64).foldl (fun t q => startFrame t q (nextTime s / 4096)) (portsAt
      (scaleWriteBack (energyAt (changesAt (slotEnded s) (nextTime s / 4096) s.pwr.idleNow m) s.pwr.curOp s.partOf m)
        m.scaleWb))))) := if_neg (not_not_intro h)

/-- R204: what a tick of an Active package settles. A step of domain time comes after it (R202). -/
theorem tickView_sluiceTick {s : State} (h : s.pst = .active) (m : SlotMeasure) :
    ∃ t n, (s.tick.stepBy = 0 → t = nextTime s) ∧ tickView (sluiceTick s m) =
      { TickView.settled { tickView s with time := nextTime s, last := nextTime s / 4096 } with
        time := t, stepBy := 0, nextOp := n, energy := ctrGet s.pwr.ctr 0x120 + BitVec.ofNat 64 m.total
        fences := (mapsAt (beforeMaps (slotEnded s) s.pwr.idleNow m)).fences
        enabled := (hostRequests (slotEnded s)).agt.enabled } := by
  obtain ⟨b, n, hb, changes⟩ := tickView_changesAt (slotEnded s) (nextTime s / 4096) s.pwr.idleNow m
  have ended := tickView_slotEnded s
  rw [sluiceTick_of_active h]
  generalize hc : changesAt (slotEnded s) (nextTime s / 4096) s.pwr.idleNow m = c at changes ⊢
  generalize hu : timeFlits _ = u
  rw [ended] at changes
  have energy : ctrGet c.pwr.ctr 0x120 = ctrGet s.pwr.ctr 0x120 := congrArg TickView.energy changes
  have view : tickView u = { tickView c with energy := ctrGet s.pwr.ctr 0x120 + BitVec.ofNat 64 m.total } := by
    rw [← hu, tickView_timeFlits, tickView_sendAllDirect, tickView_startFrames, tickView_portsAt,
      tickView_scaleWriteBack, tickView_energyAt, energy]
  rw [changes] at view
  obtain ⟨t, ht, step⟩ := tickView_stepTime u
  refine ⟨t, n, fun h0 => ?_, by rw [step, view]⟩
  have zero : u.tick.stepBy = 0 :=
    (congrArg TickView.stepBy view).trans (hb (by rw [← tickView_stepBy, ended]; exact h0))
  exact (ht zero).trans (congrArg TickView.time view)

end Sys2Proof.Machine

namespace Sys2Proof.Machine

/-! #### The statement -/

/-- R479: a core that a waiting request of BRING.FENCE names is off after the tick. -/
theorem coreOn_sluiceTick {s : State} (h : s.pst = .active) (m : SlotMeasure) {r : ScopeReq} (hr : r ∈ s.bring.fences)
    (h0 : r.scope = 0) : coreOn (sluiceTick s m) r.target = false := by
  obtain ⟨t, n, -, view⟩ := tickView_sluiceTick h m
  have waits : (slotEnded s).bring.fences = s.bring.fences := by rw [← tickView_coreFences, tickView_slotEnded]; rfl
  have enabled : (sluiceTick s m).agt.enabled = (hostRequests (slotEnded s)).agt.enabled := by
    rw [← tickView_enabled, view]
  rw [coreOn, enabled]
  exact coreOn_hostRequests (by rwa [waits]) h0

/-- R539: a write of FENCE_MAP that waits alone gives its counters their owners at the tick. -/
theorem owner_sluiceTick {s : State} (h : s.pst = .active) (m : SlotMeasure) {i : Nat} {v : W64}
    (hp : s.host.fencePend = [(i, v)]) {c : Nat} (hc : c < 8) :
    ((sluiceTick s m).fence (8 * i + c)).owner = bits v.toNat (8 * c + 2) (8 * c) := by
  obtain ⟨t, n, -, view⟩ := tickView_sluiceTick h m
  have waits : (beforeMaps (slotEnded s) s.pwr.idleNow m).host.fencePend = [(i, v)] := by
    rw [← hp, ← tickView_fencePend, tickView_beforeMaps, tickView_slotEnded]; rfl
  have fences : (sluiceTick s m).fences = (mapsAt (beforeMaps (slotEnded s) s.pwr.idleNow m)).fences :=
    congrArg TickView.fences view
  rw [State.fence, fences]
  exact owner_mapsAt waits hc

theorem tickAtChange_due {s : State} {c : Nat × Nat} (hc : c.1 ≤ nextTime s) (m : SlotMeasure) :
    tickAtChange s (some c) m = sluiceTick s m := if_pos hc

/-- A change of period that is due at a view's time leaves no change that waits, and its own period. -/
theorem TickView.settled_of_due {x : TickView} {p : Nat} (hd : x.due = some p) :
    x.settled.sel = p ∧ x.settled.change = none ∧ x.settled.adopt = none := by
  have due : x.controlled.due = some p := hd
  simp [TickView.settled, TickView.timed, due]

/-- R199, R578: a tick at which a change of period is due sets the new period, and no change waits any longer. -/
theorem period_sluiceTick {s : State} (h : s.pst = .active) (m : SlotMeasure) {p : Nat}
    (hd : TickView.due { tickView s with time := nextTime s, last := nextTime s / 4096 } = some p) :
    (sluiceTick s m).tick.sel = p ∧ (sluiceTick s m).tick.change = none ∧ (sluiceTick s m).tick.adopt = none := by
  obtain ⟨t, n, -, view⟩ := tickView_sluiceTick h m
  rw [← tickView_sel, ← tickView_change, ← tickView_adopt, view]
  exact TickView.settled_of_due hd

theorem TickView.settled_of_next {x : TickView} {v : W64} (hn : x.next = some v) :
    x.settled.capW = bits v.toNat 15 0 ∧ x.settled.hintEn = v.getLsbD 16 ∧ x.settled.opMax = bits v.toNat 35 32 := by
  simp [TickView.settled, TickView.timed, TickView.controlled, hn]

/-- Settles O40: the tick's view (`tickView_sluiceTick`), read field by field. -/
theorem ticksAdvanceDomainTime : Obligations.TicksAdvanceDomainTime := by
  unfold Obligations.TicksAdvanceDomainTime
  refine ⟨?tick, ?change, ?adopt, ?early⟩
  case tick =>
    intro m s h h0
    refine ⟨sluiceTick s m, rfl, ?_⟩
    obtain ⟨t, n, ht, view⟩ := tickView_sluiceTick h m
    refine ⟨(congrArg TickView.pst view).trans h, (congrArg TickView.time view).trans (ht h0), congrArg TickView.last view,
      congrArg TickView.resets view, congrArg TickView.coreFences view, congrArg TickView.partPend view,
      congrArg TickView.fencePend view, congrArg TickView.xbarPend view, congrArg TickView.slotPend view,
      congrArg TickView.curOp view, congrArg TickView.next view, congrArg TickView.energy view, ?control,
      fun r hr => coreOn_sluiceTick h m hr, fun i v c hp hc => owner_sluiceTick h m hp hc, ?xbar⟩
    case control =>
      intro v hv
      rw [← tickView_capW, ← tickView_hintEn, ← tickView_opMax, view]
      exact TickView.settled_of_next hv
    case xbar =>
      intro k v hx
      have cfg : (sluiceTick s m).xbar.cfg = tabSet s.xbar.cfg k v := by
        rw [← tickView_xbarCfg, view]
        simp [TickView.settled, TickView.crossbar, hx]
      rw [cfg, tabGet_tabSet_same]
  case change =>
    intro m s c h hc hle
    have due : TickView.due { tickView s with time := nextTime s, last := nextTime s / 4096 } = some c.2 := by
      simp [TickView.due, hc, hle]
    have tick : tickAtChange s s.tick.change m = sluiceTick s m := by rw [hc, tickAtChange_due hle]
    exact ⟨sluiceTick s m, congrArg _ tick, rfl, period_sluiceTick h m due⟩
  case adopt =>
    intro m s c h hn hc hle
    have due : TickView.due { tickView s with time := nextTime s, last := nextTime s / 4096 } = some c.2 := by
      simp [TickView.due, hn, hc, hle]
    have tick : (if s.tick.change.isSome then s else tickAtChange s s.tick.adopt m) = sluiceTick s m := by
      simp [hn, hc, tickAtChange_due hle]
    obtain ⟨hsel, -, hadopt⟩ := period_sluiceTick h m due
    exact ⟨sluiceTick s m, congrArg _ tick, rfl, hsel, hadopt⟩
  case early =>
    intro m s c hc hlt
    have late : tickAtChange s s.tick.change m = s := by rw [hc]; exact if_neg (Nat.not_le.mpr hlt)
    exact congrArg _ late

end Sys2Proof.Machine

namespace Sys2Proof.Machine

/-! ### Stores to a core store (R136, R182) -/

theorem cellGet_cellSet (m : List Host.Cell) (a x : Nat) (b : Byte) :
    cellGet (cellSet m a b) x = if x = a then b else cellGet m x := by
  unfold cellGet cellSet
  split
  next zero => rw [tabGet_tabErase, zero]
  next => exact tabGet_tabSet m 0 b a x

/-- A run of bytes reads back; every other address reads as before. -/
theorem cellGet_cellsSet (bs : List Byte) (m : List Host.Cell) (a x : Nat) :
    cellGet (cellsSet m a bs) x = if a ≤ x ∧ x < a + bs.length then bs.getD (x - a) 0 else cellGet m x := by
  induction bs generalizing m a with
  | nil =>
    have outside : ¬ (a ≤ x ∧ x < a + 0) := by omega
    exact (if_neg outside).symm
  | cons b bs ih =>
    rw [cellsSet, ih, cellGet_cellSet, List.length_cons]
    rcases Nat.lt_trichotomy x a with below | rfl | above
    · simp [show ¬ a + 1 ≤ x by omega, show ¬ a ≤ x by omega, show x ≠ a by omega]
    · simp
    · have tail : x - a = x - (a + 1) + 1 := by omega
      have inner : a ≤ x ∧ x < a + (bs.length + 1) ↔ a + 1 ≤ x ∧ x < a + 1 + bs.length := by omega
      simp only [tail, inner, List.getD_cons_succ, show x ≠ a by omega, if_false]

theorem lateDie_csAddr (s : State) (p o : Nat) : lateDie s (csAddr p o) = false := by simp [lateDie, inHbm_csAddr]

theorem ve_setCore {s : State} {p : Nat} {x : Core} (h : x.ve = (s.core p).ve) (n : Nat) :
    ((s.setCore p x).core n).ve = (s.core n).ve := by
  by_cases own : n = p
  · rw [own, core_setCore, h]
  · rw [core_setCore_ne _ _ _ _ own]

/-- A store to a core store is never discarded and invalidates no copy; an injected core-store error that it uses up
(R525) leaves memory and the vector engines alone. -/
theorem writeMem_csAddr (s : State) (p o : Nat) (bs : List Byte) (bad : Bool) :
    (writeMem s (csAddr p o) bs bad).mem = (storeBytes s (csAddr p o) bs bad).mem
      ∧ ∀ n, ((writeMem s (csAddr p o) bs bad).core n).ve = ((storeBytes s (csAddr p o) bs bad).core n).ve := by
  unfold writeMem
  simp only [inHbm_csAddr, Bool.false_eq_true, if_false]
  split
  next nothing => simp only [storeBytes, nothing, if_true, implies_true, and_self]
  next =>
    split
    next =>
      split
      next =>
        refine ⟨rfl, fun n => ve_setCore (s := storeBytes s (csAddr p o) bs bad) ?_ n⟩
        rfl
      next => exact ⟨rfl, fun _ => rfl⟩
    next => exact ⟨rfl, fun _ => rfl⟩

theorem mem_storeBytes_csAddr (s : State) (p o : Nat) (bs : List Byte) (bad : Bool) :
    (storeBytes s (csAddr p o) bs bad).mem = cellsSet s.mem (csAddr p o) bs := by
  cases bs <;> simp [storeBytes, lateDie_csAddr, cellsSet]

theorem readByte_writeMem_csAddr (s : State) (p o : Nat) (bs : List Byte) (bad : Bool) (a : Nat) :
    readByte (writeMem s (csAddr p o) bs bad) a
      = if csAddr p o ≤ a ∧ a < csAddr p o + bs.length then bs.getD (a - csAddr p o) 0 else readByte s a := by
  rw [readByte, (writeMem_csAddr s p o bs bad).1, mem_storeBytes_csAddr, cellGet_cellsSet]
  rfl

theorem cores_storeBytes (s : State) (a : Nat) (bs : List Byte) (bad : Bool) :
    (storeBytes s a bs bad).cores = s.cores := by
  unfold storeBytes
  dsimp only
  split <;> rfl

theorem ve_writeMem_csAddr (s : State) (p o : Nat) (bs : List Byte) (bad : Bool) (n : Nat) :
    ((writeMem s (csAddr p o) bs bad).core n).ve = (s.core n).ve := by
  rw [(writeMem_csAddr s p o bs bad).2, State.core, cores_storeBytes]
  rfl

/-- What an instruction that runs to the next one leaves, whatever else its effect wrote: the vector engine one word on,
and new counters. -/
theorem veApply_next (t : State) (p : Nat) (w : VeWaits) : ∃ k, veApply p w (.ok t)
    = withVe t p { (t.core p).ve with
        st := .running, pc := (t.core p).ve.pc + 8, issued := (t.core p).ve.issued + 1 } k := by
  have first : coreCtr t p 0x148 1 = withVe t p (t.core p).ve (ctrAdd (t.core p).ctr 0x148 1) := rfl
  simp only [veApply, veCount, vePc, first, coreCtr_withVe, withVe_setVe, withVe_ve]
  exact ⟨_, rfl⟩

/-! ### Blocks of equal length -/

theorem length_toLE (n x : Nat) : (toLE n x).length = n := by
  induction n generalizing x with
  | zero => rfl
  | succ n ih => rw [toLE, List.length_cons, ih]

theorem length_blocks {α : Type} (f : Nat → List α) {n : Nat} (hf : ∀ b, (f b).length = n) (nb : Nat) :
    ((upTo nb).flatMap f).length = n * nb := by
  simp [upTo, List.length_flatMap, hf, Nat.mul_comm]

/-- Byte `i` of a row of blocks of `n` bytes is byte `i % n` of block `i / n`. -/
theorem getD_blocks {α : Type} (f : Nat → List α) {n : Nat} (hf : ∀ b, (f b).length = n) (d : α) {nb i : Nat}
    (hi : i < n * nb) : ((upTo nb).flatMap f).getD i d = (f (i / n)).getD (i % n) d := by
  induction nb with
  | zero => omega
  | succ nb ih =>
    have init : upTo (nb + 1) = upTo nb ++ [nb] := List.range_succ
    rw [init, List.flatMap_append, List.flatMap_singleton]
    by_cases early : i < n * nb
    · rw [List.getD_append _ _ _ _ (by rwa [length_blocks f hf]), ih early]
    · rw [Nat.mul_succ] at hi
      have block : i / n = nb := Nat.div_eq_of_lt_le (by rw [Nat.mul_comm]; omega) (by rw [Nat.mul_comm, Nat.mul_succ]; exact hi)
      have within : i - n * nb = i % n := by rw [Nat.mod_def, block]
      rw [List.getD_append_right _ _ _ _ (by rw [length_blocks f hf]; omega), length_blocks f hf, block, within]

/-! ### VSTC.F to an MX format (R50, R135) -/

theorem length_mxBytes (s : State) (p : Nat) (j : VI) (b : Nat) : (mxBytes s p j b).length = 4 * styBits (accFmt j) :=
  length_toLE _ _

/-- The state after VSTC.F to an MX format has stored `nb` blocks at offset `o` and their scale bytes at `so`, the
vector engine being `y`. -/
def mxStored (s : State) (p : Nat) (j : VI) (y : Ve) (o so nb : Nat) : State :=
  writeMem (writeMem (setVe s p y) (csAddr p o) ((upTo nb).flatMap (mxBytes s p j)) false)
    (csAddr p so) ((upTo nb).map (fun b => BitVec.ofNat 8 (mxBlock s p j b).scale)) false

/-- R136: where blocks and scales fit the core store, the store writes both and counts the blocks' events. -/
theorem veStoreF_mx {s : State} {p : Nat} {j : VI} {o so nb : Nat} (hmx : fmtMx (fmtOf j.fmt) = true)
    (ho : o = baseAddr (s.core p).ve j) (hso : so = ((s.core p).ve.sreg (j.a + 1)).toNat)
    (hnb : nb = ceilDiv (s.core p).ve.vl 32)
    (blocks : csOk o (4 * styBits (accFmt j) * nb) (convAlign (accFmt j)) = true) (scales : csOk so nb 1 = true) :
    ∃ ovf nan, veStoreF s p j = .ok (mxStored s p j ((s.core p).ve.events ovf nan) o so nb) := by
  subst ho hso hnb
  rw [accFmt] at blocks
  refine ⟨(((upTo (ceilDiv (s.core p).ve.vl 32)).map (mxBlock s p j)).filter MxBlock.ovf).length,
    (((upTo (ceilDiv (s.core p).ve.vl 32)).map (mxBlock s p j)).filter MxBlock.nanIn).length, ?_⟩
  simp only [veStoreF, hmx, storeMx, blocks, scales, if_true, Bool.not_true, Bool.or_self, Bool.false_eq_true, if_false,
    List.flatMap_map, List.map_map]
  rfl

theorem readByte_mxStored (s : State) (p : Nat) (j : VI) (y : Ve) (o so nb a : Nat) :
    readByte (mxStored s p j y o so nb) a =
      if csAddr p so ≤ a ∧ a < csAddr p so + nb then BitVec.ofNat 8 (mxBlock s p j (a - csAddr p so)).scale
      else if csAddr p o ≤ a ∧ a < csAddr p o + 4 * styBits (accFmt j) * nb then
        (mxBytes s p j ((a - csAddr p o) / (4 * styBits (accFmt j)))).getD
          ((a - csAddr p o) % (4 * styBits (accFmt j))) 0
      else readByte s a := by
  have scales : ((upTo nb).map (fun b => BitVec.ofNat 8 (mxBlock s p j b).scale)).length = nb := by simp [upTo]
  have kept : readByte (setVe s p y) a = readByte s a := rfl
  rw [mxStored, readByte_writeMem_csAddr, readByte_writeMem_csAddr, scales, length_blocks _ (length_mxBytes s p j), kept]
  split
  · rw [getD_upTo_map _ _ _ _ (by omega)]
  · split
    · rw [getD_blocks _ (length_mxBytes s p j) _ (by omega)]
    · rfl

theorem ve_mxStored (s : State) (p : Nat) (j : VI) (y : Ve) (o so nb : Nat) :
    ((mxStored s p j y o so nb).core p).ve = y := by
  rw [mxStored, ve_writeMem_csAddr, ve_writeMem_csAddr]
  exact congrArg Core.ve (core_setCore ..)

theorem exec_vstcF (p : Fin 256) (w : VeWaits) (s : State) :
    exec (.vstcF p w) s = .next (veRun p w (isVI 10 8) veStoreF s) := rfl

/-- Settles O11: the two stores of an MX store (`veStoreF_mx`), read back byte by byte (`readByte_mxStored`). -/
theorem mxStoresWriteBlocksAndScales : Obligations.MxStoresWriteBlocksAndScales := by
  unfold Obligations.MxStoresWriteBlocksAndScales
  intro p w s word o so nb issue hmx ho hso hnb blocks scales
  obtain ⟨ovf, nan, stored⟩ := veStoreF_mx hmx ho hso hnb blocks scales
  obtain ⟨k, next⟩ := veApply_next (mxStored s p (decodeVI word) ((s.core p).ve.events ovf nan) o so nb) p w
  have run := (exec_vstcF p w s).trans (congrArg _ (veRun_issues issue (isVI_of issue)))
  rw [stored, next, ve_mxStored] at run
  refine ⟨_, answers_of run, ?_, readByte_mxStored s p _ _ o so nb, ?_, ?_, ?_⟩
  · rw [withVe_ve]
    exact veNext_of (same_events ..)
  · rw [withVe_ve]
    exact events_v ..
  · rw [withVe_ve]
    exact events_s ..
  · rw [withVe_ve]
    exact events_mask ..

end Sys2Proof.Machine

namespace Sys2Proof.Machine

/-! ### Rounding to a grid (R54) -/

theorem roundAt_zero (r : Rnd) (e q : Int) : roundAt r 0 e q = 0 := by
  unfold roundAt
  split
  · exact Nat.zero_mul _
  · cases r <;> simp

/-- A magnitude below `2^(q + n)` rounds to at most `2^n` units of `2^q`. -/
theorem roundAt_le (r : Rnd) {m n : Nat} {e q : Int} (h : leadExp m e < q + n) : roundAt r m e q ≤ 2 ^ n := by
  unfold leadExp at h
  have lead : m < 2 ^ (m.log2 + 1) := Nat.lt_log2_self
  unfold roundAt
  split
  next up =>
    calc m * 2 ^ (e - q).toNat ≤ 2 ^ (m.log2 + 1) * 2 ^ (e - q).toNat := Nat.mul_le_mul_right _ lead.le
      _ = 2 ^ (m.log2 + 1 + (e - q).toNat) := (Nat.pow_add ..).symm
      _ ≤ 2 ^ n := Nat.pow_le_pow_right (by omega) (by omega)
  next down =>
    have floor : m / 2 ^ (q - e).toNat < 2 ^ n := by
      rw [Nat.div_lt_iff_lt_mul (Nat.two_pow_pos _), ← Nat.pow_add]
      exact lead.trans_le (Nat.pow_le_pow_right (by omega) (by omega))
    cases r <;> dsimp only <;> split <;> omega

/-- A magnitude of at least `2^(q + n)` rounds to at least `2^n` units of `2^q`. -/
theorem le_roundAt (r : Rnd) {m n : Nat} {e q : Int} (hm : m ≠ 0) (h : q + n ≤ leadExp m e) : 2 ^ n ≤ roundAt r m e q := by
  unfold leadExp at h
  have lead : 2 ^ m.log2 ≤ m := Nat.log2_self_le hm
  unfold roundAt
  split
  next up =>
    calc 2 ^ n ≤ 2 ^ (m.log2 + (e - q).toNat) := Nat.pow_le_pow_right (by omega) (by omega)
      _ = 2 ^ m.log2 * 2 ^ (e - q).toNat := Nat.pow_add ..
      _ ≤ m * 2 ^ (e - q).toNat := Nat.mul_le_mul_right _ lead
  next down =>
    have floor : 2 ^ n ≤ m / 2 ^ (q - e).toNat := by
      rw [Nat.le_div_iff_mul_le (Nat.two_pow_pos _), ← Nat.pow_add]
      exact (Nat.pow_le_pow_right (by omega) (by omega)).trans lead
    cases r <;> dsimp only <;> split <;> omega

/-- The exponent of the least positive magnitude of a floating-point format. -/
def Flt.emin (p : Flt) : Int := 1 - (p.bias : Int) - p.mb

/-- `k × 2^q` lies on the grid of a format continued beyond its largest magnitude: `k` fills the fraction bits, but for
magnitudes at the least exponent; a carry may reach the next power of two. -/
structure Flt.OnGrid (p : Flt) (k : Nat) (q : Int) : Prop where
  least : p.emin ≤ q
  carry : k ≤ 2 ^ (p.mb + 1)
  full : q = p.emin ∨ 2 ^ p.mb ≤ k

theorem onGrid_roundAt (p : Flt) (r : Rnd) (m : Nat) (e : Int) :
    p.OnGrid (roundAt r m e (quantum p m e)) (quantum p m e) := by
  by_cases zero : m = 0
  · subst zero
    rw [roundAt_zero]
    exact ⟨le_rfl, Nat.zero_le _, .inl rfl⟩
  · have q : quantum p m e = max p.emin (leadExp m e - p.mb) := if_neg zero
    rw [q]
    refine ⟨le_max_left .., roundAt_le r (by omega), ?_⟩
    rcases le_or_gt (leadExp m e - p.mb) p.emin with low | high
    · exact .inl (max_eq_left low)
    · exact .inr (le_roundAt r zero (by omega))

/-! ### Codes of magnitudes (R43) -/

theorem packMag_of_normal {p : Flt} {k : Nat} {q : Int} (lo : 2 ^ p.mb ≤ k) (hi : k < 2 ^ (p.mb + 1)) :
    packMag p k q = (q + p.mb + p.bias).toNat * 2 ^ p.mb + (k - 2 ^ p.mb) := by
  simp [packMag, hi.ne, Nat.not_lt.mpr lo]

theorem packMag_of_subnormal {p : Flt} {k : Nat} {q : Int} (h : k < 2 ^ p.mb) : packMag p k q = k := by
  have noCarry : k ≠ 2 ^ (p.mb + 1) := (h.trans (Nat.pow_lt_pow_right (by omega) (by omega))).ne
  simp [packMag, noCarry, h]

theorem packMag_of_carry (p : Flt) (q : Int) :
    packMag p (2 ^ (p.mb + 1)) q = (q + 1 + p.mb + p.bias).toNat * 2 ^ p.mb := by
  simp [packMag]

/-- The codes of magnitudes on the grid rise with them: none that does not exceed a normal magnitude has a greater
code. -/
theorem packMag_le {p : Flt} {k M : Nat} {q Q : Int} (grid : p.OnGrid k q) (least : p.emin ≤ Q) (lo : 2 ^ p.mb ≤ M)
    (hi : M < 2 ^ (p.mb + 1)) (h : dyLt M Q k q = false) : packMag p k q ≤ packMag p M Q := by
  obtain ⟨hq, carry, full⟩ := grid
  unfold Flt.emin at least hq full
  have one : 2 ^ p.mb ≤ (Q + p.mb + p.bias).toNat * 2 ^ p.mb := Nat.le_mul_of_pos_left _ (by omega)
  have rise {x y : Nat} (xy : x < y) : x * 2 ^ p.mb + 2 ^ p.mb ≤ y * 2 ^ p.mb := by
    rw [← Nat.succ_mul]
    exact Nat.mul_le_mul_right _ xy
  have double : 2 ^ (p.mb + 1) = 2 * 2 ^ p.mb := by rw [Nat.pow_succ, Nat.mul_comm]
  rw [packMag_of_normal lo hi]
  rcases Nat.lt_or_ge k (2 ^ p.mb) with sub | normal
  · rw [packMag_of_subnormal sub]
    omega
  rcases lt_or_ge q Q with below | above
  · rcases carry.lt_or_eq with small | rfl
    · rw [packMag_of_normal normal small]
      have := rise (x := (q + p.mb + p.bias).toNat) (y := (Q + p.mb + p.bias).toNat) (by omega)
      omega
    · rw [packMag_of_carry]
      have : (q + 1 + p.mb + p.bias).toNat * 2 ^ p.mb ≤ (Q + p.mb + p.bias).toNat * 2 ^ p.mb :=
        Nat.mul_le_mul_right _ (by omega)
      omega
  · have fits : k * 2 ^ (q - Q).toNat ≤ M := by simpa [dyLt, above] using h
    have same : q = Q := by
      by_contra apart
      have two : 2 ≤ 2 ^ (q - Q).toNat := Nat.le_self_pow (by omega) 2
      have : 2 ^ p.mb * 2 ≤ k * 2 ^ (q - Q).toNat := Nat.mul_le_mul normal two
      omega
    subst same
    have le : k ≤ M := by simpa using fits
    rw [packMag_of_normal normal (le.trans_lt hi)]
    omega

/-- The code of a format's largest finite magnitude. -/
def Flt.maxCode (p : Flt) : Nat := packMag p (fltMax p).1 (fltMax p).2

/-- R43: the codes of magnitudes that read as NaN. -/
def Flt.NanMag (p : Flt) (y : Nat) : Prop :=
  match p.sp with
  | .ieee => (2 ^ p.eb - 1) * 2 ^ p.mb < y
  | .nanOnly => y = 2 ^ (p.eb + p.mb) - 1
  | .allFinite => False

theorem fltMax_normal {t : Sty} {p : Flt} (h : fltOf t = some p) :
    p.emin ≤ (fltMax p).2 ∧ 2 ^ p.mb ≤ (fltMax p).1 ∧ (fltMax p).1 < 2 ^ (p.mb + 1) := by
  cases t <;> cases h <;> decide

/-- R43: where a format's codes end: its largest finite magnitude, its infinity, its canonical NaN. -/
theorem maxCode_lt {t : Sty} {p : Flt} (h : fltOf t = some p) : p.maxCode < 2 ^ (p.eb + p.mb)
    ∧ (p.sp = .ieee → p.maxCode < (2 ^ p.eb - 1) * 2 ^ p.mb ∧ (2 ^ p.eb - 1) * 2 ^ p.mb < 2 ^ (p.eb + p.mb))
    ∧ (p.sp = .nanOnly → p.maxCode < 2 ^ (p.eb + p.mb) - 1) := by
  cases t <;> cases h <;> decide

theorem nanBits_sign {t : Sty} {p : Flt} (h : fltOf t = some p) : (nanBits p).testBit (p.eb + p.mb) = false := by
  cases t <;> cases h <;> decide

/-- The code of a sign and a magnitude that is no NaN. -/
def Flt.Number (p : Flt) (x : Nat) : Prop :=
  ∃ s y, x = b2n s * 2 ^ (p.eb + p.mb) + y ∧ y < 2 ^ (p.eb + p.mb) ∧ ¬ p.NanMag y

theorem number_of_le_maxCode {t : Sty} {p : Flt} (h : fltOf t = some p) (s : Bool) {y : Nat} (hy : y ≤ p.maxCode) :
    p.Number (b2n s * 2 ^ (p.eb + p.mb) + y) := by
  obtain ⟨range, ieee, nanOnly⟩ := maxCode_lt h
  refine ⟨s, y, rfl, hy.trans_lt range, ?_⟩
  unfold Flt.NanMag
  split
  next sp => exact Nat.not_lt.mpr (hy.trans (ieee sp).1.le)
  next sp => exact (hy.trans_lt (nanOnly sp)).ne
  next => exact not_false

theorem number_infBits {t : Sty} {p : Flt} (h : fltOf t = some p) (sp : p.sp = .ieee) (s : Bool) :
    p.Number (infBits p s) := by
  refine ⟨s, _, rfl, ((maxCode_lt h).2.1 sp).2, ?_⟩
  simp [Flt.NanMag, sp]

/-! ### Encoding in a floating-point format (R54, R55) -/

/-- An overflow gives an infinity, the canonical NaN or the largest magnitude. -/
theorem fltOverflow_number {t : Sty} {p : Flt} (h : fltOf t = some p) (s nov : Bool) :
    (fltOverflow p s nov).bits = nanBits p ∨ p.Number (fltOverflow p s nov).bits := by
  unfold fltOverflow
  split
  next inf =>
    have sp : p.sp = .ieee := by simpa using (Bool.and_eq_true_iff.mp inf).2
    exact .inr (number_infBits h sp s)
  next =>
    split
    · exact .inl rfl
    · exact .inr (number_of_le_maxCode h s le_rfl)

/-- The conversion rule writes the canonical NaN or the code of a number. -/
theorem encodeFlt_number {t : Sty} {p : Flt} (h : fltOf t = some p) (v : Val) (r : Rnd) (nov : Bool) :
    (encodeFlt p v r nov).bits = nanBits p ∨ p.Number (encodeFlt p v r nov).bits := by
  cases v with
  | nan =>
    unfold encodeFlt
    dsimp only
    split
    next => exact .inr (by simpa [b2n] using number_of_le_maxCode h false (Nat.zero_le _))
    next => exact .inl rfl
  | inf s =>
    unfold encodeFlt
    dsimp only
    split
    next sp => exact .inr (number_infBits h sp s)
    next => exact fltOverflow_number h s nov
  | fin s m e =>
    obtain ⟨least, lo, hi⟩ := fltMax_normal h
    unfold encodeFlt
    dsimp only
    split
    next => exact fltOverflow_number h s nov
    next fits => exact .inr (number_of_le_maxCode h s
      (packMag_le (onGrid_roundAt p r m e) least lo hi (Bool.eq_false_iff.mpr fits)))

/-! ### Reading a code (R43, R49) -/

theorem bits_exponent {eb : Nat} (he : 0 < eb) (mb x : Nat) :
    x % 2 ^ (eb + mb) = x % 2 ^ mb + 2 ^ mb * bits x (eb + mb - 1) mb := by
  rw [Nat.add_comm, Nat.pow_add, Nat.mod_mul, bits, Nat.shiftRight_eq_div_pow, show mb + eb - 1 + 1 - mb = eb by omega]

/-- R43: an encoding that reads as NaN has the magnitude of one. -/
theorem nanMag_of_decodeFlt {p : Flt} (he : 0 < p.eb) {x : Nat} (h : decodeFlt p x = .nan) :
    p.NanMag (x % 2 ^ (p.eb + p.mb)) := by
  rw [bits_exponent he]
  unfold decodeFlt at h
  dsimp only at h
  split at h
  next top =>
    obtain ⟨top, sp⟩ := top
    split at h
    · cases h
    · simp only [Flt.NanMag, sp, top, Nat.mul_comm]
      omega
  next =>
    split at h
    next top =>
      obtain ⟨top, sp, ones⟩ := top
      have pos : 0 < 2 ^ p.mb := Nat.two_pow_pos _
      have fits : 2 ^ p.mb ≤ 2 ^ p.mb * 2 ^ p.eb := Nat.le_mul_of_pos_right _ (Nat.two_pow_pos _)
      have width : 2 ^ (p.eb + p.mb) = 2 ^ p.mb * 2 ^ p.eb := by rw [Nat.add_comm, Nat.pow_add]
      simp only [Flt.NanMag, sp, top, ones, width, Nat.mul_sub, Nat.mul_one]
      omega
    next => split at h <;> cases h

theorem eb_pos {t : Sty} {p : Flt} (h : fltOf t = some p) : 0 < p.eb := by
  cases t <;> cases h <;> decide

theorem decodeS_of_flt {t : Sty} {p : Flt} (h : fltOf t = some p) {x : Nat} (clean : ¬ (t = .acc35 ∧ x.testBit 39)) :
    decodeS t x = decodeFlt p x := by
  simp only [decodeS, h, if_neg clean]

theorem decodeS_number {t : Sty} {p : Flt} (h : fltOf t = some p) {x : Nat} (hx : p.Number x) : decodeS t x ≠ .nan := by
  obtain ⟨s, y, rfl, range, number⟩ := hx
  have clean : ¬ (t = .acc35 ∧ (b2n s * 2 ^ (p.eb + p.mb) + y).testBit 39) := by
    rintro ⟨rfl, poison⟩
    cases h
    have width : b2n s ≤ 1 := by cases s <;> decide
    have small : b2n s * 2 ^ (10 + 24) + y < 2 ^ 39 := by
      have : y < 2 ^ (10 + 24) := range
      omega
    rw [Nat.testBit_lt_two_pow small] at poison
    cases poison
  rw [decodeS_of_flt h clean]
  intro nan
  apply number
  have := nanMag_of_decodeFlt (eb_pos h) nan
  rwa [Nat.add_comm, Nat.add_mul_mod_self_right, Nat.mod_eq_of_lt range] at this

theorem decodeS_poisoned {x : Nat} (h : x.testBit 39 = true) : decodeS .acc35 x = .nan := by
  simp [decodeS, fltOf, h]

/-- The code of a zero with a sign. -/
def Flt.zero (p : Flt) (s : Bool) : Nat := if s then 2 ^ (p.eb + p.mb) else 0

theorem decodeS_zero {t : Sty} {p : Flt} (h : fltOf t = some p) (s : Bool) : decodeS t (p.zero s) = .fin s 0 p.emin := by
  cases t <;> cases h <;> cases s <;> decide

theorem encodeFlt_zero (p : Flt) (s : Bool) (e : Int) (r : Rnd) (nov : Bool) :
    (encodeFlt p (.fin s 0 e) r nov).bits = p.zero s := by
  have fits (M : Nat) (Q q : Int) : dyLt M Q 0 q = false := by
    unfold dyLt
    split <;> simp
  have least : packMag p 0 (quantum p 0 e) = 0 := packMag_of_subnormal (Nat.two_pow_pos _)
  simp only [encodeFlt, roundAt_zero, fits, least, Bool.false_eq_true, if_false]
  cases s <;> simp [b2n, Flt.zero]

/-! ### Saturation (R46, R55, R56) -/

theorem fltOverflow_saturates {p : Flt} (h : p.sp = .allFinite) (s nov : Bool) :
    (fltOverflow p s nov).bits = maxBits p s := by
  cases nov <;> simp [fltOverflow, h]

/-- A format without Inf and NaN ignores NOV. -/
theorem encodeFlt_nov {p : Flt} (h : p.sp = .allFinite) (v : Val) (r : Rnd) :
    encodeFlt p v r true = encodeFlt p v r false := by
  have same (s : Bool) : fltOverflow p s true = fltOverflow p s false := by simp [fltOverflow, h]
  cases v <;> simp only [encodeFlt, same]

/-- R46: the largest magnitude of each sign in an integer type. -/
def intLim (t : Sty) (s : Bool) : Nat :=
  if s && t != .mxi8 then 2 ^ ((intOf t).1 - 1) else 2 ^ ((intOf t).1 - 1) - 1

theorem signed_min (s : Bool) (k : Nat) (lim : Bool → Nat) :
    signed s (min (lim s) k) = max (-(lim true : Int)) (min (lim false : Int) (signed s k)) := by
  cases s <;> simp [signed]

theorem encodeInt_inf (t : Sty) (s : Bool) (r : Rnd) :
    (encodeInt t (.inf s) r).bits = toBits (intOf t).1 (signed s (intLim t s)) := rfl

theorem encodeInt_fin (t : Sty) (s : Bool) (m : Nat) (e : Int) (r : Rnd) : (encodeInt t (.fin s m e) r).bits
    = toBits (intOf t).1 (signed s (min (intLim t s) (roundAt r m e (intOf t).2))) := by
  have rule : encodeInt t (.fin s m e) r = if intLim t s < roundAt r m e (intOf t).2
      then ⟨toBits (intOf t).1 (signed s (intLim t s)), true, false⟩
      else ⟨toBits (intOf t).1 (signed s (roundAt r m e (intOf t).2)), false, false⟩ := rfl
  rw [rule]
  split
  next large => rw [min_eq_left (le_of_lt large)]
  next fits => rw [min_eq_right (le_of_not_gt fits)]

/-- The two's-complement code of an integer in range reads back. -/
theorem sext_toBits {w : Nat} {i : Int} (hw : 0 < w) (lo : -((2 ^ (w - 1) : Nat) : Int) ≤ i)
    (hi : i < ((2 ^ (w - 1) : Nat) : Int)) : sext w (toBits w i) = i := by
  have double : 2 ^ w = 2 * 2 ^ (w - 1) := (mul_pow_sub_one hw.ne' 2).symm
  simp only [sext, toBits, double]
  generalize 2 ^ (w - 1) = P at lo hi
  have code : (i % ((2 * P : Nat) : Int)).toNat = (if i < 0 then i + 2 * P else i).toNat := by
    split
    · rw [← Int.add_emod_right, Int.emod_eq_of_lt (by omega) (by omega)]
      rfl
    · rw [Int.emod_eq_of_lt (by omega) (by omega)]
  have range : (if i < 0 then i + 2 * P else i).toNat < 2 * P := by split <;> omega
  rw [code, Nat.mod_eq_of_lt range]
  split_ifs <;> omega

theorem intOf_width {t : Sty} (h : fltOf t = none) : (intOf t).1 = styBits t ∧ 0 < (intOf t).1 := by
  cases t <;> cases h <;> decide

theorem sext_signed {t : Sty} (h : fltOf t = none) (s : Bool) {k : Nat} (hk : k ≤ intLim t s) :
    sext (styBits t) (toBits (intOf t).1 (signed s k)) = signed s k := by
  obtain ⟨width, pos⟩ := intOf_width h
  have one : 0 < 2 ^ ((intOf t).1 - 1) := Nat.two_pow_pos _
  have most : k ≤ 2 ^ ((intOf t).1 - 1) := hk.trans (by unfold intLim; split <;> omega)
  rw [← width]
  cases s with
  | false =>
    have below : k < 2 ^ ((intOf t).1 - 1) := hk.trans_lt (Nat.sub_lt one Nat.one_pos)
    have value : signed false k = k := rfl
    rw [value]
    exact sext_toBits pos (by omega) (by omega)
  | true =>
    have value : signed true k = -(k : Int) := rfl
    rw [value]
    exact sext_toBits pos (by omega) (by omega)

/-- R46, R56: the range of an integer type is what its limits give. -/
theorem intLim_range {t : Sty} {lo hi : Int} (h : fltOf t = none) (hhi : hi = 2 ^ (styBits t - 1) - 1)
    (hlo : lo = if t = .mxi8 then -hi else -hi - 1) : hi = intLim t false ∧ lo = -(intLim t true : Int) := by
  subst hhi hlo
  cases t <;> cases h <;> decide

theorem encodeS_of_int {t : Sty} (h : fltOf t = none) (v : Val) (r : Rnd) (nov : Bool) :
    encodeS t v r nov = encodeInt t v r := by
  simp only [encodeS, h]

theorem encodeS_of_flt {t : Sty} {p : Flt} (h : fltOf t = some p) (v : Val) (r : Rnd) (nov : Bool) :
    encodeS t v r nov = encodeFlt p v r nov := by
  simp only [encodeS, h]

/-- R44: the types without Inf and NaN. -/
theorem allFinite_of {t : Sty} {p : Flt} (ht : t = .e3m2 ∨ t = .e2m3 ∨ t = .e2m1) (h : fltOf t = some p) :
    p.sp = .allFinite := by
  rcases ht with rfl | rfl | rfl <;> cases h <;> rfl

theorem decodeS_maxBits {t : Sty} {p : Flt} (ht : t = .e3m2 ∨ t = .e2m3 ∨ t = .e2m1) (h : fltOf t = some p) (s : Bool) :
    decodeS t (maxBits p s) = .fin s (fltMax p).1 (fltMax p).2 := by
  rcases ht with rfl | rfl | rfl <;> cases h <;> cases s <;> decide

theorem encodeFlt_overflow {p : Flt} {r : Rnd} {m : Nat} {e : Int}
    (h : dyLt (fltMax p).1 (fltMax p).2 (roundAt r m e (quantum p m e)) (quantum p m e) = true) (s nov : Bool) :
    encodeFlt p (.fin s m e) r nov = fltOverflow p s nov := if_pos h

theorem encodeFlt_inf_saturates {p : Flt} (h : p.sp = .allFinite) (s : Bool) (r : Rnd) (nov : Bool) :
    (encodeFlt p (.inf s) r nov).bits = maxBits p s := by
  simp only [encodeFlt, h, reduceCtorEq, if_false, fltOverflow_saturates h]

/-- Settles O26: each clause is a law of the conversion rule. That no number is written as a NaN turns on the order of the
codes (`packMag_le`), and the integer ranges on reading back a saturated code (`sext_signed`). -/
theorem conversionsKeepZeroCanonizeNanAndSaturate : Obligations.ConversionsKeepZeroCanonizeNanAndSaturate := by
  unfold Obligations.ConversionsKeepZeroCanonizeNanAndSaturate
  refine ⟨?zero, ?sameNan, ?canonical, fun x => decodeS_poisoned, ?nov, ?int, ?finite⟩
  case zero =>
    intro src dst p q neg nov r hp hq ne
    have read : decodeS src (if neg then 2 ^ (p.eb + p.mb) else 0) = .fin neg 0 p.emin := decodeS_zero hp neg
    rw [convertS, if_neg ne, read, encodeS_of_flt hq, encodeFlt_zero, Flt.zero]
  case sameNan =>
    intro src dst x y r nov ne hx hy
    rw [convertS, convertS, if_neg ne, if_neg ne, hx, hy]
  case canonical =>
    intro dst q v r nov hq nan
    rw [encodeS_of_flt hq] at nan ⊢
    exact ⟨(encodeFlt_number hq v r nov).resolve_right fun number => decodeS_number hq number nan, nanBits_sign hq⟩
  case nov =>
    intro t v r ht
    cases h : fltOf t with
    | none => rw [encodeS_of_int h, encodeS_of_int h]
    | some p =>
      have finite : p.sp = .allFinite := allFinite_of (ht.resolve_left (by simp [h])) h
      rw [encodeS_of_flt h, encodeS_of_flt h, encodeFlt_nov finite]
  case int =>
    intro t w lo hi r nov neg m e h hw hhi hlo
    subst hw
    obtain ⟨rfl, rfl⟩ := intLim_range h hhi hlo
    rw [encodeS_of_int h, encodeS_of_int h, encodeInt_fin, encodeInt_inf, sext_signed h neg (min_le_left ..),
      sext_signed h neg le_rfl]
    exact ⟨signed_min neg _ (intLim t), by cases neg <;> rfl⟩
  case finite =>
    intro t q r nov neg m e ht h large
    have finite := allFinite_of ht h
    rw [encodeS_of_flt h, encodeS_of_flt h, encodeFlt_overflow large, fltOverflow_saturates finite,
      encodeFlt_inf_saturates finite]
    exact ⟨rfl, decodeS_maxBits ht h neg⟩

end Sys2Proof.Machine

namespace Sys2Proof.Machine

/-! ### A parity halt with a command that was never fetched (R113, R475) -/

/-- A running tile operation of record `n` of queue 0. -/
def runningTile (n : Nat) : TileOp := { ref := ⟨0, n⟩, bank := 0, g := 0, waited := 0, ovf := 0, poison := false }

/-- Core 0 executes records 0 and 1 of queue 0, whose running frame begins with record 1. Record 0 has not been fetched, and
the queue's context maps no completion ring. No run from reset leads here: a command enters a unit only from a fetched
record of its queue's frame. -/
def unfetchedTile : State :=
  { State.reset with
    pst := .active
    agt := { State.reset.agt with enabled := 1 }
    cores := [(0, { mxa := { issued := [runningTile 0, runningTile 1] } })]
    queues := [(0, { st := .running, recs := [⟨1, 0, .started, 0⟩]
                     frame := some { first := 1, len := 1, startTick := 0, closing := 0 } })] }

/-- The completion of record 1 cannot be written, so its queue stops (R234). To answer the rest of the frame the queue
fetches every record up to the frame's end (R233), record 0 among them, which lies before the frame and is not answered. -/
theorem parityHalt_unfetchedTile :
    (findRec (parityHalt unfetchedTile 0 0) ⟨0, 0⟩).map Rec.isDone = some false := by decide +kernel

/-- Refutes O35: the halt answers an executing command only through its record, and in a state where that record has not
been fetched a later fetch leaves it unanswered (`parityHalt_unfetchedTile`). -/
theorem not_coresAreResetFencedAndInjected : ¬ Obligations.CoresAreResetFencedAndInjected := by
  unfold Obligations.CoresAreResetFencedAndInjected
  rintro ⟨⟨halt, -⟩, -⟩
  obtain ⟨u, run, -, -, -, -, -, -, -, answered, -⟩ := halt 0 0 unfetchedTile rfl (by decide) rfl rfl (by decide)
  have after : parityHalt unfetchedTile 0 0 = u := Host.Outcome.next.inj run
  subst after
  obtain ⟨r, found, notDone⟩ := Option.map_eq_some_iff.mp parityHalt_unfetchedTile
  have done := answered ⟨0, 0⟩ r (by decide) found
  rw [notDone] at done
  exact Bool.false_ne_true done

end Sys2Proof.Machine

namespace Sys2Proof.Machine

/-! ### What logs, counters and detections leave of the arrays -/

/-- What the state holds of the matrix arrays' work: memory, queues, scale tables and fences, and each core's array with the
parity errors injected into it. -/
@[ext] structure ArrayView where
  mem : List Host.Cell
  queues : Tab Queue
  numx : Numx
  fences : Tab Fence
  mxa : Nat → Mxa
  injMxa : Nat → Bool
  injDrain : Nat → Bool

/-- The view of a state. -/
@[simps] def arrayView (s : State) : ArrayView where
  mem := s.mem
  queues := s.queues
  numx := s.numx
  fences := s.fences
  mxa p := (s.core p).mxa
  injMxa p := (s.core p).ras.injMxa
  injDrain p := (s.core p).ras.injDrain

/-- The other units are no part of the view. -/
@[simp] theorem arrayView_of_others (s : State) {pst uptime agt partNo partOf poison latent hbmCorr dies dir dirCtr links guests
    xbar msgs homeWr hubq xlat host pages log tick fab ce upd pwr bring fuse bit freeN reply sent pending} :
    arrayView ⟨pst, uptime, agt, partNo, partOf, s.mem, poison, latent, hbmCorr, s.cores, dies, dir, dirCtr, links, guests,
      xbar, msgs, homeWr, s.queues, hubq, s.fences, s.numx, xlat, host, pages, log, tick, fab, ce, upd, pwr, bring, fuse, bit,
      freeN, reply, sent, pending⟩ = arrayView s := rfl

theorem core_setCore_update {α : Type} (f : Core → α) (s : State) (p : Nat) (x : Core) :
    (fun n => f ((s.setCore p x).core n)) = Function.update (fun n => f (s.core n)) p (f x) := by
  funext n
  by_cases h : n = p
  · simp [h]
  · simp [h]

theorem arrayView_setCore (s : State) (p : Nat) (x : Core) : arrayView (s.setCore p x) = { arrayView s with
    mxa := Function.update (arrayView s).mxa p x.mxa
    injMxa := Function.update (arrayView s).injMxa p x.ras.injMxa
    injDrain := Function.update (arrayView s).injDrain p x.ras.injDrain } :=
  ArrayView.ext rfl rfl rfl rfl (core_setCore_update Core.mxa s p x) (core_setCore_update (fun k => k.ras.injMxa) s p x)
    (core_setCore_update (fun k => k.ras.injDrain) s p x)

/-- A change of a core that leaves its array and the injected errors is no part of the view. -/
theorem arrayView_setCore_same {s : State} {p : Nat} {x : Core} (hm : x.mxa = (s.core p).mxa)
    (hi : x.ras.injMxa = (s.core p).ras.injMxa) (hd : x.ras.injDrain = (s.core p).ras.injDrain) :
    arrayView (s.setCore p x) = arrayView s := by
  rw [arrayView_setCore, hm, hi, hd]
  simp only [← arrayView_mxa, ← arrayView_injMxa, ← arrayView_injDrain, Function.update_eq_self]

theorem arrayView_setMxa (s : State) (p : Nat) (m : Mxa) :
    arrayView (setMxa s p m) = { arrayView s with mxa := Function.update (arrayView s).mxa p m } := by
  rw [setMxa, arrayView_setCore]
  simp only [← arrayView_injMxa, ← arrayView_injDrain, Function.update_eq_self]

theorem arrayView_foldl {α : Type} {g : State → α → State} (hg : ∀ t e, arrayView (g t e) = arrayView t) (l : List α)
    (s : State) : arrayView (l.foldl g s) = arrayView s := by
  induction l generalizing s with
  | nil => rfl
  | cons e l ih => exact (ih (g s e)).trans (hg s e)

@[simp] theorem arrayView_coreCtr (s : State) (p o n : Nat) : arrayView (coreCtr s p o n) = arrayView s := by
  rw [coreCtr]; split
  · rfl
  · exact arrayView_setCore_same rfl rfl rfl

/-! #### Interrupts and the event log (R500, R537, R547) -/

theorem sendMsix_eq (s : State) (fn vec : Nat) : ∃ host sent, sendMsix s fn vec = { s with host := host, sent := sent } := by
  simp only [sendMsix]
  split
  · exact ⟨_, _, rfl⟩
  · split <;> exact ⟨_, _, rfl⟩

theorem raiseIrq_eq (s : State) (b : Nat) : ∃ host sent, raiseIrq s b = { s with host := host, sent := sent } := by
  simp only [raiseIrq]
  split
  · exact ⟨_, _, rfl⟩
  · split
    · exact ⟨_, _, rfl⟩
    · obtain ⟨host, sent, eq⟩ := sendMsix_eq { s with host := { s.host with irqStat := s.host.irqStat ||| BitVec.ofNat 8 (2 ^ b) } }
        0 (72 + b)
      exact ⟨host, sent, eq⟩

/-- What an entry of the event log changes. -/
def Logged (s u : State) : Prop :=
  ∃ host log bit sent, u = { s with host := host, log := log, bit := bit, sent := sent }

theorem logStore_logged (s : State) (e : LogIn) : Logged s (logStore s e) := by
  simp only [logStore]
  split
  · obtain ⟨host, sent, eq⟩ := raiseIrq_eq { s with
      log := _, bit := { s.bit with alertUntil := some (s.uptime + 10000000) } } 6
    exact ⟨host, _, _, sent, eq⟩
  · exact ⟨_, _, _, _, rfl⟩

theorem Logged.of_log {s u : State} {log : Log} (h : Logged { s with log := log } u) : Logged s u := by
  obtain ⟨host, log', bit, sent, eq⟩ := h
  exact ⟨host, log', bit, sent, eq⟩

theorem logAdd_logged (s : State) (e : LogIn) : Logged s (logAdd s e) := by
  simp only [logAdd]
  split
  · exact logStore_logged s e
  · split
    · exact (logStore_logged _ e).of_log
    · split
      · exact (logStore_logged _ e).of_log
      · split
        · exact (logStore_logged _ e).of_log
        · exact ⟨_, _, _, _, rfl⟩

@[simp] theorem arrayView_logAdd (s : State) (e : LogIn) : arrayView (logAdd s e) = arrayView s := by
  obtain ⟨host, log, bit, sent, eq⟩ := logAdd_logged s e
  rw [eq]; rfl

@[simp] theorem core_logAdd (s : State) (e : LogIn) (p : Nat) : (logAdd s e).core p = s.core p := by
  obtain ⟨host, log, bit, sent, eq⟩ := logAdd_logged s e
  rw [eq]; rfl

@[simp] theorem uptime_logAdd (s : State) (e : LogIn) : (logAdd s e).uptime = s.uptime := by
  obtain ⟨host, log, bit, sent, eq⟩ := logAdd_logged s e
  rw [eq]

/-! #### Detected errors (R184) -/

@[simp] theorem arrayView_detectUnit (s : State) (u : Nat) : arrayView (detectUnit s u) = arrayView s := by
  rw [detectUnit]; split
  · dsimp only; split
    · exact (arrayView_logAdd _ _).trans (arrayView_setCore_same rfl rfl rfl)
    · exact arrayView_logAdd _ _
  · rfl

@[simp] theorem arrayView_loadUnits (s : State) (p : Nat) (us : List Nat) : arrayView (loadUnits s p us) = arrayView s := by
  rw [loadUnits, countPoison, arrayView_coreCtr, arrayView_foldl arrayView_detectUnit]

@[simp] theorem arrayView_mxaStalls (s : State) (p : Nat) (w : MxaWaits) : arrayView (mxaStalls s p w) = arrayView s := by
  simp only [mxaStalls, arrayView_coreCtr]

end Sys2Proof.Machine

namespace Sys2Proof.Machine

/-! ### A tile operation's bank (R72 to R76, R82 to R84) -/

@[simp] theorem bank_setBank_same (m : Mxa) (b : Bool) (x : Bank) : (m.setBank b x).bank b = x := by cases b <;> rfl
@[simp] theorem bank_setBank_not (m : Mxa) (b : Bool) (x : Bank) : (m.setBank b x).bank (!b) = m.bank (!b) := by
  cases b <;> rfl
@[simp] theorem setBank_waiting (m : Mxa) (b : Bool) (x : Bank) : (m.setBank b x).waiting = m.waiting := by cases b <;> rfl
@[simp] theorem setBank_peat (m : Mxa) (b : Bool) (x : Bank) : (m.setBank b x).peat = m.peat := by cases b <;> rfl
@[simp] theorem setBank_lagg (m : Mxa) (b : Bool) (x : Bank) : (m.setBank b x).lagg = m.lagg := by cases b <;> rfl

/-- R98, R103: only the hold registers change. -/
theorem hold_eq (m : Mxa) (t : State) (p : Nat) (r : Rec) : ∃ port last side0 side1,
    m.hold t p r = { m with port := port, lastSide := last, side0 := side0, side1 := side1 } := by
  unfold Mxa.hold
  split
  · exact ⟨_, _, _, _, rfl⟩
  · split <;> exact ⟨_, _, _, _, rfl⟩

/-- The operands of a cell are read from memory and its poison. -/
theorem cellRun_mxaTake (s : State) (p : Nat) (c : CmdRef) (r : Rec) (int : Bool) (g acc i j : Nat) :
    cellRun (mxaTake s p c) p r int g acc i j = cellRun s p r int g acc i j := rfl

/-- R82: an operation of zero size opens its bank under INIT and adds nothing. -/
theorem bankRun_of_empty {r : Rec} (h : tileEmpty r = true) (s : State) (p q : Nat) (b : Bank) :
    (bankRun s p q r b).1 = if r.b 83 then { st := .opened, int := operandClass (tileA r).fmt == some 4, owner := q } else b := by
  simp only [bankRun, h, if_true]

theorem st_bankRun (s : State) (p q : Nat) (r : Rec) {b : Bank} (h : r.b 83 = false → b.st = .opened) :
    (bankRun s p q r b).1.st = .opened := by
  cases he : tileEmpty r <;> cases hi : r.b 83 <;> simp [bankRun, he, hi, h]

theorem tileAt_nil (i j : Nat) : tileAt [] i j = 0 := by simp [tileAt]

/-- R72 to R75: each element of the bank is its cell's run from what stood there, from zero under INIT. -/
theorem tileAt_bankRun {r : Rec} (h : tileEmpty r = false) (s : State) (p q : Nat) (b : Bank) {i j : Nat} (hi : i < 128)
    (hj : j < 128) : tileAt (bankRun s p q r b).1.tile i j
      = (cellRun s p r (operandClass (tileA r).fmt == some 4) (groupSize ((pairRate4 (tileA r).fmt (tileB r).fmt).getD 4))
          (if r.b 83 then 0 else tileAt b.tile i j) i j).1 % 2 ^ 40 := by
  have row : (128 * i + j) / 128 = i ∧ (128 * i + j) % 128 = j := by omega
  have init : tileAt (if r.b 83 then { st := .opened, int := operandClass (tileA r).fmt == some 4, owner := q } else b : Bank).tile i j
      = if r.b 83 then 0 else tileAt b.tile i j := by
    split
    · exact tileAt_nil i j
    · rfl
  simp only [bankRun, h, Bool.false_eq_true, if_false]
  rw [tileAt, List.map_map, getD_upTo_map _ _ _ _ (by omega), Function.comp, row.1, row.2, init, BitVec.toNat_ofNat]

/-- R83, R84: an operation without INIT that may start finds its bank open. -/
theorem opened_of_tileStart {m : Mxa} {q : Nat} {r : Rec} (h : tileStart m q r = 0) (hi : r.b 83 = false) :
    (m.bank (r.b 82)).st = .opened := by
  by_contra closed
  simp only [tileStart, hi, Bool.false_eq_true, if_false, bne_iff_ne, ne_eq, closed, not_false_eq_true, if_true] at h
  split at h <;> cases h

/-! ### A tile operation issues (R81, R113) -/

/-- The clocks of an operation (R70). -/
def tileClocks (r : Rec) : Nat :=
  if tileEmpty r then 0
  else groupClk ((pairRate4 (tileA r).fmt (tileB r).fmt).getD 4)
    * ceilDiv (tileK r) (groupSize ((pairRate4 (tileA r).fmt (tileB r).fmt).getD 4))

/-- The units that an operation reads. -/
def tileUnits (p : Nat) (r : Rec) : List Nat :=
  if tileEmpty r then [] else
    operandUnits p (tileA r) (!r.b 84) (tileM r) (tileK r) ++ operandUnits p (tileB r) (r.b 85) (tileN r) (tileK r)

/-- The state in which an operation that may start has read its operands. -/
def tileRead (s : State) (p : Nat) (w : MxaWaits) (c : CmdRef) (r : Rec) : State :=
  coreCtr (mxaStalls (loadUnits (mxaTake s p c) p (tileUnits p r)) p w) p 0x108 (tileClocks r)

/-- An operation that may start, among those that wait for their completion. -/
def tileOp (s : State) (p : Nat) (w : MxaWaits) (c : CmdRef) (r : Rec) : TileOp :=
  let rate := (pairRate4 (tileA r).fmt (tileB r).fmt).getD 4
  let m := ((tileRead s p w c r).core p).mxa
  { ref := c, bank := b2n (r.b 82), g := tileClocks r, waited := w.waited
    ovf := (bankRun (mxaTake s p c) p c.q r ((s.core p).mxa.bank (r.b 82))).2
    poison := (tileUnits p r).any (unitBad (mxaTake s p c))
    port := tilePort r, k := tileK r, gsize := groupSize rate, gclk := groupClk rate, first := m.firstSide r
    fill := m.port != tilePort r }

/-- The array that has added an operation's groups. -/
def tileArray (s : State) (p : Nat) (w : MxaWaits) (c : CmdRef) (r : Rec) : Mxa :=
  let t := tileRead s p w c r
  { ((t.core p).mxa.hold t p r).setBank (r.b 82) (bankRun (mxaTake s p c) p c.q r ((s.core p).mxa.bank (r.b 82))).1 with
    issued := (t.core p).mxa.issued ++ [tileOp s p w c r] }

/-- The state in which an operation that may start waits for its completion. -/
def tileIssued (s : State) (p : Nat) (w : MxaWaits) (c : CmdRef) (r : Rec) : State :=
  let t := setMxa (tileRead s p w c r) p (tileArray s p w c r)
  { t with freeN := t.freeN + b2n (!tileEmpty r && operandClass (tileA r).fmt == some 4) }

theorem tileIssue_eq (s : State) (p : Nat) (w : MxaWaits) (c : CmdRef) (r : Rec) : tileIssue s p w c r =
    if tileStart (s.core p).mxa c.q r ≠ 0 then
      completeSt (mxaStalls (mxaTake s p c) p w) c (tileStart (s.core p).mxa c.q r)
    else
      let u := tileIssued s p w c r
      let k := u.core p
      if k.ras.injMxa && !tileEmpty r then parityHalt (u.setCore p { k with ras := { k.ras with injMxa := false } }) p 0 else u :=
  rfl

/-- The array that has taken a command. -/
def Mxa.taken (m : Mxa) (c : CmdRef) : Mxa := { m with waiting := m.waiting.filter (fun y => y != c), lastQ := c.q }

@[simp] theorem bank_taken (m : Mxa) (c : CmdRef) (b : Bool) : (m.taken c).bank b = m.bank b := by cases b <;> rfl

theorem arrayView_mxaTake (s : State) (p : Nat) (c : CmdRef) : arrayView (mxaTake s p c) = { arrayView s with
    queues := (setRecSt s c .started).queues
    mxa := Function.update (arrayView s).mxa p ((s.core p).mxa.taken c) } :=
  arrayView_setMxa (setRecSt s c .started) p _

theorem arrayView_tileRead (s : State) (p : Nat) (w : MxaWaits) (c : CmdRef) (r : Rec) :
    arrayView (tileRead s p w c r) = arrayView (mxaTake s p c) := by
  rw [tileRead, arrayView_coreCtr, arrayView_mxaStalls, arrayView_loadUnits]

theorem mxa_tileRead (s : State) (p : Nat) (w : MxaWaits) (c : CmdRef) (r : Rec) :
    ((tileRead s p w c r).core p).mxa = (s.core p).mxa.taken c := by
  rw [← arrayView_mxa, arrayView_tileRead, arrayView_mxaTake]
  exact Function.update_self ..

theorem arrayView_tileIssued (s : State) (p : Nat) (w : MxaWaits) (c : CmdRef) (r : Rec) :
    arrayView (tileIssued s p w c r) = { arrayView s with
      queues := (setRecSt s c .started).queues
      mxa := Function.update (arrayView s).mxa p (tileArray s p w c r) } := by
  refine (arrayView_setMxa (tileRead s p w c r) p _).trans ?_
  rw [arrayView_tileRead, arrayView_mxaTake]
  simp only [Function.update_idem]

theorem mxa_tileIssued (s : State) (p : Nat) (w : MxaWaits) (c : CmdRef) (r : Rec) :
    ((tileIssued s p w c r).core p).mxa = tileArray s p w c r := by
  rw [← arrayView_mxa, arrayView_tileIssued]
  exact Function.update_self ..

/-- What an operation leaves of its array beside its bank and the hold registers. -/
theorem tileArray_eq (s : State) (p : Nat) (w : MxaWaits) (c : CmdRef) (r : Rec) : ∃ port last side0 side1,
    tileArray s p w c r = { ({ (s.core p).mxa.taken c with port := port, lastSide := last, side0 := side0, side1 := side1 }
      : Mxa).setBank (r.b 82) (bankRun (mxaTake s p c) p c.q r ((s.core p).mxa.bank (r.b 82))).1 with
        issued := (s.core p).mxa.issued ++ [tileOp s p w c r] } := by
  obtain ⟨port, last, side0, side1, hold⟩ := hold_eq ((s.core p).mxa.taken c) (tileRead s p w c r) p r
  refine ⟨port, last, side0, side1, ?_⟩
  simp only [tileArray, mxa_tileRead, hold]
  rfl

theorem bank_tileArray (s : State) (p : Nat) (w : MxaWaits) (c : CmdRef) (r : Rec) :
    (tileArray s p w c r).bank (r.b 82) = (bankRun (mxaTake s p c) p c.q r ((s.core p).mxa.bank (r.b 82))).1 :=
  bank_setBank_same ..

theorem bank_tileArray_not (s : State) (p : Nat) (w : MxaWaits) (c : CmdRef) (r : Rec) :
    (tileArray s p w c r).bank (!r.b 82) = (s.core p).mxa.bank (!r.b 82) := by
  obtain ⟨port, last, side0, side1, eq⟩ := tileArray_eq s p w c r
  rw [eq]
  exact (bank_setBank_not ..).trans (bank_taken _ c _)

theorem rest_tileArray (s : State) (p : Nat) (w : MxaWaits) (c : CmdRef) (r : Rec) :
    (tileArray s p w c r).waiting = (s.core p).mxa.waiting.filter (fun y => y != c)
      ∧ (tileArray s p w c r).issued = (s.core p).mxa.issued ++ [tileOp s p w c r]
      ∧ (tileArray s p w c r).peat = (s.core p).mxa.peat ∧ (tileArray s p w c r).lagg = (s.core p).mxa.lagg := by
  obtain ⟨port, last, side0, side1, eq⟩ := tileArray_eq s p w c r
  rw [eq]
  exact ⟨setBank_waiting .., rfl, setBank_peat .., setBank_lagg ..⟩

/-- R113: an injected parity error strikes an operation that adds groups. -/
theorem tileIssue_of_starts {s : State} {p : Nat} {c : CmdRef} {r : Rec} (h : tileStart (s.core p).mxa c.q r = 0)
    (w : MxaWaits) : tileIssue s p w c r =
      let u := tileIssued s p w c r
      if (s.core p).ras.injMxa = true ∧ tileEmpty r = false
        then parityHalt (u.setCore p { u.core p with ras := { (u.core p).ras with injMxa := false } }) p 0 else u := by
  have inj : ((tileIssued s p w c r).core p).ras.injMxa = (s.core p).ras.injMxa := by
    rw [← arrayView_injMxa, arrayView_tileIssued]; rfl
  rw [tileIssue_eq, if_neg (not_not_intro h)]
  simp only [inj, Bool.and_eq_true, Bool.not_eq_true']

theorem tileNext_of_picked {s : State} {p : Nat} {c : CmdRef} {r : Rec} (ready : mxaReady s p = true)
    (pick : pickRef (s.core p).mxa.waiting (s.core p).mxa.lastQ (tileReady s p) = some c) (found : findRec s c = some r)
    (w : MxaWaits) : tileNext s p w = sramSweep (tileIssue s p w c r) := by
  simp only [tileNext, ready, pick, found, Bool.not_true, Bool.false_eq_true, if_false]

/-- Settles O51: an operation that may start leaves `tileIssued`, read through the view of the arrays. -/
theorem tilesRunAndComplete : Obligations.TilesRunAndComplete := by
  unfold Obligations.TilesRunAndComplete
  refine ⟨?starts, ?fails, ?waits, ?completes⟩
  case starts =>
    intro p w s c r ready pick found start
    have view := arrayView_tileIssued s p w c r
    obtain ⟨waiting, issued, peat, lagg⟩ := rest_tileArray s p w c r
    refine ⟨tileIssued s p w c r, ?_, ?_, ?_, ?_, ?_, ?_, ⟨tileOp s p w c r, ?_, rfl⟩, ?_, ?_, fun n hn => ?_,
      congrArg ArrayView.mem view, congrArg ArrayView.numx view, congrArg ArrayView.fences view⟩
    · exact congrArg Host.Outcome.next ((tileNext_of_picked ready pick found w).trans (congrArg sramSweep (tileIssue_of_starts start w)))
    · rw [mxa_tileIssued, bank_tileArray]
      exact st_bankRun _ _ _ r (opened_of_tileStart start)
    · intro empty
      rw [mxa_tileIssued, bank_tileArray, bankRun_of_empty empty]
      split <;> rfl
    · intro adds i j hi hj
      rw [mxa_tileIssued, bank_tileArray, tileAt_bankRun adds _ _ _ _ hi hj, cellRun_mxaTake]
    · rw [mxa_tileIssued, bank_tileArray_not]
    · rw [mxa_tileIssued, waiting]
    · rw [mxa_tileIssued, issued]
    · rw [mxa_tileIssued, peat]
    · rw [mxa_tileIssued, lagg]
    · rw [← arrayView_mxa, view]
      exact Function.update_of_ne hn ..
  case fails =>
    intro p w s c r ready pick found start
    refine congrArg Host.Outcome.next ((tileNext_of_picked ready pick found w).trans (congrArg sramSweep ?_))
    rw [tileIssue_eq, if_pos start]
  case waits =>
    rintro p w s (idle | noPick)
    · exact congrArg Host.Outcome.next (by rw [tileNext, idle]; rfl)
    · refine congrArg Host.Outcome.next ?_
      simp only [tileNext, noPick, ite_self]
  case completes =>
    intro p s o t issued
    exact congrArg Host.Outcome.next (by simp only [tileDone, issued])

end Sys2Proof.Machine

namespace Sys2Proof.Machine

/-! ### What a completion leaves of the arrays (R233 to R236) -/

/-- Core `p`'s array but for what waits in its stream. -/
def arrayOf (s : State) (p : Nat) : Mxa := { (s.core p).mxa with waiting := [] }

@[simp] theorem arrayOf_ite {c : Prop} [Decidable c] (s t : State) :
    arrayOf (if c then s else t) = if c then arrayOf s else arrayOf t := apply_ite arrayOf c s t

theorem arrayOf_foldl {α : Type} {g : State → α → State} (hg : ∀ t e, arrayOf (g t e) = arrayOf t) (l : List α) (s : State) :
    arrayOf (l.foldl g s) = arrayOf s := by
  induction l generalizing s with
  | nil => rfl
  | cons e l ih => exact (ih (g s e)).trans (hg s e)

theorem arrayOf_forUp {g : Nat → State → State} (hg : ∀ i t, arrayOf (g i t) = arrayOf t) (n : Nat) (s : State) :
    arrayOf (forUp n g s) = arrayOf s := arrayOf_foldl (fun t i => hg i t) _ s

theorem arrayOf_setCore_same {s : State} {p : Nat} {x : Core} (h : x.mxa = (s.core p).mxa) :
    arrayOf (s.setCore p x) = arrayOf s := by
  funext n
  by_cases hn : n = p
  · simp only [arrayOf, hn, core_setCore, h]
  · simp only [arrayOf, core_setCore_ne _ _ _ _ hn]

@[simp] theorem arrayOf_setQueue (s : State) (q : Nat) (x : Queue) : arrayOf (s.setQueue q x) = arrayOf s := rfl
@[simp] theorem arrayOf_setDie (s : State) (d : Nat) (x : Die) : arrayOf (s.setDie d x) = arrayOf s := rfl
@[simp] theorem arrayOf_setCtx (s : State) (c : Nat) (x : Xlat) : arrayOf (s.setCtx c x) = arrayOf s := rfl
@[simp] theorem arrayOf_dirBump (s : State) (o n : Nat) : arrayOf (dirBump s o n) = arrayOf s := rfl
@[simp] theorem arrayOf_mapDir (s : State) (l : Nat) (f : DirEntry → DirEntry) : arrayOf (mapDir s l f) = arrayOf s := rfl
@[simp] theorem arrayOf_setRecSt (s : State) (c : CmdRef) (st : RecSt) : arrayOf (setRecSt s c st) = arrayOf s := rfl
@[simp] theorem arrayOf_drawBytes (s : State) (n : Nat) : arrayOf (drawBytes s n).2 = arrayOf s := rfl

@[simp] theorem arrayOf_coreCtr (s : State) (p o n : Nat) : arrayOf (coreCtr s p o n) = arrayOf s := by
  rw [coreCtr]; split
  · rfl
  · exact arrayOf_setCore_same rfl

@[simp] theorem arrayOf_queueCtr (s : State) (q o n : Nat) : arrayOf (queueCtr s q o n) = arrayOf s := by
  simp only [queueCtr, arrayOf_ite, arrayOf_setQueue, ite_self]

@[simp] theorem arrayOf_ctxCtr (s : State) (c o n : Nat) : arrayOf (ctxCtr s c o n) = arrayOf s := by
  simp only [ctxCtr, arrayOf_ite, arrayOf_setCtx, ite_self]

@[simp] theorem arrayOf_sendMsix (s : State) (fn vec : Nat) : arrayOf (sendMsix s fn vec) = arrayOf s := by
  obtain ⟨host, sent, eq⟩ := sendMsix_eq s fn vec
  rw [eq]; rfl

/-! #### Memory and its copies (R175, R345 to R350) -/

@[simp] theorem arrayOf_unstage (s : State) (p l : Nat) : arrayOf (unstage s p l) = arrayOf s := by
  simp only [unstage]; split
  · rfl
  · simp only [arrayOf_ite, arrayOf_queueCtr, arrayOf_coreCtr, ite_self]
    exact arrayOf_setCore_same rfl

@[simp] theorem arrayOf_uncache (s : State) (d l : Nat) : arrayOf (uncache s d l) = arrayOf s := by
  simp only [uncache]; split
  · rfl
  · split <;> simp

@[simp] theorem arrayOf_dropDir (s : State) (l : Nat) : arrayOf (dropDir s l) = arrayOf s := by
  simp only [dropDir, filterDec, arrayOf_ite, arrayOf_setDie, ite_self]
  rfl

@[simp] theorem arrayOf_recallLine (s : State) (l : Nat) : arrayOf (recallLine s l) = arrayOf s := by
  simp only [recallLine]; split
  · rfl
  · simp [arrayOf_forUp]

@[simp] theorem arrayOf_invalidateLine (s : State) (l : Nat) : arrayOf (invalidateLine s l) = arrayOf s := by
  simp [invalidateLine, arrayOf_foldl]

@[simp] theorem arrayOf_storeBytes (s : State) (a : Nat) (bs : List Byte) (bad : Bool) :
    arrayOf (storeBytes s a bs bad) = arrayOf s := by
  simp only [storeBytes]; split <;> rfl

@[simp] theorem arrayOf_writeMem (s : State) (a : Nat) (bs : List Byte) (bad : Bool) :
    arrayOf (writeMem s a bs bad) = arrayOf s := by
  simp only [writeMem]
  split
  · rfl
  rw [← arrayOf_storeBytes s a bs bad]
  generalize storeBytes s a bs bad = t
  have struck : arrayOf (t.setCore (csCore a) { t.core (csCore a) with ras := { (t.core (csCore a)).ras with injCs := false } })
      = arrayOf t := arrayOf_setCore_same rfl
  split
  · split
    · exact struck
    · rfl
  · split
    · exact arrayOf_foldl arrayOf_invalidateLine _ _
    · rfl

@[simp] theorem arrayOf_vwrite (s : State) (c dva : Nat) (bs : List Byte) (bad : Bool) :
    arrayOf (vwrite s c dva bs bad) = arrayOf s := by
  refine arrayOf_foldl (fun t pc => ?_) _ s
  split <;> simp

@[simp] theorem arrayOf_vnote (s : State) (c dva n : Nat) (f : Option Nat) : arrayOf (vnote s c dva n f) = arrayOf s := by
  simp [vnote]

/-! #### Records and frames -/

@[simp] theorem arrayOf_closeFrame (s : State) (q : Nat) : arrayOf (closeFrame s q) = arrayOf s := by
  simp only [closeFrame]; split
  · rfl
  · split <;> rfl

@[simp] theorem arrayOf_postOne (s : State) (c : CmdRef) (v : Cpl) : arrayOf (postOne s c v).1 = arrayOf s := by
  simp only [postOne]; split
  · rfl
  · split
    · rfl
    · simp

@[simp] theorem arrayOf_fetchTo (s : State) (q n : Nat) : arrayOf (fetchTo s q n) = arrayOf s := by
  refine arrayOf_forUp (fun _ t => ?_) _ s
  simp only [arrayOf_setQueue]; split <;> simp

/-- R233: commands that leave their streams only leave the waiting list of their array. -/
theorem arrayOf_purged (s : State) (q : Nat) (h : HubQ) :
    arrayOf { s with cores := s.cores.map (fun c => (c.1, c.2.purge q)), hubq := h } = arrayOf s := by
  funext p
  have purged : State.core { s with cores := s.cores.map (fun c => (c.1, c.2.purge q)), hubq := h } p = (s.core p).purge q :=
    tabGet_map (fun c => Core.purge c q) rfl s.cores p
  rw [arrayOf, purged]; rfl

@[simp] theorem arrayOf_failRecs (s : State) (q : Nat) (rs : List Rec) (cpl : Rec → Cpl) :
    arrayOf (failRecs s q rs cpl) = arrayOf s := by
  simp only [failRecs, arrayOf_closeFrame]
  exact (arrayOf_foldl (by simp) _ _).trans (arrayOf_purged s q _)

@[simp] theorem arrayOf_failUnstarted (s : State) (q st : Nat) : arrayOf (failUnstarted s q st) = arrayOf s := by
  simp only [failUnstarted, arrayOf_failRecs]; split <;> simp

@[simp] theorem arrayOf_stopQueue (s : State) (q code : Nat) : arrayOf (stopQueue s q code) = arrayOf s := by
  simp only [stopQueue, arrayOf_ite, arrayOf_sendMsix, arrayOf_failUnstarted, arrayOf_setQueue, ite_self]

@[simp] theorem arrayOf_complete (s : State) (c : CmdRef) (v : Cpl) : arrayOf (complete s c v) = arrayOf s := by
  simp only [complete, arrayOf_closeFrame, arrayOf_ite, arrayOf_stopQueue, arrayOf_postOne, ite_self]

end Sys2Proof.Machine

namespace Sys2Proof.Machine

/-! ### Scale-table entries as drains see them (R258 to R273) -/

@[simp] theorem entry_setEntry (s : State) (n i : Nat) (e : Entry) : (s.setEntry n i e).entry n i = e :=
  tabGet_tabSet_same ..

/-- What tells a drain its scales: the scale tables and the queues' partitions. -/
structure SameScales (s u : State) : Prop where
  tab : u.numx.tab = s.numx.tab
  part : ∀ q, (u.queue q).part = (s.queue q).part

theorem SameScales.trans {s t u : State} (h : SameScales s t) (k : SameScales t u) : SameScales s u :=
  ⟨k.tab.trans h.tab, fun q => (k.part q).trans (h.part q)⟩

section
variable {s u : State} (h : SameScales s u) (q : Nat) (r : Rec)
include h

theorem SameScales.entry (n i : Nat) : u.entry n i = s.entry n i := by rw [State.entry, h.tab]; rfl

theorem SameScales.drainEntry : drainEntry u q r = drainEntry s q r := by
  rw [Machine.drainEntry, h.part, h.entry]; rfl

theorem SameScales.drainsCold : drainsCold u q r = drainsCold s q r := by
  simp only [Machine.drainsCold, h.drainEntry]

theorem SameScales.needsScale : needsScale u q r = needsScale s q r := by
  simp only [Machine.needsScale, h.drainEntry]

end

theorem queue_mapRec_part (s : State) (c : CmdRef) (f : Rec → Rec) (q : Nat) :
    ((mapRec s c f).queue q).part = (s.queue q).part := by
  by_cases h : q = c.q
  · simp only [mapRec, h, queue_setQueue]; rfl
  · simp only [mapRec, queue_setQueue_ne _ _ _ _ h]

theorem mxaTake_sameScales (s : State) (p : Nat) (c : CmdRef) : SameScales s (mxaTake s p c) :=
  ⟨rfl, fun q => queue_mapRec_part s c _ q⟩

theorem mxa_setMxa (s : State) (p : Nat) (m : Mxa) : ((setMxa s p m).core p).mxa = m := by simp [setMxa]

theorem mxa_mxaTake (s : State) (p : Nat) (c : CmdRef) : ((mxaTake s p c).core p).mxa = (s.core p).mxa.taken c :=
  mxa_setMxa (setRecSt s c .started) p _

/-! ### Wisp's offer and its result (R276 to R279) -/

/-- What an offer to Wisp may change: the unit's task, the count of offers, and counters of NUMX. -/
def Offered (s : State) (p : Nat) (u : State) : Prop := ∃ off task ctr, arrayView u = { arrayView s with
  numx := { s.numx with ctr := ctr }
  mxa := Function.update (arrayView s).mxa p { (s.core p).mxa with offer := off, wisp := task } }

theorem Offered.refl (s : State) (p : Nat) : Offered s p s := by
  refine ⟨(s.core p).mxa.offer, (s.core p).mxa.wisp, s.numx.ctr, ?_⟩
  exact congrArg (fun m => { arrayView s with mxa := m }) (Function.update_eq_self p (arrayView s).mxa).symm

theorem Offered.mxa {s u : State} {p : Nat} (h : Offered s p u) :
    ∃ off task, (u.core p).mxa = { (s.core p).mxa with offer := off, wisp := task } := by
  obtain ⟨off, task, ctr, view⟩ := h
  exact ⟨off, task, (congrFun (congrArg ArrayView.mxa view) p).trans (Function.update_self ..)⟩

theorem Offered.count {s u : State} {p : Nat} (h : Offered s p u) (o n : Nat) : Offered s p (numxCtr u o n) := by
  obtain ⟨off, task, ctr, view⟩ := h
  refine ⟨off, task, ctrAdd ctr o n, ?_⟩
  exact congrArg (fun x => { x with numx := { x.numx with ctr := ctrAdd x.numx.ctr o n } }) view

theorem Offered.setMxa {s u : State} {p : Nat} (h : Offered s p u) (off : W32) (task : Option WispTask) :
    Offered s p (setMxa u p { (u.core p).mxa with offer := off, wisp := task }) := by
  obtain ⟨off', task', mxa⟩ := h.mxa
  obtain ⟨_, _, ctr, view⟩ := h
  refine ⟨off, task, ctr, ?_⟩
  rw [arrayView_setMxa, view, mxa]
  simp only [Function.update_idem]

/-- R276, R279: an offer counts, and may give the unit its task. -/
theorem wispOffer_offered (s : State) (p q : Nat) (r : Rec) (vals : List Nat) : Offered s p (wispOffer s p q r vals).1 := by
  have counted : Offered s p (Machine.setMxa s p { (s.core p).mxa with offer := (s.core p).mxa.offer + 1 }) :=
    (Offered.refl s p).setMxa _ (s.core p).mxa.wisp
  simp only [wispOffer]
  split
  · exact .refl s p
  split
  · exact counted
  split
  · exact counted.count _ _
  split
  · exact (counted.count _ _).count _ _
  · exact (counted.count _ _).setMxa _ _

theorem arrayView_wispFill (s : State) (p : Nat) (sel : Bool) (r : Rec) (o : TileOut) (e : Int) : ∃ task,
    arrayView (wispFill s p sel r o e) = { arrayView s with
      mxa := Function.update (arrayView s).mxa p { (s.core p).mxa with wisp := task } } := by
  simp only [wispFill]
  split
  · exact ⟨_, arrayView_setMxa ..⟩
  · refine ⟨(s.core p).mxa.wisp, ?_⟩
    rw [show ({ (s.core p).mxa with wisp := (s.core p).mxa.wisp } : Mxa) = (arrayView s).mxa p from rfl, Function.update_eq_self]

end Sys2Proof.Machine

namespace Sys2Proof.Machine

/-! ### The head of the stream takes the pipeline (R83 to R85, R105 to R110) -/

/-- The state in which a drain that fails its checks completes; a flush of a Lost entry empties it (R110). -/
def drainRefused (s : State) (p : Nat) (c : CmdRef) (r : Rec) (h : Nat) : State :=
  let t := mxaTake s p c
  if r.isFlush && h == 0x12 then setMxa t p ((t.core p).mxa.setPeat r.dEntry {}) else t

/-- The kind of an unassigned entry is that of the first drain that names it (R268). -/
def kindAssigned (s : State) (q : Nat) (r : Rec) : State :=
  let n := (s.queue q).part
  let e := s.entry n r.dTid
  if r.dKind ≠ 0 ∧ e.kind = 0 then s.setEntry n r.dTid { e with kind := r.dKind } else s

/-- The array whose pipeline a drain has taken. -/
def Mxa.piped (m : Mxa) (c : CmdRef) (r : Rec) : Mxa :=
  { (if r.isFlush then m else m.setBank r.dBank { m.bank r.dBank with st := .draining }) with drainWait := some ⟨c, r.at_⟩ }

/-- The state in which a drain has taken the pipeline. -/
def drainPiped (s : State) (p : Nat) (c : CmdRef) (r : Rec) : State :=
  setMxa (kindAssigned (mxaTake s p c) c.q r) p (((mxaTake s p c).core p).mxa.piped c r)

theorem drainHead_of_choice {s : State} {p : Nat} {c : CmdRef} {r : Rec} (pick : drainChoice s p = some c)
    (found : findRec s c = some r) (dt : Nat) (words : List Nat) (busy : Bool) : drainHead s dt p words busy =
      let h := if busy then drainBank (s.core p).mxa c.q r else drainStart s p c.q r
      if h ≠ 0 then complete (drainRefused s p c r h) c { status := h, cold := drainsCold (drainRefused s p c r h) c.q r }
      else if busy then s
      else if r.isFlush && (((mxaTake s p c).core p).mxa.peatAt r.dEntry).st == .empty then
        let w := wispOffer (mxaTake s p c) p c.q r []
        drainEnd w.1 p c r { wisp := w.2, cold := drainsCold (mxaTake s p c) c.q r }
      else if drainCan (drainPiped s p c r) p c.q r then sramSweep (drainGo (drainPiped s p c r) dt p words c r)
      else drainPiped s p c r := by
  unfold drainHead
  dsimp only
  split
  · next none => cases pick.symm.trans (show drainChoice s p = Option.none from none)
  · next d some =>
    obtain rfl : c = d := Option.some.inj (pick.symm.trans some)
    simp only [found]
    rfl

theorem mxa_drainRefused (s : State) (p : Nat) (c : CmdRef) (r : Rec) (h : Nat) : ∃ peat,
    ((drainRefused s p c r h).core p).mxa = { (s.core p).mxa.taken c with peat := peat } := by
  simp only [drainRefused]
  split
  · exact ⟨_, (mxa_setMxa ..).trans (congrArg (fun m => m.setPeat r.dEntry {}) (mxa_mxaTake s p c))⟩
  · exact ⟨_, mxa_mxaTake s p c⟩

theorem drainRefused_others (s : State) (p : Nat) (c : CmdRef) (r : Rec) (h : Nat) :
    (drainRefused s p c r h).mem = s.mem ∧ (drainRefused s p c r h).numx = s.numx
      ∧ (drainRefused s p c r h).queues = (mxaTake s p c).queues := by
  simp only [drainRefused]
  split <;> exact ⟨rfl, rfl, rfl⟩

theorem drainRefused_sameScales (s : State) (p : Nat) (c : CmdRef) (r : Rec) (h : Nat) :
    SameScales s (drainRefused s p c r h) := by
  obtain ⟨-, numx, queues⟩ := drainRefused_others s p c r h
  exact ⟨by rw [numx], fun q => by rw [State.queue, queues]; exact (mxaTake_sameScales s p c).part q⟩

theorem kindAssigned_others (s : State) (q : Nat) (r : Rec) :
    (kindAssigned s q r).mem = s.mem ∧ (kindAssigned s q r).cores = s.cores := by
  simp only [kindAssigned]
  split <;> exact ⟨rfl, rfl⟩

theorem mxa_drainPiped (s : State) (p : Nat) (c : CmdRef) (r : Rec) :
    ((drainPiped s p c r).core p).mxa = ((s.core p).mxa.taken c).piped c r := by
  rw [drainPiped, mxa_setMxa, mxa_mxaTake]

theorem mem_drainPiped (s : State) (p : Nat) (c : CmdRef) (r : Rec) : (drainPiped s p c r).mem = s.mem :=
  (kindAssigned_others (mxaTake s p c) c.q r).1

@[simp] theorem piped_drainWait (m : Mxa) (c : CmdRef) (r : Rec) : (m.piped c r).drainWait = some ⟨c, r.at_⟩ := rfl

@[simp] theorem piped_peat (m : Mxa) (c : CmdRef) (r : Rec) : (m.piped c r).peat = m.peat := by
  unfold Mxa.piped
  split
  · rfl
  · exact setBank_peat ..

theorem bank_piped (m : Mxa) (c : CmdRef) {r : Rec} (h : r.isFlush = false) :
    (m.piped c r).bank r.dBank = { m.bank r.dBank with st := .draining } := by
  simp only [Mxa.piped, h, Bool.false_eq_true, if_false]
  exact bank_setBank_same m r.dBank _

section
variable {s : State} {p : Nat} {c : CmdRef} {r : Rec} (pick : drainChoice s p = some c) (found : findRec s c = some r)
  (dt : Nat) (words : List Nat)
include pick found

/-- R83, R84, R106: a drain that fails its checks completes with their status. -/
theorem drainHead_refuses {busy : Bool} {h : Nat} (hh : h = if busy then drainBank (s.core p).mxa c.q r else drainStart s p c.q r)
    (fails : h ≠ 0) : drainHead s dt p words busy
      = complete (drainRefused s p c r h) c { status := h, cold := drainsCold s c.q r } := by
  rw [drainHead_of_choice pick found]
  simp only [← hh, if_pos fails, (drainRefused_sameScales s p c r h).drainsCold]

theorem drainHead_waits (h : drainBank (s.core p).mxa c.q r = 0) : drainHead s dt p words true = s := by
  rw [drainHead_of_choice pick found]
  simp only [h, if_true, ne_eq, not_true_eq_false, if_false]

/-- R85, R93: a drain that passes takes the pipeline, and reads its rows if it may. -/
theorem drainHead_pipes (h : drainStart s p c.q r = 0)
    (holds : r.isFlush = true → ((s.core p).mxa.peatAt r.dEntry).st ≠ .empty) : drainHead s dt p words false =
      if drainCan (drainPiped s p c r) p c.q r = true then sramSweep (drainGo (drainPiped s p c r) dt p words c r)
      else drainPiped s p c r := by
  have full : (r.isFlush && (((mxaTake s p c).core p).mxa.peatAt r.dEntry).st == .empty) = false := by
    rw [mxa_mxaTake, Bool.and_eq_false_imp]
    exact fun flush => beq_false_of_ne (holds flush)
  rw [drainHead_of_choice pick found]
  simp only [h, full, Bool.false_eq_true, ne_eq, not_true_eq_false, if_false]

/-- R108: a flush of an Empty entry ends at once. -/
theorem drainHead_flushesNothing (h : drainStart s p c.q r = 0) (flush : r.isFlush = true)
    (empty : ((s.core p).mxa.peatAt r.dEntry).st = .empty) : drainHead s dt p words false =
      drainEnd (wispOffer (mxaTake s p c) p c.q r []).1 p c r
        { wisp := (wispOffer (mxaTake s p c) p c.q r []).2, cold := drainsCold s c.q r } := by
  have none : (((mxaTake s p c).core p).mxa.peatAt r.dEntry).st = .empty := by rw [mxa_mxaTake]; exact empty
  rw [drainHead_of_choice pick found]
  simp only [h, flush, none, (mxaTake_sameScales s p c).drainsCold, Bool.false_eq_true, ne_eq, not_true_eq_false, if_false,
    beq_self_eq_true, Bool.and_self, if_true]

end

end Sys2Proof.Machine

namespace Sys2Proof.Machine

/-! ### Uncorrectable words of a Peat entry (R113, R184, R479) -/

/-- A core with one more uncorrectable error. -/
def Core.withUncorr (k : Core) (x : Nat × Nat) : Core := { k with ras := { k.ras with uncorr := k.ras.uncorr ++ [x] } }

/-- A word found uncorrectable stands among the core's errors and in the log. -/
def peatWordFound (p e : Nat) (t : State) (w : Nat) : State :=
  let t := t.setCore p ((t.core p).withUncorr (t.uptime, csBase p + csSize + 81920 * e + 8 * w))
  logAdd { t with freeN := t.freeN + 2 } { code := 0x32, inst := p, src := 1, sev := 2
                                           args := [(Config.freeWord t.freeN).toNat, (Config.freeWord (t.freeN + 1)).toNat] }

/-- A tile whose elements in some words are poisoned. -/
def poisonWords (ws : List Nat) (t : List W40) : List W40 :=
  (upTo 16384).map (fun k => if inWords ws k then BitVec.ofNat 40 poisonNan else t.getD k 0)

/-- A Peat entry whose elements in some words are poisoned. -/
def Mxa.poisonPeat (m : Mxa) (e : Nat) (ws : List Nat) : Mxa :=
  m.setPeat e { m.peatAt e with tile := poisonWords ws (m.peatAt e).tile }

theorem peatDetect_eq (s : State) (p e : Nat) (ws : List Nat) :
    peatDetect s p e ws = ws.foldl (peatWordFound p e) (setMxa s p ((s.core p).mxa.poisonPeat e ws)) := rfl

@[simp] theorem arrayView_peatWordFound (p e : Nat) (t : State) (w : Nat) :
    arrayView (peatWordFound p e t w) = arrayView t := by
  have recorded (x : Nat × Nat) : arrayView (t.setCore p ((t.core p).withUncorr x)) = arrayView t :=
    arrayView_setCore_same rfl rfl rfl
  rw [peatWordFound, arrayView_logAdd]
  exact recorded _

theorem uncorr_peatWordFound (p e : Nat) (t : State) (w : Nat) :
    ((peatWordFound p e t w).core p).ras.uncorr.length = (t.core p).ras.uncorr.length + 1 := by
  rw [peatWordFound, core_logAdd]
  refine (congrArg (fun k : Core => k.ras.uncorr.length) (core_setCore t p _)).trans ?_
  exact List.length_append

theorem uncorr_peatDetect (s : State) (p e : Nat) (ws : List Nat) :
    ((peatDetect s p e ws).core p).ras.uncorr.length = (s.core p).ras.uncorr.length + ws.length := by
  have before : ((setMxa s p ((s.core p).mxa.poisonPeat e ws)).core p).ras = (s.core p).ras := by simp [setMxa]
  rw [peatDetect_eq, ← before]
  generalize setMxa s p _ = t at before ⊢
  clear before
  induction ws generalizing t with
  | nil => rfl
  | cons w ws ih =>
    rw [List.foldl_cons, ih, uncorr_peatWordFound, List.length_cons]
    omega

theorem arrayView_peatDetect (s : State) (p e : Nat) (ws : List Nat) : arrayView (peatDetect s p e ws) =
    { arrayView s with mxa := Function.update (arrayView s).mxa p ((s.core p).mxa.poisonPeat e ws) } := by
  rw [peatDetect_eq, arrayView_foldl (arrayView_peatWordFound p e), arrayView_setMxa]

@[simp] theorem peatAt_setPeat (m : Mxa) (e : Nat) (x : Peat) : (m.setPeat e x).peatAt e = x := tabGet_tabSet_same ..

theorem peatAt_setPeat_ne (m : Mxa) (x : Peat) {d e : Nat} (h : d ≠ e) : (m.setPeat e x).peatAt d = m.peatAt d :=
  tabGet_tabSet_ne _ _ _ _ _ h

theorem tileAt_poisonWords (ws : List Nat) (t : List W40) {i j : Nat} (hi : i < 128) (hj : j < 128) :
    tileAt (poisonWords ws t) i j = if inWords ws (128 * i + j) then poisonNan else tileAt t i j := by
  rw [tileAt, poisonWords, getD_upTo_map _ _ _ _ (by omega)]
  split
  · decide
  · rfl

theorem tileAt_peatDetect (s : State) (p e : Nat) (ws : List Nat) {i j : Nat} (hi : i < 128) (hj : j < 128) :
    tileAt (((peatDetect s p e ws).core p).mxa.peatAt e).tile i j
      = if inWords ws (128 * i + j) then poisonNan else tileAt ((s.core p).mxa.peatAt e).tile i j := by
  have mxa : ((peatDetect s p e ws).core p).mxa = (s.core p).mxa.poisonPeat e ws := by
    rw [← arrayView_mxa, arrayView_peatDetect]
    exact Function.update_self ..
  rw [mxa, Mxa.poisonPeat, peatAt_setPeat, tileAt_poisonWords ws _ hi hj]

/-! ### A drain reads its rows (R93, R113, R266, R271) -/

/-- What a drain changes before it reads its rows: its array's Peat store and scale cache. -/
def Prepared (s : State) (p : Nat) (u : State) : Prop := ∃ peat cache, arrayView u = { arrayView s with
  mxa := Function.update (arrayView s).mxa p { (s.core p).mxa with peat := peat, scaleCache := cache } }

theorem Prepared.refl (s : State) (p : Nat) : Prepared s p s := by
  refine ⟨(s.core p).mxa.peat, (s.core p).mxa.scaleCache, ?_⟩
  exact congrArg (fun m => { arrayView s with mxa := m }) (Function.update_eq_self p (arrayView s).mxa).symm

theorem Prepared.mxa {s u : State} {p : Nat} (h : Prepared s p u) :
    ∃ peat cache, (u.core p).mxa = { (s.core p).mxa with peat := peat, scaleCache := cache } := by
  obtain ⟨peat, cache, view⟩ := h
  exact ⟨peat, cache, (congrFun (congrArg ArrayView.mxa view) p).trans (Function.update_self ..)⟩

theorem Prepared.trans {s t u : State} {p : Nat} (h : Prepared s p t) (k : Prepared t p u) : Prepared s p u := by
  obtain ⟨_, _, mxa⟩ := h.mxa
  obtain ⟨_, _, first⟩ := h
  obtain ⟨peat, cache, second⟩ := k
  refine ⟨peat, cache, ?_⟩
  rw [second, first, mxa]
  simp only [Function.update_idem]

theorem Prepared.sameScales {s u : State} {p : Nat} (h : Prepared s p u) : SameScales s u := by
  obtain ⟨_, _, view⟩ := h
  exact ⟨congrArg (fun x => x.numx.tab) view, fun q => congrArg (fun x => (tabGet x.queues {} q).part) view⟩

theorem peatDetect_prepared (s : State) (p e : Nat) (ws : List Nat) : Prepared s p (peatDetect s p e ws) :=
  ⟨_, _, arrayView_peatDetect s p e ws⟩

theorem scaleRead_prepared (s : State) (p n i : Nat) : Prepared s p (scaleRead s p n i) := by
  simp only [scaleRead]
  split
  · exact .refl s p
  · exact ⟨_, _, arrayView_setMxa s p _⟩

theorem scaleReads_prepared (s : State) (p q : Nat) (r : Rec) : Prepared s p (scaleReads s p q r) :=
  ((scaleRead_prepared s p _ _).trans (scaleRead_prepared _ p _ _)).trans (scaleRead_prepared _ p _ _)

/-- The state in which the words found uncorrectable in the Peat entry that a drain reads are poisoned (R113). -/
def wordsSeen (s : State) (p : Nat) (words : List Nat) (c : CmdRef) (r : Rec) : State :=
  let ws := (words.filter (fun w => decide (w < 10240))).eraseDups
  match peatRead (s.core p).mxa c.q r with
  | some e => if ws.isEmpty then s else peatDetect s p e ws
  | none => s

theorem wordsSeen_prepared (s : State) (p : Nat) (words : List Nat) (c : CmdRef) (r : Rec) :
    Prepared s p (wordsSeen s p words c r) := by
  simp only [wordsSeen]
  split
  · split
    · exact .refl s p
    · exact peatDetect_prepared s p _ _
  · exact .refl s p

theorem drainSeen_eq (s : State) (p : Nat) (words : List Nat) (c : CmdRef) (r : Rec) : drainSeen s p words c r =
    if r.dKind = 0 then wordsSeen s p words c r else scaleReads (wordsSeen s p words c r) p c.q r := rfl

theorem drainSeen_prepared (s : State) (p : Nat) (words : List Nat) (c : CmdRef) (r : Rec) :
    Prepared s p (drainSeen s p words c r) := by
  rw [drainSeen_eq]
  split
  · exact wordsSeen_prepared s p words c r
  · exact (wordsSeen_prepared s p words c r).trans (scaleReads_prepared _ p c.q r)

/-! ### The rows run through the stages (R86 to R95) -/

/-- The poison units that a drain's per-column vectors occupy. -/
def drainUnits (p : Nat) (r : Rec) : List Nat := if r.dM != 0 && r.dN != 0 then vecUnits p r else []

/-- The array whose last row a drain has read: its bank and its pipeline are free (R83). -/
def Mxa.drained (m : Mxa) (r : Rec) : Mxa := { (if r.isFlush then m else m.setBank r.dBank {}) with drainWait := none }

/-- The state in which a drain has read its last row. -/
def drainRead (t : State) (p : Nat) (r : Rec) : State :=
  let t := loadUnits t p (drainUnits p r)
  setMxa t p ((t.core p).mxa.drained r)

/-- What a drain that has read its rows will report. -/
def drainReport (t : State) (p : Nat) (c : CmdRef) (r : Rec) (vals : List Nat) : DrainFin where
  amax := ceilF32 (amaxVal vals)
  cold := drainsCold t c.q r
  poison := vals.any (fun v => v.testBit 39) || (drainUnits p r).any (unitBad t)

/-- A parity error of core `p` has struck. -/
def Core.drainStruck (k : Core) : Core := { k with ras := { k.ras with injDrain := false } }

theorem drainGo_eq (s : State) (dt p : Nat) (words : List Nat) (c : CmdRef) (r : Rec) : drainGo s dt p words c r =
    let t := drainSeen s p words c r
    let vals := drainVals s p words c r
    if (t.core p).ras.injDrain && (r.dM != 0 && r.dN != 0) then parityHalt (t.setCore p (t.core p).drainStruck) p 2
    else
      let w := wispOffer (drainRead t p r) p c.q r vals
      let f := { drainReport t p c r vals with wisp := w.2 }
      if needsScale t c.q r then drainCold w.1 p c r vals f else drainOnce w.1 dt p c r vals f := rfl

end Sys2Proof.Machine

namespace Sys2Proof.Machine

/-! ### What a drain leaves that has read its rows (R83, R93, R271) -/

theorem bank_drained (m : Mxa) {r : Rec} (h : r.isFlush = false) : (m.drained r).bank r.dBank = {} := by
  simp only [Mxa.drained, h, Bool.false_eq_true, if_false]
  exact bank_setBank_same m r.dBank {}

/-- Only a bank and the pipeline are freed. -/
theorem drained_eq (m : Mxa) (r : Rec) : ∃ a b, m.drained r = { m with bankA := a, bankB := b, drainWait := none } := by
  unfold Mxa.drained Mxa.setBank
  split
  · exact ⟨_, _, rfl⟩
  · split <;> exact ⟨_, _, rfl⟩

theorem arrayView_drainRead (t : State) (p : Nat) (r : Rec) : arrayView (drainRead t p r) = { arrayView t with
    mxa := Function.update (arrayView t).mxa p ((t.core p).mxa.drained r) } := by
  have read := arrayView_loadUnits t p (drainUnits p r)
  have mxa : ((loadUnits t p (drainUnits p r)).core p).mxa = (t.core p).mxa := congrFun (congrArg ArrayView.mxa read) p
  rw [drainRead, arrayView_setMxa, read, mxa]

theorem Offered.mem {s u : State} {p : Nat} (h : Offered s p u) : u.mem = s.mem := by
  obtain ⟨_, _, _, view⟩ := h
  exact congrArg ArrayView.mem view

theorem Offered.queues {s u : State} {p : Nat} (h : Offered s p u) : u.queues = s.queues := by
  obtain ⟨_, _, _, view⟩ := h
  exact congrArg ArrayView.queues view

/-- The state in which a drain, its rows read, has been offered to Wisp. -/
def drainOffered (s : State) (p : Nat) (words : List Nat) (c : CmdRef) (r : Rec) : State :=
  (wispOffer (drainRead (drainSeen s p words c r) p r) p c.q r (drainVals s p words c r)).1

section
variable (s : State) (p : Nat) (words : List Nat) (c : CmdRef) (r : Rec)

theorem mxa_drainOffered : ∃ off task, ((drainOffered s p words c r).core p).mxa
    = { ((drainSeen s p words c r).core p).mxa.drained r with offer := off, wisp := task } := by
  obtain ⟨off, task, offered⟩ := (wispOffer_offered (drainRead (drainSeen s p words c r) p r) p c.q r (drainVals s p words c r)).mxa
  have read : ((drainRead (drainSeen s p words c r) p r).core p).mxa = ((drainSeen s p words c r).core p).mxa.drained r := by
    rw [← arrayView_mxa, arrayView_drainRead]
    exact Function.update_self ..
  exact ⟨off, task, by rw [← read]; exact offered⟩

theorem mem_drainSeen : (drainSeen s p words c r).mem = s.mem := by
  obtain ⟨_, _, view⟩ := drainSeen_prepared s p words c r
  exact congrArg ArrayView.mem view

theorem injDrain_drainSeen : ((drainSeen s p words c r).core p).ras.injDrain = (s.core p).ras.injDrain := by
  obtain ⟨_, _, view⟩ := drainSeen_prepared s p words c r
  exact congrFun (congrArg ArrayView.injDrain view) p

theorem drainOffered_others : (drainOffered s p words c r).mem = s.mem ∧ (drainOffered s p words c r).queues = s.queues := by
  have read := arrayView_drainRead (drainSeen s p words c r) p r
  have offered := wispOffer_offered (drainRead (drainSeen s p words c r) p r) p c.q r (drainVals s p words c r)
  obtain ⟨_, _, seen⟩ := drainSeen_prepared s p words c r
  exact ⟨offered.mem.trans ((congrArg ArrayView.mem read).trans (congrArg ArrayView.mem seen)),
    offered.queues.trans ((congrArg ArrayView.queues read).trans (congrArg ArrayView.queues seen))⟩

/-- What a drain that has read its rows leaves of its array. -/
theorem drainOffered_array :
    (r.isFlush = false → ((drainOffered s p words c r).core p).mxa.bank r.dBank = {})
      ∧ ((drainOffered s p words c r).core p).mxa.drainWait = none
      ∧ ((drainOffered s p words c r).core p).mxa.peat = ((drainSeen s p words c r).core p).mxa.peat
      ∧ ((drainOffered s p words c r).core p).mxa.lagg = (s.core p).mxa.lagg
      ∧ ((drainOffered s p words c r).core p).mxa.laggNext = (s.core p).mxa.laggNext
      ∧ ((drainOffered s p words c r).core p).mxa.laggSeq = (s.core p).mxa.laggSeq := by
  obtain ⟨off, task, offered⟩ := mxa_drainOffered s p words c r
  obtain ⟨a, b, drained⟩ := drained_eq ((drainSeen s p words c r).core p).mxa r
  obtain ⟨peat, cache, seen⟩ := (drainSeen_prepared s p words c r).mxa
  rw [offered]
  refine ⟨bank_drained _, ?_⟩
  rw [drained, seen]
  exact ⟨rfl, rfl, rfl, rfl, rfl⟩

/-- The report of a drain that has been offered to Wisp. -/
def drainFound : DrainFin :=
  { drainReport (drainSeen s p words c r) p c r (drainVals s p words c r) with
    wisp := (wispOffer (drainRead (drainSeen s p words c r) p r) p c.q r (drainVals s p words c r)).2 }

variable {s p r} (dt : Nat)

/-- R113: an injected parity error strikes a drain that moves elements. -/
theorem drainGo_struck (hi : (s.core p).ras.injDrain = true) (hm : r.dM ≠ 0) (hn : r.dN ≠ 0) :
    drainGo s dt p words c r
      = parityHalt ((drainSeen s p words c r).setCore p ((drainSeen s p words c r).core p).drainStruck) p 2 := by
  have moves : (r.dM != 0 && r.dN != 0) = true := by simp [hm, hn]
  rw [drainGo_eq]
  simp only [injDrain_drainSeen, hi, moves, Bool.and_self, if_true]

/-- R93, R271: a drain that is not struck goes on in one pass or in two. -/
theorem drainGo_sound (h : (s.core p).ras.injDrain = false ∨ r.dM = 0 ∨ r.dN = 0) : drainGo s dt p words c r =
    if needsScale s c.q r then
      drainCold (drainOffered s p words c r) p c r (drainVals s p words c r) (drainFound s p words c r)
    else drainOnce (drainOffered s p words c r) dt p c r (drainVals s p words c r) (drainFound s p words c r) := by
  have sound : ((s.core p).ras.injDrain && (r.dM != 0 && r.dN != 0)) = false := by
    rcases h with h | h | h <;> simp [h]
  rw [drainGo_eq]
  simp only [injDrain_drainSeen, sound, (drainSeen_prepared s p words c r).sameScales.needsScale, Bool.false_eq_true, if_false]
  rfl

end

/-- R271: a scaling drain fills the cold buffer and claims its entry. -/
theorem mxa_drainCold (s : State) (p : Nat) (c : CmdRef) (r : Rec) (vals : List Nat) (f : DrainFin) : ∃ buf d,
    ((drainCold s p c r vals f).core p).mxa = { (s.core p).mxa with coldBuf := buf, scaling := some d }
      ∧ d.ref = c ∧ d.t = finiteMax vals ∧ d.vals = vals.map (BitVec.ofNat 40) ∧ d.answered = false :=
  ⟨_, _, mxa_setMxa .., rfl, rfl, rfl, rfl⟩

theorem drainCold_claims (s : State) (p : Nat) (c : CmdRef) (r : Rec) (vals : List Nat) (f : DrainFin) :
    ((drainCold s p c r vals f).entry (s.queue c.q).part r.dTid).scaling = true :=
  congrArg Entry.scaling (entry_setEntry s (s.queue c.q).part r.dTid _)

end Sys2Proof.Machine

namespace Sys2Proof.Machine

/-! ### One pass (R93 to R95, R105, R106) -/

@[simp] theorem arrayOf_drainEnd (s : State) (p : Nat) (c : CmdRef) (r : Rec) (f : DrainFin) :
    arrayOf (drainEnd s p c r f) = arrayOf s := by
  simp only [drainEnd, arrayOf_complete, arrayOf_coreCtr, arrayOf_ite]
  split <;> rfl

theorem mxa_wispFill (s : State) (p : Nat) (sel : Bool) (r : Rec) (o : TileOut) (e : Int) : ∃ task,
    ((wispFill s p sel r o e).core p).mxa = { (s.core p).mxa with wisp := task } := by
  obtain ⟨task, view⟩ := arrayView_wispFill s p sel r o e
  exact ⟨task, (congrFun (congrArg ArrayView.mxa view) p).trans (Function.update_self ..)⟩

theorem wispFill_others (s : State) (p : Nat) (sel : Bool) (r : Rec) (o : TileOut) (e : Int) :
    (wispFill s p sel r o e).mem = s.mem ∧ (wispFill s p sel r o e).xlat = s.xlat := by
  simp only [wispFill]
  split <;> exact ⟨rfl, rfl⟩

/-- A split-K entry that a drain has been added into (R106). -/
def heldEntry (q : Nat) (r : Rec) (vals : List Nat) (x : Peat) : Peat :=
  { st := .held, owner := q, tile := if r.dFirst then peatCopy r vals else peatAdd r vals x.tile }

/-- The array whose next lagg slot a drain has filled (R95). -/
def Mxa.slotFilled (m : Mxa) (q : Nat) (r : Rec) (o : TileOut) : Mxa :=
  { m with
    lagg := tabSet m.lagg m.laggNext (laggFill r q m.laggSeq o)
    laggNext := (m.laggNext + 1) % 8, laggSeq := m.laggSeq + 1 }

theorem drainPut_slot {r : Rec} (h : r.dDest = 1) (s : State) (dt p q : Nat) (o : TileOut) : drainPut s dt p q r o
    = (setMxa s p ((s.core p).mxa.slotFilled q r o), 0, (s.core p).mxa.laggSeq.toNat) := if_pos h

theorem drainPut_rows {r : Rec} (h : r.dDest ≠ 1) (s : State) (dt p q : Nat) (o : TileOut) : drainPut s dt p q r o
    = let x := drainRows s dt p q r (if r.dN = 0 then [] else (upTo r.dM).map (rowOut r o)); (x.1, x.2, 0) := if_neg h

section
variable {r : Rec} (h : r.isFlush = false) (s : State) (dt p : Nat) (c : CmdRef) (vals : List Nat) (f : DrainFin)

/-- The tile that a one-pass drain stores. -/
def drainCodes (s : State) (p : Nat) (c : CmdRef) (r : Rec) (vals : List Nat) : TileOut :=
  encodeTile r (drainExp s p c r) vals .acc35

/-- The state in which a one-pass drain has its tile encoded. -/
def drainEncoded (s : State) (p : Nat) (c : CmdRef) (r : Rec) (vals : List Nat) (f : DrainFin) : State :=
  wispFill s p f.wisp r (drainCodes s p c r vals) (drainExp s p c r)

include h

theorem drainOnce_eq : drainOnce s dt p c r vals f =
    let o := drainCodes s p c r vals
    let t := drainEncoded s p c r vals f
    let f := { f with ovf := o.ovf, nan := o.nan }
    if r.dDest = 2 then
      drainEnd (setMxa t p ((t.core p).mxa.setPeat r.dPeat (heldEntry c.q r vals ((t.core p).mxa.peatAt r.dPeat)))) p c r
        { f with entry := r.dPeat }
    else if r.dDest = 3 then peatTie t dt p c r vals f
    else
      let y := drainPut t dt p c.q r o
      drainEnd y.1 p c r { f with status := y.2.1, seq := y.2.2 } := by
  have exp : (if decide (1 ≤ r.dKind) && decide (r.dKind ≤ 3) then (scaleExp s p (s.queue c.q).part r.dTid).getD 0 else 0)
      = drainExp s p c r := by simp only [drainExp, Bool.and_eq_true, decide_eq_true_eq]
  rw [drainOnce]
  simp only [exp, h, Bool.false_eq_true, if_false]
  rfl

/-- R106: DEST 2 adds into the record's split-K entry. -/
theorem drainOnce_holds (dest : r.dDest = 2) :
    ((drainOnce s dt p c r vals f).core p).mxa.peatAt r.dPeat = heldEntry c.q r vals ((s.core p).mxa.peatAt r.dPeat)
      ∧ (∀ e, e ≠ r.dPeat →
        ((drainOnce s dt p c r vals f).core p).mxa.peatAt e = (s.core p).mxa.peatAt e)
      ∧ ((drainOnce s dt p c r vals f).core p).mxa.lagg = (s.core p).mxa.lagg
      ∧ ((drainOnce s dt p c r vals f).core p).mxa.scaling = (s.core p).mxa.scaling := by
  obtain ⟨task, filled⟩ := mxa_wispFill s p f.wisp r (drainCodes s p c r vals) (drainExp s p c r)
  have array : arrayOf (drainOnce s dt p c r vals f) p = { ({ (s.core p).mxa with wisp := task } : Mxa).setPeat r.dPeat
      (heldEntry c.q r vals ((s.core p).mxa.peatAt r.dPeat)) with waiting := [] } := by
    rw [drainOnce_eq h]
    simp only [dest, if_true, arrayOf_drainEnd]
    rw [arrayOf, mxa_setMxa, drainEncoded, filled]
    rfl
  have peat (e : Nat) : ((drainOnce s dt p c r vals f).core p).mxa.peatAt e
      = (({ (s.core p).mxa with wisp := task } : Mxa).setPeat r.dPeat
          (heldEntry c.q r vals ((s.core p).mxa.peatAt r.dPeat))).peatAt e := congrArg (fun m => m.peatAt e) array
  refine ⟨(peat _).trans (peatAt_setPeat ..), fun e he => (peat e).trans (peatAt_setPeat_ne _ _ he),
    (congrArg Mxa.lagg array :), (congrArg Mxa.scaling array :)⟩

/-- R95: DEST 1 fills the next lagg slot. -/
theorem drainOnce_fills (dest : r.dDest = 1) :
    tabGet ((drainOnce s dt p c r vals f).core p).mxa.lagg {} (s.core p).mxa.laggNext
        = laggFill r c.q (s.core p).mxa.laggSeq (drainCodes s p c r vals)
      ∧ ((drainOnce s dt p c r vals f).core p).mxa.laggNext = ((s.core p).mxa.laggNext + 1) % 8
      ∧ ((drainOnce s dt p c r vals f).core p).mxa.laggSeq = (s.core p).mxa.laggSeq + 1
      ∧ ((drainOnce s dt p c r vals f).core p).mxa.peat = (s.core p).mxa.peat := by
  obtain ⟨task, filled⟩ := mxa_wispFill s p f.wisp r (drainCodes s p c r vals) (drainExp s p c r)
  have array : arrayOf (drainOnce s dt p c r vals f) p
      = { ({ (s.core p).mxa with wisp := task } : Mxa).slotFilled c.q r (drainCodes s p c r vals) with waiting := [] } := by
    rw [drainOnce_eq h]
    simp only [dest, OfNat.one_ne_ofNat, if_false, drainPut_slot dest, arrayOf_drainEnd]
    rw [arrayOf, mxa_setMxa, drainEncoded, filled]
  refine ⟨?_, (congrArg Mxa.laggNext array :), (congrArg Mxa.laggSeq array :), (congrArg Mxa.peat array :)⟩
  have lagg := congrArg Mxa.lagg array
  exact (congrArg (fun t => tabGet t {} (s.core p).mxa.laggNext) lagg).trans (tabGet_tabSet_same ..)

/-- R94: DEST 0 writes the tile's rows. -/
theorem drainOnce_writes (dest : r.dDest = 0) : drainOnce s dt p c r vals f =
    let o := drainCodes s p c r vals
    let y := drainRows (drainEncoded s p c r vals f) dt p c.q r (if r.dN = 0 then [] else (upTo r.dM).map (rowOut r o))
    drainEnd y.1 p c r { f with ovf := o.ovf, nan := o.nan, status := y.2, seq := 0 } := by
  have elsewhere : r.dDest ≠ 1 ∧ r.dDest ≠ 2 ∧ r.dDest ≠ 3 := by omega
  rw [drainOnce_eq h]
  simp only [elsewhere, if_false, drainPut_rows elsewhere.1]

end

end Sys2Proof.Machine

namespace Sys2Proof.Machine

/-! ### The hub's answer and pass 2 (R271, R272) -/

/-- R266: an entry that is written leaves the scale caches. -/
theorem mxa_scaleInval (s : State) (n i p : Nat) : ∃ cache,
    ((scaleInval s n i).core p).mxa = { (s.core p).mxa with scaleCache := cache } := by
  have core : (scaleInval s n i).core p = { s.core p with mxa := { (s.core p).mxa with
      scaleCache := (s.core p).mxa.scaleCache.filter (fun x => x.1 != n * 65536 + i) } } :=
    tabGet_map (fun k : Core => { k with mxa := { k.mxa with
      scaleCache := k.mxa.scaleCache.filter (fun x => x.1 != n * 65536 + i) } }) rfl s.cores p
  exact ⟨_, (congrArg Core.mxa core :)⟩

/-- R260, R271: the hub's answer sets the scale of the drain's entry. -/
theorem entry_scaleAnswer {s : State} {n i : Nat} {tv : Val} {x : Int} (h : target (s.entry n i).kind
      (if (s.entry n i).force then tv else histMax2 ((s.entry n i).histMax (s.entry n i).filled) tv)
      (s.entry n i).coldMargin = some x) : (scaleAnswer s n i tv).entry n i = { s.entry n i with
        exp := x, scaleSet := true, coldScaled := true, force := false, scaling := false } := by
  simp only [scaleAnswer, putEntry, entry_setEntry, scaleFor, h, Option.getD_some]

/-- The state in which the hub has answered a scaling drain. -/
def scaleTold (s : State) (d : ScalingDrain) (r : Rec) : State :=
  if d.answered then s else numxCtr (scaleAnswer s (s.queue d.ref.q).part r.dTid d.t) 0x198 1

theorem slotFree_scaleTold (s : State) (p : Nat) (d : ScalingDrain) (r : Rec) :
    ((scaleTold s d r).core p).mxa.slotFree = (s.core p).mxa.slotFree := by
  unfold scaleTold
  split
  · rfl
  · obtain ⟨cache, mxa⟩ := mxa_scaleInval s (s.queue d.ref.q).part r.dTid p
    exact (congrArg Mxa.slotFree mxa :)

theorem scaleAnswered_eq {s : State} {p : Nat} {d : ScalingDrain} {r : Rec} (ready : mxaReady s p = true)
    (waits : (s.core p).mxa.scaling = some d) (found : findRec s d.ref = some r) (cold dt : Nat) :
    scaleAnswered s p cold dt = if r.dDest = 1 ∧ (s.core p).mxa.slotFree = false
      then setMxa (scaleTold s d r) p { ((scaleTold s d r).core p).mxa with scaling := some { d with answered := true } }
      else sramSweep (drainPass2 (scaleTold s d r) dt p cold d r) := by
  rw [scaleAnswered]
  simp only [ready, waits, found, Bool.not_true, Bool.false_eq_true, if_false]
  rw [← scaleTold, slotFree_scaleTold]
  simp only [Bool.not_eq_true']

/-- The values of pass 2: the cold buffer, with the poison of the drain's values. -/
def coldVals (s : State) (p : Nat) (d : ScalingDrain) : List Nat :=
  (upTo d.vals.length).map (fun k =>
    ((s.core p).mxa.coldBuf.getD k 0).toNat + (if (d.vals.getD k 0).toNat.testBit 39 then poisonBit else 0))

/-- The tile that pass 2 stores. -/
def coldCodes (s : State) (p : Nat) (d : ScalingDrain) (r : Rec) : TileOut :=
  encodeTile r (drainEntry s d.ref.q r).exp (coldVals s p d) .bf16

/-- R65: the elements that overflowed in pass 1 alone. -/
def coldOvers (s : State) (p : Nat) (d : ScalingDrain) (r : Rec) : Nat :=
  let again (k : Nat) : Bool := (encodeS r.dSty ((decodeS .bf16 ((coldVals s p d).getD k 0)).scale (drainEntry s d.ref.q r).exp)
    (drainRnd r (k / r.dN) (k % r.dN)) r.dNov).ovf
  ((upTo (coldVals s p d).length).filter (fun k => d.overs.getD k false && !again k)).length

/-- The state in which pass 2 has read the cold buffer. -/
def coldRead (s : State) (p : Nat) (d : ScalingDrain) (r : Rec) : State :=
  let t := wispFill s p d.wispSel r (coldCodes s p d r) (drainEntry s d.ref.q r).exp
  let t := coreCtr t p 0x170 (if (t.core p).ve.cmd.isSome && r.dN != 0 then ceilDiv r.dM 2 else 0)
  setMxa t p { (t.core p).mxa with scaling := none, coldBuf := [] }

/-- What a scaling drain reports whose pass 2 has ended with a status and a sequence number. -/
def coldReport (s : State) (p cold : Nat) (d : ScalingDrain) (r : Rec) (y : Nat × Nat) : DrainFin where
  status := y.1
  amax := d.amax
  ovf := (coldCodes s p d r).ovf + coldOvers s p d r
  nan := (coldCodes s p d r).nan
  seq := y.2
  cycles := cold
  remain := if r.isFlush then (((coldRead s p d r).core p).mxa.peatAt r.dEntry).count else 0
  entry := if r.isFlush then r.dEntry else 0
  wisp := d.wispSel
  cold := d.cold
  poison := d.poison

theorem drainPass2_eq (s : State) (dt p cold : Nat) (d : ScalingDrain) (r : Rec) : drainPass2 s dt p cold d r =
    let y := drainPut (coldRead s p d r) dt p d.ref.q r (coldCodes s p d r)
    drainEnd (if r.isFlush && y.2.1 == 0 then setMxa y.1 p ((y.1.core p).mxa.setPeat r.dEntry {}) else y.1) p d.ref r
      (coldReport s p cold d r y.2) := rfl

theorem mem_coldRead (s : State) (p : Nat) (d : ScalingDrain) (r : Rec) : (coldRead s p d r).mem = s.mem := by
  rw [coldRead, setMxa, setCore_mem]
  exact (congrArg ArrayView.mem (arrayView_coreCtr ..)).trans (wispFill_others ..).1

theorem mxa_coldRead (s : State) (p : Nat) (d : ScalingDrain) (r : Rec) :
    ((coldRead s p d r).core p).mxa.scaling = none ∧ ((coldRead s p d r).core p).mxa.coldBuf = [] := by
  rw [coldRead, mxa_setMxa]
  exact ⟨rfl, rfl⟩

/-! ### A scale that does not come (R272) -/

/-- The array whose waiting drain has failed: its bank is open again. -/
def Mxa.unpiped (m : Mxa) (r : Rec) : Mxa :=
  { (if r.isFlush then m else m.setBank r.dBank { m.bank r.dBank with st := .opened }) with drainWait := none }

theorem bank_unpiped (m : Mxa) {r : Rec} (h : r.isFlush = false) :
    (m.unpiped r).bank r.dBank = { m.bank r.dBank with st := .opened } := by
  simp only [Mxa.unpiped, h, Bool.false_eq_true, if_false]
  exact bank_setBank_same m r.dBank _

theorem scaleTimeout_of_late {s : State} {p : Nat} {c : CmdRef} {since : Nat} {r : Rec} (ready : mxaReady s p = true)
    (waits : (s.core p).mxa.drainWait = some ⟨c, since⟩) (found : findRec s c = some r) (needs : needsScale s c.q r = true)
    (other : isScaling s c.q r = false) (late : since + 2 * tickStep s.tick.sel ≤ s.tick.last) : scaleTimeout s p =
      complete (numxCtr (setMxa s p ((s.core p).mxa.unpiped r)) 0x1A8 1) c { status := 0x0A, cold := drainsCold s c.q r } := by
  have past : decide (s.tick.last < since + 2 * tickStep s.tick.sel) = false := decide_eq_false (by omega)
  rw [scaleTimeout]
  simp only [waits, found, ready, needs, other, past, Bool.not_true, Bool.or_self, Bool.false_eq_true, if_false]
  rfl

/-! ### Wisp's result (R277, R278) -/

/-- The log's entry for an excursion. -/
def excursionLog (s : State) (p : Nat) (w : WispTask) (err : Nat) : LogIn :=
  let step := if decide (w.tid < 65536) then (s.entry w.part w.tid).commits.toNat else 0xFFFFFFFF
  { code := 0x33, inst := p, src := 1, sev := 0, args := [w.tid + step * 2 ^ 32, w.row0, w.col0 + err * 2 ^ 32] }

/-- What an excursion records in its entry under a Wisp control word. -/
def excursionEntry (s : State) (w : WispTask) (ctl : Nat) : Entry :=
  { s.entry w.part w.tid with
    wispExc := satAdd 32 (s.entry w.part w.tid).wispExc 1, wispStep := (s.entry w.part w.tid).commits
    force := (s.entry w.part w.tid).force || ctl.testBit 1 }

theorem wispExcursion_logs (s : State) (p : Nat) (w : WispTask) (err : Nat) : wispExcursion s p w err =
    let t := numxCtr (logAdd s (excursionLog s p w err)) 0x188 1
    if decide (w.tid < 65536) then t.setEntry w.part w.tid (excursionEntry s w (wispCtrl t w.part)) else t := rfl

/-- R278: an excursion is logged and counted, and stands in its entry. -/
theorem wispExcursion_eq (s : State) (p : Nat) (w : WispTask) (err : Nat) : ∃ host log bit sent,
    wispExcursion s p w err =
      let t := numxCtr { s with host := host, log := log, bit := bit, sent := sent } 0x188 1
      if w.tid < 65536 then t.setEntry w.part w.tid (excursionEntry s w (wispCtrl s w.part)) else t := by
  obtain ⟨host, log, bit, sent, logged⟩ := logAdd_logged s (excursionLog s p w err)
  refine ⟨host, log, bit, sent, ?_⟩
  rw [wispExcursion_logs, logged]
  simp only [decide_eq_true_eq]
  rfl

theorem wispExcursion_others (s : State) (p : Nat) (w : WispTask) (err : Nat) : (wispExcursion s p w err).mem = s.mem
    ∧ (wispExcursion s p w err).queues = s.queues ∧ (wispExcursion s p w err).cores = s.cores := by
  obtain ⟨host, log, bit, sent, eq⟩ := wispExcursion_eq s p w err
  rw [eq]
  dsimp only
  split <;> exact ⟨rfl, rfl, rfl⟩

theorem entry_wispExcursion (s : State) (p : Nat) {w : WispTask} (err : Nat) (h : w.tid < 65536) :
    (wispExcursion s p w err).entry w.part w.tid = excursionEntry s w (wispCtrl s w.part) := by
  obtain ⟨host, log, bit, sent, eq⟩ := wispExcursion_eq s p w err
  rw [eq]
  simp only [h, if_true, entry_setEntry]

/-- The quotient of R277. -/
def wispErr (w : WispTask) : Nat :=
  divF32 (sqrtF32 (decodeS .acc35 (wispSums w).1)) (sqrtF32 (decodeS .acc35 (wispSums w).2.1))

/-- R277: whether a task's error or a lost value calls for an excursion. -/
def wispExceeds (s : State) (w : WispTask) : Bool :=
  (Val.fin false 1 (-(bits (wispCtrl s w.part) 39 32 : Int))).lt (decodeS .fp32 (wispErr w))
    || ((decodeS .acc35 (wispSums w).2.1).isZero && (Val.fin false 0 0).lt (decodeS .acc35 (wispSums w).1))
    || (wispSums w).2.2 || wispLost w

theorem wispDone_of_task {s : State} {p : Nat} {w : WispTask} (task : (s.core p).mxa.wisp = some w)
    (stored : ∀ d, (s.core p).mxa.scaling = some d → d.wispSel = false) : wispDone s p =
      let t := setMxa s p { (s.core p).mxa with wisp := none }
      if wispExceeds s w then wispExcursion t p w (wispErr w) else t := by
  have free : (match (s.core p).mxa.scaling with | some d => d.wispSel | none => false) = false := by
    split
    · next d waits => exact stored d waits
    · rfl
  unfold wispDone
  simp only [task]
  rw [if_neg (by rw [Bool.not_eq_true]; exact free)]
  rfl

end Sys2Proof.Machine

namespace Sys2Proof.Machine

/-! ### The statement about drains -/

theorem drainNext_of_free {s : State} {p : Nat} (ready : mxaReady s p = true) (free : (s.core p).mxa.drainWait = none)
    (dt : Nat) (words : List Nat) : drainNext s p dt words = drainHead s dt p words false := by
  simp only [drainNext, ready, free, Bool.not_true, Bool.false_eq_true, if_false]

theorem drainNext_of_piped {s : State} {p : Nat} {w : DrainWait} {r : Rec} (ready : mxaReady s p = true)
    (piped : (s.core p).mxa.drainWait = some w) (found : findRec s w.ref = some r) (dt : Nat) (words : List Nat) :
    drainNext s p dt words = if drainCan s p w.ref.q r = true then sramSweep (drainGo s dt p words w.ref r)
      else drainHead s dt p words true := by
  simp only [drainNext, ready, piped, found, Bool.not_true, Bool.false_eq_true, if_false]

/-- Settles O52: the head of the stream by `drainHead_of_choice`, its rows by `drainGo_eq`, one pass by `drainOnce_eq`, pass 2
by `drainPass2_eq`. -/
theorem drainsRunInOneOrTwoPasses : Obligations.DrainsRunInOneOrTwoPasses := by
  unfold Obligations.DrainsRunInOneOrTwoPasses
  refine ⟨?start, ?idle, ?head, ?go, ?struck, ?once, ?words, ?answer, ?pass2, ?entry, ?timeout, ?wisp⟩
  case start =>
    intro p dt words s ready
    exact ⟨fun free => congrArg Host.Outcome.next (drainNext_of_free ready free dt words),
      fun w r piped found => congrArg Host.Outcome.next (drainNext_of_piped ready piped found dt words)⟩
  case idle =>
    intro p dt words s idle
    exact congrArg Host.Outcome.next (by rw [drainNext, idle]; rfl)
  case head =>
    intro p dt words busy s c r h pick found hh
    refine ⟨fun fails => ?refused, fun h0 hb => ?waits, fun h0 hb holds => ?piped, fun h0 hb flush empty => ?empty⟩
    case refused =>
      obtain ⟨peat, mxa⟩ := mxa_drainRefused s p c r h
      obtain ⟨mem, numx, -⟩ := drainRefused_others s p c r h
      refine ⟨_, drainHead_refuses pick found dt words hh fails, mem, numx, ?_⟩
      rw [mxa]
      exact ⟨rfl, rfl, rfl⟩
    case waits =>
      subst hb
      exact drainHead_waits pick found dt words (hh.symm.trans h0)
    case piped =>
      subst hb
      refine ⟨_, drainHead_pipes pick found dt words (hh.symm.trans h0) holds, ?_⟩
      rw [mxa_drainPiped]
      refine ⟨rfl, mem_drainPiped s p c r, piped_peat .., fun rows => ?_⟩
      rw [bank_piped _ c rows, bank_taken]
      exact ⟨rfl, rfl⟩
    case empty =>
      subst hb
      have offered := wispOffer_offered (mxaTake s p c) p c.q r []
      obtain ⟨off, task, mxa⟩ := offered.mxa
      refine ⟨_, _, drainHead_flushesNothing pick found dt words (hh.symm.trans h0) flush empty, rfl, rfl, rfl, offered.mem, ?_⟩
      rw [mxa, mxa_mxaTake]
      rfl
  case go =>
    intro p dt words s t c r vals sound ht hv
    subst ht hv
    obtain ⟨bank, wait, peat, lagg, laggNext, laggSeq⟩ := drainOffered_array s p words c r
    obtain ⟨mem, queues⟩ := drainOffered_others s p words c r
    have goes := drainGo_sound words c dt sound
    refine ⟨fun set => ?onePass, fun unset => ?firstPass⟩
    case onePass =>
      rw [set] at goes
      exact ⟨_, _, goes, bank, wait, mem, peat, lagg, laggNext, laggSeq, rfl, rfl, rfl⟩
    case firstPass =>
      rw [unset] at goes
      obtain ⟨buf, d, mxa, ref, most, values, unanswered⟩ := mxa_drainCold (drainOffered s p words c r) p c r
        (drainVals s p words c r) (drainFound s p words c r)
      have claims := drainCold_claims (drainOffered s p words c r) p c r (drainVals s p words c r) (drainFound s p words c r)
      rw [State.queue, queues] at claims
      refine ⟨_, d, goes, ?_⟩
      rw [if_pos rfl, mxa]
      exact ⟨bank, rfl, ref, most, values, unanswered, claims, mem, peat, lagg⟩
  case struck =>
    intro p dt words s c r inj hm hn
    refine ⟨_, drainGo_struck words c dt inj hm hn, mem_drainSeen s p words c r, ?_⟩
    rw [core_setCore]
    rfl
  case once =>
    intro p dt s c r vals f o rows ho
    subst ho
    refine ⟨fun dest => ⟨_, rfl, drainOnce_holds rows s dt p c vals f dest⟩,
      fun dest => ⟨_, rfl, drainOnce_fills rows s dt p c vals f dest⟩, fun dest => ?_⟩
    obtain ⟨mem, xlat⟩ := wispFill_others s p f.wisp r (drainCodes s p c r vals) (drainExp s p c r)
    exact ⟨drainEncoded s p c r vals f, _, drainOnce_writes rows s dt p c vals f dest, mem, xlat, rfl, rfl, rfl⟩
  case words =>
    intro p e ws s
    exact ⟨fun i j hi hj => tileAt_peatDetect s p e ws hi hj, uncorr_peatDetect s p e ws,
      congrArg ArrayView.mem (arrayView_peatDetect s p e ws)⟩
  case answer =>
    intro p cold dt s v d r ready waits found hv
    subst hv
    have answered := scaleAnswered_eq ready waits found cold dt
    refine ⟨fun free => congrArg Host.Outcome.next (answered.trans (if_neg ?_)),
      fun dest taken => congrArg Host.Outcome.next (answered.trans (if_pos ⟨dest, taken⟩))⟩
    rintro ⟨dest, taken⟩
    exact Bool.false_ne_true (taken.symm.trans (free dest))
  case pass2 =>
    intro dt p cold s d r
    obtain ⟨scaling, coldBuf⟩ := mxa_coldRead s p d r
    refine ⟨coldRead s p d r, coldCodes s p d r,
      coldReport s p cold d r (drainPut (coldRead s p d r) dt p d.ref.q r (coldCodes s p d r)).2, _, rfl, ?_, scaling, coldBuf,
      mem_coldRead s p d r, rfl, rfl, rfl, rfl⟩
    rw [drainPass2_eq]
    simp only [Bool.and_eq_true, beq_iff_eq]
  case entry =>
    intro s n i tv x _ hx
    exact entry_scaleAnswer hx
  case timeout =>
    intro p s c since r ready waits found needs other late
    refine ⟨_, congrArg Host.Outcome.next (scaleTimeout_of_late ready waits found needs other late), ?_⟩
    have mxa : ((numxCtr (setMxa s p ((s.core p).mxa.unpiped r)) 0x1A8 1).core p).mxa = (s.core p).mxa.unpiped r := mxa_setMxa ..
    rw [mxa]
    refine ⟨rfl, fun rows => ?_, rfl, rfl⟩
    rw [bank_unpiped _ rows]
    exact ⟨rfl, rfl⟩
  case wisp =>
    intro p s w err task stored herr
    have done := wispDone_of_task task stored
    refine ⟨wispDone s p, rfl, ?_⟩
    cases exceeds : wispExceeds s w with
    | true =>
      rw [exceeds] at done
      obtain ⟨mem, queues, cores⟩ := wispExcursion_others (setMxa s p { (s.core p).mxa with wisp := none }) p w (wispErr w)
      refine ⟨?_, ?_, ?_, fun _ named => ?_⟩
      · exact (congrArg (fun u : State => (u.core p).mxa) done).trans
          ((congrArg (fun cs => (tabGet cs {} p.val).mxa) cores).trans (mxa_setMxa ..))
      · exact (congrArg State.mem done).trans mem
      · exact (congrArg State.queues done).trans queues
      · have entry := (congrArg (fun u : State => u.entry w.part w.tid) done).trans (entry_wispExcursion _ p _ named)
        exact ⟨congrArg Entry.wispExc entry, congrArg Entry.wispStep entry, congrArg Entry.force entry⟩
    | false =>
      rw [exceeds] at done
      rw [done]
      refine ⟨mxa_setMxa .., rfl, rfl, fun calls => ?_⟩
      subst herr
      simp only [wispExceeds, wispErr, Bool.or_eq_false_iff] at exceeds
      obtain ⟨⟨⟨below, -⟩, unsound⟩, kept⟩ := exceeds
      rw [below, unsound, kept] at calls
      simp at calls

end Sys2Proof.Machine

namespace Sys2Proof.Machine

/-! ### An issued instruction and its effect (R117, R147) -/

/-- The command `op` runs `body` where an instruction of class `cls` and function `fn` issues. -/
def Performs (op : Fin 256 → VeWaits → Instr) (cls fn : Nat) (body : VeBody) : Prop :=
  ∀ (p : Fin 256) (w : VeWaits) (s : State) (word : Nat), VeIssues s p cls fn word →
    exec (op p w) s = .next (sramSweep (veApply p w (body s p (decodeVI word))))

theorem performs_of_run {op : Fin 256 → VeWaits → Instr} {cls fn : Nat} {body : VeBody} {own : VI → Bool}
    (run : ∀ p w s, exec (op p w) s = .next (veRun p w own body s))
    (mine : ∀ j : VI, j.cls = cls → j.fn = fn → own j = true) : Performs op cls fn body := fun p w s _ issue =>
  (run p w s).trans (congrArg _ (veRun_issues issue (mine _ issue.cls issue.fn)))

theorem performs_of_step {op : Fin 256 → VeWaits → Instr} {cls fn : Nat} {body : VeBody}
    (step : ∀ p w s, exec (op p w) s = veStep p w cls fn body s) : Performs op cls fn body :=
  performs_of_run step fun j hc hf => by simp [isVI, hc, hf]

/-- The vector engine past an instruction, `d` bytes on. -/
def Ve.past (y : Ve) (d : BitVec 23) : Ve := { y with st := .running, pc := y.pc + d, issued := y.issued + 1 }

@[simp] theorem past_pc (y : Ve) (d : BitVec 23) : (y.past d).pc = y.pc + d := rfl
@[simp] theorem past_st (y : Ve) (d : BitVec 23) : (y.past d).st = .running := rfl
@[simp] theorem past_issued (y : Ve) (d : BitVec 23) : (y.past d).issued = y.issued + 1 := rfl
@[simp] theorem past_v (y : Ve) (d : BitVec 23) : (y.past d).v = y.v := rfl
@[simp] theorem past_s (y : Ve) (d : BitVec 23) : (y.past d).s = y.s := rfl
@[simp] theorem past_mask (y : Ve) (d : BitVec 23) : (y.past d).mask = y.mask := rfl
@[simp] theorem past_vl (y : Ve) (d : BitVec 23) : (y.past d).vl = y.vl := rfl
@[simp] theorem past_stat (y : Ve) (d : BitVec 23) : (y.past d).stat = y.stat := rfl
@[simp] theorem past_pois (y : Ve) (d : BitVec 23) : (y.past d).pois = y.pois := rfl
@[simp] theorem past_ovf (y : Ve) (d : BitVec 23) : (y.past d).ovf = y.ovf := rfl
@[simp] theorem past_nanIn (y : Ve) (d : BitVec 23) : (y.past d).nanIn = y.nanIn := rfl
@[simp] theorem past_slotTaken (y : Ve) (d : BitVec 23) : (y.past d).slotTaken = y.slotTaken := rfl
@[simp] theorem past_vreg (y : Ve) (d : BitVec 23) (n : Nat) : (y.past d).vreg n = y.vreg n := rfl
@[simp] theorem past_sreg (y : Ve) (d : BitVec 23) (n : Nat) : (y.past d).sreg n = y.sreg n := rfl
@[simp] theorem past_mreg (y : Ve) (d : BitVec 23) (n : Nat) : (y.past d).mreg n = y.mreg n := rfl
@[simp] theorem past_wideAt (y : Ve) (d : BitVec 23) (n l : Nat) : wideAt (y.past d) n l = wideAt y n l := rfl

theorem veNext_past {x y : Ve} (h : VeSame x y) : VeNext x (y.past 8) := veNext_of h

theorem veApply_jump (t : State) (p : Nat) (w : VeWaits) (n : Int) :
    ∃ k, veApply p w (.jump t n) = withVe t p ((t.core p).ve.past (BitVec.ofInt 23 (8 * n))) k := by
  have first : coreCtr t p 0x148 1 = withVe t p (t.core p).ve (ctrAdd (t.core p).ctr 0x148 1) := rfl
  simp only [veApply, veCount, vePc, first, coreCtr_withVe, withVe_setVe, withVe_ve]
  exact ⟨_, rfl⟩

theorem veApply_wait (t : State) (p : Nat) (w : VeWaits) :
    ∃ k, veApply p w (.wait t) = withVe t p { (t.core p).ve with st := .waitLagg } k := by
  by_cases idle : w.lagg = 0
  · simp only [veApply, idle, coreCtr_zero]
    exact ⟨(t.core p).ctr, rfl⟩
  · have first : coreCtr t p 0x150 w.lagg = withVe t p (t.core p).ve (ctrAdd (t.core p).ctr 0x150 w.lagg) := if_neg idle
    simp only [veApply, first, coreCtr_withVe, withVe_setVe, withVe_ve]
    exact ⟨_, rfl⟩

section
variable {op : Fin 256 → VeWaits → Instr} {cls fn : Nat} {body : VeBody} (does : Performs op cls fn body)
  {p : Fin 256} {w : VeWaits} {s : State} {word : Nat} (issue : VeIssues s p cls fn word)
include does issue

theorem Performs.answers {u : State} (effect : veApply p w (body s p (decodeVI word)) = u) : Answers (op p w) s u := by
  subst effect
  exact answers_of (does p w s word issue)

/-- An instruction that runs to the next one. -/
theorem Performs.next {t : State} (effect : body s p (decodeVI word) = .ok t) :
    ∃ k, Answers (op p w) s (withVe t p ((t.core p).ve.past 8) k) := by
  obtain ⟨k, next⟩ := veApply_next t p w
  exact ⟨k, does.answers issue (by rw [effect, next]; rfl)⟩

/-- An instruction that branches. -/
theorem Performs.branch {t : State} {n : Int} (effect : body s p (decodeVI word) = .jump t n) :
    ∃ k, Answers (op p w) s (withVe t p ((t.core p).ve.past (BitVec.ofInt 23 (8 * n))) k) := by
  obtain ⟨k, next⟩ := veApply_jump t p w n
  exact ⟨k, does.answers issue (by rw [effect, next])⟩

/-- An instruction that stops the program with a status. -/
theorem Performs.stops {st : Nat} (effect : body s p (decodeVI word) = .stop s st) :
    Answers (op p w) s (veFinish (veCount s p w 0) p st .stopped false) :=
  does.answers issue (by rw [effect]; rfl)

end

theorem withVe_of_setVe (s : State) (p : Nat) (y z : Ve) (k : Ctrs) : withVe (setVe s p y) p z k = withVe s p z k := by
  simp [setVe, withVe]

@[simp] theorem setVe_ve (s : State) (p : Nat) (y : Ve) : ((setVe s p y).core p).ve = y := by simp [setVe]

/-- An instruction that changes vector-engine registers only. -/
theorem Performs.registers {op : Fin 256 → VeWaits → Instr} {cls fn : Nat} {g : Ve → VI → Ve}
    (does : Performs op cls fn (veReg g)) {p : Fin 256} {w : VeWaits} {s : State} {word : Nat}
    (issue : VeIssues s p cls fn word) :
    ∃ k, Answers (op p w) s (withVe s p ((g (s.core p).ve (decodeVI word)).past 8) k) := by
  obtain ⟨k, done⟩ := does.next (w := w) issue rfl
  rw [setVe_ve, withVe_of_setVe] at done
  exact ⟨k, done⟩

end Sys2Proof.Machine

namespace Sys2Proof.Machine

/-! ### VL, VSTAT and the program counter (R122) -/

theorem sreg_setSN (x : Ve) (n k r : Nat) :
    (x.setSN n r).sreg k = if k = n then (if n = 0 then 0 else BitVec.ofNat 64 r) else x.sreg k := sreg_setS ..

/-- A legal SETVLI has an IMM of 1 to 256. -/
theorem imm_of_legal_setvli {word : Nat} (h : veLegal word = true) (hc : (decodeVI word).cls = 0)
    (hf : (decodeVI word).fn = 8) : 0 ≤ (decodeVI word).imm := by
  simp [veLegal, hc, hf, veUse] at h
  omega

/-- A legal LOOP counts in a register other than S0. -/
theorem a_of_legal_loop {word : Nat} (h : veLegal word = true) (hc : (decodeVI word).cls = 0)
    (hf : (decodeVI word).fn = 6) : (decodeVI word).a ≠ 0 := by
  simp [veLegal, hc, hf, veUse] at h
  tauto

theorem performs_stclr : Performs .stclr 1 36
    (veReg (fun x i => { x with stat := x.stat &&& ~~~((x.sreg i.a).setWidth 5) })) :=
  performs_of_step fun _ _ _ => rfl

/-- Settles O5: the engines that SETVL, SETVLI, STCLR and VE_NOP leave (`Performs.registers`), read field by field. -/
theorem controlInstructionsSetVlAndStatus : Obligations.ControlInstructionsSetVlAndStatus := by
  unfold Obligations.ControlInstructionsSetVlAndStatus
  refine ⟨?setvl, ?setvli, ?stclr, ?nop⟩
  case setvl =>
    intro p w s word issue
    have does : Performs .setvl 0 7 veSetvl := performs_of_step fun _ _ _ => rfl
    obtain ⟨k, done⟩ := does.registers (w := w) issue
    refine ⟨_, k, done, rfl, ?_, fun n other => ?_, ?_, setS_v .., setS_mask .., setS_stat ..⟩
    · exact (sreg_setSN ..).trans (if_pos rfl)
    · exact (sreg_setSN ..).trans (if_neg other)
    · exact congrArg (· + 8) (same_setS ..).pc
  case setvli =>
    intro p w s word issue
    have does : Performs .setvli 0 8 veSetvli := performs_of_step fun _ _ _ => rfl
    obtain ⟨k, done⟩ := does.registers (w := w) issue
    exact ⟨_, k, done, Int.toNat_of_nonneg (imm_of_legal_setvli issue.legal issue.cls issue.fn), rfl, rfl, rfl, rfl, rfl⟩
  case stclr =>
    intro p w s word issue
    obtain ⟨k, done⟩ := performs_stclr.registers (w := w) issue
    refine ⟨_, k, done, veNext_past (by constructor <;> rfl), fun b small => ?_, rfl, rfl, rfl, rfl⟩
    simp [small]
  case nop =>
    intro p w s word issue
    have does : Performs .veNop 0 0 (fun s _ _ => .ok s) := performs_of_step fun _ _ _ => rfl
    obtain ⟨k, done⟩ := does.next (w := w) issue rfl
    exact ⟨_, k, done, veNext_past .rfl, rfl, rfl, rfl, rfl⟩

/-- How far the program counter moves from a branch. -/
def branchBy (taken : Bool) (j : VI) : BitVec 23 := if taken then BitVec.ofInt 23 (8 * j.imm) else 8

/-- A branch changes nothing but the program counter, which its condition moves. -/
theorem Performs.branches {op : Fin 256 → VeWaits → Instr} {fn : Nat} {cond : Ve → VI → Bool}
    (does : Performs op 0 fn (veBranch cond)) (p : Fin 256) (w : VeWaits) (s : State) (word : Nat)
    (issue : VeIssues s p 0 fn word) :
    ∃ y k, Answers (op p w) s (withVe s p y k)
      ∧ y.pc = (s.core p).ve.pc + branchBy (cond (s.core p).ve (decodeVI word)) (decodeVI word)
      ∧ y.issued = (s.core p).ve.issued + 1 ∧ y.st = .running ∧ y.vl = (s.core p).ve.vl
      ∧ y.s = (s.core p).ve.s ∧ y.v = (s.core p).ve.v ∧ y.mask = (s.core p).ve.mask ∧ y.stat = (s.core p).ve.stat := by
  suffices ∃ k, Answers (op p w) s (withVe s p ((s.core p).ve.past
      (branchBy (cond (s.core p).ve (decodeVI word)) (decodeVI word))) k) by
    obtain ⟨k, done⟩ := this
    exact ⟨_, k, done, rfl, rfl, rfl, rfl, rfl, rfl, rfl, rfl⟩
  cases taken : cond (s.core p).ve (decodeVI word) with
  | true => exact does.branch issue (by simp [veBranch, taken])
  | false => exact does.next issue (by simp [veBranch, taken])

/-- LOOP counts S[A] down and branches while it is not zero. -/
theorem loop_answers {p : Fin 256} {s : State} {word : Nat} (issue : VeIssues s p 0 6 word) (w : VeWaits) :
    ∃ k, Answers (.loopS p w) s (withVe s p
      (((s.core p).ve.setS (decodeVI word).a ((s.core p).ve.sreg (decodeVI word).a - 1)).past
        (branchBy ((s.core p).ve.sreg (decodeVI word).a - 1 != 0) (decodeVI word))) k) := by
  have does : Performs .loopS 0 6 veLoop := performs_of_step fun _ _ _ => rfl
  by_cases zero : (s.core p).ve.sreg (decodeVI word).a - 1 = 0
  · obtain ⟨k, done⟩ := does.next (w := w) issue (if_neg (not_not.mpr zero))
    rw [setVe_ve, withVe_of_setVe] at done
    exact ⟨k, by rw [branchBy, if_neg (mt bne_iff_ne.mp (not_not.mpr zero))]; exact done⟩
  · obtain ⟨k, done⟩ := does.branch (w := w) issue (if_pos zero)
    rw [setVe_ve, withVe_of_setVe] at done
    exact ⟨k, by rw [branchBy, if_pos (bne_iff_ne.mpr zero)]; exact done⟩

/-- Settles O6: a branch by its condition (`Performs.branches`), LOOP by what its count becomes (`loop_answers`). -/
theorem branchesMoveTheProgramCounter : Obligations.BranchesMoveTheProgramCounter := by
  unfold Obligations.BranchesMoveTheProgramCounter
  refine ⟨?branches, ?loop⟩
  case branches =>
    have br : Performs .br 0 2 (veBranch fun _ _ => true) := performs_of_step fun _ _ _ => rfl
    have bz : Performs .bz 0 3 (veBranch fun x j => x.sreg j.a == 0) := performs_of_step fun _ _ _ => rfl
    have bnz : Performs .bnz 0 4 (veBranch fun x j => x.sreg j.a != 0) := performs_of_step fun _ _ _ => rfl
    have blt : Performs .blt 0 5 (veBranch fun x j => (x.sreg j.a).slt (x.sreg j.b)) := performs_of_step fun _ _ _ => rfl
    simp only [List.forall_mem_cons]
    exact ⟨br.branches, bz.branches, bnz.branches, blt.branches, List.forall_mem_nil _⟩
  case loop =>
    intro p w s word issue
    have counter := a_of_legal_loop issue.legal issue.cls issue.fn
    obtain ⟨k, done⟩ := loop_answers issue w
    have count : ((s.core p).ve.setS (decodeVI word).a ((s.core p).ve.sreg (decodeVI word).a - 1)).sreg (decodeVI word).a
        = (s.core p).ve.sreg (decodeVI word).a - 1 := by rw [sreg_setS, if_pos rfl, if_neg counter]
    refine ⟨_, k, done, count, fun n other => ?_, ?_, ?_, rfl, (same_setS ..).vl, setS_v .., setS_mask .., setS_stat ..⟩
    · exact (sreg_setS ..).trans (if_neg other)
    · rw [past_pc, past_sreg, count, (same_setS ..).pc, branchBy]
      by_cases zero : (s.core p).ve.sreg (decodeVI word).a - 1 = 0
      · rw [zero]; rfl
      · rw [if_pos (bne_iff_ne.mpr zero), if_neg zero]
    · exact congrArg (· + 1) (same_setS ..).issued

end Sys2Proof.Machine

namespace Sys2Proof.Machine

/-! ### Lane instructions (R119, R120, R122) -/

theorem events_none (x : Ve) : x.events 0 0 = x := rfl

/-- What `g` makes of a vector engine is what a row says of its instruction. -/
structure LaneEffect (r : LaneRow) (g : Ve → VI → Ve) : Prop where
  same : ∀ x j, VeSame x (g x j)
  lanes : ∀ x j l, l < 256 → lane ((g x j).vreg j.d) l = laneAfter r x j l
  others : ∀ x j n, n ≠ j.d → (g x j).vreg n = x.vreg n
  s : ∀ x j, (g x j).s = x.s
  mask : ∀ x j, (g x j).mask = x.mask
  ovf : ∀ x j, (g x j).ovf = x.ovf + r.ovf x j
  nanIn : ∀ x j, (g x j).nanIn = x.nanIn + r.nan x j
  stat : ∀ x j, (g x j).stat = x.stat ||| (evBits (r.ovf x j) (r.nan x j) ||| r.bits x j)

/-- The instruction of a row has the row's effect. -/
def LaneRow.Works (r : LaneRow) : Prop := ∃ g, Performs r.op r.cls r.fn (veReg g) ∧ LaneEffect r g

/-- A vector register written, then events and a flag, as every lane instruction does. -/
theorem laneEffect_setV {r : LaneRow} {v : Ve → VI → BitVec 8192} {b : Nat} {on : Ve → VI → Bool}
    (lanes : ∀ x j l, l < 256 → lane (v x j) l = laneAfter r x j l) (bits : ∀ x j, r.bits x j = statBit b (on x j)) :
    LaneEffect r fun x j => ((x.setV j.d (v x j)).events (r.ovf x j) (r.nan x j)).flag b (on x j) where
  same _ _ := (same_setV ..).trans ((same_events ..).trans (same_flag ..))
  lanes x j l hl := by simpa using lanes x j l hl
  others x j n other := by simp [other]
  s x j := by simp
  mask x j := by simp
  ovf x j := by simp
  nanIn x j := by simp
  stat x j := by simp [bits, BitVec.or_assoc]

/-- Lane `l` of the register that `writeLanes` writes. -/
theorem lane_written {r : LaneRow} {x : Ve} {j : VI} {f : Nat → Nat} (part : r.whole = false)
    (val : ∀ l, f l % 2 ^ 32 = r.f x j l % 2 ^ 32) {l : Nat} (hl : l < 256) :
    lane (mkV fun l => if active x j l then f l else if decide (l < x.vl) && j.zm then 0 else lane (x.vreg j.d) l) l
      = laneAfter r x j l := by
  have written := lane_writeLanes x j f l hl
  rw [writeLanes, vreg_setV] at written
  rw [written, laneAfter, part, val]
  rfl

/-- A lanewise instruction with events and a flag. -/
theorem LaneRow.Works.of_flagged {r : LaneRow} {f : Ve → VI → Nat → Nat} {b : Nat} {on : Ve → VI → Bool}
    (does : Performs r.op r.cls r.fn (veReg fun x j =>
      ((writeLanes x j (f x j)).events (r.ovf x j) (r.nan x j)).flag b (on x j)))
    (part : r.whole = false) (val : ∀ x j l, f x j l % 2 ^ 32 = r.f x j l % 2 ^ 32)
    (bits : ∀ x j, r.bits x j = statBit b (on x j)) : r.Works :=
  ⟨_, does, laneEffect_setV (fun x j _ hl => lane_written part (val x j) hl) bits⟩

/-- A lanewise instruction that sets no status bit, its lanes reduced modulo 2³². -/
theorem LaneRow.Works.of_wrapped {op : Fin 256 → VeWaits → Instr} {cls fn : Nat} {f g : Ve → VI → Nat → Nat}
    (does : Performs op cls fn (veReg fun x j => writeLanes x j (g x j)))
    (val : ∀ x j l, g x j l % 2 ^ 32 = f x j l % 2 ^ 32) : LaneRow.Works { op := op, cls := cls, fn := fn, f := f } :=
  .of_flagged (b := 0) (on := fun _ _ => false) does rfl val fun _ _ => rfl

/-- A lanewise instruction that sets no status bit. -/
theorem LaneRow.Works.of_lanes {op : Fin 256 → VeWaits → Instr} {cls fn : Nat} {f : Ve → VI → Nat → Nat}
    (does : Performs op cls fn (veReg fun x j => writeLanes x j (f x j))) :
    LaneRow.Works { op := op, cls := cls, fn := fn, f := f } :=
  .of_wrapped does fun _ _ _ => rfl

/-- A lanewise instruction that sets one status bit. -/
theorem LaneRow.Works.of_flag {op : Fin 256 → VeWaits → Instr} {cls fn b : Nat} {f : Ve → VI → Nat → Nat}
    {on : Ve → VI → Bool} (does : Performs op cls fn (veReg fun x j => (writeLanes x j (f x j)).flag b (on x j))) :
    LaneRow.Works { op := op, cls := cls, fn := fn, f := f, bits := fun x j => statBit b (on x j) } :=
  .of_flagged does rfl (fun _ _ _ => rfl) fun _ _ => rfl

/-- A lanewise instruction that counts conversion events. -/
theorem LaneRow.Works.of_events {op : Fin 256 → VeWaits → Instr} {cls fn : Nat} {f : Ve → VI → Nat → Nat}
    {ovf nan : Ve → VI → Nat}
    (does : Performs op cls fn (veReg fun x j => (writeLanes x j (f x j)).events (ovf x j) (nan x j))) :
    LaneRow.Works { op := op, cls := cls, fn := fn, f := f, ovf := ovf, nan := nan } :=
  .of_flagged (b := 0) (on := fun _ _ => false) does rfl (fun _ _ _ => rfl) fun _ _ => rfl

/-- A lanewise instruction that counts conversion events and sets one status bit. -/
theorem LaneRow.Works.of_events_flag {op : Fin 256 → VeWaits → Instr} {cls fn b : Nat} {f : Ve → VI → Nat → Nat}
    {ovf nan : Ve → VI → Nat} {on : Ve → VI → Bool} (does : Performs op cls fn (veReg fun x j =>
      ((writeLanes x j (f x j)).events (ovf x j) (nan x j)).flag b (on x j))) :
    LaneRow.Works { op := op, cls := cls, fn := fn, f := f, ovf := ovf, nan := nan, bits := fun x j => statBit b (on x j) } :=
  .of_flagged does rfl (fun _ _ _ => rfl) fun _ _ => rfl

/-- An instruction that writes every lane below VL. -/
theorem LaneRow.Works.of_whole {op : Fin 256 → VeWaits → Instr} {cls fn : Nat} {f : Ve → VI → Nat → Nat}
    (does : Performs op cls fn
      (veReg fun x j => x.setV j.d (mkV fun l => if l < x.vl then f x j l else lane (x.vreg j.d) l))) :
    LaneRow.Works { op := op, cls := cls, fn := fn, f := f, whole := true } := by
  refine ⟨_, does, laneEffect_setV (b := 0) (on := fun _ _ => false) (fun x j l hl => ?_) fun _ _ => rfl⟩
  by_cases below : l < x.vl
  · simp [laneAfter, lane_mkV _ _ hl, below]
  · simp only [laneAfter, lane_mkV _ _ hl, below, if_true, if_false, decide_false, Bool.false_and, Bool.false_eq_true]
    exact Nat.mod_eq_of_lt (lane_lt _ _)

theorem floatRows_work : ∀ r ∈ floatRows, r.Works := by
  simp only [floatRows, List.forall_mem_cons]
  refine ⟨?vadd, ?vsub, ?vmul, ?vfma, ?vfms, ?vfnma, ?vmin, ?vmax, ?vabs, ?vneg, ?vcps, ?vmov, ?vbc, ?vsel,
    List.forall_mem_nil _⟩
  case vbc => exact .of_wrapped (performs_of_step fun _ _ _ => rfl) fun _ _ _ => Nat.mod_mod ..
  all_goals exact .of_lanes (performs_of_step fun _ _ _ => rfl)

theorem packedRows_work : ∀ r ∈ packedRows, r.Works := by
  simp only [packedRows, List.forall_mem_cons]
  refine ⟨?_, ?_, ?_, ?_, ?_, ?_, ?_, ?_, List.forall_mem_nil _⟩
  all_goals exact .of_lanes (performs_of_step fun _ _ _ => rfl)

theorem opB_lt (x : Ve) (j : VI) (l : Nat) : opB x j l < 2 ^ 32 := by
  unfold opB
  split
  · exact Nat.mod_lt _ (by decide)
  · exact lane_lt _ _

theorem intRows_work : ∀ r ∈ intRows, r.Works := by
  simp only [intRows, List.forall_mem_cons]
  refine ⟨?vadd, ?vsub, ?vmul, ?vadds, ?vsubs, ?vand, ?vor, ?vxor, ?vshl, ?vshr, ?vsar, ?vmin, ?vmax, ?viota,
    List.forall_mem_nil _⟩
  case vadd | vmul | vshl | viota =>
    exact .of_wrapped (performs_of_step fun _ _ _ => rfl) fun _ _ _ => Nat.mod_mod ..
  case vsub =>
    refine .of_wrapped (performs_of_step fun _ _ _ => rfl) fun x j l => ?_
    rw [Nat.mod_mod, ab, Nat.add_sub_assoc (opB_lt x j l).le]
  case vadds | vsubs => exact .of_flag (performs_of_step fun _ _ _ => rfl)
  all_goals exact .of_lanes (performs_of_step fun _ _ _ => rfl)

theorem sfuRows_work : ∀ r ∈ sfuRows, r.Works := by
  simp only [sfuRows, List.forall_mem_cons]
  refine ⟨?_, ?_, ?_, ?_, ?_, ?_, ?_, ?_, ?_, List.forall_mem_nil _⟩
  all_goals exact .of_lanes (performs_of_step fun _ _ _ => rfl)

/-- A slide by 256 lanes or more gives zeros. -/
theorem slide_of_lt (n v : Nat) (c : Prop) [Decidable c] :
    (if 255 < n then 0 else if c then v else 0) = if n < 256 ∧ c then v else 0 := by
  by_cases near : n < 256
  · simp [near, show ¬ 255 < n by omega]
  · simp [near, show 255 < n by omega]

theorem permRows_work : ∀ r ∈ permRows, r.Works := by
  simp only [permRows, List.forall_mem_cons]
  refine ⟨?vperm, ?vpermh, ?vsldn, ?vslup, ?vcomp, ?vexpd, ?vrev, List.forall_mem_nil _⟩
  case vperm | vpermh => exact .of_flag (performs_of_step fun _ _ _ => rfl)
  case vsldn | vslup =>
    exact .of_wrapped (performs_of_step fun _ _ _ => rfl) fun _ _ _ => congrArg (· % 2 ^ 32) (slide_of_lt ..)
  case vcomp | vexpd => exact .of_whole (performs_of_step fun _ _ _ => rfl)
  case vrev => exact .of_lanes (performs_of_step fun _ _ _ => rfl)

theorem convRows_work : ∀ r ∈ convRows, r.Works := by
  simp only [convRows, List.forall_mem_cons]
  refine ⟨?vf2i, ?vi2f, ?vpack, ?vunlo, ?vunhi, ?vqnt, ?wto, List.forall_mem_nil _⟩
  case vunlo | vunhi => exact .of_lanes (performs_of_step fun _ _ _ => rfl)
  case wto => exact .of_events_flag (performs_of_step fun _ _ _ => rfl)
  all_goals exact .of_events (performs_of_step fun _ _ _ => rfl)

theorem laneRows_work : ∀ r ∈ laneRows, r.Works := by
  intro r row
  simp only [laneRows, List.mem_append] at row
  obtain ((((float | packed) | int) | sfu) | perm) | conv := row
  · exact floatRows_work r float
  · exact packedRows_work r packed
  · exact intRows_work r int
  · exact sfuRows_work r sfu
  · exact permRows_work r perm
  · exact convRows_work r conv

/-- Settles O1: every row's instruction has its row's effect (`laneRows_work`). -/
theorem laneInstructionsWriteTheirLanes : Obligations.LaneInstructionsWriteTheirLanes := by
  unfold Obligations.LaneInstructionsWriteTheirLanes
  intro r row p w s word issue
  obtain ⟨g, does, effect⟩ := laneRows_work r row
  obtain ⟨k, done⟩ := does.registers (w := w) issue
  exact ⟨_, k, done, veNext_past (effect.same ..), effect.lanes _ _, effect.others _ _, effect.s .., effect.mask ..,
    effect.ovf .., effect.nanIn .., effect.stat ..⟩

end Sys2Proof.Machine

namespace Sys2Proof.Machine

/-! ### Scalar instructions and reductions (R114, R122, R127, R128) -/

theorem setSN_toNat (x : Ve) (n : Nat) (r : W64) : x.setSN n r.toNat = x.setS n r :=
  congrArg (x.setS n) ((BitVec.ofNat_toNat ..).trans (BitVec.setWidth_eq r))

/-- The engine that a row says its instruction leaves, the program counter apart: S[D] written, the events counted, one
flag set by a condition. -/
def scalarDone (r : ScalarRow) (b : Nat) (on : Ve → VI → Bool) (x : Ve) (j : VI) : Ve :=
  ((x.setSN j.d (r.f x j)).events (r.ovf x j) (r.nan x j)).flag b (on x j)

/-- The instruction of a row writes S[D] and the status bits as its row says. -/
def ScalarRow.Works (r : ScalarRow) : Prop :=
  ∃ b on, Performs r.op r.cls r.fn (veReg (scalarDone r b on)) ∧ ∀ x j, r.bits x j = statBit b (on x j)

/-- An instruction that writes S[D] and no status bit. -/
theorem ScalarRow.Works.of_setSN {op : Fin 256 → VeWaits → Instr} {cls fn : Nat} {f : Ve → VI → Nat}
    (does : Performs op cls fn (veReg fun x j => x.setSN j.d (f x j))) :
    ScalarRow.Works { op := op, cls := cls, fn := fn, f := f } :=
  ⟨0, fun _ _ => false, does, fun _ _ => rfl⟩

/-- An instruction that writes S[D] with a word. -/
theorem ScalarRow.Works.of_setS {op : Fin 256 → VeWaits → Instr} {cls fn : Nat} {f : Ve → VI → W64}
    (does : Performs op cls fn (veReg fun x j => x.setS j.d (f x j))) :
    ScalarRow.Works { op := op, cls := cls, fn := fn, f := fun x j => (f x j).toNat } :=
  .of_setSN (by simpa only [setSN_toNat] using does)

/-- An instruction that writes S[D] and sets one status bit. -/
theorem ScalarRow.Works.of_flag {op : Fin 256 → VeWaits → Instr} {cls fn b : Nat} {f : Ve → VI → Nat}
    {on : Ve → VI → Bool} (does : Performs op cls fn (veReg fun x j => (x.setSN j.d (f x j)).flag b (on x j))) :
    ScalarRow.Works { op := op, cls := cls, fn := fn, f := f, bits := fun x j => statBit b (on x j) } :=
  ⟨b, on, does, fun _ _ => rfl⟩

/-- An instruction that writes S[D], counts events and sets one status bit. -/
theorem ScalarRow.Works.of_events_flag {op : Fin 256 → VeWaits → Instr} {cls fn b : Nat} {f ovf nan : Ve → VI → Nat}
    {on : Ve → VI → Bool} (does : Performs op cls fn (veReg fun x j =>
      ((x.setSN j.d (f x j)).events (ovf x j) (nan x j)).flag b (on x j))) :
    ScalarRow.Works { op := op, cls := cls, fn := fn, f := f, ovf := ovf, nan := nan, bits := fun x j => statBit b (on x j) } :=
  ⟨b, on, does, fun _ _ => rfl⟩

theorem scalarRows_work : ∀ r ∈ scalarRows, r.Works := by
  simp only [scalarRows, List.forall_mem_cons]
  refine ⟨?add, ?sub, ?mul, ?andS, ?orS, ?xorS, ?shl, ?shr, ?sar, ?smin, ?smax, ?addi, ?li, ?lsh, ?fadd, ?fmul, ?fmax, ?fmin,
    ?sacc, ?w2f, ?f2w, ?strd, ?vext, List.forall_mem_nil _⟩
  case fadd | fmul | fmax | fmin | f2w | strd | vext => exact .of_setSN (performs_of_step fun _ _ _ => rfl)
  case sacc => exact .of_flag (performs_of_step fun _ _ _ => rfl)
  case w2f => exact .of_events_flag (performs_of_step fun _ _ _ => rfl)
  all_goals exact .of_setS (performs_of_step fun _ _ _ => rfl)

/-- A reduction of present values that has its own result where no lane is active. -/
theorem extreme_eq (f : Val → Val → Val) (g : Val → Val) (empty : Nat) (x : Ve) (j : VI) :
    (match treeRoot f (present x j (fun l => g (fp (opA x j l)))) with | some v => f32 v | none => empty)
      = ((treeRoot f (present x j (fun l => g (fp (opA x j l))))).map f32).getD empty := by
  cases treeRoot f (present x j (fun l => g (fp (opA x j l)))) <;> rfl

/-- RMAX, RMIN and RAMAX. -/
theorem ScalarRow.Works.of_extreme {op : Fin 256 → VeWaits → Instr} {fn empty : Nat} {f : Val → Val → Val} {g : Val → Val}
    (does : Performs op 7 fn (veExtreme f g empty)) : ScalarRow.Works
      { op := op, cls := 7, fn := fn, f := fun x j =>
        ((treeRoot f (present x j (fun l => g (fp (opA x j l))))).map f32).getD empty } :=
  .of_setSN (by simp only [← extreme_eq]; exact does)

/-- ARGMAX compares as its row does: a NaN stays, else a NaN or a greater value replaces. -/
theorem veArgmax_eq : veArgmax = veReg (fun x j => x.setSN j.d ((bestLane x j).getD 256)) := by
  refine congrArg veReg (funext fun x => funext fun j => ?_)
  refine congrArg (fun step => x.setSN j.d (((upTo 256).foldl step none).getD 256)) (funext fun best => funext fun l => ?_)
  cases best with
  | none => rfl
  | some k => cases stays : (fp (opA x j k)).isNan <;> simp [stays]

theorem reduceRows_work : ∀ r ∈ reduceRows, r.Works := by
  simp only [reduceRows, List.forall_mem_cons]
  refine ⟨?mpop, ?mfirst, ?rsum, ?rssq, ?rmax, ?rmin, ?ramax, ?rsumW, ?rssqW, ?argmax, ?rsumI, List.forall_mem_nil _⟩
  case rmax =>
    have does : Performs .rmax 7 2 (veExtreme maxVal (fun v => v) 0xFF800000) := performs_of_step fun _ _ _ => rfl
    have works := ScalarRow.Works.of_extreme does
    exact works
  case rmin =>
    have does : Performs .rmin 7 3 (veExtreme minVal (fun v => v) 0x7F800000) := performs_of_step fun _ _ _ => rfl
    have works := ScalarRow.Works.of_extreme does
    exact works
  case ramax =>
    have does : Performs .ramax 7 4 (veExtreme maxVal Val.abs 0) := performs_of_step fun _ _ _ => rfl
    have works := ScalarRow.Works.of_extreme does
    exact works
  case argmax =>
    have does : Performs .argmax 7 7 veArgmax := performs_of_step fun _ _ _ => rfl
    exact .of_setSN (veArgmax_eq ▸ does)
  case rsumI => exact .of_flag (performs_of_step fun _ _ _ => rfl)
  all_goals exact .of_setSN (performs_of_step fun _ _ _ => rfl)

/-- Settles O2: every row's instruction does what its row says (`scalarRows_work`, `reduceRows_work`). -/
theorem scalarInstructionsWriteTheirRegister : Obligations.ScalarInstructionsWriteTheirRegister := by
  unfold Obligations.ScalarInstructionsWriteTheirRegister
  intro r row p w s word issue
  have works : r.Works := (List.mem_append.mp row).elim (scalarRows_work r) (reduceRows_work r)
  obtain ⟨b, on, does, bits⟩ := works
  obtain ⟨k, done⟩ := does.registers (w := w) issue
  have same : VeSame (s.core p).ve (scalarDone r b on (s.core p).ve (decodeVI word)) :=
    (same_setS ..).trans ((same_events ..).trans (same_flag ..))
  refine ⟨_, k, done, veNext_past same, ?_, fun n other => ?_, ?_⟩
  · simp [scalarDone, sreg_setSN]
  · simp [scalarDone, sreg_setSN, other]
  · simp [scalarDone, Ve.setSN, bits, BitVec.or_assoc]

end Sys2Proof.Machine

namespace Sys2Proof.Machine

/-! ### Compares and mask instructions (R119, R120, R123) -/

/-- The instruction of a row writes, at each of its function numbers, the bits of MK[D] that its row gives. -/
def MaskRow.Works (r : MaskRow) : Prop :=
  ∃ m : Ve → VI → BitVec 256, (∀ fn ∈ r.fns, Performs r.op 5 fn (veReg fun x j => x.setM j.d (m x j)))
    ∧ ∀ x j l, l < 256 → (m x j).getLsbD l = maskAfter r x j l

/-- A lanewise mask instruction. -/
theorem MaskRow.Works.of_bits {op : Fin 256 → VeWaits → Instr} {fns : List Nat} {f : Ve → VI → Nat → Bool}
    (does : ∀ fn ∈ fns, Performs op 5 fn (veReg fun x j => writeMaskBits x j (f x j))) :
    MaskRow.Works { op := op, fns := fns, f := f } := by
  refine ⟨_, does, fun x j l hl => ?_⟩
  have written := bit_writeMaskBits x j (f x j) l hl
  rw [writeMaskBits, mreg_setM] at written
  exact written

/-- A lanewise mask instruction of one function number. -/
theorem MaskRow.Works.of_single {op : Fin 256 → VeWaits → Instr} {fn : Nat} {f : Ve → VI → Nat → Bool}
    (does : Performs op 5 fn (veReg fun x j => writeMaskBits x j (f x j))) :
    MaskRow.Works { op := op, fns := [fn], f := f } :=
  .of_bits (List.forall_mem_singleton.mpr does)

theorem performs_vcmpF {fn : Nat} (h : fn ≤ 5) : Performs .vcmpF 5 fn veVcmpF :=
  performs_of_run (fun _ _ _ => rfl) fun j hc hf => by simp [hc, hf, h]

theorem performs_vcmpI {fn : Nat} (hlo : 8 ≤ fn) (hhi : fn ≤ 13) : Performs .vcmpI 5 fn veVcmpI :=
  performs_of_run (fun _ _ _ => rfl) fun j hc hf => by simp [hc, hf, hlo, hhi]

/-- MVL sets the bits below VL, whatever the mask. -/
theorem performs_mvl : Performs .mvl 5 21 veMvl := performs_of_step fun _ _ _ => rfl

theorem maskRows_work : ∀ r ∈ maskRows, r.Works := by
  simp only [maskRows, List.forall_mem_cons]
  refine ⟨?vcmpF, ?vcmpI, ?vnan, ?mand, ?mor, ?mxor, ?mandn, ?mnot, ?mvl, List.forall_mem_nil _⟩
  case vcmpF => exact .of_bits fun fn row => performs_vcmpF (by revert fn; decide)
  case vcmpI => exact .of_bits fun fn row => performs_vcmpI (by revert fn; decide) (by revert fn; decide)
  case mvl =>
    exact ⟨_, List.forall_mem_singleton.mpr performs_mvl, fun x j l hl => mkM_getLsbD _ l hl⟩
  all_goals exact .of_single (performs_of_step fun _ _ _ => rfl)

/-- Settles O3: every row's instruction writes the mask its row gives (`maskRows_work`). -/
theorem maskInstructionsWriteTheirMask : Obligations.MaskInstructionsWriteTheirMask := by
  unfold Obligations.MaskInstructionsWriteTheirMask
  intro r row p w s word fn named issue
  obtain ⟨m, does, bits⟩ := maskRows_work r row
  obtain ⟨k, done⟩ := (does fn named).registers (w := w) issue
  refine ⟨_, k, done, veNext_past (same_setM ..), fun l hl => ?_, fun n other => ?_, rfl, rfl, rfl⟩
  · simp [bits _ _ _ hl]
  · simp [other]

end Sys2Proof.Machine

namespace Sys2Proof.Machine

/-! ### What a load leaves of the other units (R184, R186) -/

/-- Pending commands, and each core's vector and Heron engines. -/
def engineView (s : State) : List Instr × (Nat → Ve × Heron) := (s.pending, fun n => ((s.core n).ve, (s.core n).heron))

/-- A change of a core that leaves its engines is no part of the view. -/
theorem engineView_setCore_same {s : State} {p : Nat} {x : Core} (hv : x.ve = (s.core p).ve) (hh : x.heron = (s.core p).heron) :
    engineView (s.setCore p x) = engineView s := by
  refine Prod.ext rfl (funext fun n => ?_)
  by_cases own : n = p
  · simp [engineView, own, hv, hh]
  · simp [engineView, own]

@[simp] theorem engineView_coreCtr (s : State) (p o n : Nat) : engineView (coreCtr s p o n) = engineView s := by
  rw [coreCtr]; split
  · rfl
  · exact engineView_setCore_same rfl rfl

@[simp] theorem engineView_logAdd (s : State) (e : LogIn) : engineView (logAdd s e) = engineView s := by
  obtain ⟨host, log, bit, sent, eq⟩ := logAdd_logged s e
  rw [eq]; rfl

@[simp] theorem engineView_detectUnit (s : State) (u : Nat) : engineView (detectUnit s u) = engineView s := by
  rw [detectUnit]; split
  · dsimp only; split
    · exact (engineView_logAdd _ _).trans (engineView_setCore_same rfl rfl)
    · exact engineView_logAdd _ _
  · rfl

@[simp] theorem engineView_loadUnits (s : State) (p : Nat) (us : List Nat) : engineView (loadUnits s p us) = engineView s := by
  rw [loadUnits, countPoison, engineView_coreCtr]
  induction us generalizing s with
  | nil => rfl
  | cons u us ih => exact (ih (detectUnit s u)).trans (engineView_detectUnit s u)

/-- A load detects errors in what it reads, and then writes its own core's vector engine alone. -/
theorem loadFrame_loaded (s : State) (p : Nat) (us : List Nat) (y : Ve) (k : Ctrs) :
    LoadFrame s (withVe (loadUnits s p us) p y k) p := by
  have arrays := arrayView_loadUnits s p us
  have engines := engineView_loadUnits s p us
  have core (n : Nat) : ((loadUnits s p us).core n).ve = (s.core n).ve ∧ ((loadUnits s p us).core n).heron = (s.core n).heron :=
    Prod.ext_iff.mp (congrFun (congrArg Prod.snd engines) n)
  constructor
  · exact congrArg ArrayView.mem arrays
  · exact congrArg ArrayView.queues arrays
  · exact congrArg Prod.fst engines
  · intro n other
    rw [withVe, core_setCore_ne _ _ _ _ other]
    exact (core n).1
  · rw [withVe, core_setCore]
    exact congrFun (congrArg ArrayView.mxa arrays) p
  · rw [withVe, core_setCore]
    exact (core p).2

/-! ### Lanewise loads (R135 to R137) -/

/-- The engine that a row's load leaves, the program counter apart. -/
def LoadRow.loaded (r : LoadRow) (s : State) (p : Nat) (j : VI) : Ve :=
  ((writeLanes (s.core p).ve j (r.f s p j)).events (countActive (s.core p).ve j (r.ovf s p j))
    (countActive (s.core p).ve j (r.nan s p j))).flag vsPoison (anyActive (s.core p).ve j (r.bad s p j))

/-- The body of a row's load, which reads the units `us`. -/
def LoadRow.body (r : LoadRow) (us : State → Nat → VI → List Nat) : VeBody := fun s p j =>
  if anyActive (s.core p).ve j (fun l => !r.ok s p j l) then .stop s 0x24
  else .ok (setVe (loadUnits s p (us s p j)) p (r.loaded s p j))

theorem countActive_none (x : Ve) (j : VI) : countActive x j (fun _ => false) = 0 := by simp [countActive]

/-- VLD, VLDS and VLDX count no conversion events. -/
theorem veLoad_eq (op : Fin 256 → VeWaits → Instr) (fn mode : Nat) : veLoad mode = (plainLoad op fn mode).body (fun s p j =>
    ((upTo 256).filter (active (s.core p).ve j)).flatMap (fun l => unitsOf (laneAt s p j mode l) 4)) := by
  funext s p j
  simp only [LoadRow.body, LoadRow.loaded, plainLoad, countActive_none, events_none]
  rfl

/-- The instruction of a row has the row's load as its body. -/
def LoadRow.Works (r : LoadRow) : Prop := ∃ us, Performs r.op 10 r.fn (r.body us)

theorem plainLoad_works {op : Fin 256 → VeWaits → Instr} {fn mode : Nat} (does : Performs op 10 fn (veLoad mode)) :
    (plainLoad op fn mode).Works := ⟨_, veLoad_eq op fn mode ▸ does⟩

/-- The engine of a converting access depends on the lanes' conversions and on their poison alone. -/
theorem converted_congr {x : Ve} {j : VI} {e e' : Nat → Enc} {bad bad' : Nat → Bool} (same : ∀ l, e l = e' l)
    (poisoned : ∀ l, bad l = bad' l) :
    ((writeLanes x j fun l => (e l).bits).events (countActive x j fun l => (e l).ovf)
        (countActive x j fun l => (e l).nanIn)).flag vsPoison (anyActive x j bad)
      = ((writeLanes x j fun l => (e' l).bits).events (countActive x j fun l => (e' l).ovf)
        (countActive x j fun l => (e' l).nanIn)).flag vsPoison (anyActive x j bad') := by
  rw [funext same, funext poisoned]

/-- VLDC.F and VLDC.I convert as `accValue` says. -/
theorem veLoadConv_eq (op : Fin 256 → VeWaits → Instr) (fn : Nat) (toInt : Bool) :
    veLoadConv toInt = (convLoad op fn toInt).body (fun s p j =>
      ((upTo 256).filter (active (s.core p).ve j)).flatMap (fun l => unitsOf (accAt s p j l) (accLen j l)
        ++ (if fmtMx (fmtOf j.fmt) then unitsOf (csAddr p (mxScale (s.core p).ve j l)) 1 else []))) := by
  funext s p j
  refine ite_congr rfl (fun _ => rfl) fun _ => ?_
  exact congrArg (fun y => VeEff.ok (setVe _ p y)) (converted_congr (fun _ => rfl) fun _ => rfl)

theorem convLoad_works {op : Fin 256 → VeWaits → Instr} {fn : Nat} {toInt : Bool}
    (does : Performs op 10 fn (veLoadConv toInt)) : (convLoad op fn toInt).Works := ⟨_, veLoadConv_eq op fn toInt ▸ does⟩

theorem loadRows_work : ∀ r ∈ loadRows, r.Works := by
  simp only [loadRows, List.forall_mem_cons]
  refine ⟨plainLoad_works ?vld, plainLoad_works ?vlds, plainLoad_works ?vldx, convLoad_works ?vldcF, convLoad_works ?vldcI,
    List.forall_mem_nil _⟩
  all_goals exact performs_of_step fun _ _ _ => rfl

theorem anyActive_eq_false {x : Ve} {j : VI} {f : Nat → Bool} :
    anyActive x j f = false ↔ ∀ l, l < 256 → active x j l = true → f l = false := by
  simp [anyActive, upTo]

theorem anyActive_of_lane {x : Ve} {j : VI} {f : Nat → Bool} {l : Nat} (hl : l < 256) (on : active x j l = true)
    (holds : f l = true) : anyActive x j f = true := by
  simp only [anyActive, upTo, List.any_eq_true, List.mem_range, Bool.and_eq_true]
  exact ⟨l, hl, on, holds⟩

/-- Settles O7: the body of a load (`loadRows_work`) past its checks, and what reading leaves alone (`loadFrame_loaded`). -/
theorem loadsWriteTheirLanes : Obligations.LoadsWriteTheirLanes := by
  unfold Obligations.LoadsWriteTheirLanes
  intro r row p w s word issue fits
  obtain ⟨us, does⟩ := loadRows_work r row
  have inside : anyActive (s.core p).ve (decodeVI word) (fun l => !r.ok s p (decodeVI word) l) = false :=
    anyActive_eq_false.mpr fun l hl on => by rw [fits l hl on]; rfl
  obtain ⟨k, done⟩ := does.next (w := w) issue
    (t := setVe (loadUnits s p (us s p (decodeVI word))) p (r.loaded s p (decodeVI word)))
    (by simp only [LoadRow.body, inside]; rfl)
  rw [setVe_ve, withVe_of_setVe] at done
  have same : VeSame (s.core p).ve (r.loaded s p (decodeVI word)) :=
    (same_writeLanes ..).trans ((same_events ..).trans (same_flag ..))
  refine ⟨_, done, loadFrame_loaded .., ?_⟩
  rw [withVe_ve]
  refine ⟨veNext_past same, fun l hl => ?_, fun n other => ?_, ?_⟩
  · simp [LoadRow.loaded, lane_writeLanes _ _ _ _ hl]
  · simp [LoadRow.loaded, writeLanes, other]
  · simp [LoadRow.loaded, writeLanes, BitVec.or_assoc]

end Sys2Proof.Machine

namespace Sys2Proof.Machine

/-! ### Stops and the end of a program (R116, R118, R136, R237) -/

/-- An access at S[A] + sext(IMM) that does not lie in the core store at its alignment. -/
theorem Performs.stops_outside {op : Fin 256 → VeWaits → Instr} {cls fn n al : Nat} {body : VeBody}
    (does : Performs op cls fn body)
    (guarded : ∀ s p j, csOk (baseAddr (s.core p).ve j) n al = false → body s p j = .stop s 0x24)
    (p : Fin 256) (w : VeWaits) (s : State) (word : Nat) (issue : VeIssues s p cls fn word)
    (outside : csOk (baseAddr (s.core p).ve (decodeVI word)) n al = false) :
    Answers (op p w) s (veFinish (veCount s p w 0) p 0x24 .stopped false) :=
  does.stops issue (guarded s p _ outside)

/-- A lanewise store with an active lane that does not lie in the core store at its alignment. -/
theorem Performs.store_stops {op : Fin 256 → VeWaits → Instr} {fn mode : Nat} (does : Performs op 10 fn (veStore mode))
    (p : Fin 256) (w : VeWaits) (s : State) (word l : Nat) (issue : VeIssues s p 10 fn word) (hl : l < 256)
    (on : active (s.core p).ve (decodeVI word) l = true)
    (outside : csOk (laneAddr (s.core p).ve (decodeVI word) mode l) 4 4 = false) :
    Answers (op p w) s (veFinish (veCount s p w 0) p 0x24 .stopped false) :=
  does.stops issue (if_pos (anyActive_of_lane hl on (by rw [outside]; rfl)))

/-- Settles O12: the guard of each access (`loadRows_work`, `Performs.store_stops`, `Performs.stops_outside`). -/
theorem misplacedAccessesStopTheProgram : Obligations.MisplacedAccessesStopTheProgram := by
  unfold Obligations.MisplacedAccessesStopTheProgram
  refine ⟨?loads, ?stores, ?singles⟩
  case loads =>
    intro r row p w s word l issue hl on outside
    obtain ⟨us, does⟩ := loadRows_work r row
    exact does.stops issue (if_pos (anyActive_of_lane hl on (by rw [outside]; rfl)))
  case stores =>
    have vst : Performs .vst 10 1 (veStore 0) := performs_of_step fun _ _ _ => rfl
    have vsts : Performs .vsts 10 3 (veStore 1) := performs_of_step fun _ _ _ => rfl
    have vstx : Performs .vstx 10 5 (veStore 2) := performs_of_step fun _ _ _ => rfl
    simp only [List.forall_mem_cons]
    exact ⟨vst.store_stops, vsts.store_stops, vstx.store_stops, List.forall_mem_nil _⟩
  case singles =>
    have sld : Performs .sld 1 33 veSld := performs_of_step fun _ _ _ => rfl
    have sst : Performs .sst 1 34 veSst := performs_of_step fun _ _ _ => rfl
    have mld : Performs .mld 5 24 veMld := performs_of_step fun _ _ _ => rfl
    have mst : Performs .mst 5 25 veMst := performs_of_step fun _ _ _ => rfl
    have splLd : Performs .splLd 10 10 veSplLd := performs_of_step fun _ _ _ => rfl
    have splSt : Performs .splSt 10 11 veSplSt := performs_of_step fun _ _ _ => rfl
    simp only [List.forall_mem_cons]
    refine ⟨sld.stops_outside ?_, sst.stops_outside ?_, mld.stops_outside ?_, mst.stops_outside ?_, splLd.stops_outside ?_,
      splSt.stops_outside ?_, List.forall_mem_nil _⟩
    all_goals
      intro s p j outside
      simp only [veSld, veSst, veMld, veMst, veSplLd, veSplSt, outside, Bool.not_false, if_true]

theorem veCount_eq (t : State) (p : Nat) (w : VeWaits) (branch : Nat) :
    ∃ k, veCount t p w branch = withVe t p { (t.core p).ve with issued := (t.core p).ve.issued + 1 } k := by
  have first : coreCtr t p 0x148 1 = withVe t p (t.core p).ve (ctrAdd (t.core p).ctr 0x148 1) := rfl
  simp only [veCount, first, coreCtr_withVe, withVe_setVe, withVe_ve]
  exact ⟨_, rfl⟩

/-- R116, R237: what completes when the running program ends at the instruction that has just been counted. -/
theorem veFinish_counted {s : State} {p : Nat} {c : CmdRef} (running : (s.core p).ve.cmd = some c) (w : VeWaits) (st : Nat)
    (final : VeSt) (bad : Bool) : ∃ k, veFinish (veCount s p w 0) p st final bad
      = veKick (complete (withVe s p { (s.core p).ve with
          st := final, cmd := none, last := (s.core p).ve.stat, slotTaken := false, issued := (s.core p).ve.issued + 1 } k) c
        (veResult (s.core p).ve st bad)) p := by
  obtain ⟨k, counted⟩ := veCount_eq s p w 0
  refine ⟨k, ?_⟩
  simp only [veFinish, counted, withVe_ve, running, withVe_setVe]
  rfl

theorem veIllegal_of_word {s : State} {p : Nat} {word : Nat} (ready : veReady s p = true)
    (sound : (s.core p).ras.injVe = false) (fetched : veWord s p = some word) (illegal : veLegal word = false) (w : VeWaits) :
    veIllegal p w s = sramSweep (veFinish (veCount s p w 0) p 0x14 .stopped false) := by
  have clean : rangeBad s (veFetch s p) 8 = false := by
    by_contra bad
    simp [veWord, Bool.eq_true_of_not_eq_false bad] at fetched
  simp [veIllegal, ready, sound, fetched, illegal, clean]

/-- Settles O14: END and an illegal word both finish the program at the instruction counted (`veFinish_counted`). -/
theorem programsEndWithTheirCompletion : Obligations.ProgramsEndWithTheirCompletion := by
  unfold Obligations.ProgramsEndWithTheirCompletion
  refine ⟨?ends, ?illegal⟩
  case ends =>
    intro p w s word c issue running
    have does : Performs .endProg 0 1 (fun s _ _ => .fin s) := performs_of_step fun _ _ _ => rfl
    obtain ⟨k, finished⟩ := veFinish_counted running w 0 .idle false
    exact ⟨k, does.answers issue finished⟩
  case illegal =>
    intro p w s word c ready sound fetched illegal running
    obtain ⟨k, finished⟩ := veFinish_counted running w 0x14 .stopped false
    have run : exec (.veIllegalInstruction p w) s = .next (veIllegal p w s) := rfl
    exact ⟨k, answers_of (by rw [run, veIllegal_of_word ready sound fetched illegal, finished])⟩

end Sys2Proof.Machine

namespace Sys2Proof.Machine

/-! ### Wide pairs (R138) -/

theorem vreg_setWide_ne (x : Ve) {n k : Nat} (f : Nat → Nat) (other : k / 2 ≠ n) : (setWide x n f).vreg k = x.vreg k := by
  rw [setWide, vreg_setV_ne _ _ _ _ (by omega), vreg_setV_ne _ _ _ _ (by omega)]

/-- A wide pair holds 40 bits of each value written. -/
theorem wideAt_setWide (x : Ve) (n : Nat) (f : Nat → Nat) {l : Nat} (hl : l < 256) :
    wideAt (setWide x n f) n l = f l % 2 ^ 40 := by
  rw [wideAt, setWide, vreg_setV, vreg_setV_ne _ _ _ _ (by omega), vreg_setV, lane_mkV _ _ hl, lane_mkV _ _ hl]
  omega

@[simp] theorem flag_wideAt (x : Ve) (b n l : Nat) (on : Bool) : wideAt (x.flag b on) n l = wideAt x n l := by
  simp [wideAt]

/-! ### The lagg queue (R141 to R144) -/

theorem laggSlot_head (s : State) (p : Nat) : laggSlot s p (s.core p).mxa.laggHead = headSlot s p := rfl

/-- A ready slot of the program's queue is taken, its descriptor in S[D]. -/
def Ve.taken (x : Ve) (j : VI) (l : LaggSlot) : Ve := { x.setSN j.d (laggDesc l) with slotTaken := true }

theorem veLwait_ready {s : State} {p : Nat} (ready : (headSlot s p).ready = true)
    (own : (headSlot s p).queue = (s.core p).ve.queue) (j : VI) :
    veLwait s p j = .ok (setVe s p ((s.core p).ve.taken j (headSlot s p))) := by
  simp only [veLwait, laggSlot_head, ready, own, Bool.not_true, bne_self_eq_false, Bool.false_eq_true, if_false]
  rfl

theorem veLpeek_ready {s : State} {p : Nat} (ready : (headSlot s p).ready = true)
    (own : (headSlot s p).queue = (s.core p).ve.queue) (j : VI) :
    veLpeek s p j = .ok (setVe s p ((s.core p).ve.taken j (headSlot s p))) := by
  simp only [veLpeek, laggSlot_head, ready, own, Bool.not_true, bne_self_eq_false, Bool.false_eq_true, if_false]
  rfl

theorem veLwait_empty {s : State} {p : Nat} (empty : (headSlot s p).ready = false) (j : VI) : veLwait s p j = .wait s := by
  simp [veLwait, laggSlot_head, empty]

theorem veLpeek_empty {s : State} {p : Nat} (empty : (headSlot s p).ready = false) (j : VI) :
    veLpeek s p j = .ok (setVe s p ((s.core p).ve.setSN j.d (2 ^ 63))) := by
  simp [veLpeek, laggSlot_head, empty]

/-- An instruction that takes the ready head slot. -/
theorem Performs.takes {op : Fin 256 → VeWaits → Instr} {fn : Nat} {body : VeBody} (does : Performs op 11 fn body)
    (takes : ∀ s p j, (headSlot s p).ready = true → (headSlot s p).queue = (s.core p).ve.queue →
      body s p j = .ok (setVe s p ((s.core p).ve.taken j (headSlot s p))))
    (p : Fin 256) (w : VeWaits) (s : State) (word : Nat) (issue : VeIssues s p 11 fn word)
    (ready : (headSlot s p).ready = true) (own : (headSlot s p).queue = (s.core p).ve.queue) :
    ∃ y k, Answers (op p w) s (withVe s p y k) ∧ y.slotTaken = true ∧ y.pc = (s.core p).ve.pc + 8
      ∧ y.sreg (decodeVI word).d = (if (decodeVI word).d = 0 then 0 else BitVec.ofNat 64 (laggDesc (headSlot s p)))
      ∧ (∀ n, n ≠ (decodeVI word).d → y.sreg n = (s.core p).ve.sreg n)
      ∧ y.v = (s.core p).ve.v ∧ y.mask = (s.core p).ve.mask ∧ y.stat = (s.core p).ve.stat := by
  obtain ⟨k, done⟩ := does.next (w := w) issue (takes s p _ ready own)
  rw [setVe_ve, withVe_of_setVe] at done
  refine ⟨_, k, done, rfl, ?_, ?_, fun n other => ?_, setS_v .., setS_mask .., setS_stat ..⟩
  · exact congrArg (· + 8) (same_setS ..).pc
  · exact (sreg_setSN ..).trans (if_pos rfl)
  · exact (sreg_setSN ..).trans (if_neg other)

/-- The state with core `p`'s head slot released (R144). -/
def released (s : State) (p : Nat) : State :=
  s.setCore p { s.core p with
    ve := { (s.core p).ve with slotTaken := false }
    mxa := { (s.core p).mxa with
      lagg := tabSet (s.core p).mxa.lagg (s.core p).mxa.laggHead {}
      laggHead := ((s.core p).mxa.laggHead + 1) % 8 } }

theorem veLrel_taken {s : State} {p : Nat} (taken : (s.core p).ve.slotTaken = true) (j : VI) :
    veLrel s p j = .ok (released s p) := by
  simp only [veLrel, taken, Bool.not_true, Bool.false_eq_true, if_false]
  rfl

/-- The engine that LLD leaves, the program counter apart. -/
def Ve.lagged (x : Ve) (j : VI) (l : LaggSlot) : Ve :=
  ((writeLanes x j fun n => (slotValue l j.nov (laggRow x j n) (n % 128)).bits).events
    (countActive x j fun n => (slotValue l j.nov (laggRow x j n) (n % 128)).ovf)
    (countActive x j fun n => (slotValue l j.nov (laggRow x j n) (n % 128)).nanIn)).flag vsPoison
      (anyActive x j fun n => slotBad l (laggRow x j n) (n % 128))

theorem veLld_taken {s : State} {p : Nat} (taken : (s.core p).ve.slotTaken = true)
    (narrow : fmtOf (headSlot s p).fmt ≠ .acc35) (j : VI) :
    veLld s p j = .ok (setVe s p ((s.core p).ve.lagged j (headSlot s p))) := by
  have goes : (!(s.core p).ve.slotTaken || fmtOf (headSlot s p).fmt == .acc35) = false := by simp [taken, narrow]
  refine (if_neg (Bool.eq_false_iff.mp goes)).trans ?_
  exact congrArg (fun y => VeEff.ok (setVe s p y)) (converted_congr (fun _ => rfl) fun _ => rfl)

theorem veLldw_taken {s : State} {p : Nat} (taken : (s.core p).ve.slotTaken = true)
    (wide : fmtOf (headSlot s p).fmt = .acc35) (j : VI) : ∃ on, veLldw s p j = .ok (setVe s p
      ((setWide (s.core p).ve j.d fun n => slotWide (headSlot s p) (laggRow (s.core p).ve j n) (n % 128)).flag vsPoison on)) := by
  have goes : (!(s.core p).ve.slotTaken || fmtOf (headSlot s p).fmt != .acc35) = false := by simp [taken, wide]
  exact ⟨_, if_neg (Bool.eq_false_iff.mp goes)⟩

/-- Settles O13: what each instruction makes of the head slot, with the lemma of its case above. -/
theorem laggInstructionsReadTheHeadSlot : Obligations.LaggInstructionsReadTheHeadSlot := by
  unfold Obligations.LaggInstructionsReadTheHeadSlot
  have lwait : Performs .lwait 11 0 veLwait := performs_of_step fun _ _ _ => rfl
  have lpeek : Performs .lpeek 11 1 veLpeek := performs_of_step fun _ _ _ => rfl
  refine ⟨?takes, ?waits, ?peeks, ?releases, ?loads, ?wide⟩
  case takes =>
    simp only [List.forall_mem_cons]
    exact ⟨lwait.takes fun _ _ j ready own => veLwait_ready ready own j,
      lpeek.takes fun _ _ j ready own => veLpeek_ready ready own j, List.forall_mem_nil _⟩
  case waits =>
    intro p w s word issue empty
    obtain ⟨k, waits⟩ := veApply_wait s p w
    exact ⟨k, lwait.answers issue (by rw [veLwait_empty empty, waits])⟩
  case peeks =>
    intro p w s word issue empty
    obtain ⟨k, done⟩ := lpeek.next (w := w) issue (veLpeek_empty empty _)
    rw [setVe_ve, withVe_of_setVe] at done
    refine ⟨_, k, done, veNext_past (same_setS ..), ?_, fun n other => ?_⟩
    · exact (sreg_setSN ..).trans (if_pos rfl)
    · exact (sreg_setSN ..).trans (if_neg other)
  case releases =>
    intro p w s word issue taken
    have lrel : Performs .lrel 11 4 veLrel := performs_of_step fun _ _ _ => rfl
    obtain ⟨k, done⟩ := lrel.next (w := w) issue (veLrel_taken taken _)
    refine ⟨_, done, ?_⟩
    simp only [withVe, released, core_setCore, setCore_setCore, past_pc, past_s, past_v, past_slotTaken, tabGet_tabSet_same,
      true_and]
    exact ⟨rfl, fun n other => core_setCore_ne _ _ _ _ other⟩
  case loads =>
    intro p w s word issue taken narrow
    have lld : Performs .lld 11 2 veLld := performs_of_step fun _ _ _ => rfl
    obtain ⟨k, done⟩ := lld.next (w := w) issue (veLld_taken taken narrow _)
    rw [setVe_ve, withVe_of_setVe] at done
    have same : VeSame (s.core p).ve ((s.core p).ve.lagged (decodeVI word) (headSlot s p)) :=
      (same_writeLanes ..).trans ((same_events ..).trans (same_flag ..))
    refine ⟨_, k, done, veNext_past same, fun l hl => ?_, fun n other => ?_, ?_⟩
    · simp [Ve.lagged, lane_writeLanes _ _ _ _ hl]
    · simp [Ve.lagged, writeLanes, other]
    · simp [Ve.lagged, writeLanes]
  case wide =>
    intro p w s word issue taken wide
    have lldw : Performs .lldw 11 3 veLldw := performs_of_step fun _ _ _ => rfl
    obtain ⟨on, effect⟩ := veLldw_taken taken wide (decodeVI word)
    obtain ⟨k, done⟩ := lldw.next (w := w) issue effect
    rw [setVe_ve, withVe_of_setVe] at done
    refine ⟨_, k, done, veNext_past ((same_setWide ..).trans (same_flag ..)), fun l hl => ?_, fun n other => ?_, ?_⟩
    · rw [past_wideAt, flag_wideAt, wideAt_setWide _ _ _ hl]
    · rw [past_vreg, flag_vreg, vreg_setWide_ne _ _ other]
    · simp [setWide]

end Sys2Proof.Machine

namespace Sys2Proof.Machine

/-! ### Runs of bytes stored in a core store (R136, R182) -/

/-- What a list of stores, in order, leaves at an address: the byte of the last one that covers it. -/
def runByte : List (Nat × List Byte) → Nat → Option Byte
  | [], _ => none
  | w :: ws, a => (runByte ws a).or (if w.1 ≤ a ∧ a < w.1 + w.2.length then some (w.2.getD (a - w.1) 0) else none)

/-- Two adjacent stores are one. -/
theorem runByte_append {b : Nat} {x y : List Byte} {ws : List (Nat × List Byte)} (a : Nat) :
    runByte ((b, x ++ y) :: ws) a = runByte ((b, x) :: (b + x.length, y) :: ws) a := by
  simp only [runByte, List.length_append, Option.or_assoc]
  congr 1
  by_cases low : a < b + x.length
  · have outside : ¬ (b + x.length ≤ a ∧ a < b + x.length + y.length) := by omega
    have same : (b ≤ a ∧ a < b + (x.length + y.length)) ↔ b ≤ a ∧ a < b + x.length := by omega
    rw [if_neg outside, Option.none_or]
    simp only [same]
    split
    · rw [List.getD_append _ _ _ _ (by omega)]
    · rfl
  · have outside : ¬ (b ≤ a ∧ a < b + x.length) := by omega
    have same : (b ≤ a ∧ a < b + (x.length + y.length)) ↔ b + x.length ≤ a ∧ a < b + x.length + y.length := by omega
    rw [if_neg outside, Option.or_none]
    simp only [same]
    split
    · rw [List.getD_append_right _ _ _ _ (by omega), Nat.sub_sub]
    · rfl

theorem runByte_joinRuns (ws : List (Nat × List Byte)) (a : Nat) : runByte (joinRuns ws) a = runByte ws a := by
  induction ws with
  | nil => rfl
  | cons w ws ih =>
    obtain ⟨b, x⟩ := w
    rw [runByte, ← ih, joinRuns]
    cases joinRuns ws with
    | nil => rfl
    | cons v u =>
      obtain ⟨c, y⟩ := v
      dsimp only
      split
      next adjacent =>
        subst adjacent
        exact runByte_append a
      next => rfl

theorem fst_mem_of_joinRuns {ws : List (Nat × List Byte)} {w : Nat × List Byte} (h : w ∈ joinRuns ws) :
    ∃ v ∈ ws, v.1 = w.1 := by
  induction ws generalizing w with
  | nil => cases h
  | cons v ws ih =>
    obtain ⟨b, x⟩ := v
    have tail {u : Nat × List Byte} (hu : u ∈ joinRuns ws) : ∃ v ∈ (b, x) :: ws, v.1 = u.1 := by
      obtain ⟨v, hv, same⟩ := ih hu
      exact ⟨v, List.mem_cons_of_mem _ hv, same⟩
    rw [joinRuns] at h
    cases joined : joinRuns ws with
    | nil =>
      rw [joined, List.mem_singleton] at h
      exact ⟨_, List.mem_cons_self, congrArg Prod.fst h.symm⟩
    | cons c u =>
      rw [joined] at h tail
      dsimp only at h
      split at h
      all_goals
        rcases List.mem_cons.mp h with rfl | later
        · exact ⟨_, List.mem_cons_self, rfl⟩
      · exact tail (List.mem_cons_of_mem _ later)
      · exact tail later

/-- The last of a list's stores that covers an address. -/
theorem runByte_map {ls : List Nat} (at_ : Nat → Nat) (bs : Nat → List Byte) (a : Nat) :
    runByte (ls.map fun l => (at_ l, bs l)) a
      = ((ls.filter fun l => decide (at_ l ≤ a) && decide (a < at_ l + (bs l).length)).getLast?).map
        fun l => (bs l).getD (a - at_ l) 0 := by
  induction ls with
  | nil => rfl
  | cons l ls ih =>
    rw [List.map_cons, runByte, ih, List.filter_cons]
    by_cases hit : at_ l ≤ a ∧ a < at_ l + (bs l).length
    · simp only [hit, decide_true, Bool.and_self, if_true, and_self, List.getLast?_cons]
      cases (ls.filter fun l => decide (at_ l ≤ a) && decide (a < at_ l + (bs l).length)).getLast? <;> rfl
    · have miss : (decide (at_ l ≤ a) && decide (a < at_ l + (bs l).length)) = false := by simpa using hit
      rw [if_neg hit, Option.or_none, miss]
      rfl

theorem core_congr {s t : State} (h : s.cores = t.cores) (n : Nat) : s.core n = t.core n := by rw [State.core, h, State.core]

theorem cores_latent (t : State) (us : List Nat) : State.cores { t with latent := us } = t.cores := rfl

theorem queues_storeBytes (s : State) (a : Nat) (bs : List Byte) (bad : Bool) :
    (storeBytes s a bs bad).queues = s.queues := by
  unfold storeBytes
  dsimp only
  split <;> rfl

theorem queues_writeMem_csAddr (s : State) (p o : Nat) (bs : List Byte) (bad : Bool) :
    (writeMem s (csAddr p o) bs bad).queues = s.queues := by
  simp only [writeMem, inHbm_csAddr, Bool.false_eq_true, if_false, apply_ite State.queues, setCore_queues, queues_storeBytes,
    ite_self]

/-- A store in core `p`'s window changes `p` alone, by an injected error that it uses up. -/
theorem core_writeMem_csAddr_ne (s : State) {p o n : Nat} (ho : o < 8388608) (other : n ≠ p) (bs : List Byte) (bad : Bool) :
    (writeMem s (csAddr p o) bs bad).core n = s.core n := by
  have kept : (storeBytes s (csAddr p o) bs bad).core n = s.core n := core_congr (cores_storeBytes ..) n
  simp only [writeMem, inHbm_csAddr, csCore_csAddr ho, Bool.false_eq_true, if_false]
  split
  · rfl
  · split
    · split
      · exact (core_congr (cores_latent ..) n).trans ((core_setCore_ne _ _ _ _ other).trans kept)
      · exact kept
    · exact kept

/-- What stores to core `p`'s store leave alone: the other cores, `p`'s vector engine, and the queues. -/
structure StoreFrame (s u : State) (p : Nat) : Prop where
  ve : (u.core p).ve = (s.core p).ve
  others : ∀ n, n ≠ p → u.core n = s.core n
  queues : u.queues = s.queues

theorem StoreFrame.rfl {s : State} {p : Nat} : StoreFrame s s p := ⟨Eq.refl _, fun _ _ => Eq.refl _, Eq.refl _⟩

theorem StoreFrame.trans {s t u : State} {p : Nat} (h : StoreFrame s t p) (k : StoreFrame t u p) : StoreFrame s u p :=
  ⟨k.ve.trans h.ve, fun n other => (k.others n other).trans (h.others n other), k.queues.trans h.queues⟩

theorem storeFrame_writeMem (s : State) {p o : Nat} (ho : o < 8388608) (bs : List Byte) (bad : Bool) :
    StoreFrame s (writeMem s (csAddr p o) bs bad) p :=
  ⟨ve_writeMem_csAddr .., fun _ other => core_writeMem_csAddr_ne s ho other bs bad, queues_writeMem_csAddr ..⟩

/-- What every store to a core's window keeps, a list of them keeps. -/
theorem writeRuns_induction {P : State → Prop} {Q : Nat → Prop} {s : State} {p : Nat} {ws : List (Nat × List Byte)}
    (inside : ∀ w ∈ ws, ∃ o, Q o ∧ w.1 = csAddr p o) (start : P s)
    (step : ∀ t o bs, Q o → P t → P (writeMem t (csAddr p o) bs false)) : P (writeRuns s ws) := by
  have joined : ∀ w ∈ joinRuns ws, ∃ o, Q o ∧ w.1 = csAddr p o := fun w hw => by
    obtain ⟨v, hv, same⟩ := fst_mem_of_joinRuns hw
    rw [← same]
    exact inside v hv
  rw [writeRuns]
  generalize joinRuns ws = runs at joined
  induction runs generalizing s with
  | nil => exact start
  | cons w runs ih =>
    obtain ⟨o, ho, first⟩ := joined w List.mem_cons_self
    refine ih ?_ fun v hv => joined v (List.mem_cons_of_mem _ hv)
    show P (writeMem s w.1 w.2 false)
    rw [first]
    exact step s o w.2 ho start

theorem storeFrame_writeRuns (s : State) {p : Nat} {ws : List (Nat × List Byte)}
    (inside : ∀ w ∈ ws, ∃ o, o < 8388608 ∧ w.1 = csAddr p o) : StoreFrame s (writeRuns s ws) p :=
  writeRuns_induction (P := fun t => StoreFrame s t p) (Q := fun o => o < 8388608) inside StoreFrame.rfl
    fun t _ bs ho kept => kept.trans (storeFrame_writeMem t ho bs false)

theorem ve_writeRuns (s : State) {p : Nat} {ws : List (Nat × List Byte)} (inside : ∀ w ∈ ws, ∃ o, w.1 = csAddr p o)
    (n : Nat) : ((writeRuns s ws).core n).ve = (s.core n).ve :=
  writeRuns_induction (P := fun t => (t.core n).ve = (s.core n).ve) (Q := fun _ => True)
    (fun w hw => (inside w hw).imp fun _ first => ⟨trivial, first⟩) rfl
    fun t o bs _ kept => (ve_writeMem_csAddr t p o bs false n).trans kept

/-- After a list of stores to a core's window an address holds the byte of the last that covers it. -/
theorem readByte_writeRuns (s : State) {p : Nat} {ws : List (Nat × List Byte)} (inside : ∀ w ∈ ws, ∃ o, w.1 = csAddr p o)
    (a : Nat) : readByte (writeRuns s ws) a = (runByte ws a).getD (readByte s a) := by
  have joined : ∀ w ∈ joinRuns ws, ∃ o, w.1 = csAddr p o := fun w hw => by
    obtain ⟨v, hv, same⟩ := fst_mem_of_joinRuns hw
    rw [← same]
    exact inside v hv
  rw [← runByte_joinRuns ws, writeRuns]
  generalize joinRuns ws = runs at joined
  induction runs generalizing s with
  | nil => rfl
  | cons w runs ih =>
    obtain ⟨o, first⟩ := joined w List.mem_cons_self
    rw [List.foldl_cons, ih _ fun v hv => joined v (List.mem_cons_of_mem _ hv), runByte, first, readByte_writeMem_csAddr]
    cases runByte runs a with
    | some b => rw [Option.some_or, Option.getD_some, Option.getD_some]
    | none => rw [Option.none_or, Option.getD_none, apply_ite (Option.getD · (readByte s a)), Option.getD_some, Option.getD_none]

end Sys2Proof.Machine

namespace Sys2Proof.Machine

/-! ### Stores of registers and lanes (R122, R136) -/

theorem readByte_withVe (s : State) (p : Nat) (y : Ve) (k : Ctrs) (a : Nat) :
    readByte (withVe s p y k) a = readByte s a := rfl

/-- A store in the window of the engine's own core leaves memory as `t` has it, and no register changed. -/
theorem Performs.stored {op : Fin 256 → VeWaits → Instr} {cls fn : Nat} {body : VeBody} (does : Performs op cls fn body)
    {p : Fin 256} (w : VeWaits) {s t : State} {word : Nat} (issue : VeIssues s p cls fn word)
    (effect : body s p (decodeVI word) = .ok t) (frame : StoreFrame s t p) :
    ∃ u, Answers (op p w) s u ∧ VeNext (s.core p).ve (u.core p).ve ∧ (∀ a, readByte u a = readByte t a)
      ∧ (u.core p).ve.v = (s.core p).ve.v ∧ (u.core p).ve.s = (s.core p).ve.s
      ∧ (u.core p).ve.mask = (s.core p).ve.mask ∧ (u.core p).ve.stat = (s.core p).ve.stat
      ∧ (∀ n, n ≠ p.val → u.core n = s.core n) ∧ u.queues = s.queues := by
  obtain ⟨k, done⟩ := does.next (w := w) issue effect
  refine ⟨_, done, ?_, fun a => readByte_withVe .., ?_⟩
  · rw [withVe_ve, frame.ve]
    exact veNext_past .rfl
  · rw [withVe_ve, frame.ve]
    exact ⟨rfl, rfl, rfl, rfl, fun n other => (core_setCore_ne _ _ _ _ other).trans (frame.others n other), frame.queues⟩

theorem lt_window_of_csOk {o n al : Nat} (h : csOk o n al = true) : o < 8388608 := by
  have fits : o + n ≤ csSize := by simpa using (Bool.and_eq_true_iff.mp h).1
  have size : csSize = 6291456 := rfl
  omega

/-- A store of one register's bytes. -/
theorem Performs.stores {op : Fin 256 → VeWaits → Instr} {cls fn n al : Nat} {body : VeBody} {bytes : Ve → VI → List Byte}
    (does : Performs op cls fn body) (full : ∀ x j, (bytes x j).length = n)
    (effect : ∀ s p j, csOk (baseAddr (s.core p).ve j) n al = true →
      body s p j = .ok (writeMem s (csAddr p (baseAddr (s.core p).ve j)) (bytes (s.core p).ve j) false))
    (p : Fin 256) (w : VeWaits) (s : State) (word o : Nat) (issue : VeIssues s p cls fn word)
    (ho : o = baseAddr (s.core p).ve (decodeVI word)) (fits : csOk o n al = true) :
    ∃ u, Answers (op p w) s u ∧ VeNext (s.core p).ve (u.core p).ve
      ∧ (∀ a, readByte u a = if csAddr p o ≤ a ∧ a < csAddr p o + n then
          (bytes (s.core p).ve (decodeVI word)).getD (a - csAddr p o) 0 else readByte s a)
      ∧ (u.core p).ve.v = (s.core p).ve.v ∧ (u.core p).ve.s = (s.core p).ve.s
      ∧ (u.core p).ve.mask = (s.core p).ve.mask ∧ (u.core p).ve.stat = (s.core p).ve.stat
      ∧ (∀ n, n ≠ p.val → u.core n = s.core n) ∧ u.queues = s.queues := by
  subst ho
  obtain ⟨u, done, next, reads, rest⟩ := does.stored w issue (effect s p _ fits)
    (storeFrame_writeMem s (lt_window_of_csOk fits) _ false)
  refine ⟨u, done, next, fun a => ?_, rest⟩
  rw [reads, readByte_writeMem_csAddr, full]

theorem veSst_fits {s : State} {p : Nat} {j : VI} (fits : csOk (baseAddr (s.core p).ve j) 8 8 = true) :
    veSst s p j = .ok (writeMem s (csAddr p (baseAddr (s.core p).ve j)) (toLE 8 ((s.core p).ve.sreg j.d).toNat) false) := by
  simp only [veSst, fits, Bool.not_true, Bool.false_eq_true, if_false]

theorem veMst_fits {s : State} {p : Nat} {j : VI} (fits : csOk (baseAddr (s.core p).ve j) 32 8 = true) :
    veMst s p j = .ok (writeMem s (csAddr p (baseAddr (s.core p).ve j)) (toLE 32 ((s.core p).ve.mreg j.d).toNat) false) := by
  simp only [veMst, fits, Bool.not_true, Bool.false_eq_true, if_false]

/-- The bytes of a spill block (R48). -/
def spillBytes (x : Ve) (j : VI) : List Byte := toLE 1280 (packElems 40 ((upTo 256).map (wideAt x j.d)))

theorem veSplSt_fits {s : State} {p : Nat} {j : VI} (fits : csOk (baseAddr (s.core p).ve j) 1280 64 = true) :
    veSplSt s p j = .ok (writeMem s (csAddr p (baseAddr (s.core p).ve j)) (spillBytes (s.core p).ve j) false) := by
  simp only [veSplSt, fits, Bool.not_true, Bool.false_eq_true, if_false, spillBytes]

/-- Of stores of one word each, the last that covers an address leaves its byte there. -/
theorem runByte_words (on : Nat → Bool) (at_ v : Nat → Nat) (n a : Nat) :
    runByte (((upTo n).filter on).map fun l => (at_ l, toLE 4 (v l))) a
      = (((upTo n).filter fun l => on l && decide (at_ l ≤ a) && decide (a < at_ l + 4)).getLast?).map
        fun l => (toLE 4 (v l)).getD (a - at_ l) 0 := by
  rw [runByte_map, List.filter_filter]
  refine congrArg (fun ls => (List.getLast? ls).map _) (List.filter_congr fun l _ => ?_)
  rw [length_toLE, Bool.and_comm, Bool.and_assoc]

theorem exists_fst_of_mem_map {α β : Type} {at_ : Nat → α} {v : Nat → β} {ls : List Nat} {w : α × β}
    (h : w ∈ ls.map fun l => (at_ l, v l)) : ∃ l ∈ ls, w.1 = at_ l := by
  obtain ⟨l, hl, rfl⟩ := List.mem_map.mp h
  exact ⟨l, hl, rfl⟩

theorem laneAt_eq (s : State) (p : Nat) (j : VI) (mode l : Nat) :
    laneAt s p j mode l = csAddr p (laneAddr (s.core p).ve j mode l) := by rw [laneAt]

/-- The stores of a lanewise store's active lanes. -/
def laneRuns (s : State) (p : Nat) (j : VI) (mode : Nat) : List (Nat × List Byte) :=
  ((upTo 256).filter (active (s.core p).ve j)).map fun l => (laneAt s p j mode l, toLE 4 (lane ((s.core p).ve.vreg j.d) l))

theorem veStore_fits {s : State} {p : Nat} {j : VI} {mode : Nat}
    (fits : ∀ l, l < 256 → active (s.core p).ve j l = true → csOk (laneAddr (s.core p).ve j mode l) 4 4 = true) :
    veStore mode s p j = .ok (writeRuns s (laneRuns s p j mode)) := by
  have inside : anyActive (s.core p).ve j (fun l => !csOk (laneAddr (s.core p).ve j mode l) 4 4) = false :=
    anyActive_eq_false.mpr fun l hl on => by rw [fits l hl on]; rfl
  simp only [veStore, inside, Bool.false_eq_true, if_false, laneRuns, laneAt]

/-- What a lanewise store leaves at an address: the byte of the last active lane that covers it. -/
theorem runByte_laneRuns (s : State) (p : Nat) (j : VI) (mode a : Nat) :
    runByte (laneRuns s p j mode) a = (storeLane s p j mode a).map fun l =>
        (toLE 4 (lane ((s.core p).ve.vreg j.d) l)).getD (a - laneAt s p j mode l) 0 :=
  runByte_words (active (s.core p).ve j) (laneAt s p j mode) (lane ((s.core p).ve.vreg j.d)) 256 a

/-- VST, VSTS and VSTX. -/
theorem Performs.storesLanes {op : Fin 256 → VeWaits → Instr} {fn mode : Nat} (does : Performs op 10 fn (veStore mode))
    (p : Fin 256) (w : VeWaits) (s : State) (word : Nat) (issue : VeIssues s p 10 fn word)
    (fits : ∀ l, l < 256 → active (s.core p).ve (decodeVI word) l = true →
      csOk (laneAddr (s.core p).ve (decodeVI word) mode l) 4 4 = true) :
    ∃ u, Answers (op p w) s u ∧ VeNext (s.core p).ve (u.core p).ve
      ∧ (∀ a, readByte u a = match storeLane s p (decodeVI word) mode a with
          | some l => (toLE 4 (lane ((s.core p).ve.vreg (decodeVI word).d) l)).getD (a - laneAt s p (decodeVI word) mode l) 0
          | none => readByte s a)
      ∧ (u.core p).ve.v = (s.core p).ve.v ∧ (u.core p).ve.s = (s.core p).ve.s
      ∧ (u.core p).ve.mask = (s.core p).ve.mask ∧ (u.core p).ve.stat = (s.core p).ve.stat
      ∧ (∀ n, n ≠ p.val → u.core n = s.core n) ∧ u.queues = s.queues := by
  have inside : ∀ v ∈ laneRuns s p (decodeVI word) mode, ∃ o, o < 8388608 ∧ v.1 = csAddr p o := fun v hv => by
    obtain ⟨l, hl, first⟩ := exists_fst_of_mem_map hv
    obtain ⟨below, on⟩ := List.mem_filter.mp hl
    exact ⟨_, lt_window_of_csOk (fits l (List.mem_range.mp below) on), first.trans (laneAt_eq ..)⟩
  obtain ⟨u, done, next, reads, rest⟩ := does.stored w issue (veStore_fits fits) (storeFrame_writeRuns s inside)
  refine ⟨u, done, next, fun a => ?_, rest⟩
  rw [reads, readByte_writeRuns s fun v hv => (inside v hv).imp fun _ named => named.2, runByte_laneRuns]
  cases storeLane s p (decodeVI word) mode a with
  | none => rw [Option.map_none, Option.getD_none]
  | some l => rw [Option.map_some, Option.getD_some]

/-- Settles O9: a store writes one run (`Performs.stores`) or the runs of its active lanes (`Performs.storesLanes`). -/
theorem storesWriteTheirBytes : Obligations.StoresWriteTheirBytes := by
  unfold Obligations.StoresWriteTheirBytes
  refine ⟨?registers, ?lanes⟩
  case registers =>
    have sst : Performs .sst 1 34 veSst := performs_of_step fun _ _ _ => rfl
    have mst : Performs .mst 5 25 veMst := performs_of_step fun _ _ _ => rfl
    have splSt : Performs .splSt 10 11 veSplSt := performs_of_step fun _ _ _ => rfl
    have word := sst.stores (bytes := fun x j => toLE 8 (x.sreg j.d).toNat) (fun _ _ => length_toLE ..) fun _ _ _ => veSst_fits
    have mask := mst.stores (bytes := fun x j => toLE 32 (x.mreg j.d).toNat) (fun _ _ => length_toLE ..) fun _ _ _ => veMst_fits
    have block := splSt.stores (bytes := spillBytes) (fun _ _ => length_toLE ..) fun _ _ _ => veSplSt_fits
    simp only [List.forall_mem_cons]
    exact ⟨word, mask, block, List.forall_mem_nil _⟩
  case lanes =>
    have vst : Performs .vst 10 1 (veStore 0) := performs_of_step fun _ _ _ => rfl
    have vsts : Performs .vsts 10 3 (veStore 1) := performs_of_step fun _ _ _ => rfl
    have vstx : Performs .vstx 10 5 (veStore 2) := performs_of_step fun _ _ _ => rfl
    simp only [List.forall_mem_cons]
    exact ⟨vst.storesLanes, vsts.storesLanes, vstx.storesLanes, List.forall_mem_nil _⟩

end Sys2Proof.Machine

namespace Sys2Proof.Machine

/-! ### Bytes of narrow codes (R50, R135) -/

/-- Whether byte `k` of an array of `w`-bit elements holds a bit of a new code. -/
def narrowTouched (w n : Nat) (code : Nat → Option Nat) (k : Nat) : Bool :=
  (upTo n).any fun e =>
    (code e).isSome && decide ((elemSpan w e).1 ≤ k) && decide (k < (elemSpan w e).1 + (elemSpan w e).2)

/-- Bit `j` of byte `k` after a narrow store: its element's new code, or what memory held. -/
def narrowBit (s : State) (p o w n : Nat) (code : Nat → Option Nat) (k j : Nat) : Bool :=
  match (if (8 * k + j) / w < n then code ((8 * k + j) / w) else none) with
  | some c => c.testBit ((8 * k + j) % w)
  | none => (readByte s (csAddr p (convAddr o k))).getLsbD j

/-- Byte `k` of a narrow store. -/
def narrowByte (s : State) (p o w n : Nat) (code : Nat → Option Nat) (k : Nat) : Byte :=
  BitVec.ofNat 8 (packElems 1 ((upTo 8).map fun j => b2n (narrowBit s p o w n code k j)))

theorem narrowRuns_eq (s : State) (p o w n : Nat) (code : Nat → Option Nat) :
    narrowRuns s p o w n code = ((upTo ((w * n + 7) / 8)).filter (narrowTouched w n code)).map fun k =>
      (csAddr p (convAddr o k), [narrowByte s p o w n code k]) := by
  unfold narrowRuns narrowByte narrowBit
  refine congrArg (fun f => List.map f _) (funext fun k => ?_)
  refine congrArg (fun f => (csAddr p (convAddr o k), [BitVec.ofNat 8 (packElems 1 (List.map f (upTo 8)))])) (funext fun j => ?_)
  dsimp only
  cases (if (8 * k + j) / w < n then code ((8 * k + j) / w) else none) <;> rfl

theorem getLsbD_packBits (f : Nat → Bool) {n j : Nat} (h : j < n) :
    (BitVec.ofNat n (packElems 1 ((upTo n).map fun i => b2n (f i)))).getLsbD j = f j := by
  have bit := packElems_get 1 ((upTo n).map fun i => b2n (f i)) j
  rw [getD_upTo_map _ 0 n j h, Nat.one_mul, Nat.pow_one] at bit
  rw [BitVec.getLsbD_ofNat, Nat.testBit_eq_decide_div_mod_eq, bit]
  cases f j <;> simp [b2n, h]

theorem narrowByte_getLsbD (s : State) (p o w n : Nat) (code : Nat → Option Nat) (k : Nat) {j : Nat} (h : j < 8) :
    (narrowByte s p o w n code k).getLsbD j = narrowBit s p o w n code k j := getLsbD_packBits _ h

theorem narrowTouched_congr {w n : Nat} {f g : Nat → Option Nat} (same : ∀ e, e < n → f e = g e) :
    narrowTouched w n f = narrowTouched w n g := by
  funext k
  rw [narrowTouched, narrowTouched, Bool.eq_iff_iff, List.any_eq_true, List.any_eq_true]
  refine exists_congr fun e => and_congr_right fun he => ?_
  rw [same e (List.mem_range.mp he)]

theorem narrowBit_congr {n : Nat} {f g : Nat → Option Nat} (same : ∀ e, e < n → f e = g e) (s : State) (p o w k j : Nat) :
    narrowBit s p o w n f k j = narrowBit s p o w n g k j := by
  have new : (if (8 * k + j) / w < n then f ((8 * k + j) / w) else none)
      = if (8 * k + j) / w < n then g ((8 * k + j) / w) else none := ite_congr rfl (same _) fun _ => rfl
  rw [narrowBit, new, narrowBit]

/-- A narrow store takes only the codes of its elements. -/
theorem narrowRuns_congr {n : Nat} {f g : Nat → Option Nat} (same : ∀ e, e < n → f e = g e) (s : State) (p o w : Nat) :
    narrowRuns s p o w n f = narrowRuns s p o w n g := by
  simp only [narrowRuns_eq, narrowTouched_congr same, narrowByte, narrowBit_congr same]

/-- A byte that holds no bit of a new code keeps every bit. -/
theorem narrowBit_of_untouched {w n k j : Nat} {code : Nat → Option Nat} (hw : 0 < w) (hj : j < 8)
    (untouched : narrowTouched w n code k = false) (s : State) (p o : Nat) :
    narrowBit s p o w n code k j = (readByte s (csAddr p (convAddr o k))).getLsbD j := by
  have start : w * ((8 * k + j) / w) + (8 * k + j) % w = 8 * k + j := Nat.div_add_mod ..
  have short : (8 * k + j) % w < w := Nat.mod_lt _ hw
  have none_new : (if (8 * k + j) / w < n then code ((8 * k + j) / w) else none) = none := by
    split
    next below =>
      by_contra new
      refine Bool.eq_false_iff.mp untouched (List.any_eq_true.mpr ⟨_, List.mem_range.mpr below, ?_⟩)
      rw [Option.isSome_iff_ne_none.mpr new, Bool.true_and, Bool.and_eq_true_iff, decide_eq_true_iff, decide_eq_true_iff]
      simp only [elemSpan]
      generalize w * ((8 * k + j) / w) = first at start
      omega
    next => rfl
  rw [narrowBit, none_new]

/-- An array's elements lie in its bytes. -/
theorem narrowBit_beyond {w n k j : Nat} (hw : 0 < w) (beyond : (w * n + 7) / 8 ≤ k) (s : State) (p o : Nat)
    (code : Nat → Option Nat) :
    narrowBit s p o w n code k j = (readByte s (csAddr p (convAddr o k))).getLsbD j := by
  have past : ¬ (8 * k + j) / w < n := by
    rw [Nat.not_lt, Nat.le_div_iff_mul_le hw, Nat.mul_comm]
    omega
  rw [narrowBit, if_neg past]

theorem convAddr_eq (o k : Nat) : convAddr o k = (o + k) % 2 ^ 64 := by
  rw [convAddr, toBits, ← Int.natCast_mod, Int.toNat_natCast]

theorem getLast?_filter_upTo_succ (f : Nat → Bool) (n : Nat) :
    ((upTo (n + 1)).filter f).getLast? = if f n then some n else ((upTo n).filter f).getLast? := by
  rw [upTo, List.range_succ, List.filter_append, List.filter_singleton]
  cases f n <;> simp [upTo]

theorem getLast?_filter_upTo_unique {f : Nat → Bool} {n k : Nat} (unique : ∀ i, i < n → f i = true → i = k) :
    ((upTo n).filter f).getLast? = if k < n ∧ f k = true then some k else none := by
  induction n with
  | zero => rfl
  | succ n ih =>
    rw [getLast?_filter_upTo_succ, ih fun i hi => unique i (by omega)]
    by_cases here : f n = true
    · obtain rfl := unique n (by omega) here
      simp [here]
    · rw [if_neg here]
      refine if_congr (and_congr_left fun on => ?_) rfl rfl
      have other : k ≠ n := fun same => here (same ▸ on)
      omega

/-- Of the bytes of a narrow store that share an address (only where the sum of 64 bits wraps) the last remains. -/
theorem runByte_narrowRuns (s : State) (p o w n : Nat) (code : Nat → Option Nat) (a : Nat) :
    runByte (narrowRuns s p o w n code) a = (((upTo ((w * n + 7) / 8)).filter fun k =>
      narrowTouched w n code k && decide (csAddr p (convAddr o k) = a)).getLast?).map (narrowByte s p o w n code) := by
  have hit (k : Nat) : (decide (csAddr p (convAddr o k) ≤ a)
      && decide (a < csAddr p (convAddr o k) + [narrowByte s p o w n code k].length)) = decide (csAddr p (convAddr o k) = a) := by
    rw [← Bool.decide_and]
    exact decide_eq_decide.mpr (by rw [List.length_singleton]; omega)
  rw [narrowRuns_eq, runByte_map, List.filter_filter]
  simp only [hit, Bool.and_comm (decide _)]
  refine Option.map_congr fun k hk => ?_
  have here : csAddr p (convAddr o k) = a := by
    have kept := (List.mem_filter.mp (List.mem_of_getLast? hk)).2
    exact of_decide_eq_true (Bool.and_eq_true_iff.mp kept).2
  rw [here, Nat.sub_self]
  rfl

theorem inside_narrowRuns {s : State} {p o w n : Nat} {code : Nat → Option Nat} :
    ∀ v ∈ narrowRuns s p o w n code, ∃ a, v.1 = csAddr p a := fun v hv => by
  rw [narrowRuns_eq] at hv
  obtain ⟨k, -, first⟩ := exists_fst_of_mem_map hv
  exact ⟨_, first⟩

/-- Every bit after a narrow store of at most 2⁶⁴ bytes. -/
theorem readByte_narrowRuns {s t : State} {p o w n : Nat} {code : Nat → Option Nat} (hw : 0 < w)
    (few : (w * n + 7) / 8 ≤ 2 ^ 64) (mem : ∀ a, readByte t a = readByte s a) {k j : Nat}
    (hk : k < 2 ^ 64) (hj : j < 8) :
    (readByte (writeRuns t (narrowRuns s p o w n code)) (csAddr p (convAddr o k))).getLsbD j
      = narrowBit s p o w n code k j := by
  rw [readByte_writeRuns t inside_narrowRuns, runByte_narrowRuns, mem, getLast?_filter_upTo_unique (k := k)]
  · by_cases new : k < (w * n + 7) / 8 ∧ narrowTouched w n code k = true
    · rw [if_pos ⟨new.1, by rw [new.2, decide_eq_true rfl]; rfl⟩, Option.map_some, Option.getD_some,
        narrowByte_getLsbD _ _ _ _ _ _ _ hj]
    · rw [if_neg fun h => new ⟨h.1, (Bool.and_eq_true_iff.mp h.2).1⟩, Option.map_none, Option.getD_none]
      rcases not_and_or.mp new with beyond | untouched
      · rw [narrowBit_beyond hw (Nat.not_lt.mp beyond)]
      · rw [narrowBit_of_untouched hw hj (Bool.eq_false_iff.mpr untouched)]
  · intro i hi on
    have same : csAddr p (convAddr o i) = csAddr p (convAddr o k) := of_decide_eq_true (Bool.and_eq_true_iff.mp on).2
    rw [csAddr, csAddr, convAddr_eq, convAddr_eq] at same
    omega

/-- An address that no byte of a narrow store has keeps its byte. -/
theorem readByte_narrowRuns_ne {s t : State} {p o w n : Nat} {code : Nat → Option Nat} {a : Nat}
    (other : ∀ k, k < (w * n + 7) / 8 → a ≠ csAddr p (convAddr o k)) :
    readByte (writeRuns t (narrowRuns s p o w n code)) a = readByte t a := by
  have missed : ((upTo ((w * n + 7) / 8)).filter fun k =>
      narrowTouched w n code k && decide (csAddr p (convAddr o k) = a)) = [] :=
    List.filter_eq_nil_iff.mpr fun k hk on => other k (List.mem_range.mp hk)
      (of_decide_eq_true (Bool.and_eq_true_iff.mp on).2).symm
  rw [readByte_writeRuns t inside_narrowRuns, runByte_narrowRuns, missed]
  rfl

end Sys2Proof.Machine

namespace Sys2Proof.Machine

/-! ### Converting stores to a scalar format (R50, R135, R136) -/

theorem styBits_pos (t : Sty) : 0 < styBits t := by cases t <;> decide

theorem le_padCount (w n : Nat) : n ≤ padCount w n := by
  unfold padCount ceilTo
  split <;> omega

/-- What a converting store to a scalar format stores. -/
def codeRuns (src : Sty) (s : State) (p : Nat) (j : VI) : List (Nat × List Byte) :=
  narrowRuns s p (baseAddr (s.core p).ve j) (styBits (codeFmt j)) (codeCount s p j) (storedCode src s p j)

/-- The vector engine with the conversion events of a converting store counted. -/
def codeEvents (src : Sty) (s : State) (p : Nat) (j : VI) : Ve :=
  (s.core p).ve.events (countActive (s.core p).ve j fun l => (storeEnc src s p j l).ovf)
    (countActive (s.core p).ve j fun l => (storeEnc src s p j l).nanIn)

/-- The state that a converting store leaves to the instruction's end. -/
def codesStored (src : Sty) (s : State) (p : Nat) (j : VI) : State :=
  writeRuns (setVe s p (codeEvents src s p j)) (codeRuns src s p j)

theorem storedCode_beyond {src : Sty} {s : State} {p : Nat} {j : VI} {e : Nat} (beyond : ¬ e < codeCount s p j) :
    storedCode src s p j e = none := by
  have more : (s.core p).ve.vl ≤ codeCount s p j := le_padCount ..
  rw [storedCode, if_neg (by omega), if_neg fun h => beyond h.1]

theorem storeScalar_fits {src : Sty} {s : State} {p : Nat} {j : VI}
    (fits : ∀ l, l < 256 → active (s.core p).ve j l = true → storeFits s p j l = true)
    (padding : codeCount s p j = (s.core p).ve.vl
      ∨ convAddr (baseAddr (s.core p).ve j) (codeBytes s p j - 1) < csSize) :
    storeScalar src s p j = .ok (codesStored src s p j) := by
  have inside : anyActive (s.core p).ve j (fun l => !storeFits s p j l) = false :=
    anyActive_eq_false.mpr fun l hl on => by rw [fits l hl on]; rfl
  have padded : (decide (csSize ≤ convAddr (baseAddr (s.core p).ve j) (codeBytes s p j - 1))
      && decide (codeCount s p j ≠ (s.core p).ve.vl)) = false := by
    rcases padding with same | below
    · rw [same, decide_eq_false (not_not_intro rfl), Bool.and_false]
    · rw [decide_eq_false (Nat.not_le.mpr below), Bool.false_and]
  have codes (e : Nat) (he : e < codeCount s p j) : storedCode src s p j e
      = if e < (s.core p).ve.vl then (if active (s.core p).ve j e then some (storeEnc src s p j e).bits else none)
        else if anyActive (s.core p).ve j fun _ => true then some 0 else none := by
    simp only [storedCode, he, true_and]
  unfold storeScalar
  refine (if_neg (Bool.eq_false_iff.mp inside)).trans ((if_neg ?_).trans ?_)
  · rw [Bool.and_assoc]
    exact Bool.eq_false_iff.mp ((congrArg (_ && ·) padded).trans (Bool.and_false _))
  · rw [codesStored, codeRuns, narrowRuns_congr codes]
    rfl

theorem inside_codeRuns {src : Sty} {s : State} {p : Nat} {j : VI} : ∀ v ∈ codeRuns src s p j, ∃ a, v.1 = csAddr p a :=
  inside_narrowRuns

theorem ve_codesStored (src : Sty) (s : State) (p : Nat) (j : VI) :
    ((codesStored src s p j).core p).ve = codeEvents src s p j :=
  (ve_writeRuns _ inside_codeRuns p).trans (setVe_ve ..)

theorem storedCode_or_none (src : Sty) (s : State) (p : Nat) (j : VI) (e : Nat) :
    (if e < codeCount s p j then storedCode src s p j e else none) = storedCode src s p j e := by
  split
  next => rfl
  next beyond => rw [storedCode_beyond beyond]

/-- What VSTC.F and VSTC.I to a scalar format store where no two bytes of the array share an address: every VL from 1 to
256 is so small. -/
theorem Performs.storesCodes {op : Fin 256 → VeWaits → Instr} {fn : Nat} {src : Sty} {body : VeBody}
    (does : Performs op 10 fn body)
    (effect : ∀ s p j, fmtMx (fmtOf j.fmt) = false → body s p j = storeScalar src s p j)
    (p : Fin 256) (w : VeWaits) (s : State) (word : Nat) (issue : VeIssues s p 10 fn word)
    (scalar : fmtMx (fmtOf (decodeVI word).fmt) = false)
    (fits : ∀ l, l < 256 → active (s.core p).ve (decodeVI word) l = true → storeFits s p (decodeVI word) l = true)
    (padding : codeCount s p (decodeVI word) = (s.core p).ve.vl
      ∨ convAddr (baseAddr (s.core p).ve (decodeVI word)) (codeBytes s p (decodeVI word) - 1) < csSize)
    (few : codeBytes s p (decodeVI word) ≤ 2 ^ 64) :
    ∃ u, Answers (op p w) s u ∧ VeNext (s.core p).ve (u.core p).ve
      ∧ (∀ b, b < 8 * csSize →
          (readByte u (codeAt s p (decodeVI word) (b / 8))).getLsbD (b % 8)
            = match storedCode src s p (decodeVI word) (b / styBits (codeFmt (decodeVI word))) with
              | some c => c.testBit (b % styBits (codeFmt (decodeVI word)))
              | none => (readByte s (codeAt s p (decodeVI word) (b / 8))).getLsbD (b % 8))
      ∧ (∀ a, (∀ k, k < codeBytes s p (decodeVI word) → a ≠ codeAt s p (decodeVI word) k) → readByte u a = readByte s a)
      ∧ (u.core p).ve.v = (s.core p).ve.v ∧ (u.core p).ve.s = (s.core p).ve.s
      ∧ (u.core p).ve.mask = (s.core p).ve.mask
      ∧ (u.core p).ve.stat = (s.core p).ve.stat ||| evBits
          (countActive (s.core p).ve (decodeVI word) (fun l => (storeEnc src s p (decodeVI word) l).ovf))
          (countActive (s.core p).ve (decodeVI word) (fun l => (storeEnc src s p (decodeVI word) l).nanIn)) := by
  obtain ⟨k, done⟩ := does.next (w := w) issue ((effect s p _ scalar).trans (storeScalar_fits fits padding))
  refine ⟨_, done, ?next, fun b hb => ?code, fun a other => ?kept, ?registers⟩
  case next =>
    rw [withVe_ve, ve_codesStored]
    exact veNext_past (same_events ..)
  case code =>
    have small : b / 8 < 2 ^ 64 := by
      have size : csSize = 6291456 := rfl
      omega
    refine (readByte_narrowRuns (styBits_pos _) few (fun _ => rfl) small (Nat.mod_lt _ (by decide))).trans ?_
    rw [narrowBit, Nat.div_add_mod, storedCode_or_none]
    rfl
  case kept => exact readByte_narrowRuns_ne other
  case registers =>
    rw [withVe_ve, ve_codesStored]
    simp only [codeEvents, past_v, past_s, past_mask, past_stat, events_v, events_s, events_mask, events_stat, and_self]

end Sys2Proof.Machine

namespace Sys2Proof.Machine

/-! ### A store of more elements than addresses -/

theorem uptime_agt_storeBytes (s : State) (a : Nat) (bs : List Byte) (bad : Bool) :
    (storeBytes s a bs bad).uptime = s.uptime ∧ (storeBytes s a bs bad).agt = s.agt := by
  unfold storeBytes
  dsimp only
  split <;> exact ⟨rfl, rfl⟩

/-- The SRAM errors that a core counts (R479) and the cores that are on. -/
structure SramSame (s u : State) : Prop where
  errors : ∀ n, (u.core n).ras.uncorr = (s.core n).ras.uncorr
  uptime : u.uptime = s.uptime
  agt : u.agt = s.agt

theorem SramSame.rfl {s : State} : SramSame s s := ⟨fun _ => Eq.refl _, Eq.refl _, Eq.refl _⟩

theorem SramSame.quiet {s u : State} (h : SramSame s u) (quiet : SramQuiet s) : SramQuiet u := fun n => by
  rw [sramBad, h.errors, h.uptime]
  exact quiet n

theorem sramSame_storeBytes (s : State) (a : Nat) (bs : List Byte) (bad : Bool) : SramSame s (storeBytes s a bs bad) :=
  ⟨fun n => congrArg (fun c : Core => c.ras.uncorr) (core_congr (cores_storeBytes ..) n), (uptime_agt_storeBytes ..).1,
    (uptime_agt_storeBytes ..).2⟩

theorem SramSame.setCore {s u : State} {p : Nat} {x : Core} (h : SramSame s u)
    (same : x.ras.uncorr = (u.core p).ras.uncorr) : SramSame s (u.setCore p x) where
  errors n := by
    rw [← h.errors n]
    by_cases own : n = p
    · rw [own, core_setCore, same]
    · rw [core_setCore_ne _ _ _ _ own]
  uptime := h.uptime
  agt := h.agt

theorem SramSame.writeMem {s t : State} (h : SramSame s t) (p o : Nat) (bs : List Byte) (bad : Bool) :
    SramSame s (writeMem t (csAddr p o) bs bad) := by
  have stored : SramSame s (storeBytes t (csAddr p o) bs bad) := by
    obtain ⟨errors, uptime, agt⟩ := sramSame_storeBytes t (csAddr p o) bs bad
    exact ⟨fun n => (errors n).trans (h.errors n), uptime.trans h.uptime, agt.trans h.agt⟩
  simp only [Machine.writeMem, inHbm_csAddr, Bool.false_eq_true, if_false]
  split
  · exact h
  · split
    · split
      · obtain ⟨errors, uptime, agt⟩ := stored.setCore (p := csCore (csAddr p o))
          (x := { (storeBytes t (csAddr p o) bs bad).core (csCore (csAddr p o)) with
            ras := { ((storeBytes t (csAddr p o) bs bad).core (csCore (csAddr p o))).ras with injCs := false } }) (by rfl)
        exact ⟨errors, uptime, agt⟩
      · exact stored
    · exact stored

/-- A run of steps that each do nothing or turn a core off does nothing where every core is on at its end. -/
theorem foldl_of_on {α : Type} {g : State → α → State} (only : ∀ t e, OnlyFences t (g t e))
    (acts : ∀ t e, g t e = t ∨ ∃ p, p < 256 ∧ coreOn (g t e) p = false) {l : List α} {t : State}
    (on : ∀ p, p < 256 → coreOn (l.foldl g t) p = true) : l.foldl g t = t := by
  induction l generalizing t with
  | nil => rfl
  | cons e l ih =>
    rcases acts t e with same | ⟨p, hp, off⟩
    · rw [List.foldl_cons, same] at on ⊢
      exact ih on
    · have stays := (OnlyFences.foldl only l (g t e)).off p off
      exact absurd (stays.symm.trans (on p hp)) Bool.false_ne_true

theorem fenceCore_acts (t : State) (p cause st : Nat) :
    fenceCore t p cause st = t ∨ ∃ n, n < 256 ∧ coreOn (fenceCore t p cause st) n = false := by
  cases hp : coreOn t p with
  | false => exact .inl (by rw [fenceCore, hp, Bool.not_false, if_pos rfl])
  | true => exact .inr ⟨p, BitVec.lt_of_getLsbD hp, by rw [coreOn_fenceCore, bne_self_eq_false, Bool.and_false]⟩

theorem sramSame_codesStored (src : Sty) (s : State) (p : Nat) (j : VI) (y : Ve) (k : Ctrs) :
    SramSame s (withVe (codesStored src s p j) p y k) := by
  have start : SramSame s (setVe s p (codeEvents src s p j)) := SramSame.rfl.setCore (by rfl)
  have stored : SramSame s (codesStored src s p j) :=
    writeRuns_induction (P := SramSame s) (Q := fun _ => True)
      (fun v hv => (inside_codeRuns v hv).imp fun _ first => ⟨trivial, first⟩) start
      fun t o bs _ kept => kept.writeMem p o bs false
  exact stored.setCore (by rfl)

/-- An SRAM detector's fence turns its core off, so where every core is on none was fenced. -/
theorem sramSweep_of_on {u : State} (on : ∀ p, p < 256 → coreOn (sramSweep u) p = true) : sramSweep u = u := by
  unfold sramSweep at on ⊢
  refine foldl_of_on (fun t c => ?_) (fun t c => ?_) on <;> split
  · exact fenceCore_onlyFences ..
  · exact .refl t
  · exact fenceCore_acts ..
  · exact .inl rfl

/-- Where no detector has fired and every core is on, a command that changes neither has one answer. -/
theorem Answers.unique {c : Instr} {s u v : State} (hu : Answers c s u) (hv : Answers c s v) (kept : SramSame s v)
    (quiet : SramQuiet s) (on : ∀ p, p < 256 → coreOn s p = true) : u = v := by
  have same : sramSweep u = v := Host.Outcome.next.inj (hu.1.symm.trans (hv.2 (kept.quiet quiet)))
  have still (p : Nat) (hp : p < 256) : coreOn (sramSweep u) p = true := by
    rw [same, coreOn, kept.agt]
    exact on p hp
  exact (sramSweep_of_on still).symm.trans same

/-- VSTC.I of V[1] as INT8 at core-store offset 0. -/
def storeWord : Nat := 10 * 2 ^ 60 + 9 * 2 ^ 54 + 1 * 2 ^ 44 + 12 * 2 ^ 25

/-- Core 0 runs a program at offset 4096 whose instruction is `storeWord`, with 1 in lane 0 of V[1] and VL 2⁶⁴ + 1. No run
from reset leads here: SETVL and SETVLI set a VL of at most 256. -/
def longVector : State :=
  { State.reset with
    pst := .active
    agt := { State.reset.agt with enabled := BitVec.allOnes 256 }
    mem := cellsSet [] (csAddr 0 4096) (toLE 8 storeWord)
    cores := [(0, { ve := { st := .running, pc := 4096, vl := 2 ^ 64 + 1, v := [(1, 1)], cmd := some ⟨0, 0⟩ } })] }

theorem longVector_issues : VeIssues longVector 0 10 9 storeWord where
  ready := by decide +kernel
  fetched := by decide +kernel
  legal := by decide +kernel
  cls := by decide +kernel
  fn := by decide +kernel
  sound := by decide +kernel

theorem longVector_on (p : Nat) (hp : p < 256) : coreOn longVector p = true :=
  (BitVec.getLsbD_allOnes ..).trans (decide_eq_true hp)

theorem longVector_quiet : SramQuiet longVector := fun p => by
  cases p with
  | zero => decide +kernel
  | succ p => rfl

theorem lane_beyond (r : BitVec 8192) {l : Nat} (beyond : 256 ≤ l) : lane r l = 0 := by
  have short : 8192 ≤ 32 * l := by omega
  rw [lane, bits, ← BitVec.toNat_ushiftRight, BitVec.ushiftRight_eq_zero short, BitVec.toNat_zero, Nat.zero_mod]

theorem storedCode_longVector_first : storedCode .int32 longVector 0 (decodeVI storeWord) 0 = some 1 := by decide +kernel

theorem storedCode_longVector_last : storedCode .int32 longVector 0 (decodeVI storeWord) (2 ^ 64) = some 0 := by
  have lanes := lane_beyond ((longVector.core 0).ve.vreg (decodeVI storeWord).d) (l := 2 ^ 64) (by decide)
  have elem : 2 ^ 64 < (longVector.core 0).ve.vl := by decide +kernel
  have on : active (longVector.core 0).ve (decodeVI storeWord) (2 ^ 64) = true := by decide +kernel
  rw [storedCode, if_pos elem, if_pos on, storeEnc, lanes]
  decide +kernel

/-- The store's last byte, that of element 2⁶⁴, has the address of its first. -/
theorem runByte_longVector :
    runByte (codeRuns .int32 longVector 0 (decodeVI storeWord)) (codeAt longVector 0 (decodeVI storeWord) 0)
    = some (narrowByte longVector 0 0 8 (2 ^ 64 + 1) (storedCode .int32 longVector 0 (decodeVI storeWord)) (2 ^ 64)) := by
  have base : baseAddr (longVector.core 0).ve (decodeVI storeWord) = 0 := by decide +kernel
  have width : styBits (codeFmt (decodeVI storeWord)) = 8 := by decide +kernel
  have count : codeCount longVector 0 (decodeVI storeWord) = 2 ^ 64 + 1 := by decide +kernel
  have bytes : (8 * (2 ^ 64 + 1) + 7) / 8 = 2 ^ 64 + 1 := by decide
  have wraps : convAddr 0 (2 ^ 64) = convAddr 0 0 := by decide
  have touched : narrowTouched 8 (2 ^ 64 + 1) (storedCode .int32 longVector 0 (decodeVI storeWord)) (2 ^ 64) = true := by
    refine List.any_eq_true.mpr ⟨2 ^ 64, List.mem_range.mpr (by decide), ?_⟩
    rw [storedCode_longVector_last]
    decide
  rw [codeRuns, codeAt, base, width, count, runByte_narrowRuns, bytes, getLast?_filter_upTo_succ, if_pos, Option.map_some]
  rw [touched, wraps, decide_eq_true rfl, Bool.and_self]

theorem readByte_codesStored_longVector : (readByte (codesStored .int32 longVector 0 (decodeVI storeWord))
    (codeAt longVector 0 (decodeVI storeWord) 0)).getLsbD 0 = false := by
  have elem : (8 * 2 ^ 64 + 0) / 8 = 2 ^ 64 := by decide
  rw [codesStored, readByte_writeRuns _ inside_codeRuns, runByte_longVector, Option.getD_some,
    narrowByte_getLsbD _ _ _ _ _ _ _ (by decide), narrowBit, elem, if_pos (Nat.lt_succ_self _), storedCode_longVector_last]
  exact Nat.zero_testBit _

/-- Refutes O10: in the model VL is a number without a bound, and the byte addresses of a store are sums of 64 bits. With
VL 2⁶⁴ + 1 element 2⁶⁴, which is 0, is stored where element 0, which is 1, belongs (`runByte_longVector`). Where the array
has at most 2⁶⁴ bytes, as with every VL that SETVL and SETVLI set, the statement holds (`Performs.storesCodes`). -/
theorem not_convertingStoresWriteTheirCodes : ¬ Obligations.ConvertingStoresWriteTheirCodes := by
  unfold Obligations.ConvertingStoresWriteTheirCodes
  intro h
  have vstcI : Performs .vstcI 10 9 veStoreI := performs_of_step fun _ _ _ => rfl
  have scalar : fmtMx (fmtOf (decodeVI storeWord).fmt) = false := by decide +kernel
  have fits : ∀ l, l < 256 → active (longVector.core 0).ve (decodeVI storeWord) l = true →
      storeFits longVector 0 (decodeVI storeWord) l = true := by decide +kernel
  have whole : codeCount longVector 0 (decodeVI storeWord) = (longVector.core 0).ve.vl := by decide +kernel
  obtain ⟨u, answer, -, codes, -⟩ := h (Instr.vstcI, 9, Sty.int32) (by simp) 0 {} longVector storeWord
    longVector_issues scalar fits (.inl whole)
  obtain ⟨k, done⟩ := vstcI.next (p := 0) (w := {}) longVector_issues (storeScalar_fits fits (.inl whole))
  obtain rfl := answer.unique done (sramSame_codesStored ..) longVector_quiet longVector_on
  have first := codes 0 (by decide)
  dsimp only at first
  rw [Fin.val_zero, Nat.zero_div, Nat.zero_mod, Nat.zero_div, storedCode_longVector_first, readByte_withVe,
    readByte_codesStored_longVector] at first
  exact absurd first (by decide)

end Sys2Proof.Machine

namespace Sys2Proof.Machine

/-! ### Updates of one Heron engine (R163, R165) -/

@[simp] theorem eng_setEng (k : Heron) (e : Nat) (x : HEng) : (k.setEng e x).eng e = x := by
  unfold Heron.setEng Heron.eng
  split <;> rfl

@[simp] theorem heng_setHeng (s : State) (p e : Nat) (x : HEng) : (s.setHeng p e x).heng p e = x := by
  rw [State.heng, State.setHeng, core_setCore, eng_setEng]

@[simp] theorem setHeng_mem (s : State) (p e : Nat) (x : HEng) : (s.setHeng p e x).mem = s.mem := rfl

@[simp] theorem flight_setHeng (s : State) (p e : Nat) (x : HEng) :
    ((s.setHeng p e x).core p).heron.flight = (s.core p).heron.flight := by
  rw [State.setHeng, core_setCore, Heron.setEng]
  split <;> rfl

@[simp] theorem ctr_setHeng (s : State) (p e : Nat) (x : HEng) : ((s.setHeng p e x).core p).ctr = (s.core p).ctr := by
  rw [State.setHeng, core_setCore]

theorem mapRun_of_run {s : State} {p e : Nat} {h : HRun} (run : (s.heng p e).run = some h) (f : HRun → HRun) :
    mapRun s p e f = s.setHeng p e { s.heng p e with run := some (f h) } := by
  simp only [mapRun, run]

@[simp] theorem run_mapRun (s : State) (p e : Nat) (f : HRun → HRun) :
    ((mapRun s p e f).heng p e).run = (s.heng p e).run.map f := by
  rw [mapRun]
  split
  next idle => rw [idle, Option.map_none]
  next h run => rw [heng_setHeng, run, Option.map_some]

@[simp] theorem mapRun_mem (s : State) (p e : Nat) (f : HRun → HRun) : (mapRun s p e f).mem = s.mem := by
  rw [mapRun]
  split <;> rfl

@[simp] theorem flight_mapRun (s : State) (p e : Nat) (f : HRun → HRun) :
    ((mapRun s p e f).core p).heron.flight = (s.core p).heron.flight := by
  rw [mapRun]
  split
  · rfl
  · exact flight_setHeng ..

@[simp] theorem heronFault_mem (s : State) (p e st num : Nat) : (heronFault s p e st num).mem = s.mem := mapRun_mem ..

/-- R165: the first fault of a command is the one it reports. -/
theorem run_heronFault {s : State} {p e : Nat} {h : HRun} (run : (s.heng p e).run = some h) (sound : h.fault = none)
    (st num : Nat) : ((heronFault s p e st num).heng p e).run = some { h with fault := some (st, num) } := by
  rw [heronFault, heng_setHeng, run_mapRun, run, Option.map_some, sound]

theorem st_heronFault (s : State) (p e st num : Nat) : ((heronFault s p e st num).heng p e).st = 3 := by
  rw [heronFault, heng_setHeng]

@[simp] theorem heng_ctxCtr (s : State) (c o n p e : Nat) : (ctxCtr s c o n).heng p e = s.heng p e := by
  rw [ctxCtr]
  split <;> rfl

@[simp] theorem ctxCtr_mem (s : State) (c o n : Nat) : (ctxCtr s c o n).mem = s.mem := by
  rw [ctxCtr]
  split <;> rfl

/-! ### What the other units' updates leave of the Heron engines -/

/-- The two Heron engines of each core. -/
def engines (s : State) (p : Nat) : HEng × HEng := ((s.core p).heron.h0, (s.core p).heron.h1)

theorem heng_of_engines {s u : State} (h : engines u = engines s) (p e : Nat) : u.heng p e = s.heng p e := by
  obtain ⟨h0, h1⟩ := Prod.mk.inj (congrFun h p)
  rw [State.heng, State.heng, Heron.eng, Heron.eng, h0, h1]

theorem engines_of_engineView {s u : State} (h : engineView u = engineView s) : engines u = engines s := by
  funext p
  have heron : (u.core p).heron = (s.core p).heron := congrArg Prod.snd (congrFun (congrArg Prod.snd h) p)
  rw [engines, engines, heron]

/-- What each step of a fold keeps, the fold keeps. -/
theorem foldl_kept {α β γ : Type} (view : β → γ) {g : β → α → β} (kept : ∀ b a, view (g b a) = view b) (l : List α)
    (b : β) : view (l.foldl g b) = view b :=
  (List.foldl_hom view (g₂ := fun x _ => x) fun b a => (kept b a).symm).symm.trans (List.foldl_fixed l)

@[simp] theorem engines_ite {c : Prop} [Decidable c] (s t : State) :
    engines (if c then s else t) = if c then engines s else engines t := apply_ite engines c s t

theorem engines_setCore_same {s : State} {p : Nat} {x : Core} (h0 : x.heron.h0 = (s.core p).heron.h0)
    (h1 : x.heron.h1 = (s.core p).heron.h1) : engines (s.setCore p x) = engines s := by
  funext n
  by_cases own : n = p
  · rw [own, engines, engines, core_setCore, h0, h1]
  · rw [engines, engines, core_setCore_ne _ _ _ _ own]

@[simp] theorem engines_setQueue (s : State) (q : Nat) (x : Queue) : engines (s.setQueue q x) = engines s := rfl
@[simp] theorem engines_setDie (s : State) (d : Nat) (x : Die) : engines (s.setDie d x) = engines s := rfl
@[simp] theorem engines_dirBump (s : State) (o n : Nat) : engines (dirBump s o n) = engines s := rfl
@[simp] theorem engines_mapDir (s : State) (l : Nat) (f : DirEntry → DirEntry) : engines (mapDir s l f) = engines s := rfl
@[simp] theorem engines_sendMsg (s : State) (m : DieMsg) : engines (sendMsg s m) = engines s := rfl
@[simp] theorem engines_coreCtr (s : State) (p o n : Nat) : engines (coreCtr s p o n) = engines s :=
  engines_of_engineView (engineView_coreCtr s p o n)
@[simp] theorem engines_queueCtr (s : State) (q o n : Nat) : engines (queueCtr s q o n) = engines s := by
  simp only [queueCtr, engines_ite, engines_setQueue, ite_self]
@[simp] theorem engines_logAdd (s : State) (x : LogIn) : engines (logAdd s x) = engines s :=
  engines_of_engineView (engineView_logAdd s x)
@[simp] theorem engines_loadUnits (s : State) (p : Nat) (us : List Nat) : engines (loadUnits s p us) = engines s :=
  engines_of_engineView (engineView_loadUnits s p us)

@[simp] theorem engines_unstage (s : State) (p l : Nat) : engines (unstage s p l) = engines s := by
  rw [unstage]; split
  · rfl
  · simp only [engines_ite, engines_queueCtr, engines_coreCtr, ite_self]
    exact engines_setCore_same rfl rfl

@[simp] theorem engines_uncache (s : State) (d l : Nat) : engines (uncache s d l) = engines s := by
  rw [uncache]; split
  · rfl
  · split
    · simp only [engines_queueCtr, engines_coreCtr, engines_setDie]
    · rfl

@[simp] theorem engines_dropDir (s : State) (l : Nat) : engines (dropDir s l) = engines s := by
  simp only [dropDir, filterDec, engines_ite, engines_setDie, ite_self]
  rfl

@[simp] theorem engines_recallLine (s : State) (l : Nat) : engines (recallLine s l) = engines s := by
  have recalled (held : BitVec 4) (t : State) :
      engines (forUp 4 (fun k t => if held.getLsbD k then uncache t k l else t) t) = engines t :=
    foldl_kept engines (fun t k => by simp only [engines_ite, engines_uncache, ite_self]) _ t
  rw [recallLine]; split
  · rfl
  · simp only [engines_ite, engines_dropDir, engines_mapDir, recalled, engines_dirBump, ite_self]

/-- Cores drop their staging copies of a line where a test holds. -/
theorem engines_unstageCores (on : Nat × Core → Prop) [DecidablePred on] (l : Nat) (cs : Tab Core) (s : State) :
    engines (cs.foldl (fun t c => if on c then unstage t c.1 l else t) s) = engines s :=
  foldl_kept engines (fun t c => by simp only [engines_ite, engines_unstage, ite_self]) cs s

@[simp] theorem engines_invalidateLine (s : State) (l : Nat) : engines (invalidateLine s l) = engines s := by
  simp only [invalidateLine, engines_ite, engines_recallLine, engines_dirBump, engines_unstageCores, ite_self]

@[simp] theorem engines_storeBytes (s : State) (a : Nat) (bs : List Byte) (bad : Bool) :
    engines (storeBytes s a bs bad) = engines s := by
  funext n
  rw [engines, engines, core_congr (cores_storeBytes s a bs bad)]

@[simp] theorem engines_writeMem (s : State) (a : Nat) (bs : List Byte) (bad : Bool) :
    engines (writeMem s a bs bad) = engines s := by
  have struck (t : State) (c : Nat) (us : List Nat) : engines { t.setCore c
      { t.core c with ras := { (t.core c).ras with injCs := false } } with latent := us } = engines t :=
    engines_setCore_same (x := { t.core c with ras := { (t.core c).ras with injCs := false } }) rfl rfl
  simp only [writeMem, engines_ite, foldl_kept engines engines_invalidateLine, engines_storeBytes, struck, ite_self]

end Sys2Proof.Machine

namespace Sys2Proof.Machine

/-! ### Requests and the copies that serve them (R162 to R168, R172, R173) -/

@[simp] theorem engines_homeStore (s : State) (w : Option ReqId) (a : Nat) (bs : List Byte) (bad : Bool) :
    engines (homeStore s w a bs bad).1 = engines s := by
  rw [homeStore]
  split
  · simp only [engines_unstageCores, engines_storeBytes]
  · rw [engines_sendMsg]
    exact (engines_unstageCores ..).trans (engines_storeBytes ..)

@[simp] theorem engines_countOnTime (s : State) (p q : Nat) : engines (countOnTime s p q) = engines s := by
  rw [countOnTime, engines_queueCtr, engines_coreCtr]

@[simp] theorem engines_useStaged (s : State) (p l : Nat) : engines (useStaged s p l) = engines s := by
  rw [useStaged]; split
  · rfl
  · split
    · rfl
    · exact (engines_countOnTime ..).trans (engines_setCore_same rfl rfl)

@[simp] theorem engines_useCached (s : State) (d l : Nat) : engines (useCached s d l) = engines s := by
  rw [useCached]; split
  · rfl
  · split
    · rfl
    · rw [engines_countOnTime, engines_setDie]

@[simp] theorem engines_loseCopy (s : State) (p l : Nat) : engines (loseCopy s p l) = engines s := by
  rw [loseCopy, engines_uncache, engines_unstage, engines_coreCtr]

@[simp] theorem engines_mergeFlight (s : State) (k l : Nat) (w : ReqId) : engines (mergeFlight s k l w) = engines s := by
  rw [mergeFlight]; split
  · rfl
  · rw [engines_ite, engines_queueCtr, engines_coreCtr, ite_self]
    exact engines_setCore_same rfl rfl

/-- A line of a read is found in a copy, merges with a prefetch or is asked for: no engine changes. -/
theorem engines_readFrom (s : State) (p : Nat) (r : Rec) (bad : List Nat) (w : ReqId) (l : Nat) :
    engines (readFrom s p r bad w l).1 = engines s := by
  rw [readFrom]
  split
  · split
    · split
      · rw [engines_ite, engines_loseCopy, engines_useStaged, ite_self]
      · split
        · exact engines_mergeFlight ..
        · rfl
    · split
      · split
        · exact engines_loseCopy ..
        · exact engines_useCached ..
      · split
        · exact engines_mergeFlight ..
        · rfl
  · split <;> rfl

/-- The requests that an engine's command has in flight, and how many it has sent. -/
def demands (s : State) (p e : Nat) : Option (List HReq × Nat) := (s.heng p e).run.map fun h => (h.out, h.reqs)

theorem demands_of_engines {s u : State} (h : engines u = engines s) (p e : Nat) : demands u p e = demands s p e := by
  rw [demands, heng_of_engines h, demands]

theorem demands_mapRun (s : State) (p e : Nat) {f : HRun → HRun} (out : ∀ h, (f h).out = h.out)
    (reqs : ∀ h, (f h).reqs = h.reqs) : demands (mapRun s p e f) p e = demands s p e := by
  simp only [demands, run_mapRun, Option.map_map, Function.comp_def, out, reqs]

@[simp] theorem engines_zeroNear (s : State) (p : Nat) (r : Rec) (near len : Nat) :
    engines (zeroNear s p r near len) = engines s := by
  rw [zeroNear, engines_ite, engines_writeMem, ite_self]

theorem demands_endSeg (s : State) (p e : Nat) (r : Rec) (near len dropped : Nat) :
    demands (endSeg s p e r near len dropped) p e = demands s p e := by
  rw [endSeg]
  exact (demands_mapRun _ p e (fun _ => by rfl) fun _ => by rfl).trans (demands_of_engines (engines_zeroNear ..) p e)

/-- R162: a run or an element joins a request where it adjoins what the request covers so far. -/
theorem growReq_move {s : State} {p e : Nat} {r : Rec} {c : HCur} {far : Int} {near len : Nat}
    (item : heronItem s p r c = .move far near len) (n : Nat) (l : List (Nat × Nat × Nat)) :
    ∃ (apart : Bool) (m : Nat) (k : List (Nat × Nat × Nat)), growReq p e r (n + 1) s c l =
      let t := if c.ofs = 0 then loadUnits s p (entryUnits s p r c (.move far near len)) else s
      if apart = true then (s, c, l)
      else if c.ofs + m < len then (t, { c with ofs := c.ofs + m }, k) else growReq p e r n t c.next k := by
  rw [growReq]
  simp only [item]
  exact ⟨_, _, _, rfl⟩

/-- Forming a request reads table entries and passes the ends of segments. -/
theorem demands_growReq (p e : Nat) (r : Rec) (n : Nat) (s : State) (c : HCur) (l : List (Nat × Nat × Nat)) :
    demands (growReq p e r n s c l).1 p e = demands s p e := by
  have read (t : State) (us : List Nat) : demands (loadUnits t p us) p e = demands t p e :=
    demands_of_engines (engines_loadUnits t p us) p e
  induction n generalizing s c l with
  | zero => rfl
  | succ n ih =>
    cases item : heronItem s p r c with
    | move far near len =>
      obtain ⟨apart, m, k, grown⟩ := growReq_move (e := e) item n l
      have first : demands (if c.ofs = 0 then loadUnits s p (entryUnits s p r c (.move far near len)) else s) p e
          = demands s p e := by
        split
        · exact read ..
        · rfl
      rw [grown]
      dsimp only
      split
      · rfl
      · split
        · exact first
        · exact (ih _ _ _).trans first
    | segEnd near len dropped =>
      simp only [growReq, item]
      split
      · rfl
      · exact (ih _ _ _).trans ((demands_endSeg ..).trans (read ..))
    | _ => simp only [growReq, item]

theorem demands_heronDiscard (s : State) (p e a : Nat) : demands (heronDiscard s p e a) p e = demands s p e := by
  rw [heronDiscard]
  split
  · rfl
  · split
    · rfl
    · exact (demands_of_engines (engines_logAdd ..) p e).trans (demands_mapRun s p e (fun _ => by rfl) fun _ => by rfl)

/-- A line of a write is stored, sent or discarded. -/
theorem demands_writeTo (s : State) (p e : Nat) (w : ReqId) (a : Nat) (bs : List (Byte × Bool)) :
    demands (writeTo s p e w a bs).1 p e = demands s p e := by
  rw [writeTo]
  split
  · split
    · exact demands_heronDiscard ..
    · split
      · exact demands_of_engines (engines_homeStore ..) p e
      · rfl
  · split
    · exact demands_of_engines (foldl_kept engines (fun t x => engines_writeMem ..) _ s) p e
    · rfl

/-- A request enters its engine with the next place of the stream. -/
theorem run_addReq (s : State) (p e : Nat) (q : HReq) (c : HCur) : ((addReq s p e q c).heng p e).run
    = (s.heng p e).run.map fun h => { h with out := h.out ++ [q], reqs := h.reqs + 1, cur := c } := by
  rw [addReq, heng_setHeng, run_mapRun, heng_of_engines (engines_coreCtr ..)]

theorem guestOf_of_inHbm {a : Nat} (h : inHbm a = true) : guestOf a = none := by
  have low : a < 0x20000000000 := of_decide_eq_true h
  rw [guestOf, if_neg (by omega), if_neg (by omega)]

/-- What a request to HBM leaves of its engine: it has entered, and nothing else happened to the requests. -/
theorem issueRead_inHbm {a : Nat} (h : inHbm a = true) (s : State) (p e : Nat) (r : Rec) (bad : List Nat)
    (l : List (Nat × Nat × Nat)) (c : HCur) (num a0 total : Nat) : ∃ t q,
    issueRead s p e r bad l c num a0 a total = addReq t p e q c ∧ demands t p e = demands s p e
      ∧ q.far = a ∧ q.wr = false ∧ q.num = num := by
  simp only [issueRead, guestOf_of_inHbm h]
  refine ⟨_, _, rfl, demands_of_engines ?_ p e, rfl, rfl, rfl⟩
  exact foldl_kept (fun b : State × List Nat => engines b.1) (fun b ln => engines_readFrom ..) _ (s, [])

theorem issueWrite_inHbm {a : Nat} (h : inHbm a = true) (s : State) (dt p e : Nat) (l : List (Nat × Nat × Nat)) (c : HCur)
    (num total : Nat) : ∃ t q,
    issueWrite s dt p e l c num a total = addReq t p e q c ∧ demands t p e = demands s p e
      ∧ q.far = a ∧ q.wr = true ∧ q.num = num := by
  simp only [issueWrite, h, Bool.true_or, if_true]
  refine ⟨_, _, rfl, ?_, rfl, rfl, rfl⟩
  refine (foldl_kept (fun b : State × List HSeg => demands b.1 p e) (fun b pc => demands_writeTo ..) _ _).trans ?_
  exact (demands_mapRun _ p e (fun _ => by rfl) fun _ => by rfl).trans (demands_of_engines (engines_loadUnits ..) p e)

/-- R162, R164: a request is formed and, unless it is a write that waits, issued. -/
theorem issueAt_eq {s : State} {p e : Nat} {r : Rec} {h : HRun} {g : State × HCur × List (Nat × Nat × Nat)}
    (formed : growReq p e r growFuel s h.cur [] = g) (dt : Nat) (bad : List Nat) (a : Nat) (pa : Option Nat) :
    issueAt s dt p e r bad h.cur a pa = if writeWaits s p e r a pa (reqTotal s p e r h) = true then s else match pa with
      | none => issueFab g.1 p e r g.2.2 g.2.1 h.cur.num a (reqTotal s p e r h)
      | some x =>
        if r.hDir = true then issueWrite g.1 dt p e g.2.2 g.2.1 h.cur.num x (reqTotal s p e r h)
        else issueRead g.1 p e r bad g.2.2 g.2.1 h.cur.num a x (reqTotal s p e r h) := by
  unfold issueAt reqTotal
  rewrite [formed]
  rfl

/-- R162, R163: a request to HBM that waits for none enters its engine. -/
theorem issueAt_inHbm {s : State} {p e a x : Nat} {r : Rec} {h : HRun} (hx : inHbm x = true)
    (free : writeWaits s p e r a (some x) (reqTotal s p e r h) = false) (dt : Nat) (bad : List Nat) : ∃ t q c,
    issueAt s dt p e r bad h.cur a (some x) = addReq t p e q c ∧ demands t p e = demands s p e
      ∧ q.far = x ∧ q.wr = r.hDir ∧ q.num = h.cur.num := by
  have grown := demands_growReq p e r growFuel s h.cur []
  generalize formed : growReq p e r growFuel s h.cur [] = g at grown
  rw [issueAt_eq formed, free, if_neg Bool.false_ne_true]
  cases r.hDir with
  | true =>
    obtain ⟨t, q, entered, kept, fields⟩ := issueWrite_inHbm hx g.1 dt p e g.2.2 g.2.1 h.cur.num (reqTotal s p e r h)
    exact ⟨t, q, _, entered, kept.trans grown, fields⟩
  | false =>
    obtain ⟨t, q, entered, kept, fields⟩ := issueRead_inHbm hx g.1 p e r bad g.2.2 g.2.1 h.cur.num a (reqTotal s p e r h)
    exact ⟨t, q, _, entered, kept.trans grown, fields⟩

/-- A request that has entered stands last among its command's. -/
theorem run_of_entered {s t : State} {p e : Nat} {h : HRun} (run : (s.heng p e).run = some h)
    (kept : demands t p e = demands s p e) (q : HReq) (c : HCur) :
    ∃ k, ((addReq t p e q c).heng p e).run = some k ∧ k.out = h.out ++ [q] ∧ k.reqs = h.reqs + 1 := by
  rw [demands, demands, run, Option.map_some, Option.map_eq_some_iff] at kept
  obtain ⟨k, running, same⟩ := kept
  obtain ⟨out, reqs⟩ := Prod.mk.inj same
  refine ⟨_, by rw [run_addReq, running, Option.map_some], ?_, ?_⟩
  · rw [out]
  · rw [reqs]

end Sys2Proof.Machine

namespace Sys2Proof.Machine

/-! ### Detection (R180 to R184) -/

theorem mem_setIns {l : List Nat} {i v : Nat} : v ∈ setIns l i ↔ v ∈ l ∨ v = i := by
  induction l with
  | nil => simp [setIns]
  | cons k l ih =>
    rw [setIns]
    split
    next same => simp only [List.mem_cons, same, or_comm, or_self_left]
    next =>
      split
      · exact List.mem_cons.trans or_comm
      · rw [List.mem_cons, List.mem_cons, ih, or_assoc]

theorem contains_setIns (l : List Nat) (i v : Nat) : (setIns l i).contains v = (l.contains v || v == i) := by
  rw [Bool.eq_iff_iff]
  simp [mem_setIns]

theorem contains_setDel (l : List Nat) (i v : Nat) : (setDel l i).contains v = (l.contains v && v != i) := by
  rw [Bool.eq_iff_iff]
  simp [setDel]

theorem detectUnit_of_clean {s : State} {u : Nat} (h : s.latent.contains u = false) : detectUnit s u = s := by
  rw [detectUnit, h]
  rfl

/-- R184: a detected unit is poisoned in place of the error that was latent in it. -/
theorem detectUnit_of_latent {s : State} {u : Nat} (h : s.latent.contains u = true) :
    (detectUnit s u).poison = setIns s.poison u ∧ (detectUnit s u).latent = setDel s.latent u
      ∧ (detectUnit s u).bring = s.bring := by
  simp only [detectUnit, h, if_true]
  split
  all_goals
    obtain ⟨host, log, bit, sent, eq⟩ := logAdd_logged _ _
    rw [eq]
    exact ⟨rfl, rfl, rfl⟩

/-- Detection moves errors and makes none: what is bad stays bad. -/
theorem unitBad_detectUnit (s : State) (u v : Nat) : unitBad (detectUnit s u) v = unitBad s v := by
  cases h : s.latent.contains u with
  | false => rw [detectUnit_of_clean h]
  | true =>
    obtain ⟨poison, latent, bring⟩ := detectUnit_of_latent h
    rw [unitBad, unitBad, lateDie, lateDie, poison, latent, bring, contains_setIns, contains_setDel]
    by_cases own : v = u
    · subst own
      simp only [h, beq_self_eq_true, Bool.or_true, Bool.true_or]
    · simp only [beq_eq_false_iff_ne.mpr own, bne_iff_ne.mpr own, Bool.or_false, Bool.and_true]

theorem rangeBad_detect (s : State) (b m a n : Nat) : rangeBad (detect s b m) a n = rangeBad s a n := by
  rw [rangeBad, rangeBad, detect, foldl_kept unitBad fun t u => funext (unitBad_detectUnit t u)]

theorem readByte_detect (s : State) (b m a : Nat) : readByte (detect s b m) a = readByte s a := by
  rw [readByte, readByte, detect]
  exact congrArg (fun x => cellGet x.mem a) (arrayView_foldl arrayView_detectUnit _ s)

theorem detect_of_clean {s : State} {a n : Nat} (h : rangeBad s a n = false) : detect s a n = s := by
  have clean : ∀ u ∈ unitsOf a n, detectUnit s u = s := fun u hu => by
    have sound := List.any_eq_false.mp h u hu
    simp only [unitBad, Bool.or_eq_true, not_or, Bool.not_eq_true] at sound
    exact detectUnit_of_clean sound.1.2
  rw [detect]
  generalize unitsOf a n = us at clean
  induction us with
  | nil => rfl
  | cons u us ih =>
    rw [List.foldl_cons, clean u List.mem_cons_self]
    exact ih fun v hv => clean v (List.mem_cons_of_mem _ hv)

/-- R184: a line read by its home is as it stands, and as bad as it was. -/
theorem readLine_eq (s : State) (l : Nat) : (readLine s l).2.1 = readBytes s l 64
    ∧ (readLine s l).2.2 = (upTo 8).map fun k => rangeBad s (l + 8 * k) 8 := by
  simp only [readLine, readBytes, readByte_detect, rangeBad_detect, and_self]

/-- The units of a run are those that hold its bytes. -/
theorem mem_unitsOf {u a n : Nat} :
    u ∈ unitsOf a n ↔ ∃ x, a ≤ x ∧ x < a + n ∧ u = x / unitSize a * unitSize a := by
  have pos : 0 < unitSize a := by unfold unitSize; split <;> decide
  simp only [unitsOf]
  generalize unitSize a = z at pos
  split
  next none => simp [none]; omega
  next some =>
    simp only [upTo, List.mem_map, List.mem_range]
    constructor
    · rintro ⟨k, hk, rfl⟩
      have order : a / z ≤ (a + n - 1) / z := Nat.div_le_div_right (by omega)
      have last : a / z + k ≤ (a + n - 1) / z := by omega
      have reach := (Nat.le_div_iff_mul_le pos).mp last
      refine ⟨max a ((a / z + k) * z), by omega, by omega, ?_⟩
      congr 1
      refine (Nat.div_eq_of_lt_le ?_ ?_).symm
      · omega
      · have first := Nat.lt_mul_of_div_lt (Nat.lt_succ_self (a / z)) pos
        have le : (a / z).succ * z ≤ (a / z + k + 1) * z := Nat.mul_le_mul_right z (by omega)
        have next : (a / z + k) * z < (a / z + k + 1) * z := Nat.mul_lt_mul_of_pos_right (by omega) pos
        omega
    · rintro ⟨x, lo, hi, rfl⟩
      have low : a / z ≤ x / z := Nat.div_le_div_right lo
      have high : x / z ≤ (a + n - 1) / z := Nat.div_le_div_right (by omega)
      exact ⟨x / z - a / z, by omega, by rw [Nat.add_sub_cancel' low]⟩

/-- A part of a clean run is clean. -/
theorem rangeBad_of_within {s : State} {a n b m : Nat} (h : rangeBad s a n = false) (same : unitSize b = unitSize a)
    (lo : a ≤ b) (hi : b + m ≤ a + n) : rangeBad s b m = false := by
  rw [rangeBad, List.any_eq_false] at h ⊢
  intro u hu
  obtain ⟨x, hlo, hhi, rfl⟩ := mem_unitsOf.mp hu
  exact h _ (mem_unitsOf.mpr ⟨x, by omega, by omega, by rw [same]⟩)

theorem unitSize_of_inHbm {a : Nat} (h : inHbm a = true) : unitSize a = 64 := by
  have low : a < 0x20000000000 := of_decide_eq_true h
  simp only [unitSize, inCs, decide_eq_false (show ¬ 0x80000000000 ≤ a by omega), Bool.false_and, Bool.false_eq_true, if_false]

/-! ### Data on its way to a core store (R164, R182) -/

/-- The parts of a piece lie in it. -/
theorem within_of_wordParts {a n : Nat} {w : Nat × Nat} (h : w ∈ wordParts a n) : a ≤ w.1 ∧ w.1 + w.2 ≤ a + n := by
  rw [wordParts] at h
  split at h
  · cases h
  · simp only [upTo, List.mem_map, List.mem_range] at h
    obtain ⟨k, hk, rfl⟩ := h
    dsimp only
    omega

/-- Each byte of a piece lies in the part of its word. -/
theorem exists_wordPart {a n x : Nat} (lo : a ≤ x) (hi : x < a + n) :
    ∃ w ∈ wordParts a n, w.1 ≤ x ∧ x < w.1 + w.2 := by
  have part : (max a (x / 8 * 8), min (a + n) (x / 8 * 8 + 8) - max a (x / 8 * 8)) ∈ wordParts a n := by
    rw [wordParts, if_neg (by omega)]
    refine List.mem_map.mpr ⟨x / 8 - a / 8, List.mem_range.mpr (by omega), ?_⟩
    simp only [show a / 8 + (x / 8 - a / 8) = x / 8 by omega]
  refine ⟨_, part, ?_, ?_⟩
  all_goals
    dsimp only
    omega

/-- Stores that agree with one source leave the source's bytes wherever one of them reaches. -/
theorem runByte_of_agree {f : Nat → Byte} {ws : List (Nat × List Byte)} {a : Nat}
    (agree : ∀ w ∈ ws, w.1 ≤ a → a < w.1 + w.2.length → w.2.getD (a - w.1) 0 = f a) :
    runByte ws a = if ∃ w ∈ ws, w.1 ≤ a ∧ a < w.1 + w.2.length then some (f a) else none := by
  induction ws with
  | nil => simp [runByte]
  | cons w ws ih =>
    rw [runByte, ih fun v hv => agree v (List.mem_cons_of_mem _ hv)]
    simp only [List.exists_mem_cons_iff]
    by_cases later : ∃ v ∈ ws, v.1 ≤ a ∧ a < v.1 + v.2.length
    · rw [if_pos later, if_pos (Or.inr later), Option.some_or]
    · by_cases here : w.1 ≤ a ∧ a < w.1 + w.2.length
      · rw [if_neg later, if_pos here, if_pos (Or.inl here), Option.none_or, agree w List.mem_cons_self here.1 here.2]
      · rw [if_neg later, if_neg here, if_neg (not_or.mpr ⟨here, later⟩), Option.none_or]

theorem getD_readBytes (s : State) (a n : Nat) {i : Nat} (h : i < n) : (readBytes s a n).getD i 0 = readByte s (a + i) :=
  getD_upTo_map (fun i => readByte s (a + i)) 0 n i h

theorem length_readBytes (s : State) (a n : Nat) : (readBytes s a n).length = n := by
  rw [readBytes, List.length_map, upTo, List.length_range]

/-- Chunks without poison are stored, the last one prevailing where two meet. -/
theorem readByte_heronDeliver {cs : List Chunk} (sound : ∀ c ∈ cs, c.bad = false) (s : State) (p e a : Nat) :
    readByte (heronDeliver s p e cs) a = (runByte (cs.map fun c => (csAddr p c.near, c.data)) a).getD (readByte s a) := by
  have good : cs.filter (fun c => !c.bad) = cs := List.filter_eq_self.mpr fun c hc => by rw [sound c hc]; rfl
  have none : cs.filter (fun c => c.bad) = [] := List.filter_eq_nil_iff.mpr fun c hc => by rw [sound c hc]; decide
  have inside : ∀ w ∈ cs.map (fun c => (csAddr p c.near, c.data)), ∃ o, w.1 = csAddr p o := fun w hw => by
    obtain ⟨c, -, rfl⟩ := List.mem_map.mp hw
    exact ⟨c.near, rfl⟩
  rw [← readByte_writeRuns s inside a, heronDeliver]
  simp only [good, none]
  exact congrArg (fun m => cellGet m a) (mapRun_mem ..)

/-- A piece of clean memory whose last byte lies in HBM. -/
structure CleanPiece (s : State) (g : HSeg) : Prop where
  last : inHbm (g.far + g.len - 1) = true
  clean : rangeBad s g.far g.len = false

theorem CleanPiece.sound {s : State} {g : HSeg} (h : CleanPiece s g) : ∀ c ∈ memChunks s [g], c.bad = false := by
  intro c hc
  simp only [memChunks, List.flatMap_cons, List.flatMap_nil, List.append_nil, List.mem_map] at hc
  obtain ⟨w, hw, rfl⟩ := hc
  obtain ⟨lo, hi⟩ := within_of_wordParts hw
  by_cases empty : w.2 = 0
  · simp only [empty]; rfl
  · have last : g.far + g.len - 1 < 0x20000000000 := of_decide_eq_true h.last
    have first : inHbm g.far = true := decide_eq_true (by omega)
    have part : inHbm w.1 = true := decide_eq_true (by omega)
    exact rangeBad_of_within h.clean ((unitSize_of_inHbm part).trans (unitSize_of_inHbm first).symm) lo hi

/-- R164: a clean piece of memory stands in the core store once it is delivered. -/
theorem CleanPiece.delivered {s : State} {g : HSeg} (h : CleanPiece s g) (p e a : Nat) :
    readByte (heronDeliver s p e (memChunks s [g])) a
      = if csAddr p g.near ≤ a ∧ a < csAddr p g.near + g.len then readByte s (g.far + (a - csAddr p g.near))
        else readByte s a := by
  have stores : (memChunks s [g]).map (fun c => (csAddr p c.near, c.data))
      = (wordParts g.far g.len).map fun w => (csAddr p g.near + (w.1 - g.far), readBytes s w.1 w.2) := by
    simp only [memChunks, List.flatMap_cons, List.flatMap_nil, List.append_nil, List.map_map]
    refine List.map_congr_left fun w _ => Prod.ext ?_ rfl
    exact (Nat.add_assoc ..).symm
  have covered : (∃ w ∈ (wordParts g.far g.len).map fun w => (csAddr p g.near + (w.1 - g.far), readBytes s w.1 w.2),
      w.1 ≤ a ∧ a < w.1 + w.2.length) ↔ csAddr p g.near ≤ a ∧ a < csAddr p g.near + g.len := by
    simp only [List.mem_map, exists_exists_and_eq_and, length_readBytes]
    generalize csAddr p g.near = b
    constructor
    · rintro ⟨w, hw, lo, hi⟩
      obtain ⟨start, stop⟩ := within_of_wordParts hw
      omega
    · rintro ⟨lo, hi⟩
      obtain ⟨w, hw, start, stop⟩ := exists_wordPart (a := g.far) (n := g.len) (x := g.far + (a - b)) (by omega) (by omega)
      have within := within_of_wordParts hw
      exact ⟨w, hw, by omega, by omega⟩
  rw [readByte_heronDeliver h.sound, stores, runByte_of_agree (f := fun a => readByte s (g.far + (a - csAddr p g.near)))]
  · simp only [covered]
    split <;> rfl
  · simp only [List.forall_mem_map, length_readBytes]
    generalize csAddr p g.near = b
    intro w hw lo hi
    obtain ⟨start, stop⟩ := within_of_wordParts hw
    rw [getD_readBytes _ _ _ (by omega)]
    congr 1
    omega

end Sys2Proof.Machine

namespace Sys2Proof.Machine

/-! ### The next item of a demand stream (R154, R158 to R165) -/

theorem heronIssue_of_runs {s : State} {p e : Nat} {r : Rec} {h : HRun} (runs : HeronRuns s p e r h) (dt : Nat)
    (bad : List Nat) : heronIssue s p e false dt bad = sramSweep (heronCheck (demandItem s dt p e r bad h) p e) := by
  obtain ⟨active, on, run, found, demand, more, sound, free⟩ := runs
  simp only [heronIssue, active, on, run, found, demand, more, sound, free, bne_self_eq_false, Bool.not_true, Bool.or_false,
    Bool.false_eq_true, if_false, Option.isSome_none]

theorem heronIssue_prefetch {s : State} {p e : Nat} {r : Rec} {h : HRun} (active : s.pst = .active) (on : coreOn s p = true)
    (run : (s.heng p e).run = some h) (found : findRec s h.ref = some r) (dt : Nat) (bad : List Nat) :
    heronIssue s p e true dt bad = sramSweep (heronCheck
      (if mayPrefetch s p e r h = true then prefetchStep s p e r h else s) p e) := by
  simp only [heronIssue, active, on, run, found, bne_self_eq_false, Bool.not_true, Bool.or_false, Bool.false_eq_true, if_false,
    if_true]

theorem heronIssue_of_idle {s : State} {p e : Nat}
    (idle : s.pst ≠ .active ∨ coreOn s p = false ∨ (s.heng p e).run = none) (pf : Bool) (dt : Nat) (bad : List Nat) :
    heronIssue s p e pf dt bad = s := by
  rw [heronIssue]
  split
  · rfl
  next served =>
    simp only [Bool.or_eq_true, bne_iff_ne, Bool.not_eq_true', not_or, not_not] at served
    obtain ⟨active, on⟩ := served
    rcases idle with inactive | off | none
    · exact absurd active inactive
    · exact absurd off on
    · simp only [none]

section Items
variable {s : State} {p e : Nat} {r : Rec} {h : HRun} (run : (s.heng p e).run = some h)
include run

theorem demandItem_done (item : heronItem s p r h.cur = .done) (dt : Nat) (bad : List Nat) :
    demandItem s dt p e r bad h = s.setHeng p e { s.heng p e with run := some { h with allIssued := true } } := by
  simp only [demandItem, item, mapRun_of_run run]

/-- R159: the engine passes a skipped element, whose near bytes are cleared under ZERO_FILL. -/
theorem demandItem_skip {near len : Nat} (item : heronItem s p r h.cur = .skip near len) (dt : Nat) (bad : List Nat) :
    ∃ t, demandItem s dt p e r bad h = mapRun (zeroNear t p r near len) p e (fun x => { x with cur := h.cur.next })
      ∧ t.mem = s.mem ∧ (t.heng p e).run = some h := by
  refine ⟨_, by simp only [demandItem, item]; rfl, ?_, ?_⟩
  · exact congrArg ArrayView.mem (arrayView_loadUnits s p _)
  · rw [heng_of_engines (engines_loadUnits ..), run]

theorem run_demandItem_skip {near len : Nat} (item : heronItem s p r h.cur = .skip near len) (dt : Nat) (bad : List Nat) :
    ((demandItem s dt p e r bad h).heng p e).run = some { h with cur := h.cur.next } := by
  obtain ⟨t, passed, -, running⟩ := demandItem_skip run item dt bad
  rw [passed, run_mapRun, heng_of_engines (engines_zeroNear ..), running, Option.map_some]

end Items

theorem readByte_zeroNear {r : Rec} (zero : r.hZero = true) (s : State) (p near len a : Nat) :
    readByte (zeroNear s p r near len) a
      = if csAddr p near ≤ a ∧ a < csAddr p near + len then 0 else readByte s a := by
  rw [zeroNear, if_pos zero, readByte_writeMem_csAddr, List.length_replicate]
  split
  next inside => exact List.getD_replicate 0 (by omega)
  next => rfl

/-- R161: a run that leaves the declared region stops the command. -/
theorem demandItem_outside {s : State} {p near len : Nat} {far : Int} {r : Rec} {h : HRun}
    (item : heronItem s p r h.cur = .move far near len) (first : h.cur.ofs = 0) (outside : regionOk r far len = false)
    (dt e : Nat) (bad : List Nat) : demandItem s dt p e r bad h = heronFault s p e 0x23 h.cur.num := by
  simp only [demandItem, item, first, outside, decide_true, Bool.not_false, Bool.and_self, if_true]

/-- R154, R165, R544: a demand access at `a` of an engine that may issue is translated, and issued where leaf and target
allow it. -/
def demandAccess (s : State) (dt p e : Nat) (r : Rec) (bad : List Nat) (h : HRun) (a : Nat) : State :=
  match tlbFind s p (s.queue h.ref.q).ctxNo a with
  | none => startWalk s p e (s.queue h.ref.q).ctxNo a
  | some lf =>
    match leafGrant lf a r.hDir with
    | .fault x => heronXlatFault s p e x h.cur.num (s.queue h.ref.q).ctxNo
    | .pa x =>
      match paStatus s x with
      | some st => heronFault s p e st h.cur.num
      | none => issueAt s dt p e r bad h.cur a (some x)

theorem demandItem_move {s : State} {p near len : Nat} {far : Int} {r : Rec} {h : HRun}
    (item : heronItem s p r h.cur = .move far near len) (inside : h.cur.ofs ≠ 0 ∨ regionOk r far len = true)
    (dt e : Nat) (bad : List Nat) : demandItem s dt p e r bad h =
      if 24 ≤ (s.core p).heron.outstanding e then s
      else if r.hFab = true then issueAt s dt p e r bad h.cur (far + h.cur.ofs).toNat none
      else demandAccess s dt p e r bad h (far + h.cur.ofs).toNat := by
  have begins : (decide (h.cur.ofs = 0) && !regionOk r far len) = false := by
    rcases inside with later | within
    · rw [decide_eq_false later, Bool.false_and]
    · rw [within, Bool.not_true, Bool.and_false]
  simp only [demandItem, item, begins, Bool.false_eq_true, if_false]
  rfl

section Access
variable {s : State} {p a : Nat} {r : Rec} {h : HRun} (dt e : Nat) (bad : List Nat)

theorem demandAccess_miss (miss : tlbFind s p (s.queue h.ref.q).ctxNo a = none) :
    demandAccess s dt p e r bad h a = startWalk s p e (s.queue h.ref.q).ctxNo a := by
  simp only [demandAccess, miss]

variable {lf : Leaf} (hit : tlbFind s p (s.queue h.ref.q).ctxNo a = some lf)
include hit

theorem demandAccess_denied {f : Nat} (denied : leafGrant lf a r.hDir = .fault f) :
    demandAccess s dt p e r bad h a = heronXlatFault s p e f h.cur.num (s.queue h.ref.q).ctxNo := by
  simp only [demandAccess, hit, denied]

theorem demandAccess_refused {x st : Nat} (granted : leafGrant lf a r.hDir = .pa x) (refused : paStatus s x = some st) :
    demandAccess s dt p e r bad h a = heronFault s p e st h.cur.num := by
  simp only [demandAccess, hit, granted, refused]

theorem demandAccess_granted {x : Nat} (granted : leafGrant lf a r.hDir = .pa x) (target : paStatus s x = none) :
    demandAccess s dt p e r bad h a = issueAt s dt p e r bad h.cur a (some x) := by
  simp only [demandAccess, hit, granted, target]

end Access

theorem startWalk_of_room {s : State} {p : Nat} (room : walksOn s p < 16) (e c a : Nat) :
    ((startWalk s p e c a).heng p e).walk = some a ∧ (startWalk s p e c a).mem = s.mem
      ∧ ctrGet ((startWalk s p e c a).core p).ctr 0x198 = ctrGet (s.core p).ctr 0x198 + 1 := by
  rw [startWalk, if_neg (by omega)]
  refine ⟨by rw [heng_setHeng], ?_, ?_⟩
  · rw [setHeng_mem, ctxCtr_mem]
    rfl
  · rw [ctr_setHeng]
    have counted : (ctxCtr (coreCtr s p 0x198 1) c 0x118 1).core p = (coreCtr s p 0x198 1).core p := rfl
    rw [counted, coreCtr, if_neg (by decide), core_setCore]
    exact ctrGet_ctrAdd_same (s.core p).ctr 0x198 1

/-! ### Walks (R154, R543) -/

/-- A walk reads the root of its context, memory and what stands in its way, and none of the cores. -/
theorem walkFrom_others (s : State) (cores : Tab Core) (xlat : Tab Xlat) (c a n lvl tbl : Nat) :
    walkFrom { s with cores := cores, xlat := xlat } c a n lvl tbl = walkFrom s c a n lvl tbl := by
  induction n generalizing lvl tbl with
  | zero => rfl
  | succ n ih =>
    simp only [walkFrom, ih]
    rfl

/-- The state in which the walk of an engine that runs `h` has ended. -/
def walkEnded (s : State) (p e : Nat) (h : HRun) : State :=
  let c := (s.queue h.ref.q).ctxNo
  (s.setCtx c { s.ctx c with walks := setDel (s.ctx c).walks (2 * p + e) }).setHeng p e
    { s.heng p e with run := some h, walk := none, st := 1 }

theorem walk_walkEnded (s : State) (p e : Nat) (h : HRun) (a : Nat) :
    walk (walkEnded s p e h) (s.queue h.ref.q).ctxNo a = walk s (s.queue h.ref.q).ctxNo a := by
  have root : (walkEnded s p e h).ctx (s.queue h.ref.q).ctxNo = { s.ctx (s.queue h.ref.q).ctxNo with
      walks := setDel (s.ctx (s.queue h.ref.q).ctxNo).walks (2 * p + e) } := ctx_setCtx ..
  rw [walk, root, walk]
  exact if_congr Iff.rfl (walkFrom_others ..) rfl

/-- A leaf that enters a TLB is held there, whether or not the TLB was full; no engine changes. -/
theorem tlbFill_holds (s : State) (p : Nat) (l : Leaf) : l ∈ ((tlbFill s p l).core p).heron.tlb
    ∧ engines (tlbFill s p l) = engines s ∧ (tlbFill s p l).mem = s.mem ∧ (tlbFill s p l).queues = s.queues := by
  rw [tlbFill]
  split
  · exact ⟨by rw [core_setCore]; exact List.mem_append_right _ List.mem_cons_self, engines_setCore_same rfl rfl, rfl, rfl⟩
  next full =>
    have slot : (drawChoice s 256).1 < 256 := Nat.mod_lt _ (by decide)
    exact ⟨by rw [core_setCore]; exact List.mem_set (by omega) l, engines_setCore_same rfl rfl, rfl, rfl⟩

theorem walkDone_of_granted {s : State} {p e va a : Nat} {h : HRun} {l : Leaf} (waits : (s.heng p e).walk = some va)
    (run : (s.heng p e).run = some h) (found : walk s (s.queue h.ref.q).ctxNo va = some l)
    (granted : leafGrant l va (match findRec s h.ref with | some r => r.hDir | none => false) = .pa a) :
    walkDone s p e = tlbFill (walkEnded s p e h) p l := by
  have leaf : walk (walkEnded s p e h) (s.queue h.ref.q).ctxNo va = some l := (walk_walkEnded s p e h va).trans found
  have records : findRec (tlbFill (walkEnded s p e h) p l) h.ref = findRec s h.ref := by
    rw [findRec, State.queue, (tlbFill_holds _ p l).2.2.2]
    rfl
  simp only [walkEnded] at leaf records ⊢
  simp only [walkDone, waits, run, leaf, records]
  split
  next x fault => exact absurd (granted.symm.trans fault) (by simp)
  next => rfl

/-! ### Prefetches (R168 to R172) -/

@[simp] theorem heron_coreCtr (s : State) (p o n k : Nat) : ((coreCtr s p o n).core k).heron = (s.core k).heron :=
  congrArg Prod.snd (congrFun (congrArg Prod.snd (engineView_coreCtr s p o n)) k)

@[simp] theorem core_queueCtr (s : State) (q o n k : Nat) : (queueCtr s q o n).core k = s.core k := by
  rw [queueCtr]
  split <;> rfl

theorem prefetchLine_of_absent {s : State} {p l : Nat} {r : Rec}
    (unstaged : (s.core p).heron.stage.any (fun x => x.addr == l) = false) (still : flightOf s p l = none)
    (remote : homeDie l ≠ p / 64 → (s.die (p / 64)).rc.any (fun y => y.addr == l) = false ∧ r.hNoAlloc = false)
    (e id : Nat) (h : HRun) : ((prefetchLine p e r h id l s).core p).heron.flight
      = (s.core p).heron.flight ++ [⟨l, e, id, h.ref, homeDie l != p / 64, [], []⟩] := by
  have sent (t : State) (m : DieMsg) : ((sendMsg t m).core p).heron.flight = (t.core p).heron.flight := rfl
  by_cases away : homeDie l = p / 64
  · simp only [prefetchLine, unstaged, still, away, bne_self_eq_false, Bool.false_and, Option.isSome_none, Bool.or_self,
      Bool.false_eq_true, if_false, flight_mapRun, core_setCore, core_queueCtr,
      heron_coreCtr]
  · obtain ⟨uncached, allocates⟩ := remote away
    simp only [prefetchLine, unstaged, still, uncached, allocates, bne_iff_ne.mpr away, Bool.and_false, Option.isSome_none,
      Bool.or_self, Bool.false_eq_true, if_false, if_true, sent, flight_mapRun, core_setCore, core_queueCtr,
      heron_coreCtr]

/-- R172: the lines that stay staged when one leaves. -/
theorem stage_unstage (s : State) (p l : Nat) :
    ((unstage s p l).core p).heron.stage = (s.core p).heron.stage.filter (fun y => !(y.addr == l)) := by
  rw [unstage]
  split
  next absent =>
    refine (List.filter_eq_self.mpr fun y hy => ?_).symm
    rw [Bool.not_eq_true', ← Bool.not_eq_true]
    exact List.find?_eq_none.mp absent y hy
  next x found =>
    split
    · rw [core_setCore]
    · rw [core_queueCtr, heron_coreCtr, core_setCore]

theorem unstage_mem (s : State) (p l : Nat) : (unstage s p l).mem = s.mem := by
  rw [unstage]
  split
  · rfl
  · split <;> rfl

/-- R168: a full staging buffer drops its oldest line for a new one. -/
theorem stageLine_eq {s : State} {p : Nat} (fits : (s.core p).heron.stage.length ≤ 2048) (l q : Nat) (used : Bool) :
    ∃ t : State, stageLine s p l q used = t.setCore p { t.core p with heron := { (t.core p).heron with
      stage := (t.core p).heron.stage ++ [⟨l, used, q⟩] } }
      ∧ (t.core p).heron.stage.length < 2048 ∧ t.mem = s.mem := by
  rw [stageLine]
  split
  next room => exact ⟨s, rfl, room, rfl⟩
  next full =>
    cases staged : (s.core p).heron.stage with
    | nil => rw [staged] at full; exact absurd (by decide) full
    | cons x xs =>
      refine ⟨unstage s p x.addr, rfl, ?_, unstage_mem ..⟩
      rw [staged, List.length_cons] at fits
      have kept := List.length_filter_le (fun y : StageLine => !(y.addr == x.addr)) xs
      rw [stage_unstage, staged, List.filter_cons_of_neg (by simp)]
      omega

/-! ### Answers (R164, R341) -/

theorem deliverSegs_of_read {s : State} {w : ReqId} {h : HRun} {q : HReq} (found : findReq s w = some (h, q))
    (read : q.wr = false) (take : HSeg → Bool) (mk : State → List HSeg → List Chunk) : deliverSegs s w take mk
      = heronRetire (keepSegs (heronDeliver s w.p w.eng (mk s (q.segs.filter take))) w (fun g => !take g)) w.p w.eng w.id := by
  simp only [deliverSegs, found, read, Bool.false_eq_true, if_false]

/-- A read of HBM is served from memory as it stands, after detection. -/
theorem readResponse_inHbm {s : State} {p e id : Nat} {h : HRun} {q : HReq} {g : HSeg}
    (found : findReq s ⟨p, e, id⟩ = some (h, q)) (read : q.wr = false) (own : q.dev = none) (hbm : inHbm q.far = true)
    (segs : q.segs = [g]) (ready : g.wait = false) (dt : Nat) (data : List Byte) (err : Bool) :
    readResponse s p e id dt data err = deliverSegs (detect s g.far g.len) ⟨p, e, id⟩ (fun x => !x.wait) memChunks := by
  have low : q.far < 0x20000000000 := of_decide_eq_true hbm
  have regs : inRegs q.far = false := by rw [inRegs, decide_eq_false (by omega), Bool.false_and]
  simp only [readResponse, found, read, own, guestOf_of_inHbm hbm, regs, segs, ready, List.filter_cons, List.filter_nil,
    Bool.not_false, if_true, List.isEmpty_cons, Bool.or_self, Bool.false_eq_true, if_false, detectSegs, List.foldl_cons,
    List.foldl_nil]

theorem readResponse_of_guest {s : State} {p e id g : Nat} {h : HRun} {q : HReq} {data : List Byte}
    (found : findReq s ⟨p, e, id⟩ = some (h, q)) (read : q.wr = false) (own : q.dev = none) (window : guestOf q.far = some g)
    (serves : guestServes s g q.far = true) (some : (q.segs.filter (fun x => !x.wait)) ≠ []) (whole : data.length = q.total)
    (dt : Nat) : readResponse s p e id dt data false
      = deliverSegs s ⟨p, e, id⟩ (fun x => !x.wait) (fun _ gs => dataChunks q.far data (fun _ => false) gs) := by
  have waits : (q.segs.filter (fun x => !x.wait)).isEmpty = false := by rwa [List.isEmpty_eq_false_iff]
  simp only [readResponse, found, read, own, window, serves, waits, whole, Bool.or_self, Bool.not_true, Bool.false_eq_true,
    if_false, if_true]

section WriteAck
variable {s : State} {p e id : Nat} {h : HRun} {q : HReq} (found : findReq s ⟨p, e, id⟩ = some (h, q)) (write : q.wr = true)
include found write

theorem writeAck_of_served
    (served : ∀ g, q.dev = none → guestOf q.far = some g → guestServes s g q.far = true) :
    writeAck s p e id = heronRetire (keepSegs s ⟨p, e, id⟩ (fun x => x.wait)) p e id := by
  cases own : q.dev with
  | some d => simp only [writeAck, found, write, own, if_true]
  | none =>
    cases window : guestOf q.far with
    | none => simp only [writeAck, found, write, own, window, if_true]
    | some g => simp only [writeAck, found, write, own, window, served g own window, if_true]

/-- R341, R344: a write to a window that refuses it by now was discarded. -/
theorem writeAck_of_refused {g : Nat} (own : q.dev = none) (window : guestOf q.far = some g)
    (refused : guestServes s g q.far = false) : writeAck s p e id
      = heronRetire (keepSegs (guestWindowErr s p e g q.far) ⟨p, e, id⟩ (fun x => x.wait)) p e id := by
  simp only [writeAck, found, write, own, window, refused, Bool.false_eq_true, if_false, if_true]

end WriteAck

/-! ### The scrubber (R180 to R184) -/

theorem scrubAt_of_served {a : Nat} {s : State} (active : s.pst = .active) (memory : (inHbm a || inCs a) = true)
    (target : paStatus s a = none) (alive : lateDie s a = false) (found : Nat) : scrubAt s a found =
      sramSweep (detectUnit (if found = 1 then
          if inCs a then coreCtr s (csCore a) 0x1C8 1 else { s with hbmCorr := ctrAdd s.hbmCorr (homeStack a) 1 }
        else if found = 2 ∧ !s.poison.contains (unitOf a) then { s with latent := setIns s.latent (unitOf a) } else s)
        (unitOf a)) := by
  simp only [scrubAt, active, memory, target, alive, ne_eq, not_true, decide_false, Bool.not_true, Option.isSome_none,
    Bool.or_self, Bool.false_eq_true, if_false]

theorem scrubAt_clean {a : Nat} {s : State} (active : s.pst = .active) (memory : (inHbm a || inCs a) = true)
    (target : paStatus s a = none) (alive : lateDie s a = false) (sound : s.latent.contains (unitOf a) = false) :
    scrubAt s a 0 = sramSweep s := by
  rw [scrubAt_of_served active memory target alive, if_neg (by decide), if_neg (by simp), detectUnit_of_clean sound]

/-- R180: a corrected error is counted, and nothing else is. -/
theorem scrubAt_corrected {a : Nat} {s : State} (active : s.pst = .active) (memory : (inHbm a || inCs a) = true)
    (target : paStatus s a = none) (alive : lateDie s a = false) (sound : s.latent.contains (unitOf a) = false) :
    scrubAt s a 1 = sramSweep (if inCs a = true then coreCtr s (csCore a) 0x1C8 1
      else { s with hbmCorr := ctrAdd s.hbmCorr (homeStack a) 1 }) := by
  rw [scrubAt_of_served active memory target alive, if_pos rfl, detectUnit_of_clean]
  split
  · exact sound
  · exact sound

/-- R182, R184: a unit that shows an uncorrectable error is poisoned, and has no latent error left. -/
theorem detectUnit_of_bad {t : State} {u : Nat} (bad : t.latent.contains u = true ∨ t.poison.contains u = true) :
    (detectUnit t u).poison.contains u = true ∧ (detectUnit t u).latent.contains u = false := by
  cases h : t.latent.contains u with
  | false =>
    rw [detectUnit_of_clean h]
    exact ⟨bad.resolve_left (by rw [h]; exact Bool.false_ne_true), h⟩
  | true =>
    obtain ⟨poison, latent, -⟩ := detectUnit_of_latent h
    rw [poison, latent, contains_setIns, contains_setDel, beq_self_eq_true, bne_self_eq_false, Bool.or_true, Bool.and_false]
    exact ⟨rfl, rfl⟩

theorem scrubAt_uncorrectable {a : Nat} {s : State} (active : s.pst = .active) (memory : (inHbm a || inCs a) = true)
    (target : paStatus s a = none) (alive : lateDie s a = false) : ∃ u, scrubAt s a 2 = sramSweep u
      ∧ u.poison.contains (unitOf a) = true ∧ u.latent.contains (unitOf a) = false ∧ u.mem = s.mem := by
  have detected (t : State) (bad : t.latent.contains (unitOf a) = true ∨ t.poison.contains (unitOf a) = true)
      (mem : t.mem = s.mem) : (detectUnit t (unitOf a)).poison.contains (unitOf a) = true
        ∧ (detectUnit t (unitOf a)).latent.contains (unitOf a) = false ∧ (detectUnit t (unitOf a)).mem = s.mem :=
    ⟨(detectUnit_of_bad bad).1, (detectUnit_of_bad bad).2, (congrArg ArrayView.mem (arrayView_detectUnit t _)).trans mem⟩
  refine ⟨_, scrubAt_of_served active memory target alive 2, ?_⟩
  rw [if_neg (by decide)]
  split
  · exact detected _ (.inl (by rw [contains_setIns, beq_self_eq_true, Bool.or_true])) rfl
  next known => exact detected s (.inr (by simpa using known)) rfl

end Sys2Proof.Machine

namespace Sys2Proof.Machine

/-- Settles O53: what an engine forms next by `demandItem_move` and `demandAccess`, a request that enters by `issueAt_inHbm`,
a walk by `walkDone_of_granted`, delivery by `CleanPiece.delivered`. -/
theorem heronEnginesMoveTheirStreams : Obligations.HeronEnginesMoveTheirStreams := by
  unfold Obligations.HeronEnginesMoveTheirStreams
  refine ⟨?demand, ?prefetch, ?idle, ?done, ?skip, ?outside, ?move, ?issue, ?line, ?walk, ?read, ?guest, ?ack, ?fill, ?stage,
    ?scrub⟩
  case demand =>
    intro p e dt bad s r h runs
    exact congrArg Host.Outcome.next (heronIssue_of_runs runs dt bad)
  case prefetch =>
    intro p e dt bad s r h active on run found
    exact congrArg Host.Outcome.next (heronIssue_prefetch active on run found dt bad)
  case idle =>
    intro p e pf dt bad s idle
    exact congrArg Host.Outcome.next (heronIssue_of_idle idle pf dt bad)
  case done =>
    intro p e dt bad s r h run item
    exact demandItem_done run item dt bad
  case skip =>
    rintro p e dt near len bad s _ r h run item rfl
    obtain ⟨t, passed, mem, -⟩ := demandItem_skip run item dt bad
    refine ⟨fun zero a => ?_, fun keep => ?_, run_demandItem_skip run item dt bad⟩
    · rw [readByte, passed, mapRun_mem]
      refine (readByte_zeroNear zero t p near len a).trans ?_
      rw [readByte, mem, readByte]
    · rw [passed, mapRun_mem, zeroNear, keep, if_neg Bool.false_ne_true, mem]
  case outside =>
    rintro p e dt near len far bad s _ r h run item first outside sound rfl
    rw [demandItem_outside item first outside]
    exact ⟨run_heronFault run sound .., st_heronFault .., heronFault_mem ..⟩
  case move =>
    rintro p e dt near len _ far bad s r h _ run item inside rfl rfl
    rw [demandItem_move item inside]
    refine ⟨fun full => if_pos full, fun room fab => ?_, fun room near miss walks => ?_, fun room near miss full => ?_,
      fun lf f room near hit denied sound => ?_, fun lf x st room near hit granted refused sound => ?_,
      fun lf x room near hit granted target => ?_⟩
    all_goals rw [if_neg (Nat.not_le_of_lt room)]
    · exact if_pos fab
    all_goals rw [near, if_neg Bool.false_ne_true]
    · rw [demandAccess_miss dt e bad miss]
      exact startWalk_of_room walks ..
    · rw [demandAccess_miss dt e bad miss]
      exact if_pos full
    · rw [demandAccess_denied dt e bad hit denied]
      exact ⟨run_heronFault (by rw [heng_ctxCtr, run]) sound .., (heronFault_mem ..).trans (ctxCtr_mem ..)⟩
    · rw [demandAccess_refused dt e bad hit granted refused]
      exact ⟨run_heronFault run sound .., heronFault_mem ..⟩
    · exact demandAccess_granted dt e bad hit granted target
  case issue =>
    intro p e dt a pa bad s r h run
    refine ⟨fun waits => ?_, ?_⟩
    · rw [issueAt_eq rfl, if_pos waits]
    · rintro x rfl hx free
      obtain ⟨t, q, c, entered, kept, far, wr, num⟩ := issueAt_inHbm hx free dt bad
      obtain ⟨k, running, out, reqs⟩ := run_of_entered run kept q c
      exact ⟨k, q, by rw [entered, running], out, far, wr, num, reqs⟩
  case line =>
    intro p e id l s r h unstaged still remote
    exact prefetchLine_of_absent unstaged still remote e id h
  case walk =>
    intro p e s va h l a waits run found granted
    obtain ⟨held, kept, mem, queues⟩ := tlbFill_holds (walkEnded s p (engNo e) h) p l
    refine ⟨_, congrArg Host.Outcome.next (walkDone_of_granted waits run found granted), ?_, ?_, held, mem, queues⟩
    all_goals rw [heng_of_engines kept, walkEnded, heng_setHeng]
  case read =>
    intro p e id dt data err s h q g found read own hbm segs ready last clean
    have piece : CleanPiece s g := ⟨last, clean⟩
    have answer := readResponse_inHbm found read own hbm segs ready dt data err
    rw [detect_of_clean clean, deliverSegs_of_read found read] at answer
    simp only [segs, ready, List.filter_cons, List.filter_nil, Bool.not_false, if_true, Bool.not_not] at answer
    exact ⟨_, congrArg (fun t => Host.Outcome.next (sramSweep t)) answer, piece.delivered p (engNo e)⟩
  case guest =>
    intro p e id dt data s h q g found read own window serves some whole
    exact congrArg (fun t => Host.Outcome.next (sramSweep t))
      (readResponse_of_guest found read own window serves some whole dt)
  case ack =>
    intro p e id s h q found write
    exact ⟨fun served => congrArg Host.Outcome.next (writeAck_of_served found write served),
      fun g own window refused => congrArg Host.Outcome.next (writeAck_of_refused found write own window refused)⟩
  case fill =>
    intro p i s f flight own
    obtain ⟨data, bad⟩ := readLine_eq s f.addr
    show Host.Outcome.next _ = _
    simp only [flight, own, Bool.false_eq_true, if_false, data, bad]
  case stage =>
    intro s p l q used fits
    obtain ⟨t, staged, room, mem⟩ := stageLine_eq fits l q used
    rw [staged, core_setCore]
    refine ⟨List.getLast?_concat .., ?_, mem⟩
    rw [List.length_append]
    exact room
  case scrub =>
    intro a s active memory target alive
    refine ⟨?_, fun sound => ⟨congrArg Host.Outcome.next (scrubAt_clean active memory target alive sound),
      congrArg Host.Outcome.next (scrubAt_corrected active memory target alive sound)⟩⟩
    obtain ⟨u, scrubbed, marked⟩ := scrubAt_uncorrectable active memory target alive
    exact ⟨u, congrArg Host.Outcome.next scrubbed, marked⟩

end Sys2Proof.Machine

namespace Sys2Proof.Machine

/-- Settles O59: every field of `State.reset` as it is written, and an unlisted unit reads its default. -/
theorem resetIsStandbyWithNothingRunning : Obligations.ResetIsStandbyWithNothingRunning := by
  unfold Obligations.ResetIsStandbyWithNothingRunning
  refine ⟨rfl, rfl, rfl, rfl, fun p => ⟨?_, rfl, rfl⟩, fun _ => rfl, fun _ => ⟨rfl, rfl, rfl⟩, fun _ => rfl, rfl, rfl, rfl, rfl,
    fun c => ?_, fun _ => rfl, fun _ => rfl⟩
  · exact BitVec.getLsbD_zero
  · cases c <;> rfl

end Sys2Proof.Machine

namespace Sys2Proof.Machine

section
variable {s : State} {q n : Nat} {r : Rec}

/-- R231: a record that starts under its opcode passes to its command's own checks. -/
theorem Starts.ready (h : Starts s q n r) {own : Rec → Bool} (ho : own r = true) : ready s q n own = some r := by
  simp [Machine.ready, h.found, h.active, h.may, ho]

theorem Starts.dispatch (h : Starts s q n r) {own : Rec → Bool} (ho : own r = true) (f : Rec → State) :
    dispatch s q n own f = f r := by
  rw [Machine.dispatch, h.ready ho]
  exact if_neg (not_not_intro h.header)

theorem st_of_mayStart {x : Queue} (h : mayStart x r = true) : r.st = .fetched := by
  have fetched : r.isFetched = true := by
    simp only [mayStart, Bool.and_eq_true] at h
    exact h.1.1.1.1.1
  cases st : r.st with
  | fetched => rfl
  | waiting | started | done => simp [Rec.isFetched, st] at fetched

/-- A record that starts has not waited in place before. -/
theorem Starts.dispatchOrRetry (h : Starts s q n r) {own : Rec → Bool} (ho : own r = true) (f : Rec → State) :
    dispatchOrRetry s q n own f = f r := by
  simp only [Machine.dispatchOrRetry, h.found, st_of_mayStart h.may, h.dispatch ho f]
  exact if_neg (by simp)

theorem isOp_eq_true {o : Nat} (h : r.opcode = o) : isOp o r = true := beq_iff_eq.mpr h

theorem firstStatus_of_passes {l : List (Bool × Nat)} (h : ∀ e ∈ l, e.1 = false) : firstStatus l = 0 := by
  induction l with
  | nil => rfl
  | cons e l ih =>
    obtain ⟨bad, st⟩ := e
    obtain rfl : bad = false := h (bad, st) List.mem_cons_self
    exact ih fun e he => h e (List.mem_cons_of_mem _ he)

/-- Checks that all pass leave a command to its effect. -/
theorem checked_of_passes {l : List (Bool × Nat)} (h : ∀ e ∈ l, e.1 = false) (c : CmdRef) (k : State) :
    checked s c l k = k := by
  rw [checked, firstStatus_of_passes h]
  exact if_neg (not_not_intro rfl)

end

/-- Settles O20: each record passes its own checks, which its hypotheses name one by one. -/
theorem controlRecordsComplete : Obligations.ControlRecordsComplete := by
  unfold Obligations.ControlRecordsComplete
  refine ⟨?nop, ?tickWait, ?epoch, ?hint⟩
  case nop =>
    intro q n s r starts op zero
    refine congrArg Host.Outcome.next ((starts.dispatch (by simp [op]) _).trans (checked_of_passes ?_ _ _))
    simp [zero]
  case tickWait =>
    intro q n s r f starts op zero running first grouped
    have own : (r.b 128 && !(s.queue q).groupEn) = false := by
      cases hb : r.b 128 with
      | false => rfl
      | true => simp [grouped hb]
    refine congrArg Host.Outcome.next ((starts.dispatch (isOp_eq_true op) _).trans ?_)
    simp only [running, Option.getD_some]
    refine checked_of_passes ?_ _ _
    simp [zero, first, own]
  case epoch =>
    intro q n s r starts op zero next
    refine congrArg Host.Outcome.next ((starts.dispatch (isOp_eq_true op) _).trans (checked_of_passes ?_ _ _))
    simp [zero, next]
  case hint =>
    intro q n s r starts op zero load phase
    refine congrArg Host.Outcome.next ((starts.dispatch (isOp_eq_true op) _).trans (checked_of_passes ?_ _ _))
    simp [zero, load, phase]

theorem tokenVal_lt (t : Nat) : tokenVal t < 2 ^ 38 := Nat.mod_lt _ (by decide)

/-- R217: a raised counter takes the maximum. -/
theorem fenceRaise_eq (s : State) (i v : Nat) : fenceRaise s i v =
    s.setFence i { s.fence i with val := BitVec.ofNat 38 (max (s.fence i).val.toNat v) } := by
  rw [fenceRaise]
  congr 2
  split
  next less => rw [Nat.max_eq_right less.le]
  next reached => rw [Nat.max_eq_left (Nat.le_of_not_lt reached), BitVec.ofNat_toNat, BitVec.setWidth_eq]

/-- Settles O21: a local token raises its counter (`fenceRaise_eq`), and a wait looks at the counter as it stands. -/
theorem fencesRaiseAndWait : Obligations.FencesRaiseAndWait := by
  unfold Obligations.FencesRaiseAndWait
  refine ⟨?signal, ?wait⟩
  case signal =>
    rintro q n s r _ _ starts op zero here rfl rfl owner
    refine congrArg Host.Outcome.next ((starts.dispatch (isOp_eq_true op) _).trans ?_)
    rw [checked_of_passes (by simp [zero, owner]), here, beq_self_eq_true, if_pos rfl]
    have raised := fenceRaise_val (s := s) (i := tokenCtr (r.w 1)) (tokenVal_lt (r.w 1))
    simp only [raised]
    rw [fenceRaise_eq]
  case wait =>
    rintro q n s r _ starts op zero here rfl owner
    have passes : fenceWaitStatus s q (r.w 1) = 0 := by simp [fenceWaitStatus, here, owner]
    refine congrArg Host.Outcome.next ((starts.dispatchOrRetry (isOp_eq_true op) _).trans (checked_of_passes ?_ _ _))
    simp [zero, passes]


/-! ### Records of the hub's streams -/

/-- A record is found as a change to it leaves it. -/
theorem findRec_mapRec {s : State} {c : CmdRef} {r : Rec} (found : findRec s c = some r) {f : Rec → Rec}
    (keeps : ∀ x, (f x).n = x.n) : findRec (mapRec s c f) c = some (f r) := by
  have named (x : Rec) : (if x.n == c.n then f x else x).n = x.n := by split <;> simp [keeps]
  obtain ⟨own, -⟩ := List.find?_eq_some_iff_append.mp found
  have same : (fun x : Rec => (if x.n == c.n then f x else x).n == c.n) = fun x => x.n == c.n := by
    funext x; rw [named]
  rw [findRec] at found
  simp only [findRec, mapRec, queue_setQueue, List.find?_map, Function.comp_def, same, found, Option.map_some, own, if_true]

/-- Record `c` waits in a stream of the hub from the last tick on. -/
def hubWaits (s : State) (c : CmdRef) : State := mapRec s c fun r => { r with st := .waiting, at_ := s.tick.last }

theorem findRec_hubWaits {s : State} {c : CmdRef} {r : Rec} (found : findRec s c = some r) :
    findRec (hubWaits s c) c = some { r with st := .waiting, at_ := s.tick.last } :=
  findRec_mapRec found (f := fun r => { r with st := .waiting, at_ := s.tick.last }) fun _ => rfl

/-- The collectives are one run, each for the operations that are its own. -/
theorem exec_of_collRow {c : Fin 64 → Nat → Instr} {op : Nat} (row : CollRow c op) (q : Fin 64) (n : Nat) (s : State) :
    ∃ own : Nat → Bool, own op = true ∧ exec (c q n) s = .next (collRun s q n own) := by
  rcases row with ⟨rfl, rfl⟩ | ⟨rfl, rfl⟩ | ⟨rfl, rfl⟩ | ⟨rfl, rfl⟩ | ⟨rfl, rfl⟩ | ⟨rfl, rfl⟩ | ⟨rfl, rfl⟩ | ⟨rfl, rfl⟩
  all_goals exact ⟨_, by decide, rfl⟩

section
variable {s : State} {q n : Nat} {r : Rec}

theorem collRun_of_passes (starts : Starts s q n r) (op : r.opcode = 0x10) {own : Nat → Bool} (mine : own r.cOp = true)
    (passes : firstStatus (collChecks s q r) = 0) : collRun s q n own =
      collKick { hubWaits s ⟨q, n⟩ with hubq := { s.hubq with coll := s.hubq.coll ++ [⟨q, n⟩] } } := by
  have found := starts.ready (own := fun r => r.opcode == 0x10 && own r.cOp) (by simp [op, mine])
  simp only [collRun, found, starts.header, passes, ne_eq, not_true_eq_false, if_false]
  rfl

theorem updDispatch_of_passes (starts : Starts s q n r) (op : r.opcode = 0x11) (passes : updChecks s ⟨q, n⟩ r = 0) :
    updDispatch s q n = { hubWaits s ⟨q, n⟩ with hubq := { s.hubq with upd := s.hubq.upd ++ [⟨q, n⟩] } } := by
  have found := starts.ready (own := fun r => r.opcode == 0x11) (by simp [op])
  simp only [updDispatch, found, starts.header, passes, ne_eq, not_true_eq_false, if_false]
  rfl

end

/-- Settles O24: the record waits (`hubWaits`), and its reference stands last in its stream. -/
theorem hubRecordsEnterTheirStream : Obligations.HubRecordsEnterTheirStream := by
  unfold Obligations.HubRecordsEnterTheirStream
  refine ⟨?collective, ?update⟩
  case collective =>
    rintro c _ q n s r row starts opcode rfl passes
    obtain ⟨own, mine, ran⟩ := exec_of_collRow row q n s
    exact ⟨_, ran.trans (congrArg Host.Outcome.next (collRun_of_passes starts opcode mine passes)), rfl,
      findRec_hubWaits starts.found, rfl, rfl, rfl, rfl⟩
  case update =>
    intro q n s r starts opcode passes
    exact ⟨_, congrArg Host.Outcome.next (updDispatch_of_passes starts opcode passes), rfl, findRec_hubWaits starts.found,
      rfl, rfl, rfl, rfl⟩

/-! ### Frames at a tick (R193, R194) -/

theorem startFrame_of_ready {s : State} {q tk n : Nat} {r : Rec} (active : s.pst = .active) (stays : s.pwr.exiting = false)
    (running : (s.queue q).st = .running) (idle : (s.queue q).frame = none) (free : queueHolds s q tk = false)
    (locked : (s.queue q).groupEn = true → s.tick.lock ≠ 2) (len : nextFrameLen s q = some n)
    (first : peekRec s q (s.queue q).next = some r) (cond : startCond s q r tk = true) : startFrame s q tk =
      queueCtr (s.setQueue q { s.queue q with
        frame := some { first := (s.queue q).next, len := n, startTick := tk, closing := tk + tickStep s.tick.sel }
        next := (s.queue q).next + n }) q 0x148 1 := by
  have unlocked : ((s.queue q).groupEn && s.tick.lock == 2) = false := by
    cases grouped : (s.queue q).groupEn with
    | false => rfl
    | true => simpa using locked grouped
  simp [startFrame, active, stays, running, idle, free, unlocked, len, first, cond]

/-- Settles O41: the frame that `startFrame_of_ready` gives the queue, with one more frame counted. -/
theorem framesStartAtTicks : Obligations.FramesStartAtTicks := by
  unfold Obligations.FramesStartAtTicks
  intro s q tk n r active stays running idle free locked len first cond
  rw [startFrame_of_ready active stays running idle free locked len first cond]
  refine ⟨by simp [queueCtr], by simp [queueCtr], fun p other => ?_, rfl, rfl, rfl⟩
  simp [queueCtr, other]

end Sys2Proof.Machine

namespace Sys2Proof.Machine

/-! ### What a walk counted leaves (R545) -/

/-- Nothing but the counters of translation contexts differs. -/
def OnlyWalksCounted (s u : State) : Prop := ∃ xlat, u = { s with xlat := xlat } ∧ ∀ c, (u.ctx c).root = (s.ctx c).root

theorem ctxCtr_onlyWalksCounted (s : State) (c o n : Nat) : OnlyWalksCounted s (ctxCtr s c o n) := by
  rw [ctxCtr]
  split
  · exact ⟨_, rfl, fun _ => rfl⟩
  · refine ⟨_, rfl, fun k => ?_⟩
    by_cases own : k = c
    · rw [own, ctx_setCtx]
    · rw [ctx_setCtx_ne _ _ _ _ own]

theorem vnote_onlyWalksCounted (s : State) (c va n : Nat) (f : Option Nat) : OnlyWalksCounted s (vnote s c va n f) := by
  obtain ⟨_, walks, roots⟩ := ctxCtr_onlyWalksCounted s c 0x118 (if n = 0 then 0 else (va + n - 1) / 65536 - va / 65536 + 1)
  obtain ⟨xlat, faults, kept⟩ := ctxCtr_onlyWalksCounted (ctxCtr s c 0x118
    (if n = 0 then 0 else (va + n - 1) / 65536 - va / 65536 + 1)) c 0x120 (if f = some 0x20 ∨ f = some 0x21 then 1 else 0)
  refine ⟨xlat, faults.trans ?_, fun k => (kept k).trans (roots k)⟩
  rw [walks]

section
variable {s u : State} (h : OnlyWalksCounted s u)
include h

theorem OnlyWalksCounted.xlate (c a : Nat) (wr : Bool) : xlate u c a wr = xlate s c a wr := by
  obtain ⟨xlat, rfl, roots⟩ := h
  have walked : walk { s with xlat := xlat } c a = walk s c a := by
    simp only [walk, roots]
    rw [walkFrom_others s s.cores xlat]
  rw [Machine.xlate, walked]
  rfl

theorem OnlyWalksCounted.vread (c va n : Nat) : vread u c va n = vread s c va n := by
  simp only [Machine.vread, h.xlate]
  obtain ⟨xlat, rfl, -⟩ := h
  rfl

end

/-! ### Reads that meet no error (R184) -/

/-- One piece of a translated read. -/
def vreadPiece (s : State) (c : Nat) (r : VRead) (pc : Nat × Nat) : VRead :=
  match r.fault with
  | some _ => r
  | none =>
    match xlate s c pc.1 false with
    | .fault x => { r with fault := some x }
    | .pa a =>
      if inHbm a || inCs a then
        { r with data := r.data ++ readBytes s a pc.2, bad := r.bad || rangeBad s a pc.2 }
      else { r with fault := some 0x25 }

/-- What detection does over one piece. -/
def vdetectPiece (s : State) (c : Nat) (t : State) (pc : Nat × Nat) : State :=
  match xlate s c pc.1 false with
  | .fault _ => t
  | .pa a => if inHbm a || inCs a then detect t a pc.2 else t

theorem vreadPiece_sound {s : State} {c : Nat} {r : VRead} {pc : Nat × Nat} (fault : (vreadPiece s c r pc).fault = none)
    (clean : (vreadPiece s c r pc).bad = false) : (r.fault = none ∧ r.bad = false) ∧ vdetectPiece s c s pc = s := by
  unfold vreadPiece at fault clean
  unfold vdetectPiece
  cases was : r.fault with
  | some x => simp [was] at fault
  | none =>
    simp only [was] at fault clean
    cases target : xlate s c pc.1 false with
    | fault x => simp [target] at fault
    | pa a =>
      simp only [target] at fault clean ⊢
      cases memory : inHbm a || inCs a with
      | false => simp [memory] at fault
      | true =>
        simp only [memory, if_true, Bool.or_eq_false_iff] at clean
        exact ⟨⟨trivial, clean.1⟩, detect_of_clean clean.2⟩

/-- A fold whose every step leaves the state leaves it. -/
theorem foldl_eq_self {α β : Type} {g : β → α → β} {b : β} {l : List α} (h : ∀ x ∈ l, g b x = b) : l.foldl g b = b := by
  induction l with
  | nil => rfl
  | cons x l ih =>
    rw [List.foldl_cons, h x List.mem_cons_self]
    exact ih fun y hy => h y (List.mem_cons_of_mem _ hy)

theorem vreadPieces_sound {s : State} {c : Nat} {l : List (Nat × Nat)} {r : VRead}
    (fault : (l.foldl (vreadPiece s c) r).fault = none) (clean : (l.foldl (vreadPiece s c) r).bad = false) :
    (r.fault = none ∧ r.bad = false) ∧ ∀ pc ∈ l, vdetectPiece s c s pc = s := by
  induction l generalizing r with
  | nil => exact ⟨⟨fault, clean⟩, fun _ h => absurd h List.not_mem_nil⟩
  | cons pc l ih =>
    obtain ⟨⟨hf, hc⟩, rest⟩ := ih fault clean
    obtain ⟨sound, still⟩ := vreadPiece_sound hf hc
    exact ⟨sound, List.forall_mem_cons.mpr ⟨still, rest⟩⟩

/-- A read without a fault and without poison has met no error to detect. -/
theorem vdetect_of_clean {s : State} {c va n : Nat} (fault : (vread s c va n).fault = none)
    (clean : (vread s c va n).bad = false) : vdetect s c va n = s :=
  foldl_eq_self (g := vdetectPiece s c) (vreadPieces_sound fault clean).2

/-! ### Fetch (R192, R196, R235) -/

theorem forUp_const_succ {σ : Type} (g : σ → σ) (k : Nat) (s : σ) :
    forUp (k + 1) (fun _ => g) s = forUp k (fun _ => g) (g s) := by
  simp only [forUp, List.foldl_const, List.length_range, Function.iterate_succ_apply]

/-- The fetch of an Active package fetches one record and then those that follow. -/
theorem commandFetch_eq {s : State} {q : Fin 64} {k : Nat} (active : s.pst = .active) (room : (s.queue q).fetchRoom = k + 1) :
    exec (.commandFetch q) s = .next (sramSweep (forUp k (fun _ t => fetchOne t q) (fetchOne s q))) := by
  refine congrArg Host.Outcome.next ((if_pos (by rw [active]; rfl)).trans ?_)
  rw [fetchAll, room]
  exact congrArg sramSweep (forUp_const_succ (fun t => fetchOne t q) k s)

section
variable {s : State} {q : Nat} {v : VRead} (running : (s.queue q).st = .running)
  (reads : v = vread s (s.queue q).ctxNo ((s.queue q).recVa (s.queue q).fetched) 64)
include running reads

/-- A record that cannot be read, or reads an uncorrectable error, stops the queue with RING_FAULT. -/
theorem fetchOne_of_unreadable (bad : v.fault ≠ none ∨ v.bad = true) : fetchOne s q =
    stopQueue (vdetect (vnote s (s.queue q).ctxNo ((s.queue q).recVa (s.queue q).fetched) 64 v.fault) (s.queue q).ctxNo
      ((s.queue q).recVa (s.queue q).fetched) 64) q 0x26 := by
  have stops : (v.fault.isSome || v.bad) = true := by
    rw [Bool.or_eq_true, Option.isSome_iff_ne_none]
    exact bad
  simp only [fetchOne, running, ← reads, stops, ne_eq, not_true_eq_false, if_false, if_true]

/-- A record that ends its frame and reads without an error is appended, and nothing but walks is counted. -/
theorem fetchOne_of_last (fault : v.fault = none) (clean : v.bad = false) (last : (ofLE v.data).testBit 10 = true) :
    ∃ t, OnlyWalksCounted s t ∧ fetchOne s q = t.setQueue q { s.queue q with
      fetched := (s.queue q).fetched + 1
      recs := (s.queue q).recs ++ [{ n := (s.queue q).fetched, word := BitVec.ofNat 512 (ofLE v.data), st := .fetched }] } := by
  have counted := vnote_onlyWalksCounted s (s.queue q).ctxNo ((s.queue q).recVa (s.queue q).fetched) 64 none
  refine ⟨_, counted, ?_⟩
  have still : vdetect _ (s.queue q).ctxNo ((s.queue q).recVa (s.queue q).fetched) 64 = _ :=
    vdetect_of_clean (by rw [counted.vread, ← reads, fault]) (by rw [counted.vread, ← reads, clean])
  have final : (Rec.mk (s.queue q).fetched (BitVec.ofNat 512 (ofLE v.data)) .fetched 0).last = true := by
    rw [Rec.last, Rec.b, BitVec.testBit_toNat, BitVec.getLsbD_ofNat, last]
    rfl
  have queues : (vnote s (s.queue q).ctxNo ((s.queue q).recVa (s.queue q).fetched) 64 none).queue q = s.queue q := by
    obtain ⟨_, eq, -⟩ := counted
    rw [eq]; rfl
  simp only [fetchOne, running, ← reads, fault, clean, still, final, queues, ne_eq, not_true_eq_false, if_false,
    Option.isSome_none, Bool.or_self, Bool.false_eq_true, Bool.not_true, Bool.false_and]

end

/-- Settles O17: the first of the records that a queue may fetch is appended (`fetchOne_of_last`) or stops the queue
(`fetchOne_of_unreadable`). -/
theorem fetchAppendsTheNextRecord : Obligations.FetchAppendsTheNextRecord := by
  unfold Obligations.FetchAppendsTheNextRecord
  refine ⟨?appends, ?stops⟩
  case appends =>
    intro q s k v active running room reads fault clean last
    refine ⟨_, commandFetch_eq active room, ?_⟩
    obtain ⟨_, ⟨xlat, rfl, -⟩, fetched⟩ := fetchOne_of_last running reads fault clean last
    rw [fetched, queue_setQueue]
    exact ⟨rfl, rfl, running, rfl, rfl, fun p other => queue_setQueue_ne _ _ _ _ other⟩
  case stops =>
    rintro q s v k _ _ active running room rfl rfl reads bad
    rw [commandFetch_eq active room, fetchOne_of_unreadable running reads bad]

end Sys2Proof.Machine
namespace Sys2Proof.Machine

/-! ### What ports that send leave (R366 to R372) -/

/-- Nothing differs but the registers of ports, their receive pools, the switch's counters, free values that were drawn and
what was sent; and no port has changed its state. -/
def PortsSend (s u : State) : Prop :=
  ∃ ports pools ctr freeN sent,
    u = { s with fab := { s.fab with ports := ports, pools := pools, ctr := ctr }, freeN := freeN, sent := sent }
      ∧ ∀ k, (u.port k).st = (s.port k).st

theorem PortsSend.refl (s : State) : PortsSend s s := ⟨_, _, _, _, _, rfl, fun _ => rfl⟩

theorem PortsSend.trans {s t u : State} (h : PortsSend s t) (k : PortsSend t u) : PortsSend s u := by
  obtain ⟨_, _, _, _, _, rfl, first⟩ := h
  obtain ⟨_, _, _, _, _, rfl, second⟩ := k
  exact ⟨_, _, _, _, _, rfl, fun j => (second j).trans (first j)⟩

theorem PortsSend.foldl {α : Type} {g : State → α → State} (hg : ∀ t e, PortsSend t (g t e)) (l : List α) (s : State) :
    PortsSend s (l.foldl g s) := by
  induction l generalizing s with
  | nil => exact .refl s
  | cons e l ih => exact (hg s e).trans (ih (g s e))

theorem PortsSend.forUp {g : Nat → State → State} (hg : ∀ i t, PortsSend t (g i t)) (n : Nat) (s : State) :
    PortsSend s (Machine.forUp n g s) := .foldl (fun t i => hg i t) _ s

theorem PortsSend.ite {s t u : State} (c : Prop) [Decidable c] (ht : PortsSend s t) (hu : PortsSend s u) :
    PortsSend s (if c then t else u) := by
  split <;> assumption

theorem portsSend_sent (s : State) (l : List Out) : PortsSend s { s with sent := l } := ⟨_, _, _, _, _, rfl, fun _ => rfl⟩

theorem portsSend_pools (s : State) (t : Tab Nat) : PortsSend s { s with fab := { s.fab with pools := t } } :=
  ⟨_, _, _, _, _, rfl, fun _ => rfl⟩

theorem portsSend_freeN (s : State) (n : Nat) : PortsSend s { s with freeN := n } := ⟨_, _, _, _, _, rfl, fun _ => rfl⟩

theorem portsSend_fabCtr (s : State) (o n : Nat) : PortsSend s (fabCtr s o n) := ⟨_, _, _, _, _, rfl, fun _ => rfl⟩

theorem portsSend_setPort {s : State} {k : Nat} {x : Port} (st : x.st = (s.port k).st := by rfl) : PortsSend s (s.setPort k x) := by
  refine ⟨_, _, _, _, _, rfl, fun j => ?_⟩
  by_cases own : j = k
  · rw [own, port_setPort, st]
  · rw [port_setPort_ne _ _ _ _ own]

theorem portsSend_portCtr (s : State) (k o n : Nat) : PortsSend s (portCtr s k o n) :=
  .ite _ (.refl s) portsSend_setPort

theorem portsSend_creditBack (s : State) (j v n fl : Nat) : PortsSend s (creditBack s j v n fl) :=
  .ite _ (.refl s) (.ite _ ((portsSend_pools s _).trans (portsSend_sent _ _)) (portsSend_pools s _))

theorem portsSend_flitForwarded (s : State) (p : Packet) : PortsSend s (flitForwarded s p) := by
  rw [flitForwarded]
  split
  · exact .refl s
  · exact portsSend_creditBack ..

theorem portsSend_pumpOne (s : State) (k : Nat) : PortsSend s (pumpOne s k) := by
  rw [pumpOne]
  refine .ite _ (.refl s) ?_
  split
  · exact PortsSend.trans portsSend_setPort ((portsSend_portCtr ..).trans (portsSend_sent ..))
  · split
    · exact .refl s
    · exact PortsSend.trans portsSend_setPort
        ((portsSend_portCtr ..).trans ((portsSend_sent ..).trans (portsSend_flitForwarded ..)))

theorem portsSend_pump (s : State) (k : Nat) : PortsSend s (pump s k) := .forUp (fun _ t => portsSend_pumpOne t k) _ s

theorem portsSend_sendCtl (s : State) (k : Nat) (m : CtlMsg) : PortsSend s (sendCtl s k m) :=
  .ite _ (PortsSend.trans portsSend_setPort (portsSend_pump ..)) (.refl s)

theorem portsSend_flood (s : State) (from_ : Option Nat) (m : CtlMsg) : PortsSend s (flood s from_ m) :=
  .foldl (fun t _ => .ite _ (.refl t) (portsSend_sendCtl ..)) _ s

theorem portsSend_forwardGroup (s : State) (from_ : Option Nat) (gid : Nat) (m : CtlMsg) :
    PortsSend s (forwardGroup s from_ gid m) := by
  rw [forwardGroup]
  split
  · exact .refl s
  · exact .foldl (fun t _ => .ite _ (.refl t) (portsSend_sendCtl ..)) _ s

theorem portsSend_queuePacket (s : State) (k : Nat) (p : Packet) : PortsSend s (queuePacket s k p) :=
  PortsSend.trans portsSend_setPort (portsSend_pump ..)

theorem portsSend_nonMinimal (s : State) (p : Packet) (mask : Nat) : PortsSend s (nonMinimal s p mask).2 := by
  simp only [nonMinimal]
  split
  · exact .refl s
  · split
    · split <;> exact portsSend_freeN ..
    · exact portsSend_freeN ..

theorem portsSend_inject (s : State) (p : Packet) : PortsSend s (inject s p).1 := by
  simp only [inject]
  split
  · exact (portsSend_nonMinimal ..).trans (portsSend_queuePacket ..)
  · exact (portsSend_nonMinimal ..).trans (portsSend_fabCtr ..)

theorem portsSend_rxFlits (s : State) (k n : Nat) : PortsSend s (rxFlits s k n) :=
  PortsSend.trans portsSend_setPort (portsSend_sent ..)

theorem portsSend_arrive (s : State) (k : Nat) (p : Packet) : PortsSend s (arrive s k p) :=
  (portsSend_pools ..).trans (PortsSend.trans portsSend_setPort (portsSend_rxFlits ..))

theorem portsSend_takePacket (s : State) (k : Nat) (p : Packet) : PortsSend s (takePacket s k p) :=
  (portsSend_arrive ..).trans (portsSend_creditBack ..)

theorem portsSend_answer (s : State) (p a : Packet) : PortsSend s (answer s p a) := portsSend_inject ..

section
variable {s u : State} (h : PortsSend s u)
include h

theorem PortsSend.units : SameUnits s u := by
  obtain ⟨_, _, _, _, _, rfl, -⟩ := h
  exact ⟨rfl, rfl, rfl, rfl, rfl, rfl, rfl, rfl, rfl, rfl, rfl⟩

theorem PortsSend.tick : u.tick = s.tick := by obtain ⟨_, _, _, _, _, rfl, -⟩ := h; rfl
theorem PortsSend.pst : u.pst = s.pst := by obtain ⟨_, _, _, _, _, rfl, -⟩ := h; rfl
theorem PortsSend.devId : devId u = devId s := by obtain ⟨_, _, _, _, _, rfl, -⟩ := h; rfl
theorem PortsSend.slotOf (gid : Nat) : slotOf u gid = slotOf s gid := by obtain ⟨_, _, _, _, _, rfl, -⟩ := h; rfl
theorem PortsSend.group (gid : Nat) : u.group gid = s.group gid := by rw [State.group, h.tick, State.group]
theorem PortsSend.portUp (k : Nat) : portUp u k = portUp s k := by
  obtain ⟨_, _, _, _, _, _, same⟩ := h
  rw [Machine.portUp, Machine.portUp, same]

/-- Domain time may change before or after. -/
theorem PortsSend.withTick (t : Tick) : PortsSend { s with tick := t } { u with tick := t } := by
  obtain ⟨_, _, _, _, _, rfl, same⟩ := h
  exact ⟨_, _, _, _, _, rfl, same⟩

end

theorem SameUnits.refl (s : State) : SameUnits s s := ⟨rfl, rfl, rfl, rfl, rfl, rfl, rfl, rfl, rfl, rfl, rfl⟩

theorem SameUnits.trans {s t u : State} (h : SameUnits s t) (k : SameUnits t u) : SameUnits s u where
  mem := k.mem.trans h.mem
  poison := k.poison.trans h.poison
  cores := k.cores.trans h.cores
  queues := k.queues.trans h.queues
  fences := k.fences.trans h.fences
  numx := k.numx.trans h.numx
  xlat := k.xlat.trans h.xlat
  ce := k.ce.trans h.ce
  upd := k.upd.trans h.upd
  fuse := k.fuse.trans h.fuse
  pending := k.pending.trans h.pending

theorem SameUnits.queue {s u : State} (h : SameUnits s u) (q : Nat) : u.queue q = s.queue q := by
  rw [State.queue, h.queues, State.queue]

theorem SameUnits.memberQ {s u : State} (h : SameUnits s u) (gid : Nat) : memberQ u gid = memberQ s gid := by
  rw [Machine.memberQ, h.queues, Machine.memberQ]

theorem sameUnits_tick (s : State) (t : Tick) : SameUnits s { s with tick := t } :=
  ⟨rfl, rfl, rfl, rfl, rfl, rfl, rfl, rfl, rfl, rfl, rfl⟩

theorem Logged.units {s u : State} (h : Logged s u) : SameUnits s u := by
  obtain ⟨_, _, _, _, rfl⟩ := h
  exact ⟨rfl, rfl, rfl, rfl, rfl, rfl, rfl, rfl, rfl, rfl, rfl⟩

end Sys2Proof.Machine

namespace Sys2Proof.Machine

/-! ### Domain time and what ports tell of it (R200 to R203) -/

/-- Nothing differs but domain time, the reference clock apart, and what ports send. -/
def Told (s u : State) : Prop :=
  ∃ t : Tick, t.refclkB = s.tick.refclkB ∧ t.holdover = s.tick.holdover ∧ PortsSend { s with tick := t } u

theorem PortsSend.told {s u : State} (h : PortsSend s u) : Told s u := ⟨s.tick, rfl, rfl, h⟩

theorem told_tick {s : State} {t : Tick} (clock : t.refclkB = s.tick.refclkB := by rfl)
    (held : t.holdover = s.tick.holdover := by rfl) : Told s { s with tick := t } := ⟨t, clock, held, .refl _⟩

theorem Told.trans {s t u : State} (h : Told s t) (k : Told t u) : Told s u := by
  obtain ⟨_, clock, held, sent⟩ := h
  obtain ⟨b, clock', held', sent'⟩ := k
  refine ⟨b, ?_, ?_, (sent.withTick b).trans sent'⟩
  · rw [clock', sent.tick, clock]
  · rw [held', sent.tick, held]

theorem Told.ite {s t u : State} (c : Prop) [Decidable c] (ht : Told s t) (hu : Told s u) : Told s (if c then t else u) := by
  split <;> assumption

theorem Told.units {s u : State} (h : Told s u) : SameUnits s u := by
  obtain ⟨_, -, -, sent⟩ := h
  exact (sameUnits_tick s _).trans sent.units

theorem Told.clock {s u : State} (h : Told s u) : u.tick.refclkB = s.tick.refclkB ∧ u.tick.holdover = s.tick.holdover := by
  obtain ⟨_, clock, held, sent⟩ := h
  rw [sent.tick]
  exact ⟨clock, held⟩

/-! #### Messages seen before (R380) -/

theorem firstSeen_of_new {s : State} {k : Nat × Nat × Nat} (new : s.tick.seen.contains k = false) :
    firstSeen s k = (true, { s with tick := { s.tick with seen := s.tick.seen ++ [k] } }) := by
  rw [firstSeen, new]
  exact if_neg Bool.false_ne_true

theorem firstSeen_eq (s : State) (k : Nat × Nat × Nat) :
    ∃ seen, (firstSeen s k).2 = { s with tick := { s.tick with seen := seen } } := by
  rw [firstSeen]
  split
  · exact ⟨_, rfl⟩
  · exact ⟨_, rfl⟩

theorem firstSeen_told (s : State) (k : Nat × Nat × Nat) : Told s (firstSeen s k).2 := by
  obtain ⟨_, eq⟩ := firstSeen_eq s k
  rw [eq]
  exact told_tick

/-! #### Elections (R200, R201, R381) -/

theorem isMaster_eq_false {s : State} {m : Nat} (master : s.tick.master = some m) (other : m ≠ devId s) :
    isMaster s = false := by
  simp [isMaster, master, other]

/-- The state in which the domain's master is `m` and its backup `b`. -/
def withElected (s : State) (m b : Option Nat) : State := { s with tick := { s.tick with master := m, backup := b } }

/-- An election with a port Up: a master that is known stays, and this package takes up mastership where it falls to it. -/
theorem reelect_of_up {s : State} {k : Nat} (active : s.pst = .active) (up : k ∈ upPorts s) :
    ∃ m b, (∀ d, s.tick.master = some d → m = some d) ∧ reelect s = if (isMaster (withElected s m b) && !isMaster s) = true
      then becomeMaster (withElected s m b) else withElected s m b := by
  have ports : ¬ (upPorts s).isEmpty = true := by
    rw [List.isEmpty_iff]
    exact List.ne_nil_of_mem up
  refine ⟨_, _, ?_, (if_neg (not_not_intro active)).trans (if_neg ports)⟩
  intro d master
  rw [master]

/-- What an election can do: nothing outside Active; without an Up port this package is alone; else there is a master
and a backup, and this package takes up mastership where it falls to it. -/
theorem reelect_cases (s : State) :
    reelect s = s ∨ (upPorts s = [] ∧ reelect s = domainOfOne s)
      ∨ ∃ m b, (∀ d, s.tick.master = some d → m = some d)
        ∧ (reelect s = withElected s m b ∨ isMaster s = false ∧ reelect s = becomeMaster (withElected s m b)) := by
  by_cases active : s.pst = .active
  · cases ports : upPorts s with
    | nil => exact Or.inr (Or.inl ⟨rfl, (if_neg (not_not_intro active)).trans (if_pos (by rw [ports]; rfl))⟩)
    | cons k ks =>
      obtain ⟨m, b, known, chosen⟩ := reelect_of_up active (k := k) (by rw [ports]; exact List.mem_cons_self)
      refine Or.inr (Or.inr ⟨m, b, known, ?_⟩)
      split at chosen
      next takes =>
        rw [Bool.and_eq_true, Bool.not_eq_true'] at takes
        exact Or.inr ⟨takes.2, chosen⟩
      next => exact Or.inl chosen
  · exact Or.inl (if_pos active)

theorem reelect_told (s : State) : Told s (reelect s) := by
  rcases reelect_cases s with eq | ⟨-, eq⟩ | ⟨m, b, -, eq | ⟨-, eq⟩⟩
  all_goals rw [eq]; exact told_tick

/-- With a port Up an election leaves the candidates. -/
theorem cands_reelect {s : State} {k : Nat} (up : k ∈ upPorts s) : (reelect s).tick.cands = s.tick.cands := by
  rcases reelect_cases s with eq | ⟨alone, -⟩ | ⟨m, b, -, eq | ⟨-, eq⟩⟩
  · rw [eq]
  · exact absurd up (alone ▸ List.not_mem_nil)
  all_goals rw [eq]; rfl

/-- A master that is known stays; only its backup is chosen. -/
theorem reelect_of_followed {s : State} {k m : Nat} (active : s.pst = .active) (up : k ∈ upPorts s)
    (master : s.tick.master = some m) (other : m ≠ devId s) :
    ∃ b, reelect s = withElected s (some m) b := by
  obtain ⟨_, b, known, chosen⟩ := reelect_of_up active up
  rw [known m master, isMaster_eq_false (s := withElected s (some m) b) rfl other] at chosen
  exact ⟨b, chosen⟩

/-- This package stays the master that it is. -/
theorem reelect_of_master {s : State} (master : isMaster s = true) (lock : s.tick.lock = 0) (root : s.tick.parent = none) :
    isMaster (reelect s) = true ∧ (reelect s).tick.lock = 0 ∧ (reelect s).tick.parent = none := by
  have self : s.tick.master = some (devId s) := beq_iff_eq.mp master
  rcases reelect_cases s with eq | ⟨-, eq⟩ | ⟨m, b, known, eq | ⟨other, -⟩⟩
  · rw [eq]; exact ⟨master, lock, root⟩
  · rw [eq]; exact ⟨beq_self_eq_true (some (devId s)), rfl, rfl⟩
  · rw [eq, known _ self]; exact ⟨beq_self_eq_true (some (devId s)), lock, root⟩
  · rw [master] at other; cases other

theorem announce_told (s : State) : Told s (announce s) :=
  Told.trans told_tick ((firstSeen_told ..).trans (portsSend_flood ..).told)

theorem chooseParent_eq {s : State} (follows : isMaster s = false) :
    ∃ p, chooseParent s = { s with tick := { s.tick with parent := p } } := by
  rw [chooseParent, follows]
  exact ⟨_, rfl⟩

end Sys2Proof.Machine

namespace Sys2Proof.Machine

/-! ### Commands of domain time -/

theorem portsSend_takeCtl (s : State) (k : Nat) : PortsSend s (takeCtl s k) := portsSend_rxFlits ..

/-- The discipline of a command that an accepting port brings: it acts on what is left once its flit is received. -/
theorem ite_accepts {s : State} {k : Nat} (up : accepts s k = true) (a b : State) :
    (if !accepts s k then a else b) = b := by
  rw [up]; exact if_neg Bool.false_ne_true

/-- A message that is heard and goes on leaves only its mark and what ports send. -/
theorem heard_flood (s : State) (key : Nat × Nat × Nat) (from_ : Option Nat) (m : CtlMsg) :
    ∃ seen, PortsSend { s with tick := { s.tick with seen := seen } } (flood (firstSeen s key).2 from_ m) := by
  obtain ⟨seen, first⟩ := firstSeen_eq s key
  rw [first]
  exact ⟨seen, portsSend_flood ..⟩

/-- So it is where only a new message goes on. -/
theorem heard_ite (s : State) (key : Nat × Nat × Nat) (from_ : Option Nat) (m : CtlMsg) :
    ∃ seen, PortsSend { s with tick := { s.tick with seen := seen } }
      (if (firstSeen s key).1 then flood (firstSeen s key).2 from_ m else (firstSeen s key).2) := by
  split
  · exact heard_flood ..
  · obtain ⟨seen, first⟩ := firstSeen_eq s key
    exact ⟨seen, first ▸ .refl _⟩

theorem portUp_of_accepts {s : State} {k : Nat} (up : accepts s k = true) : portUp s k = true := by
  rw [accepts, Bool.and_eq_true] at up
  exact up.1

theorem mem_upPorts {s : State} {k : Fin 64} : k.val ∈ upPorts s ↔ portUp s k = true := by
  rw [upPorts, List.mem_filter]
  exact and_iff_right (List.mem_range.mpr k.isLt)

/-- R199: a legal request of the master is announced. -/
theorem periodRequest_of_legal {s : State} {v : Nat} (dt : Nat) (active : s.pst = .active) (master : isMaster s = true)
    (legal : v ≤ 4) (idle : s.tick.change = none) :
    periodRequest s v dt =
      let tc := changeTime (s.tick.time + dt)
      flood (firstSeen { s with tick := { s.tick with req := v, change := some (tc, v), adopt := none } } (7, tc, 0)).2
        none (.period tc v) := by
  have low : bits v 2 0 = v := bits_eq_self (by omega)
  have high : bits v 63 3 = 0 := by
    rw [bits, Nat.shiftRight_eq_div_pow, Nat.div_eq_of_lt (by omega), Nat.zero_mod]
  simp only [periodRequest, low, high, master, active, idle, Option.isSome_none, show ¬ 4 < v by omega]
  exact if_neg (by decide)

/-- R199: a request at another package is refused. -/
theorem periodRequest_of_follower {s : State} (v dt : Nat) (follows : isMaster s = false) :
    periodRequest s v dt = writeIgnored s 1 0x118 := by
  simp [periodRequest, follows]

/-- R200, R201: what the loss of a silent master comes to at a package that is not the master. -/
theorem masterLost_of_silent {s : State} {m : Nat} (active : s.pst = .active) (master : s.tick.master = some m)
    (other : m ≠ devId s) (silent : 4 ≤ s.tick.quiet) :
    masterLost s = match s.tick.backup with
      | none => withoutMaster s [m]
      | some b =>
        if b = devId s then
          reelect (becomeMaster { s with tick := { s.tick with cands := setDel s.tick.cands m, lone := false } })
        else if 8 ≤ s.tick.quiet then withoutMaster s [m, b] else s := by
  have follows := isMaster_eq_false master other
  have runs : ¬ (s.pst ≠ .active ∨ isMaster s = true ∨ s.tick.quiet < 4) := by
    rw [follows]
    rintro (off | no | early)
    · exact off active
    · cases no
    · omega
  simp only [masterLost, master]
  exact if_neg runs

/-- R203: what missing exchanges with the parent do at a package that follows. -/
theorem exec_timeExchangeMissing {s : State} (active : s.pst = .active) (follows : isMaster s = false)
    (missed : 0 < s.tick.missed) :
    exec .timeExchangeMissing s = .next (if 64 < s.tick.missed then { s with tick := { s.tick with lock := 2, good := 0 } }
      else { s with tick := { s.tick with lock := max s.tick.lock 1 } }) := by
  have runs : ¬ (s.pst ≠ .active ∨ isMaster s = true ∨ s.tick.missed = 0) := by
    rw [follows]
    rintro (off | no | none)
    · exact off active
    · cases no
    · omega
  exact congrArg Host.Outcome.next (if_neg runs)

/-- R202, R203: what an offset does to domain time. -/
theorem applyOffset_eq (s : State) (o : Int) : ∃ t : Tick, applyOffset s o = { s with tick := t } ∧ t.offset = o
    ∧ t.missed = 0 ∧ t.sync = none ∧ t.time = s.tick.time
    ∧ (o.natAbs ≤ 25 * 256 → t.slew = o ∧ t.good = s.tick.good + 1
        ∧ t.lock = (if 16 ≤ s.tick.good + 1 then 0 else s.tick.lock))
    ∧ (25 * 256 < o.natAbs → o.natAbs ≤ 250 * 256 → t.slew = o ∧ t.good = 0 ∧ t.lock = max s.tick.lock 1)
    ∧ (250 * 256 < o.natAbs → t.stepBy = o ∧ t.lock = 2) := by
  rw [applyOffset]
  split
  next near =>
    exact ⟨_, rfl, rfl, rfl, rfl, rfl, fun _ => ⟨rfl, rfl, rfl⟩, fun far => by omega, fun far => by omega⟩
  next =>
    split
    next near =>
      exact ⟨_, rfl, rfl, rfl, rfl, rfl, fun _ => by omega, fun _ _ => ⟨rfl, rfl, rfl⟩, fun far => by omega⟩
    next => exact ⟨_, rfl, rfl, rfl, rfl, rfl, fun _ => by omega, fun _ _ => by omega, fun _ => ⟨rfl, rfl⟩⟩

/-- R202: the answer to the outstanding request gives the offset of the exchange. -/
theorem exec_timeRsp {s : State} {k : Fin 64} {seq : Nat} (t2 t3 t4 : Nat) {p : Parent} {t1 : Nat} (up : accepts s k = true)
    (parent : s.tick.parent = some p) (port : p.port = k) (sync : s.tick.sync = some (seq % 256, t1)) :
    exec (.timeRsp k seq t2 t3 t4) s = .next (applyOffset (takeCtl s k)
      ((sext 56 (t2 % 2 ^ 56 + 2 ^ 56 - t1 % 2 ^ 56) - sext 56 (t4 % 2 ^ 56 + 2 ^ 56 - t3 % 2 ^ 56)) / 2)) := by
  refine congrArg Host.Outcome.next ((ite_accepts up ..).trans ?_)
  simp only [(portsSend_takeCtl s k).tick, parent, sync]
  exact if_pos ⟨port, trivial⟩

/-- R578: an adoption changes nothing but the period that is pending. -/
theorem adoptPeriod_eq (s : State) (sel dt : Nat) :
    ∃ a, adoptPeriod s sel dt = { s with tick := { s.tick with adopt := a } } := by
  rw [adoptPeriod]
  split
  · exact ⟨_, rfl⟩
  · split <;> exact ⟨_, rfl⟩

/-- R578: a package that follows adopts another period than its own. -/
theorem adoptPeriod_of_other {s : State} {sel : Nat} (dt : Nat) (idle : s.tick.change = none) (follows : isMaster s = false)
    (differs : sel ≠ s.tick.sel) (legal : sel ≤ 4) (fresh : s.tick.adopt = none) :
    adoptPeriod s sel dt = { s with tick := { s.tick with adopt := some (changeTime (s.tick.time + dt), sel) } } := by
  have legal' : ¬ 4 < sel := by omega
  simp [adoptPeriod, idle, follows, differs, fresh, legal']

/-- R200 to R203: after a BEACON of another package the domain follows its master; the period is as it was. -/
theorem followBeacon_eq {s : State} {k : Fin 64} {m : Nat} (b hops : Nat) (active : s.pst = .active)
    (up : portUp s k = true) (other : m ≠ devId s) :
    ∃ t : Tick, followBeacon s k m b hops = { s with tick := t } ∧ t.master = some m ∧ t.quiet = 0 ∧ t.lone = false
      ∧ tabGet t.neighbours 0 k = hops ∧ t.change = s.tick.change ∧ t.sel = s.tick.sel ∧ t.adopt = s.tick.adopt
      ∧ t.time = s.tick.time := by
  obtain ⟨t, follow, master, quiet, lone, hop, change, period, adopt, time⟩ : ∃ t : Tick,
      followBeacon s k m b hops = reelect (chooseParent { s with tick := t }) ∧ t.master = some m ∧ t.quiet = 0
        ∧ t.lone = false ∧ tabGet t.neighbours 0 k = hops ∧ t.change = s.tick.change ∧ t.sel = s.tick.sel
        ∧ t.adopt = s.tick.adopt ∧ t.time = s.tick.time :=
    ⟨_, rfl, rfl, rfl, rfl, tabGet_tabSet_same .., rfl, rfl, rfl, rfl⟩
  obtain ⟨p, chosen⟩ := chooseParent_eq (s := { s with tick := t }) (isMaster_eq_false master other)
  obtain ⟨b', elected⟩ := reelect_of_followed (s := { s with tick := { t with parent := p } }) active
    (mem_upPorts.mpr up) master other
  rw [follow, chosen, elected]
  exact ⟨_, rfl, rfl, quiet, lone, hop, change, period, adopt, time⟩

/-- R381: an accepted BEACON of another package is passed on and followed. -/
theorem exec_beacon {s : State} {k : Fin 64} {m b : Fin 262144} (hops : Fin 16) (tick : Nat) {sel : Nat} (dt : Nat)
    (up : accepts s k = true) (active : s.pst = .active) (other : m.val ≠ devId s) (legal : sel ≤ 4)
    (accepted : masterAccepted s m b = true) :
    ∃ w seen, PortsSend { s with tick := { s.tick with seen := seen } } w
      ∧ exec (.beacon k m b hops tick sel dt) s = .next (adoptPeriod (followBeacon w k m b hops) sel dt) := by
  have taken := portsSend_takeCtl s k
  obtain ⟨seen, heard⟩ := heard_ite (takeCtl s k) (3, tick, 0) (some k.val) (.beacon m b (min 15 (hops + 1)) tick sel)
  rw [taken.tick] at heard
  have told := (taken.withTick { s.tick with seen := seen }).trans heard
  have keeps := accepted
  rw [show masterAccepted s m b = masterAccepted { s with tick := { s.tick with seen := seen } } m b from rfl,
    masterAccepted, ← told.tick] at keeps
  have runs : ¬ (m.val = devId (takeCtl s k) ∨ 4 < sel ∨ (takeCtl s k).pst ≠ .active) := by
    rw [taken.devId, taken.pst]
    rintro (own | illegal | off)
    · exact other own
    · omega
    · exact off active
  exact ⟨_, seen, told, congrArg Host.Outcome.next ((ite_accepts up ..).trans ((if_neg runs).trans (if_pos keeps)))⟩

/-- R569: what follows the loss or the return of the reference clock changes no unit. -/
theorem told_candidacy (s : State) (c : Prop) [Decidable c] : Told s (if c then reelect (announce s) else s) :=
  .ite c ((announce_told s).trans (reelect_told _)) (PortsSend.refl s).told

/-- Settles O42: a command of domain time changes domain time and what ports send, and the election's cases say which
master it leaves. -/
theorem domainTimeIsKept : Obligations.DomainTimeIsKept := by
  refine ⟨?request, ?refused, ?takeover, ?alone, ?both, ?unlocked, ?missed, ?child, ?parent, ?beacon, ?lost, ?back⟩
  case request =>
    intro v dt s link active master legal idle
    have runs : served s = true := by rw [served, link, active]; rfl
    obtain ⟨seen, told⟩ := heard_flood { s with tick := { s.tick with
      req := v.toNat, change := some (changeTime (s.tick.time + dt), v.toNat), adopt := none } }
      (7, changeTime (s.tick.time + dt), 0) none (.period (changeTime (s.tick.time + dt)) v.toNat)
    refine ⟨_, congrArg Host.Outcome.next
      ((pfAccess_of_served runs _).trans (periodRequest_of_legal dt active master legal idle)), ?_⟩
    rw [told.tick]
    exact ⟨rfl, rfl, rfl, rfl, (sameUnits_tick s _).trans told.units⟩
  case refused =>
    intro v dt s runs follows
    exact congrArg Host.Outcome.next ((pfAccess_of_served runs _).trans (periodRequest_of_follower _ _ follows))
  case takeover =>
    intro s m active master other backup silent
    have lost : masterLost s = reelect (becomeMaster { s with tick := { s.tick with
        cands := setDel s.tick.cands m, lone := false } }) := by
      rw [masterLost_of_silent active master other silent, backup]
      exact if_pos rfl
    obtain ⟨stays, lock, root⟩ := reelect_of_master
      (s := becomeMaster { s with tick := { s.tick with cands := setDel s.tick.cands m, lone := false } })
      (beq_self_eq_true (some (devId s))) rfl rfl
    refine ⟨_, congrArg Host.Outcome.next lost, stays, lock, root, ?_⟩
    exact (sameUnits_tick s _).trans (reelect_told _).units
  case alone =>
    intro s m active master other backup silent
    refine congrArg Host.Outcome.next ((masterLost_of_silent active master other silent).trans ?_)
    rw [backup]
  case both =>
    intro s m b active master other backup differs silent
    refine congrArg Host.Outcome.next ((masterLost_of_silent active master other (by omega)).trans ?_)
    rw [backup]
    exact (if_neg differs).trans (if_pos silent)
  case unlocked =>
    intro s active follows missed
    exact (exec_timeExchangeMissing active follows (by omega)).trans (congrArg Host.Outcome.next (if_pos missed))
  case missed =>
    intro s active follows missed few
    exact (exec_timeExchangeMissing active follows missed).trans (congrArg Host.Outcome.next (if_neg (by omega)))
  case child =>
    intro k seq t2 t3 s up
    exact congrArg Host.Outcome.next (ite_accepts up ..)
  case parent =>
    intro k seq t2 t3 t4 s p t1 o up parent port sync offset
    obtain ⟨t, eq, facts⟩ := applyOffset_eq (takeCtl s k) o
    obtain ⟨is, missed, done, time, near, mid, far⟩ := facts
    have runs := exec_timeRsp t2 t3 t4 up parent port sync
    rw [← offset, eq] at runs
    have taken := portsSend_takeCtl s k
    rw [taken.tick] at time near mid
    exact ⟨_, runs, is, missed, done, time, taken.units.trans (sameUnits_tick _ t), near, mid, far⟩
  case beacon =>
    intro k m b hops tick sel dt s up active other legal accepted
    obtain ⟨w, seen, told, runs⟩ := exec_beacon hops tick dt up active other legal accepted
    have other' : m.val ≠ devId w := told.devId ▸ other
    obtain ⟨t, follow, master, quiet, lone, hop, change, period, adopt, time⟩ := followBeacon_eq b.val hops.val
      (told.pst.trans active) ((told.portUp k).trans (portUp_of_accepts up)) other'
    rw [told.tick] at change period adopt time
    obtain ⟨a, adopts⟩ := adoptPeriod_eq { w with tick := t } sel dt
    rw [follow] at runs
    refine ⟨_, runs, ?_⟩
    have kept : SameUnits s (adoptPeriod { w with tick := t } sel dt) := by
      rw [adopts]
      exact ((sameUnits_tick s _).trans told.units).trans (sameUnits_tick w _)
    refine ⟨by rw [adopts]; exact master, by rw [adopts]; exact quiet, by rw [adopts]; exact lone,
      by rw [adopts]; exact hop, kept, ?_⟩
    intro idle differs fresh
    rw [adoptPeriod_of_other (s := { w with tick := t }) dt (change.trans idle) (isMaster_eq_false master other')
      (ne_of_ne_of_eq differs period.symm) legal (adopt.trans fresh), ← time]
  case lost =>
    intro s on clock
    have runs : ¬ (s.pst = .off ∨ (!s.tick.refclkB) = true) := by simp [on, clock]
    have told := told_candidacy { s with tick := { s.tick with refclkB := false, holdover := true } } (selfCand s)
    exact ⟨_, congrArg Host.Outcome.next (if_neg runs), told.clock.1, told.clock.2, (sameUnits_tick s _).trans told.units⟩
  case back =>
    intro s on clock idle
    have runs : ¬ (s.pst = .off ∨ s.tick.refclkB = true) := by simp [on, clock]
    have told := told_candidacy { s with tick := { s.tick with refclkB := true, holdover := false } }
      (selfCand { s with tick := { s.tick with refclkB := true, holdover := false } })
    refine ⟨_, congrArg Host.Outcome.next ((if_neg runs).trans ?_), told.clock.1, told.clock.2, (sameUnits_tick s _).trans told.units⟩
    simp only [idle]

end Sys2Proof.Machine

namespace Sys2Proof.Machine

/-! ### What the copies of a line, a store and a read leave (R172, R175, R349) -/

/-- Nothing differs but cores, the coherence of copies, injected errors and counters; no queue has changed its state. -/
def CopiesDrop (s u : State) : Prop :=
  ∃ cores dies dir dirCtr latent queues,
    u = { s with cores := cores, dies := dies, dir := dir, dirCtr := dirCtr, latent := latent, queues := queues }
      ∧ ∀ q, (u.queue q).st = (s.queue q).st

theorem CopiesDrop.refl (s : State) : CopiesDrop s s := ⟨_, _, _, _, _, _, rfl, fun _ => rfl⟩

theorem CopiesDrop.trans {s t u : State} (h : CopiesDrop s t) (k : CopiesDrop t u) : CopiesDrop s u := by
  obtain ⟨_, _, _, _, _, _, rfl, first⟩ := h
  obtain ⟨_, _, _, _, _, _, rfl, second⟩ := k
  exact ⟨_, _, _, _, _, _, rfl, fun q => (second q).trans (first q)⟩

theorem CopiesDrop.ite {s t u : State} (c : Prop) [Decidable c] (ht : CopiesDrop s t) (hu : CopiesDrop s u) :
    CopiesDrop s (if c then t else u) := by
  split <;> assumption

theorem CopiesDrop.foldl {α : Type} {g : State → α → State} (hg : ∀ t e, CopiesDrop t (g t e)) (l : List α) (s : State) :
    CopiesDrop s (l.foldl g s) := by
  induction l generalizing s with
  | nil => exact .refl s
  | cons e l ih => exact (hg s e).trans (ih (g s e))

theorem copiesDrop_setCore (s : State) (p : Nat) (x : Core) : CopiesDrop s (s.setCore p x) :=
  ⟨_, _, _, _, _, _, rfl, fun _ => rfl⟩

theorem copiesDrop_setDie (s : State) (d : Nat) (x : Die) : CopiesDrop s (s.setDie d x) :=
  ⟨_, _, _, _, _, _, rfl, fun _ => rfl⟩

theorem copiesDrop_dir (s : State) (l : List DirEntry) : CopiesDrop s { s with dir := l } :=
  ⟨_, _, _, _, _, _, rfl, fun _ => rfl⟩

theorem copiesDrop_latent (s : State) (l : List Nat) : CopiesDrop s { s with latent := l } :=
  ⟨_, _, _, _, _, _, rfl, fun _ => rfl⟩

theorem copiesDrop_dirBump (s : State) (o n : Nat) : CopiesDrop s (dirBump s o n) := ⟨_, _, _, _, _, _, rfl, fun _ => rfl⟩

theorem copiesDrop_setQueue {s : State} {q : Nat} {x : Queue} (st : x.st = (s.queue q).st := by rfl) :
    CopiesDrop s (s.setQueue q x) := by
  refine ⟨_, _, _, _, _, _, rfl, fun j => ?_⟩
  by_cases own : j = q
  · rw [own, queue_setQueue, st]
  · rw [queue_setQueue_ne _ _ _ _ own]

theorem copiesDrop_coreCtr (s : State) (p o n : Nat) : CopiesDrop s (coreCtr s p o n) := .ite _ (.refl s) (copiesDrop_setCore ..)

theorem copiesDrop_queueCtr (s : State) (q o n : Nat) : CopiesDrop s (queueCtr s q o n) := .ite _ (.refl s) copiesDrop_setQueue

theorem copiesDrop_unstage (s : State) (p l : Nat) : CopiesDrop s (unstage s p l) := by
  rw [unstage]
  split
  · exact .refl s
  · exact .ite _ (copiesDrop_setCore ..)
      ((copiesDrop_setCore ..).trans ((copiesDrop_coreCtr ..).trans (copiesDrop_queueCtr ..)))

theorem copiesDrop_uncache (s : State) (d l : Nat) : CopiesDrop s (uncache s d l) := by
  rw [uncache]
  split
  · exact .refl s
  · split
    · exact (copiesDrop_setDie ..).trans ((copiesDrop_coreCtr ..).trans (copiesDrop_queueCtr ..))
    · exact copiesDrop_setDie ..

theorem copiesDrop_dropDir (s : State) (l : Nat) : CopiesDrop s (dropDir s l) :=
  (copiesDrop_dir ..).trans (.ite _ (.refl _) (copiesDrop_setDie ..))

theorem copiesDrop_recallLine (s : State) (l : Nat) : CopiesDrop s (recallLine s l) := by
  rw [recallLine]
  split
  · exact copiesDrop_dirBump ..
  · exact ((copiesDrop_dirBump ..).trans (.foldl (fun t k => .ite _ (copiesDrop_uncache t k l) (.refl t)) _ _)).trans
      (.ite _ (copiesDrop_dropDir ..) (copiesDrop_dir ..))

theorem copiesDrop_invalidateLine (s : State) (l : Nat) : CopiesDrop s (invalidateLine s l) :=
  (CopiesDrop.foldl (fun t (c : Nat × Core) => .ite _ (copiesDrop_unstage t c.1 l) (.refl t)) _ s).trans
    (.ite _ (.refl _) ((copiesDrop_dirBump ..).trans (copiesDrop_recallLine ..)))

/-- A store into a die that is not fenced late stores its bytes; what else changes are copies and injected errors. -/
theorem copiesDrop_writeMem {s : State} {a : Nat} {bs : List Byte} (some_ : bs ≠ []) (sound : lateDie s a = false)
    (bad : Bool) : CopiesDrop (storeBytes s a bs bad) (writeMem s a bs bad) := by
  have runs : ¬ (decide (bs.length = 0) || lateDie s a) = true := by
    rw [sound, Bool.or_false, decide_eq_true_eq]
    exact mt List.length_eq_zero_iff.mp some_
  rw [writeMem, if_neg runs]
  refine .ite _ (.ite _ ?_ (.refl _)) (.ite _ (.foldl copiesDrop_invalidateLine _ _) (.refl _))
  exact (copiesDrop_setCore ..).trans (copiesDrop_latent ..)

/-! ### What queues are Running (R188) -/

/-- The states of the queues. -/
def standing (s : State) (q : Nat) : QueueSt := (s.queue q).st

@[simp] theorem standing_ite {c : Prop} [Decidable c] (s t : State) :
    standing (if c then s else t) = if c then standing s else standing t := apply_ite standing c s t

theorem CopiesDrop.standing {s u : State} (h : CopiesDrop s u) : standing u = standing s := by
  obtain ⟨_, _, _, _, _, _, -, same⟩ := h
  exact funext same

/-- A queue that is put back in its state leaves all of them. -/
theorem standing_of_put {s u : State} {q : Nat} {x : Queue} (put : u.queues = tabSet s.queues q x) (st : x.st = (s.queue q).st) :
    standing u = standing s := by
  funext j
  by_cases own : j = q
  · rw [standing, State.queue, put, own, tabGet_tabSet_same, st, standing]
  · rw [standing, State.queue, put, tabGet_tabSet_ne _ _ _ _ _ own, standing, State.queue]

theorem standing_of_queues {s u : State} (h : u.queues = s.queues := by rfl) : standing u = standing s := by
  funext q
  rw [standing, State.queue, h, standing, State.queue]

@[simp] theorem standing_storeBytes (s : State) (a : Nat) (bs : List Byte) (bad : Bool) :
    standing (storeBytes s a bs bad) = standing s := standing_of_queues (queues_storeBytes s a bs bad)

@[simp] theorem standing_writeMem (s : State) (a : Nat) (bs : List Byte) (bad : Bool) :
    standing (writeMem s a bs bad) = standing s := by
  by_cases runs : bs ≠ [] ∧ lateDie s a = false
  · exact (copiesDrop_writeMem runs.1 runs.2 bad).standing.trans (standing_storeBytes ..)
  · have discards : (decide (bs.length = 0) || lateDie s a) = true := by
      rw [Bool.or_eq_true, decide_eq_true_eq, List.length_eq_zero_iff]
      by_contra keeps
      exact runs ⟨fun none => keeps (.inl none), Bool.eq_false_of_not_eq_true fun late => keeps (.inr late)⟩
    rw [writeMem, if_pos discards]

@[simp] theorem standing_vwrite (s : State) (c dva : Nat) (bs : List Byte) (bad : Bool) :
    standing (vwrite s c dva bs bad) = standing s := by
  refine foldl_kept standing (fun t pc => ?_) _ s
  split
  · rfl
  · simp only [standing_ite, standing_writeMem, ite_self]

@[simp] theorem standing_vnote (s : State) (c dva n : Nat) (f : Option Nat) : standing (vnote s c dva n f) = standing s :=
  (vnote_onlyWalksCounted s c dva n f).elim fun _ walks => by rw [walks.1]; rfl

@[simp] theorem standing_sendMsix (s : State) (fn vec : Nat) : standing (sendMsix s fn vec) = standing s := by
  obtain ⟨_, _, eq⟩ := sendMsix_eq s fn vec
  rw [eq]
  rfl

@[simp] theorem standing_postOne (s : State) (c : CmdRef) (v : Cpl) : standing (postOne s c v).1 = standing s := by
  have recorded (t : State) : standing (setRecSt t c (.done v.status)) = standing t := standing_of_put rfl rfl
  have counted (t : State) (n : Nat) : standing (t.setQueue c.q { t.queue c.q with completed := n }) = standing t :=
    standing_of_put rfl rfl
  rw [postOne]
  split
  · rfl
  · split
    · rfl
    · simp only [standing_ite, standing_sendMsix, recorded, counted, standing_vnote, standing_vwrite, ite_self]

@[simp] theorem standing_closeFrame (s : State) (q : Nat) : standing (closeFrame s q) = standing s := by
  rw [closeFrame]
  split
  · rfl
  · split
    · exact standing_of_put rfl rfl
    · rfl

@[simp] theorem standing_fetchTo (s : State) (q n : Nat) : standing (fetchTo s q n) = standing s := by
  refine foldl_kept standing (fun t _ => ?_) _ s
  dsimp only
  split
  all_goals exact standing_of_put rfl rfl

@[simp] theorem standing_failRecs (s : State) (q : Nat) (rs : List Rec) (cpl : Rec → Cpl) :
    standing (failRecs s q rs cpl) = standing s := by
  rw [failRecs, standing_closeFrame]
  exact foldl_kept standing (fun t r => standing_postOne t ⟨q, r.n⟩ (cpl r)) _ _

@[simp] theorem standing_failUnstarted (s : State) (q st : Nat) : standing (failUnstarted s q st) = standing s := by
  simp only [failUnstarted, standing_failRecs]
  split
  · exact standing_fetchTo ..
  · rfl

/-- R188: a queue that is stopped is not Running. -/
theorem stopQueue_stops (s : State) (q code : Nat) : ((stopQueue s q code).queue q).st ≠ .running := by
  rw [stopQueue]
  split
  · change standing (sendMsix _ _ _) q ≠ .running
    rw [standing_sendMsix, standing_failUnstarted, standing, queue_setQueue]
    exact QueueSt.noConfusion
  · assumption

end Sys2Proof.Machine

namespace Sys2Proof.Machine

/-! ### Groups: holds and aborts (R207 to R210) -/

/-- R210: after an abort of its group the member queue is not Running. -/
theorem abortLocal_stops {s : State} {gid q : Nat} (st : Nat) (member : memberQ s gid = some q) :
    ((abortLocal s gid st).queue q).st ≠ .running := by
  simp only [abortLocal, member]
  exact stopQueue_stops _ q st

theorem firstAbort_eq (s : State) (gid origin : Nat) :
    ∃ seen, (firstAbort s gid origin).2 = { s with tick := { s.tick with seen := seen } } := by
  rw [firstAbort]
  split <;> exact ⟨_, rfl⟩

theorem units_announceAbort (s : State) (gid st : Nat) : SameUnits s (announceAbort s gid st) := by
  obtain ⟨_, eq⟩ := firstAbort_eq s gid (devId s)
  rw [announceAbort]
  split
  · rw [eq]
    exact (sameUnits_tick s _).trans (portsSend_forwardGroup ..).units
  · exact .refl s

theorem sendAbort_stops {s : State} {gid q : Nat} (st : Nat) (member : memberQ s gid = some q) :
    ((sendAbort s gid st).queue q).st ≠ .running :=
  abortLocal_stops st (((units_announceAbort s gid st).memberQ gid).trans member)

/-- R207, R209: a hold request that comes too late for its tick aborts the group. -/
theorem holdArrives_late {s : State} {gid h q : Nat} (late : h ≤ s.tick.last) (member : memberQ s gid = some q) :
    ((holdArrives s gid h).queue q).st ≠ .running := by
  have counted : SameUnits s (tickCtr (logAdd s { code := 0x54, src := 9, sev := 2, args := [gid, h] }) 0x140 1) :=
    (logAdd_logged ..).units.trans (sameUnits_tick _ _)
  rw [holdArrives, if_neg (Nat.not_lt.mpr late), if_pos (by rw [member]; rfl)]
  exact sendAbort_stops _ ((counted.memberQ gid).trans member)

/-- R380: a hold request that is new at a package that has the group goes on and is met there. -/
theorem exec_holdMsg {s : State} {k : Fin 64} {gid : Fin 65536} {h : Nat} (origin : Fin 262144) (cause : Nat)
    (up : accepts s k = true) (has : (slotOf s gid).isSome = true) (new : s.tick.seen.contains (5, gid.val, h) = false) :
    ∃ w, PortsSend { s with tick := { s.tick with seen := s.tick.seen ++ [(5, gid.val, h)] } } w
      ∧ exec (.holdMsg k gid h origin cause) s = .next (holdArrives w gid h) := by
  have taken := portsSend_takeCtl s k
  have first := firstSeen_of_new (s := takeCtl s k) (taken.tick ▸ new)
  have slot : ¬ (slotOf (takeCtl s k) gid).isNone = true := by
    rw [taken.slotOf, Option.isNone_iff_eq_none, ← ne_eq, ← Option.isSome_iff_ne_none]
    exact has
  have run : exec (.holdMsg k gid h origin cause) s = .next (if (firstSeen (takeCtl s k) (5, gid, h)).1 then
      holdArrives (forwardGroup (firstSeen (takeCtl s k) (5, gid, h)).2 (some k) gid (.hold gid h origin cause)) gid h
      else (firstSeen (takeCtl s k) (5, gid, h)).2) :=
    congrArg Host.Outcome.next ((ite_accepts up ..).trans (if_neg slot))
  rw [first, if_pos rfl] at run
  exact ⟨_, (taken.withTick _).trans (portsSend_forwardGroup ..), run⟩

/-- R210, R380: an abort that is new at a package that has the group goes on and is applied there. -/
theorem exec_abortMsg {s : State} {k : Fin 64} {gid : Fin 65536} (st : Fin 256) {origin : Fin 262144}
    (up : accepts s k = true) (has : (slotOf s gid).isSome = true)
    (new : s.tick.seen.any (fun e => e.1 == 6 && e.2.1 == gid.val * 2 ^ 18 + origin.val) = false) :
    ∃ w, SameUnits s w ∧ exec (.abortMsg k gid st origin) s = .next (abortLocal w gid st) := by
  have taken := portsSend_takeCtl s k
  obtain ⟨_, marked⟩ := firstAbort_eq (takeCtl s k) gid origin
  have first : (firstAbort (takeCtl s k) gid origin).1 = true := by
    rw [firstAbort, taken.tick, new, if_neg Bool.false_ne_true]
  have slot : ¬ (slotOf (takeCtl s k) gid).isNone = true := by
    rw [taken.slotOf, Option.isNone_iff_eq_none, ← ne_eq, ← Option.isSome_iff_ne_none]
    exact has
  refine ⟨_, ?_, congrArg Host.Outcome.next ((ite_accepts up ..).trans ((if_neg slot).trans (if_pos first)))⟩
  rw [marked]
  exact taken.units.trans ((sameUnits_tick _ _).trans (portsSend_forwardGroup ..).units)

/-- A flooded message that a port brings leaves only its mark and what ports send. -/
theorem received_flood (s : State) (k : Nat) (key : Nat × Nat × Nat) (m : CtlMsg) : ∃ seen, PortsSend
    { s with tick := { s.tick with seen := seen } } (flood (firstSeen (takeCtl s k) key).2 (some k) m) := by
  have taken := portsSend_takeCtl s k
  obtain ⟨seen, told⟩ := heard_flood (takeCtl s k) key (some k) m
  rw [taken.tick] at told
  exact ⟨seen, (taken.withTick _).trans told⟩

/-- Settles O43: a message that is new leaves its mark and goes on (`PortsSend`), then acts; an abort ends in
`stopQueue`. -/
theorem domainMessagesActOnce : Obligations.DomainMessagesActOnce := by
  refine ⟨?hold, ?late, ?abort, ?period, ?candidate, ?limit, fun q s => rfl⟩
  case hold =>
    intro k gid h origin cause s up has new early
    obtain ⟨w, told, run⟩ := exec_holdMsg origin cause up has new
    have marks : holdArrives w gid h = markHold w gid h := if_pos (by rw [told.tick]; exact early)
    rw [marks] at run
    refine ⟨_, run, ?_, ?_, (sameUnits_tick s _).trans (told.units.trans (sameUnits_tick w _))⟩
    · rw [markHold, group_setGroup, told.group]
      rfl
    · change w.tick.seen.contains _ = true
      rw [told.tick]
      simp
  case late =>
    intro k gid h origin cause s q up has new late member
    obtain ⟨w, told, run⟩ := exec_holdMsg origin cause up has new
    have member' : memberQ w gid = some q := (told.units.memberQ gid).trans member
    exact ⟨_, run, holdArrives_late (by rw [told.tick]; exact late) member'⟩
  case abort =>
    intro k gid st origin s q up has new member
    obtain ⟨w, same, run⟩ := exec_abortMsg st up has new
    exact ⟨_, run, abortLocal_stops _ ((same.memberQ gid).trans member)⟩
  case period =>
    intro k tc sel s up new legal
    have taken := portsSend_takeCtl s k
    have first := firstSeen_of_new (s := takeCtl s k) (k := (7, tc, 0)) (taken.tick ▸ new)
    obtain ⟨seen, told⟩ := received_flood s k (7, tc, 0) (.period tc sel)
    have runs : ¬ ((!(firstSeen (takeCtl s k) (7, tc, 0)).1) = true ∨ 4 < sel) := by
      rw [first]
      rintro (old | illegal)
      · cases old
      · omega
    refine ⟨_, congrArg Host.Outcome.next ((ite_accepts up ..).trans (if_neg runs)), rfl, rfl, ?_, ?_⟩
    · dsimp only
      rw [told.tick]
    · exact (sameUnits_tick s _).trans (told.units.trans (sameUnits_tick _ _))
  case candidate =>
    intro k dev now seq s up new other
    have taken := portsSend_takeCtl s k
    have first := firstSeen_of_new (s := takeCtl s k) (k := (4, dev.val, seq)) (taken.tick ▸ new)
    obtain ⟨seen, told⟩ := received_flood s k (4, dev.val, seq) (.candidate dev now seq)
    have runs : ¬ ((!(firstSeen (takeCtl s k) (4, dev, seq)).1) = true ∨ dev.val = devId (takeCtl s k)) := by
      rw [first, taken.devId]
      rintro (old | own)
      · cases old
      · exact other own
    refine ⟨_, congrArg Host.Outcome.next ((ite_accepts up ..).trans (if_neg runs)), ?_, ?_⟩
    · refine (cands_reelect (k := k.val) (mem_upPorts.mpr ?_)).trans ?_
      · exact (told.portUp k).trans (portUp_of_accepts up)
      · dsimp only
        rw [told.tick]
    · exact (sameUnits_tick s _).trans (told.units.trans ((sameUnits_tick _ _).trans (reelect_told _).units))
  case limit =>
    intro gid s q many member
    refine ⟨_, congrArg Host.Outcome.next (if_neg (Nat.not_lt.mpr many)), ?_, sendAbort_stops (s := s) _ member⟩
    exact congrArg Group.consec (group_setGroup ..)

end Sys2Proof.Machine

namespace Sys2Proof.Machine

/-! ### Answers to fabric requests (R385) -/

/-- R387: a packet that is for this package is handled once it has left the receive buffer. -/
theorem received_of_mine {s : State} {k : Nat} {p : Packet} {t : Nat} (own : mine s k p t = true) (f : State → State) :
    received s k p t f = f (takePacket s k p) := if_pos own

/-- R385: what `takeRequest` finds is taken out of the list of outstanding requests, and nothing else changes. -/
theorem takeRequest_eq_some {s u : State} {tid dev : Nat} {r : FabReq} (h : takeRequest s tid dev = some (r, u)) :
    r ∈ s.fab.reqs ∧ u = { s with fab := { s.fab with reqs := s.fab.reqs.filter (fun x => x != r) } } := by
  rw [takeRequest] at h
  split at h
  next => cases h
  next found =>
    obtain ⟨rfl, rfl⟩ := Prod.mk.inj (Option.some.inj h)
    exact ⟨List.mem_of_find?_eq_some found, rfl⟩

section
variable {s : State} {k : Nat} {p : Packet} {t : Nat} (own : mine s k p t = true)
include own

theorem answered_of_gone (gone : takeRequest (takePacket s k p) p.tid p.src = none) :
    answered s k p t = takePacket s k p := by
  simp only [answered, received_of_mine own, gone]

variable {r : FabReq} {u : State} (found : takeRequest (takePacket s k p) p.tid p.src = some (r, u))
include found

theorem answered_heron {c e id : Nat} (owner : r.owner = .heron c e id) (other : t ≠ 6) (kind : r.wr = (t == 4)) :
    answered s k p t = sramSweep (heronAnswer u ⟨c, e, id⟩ p.stat p.data p.pmap) := by
  simp only [answered, received_of_mine own, found, owner]
  exact if_neg fun misses => misses.elim other (not_not_intro kind)

theorem answered_fence {c : CmdRef} (owner : r.owner = .fence c) (kind : t = 6) (stat : p.stat ≠ 1) :
    answered s k p t = fenceAnswer u c p.stat := by
  simp only [answered, received_of_mine own, found, owner]
  exact if_pos ⟨kind, stat⟩

end

section
variable {u : State} {w : ReqId} {h : HRun} {q : HReq} (found : findReq u w = some (h, q))
include found

/-- R385: no route to the target ends the command. -/
theorem heronAnswer_unreached (data : List Byte) (pmap : List Bool) :
    heronAnswer u w 2 data pmap = failReq u w 0x69 q.num := by
  simp only [heronAnswer, found]

/-- R385: a refusal by the target ends the command. -/
theorem heronAnswer_refused {stat : Nat} (refused : 2 < stat) (data : List Byte) (pmap : List Bool) :
    heronAnswer u w stat data pmap = failReq u w 0x21 q.num := by
  simp only [heronAnswer, found]
  split
  next => omega
  next => omega
  next => omega
  next => rfl

variable (reads : q.wr = false)
include reads

/-- R332, R385: read data reaches the pieces that wait for it. -/
theorem heronAnswer_read (data : List Byte) (pmap : List Bool) :
    heronAnswer u w 0 data pmap = deliverSegs u w (fun _ => true) (fun _ gs =>
      dataChunks (q.far / 64 * 64) data (fun a => pmap.getD ((a - q.far / 64 * 64) / 64) false) gs) := by
  simp only [heronAnswer, found, reads]
  exact if_neg Bool.false_ne_true

/-- R385: a read of a fenced die gives poisoned free values. -/
theorem heronAnswer_fenced (data : List Byte) (pmap : List Bool) :
    ∃ v bs, heronAnswer u w 1 data pmap = deliverSegs v w (fun _ => true)
      (fun _ gs => dataChunks (q.far / 64 * 64) bs (fun _ => true) gs) ∧ SameUnits u v := by
  simp only [heronAnswer, found, reads]
  exact ⟨_, _, if_neg Bool.false_ne_true, rfl, rfl, rfl, rfl, rfl, rfl, rfl, rfl, rfl, rfl, rfl⟩

end

section
variable {u : State} {w : ReqId} {h : HRun} {q : HReq} (found : findReq u w = some (h, q)) (writes : q.wr = true)
include found writes

/-- R385: an acknowledged write retires. -/
theorem heronAnswer_written (data : List Byte) (pmap : List Bool) :
    heronAnswer u w 0 data pmap = heronRetire (keepSegs u w (fun _ => false)) w.p w.eng w.id := by
  simp only [heronAnswer, found, writes, if_true]

/-- R385: so does one that a fenced die discarded. -/
theorem heronAnswer_discarded (data : List Byte) (pmap : List Bool) :
    heronAnswer u w 1 data pmap = heronRetire (keepSegs (heronDiscard u w.p w.eng q.far) w (fun _ => false)) w.p w.eng w.id := by
  simp only [heronAnswer, found, writes, if_true]

end

section
variable {tid : Fin 65536} {s : State} {r : FabReq} (found : s.fab.reqs.find? (fun x => x.tid == tid.val) = some r)
include found

theorem exec_fabricTimeout_fence {c : CmdRef} (owner : r.owner = .fence c) : exec (.fabricTimeout tid) s
    = .next (completeSt { s with fab := { s.fab with reqs := s.fab.reqs.erase r } } c 0x69) := by
  refine congrArg Host.Outcome.next ?_
  simp only [found, owner]

theorem exec_fabricTimeout_heron {c e id : Nat} (owner : r.owner = .heron c e id) : exec (.fabricTimeout tid) s
    = .next (heronAnswer { s with fab := { s.fab with reqs := s.fab.reqs.erase r } } ⟨c, e, id⟩ 2 [] []) := by
  refine congrArg Host.Outcome.next ?_
  simp only [found, owner]

end

/-- Settles O50, by the owner of the request that the answer finds and by its STAT. -/
theorem fabricAnswersReachTheirRequests : Obligations.FabricAnswersReachTheirRequests := by
  refine ⟨?read, ?write, ?fence, ?gone, ?timeout, ?taken⟩
  case read =>
    intro k p s u r c e id h q own taken owner kind found reads
    have run : exec (.rdRsp k p) s = .next (sramSweep (heronAnswer u ⟨c, e, id⟩ p.stat p.data p.pmap)) :=
      congrArg Host.Outcome.next (answered_heron own taken owner (by decide) kind)
    refine ⟨fun stat => ?_, fun stat => ?_, fun stat => ?_, fun stat => ?_⟩
    · rw [run, stat, heronAnswer_read found reads]
    · obtain ⟨v, bs, eq, same⟩ := heronAnswer_fenced found reads p.data p.pmap
      exact ⟨v, bs, by rw [run, stat, eq], same⟩
    · rw [run, stat, heronAnswer_unreached found]
    · rw [run, heronAnswer_refused found stat]
  case write =>
    intro k p s u r c e id h q own taken owner kind found writes
    have run : exec (.cwWrAck k p) s = .next (sramSweep (heronAnswer u ⟨c, e, id⟩ p.stat p.data p.pmap)) :=
      congrArg Host.Outcome.next (answered_heron own taken owner (by decide) kind)
    refine ⟨fun stat => ?_, fun stat => ?_, fun stat => ?_, fun stat => ?_⟩
    · rw [run, stat, heronAnswer_written found writes]
    · rw [run, stat, heronAnswer_discarded found writes]
    · rw [run, stat, heronAnswer_unreached found]
    · rw [run, heronAnswer_refused found stat]
  case fence =>
    intro k p s u r c own taken owner
    have run (stat : p.stat ≠ 1) : exec (.fenceAck k p) s = .next (fenceAnswer u c p.stat) :=
      congrArg Host.Outcome.next (answered_fence own taken owner rfl stat)
    refine ⟨fun stat => ?_, fun stat => ?_, fun stat => ?_⟩
    · exact ⟨_, (run (by omega)).trans (by rw [stat]; rfl), Nat.mod_lt _ (by decide)⟩
    · exact (run (by omega)).trans (by rw [stat]; rfl)
    · exact (run (by omega)).trans (by rw [stat]; rfl)
  case gone =>
    intro k p s gone
    exact ⟨fun own => congrArg Host.Outcome.next (answered_of_gone own gone),
      fun own => congrArg Host.Outcome.next (answered_of_gone own gone),
      fun own => congrArg Host.Outcome.next (answered_of_gone own gone)⟩
  case timeout =>
    intro tid s r found
    refine ⟨fun c owner => exec_fabricTimeout_fence found owner, fun c e id h q owner req => ?_⟩
    rw [exec_fabricTimeout_heron found owner]
    exact congrArg Host.Outcome.next (heronAnswer_unreached
      (u := { s with fab := { s.fab with reqs := s.fab.reqs.erase r } }) req _ _)
  case taken =>
    intro s u tid dev r taken
    obtain ⟨listed, rfl⟩ := takeRequest_eq_some taken
    refine ⟨listed, by simp, fun x other differs => by simpa using ⟨other, differs⟩, ?_⟩
    exact ⟨rfl, rfl, rfl, rfl, rfl, rfl, rfl, rfl, rfl, rfl, rfl⟩

end Sys2Proof.Machine

namespace Sys2Proof.Machine

/-! ### Fabric writes at their target (R177, R384) -/

/-- What stores leave alone beside their bytes. -/
structure StoreLeaves (s u : State) : Prop where
  late : u.bring.lateDies = s.bring.lateDies
  fences : u.fences = s.fences
  numx : u.numx = s.numx

theorem StoreLeaves.refl (s : State) : StoreLeaves s s := ⟨rfl, rfl, rfl⟩

theorem StoreLeaves.trans {s t u : State} (h : StoreLeaves s t) (k : StoreLeaves t u) : StoreLeaves s u :=
  ⟨k.late.trans h.late, k.fences.trans h.fences, k.numx.trans h.numx⟩

theorem StoreLeaves.foldl {α : Type} {g : State → α → State} (hg : ∀ t e, StoreLeaves t (g t e)) (l : List α) (s : State) :
    StoreLeaves s (l.foldl g s) := by
  induction l generalizing s with
  | nil => exact .refl s
  | cons e l ih => exact (hg s e).trans (ih (g s e))

theorem CopiesDrop.leaves {s u : State} (h : CopiesDrop s u) : StoreLeaves s u := by
  obtain ⟨_, _, _, _, _, _, rfl, -⟩ := h
  exact ⟨rfl, rfl, rfl⟩

theorem CopiesDrop.readByte {s u : State} (h : CopiesDrop s u) (x : Nat) : readByte u x = readByte s x := by
  obtain ⟨_, _, _, _, _, _, rfl, -⟩ := h
  rfl

theorem storeLeaves_storeBytes (s : State) (a : Nat) (bs : List Byte) (bad : Bool) : StoreLeaves s (storeBytes s a bs bad) := by
  rw [storeBytes]
  split <;> exact ⟨rfl, rfl, rfl⟩

theorem storeLeaves_writeMem (s : State) (a : Nat) (bs : List Byte) (bad : Bool) : StoreLeaves s (writeMem s a bs bad) := by
  by_cases discards : (decide (bs.length = 0) || lateDie s a) = true
  · rw [writeMem, if_pos discards]
    exact .refl s
  · rw [Bool.or_eq_true, decide_eq_true_eq, List.length_eq_zero_iff, not_or, Bool.not_eq_true] at discards
    exact (storeLeaves_storeBytes ..).trans (copiesDrop_writeMem discards.1 discards.2 bad).leaves

theorem lateDie_of_none {s : State} (sound : s.bring.lateDies = 0) (a : Nat) : lateDie s a = false := by
  simp [lateDie, sound]

/-- Where no die is fenced late a store leaves its bytes, and every other byte as it was. -/
theorem readByte_writeMem {s : State} (sound : s.bring.lateDies = 0) (a : Nat) (bs : List Byte) (bad : Bool) (x : Nat) :
    readByte (writeMem s a bs bad) x = if a ≤ x ∧ x < a + bs.length then bs.getD (x - a) 0 else readByte s x := by
  by_cases none : bs = []
  · subst none
    exact (if_neg (by simp)).symm
  · have stores : ¬ (decide (bs.length = 0) || lateDie s a) = true := by simp [none, lateDie_of_none sound]
    rw [(copiesDrop_writeMem none (lateDie_of_none sound a) bad).readByte, storeBytes, if_neg stores]
    exact cellGet_cellsSet bs s.mem a x

/-- So a list of stores leaves the byte of the last one that covers an address. -/
theorem readByte_stores (bad : Bool) (ws : List (Nat × List Byte)) {s : State} (sound : s.bring.lateDies = 0) (x : Nat) :
    readByte (ws.foldl (fun u w => writeMem u w.1 w.2 bad) s) x = (runByte ws x).getD (readByte s x) := by
  induction ws generalizing s with
  | nil => rfl
  | cons w ws ih =>
    rw [List.foldl_cons, ih ((storeLeaves_writeMem ..).late.trans sound), readByte_writeMem sound, runByte]
    cases runByte ws x with
    | some b => rfl
    | none =>
      rw [Option.none_or]
      split <;> rfl

/-- The runs of a write cover the bytes that are enabled and no others. -/
theorem runByte_enabledRuns (be : List Bool) (bs : List Byte) (a x : Nat) :
    runByte (enabledRuns be bs a) x = if a ≤ x ∧ x < a + bs.length ∧ be.getD (x - a) true = true
      then some (bs.getD (x - a) 0) else none := by
  rw [enabledRuns, runByte_joinRuns, runByte_of_agree (f := fun y => bs.getD (y - a) 0)]
  · refine if_congr ⟨?_, ?_⟩ rfl rfl
    · rintro ⟨w, hw, lo, hi⟩
      obtain ⟨i, hi', rfl⟩ := List.mem_map.mp hw
      obtain ⟨inside, enabled⟩ := List.mem_filter.mp hi'
      have index := List.mem_range.mp inside
      dsimp only [List.length_singleton] at lo hi
      obtain rfl : x = a + i := by omega
      exact ⟨by omega, by omega, by rwa [Nat.add_sub_cancel_left]⟩
    · rintro ⟨lo, hi, enabled⟩
      refine ⟨(x, [bs.getD (x - a) 0]), List.mem_map.mpr ⟨x - a, List.mem_filter.mpr ⟨List.mem_range.mpr ?_, enabled⟩, ?_⟩,
        Nat.le_refl x, Nat.lt_succ_self x⟩
      · omega
      · rw [Nat.add_sub_cancel' lo]
  · intro w hw lo hi
    obtain ⟨i, -, rfl⟩ := List.mem_map.mp hw
    dsimp only [List.length_singleton] at lo hi ⊢
    obtain rfl : x = a + i := by omega
    rw [Nat.sub_self, Nat.add_sub_cancel_left]
    rfl

/-- R384: what a fabric write does to one line. -/
def lineWrite (a : Nat) (bs : List Byte) (be pm : List Bool) (t : State) (l : Nat) : State :=
  (enabledRuns ((be.drop (l - a)).take 64) ((bs.drop (l - a)).take 64) l).foldl
    (fun u w => writeMem u w.1 w.2 (pm.getD ((l - a) / 64) false)) t

theorem storeLeaves_lineWrite (a : Nat) (bs : List Byte) (be pm : List Bool) (t : State) (l : Nat) :
    StoreLeaves t (lineWrite a bs be pm t l) := .foldl (fun _ _ => storeLeaves_writeMem ..) _ t

theorem targetWrite_eq (s : State) (a : Nat) (bs : List Byte) (be pm : List Bool) :
    targetWrite s a bs be pm = (linesOf a bs.length).foldl (lineWrite a bs be pm) s := rfl

theorem storeLeaves_targetWrite (s : State) (a : Nat) (bs : List Byte) (be pm : List Bool) :
    StoreLeaves s (targetWrite s a bs be pm) := .foldl (storeLeaves_lineWrite a bs be pm) _ s

/-- A line of a write leaves the line's enabled bytes. -/
theorem readByte_lineWrite {s : State} (sound : s.bring.lateDies = 0) (a : Nat) (bs : List Byte) (be pm : List Bool)
    {o : Nat} (whole : o + 64 ≤ bs.length) (x : Nat) :
    readByte (lineWrite a bs be pm s (a + o)) x = if a + o ≤ x ∧ x < a + o + 64 ∧ be.getD (x - a) true = true
      then bs.getD (x - a) 0 else readByte s x := by
  have length : ((bs.drop o).take 64).length = 64 := by simp; omega
  rw [lineWrite, readByte_stores _ _ sound, runByte_enabledRuns, Nat.add_sub_cancel_left, length]
  by_cases inside : a + o ≤ x ∧ x < a + o + 64
  · have near : x - (a + o) < 64 := by omega
    have index : o + (x - (a + o)) = x - a := by omega
    have byte : ((bs.drop o).take 64).getD (x - (a + o)) 0 = bs.getD (x - a) 0 := by
      simp only [List.getD_eq_getElem?_getD, List.getElem?_take_of_lt near, List.getElem?_drop, index]
    have enable : ((be.drop o).take 64).getD (x - (a + o)) true = be.getD (x - a) true := by
      simp only [List.getD_eq_getElem?_getD, List.getElem?_take_of_lt near, List.getElem?_drop, index]
    rw [byte, enable]
    split <;> rfl
  · rw [if_neg fun covered => inside ⟨covered.1, covered.2.1⟩, if_neg fun covered => inside ⟨covered.1, covered.2.1⟩]
    rfl

/-- The lines of an aligned run. -/
theorem linesOf_aligned (l n : Nat) : linesOf (l * 64) (64 * n) = (upTo n).map (fun k => l * 64 + 64 * k) := by
  rw [linesOf]
  split
  next none =>
    obtain rfl : n = 0 := by omega
    rfl
  next =>
    have count : (l * 64 + 64 * n - 1) / 64 - l * 64 / 64 + 1 = n := by omega
    rw [count]
    exact List.map_congr_left fun k _ => by omega

/-- R384: a fabric write of whole lines stores its enabled bytes, and no others. -/
theorem readByte_targetWrite {s : State} (sound : s.bring.lateDies = 0) (l n : Nat) {bs : List Byte} (be pm : List Bool)
    (length : bs.length = 64 * n) (x : Nat) :
    readByte (targetWrite s (l * 64) bs be pm) x = if l * 64 ≤ x ∧ x < l * 64 + 64 * n ∧ be.getD (x - l * 64) true = true
      then bs.getD (x - l * 64) 0 else readByte s x := by
  have lines (m : Nat) (inside : m ≤ n) :
      readByte (((upTo m).map (fun k => l * 64 + 64 * k)).foldl (lineWrite (l * 64) bs be pm) s) x
        = if l * 64 ≤ x ∧ x < l * 64 + 64 * m ∧ be.getD (x - l * 64) true = true then bs.getD (x - l * 64) 0
          else readByte s x := by
    induction m with
    | zero => exact (if_neg (by omega)).symm
    | succ m ih =>
      have kept := StoreLeaves.foldl (storeLeaves_lineWrite (l * 64) bs be pm) ((upTo m).map (fun k => l * 64 + 64 * k)) s
      rw [upTo, List.range_succ, List.map_append, List.foldl_append, ← upTo]
      refine (readByte_lineWrite (kept.late.trans sound) (l * 64) bs be pm (o := 64 * m) (by omega) x).trans ?_
      rw [ih (by omega)]
      refine (ite_or ..).symm.trans (if_congr ⟨?_, ?_⟩ rfl rfl)
      · rintro (⟨lo, hi, enabled⟩ | ⟨lo, hi, enabled⟩)
        all_goals exact ⟨by omega, by omega, enabled⟩
      · rintro ⟨lo, hi, enabled⟩
        rcases Nat.lt_or_ge x (l * 64 + 64 * m) with before | here
        · exact .inr ⟨lo, before, enabled⟩
        · exact .inl ⟨here, by omega, enabled⟩
  rw [targetWrite_eq, length, linesOf_aligned]
  exact lines n (Nat.le_refl n)

end Sys2Proof.Machine

namespace Sys2Proof.Machine

/-! ### Packets at their target and on their way (R384 to R387) -/

/-- A packet leaves on an Up port that its mask names. -/
theorem routePort_mem {s : State} {mask vc j : Nat} (route : routePort s mask vc = some j) :
    portUp s j = true ∧ mask.testBit j = true := by
  have among (l : List Nat) (b : Option Nat) : l.foldl (fun b k =>
      match b with
      | none => some k
      | some j => if (s.port j).credits vc < (s.port k).credits vc then some k else some j) b = some j →
      j ∈ l ∨ b = some j := by
    induction l generalizing b with
    | nil => exact .inr
    | cons k l ih =>
      intro out
      rcases ih _ out with later | chosen
      · exact .inl (List.mem_cons_of_mem _ later)
      · dsimp only at chosen
        split at chosen
        · exact .inl (Option.some.inj chosen ▸ List.mem_cons_self)
        · split at chosen
          · exact .inl (Option.some.inj chosen ▸ List.mem_cons_self)
          · exact .inr chosen
  rcases among _ _ route with member | none
  · obtain ⟨up, named⟩ := List.mem_filter.mp member
    exact ⟨(List.mem_filter.mp up).2, named⟩
  · cases none

/-- R386: a packet for another package is routed. -/
theorem exec_packetRoute {s : State} {k : Fin 64} {p : Packet} (up : accepts s k = true) (known : knownPtype p.ptype = true)
    (phase : p.rphase < 2) (other : p.dst ≠ devId s) : exec (.packetRoute k p) s = .next (routePacket s k p) := by
  have sound : ¬ ((!knownPtype p.ptype) = true ∨ 2 ≤ p.rphase) := by
    rw [known]
    rintro (no | high)
    · cases no
    · omega
  exact congrArg Host.Outcome.next ((ite_accepts up ..).trans ((if_neg sound).trans (if_neg other)))

/-- R387: a packet of a type that is for this package, but whose global hops are spent, is discarded and answered. -/
theorem received_of_spent {s : State} {k : Nat} {p : Packet} {t : Nat} (up : accepts s k = true) (own : p.dst = devId s)
    (kind : p.ptype = t) (spent : gSpent s k p = true) (f : State → State) :
    received s k p t f = answerUnreach (takePacket s k p) p := by
  have notMine : ¬ mine s k p t = true := by simp [mine, spent]
  have arrived : (accepts s k && p.ptype == t && p.dst == devId s) = true := by simp [up, own, kind]
  exact (if_neg notMine).trans (if_pos arrived)

/-- A packet's arrival does not change what the target's checks say. -/
theorem PortsSend.targetStat {s u : State} (h : PortsSend s u) (src a n : Nat) (wr : Bool) :
    targetStat u src a n wr = targetStat s src a n wr := by
  obtain ⟨_, _, _, _, _, rfl, -⟩ := h
  rfl

theorem PortsSend.rangeBad {s u : State} (h : PortsSend s u) (a n : Nat) : rangeBad u a n = rangeBad s a n := by
  obtain ⟨_, _, _, _, _, rfl, -⟩ := h
  rfl

theorem SameUnits.readByte {s u : State} (h : SameUnits s u) (a : Nat) : readByte u a = readByte s a := by
  rw [Machine.readByte, h.mem, Machine.readByte]

theorem SameUnits.readBytes {s u : State} (h : SameUnits s u) (a n : Nat) : readBytes u a n = readBytes s a n :=
  List.map_congr_left fun _ _ => h.readByte _

/-- R384: what a fabric read reads is its memory as it stands. -/
theorem targetRead_eq (s : State) (a n : Nat) :
    targetRead s a n = (detect s a n, readBytes s a n, (linesOf a n).map (fun l => rangeBad s l 64)) := by
  simp only [targetRead, readBytes, readByte_detect, rangeBad_detect]

section
variable {s : State} {k : Fin 64} {p : Packet}

/-- R384: a fabric read that the windows admit. -/
theorem exec_rdReq_served (own : mine s k p 1 = true)
    (stat : targetStat s p.src (packetAddr p) (64 * p.nlines) false = 0) :
    exec (.rdReq k p) s = .next (sramSweep (answer (detect (takePacket s k p) (packetAddr p) (64 * p.nlines)) p {
      ptype := 2, dst := 0, src := 0, nlines := p.nlines, laddr := p.laddr
      data := readBytes s (packetAddr p) (64 * p.nlines)
      pmap := if (linesOf (packetAddr p) (64 * p.nlines)).any (fun l => rangeBad s l 64) then
        (linesOf (packetAddr p) (64 * p.nlines)).map (fun l => rangeBad s l 64) else [] })) := by
  have taken := portsSend_takePacket s k p
  refine congrArg Host.Outcome.next ((received_of_mine own _).trans ?_)
  simp only [taken.targetStat, stat, targetRead_eq, taken.rangeBad, taken.units.readBytes, List.any_map]
  rfl

/-- R385: one that they do not admit. -/
theorem exec_rdReq_refused (own : mine s k p 1 = true)
    (stat : targetStat s p.src (packetAddr p) (64 * p.nlines) false ≠ 0) :
    exec (.rdReq k p) s = .next (answer (takePacket s k p) p {
      ptype := 2, dst := 0, src := 0, stat := targetStat s p.src (packetAddr p) (64 * p.nlines) false }) := by
  have taken := portsSend_takePacket s k p
  refine congrArg Host.Outcome.next ((received_of_mine own _).trans ?_)
  simp only [taken.targetStat]
  exact if_neg stat

/-- R384, R385: a fabric write is answered with its STAT, which says whether it stores. -/
theorem exec_cwWr (own : mine s k p 3 = true) :
    exec (.cwWr k p) s = .next (answer (if targetStat s p.src (packetAddr p) (64 * p.nlines) true = 0
      then targetWrite (takePacket s k p) (packetAddr p) (p.data.take (64 * p.nlines)) p.be p.pmap else takePacket s k p) p
      { ptype := 4, dst := 0, src := 0, stat := targetStat s p.src (packetAddr p) (64 * p.nlines) true }) := by
  have taken := portsSend_takePacket s k p
  refine congrArg Host.Outcome.next ((received_of_mine own _).trans ?_)
  simp only [taken.targetStat]

/-- R217: a fence that admits remote signals is raised; another signal is logged and refused. -/
theorem exec_fenceSig (own : mine s k p 5 = true) :
    exec (.fenceSig k p) s = .next (if (s.fence (tokenCtr p.token.toNat)).remote then
      answer (fenceRaise (takePacket s k p) (tokenCtr p.token.toNat) (tokenVal p.token.toNat)) p
        { ptype := 6, dst := 0, src := 0 }
      else answer (logAdd (takePacket s k p)
        { code := 0x55, inst := tokenCtr p.token.toNat, src := 5, sev := 1, args := [p.src] }) p { ptype := 6, dst := 0, src := 0, stat := 3 }) := by
  have fence : (takePacket s k p).fence (tokenCtr p.token.toNat) = s.fence (tokenCtr p.token.toNat) := by
    rw [State.fence, (portsSend_takePacket s k p).units.fences, State.fence]
  refine congrArg Host.Outcome.next ((received_of_mine own _).trans ?_)
  simp only [fence]

end

/-- Settles O49: routes by `routePort_mem`, reads by `targetRead_eq`, writes byte by byte by `readByte_targetWrite`. -/
theorem fabricPacketsAreServed : Obligations.FabricPacketsAreServed := by
  refine ⟨?route, ?reserved, ?spent, ?read, ?unread, ?write, ?unwritten, ?signal, ?shut⟩
  case route =>
    rintro k p q s up known phase other rfl
    refine ⟨fun j route hops fresh => ⟨?_, routePort_mem route⟩, fun fails => ?_⟩
    · have goes : ¬ (gSpent s k p || decide (15 < p.hops + 1)) = true := by simp [fresh]; omega
      rw [exec_packetRoute up known phase other, routePacket, route]
      exact congrArg Host.Outcome.next (if_neg goes)
    · rw [exec_packetRoute up known phase other, routePacket]
      dsimp only
      split
      next j route =>
        refine congrArg Host.Outcome.next (if_pos ?_)
        rcases fails with none | many | spent
        · rw [none] at route
          cases route
        · simp [show 15 < p.hops + 1 by omega]
        · rw [spent, Bool.true_or]
      next => rfl
  case reserved =>
    intro k p s up bad
    refine congrArg Host.Outcome.next ((ite_accepts up ..).trans (if_pos ?_))
    rw [Bool.not_eq_true']
    exact bad
  case spent =>
    intro k p s up own spent
    exact ⟨fun kind => congrArg Host.Outcome.next (received_of_spent up own kind spent _),
      fun kind => congrArg Host.Outcome.next (received_of_spent up own kind spent _),
      fun kind => congrArg Host.Outcome.next (received_of_spent up own kind spent _)⟩
  case read => exact fun k p s own stat => exec_rdReq_served own stat
  case unread => exact fun k p s own stat => exec_rdReq_refused own stat
  case write =>
    intro k p s own length sound stat
    have same := (portsSend_takePacket s k p).units
    have sound' : (takePacket s k p).bring.lateDies = 0 := by
      obtain ⟨_, _, _, _, _, eq, -⟩ := portsSend_takePacket s k p
      rw [eq]
      exact sound
    have left := storeLeaves_targetWrite (takePacket s k p) (packetAddr p) p.data p.be p.pmap
    have run := exec_cwWr own
    rw [stat, if_pos rfl, List.take_of_length_le (Nat.le_of_eq length)] at run
    refine ⟨_, run, fun b => ?_, left.fences.trans same.fences, left.numx.trans same.numx⟩
    rw [packetAddr, readByte_targetWrite sound' _ _ _ _ length, same.readByte]
  case unwritten =>
    intro k p s own stat
    have run := exec_cwWr own
    rw [if_neg stat] at run
    exact ⟨_, run, ((portsSend_takePacket ..).trans (portsSend_answer ..)).units, rfl⟩
  case signal => exact fun k p s own remote => (exec_fenceSig own).trans (congrArg Host.Outcome.next (if_pos remote))
  case shut =>
    intro k p s own shut
    refine ⟨_, (exec_fenceSig own).trans (congrArg Host.Outcome.next (if_neg (Bool.eq_false_iff.mp shut))), ?_⟩
    exact (portsSend_takePacket ..).units.trans (logAdd_logged ..).units

end Sys2Proof.Machine

namespace Sys2Proof.Machine

/-! ### S windows (R377 to R379, R411, R412, R416) -/

/-- Noting that a window has opened changes neither its entry nor its length. -/
theorem windowLen_opened (s : State) (k e : Nat) (l : List Nat) :
    windowLen (s.setPort k { s.port k with opened := l }) k e = windowLen s k e := by
  simp only [windowLen, schedEntry, port_setPort]
  rfl

/-- R377: a window that may open, and has not in this tick, carries its flit times. -/
theorem windowRun_of_open {s : State} {k e g : Nat} (n : Nat) {reserve : Bool} (opens : windowOpen s k e = some g)
    (active : s.pst = .active) (kind : (schedEntry s k e).testBit 62 = reserve) (fresh : (s.port k).opened.contains e = false) :
    windowRun s k e n reserve =
      let u := forUp (min n (windowLen s k e)) (fun _ t => windowStep t k e g reserve)
        (s.setPort k { s.port k with opened := (s.port k).opened ++ [e] })
      if reserve then u else windowClose u k e g := by
  have runs : ¬ (s.pst ≠ .active ∨ (schedEntry s k e).testBit 62 ≠ reserve ∨ (s.port k).opened.contains e = true) := by
    rw [fresh]
    rintro (off | other | again)
    · exact off active
    · exact other kind
    · cases again
  simp only [windowRun, opens, windowLen_opened]
  exact if_neg runs

/-- R377: otherwise nothing is carried. -/
theorem windowRun_of_shut {s : State} {k e : Nat} (n : Nat) {reserve : Bool} (shut : windowOpen s k e = none ∨ s.pst ≠ .active
    ∨ (schedEntry s k e).testBit 62 ≠ reserve ∨ (s.port k).opened.contains e = true) : windowRun s k e n reserve = s := by
  rw [windowRun]
  split
  next => rfl
  next opens =>
    rcases shut with none | refused
    · rw [none] at opens
      cases opens
    · exact if_pos refused

/-- R203: an unlocked package uses no S-slot. -/
theorem windowOpen_of_unlocked {s : State} (unlocked : s.tick.lock = 2) (k e : Nat) : windowOpen s k e = none := by
  rw [windowOpen]
  split
  · rfl
  · exact if_pos (by rw [unlocked]; exact Bool.or_true _)

/-- R412: the collectives of an entry are those of the group. -/
theorem group_of_entryColls {s : State} {gid e : Nat} {c : Coll} (h : c ∈ entryColls s gid e) : c.group = gid := by
  obtain ⟨listed, -⟩ := List.mem_filter.mp h
  obtain ⟨-, own⟩ := List.mem_filter.mp listed
  rw [Bool.and_eq_true, beq_iff_eq] at own
  exact own.1

theorem portCtr_eq (s : State) (k o : Nat) :
    portCtr s k o 1 = s.setPort k { s.port k with ctr := ctrAdd (s.port k).ctr o 1 } := rfl

/-- A counter of a port's page advances and no other port changes. -/
theorem port_portCtr (s : State) (k o j : Nat) :
    (portCtr s k o 1).port j = if j = k then { s.port k with ctr := ctrAdd (s.port k).ctr o 1 } else s.port j := by
  rw [portCtr_eq]
  split
  next own => rw [own, port_setPort]
  next other => rw [port_setPort_ne _ _ _ _ other]

section
variable (s : State) (k : Nat) (c : Coll) (x : SendC) (reserve : Bool)

/-- R411: the flit that leaves. -/
theorem sendS_sent : (sendS s k c x reserve).sent
    = s.sent ++ [.sflit k (c.flit x x.sent (tabGet s.ce.sseq 0 c.group))] := by
  simp only [sendS, portCtr_eq, ceCtr, State.setPort, setColl]
  split <;> rfl

/-- R412: SSEQ counts up. -/
theorem sendS_sseq : (sendS s k c x reserve).ce.sseq
    = tabSet s.ce.sseq c.group ((tabGet s.ce.sseq 0 c.group + 1) % 32768) := by
  cases reserve <;> rfl

theorem sameMemory_sendS : SameMemory s (sendS s k c x reserve) := by
  simp only [sendS, portCtr_eq, ceCtr, State.setPort, setColl]
  split <;> exact ⟨rfl, rfl, rfl⟩

/-- The ports are those that have counted the flit. -/
theorem sendS_port (j : Nat) : (sendS s k c x reserve).port j = (if reserve then portCtr (portCtr s k 0x150 1) k 0x180 1
    else portCtr s k 0x150 1).port j := by
  simp only [sendS, portCtr_eq, ceCtr, State.setPort, State.port, setColl]
  split <;> rfl

theorem sendS_port_ne {j : Nat} (other : j ≠ k) : (sendS s k c x reserve).port j = s.port j := by
  rw [sendS_port]
  split <;> simp only [port_portCtr, other, if_false]

theorem sendS_counts : ctrGet ((sendS s k c x reserve).port k).ctr 0x150 = ctrGet (s.port k).ctr 0x150 + 1 := by
  rw [sendS_port]
  split
  all_goals simp only [port_portCtr, if_true]
  · exact (ctrGet_ctrAdd_ne (by decide) _ _).trans (ctrGet_ctrAdd_same ..)
  · exact ctrGet_ctrAdd_same ..

end

/-- R377, R378: a flit in transit that leaves is of the window's group. -/
theorem sendTransit_sent (s : State) (k j gid : Nat) (reserve : Bool) :
    (sendTransit s k j gid reserve).sent = s.sent
      ∨ ∃ f, (sendTransit s k j gid reserve).sent = s.sent ++ [.sflit k f] ∧ f.group = gid := by
  simp only [sendTransit]
  split
  next => exact .inl rfl
  next t found =>
    have own := List.find?_some found
    simp only [Bool.and_eq_true, beq_iff_eq] at own
    refine .inr ⟨t.flit, ?_, own.1.1⟩
    cases reserve <;> rfl

/-- R377: one flit time carries at most one flit, of the window's group. -/
theorem windowStep_sent (s : State) (k e gid : Nat) (reserve : Bool) :
    (windowStep s k e gid reserve).sent = s.sent
      ∨ ∃ f, (windowStep s k e gid reserve).sent = s.sent ++ [.sflit k f] ∧ f.group = gid := by
  simp only [windowStep]
  split
  · split
    next c x next_ =>
      refine .inr ⟨_, sendS_sent .., ?_⟩
      rw [windowNext] at next_
      split at next_
      next => cases next_
      next found =>
        obtain ⟨_, -, eq⟩ := Option.map_eq_some_iff.mp next_
        obtain ⟨rfl, rfl⟩ := Prod.mk.inj eq
        exact group_of_entryColls (List.mem_of_find?_eq_some found)
    next => exact .inl rfl
  · exact sendTransit_sent ..

/-- R416: what a collective has ready when it misses its slot may take the reserve windows. -/
theorem sends_waited (s : State) (c : Coll) : (c.waited s none).sends = c.sends.map (fun x => { x with late := x.ready }) :=
  List.map_congr_left fun _ _ => if_pos rfl

/-! ### S flits that arrive (R378, R398, R399, R409, R414, R421) -/

section
variable {s : State} {gid q self : Nat} {devs : List Nat} (member : memberQ s gid = some q)
  (table : memberTable s gid = some (devs, self)) (full : Bool) (f : SFlit)
include member table

/-- R398: a flit of a member that is not its sender is only counted. -/
theorem flitIn_foreign (dev : Option Nat) (foreign : f.rsv = true
    ∨ (match dev with | some d => devs.getD f.srcM 262144 == d | none => decide (f.srcM < devs.length)) = false) :
    flitIn s gid dev full f = ceCtr s 0x738 1 := by
  simp only [flitIn, member, table]
  refine if_pos ?_
  rcases foreign with rsv | other
  · rw [rsv, Bool.true_or]
  · cases dev <;> simp only [other, Bool.not_false, Bool.or_true]

/-- R398: whether it came in a packet or not, a flit of its sender is met alike. -/
theorem flitIn_own {dev : Option Nat} (open_ : f.rsv = false)
    (own : (match dev with | some d => devs.getD f.srcM 262144 == d | none => decide (f.srcM < devs.length)) = true) :
    flitIn s gid dev full f = if f.dstM ≠ self then s
      else match s.ce.colls.find? (fun c => c.group == gid && c.seq == f.seq) with
        | some c => collFlit s c full f
        | none =>
          if 32767 < (f.seq + 65536 - (s.queue q).collSeq) % 65536 then ceCtr s 0x730 1
          else if heldEarly s gid f then ceCtr s 0x730 1
          else if full then ceCtr s 0x728 1
          else { s with ce := { s.ce with early := s.ce.early ++ [{ f with group := gid }] } } := by
  simp only [flitIn, member, table]
  refine if_neg ?_
  cases dev <;> simp only [open_, own, Bool.not_true, Bool.or_false, Bool.false_eq_true, not_false_eq_true]

end

section
variable {s : State} {c : Coll} {r : Rec} (rec_ : findRec s c.ref = some r) (full : Bool) {f : SFlit}
include rec_

/-- R223: a flit of another operation aborts the group. -/
theorem collFlit_other_op (other : f.op ≠ c.op) : collFlit s c full f = sendAbort s c.group 0x17 := by
  simp only [collFlit, rec_]
  exact if_pos other

/-- R223: a flit of another epoch aborts the group. -/
theorem collFlit_other_epoch (op : f.op = c.op) (other : f.epoch ≠ c.epoch) :
    collFlit s c full f = sendAbort s c.group 0x62 := by
  simp only [collFlit, rec_]
  exact (if_neg (not_not_intro op)).trans (if_pos other)

variable {x : RecvC} (op : f.op = c.op) (epoch : f.epoch = c.epoch) (recv : c.recv f.srcM f.phase2 = some x)
include op epoch recv

/-- A flit of the contribution `x` to a collective of its operation and epoch. -/
theorem collFlit_recv : collFlit s c full f =
    if x.done then ceCtr s 0x730 1
    else if f.fidx = 0 ∧ f.bytes ≠ x.total then sendAbort s c.group 0x17
    else if flitCount x.total ≤ f.fidx ∨ (x.waitLead ∧ f.fidx ≠ 0) then s
    else if tabHas x.flits f.fidx then ceCtr s 0x730 1
    else if c.op = 7 ∧ r.cVchk ∧ f.fidx = 0 ∧ f.version ≠ r.cVersion then collStep (versionMiss s c x) c.ref
    else if full && !keepsRoom s r c x.src f.phase2 then ceCtr s 0x728 1
    else collStep (setColl s (c.setRecv { x with
      waitLead := false, flits := tabSet x.flits f.fidx (f.data, f.pmap) })) c.ref := by
  simp only [collFlit, rec_, recv]
  exact (if_neg (not_not_intro op)).trans (if_neg (not_not_intro epoch))

variable (open_ : x.done = false)
include open_

/-- R402: a lead flit of another length aborts the group. -/
theorem collFlit_other_length (lead : f.fidx = 0) (other : f.bytes ≠ x.total) :
    collFlit s c full f = sendAbort s c.group 0x17 := by
  rw [collFlit_recv rec_ full op epoch recv, open_]
  exact (if_neg Bool.false_ne_true).trans (if_pos ⟨lead, other⟩)

variable (length : f.fidx = 0 → f.bytes = x.total) (within : f.fidx < flitCount x.total)
  (lead : x.waitLead = true → f.fidx = 0)
include length within lead

/-- A flit that fits its contribution is a repeated one, or a lead flit of another VERSION, or joins the others. -/
theorem collFlit_fits : collFlit s c full f =
    if tabHas x.flits f.fidx then ceCtr s 0x730 1
    else if c.op = 7 ∧ r.cVchk ∧ f.fidx = 0 ∧ f.version ≠ r.cVersion then collStep (versionMiss s c x) c.ref
    else if full && !keepsRoom s r c x.src f.phase2 then ceCtr s 0x728 1
    else collStep (setColl s (c.setRecv { x with
      waitLead := false, flits := tabSet x.flits f.fidx (f.data, f.pmap) })) c.ref := by
  have sound : ¬ (f.fidx = 0 ∧ f.bytes ≠ x.total) := fun bad => bad.2 (length bad.1)
  have inside : ¬ (flitCount x.total ≤ f.fidx ∨ (x.waitLead = true ∧ f.fidx ≠ 0)) := by
    rintro (beyond | waits)
    · omega
    · exact waits.2 (lead waits.1)
  rw [collFlit_recv rec_ full op epoch recv, open_]
  exact (if_neg Bool.false_ne_true).trans ((if_neg sound).trans (if_neg inside))

end

/-- R378: an S flit at a port that is Up, in Active. -/
theorem exec_sFlitReceive {k : Fin 64} (f : SFlit) (full : Bool) {s : State} (up : portUp s k = true)
    (active : s.pst = .active) : exec (.sFlitReceive k f full) s = .next (match slotOf s f.group with
      | none => portCtr s k 0x188 1
      | some e =>
        if 1536 ≤ (s.port k).transit.length then portCtr s k 0x188 1
        else collKick (flitIn (if (copyPorts s e.1 k).isEmpty then s else s.setPort k { s.port k with
          transit := (s.port k).transit ++ [{ flit := f, inPort := k, outs := copyPorts s e.1 k }] }) f.group none full f)) := by
  have runs : ¬ (!portUp s k || s.pst != .active) = true := by simp [up, active]
  exact congrArg Host.Outcome.next (if_neg runs)

/-- Settles O55: windows by `windowRun_of_open`, the engine's flits by `sendS`'s equations, arrivals by the tests of
`flitIn` and `collFlit` in their order. -/
theorem sFlitsFollowTheirSlots : Obligations.SFlitsFollowTheirSlots := by
  refine ⟨?opens, ?shut, fun s k e g reserve => windowStep_sent .., ?sends, ?miss, ?arrives, ?early, ?joins⟩
  case opens =>
    intro k e n g s opens active fresh
    exact ⟨fun kind => congrArg Host.Outcome.next (windowRun_of_open n opens active kind fresh),
      fun kind => congrArg Host.Outcome.next (windowRun_of_open n opens active kind fresh)⟩
  case shut =>
    intro k e n s
    refine ⟨fun shut => ?_, fun unlocked => windowOpen_of_unlocked unlocked .., fun kind => ?_, fun kind => ?_⟩
    · have refused (reserve : Bool) : windowRun s k e n reserve = s := by
        refine windowRun_of_shut n ?_
        rcases shut with none | again | off
        · exact .inl none
        · exact .inr (.inr (.inr again))
        · exact .inr (.inl off)
      exact ⟨congrArg Host.Outcome.next (refused false), congrArg Host.Outcome.next (refused true)⟩
    · exact congrArg Host.Outcome.next (windowRun_of_shut n (.inr (.inr (.inl (by simp [kind])))))
    · exact congrArg Host.Outcome.next (windowRun_of_shut n (.inr (.inr (.inl (by simp [kind])))))
  case sends =>
    intro s k c x reserve
    refine ⟨sendS_sent .., ?_, sendS_counts .., fun j other => sendS_port_ne s k c x reserve other, sameMemory_sendS ..⟩
    rw [sendS_sseq, tabGet_tabSet_same]
  case miss =>
    intro i s
    refine ⟨fun none => ?_, fun c some_ => ⟨?_, sends_waited s c⟩⟩
    · refine congrArg Host.Outcome.next ?_
      rw [slotMiss, none]
    · refine congrArg Host.Outcome.next ?_
      rw [slotMiss, some_]
  case arrives =>
    intro k f full s
    refine ⟨fun idle => congrArg Host.Outcome.next (if_pos ?_), fun up active => ⟨fun drops => ?_, fun e slot room => ⟨?_, ?_⟩⟩⟩
    · rcases idle with down | off
      · rw [down]
        rfl
      · simp [off]
    · rw [exec_sFlitReceive f full up active]
      rcases drops with none | full_
      · rw [none]
      · split
        · rfl
        · rw [if_pos full_]
    · intro copied
      rw [exec_sFlitReceive f full up active, slot]
      dsimp only
      rw [if_neg (by omega), if_neg (mt List.isEmpty_iff.mp copied)]
    · intro kept
      rw [exec_sFlitReceive f full up active, slot]
      dsimp only
      rw [if_neg (by omega), if_pos (List.isEmpty_iff.mpr kept)]
  case early =>
    intro s gid q self devs full f member table
    refine ⟨fun foreign => flitIn_foreign member table full f none ?_, fun open_ own => ?_⟩
    · exact foreign.imp_right fun beyond => decide_eq_false (by omega)
    · rw [flitIn_own member table full f (dev := none) open_ (decide_eq_true own)]
      refine ⟨fun other => if_pos other, fun c mine_ found => ?_, fun mine_ none => ⟨fun old => ?_, fun new fresh => ?_⟩⟩
      · rw [if_neg (not_not_intro mine_), found]
      · rw [if_neg (not_not_intro mine_), none]
        rcases old with before | held
        · exact if_pos before
        · rw [held]
          exact ite_self _
      · rw [if_neg (not_not_intro mine_), none]
        dsimp only
        rw [if_neg (by omega), fresh, if_neg Bool.false_ne_true]
  case joins =>
    intro s c r full f rec_
    refine ⟨fun other => collFlit_other_op rec_ full other, fun op other => collFlit_other_epoch rec_ full op other, ?_⟩
    intro x op epoch recv
    refine ⟨fun done => ?_, fun open_ lead other => collFlit_other_length rec_ full op epoch recv open_ lead other, ?_⟩
    · rw [collFlit_recv rec_ full op epoch recv, done]
      exact if_pos rfl
    · intro open_ length within lead
      rw [collFlit_fits rec_ full op epoch recv open_ length within lead]
      refine ⟨fun again => if_pos again, fun new => ?_⟩
      rw [new, if_neg Bool.false_ne_true]
      refine ⟨fun op7 checks first other => if_pos ⟨op7, checks, first, other⟩, fun same => if_neg ?_⟩
      rintro ⟨op7, checks, first, other⟩
      exact other (same op7 checks first)

end Sys2Proof.Machine

namespace Sys2Proof.Machine

/-! ### Packets of collectives (R387, R398, R413, R415, R420, R421) -/

/-- R387: a packet whose type has no answer is only counted when its global hops are spent. -/
theorem answerUnreach_of_none {p : Packet} (none : unreachAnswer p = none) (s : State) : answerUnreach s p = fabCtr s 0x108 1 := by
  simp only [answerUnreach, none]

theorem unreachAnswer_of_coll {p : Packet} (kind : p.ptype = 0x10 ∨ p.ptype = 0x11) : unreachAnswer p = none := by
  rcases kind with kind | kind <;> simp only [unreachAnswer, kind]

/-- R413: a COLL packet for this package brings its flit with its source device. -/
theorem exec_coll {s : State} {k : Fin 64} {p : Packet} (full : Bool) (own : mine s k p 0x10 = true) :
    exec (.coll k p full) s = .next (match p.flit with
      | none => takePacket s k p
      | some f => collKick (flitIn (takePacket s k p) p.group (some p.src) full f)) :=
  congrArg Host.Outcome.next (received_of_mine own _)

/-- R413: a control of a code that a command handles goes to it. -/
theorem ctlReceive_of_own {s : State} {k : Nat} {p : Packet} {x : CollCtl} (ctl : p.ctl = some x) {own : Nat → Bool}
    (handled : own x.code = true) (f : State → Coll → CollCtl → State) :
    ctlReceive s k p own f = received s k p 0x11 (fun s =>
      if x.code < 1 ∨ 3 < x.code then s
      else
        match ctlColl s p x with
        | (s, none) => s
        | (s, some c) => collKick (f s c x)) := by
  simp only [ctlReceive, ctl, handled]
  exact if_neg Bool.false_ne_true

theorem PortsSend.memberTable {s u : State} (h : PortsSend s u) (gid : Nat) : memberTable u gid = memberTable s gid := by
  obtain ⟨_, _, _, _, _, rfl, -⟩ := h
  rfl

theorem SameUnits.findRec {s u : State} (h : SameUnits s u) (c : CmdRef) : findRec u c = findRec s c := by
  rw [Machine.findRec, h.queue, Machine.findRec]

section
variable {s : State} {k : Fin 64} {p : Packet} {x : CollCtl} (ctl : p.ctl = some x) {own : Nat → Bool}
  (handled : own x.code = true) (f : State → Coll → CollCtl → State)
include ctl handled

/-- R387: a control whose global hops are spent is discarded and counted. -/
theorem ctlReceive_of_spent (up : accepts s k = true) (dst : p.dst = devId s) (kind : p.ptype = 0x11)
    (spent : gSpent s k p = true) : ctlReceive s k p own f = fabCtr (takePacket s k p) 0x108 1 := by
  rw [ctlReceive_of_own ctl handled, received_of_spent up dst kind spent,
    answerUnreach_of_none (unreachAnswer_of_coll (.inr kind))]

variable (own_ : mine s k p 0x11 = true)
include own_

/-- R413: a control of a reserved code is discarded. -/
theorem ctlReceive_of_reserved (reserved : x.code < 1 ∨ 3 < x.code) : ctlReceive s k p own f = takePacket s k p := by
  rw [ctlReceive_of_own ctl handled, received_of_mine own_]
  exact if_pos reserved

variable (legal : ¬ (x.code < 1 ∨ 3 < x.code)) {devs : List Nat} {self : Nat}
  (table : memberTable s p.group = some (devs, self))
include legal table

/-- R398: a control of a member that is not its sender is only counted. -/
theorem ctlReceive_of_foreign (foreign : devs.getD x.sender 262144 ≠ p.src) :
    ctlReceive s k p own f = ceCtr (takePacket s k p) 0x738 1 := by
  have found : ctlColl (takePacket s k p) p x = (ceCtr (takePacket s k p) 0x738 1, none) := by
    simp only [ctlColl, (portsSend_takePacket s k p).memberTable, table]
    exact if_pos foreign
  rw [ctlReceive_of_own ctl handled, received_of_mine own_, if_neg legal, found]

/-- R413: a control of a collective in flight is handled. -/
theorem ctlReceive_of_coll (sender : devs.getD x.sender 262144 = p.src) {c : Coll}
    (coll : s.ce.colls.find? (fun c => c.group == p.group && c.seq == x.seq && c.epoch == x.epoch) = some c) :
    ctlReceive s k p own f = collKick (f (takePacket s k p) c x) := by
  have taken := portsSend_takePacket s k p
  have found : ctlColl (takePacket s k p) p x = (takePacket s k p, some c) := by
    simp only [ctlColl, taken.memberTable, table, taken.units.ce, coll]
    exact if_neg (not_not_intro sender)
  rw [ctlReceive_of_own ctl handled, received_of_mine own_, if_neg legal, found]

end

section
variable {s : State} {c : Coll} {x : CollCtl} {y : SendC} (send : c.sendTo x.sender = some y)
include send

/-- R415: the requested flits that were sent before go again. -/
theorem resend_eq : resend s c x = ceCtr (forUp (if x.count = 0 then y.sent - x.first else min x.count (y.sent - x.first))
    (fun i t => sendColl t c y (x.first + i)) s) 0x720
    (if x.count = 0 then y.sent - x.first else min x.count (y.sent - x.first)) := by
  simp only [resend, send]

/-- R415: an acknowledgement ends its contribution. -/
theorem ackIn_eq : ackIn s c x = collStep (setColl s (c.setSend { y with acked := true })) c.ref := by
  simp only [ackIn, send]

/-- R420, R421: a reissue of a parameter gather waits for a write phase of its shard, and else reads the shard again. -/
theorem reissueIn_eq {r : Rec} (rec_ : findRec s c.ref = some r) : reissueIn s c x =
    if c.op ≠ 7 then s
    else if headerBusy s c.ref.q r.cSrc then setColl s (c.setSend { y with reissue := true })
    else reissueNow s c r y := by
  simp only [reissueIn, send, rec_]

end

/-! ### Hold points (R206, R208, R415, R416) -/

/-- R206: the hold point of an unfinished frame marks it late and counts. -/
theorem raiseOverrun_eq {s : State} {q : Nat} {f : Frame} (frame : (s.queue q).frame = some f)
    (first : ¬ (f.late = true ∧ f.held = f.closing)) :
    raiseOverrun s q = tickCtr (queueCtr (s.setQueue q { s.queue q with
      frame := some { f with late := true, held := f.closing } }) q 0x150 1) 0x128 1 := by
  simp only [raiseOverrun, frame]
  exact if_neg first

theorem queue_raiseOverrun {s : State} {q : Nat} {f : Frame} (frame : (s.queue q).frame = some f)
    (first : ¬ (f.late = true ∧ f.held = f.closing)) :
    (raiseOverrun s q).queue q = { s.queue q with
      frame := some { f with late := true, held := f.closing }, ctr := ctrAdd (s.queue q).ctr 0x150 1 } := by
  rw [raiseOverrun_eq frame first]
  change (State.setQueue _ q _).queue q = _
  rw [queue_setQueue, queue_setQueue]

theorem raiseOverrun_others {s : State} {q : Nat} {f : Frame} (frame : (s.queue q).frame = some f)
    (first : ¬ (f.late = true ∧ f.held = f.closing)) (gid : Nat) :
    (raiseOverrun s q).group gid = s.group gid ∧ (raiseOverrun s q).ce = s.ce ∧ SameMemory s (raiseOverrun s q) := by
  rw [raiseOverrun_eq frame first]
  exact ⟨rfl, rfl, rfl, rfl, rfl⟩

/-- R206 to R208: a hold request marks its tick, is remembered, and goes out. -/
theorem portsSend_requestHold (s : State) (gid h cause : Nat) : ∃ seen,
    PortsSend { markHold s gid h with tick := { (markHold s gid h).tick with seen := seen } } (requestHold s gid h cause) := by
  obtain ⟨seen, eq⟩ := firstSeen_eq (markHold s gid h) (5, gid, h)
  simp only [requestHold]
  split
  · rw [eq]
    exact ⟨seen, portsSend_forwardGroup ..⟩
  · exact ⟨_, .refl _⟩

theorem units_requestHold (s : State) (gid h cause : Nat) : SameUnits s (requestHold s gid h cause) := by
  obtain ⟨_, told⟩ := portsSend_requestHold s gid h cause
  exact (sameUnits_tick s _).trans told.units

theorem holds_requestHold (s : State) (gid h cause : Nat) :
    ((requestHold s gid h cause).group gid).holds = setIns (s.group gid).holds h := by
  obtain ⟨_, told⟩ := portsSend_requestHold s gid h cause
  rw [told.group]
  exact congrArg Group.holds (group_setGroup ..)

/-- R415: every member whose contribution is incomplete is asked for it. -/
theorem collResends_eq (s : State) (c : Coll) : collResends s c = (lacking c).foldl (askAgain c) s := rfl

/-- R206, R415, R416: the hold point of an unfinished frame of a grouped queue. -/
theorem holdPoint_eq {s : State} {q : Nat} {f : Frame} (frame : (s.queue q).frame = some f) (active : s.pst = .active)
    (grouped : (s.queue q).groupEn = true) (before : s.tick.last < f.closing)
    (first : ¬ (f.late = true ∧ f.held = f.closing)) :
    holdPoint s q = (s.ce.colls.filter (fun c => c.ref.q == q)).foldl (fun t c => (lacking c).foldl (askAgain c) t)
      (if s.ce.colls.any (fun c => c.ref.q == q && c.missed && c.unsent)
        then engineHold (requestHold (raiseOverrun s q) (s.queue q).group f.closing 0) (s.queue q).group
        else requestHold (raiseOverrun s q) (s.queue q).group f.closing 0) := by
  have runs : ¬ (s.pst ≠ .active ∨ (!(s.queue q).groupEn) = true ∨ f.closing ≤ s.tick.last
      ∨ (f.late = true ∧ f.held = f.closing)) := by
    rw [grouped]
    rintro (off | no | passed | again)
    · exact off active
    · cases no
    · omega
    · exact first again
  have ce : (requestHold (raiseOverrun s q) (s.queue q).group f.closing 0).ce = s.ce :=
    (units_requestHold ..).ce.trans (raiseOverrun_others frame first 0).2.1
  have missing : (s.ce.colls.filter (fun c => c.ref.q == q)).any (fun c => c.missed && c.unsent)
      = s.ce.colls.any (fun c => c.ref.q == q && c.missed && c.unsent) := by
    simp only [List.any_filter, Bool.and_assoc]
  simp only [holdPoint, frame]
  refine (if_neg runs).trans ?_
  rw [ce, missing]
  rfl

/-- Settles O56: packets by `ctlReceive`'s cases and `flitIn_own`, the hold point by `holdPoint_eq`. -/
theorem collectivesAreAskedAndAnswered : Obligations.CollectivesAreAskedAndAnswered := by
  refine ⟨?coll, ?source, ?spent, ?control, ?discarded, ?hold⟩
  case coll =>
    intro k p full s own
    refine ⟨fun none => ?_, fun f some_ => ?_⟩
    · rw [exec_coll full own, none]
    · rw [exec_coll full own, some_]
  case source =>
    intro s gid dev q self devs full f member table
    refine ⟨fun foreign => flitIn_foreign member table full f (some dev) (foreign.imp_right beq_eq_false_iff_ne.mpr), ?_⟩
    intro open_ own within
    rw [flitIn_own member table full f (dev := some dev) open_ (beq_iff_eq.mpr own),
      flitIn_own member table full f (dev := none) open_ (decide_eq_true within)]
  case spent =>
    intro k p full s up dst spent
    refine ⟨fun kind => ?_, fun x kind ctl => ⟨fun no2 no3 => ?_, fun code => ?_, fun code => ?_⟩⟩
    · refine congrArg Host.Outcome.next ((received_of_spent up dst kind spent _).trans ?_)
      exact answerUnreach_of_none (unreachAnswer_of_coll (.inl kind)) _
    · exact congrArg Host.Outcome.next (ctlReceive_of_spent ctl (by simp [no2, no3]) _ up dst kind spent)
    · exact congrArg Host.Outcome.next (ctlReceive_of_spent ctl (by simp [code]) _ up dst kind spent)
    · exact congrArg Host.Outcome.next (ctlReceive_of_spent ctl (by simp [code]) _ up dst kind spent)
  case control =>
    intro k p s x devs self c y own ctl table sender coll send
    refine ⟨fun n code count => ?_, fun code => ?_, fun r code rec_ => ?_⟩
    · refine congrArg Host.Outcome.next ((ctlReceive_of_coll ctl (by simp [code]) _ own (by omega) table sender coll).trans ?_)
      rw [resend_eq send, ← count]
    · refine congrArg Host.Outcome.next ((ctlReceive_of_coll ctl (by simp [code]) _ own (by omega) table sender coll).trans ?_)
      rw [ackIn_eq send]
    · have run : exec (.reissue k p) s = .next (collKick (reissueIn (takePacket s k p) c x)) :=
        congrArg Host.Outcome.next (ctlReceive_of_coll ctl (by simp [code]) _ own (by omega) table sender coll)
      rw [run, reissueIn_eq send (((portsSend_takePacket s k p).units.findRec c.ref).trans rec_)]
      refine ⟨fun other => ?_, fun op busy => ?_, ?_⟩
      · rw [if_pos other]
      · rw [if_neg (not_not_intro op), if_pos busy]
      · rintro g z n op idle rfl rfl rfl
        rw [if_neg (not_not_intro op), idle]
        rfl
  case discarded =>
    intro k p s x devs self own ctl
    refine ⟨fun reserved => congrArg Host.Outcome.next (ctlReceive_of_reserved ctl ?_ _ own reserved), ?_⟩
    · simp only [Bool.and_eq_true, bne_iff_ne]
      omega
    · intro table foreign
      refine ⟨fun code => ?_, fun code => ?_, fun code => ?_⟩
      all_goals
        exact congrArg Host.Outcome.next
          (ctlReceive_of_foreign ctl (by simp [code]) _ own (by omega) table foreign)
  case hold =>
    intro q s f frame
    refine ⟨fun idle => ?_, fun active grouped before fresh => ?_⟩
    · refine congrArg Host.Outcome.next ?_
      simp only [holdPoint, frame]
      refine if_pos ?_
      rw [Bool.not_eq_true']
      exact idle
    · have first : ¬ (f.late = true ∧ f.held = f.closing) := fun again => fresh again.1 again.2
      have same := units_requestHold (raiseOverrun s q) (s.queue q).group f.closing 0
      obtain ⟨group, ce, mem, poison, cores⟩ := raiseOverrun_others frame first (s.queue q).group
      refine ⟨_, ?_, ?_, ?_, same.ce.trans ce, ⟨same.mem.trans mem, same.poison.trans poison, same.cores.trans cores⟩,
        congrArg Host.Outcome.next (holdPoint_eq frame active grouped before first)⟩
      · rw [same.queue, queue_raiseOverrun frame first]
      · rw [holds_requestHold, group]
      · rw [same.queue, queue_raiseOverrun frame first]
        exact ctrGet_ctrAdd_same (s.queue q).ctr 0x150 1

end Sys2Proof.Machine

namespace Sys2Proof.Machine

/-! ### Records that fail a header check (R231) -/

section
variable {s : State} {q n : Nat} {r : Rec} {own : Rec → Bool}
  (active : s.pst = .active) (found : findRec s ⟨q, n⟩ = some r) (may : mayStart (s.queue q) r = true)
  (mine : own r = true) (fails : headerStatus s q r ≠ 0)
include active found may mine fails

/-- A record that fails a header check completes with its status before its command looks at it. -/
theorem dispatch_of_headerFailure (f : Rec → State) :
    dispatch s q n own f = completeSt s ⟨q, n⟩ (headerStatus s q r) := by
  have starts : ready s q n own = some r := by simp [ready, found, active, may, mine]
  rw [dispatch, starts]
  exact if_pos fails

theorem dispatchOrRetry_of_headerFailure (f : Rec → State) :
    dispatchOrRetry s q n own f = completeSt s ⟨q, n⟩ (headerStatus s q r) := by
  simp only [dispatchOrRetry, found, st_of_mayStart may, dispatch_of_headerFailure active found may mine fails]
  exact if_neg (by simp)

end

/-- The command of a record's row dispatches it as its own; FENCE_WAIT and the SCALE commands may also find it waiting in
place. -/
theorem exec_of_recordRow {c : Fin 64 → Nat → Instr} {r : Rec} (row : RecordRow c r) (q : Fin 64) (n : Nat) (s : State) :
    ∃ own f, own r = true ∧ (exec (c q n) s = .next (dispatch s q n own f)
      ∨ exec (c q n) s = .next (dispatchOrRetry s q n own f)) := by
  rcases row with ⟨rfl, op⟩ | row
  · exact ⟨_, _, by rcases op with op | op <;> simp [op], .inl rfl⟩
  rcases row with ⟨rfl, op⟩ | ⟨rfl, op⟩ | ⟨rfl, op⟩ | ⟨rfl, op⟩ | row
  iterate 4 exact ⟨_, _, isOp_eq_true op, .inl rfl⟩
  rcases row with ⟨rfl, op⟩ | row
  · exact ⟨_, _, isOp_eq_true op, .inr rfl⟩
  rcases row with ⟨rfl, op, sop⟩ | ⟨rfl, op, sop⟩ | ⟨rfl, op, sop⟩ | ⟨rfl, op, sop⟩ | row
  iterate 4 exact ⟨_, _, by simp [isOp_eq_true op, sop], .inr rfl⟩
  rcases row with ⟨rfl, op⟩ | ⟨rfl, op⟩ | ⟨rfl, op⟩ | ⟨rfl, op⟩ | ⟨rfl, op⟩ | ⟨rfl, op⟩
  iterate 6 exact ⟨_, _, isOp_eq_true op, .inl rfl⟩

/-- Settles O18: the record's row dispatches it (`exec_of_recordRow`), and the header check answers first. -/
theorem headerChecksDecideTheStatus : Obligations.HeaderChecksDecideTheStatus := by
  unfold Obligations.HeaderChecksDecideTheStatus
  intro c q n s r active found may row fails
  obtain ⟨own, f, mine, ran | ran⟩ := exec_of_recordRow row q n s
  · rw [ran, dispatch_of_headerFailure active found may mine fails]
  · rw [ran, dispatchOrRetry_of_headerFailure active found may mine fails]

end Sys2Proof.Machine

namespace Sys2Proof.Machine

/-! ### The queues but for their counters -/

/-- The queues, each without its counters. -/
def ledgers (s : State) (q : Nat) : Queue := { s.queue q with ctr := [] }

@[simp] theorem ledgers_ite {c : Prop} [Decidable c] (s t : State) :
    ledgers (if c then s else t) = if c then ledgers s else ledgers t := apply_ite ledgers c s t

theorem ledgers_of_queues {s u : State} (h : u.queues = s.queues) : ledgers u = ledgers s := by
  funext q
  rw [ledgers, State.queue, h, ledgers, State.queue]

@[simp] theorem ledgers_setDie (s : State) (d : Nat) (x : Die) : ledgers (s.setDie d x) = ledgers s := rfl
@[simp] theorem ledgers_dirBump (s : State) (o n : Nat) : ledgers (dirBump s o n) = ledgers s := rfl
@[simp] theorem ledgers_mapDir (s : State) (l : Nat) (f : DirEntry → DirEntry) : ledgers (mapDir s l f) = ledgers s := rfl

@[simp] theorem ledgers_coreCtr (s : State) (p o n : Nat) : ledgers (coreCtr s p o n) = ledgers s := by
  rw [coreCtr]; split <;> rfl

@[simp] theorem ledgers_queueCtr (s : State) (q o n : Nat) : ledgers (queueCtr s q o n) = ledgers s := by
  rw [queueCtr]; split
  · rfl
  · funext j
    by_cases own : j = q
    · rw [own, ledgers, queue_setQueue]; rfl
    · rw [ledgers, queue_setQueue_ne _ _ _ _ own]; rfl

@[simp] theorem ledgers_unstage (s : State) (p l : Nat) : ledgers (unstage s p l) = ledgers s := by
  rw [unstage]; split
  · rfl
  · simp only [ledgers_ite, ledgers_queueCtr, ledgers_coreCtr, ite_self]
    rfl

@[simp] theorem ledgers_uncache (s : State) (d l : Nat) : ledgers (uncache s d l) = ledgers s := by
  rw [uncache]; split
  · rfl
  · split
    · simp only [ledgers_queueCtr, ledgers_coreCtr, ledgers_setDie]
    · rfl

@[simp] theorem ledgers_dropDir (s : State) (l : Nat) : ledgers (dropDir s l) = ledgers s := by
  simp only [dropDir, filterDec, ledgers_ite, ledgers_setDie, ite_self]
  rfl

@[simp] theorem ledgers_recallLine (s : State) (l : Nat) : ledgers (recallLine s l) = ledgers s := by
  have recalled (held : BitVec 4) (t : State) :
      ledgers (forUp 4 (fun k t => if held.getLsbD k then uncache t k l else t) t) = ledgers t :=
    foldl_kept ledgers (fun t k => by simp only [ledgers_ite, ledgers_uncache, ite_self]) _ t
  rw [recallLine]; split
  · rfl
  · simp only [ledgers_ite, ledgers_dropDir, ledgers_mapDir, recalled, ledgers_dirBump, ite_self]

@[simp] theorem ledgers_invalidateLine (s : State) (l : Nat) : ledgers (invalidateLine s l) = ledgers s := by
  have unstaged : ledgers (s.cores.foldl (fun t c => if c.1 / 64 = homeDie l then unstage t c.1 l else t) s) = ledgers s :=
    foldl_kept ledgers (fun t c => by simp only [ledgers_ite, ledgers_unstage, ite_self]) _ s
  simp only [invalidateLine, ledgers_ite, ledgers_recallLine, ledgers_dirBump, unstaged, ite_self]

@[simp] theorem ledgers_writeMem (s : State) (a : Nat) (bs : List Byte) (bad : Bool) :
    ledgers (writeMem s a bs bad) = ledgers s := by
  have stored : ledgers (storeBytes s a bs bad) = ledgers s := ledgers_of_queues (queues_storeBytes s a bs bad)
  have struck (t : State) (c : Nat) (x : Core) (us : List Nat) : ledgers { t.setCore c x with latent := us } = ledgers t := rfl
  simp only [writeMem, ledgers_ite, foldl_kept ledgers ledgers_invalidateLine, stored, struck, ite_self]

@[simp] theorem ledgers_vwrite (s : State) (c dva : Nat) (bs : List Byte) (bad : Bool) :
    ledgers (vwrite s c dva bs bad) = ledgers s := by
  refine foldl_kept ledgers (fun t pc => ?_) _ s
  split
  · rfl
  · simp only [ledgers_ite, ledgers_writeMem, ite_self]

@[simp] theorem ledgers_vnote (s : State) (c dva n : Nat) (f : Option Nat) : ledgers (vnote s c dva n f) = ledgers s := by
  obtain ⟨_, eq, -⟩ := vnote_onlyWalksCounted s c dva n f
  rw [eq]; rfl

/-- A record is found by the queues alone. -/
theorem findRec_of_ledgers {s u : State} (h : ledgers u = ledgers s) (c : CmdRef) : findRec u c = findRec s c :=
  (congrArg (fun x : Queue => x.recs.find? fun r => r.n == c.n) (congrFun h c.q) :)

/-! ### Runs of bytes within a line (R544) -/

section
variable {s : State} {c va a n : Nat} (fits : va % 64 + n ≤ 64) (nonempty : 0 < n)
include fits nonempty

theorem pieces_of_line : pieces va n = [(va, n)] := by
  have one : (va + n - 1) / 64 - va / 64 + 1 = 1 := by omega
  have nonzero : n ≠ 0 := by omega
  simp only [pieces, linesOf, nonzero, if_false, one, upTo, List.range_one, List.map_cons, List.map_nil, Nat.add_zero,
    List.cons.injEq, Prod.mk.injEq, and_true]
  omega

variable (target : xlate s c va true = .pa a) (memory : (inHbm a || inCs a) = true)
include target memory

theorem vwriteFault_of_line : vwriteFault s c va n = none := by
  simp only [vwriteFault, pieces_of_line fits nonempty, List.foldl_cons, List.foldl_nil, target, memory, if_true]

theorem vwrite_of_line {bs : List Byte} (len : bs.length = n) (bad : Bool) : vwrite s c va bs bad = writeMem s a bs bad := by
  subst len
  simp only [vwrite, pieces_of_line fits nonempty, List.foldl_cons, List.foldl_nil, target, memory, if_true, Nat.sub_self,
    List.drop_zero, List.take_length]

end

/-- A store outside dies that are fenced late leaves its bytes, and every other byte as it was. -/
theorem readByte_writeMem_of_sound {s : State} {a : Nat} (sound : lateDie s a = false) (bs : List Byte) (bad : Bool)
    (x : Nat) : readByte (writeMem s a bs bad) x = if a ≤ x ∧ x < a + bs.length then bs.getD (x - a) 0 else readByte s x := by
  by_cases empty : bs = []
  · subst empty
    exact (if_neg (by simp)).symm
  · have stores : ¬ (decide (bs.length = 0) || lateDie s a) = true := by simp [empty, sound]
    rw [(copiesDrop_writeMem empty sound bad).readByte, storeBytes, if_neg stores]
    exact cellGet_cellsSet bs s.mem a x

/-! ### What posting a completion leaves (R235, R236) -/

section
variable {s t u : State} {q : Nat}

theorem PostFrame.trans (h : PostFrame s t q) (k : PostFrame t u q) : PostFrame s u q where
  pst := k.pst.trans h.pst
  tick := k.tick.trans h.tick
  numx := k.numx.trans h.numx
  fences := k.fences.trans h.fences
  pwr := k.pwr.trans h.pwr
  bring := k.bring.trans h.bring
  fab := k.fab.trans h.fab
  links := k.links.trans h.links
  bit := k.bit.trans h.bit
  agt := k.agt.trans h.agt
  partOf := k.partOf.trans h.partOf
  ce := k.ce.trans h.ce
  others p other := ⟨(k.others p other).1.trans (h.others p other).1, (k.others p other).2.trans (h.others p other).2⟩

theorem others_of_ledgers (h : ledgers u = ledgers s) (p : Nat) (_ : p ≠ q) :
    (u.queue p).recs = (s.queue p).recs ∧ (u.queue p).st = (s.queue p).st :=
  ⟨(congrArg Queue.recs (congrFun h p) :), (congrArg Queue.st (congrFun h p) :)⟩

/-- Memory, cores, the coherence of copies, contexts, the host's side, updates and messages sent are no part of the frame. -/
theorem postFrame_of_others {mem poison latent cores dies dir dirCtr queues xlat host upd sent}
    (others : ∀ p, p ≠ q → (tabGet queues {} p).recs = (s.queue p).recs ∧ (tabGet queues {} p).st = (s.queue p).st) :
    PostFrame s { s with
      mem := mem, poison := poison, latent := latent, cores := cores, dies := dies, dir := dir, dirCtr := dirCtr
      queues := queues, xlat := xlat, host := host, upd := upd, sent := sent } q :=
  ⟨rfl, rfl, rfl, rfl, rfl, rfl, rfl, rfl, rfl, rfl, rfl, rfl, others⟩

theorem postFrame_setQueue (s : State) (q : Nat) (x : Queue) : PostFrame s (s.setQueue q x) q :=
  postFrame_of_others fun p other => by rw [tabGet_tabSet_ne _ _ _ _ _ other]; exact ⟨rfl, rfl⟩

theorem postFrame_writeMem {a : Nat} {bs : List Byte} (nonempty : bs ≠ []) (sound : lateDie s a = false) (bad : Bool)
    (q : Nat) : PostFrame s (writeMem s a bs bad) q := by
  have others := others_of_ledgers (q := q) (ledgers_writeMem s a bs bad)
  have stores : ¬ (decide (bs.length = 0) || lateDie s a) = true := by simp [nonempty, sound]
  obtain ⟨_, _, _, _, _, _, eq, -⟩ := copiesDrop_writeMem nonempty sound bad
  rw [eq, storeBytes, if_neg stores] at others ⊢
  exact postFrame_of_others others

theorem postFrame_vnote (s : State) (c va n : Nat) (f : Option Nat) (q : Nat) : PostFrame s (vnote s c va n f) q := by
  obtain ⟨_, eq, -⟩ := vnote_onlyWalksCounted s c va n f
  rw [eq]
  exact postFrame_of_others fun _ _ => ⟨rfl, rfl⟩

end

/-- R194: a frame stays open, or closes and leaves the count of completions. -/
theorem closeFrame_cases (s : State) (q : Nat) : closeFrame s q = s ∨ ∃ upd x,
    closeFrame s q = { s with upd := upd }.setQueue q x ∧ x.frame = none ∧ x.completed = (s.queue q).completed := by
  rw [closeFrame]
  split
  · exact .inl rfl
  · split
    · exact .inr ⟨_, _, rfl, rfl, rfl⟩
    · exact .inl rfl

theorem closeFrame_mem (s : State) (q : Nat) : (closeFrame s q).mem = s.mem := by
  rcases closeFrame_cases s q with stays | ⟨_, _, closes, -⟩
  · rw [stays]
  · rw [closes, setQueue_mem]

theorem completed_closeFrame (s : State) (q : Nat) : ((closeFrame s q).queue q).completed = (s.queue q).completed := by
  rcases closeFrame_cases s q with stays | ⟨_, _, closes, -, kept⟩
  · rw [stays]
  · rw [closes, queue_setQueue, kept]

theorem postFrame_closeFrame (s : State) (q : Nat) : PostFrame s (closeFrame s q) q := by
  rcases closeFrame_cases s q with stays | ⟨_, _, closes, -⟩
  · rw [stays]
    exact postFrame_of_others fun _ _ => ⟨rfl, rfl⟩
  · rw [closes]
    exact PostFrame.trans (postFrame_of_others fun _ _ => ⟨rfl, rfl⟩) (postFrame_setQueue ..)

/-! ### A completion that can be written (R235, R236) -/

/-- The bytes at `a` are those of the completion of record `c`, and every other byte is as it was. -/
def SlotFilled (s : State) (c : CmdRef) (v : Cpl) (r : Rec) (a : Nat) (u : State) : Prop := ∀ x, readByte u x =
  if a ≤ x ∧ x < a + 32 then (toLE 32 (cplWord s c.q r v)).getD (x - a) 0 else readByte s x

/-- A completion stands at `a` and is counted, its record is complete, and nothing else that `PostFrame` names differs. -/
structure Posted (s : State) (c : CmdRef) (v : Cpl) (r : Rec) (a : Nat) (u : State) : Prop where
  frame : PostFrame s u c.q
  record : findRec u c = some { r with st := .done v.status }
  count : (u.queue c.q).completed = (s.queue c.q).completed + 1
  bytes : SlotFilled s c v r a u

/-- The queue of record `c` has `n` completions, the last of them that of `c`, with a status. -/
def completionCounted (s : State) (c : CmdRef) (st n : Nat) : State :=
  setRecSt (s.setQueue c.q { s.queue c.q with completed := n }) c (.done st)

section
variable {s u : State} {c : CmdRef} {v : Cpl} {r : Rec} {a : Nat}

theorem Posted.sendMsix (h : Posted s c v r a u) (fn vec : Nat) : Posted s c v r a (sendMsix u fn vec) := by
  obtain ⟨frame, record, count, bytes⟩ := h
  obtain ⟨_, _, eq⟩ := sendMsix_eq u fn vec
  rw [eq]
  exact ⟨frame.trans (postFrame_of_others fun _ _ => ⟨rfl, rfl⟩), record, count, bytes⟩

theorem posted_completionCounted (found : findRec s c = some r) (frame : PostFrame s u c.q) (same : ledgers u = ledgers s)
    (bytes : SlotFilled s c v r a u) :
    Posted s c v r a (completionCounted u c v.status ((s.queue c.q).completed + 1)) where
  frame := frame.trans ((postFrame_setQueue ..).trans (postFrame_setQueue ..))
  record := by
    refine findRec_mapRec (f := fun r => { r with st := .done v.status }) ?_ fun _ => rfl
    rw [findRec, queue_setQueue]
    exact (findRec_of_ledgers same c).trans found
  count := by simp [completionCounted, setRecSt, mapRec]
  bytes := bytes

variable (v) (r) in
/-- The completion's bytes are written at its slot. -/
theorem slotFilled_writeMem (c : CmdRef) (sound : lateDie s a = false) :
    SlotFilled s c v r a (writeMem s a (toLE 32 (cplWord s c.q r v)) false) := by
  intro x
  rw [readByte_writeMem_of_sound sound, length_toLE]

theorem SlotFilled.vnote (h : SlotFilled s c v r a u) (k va n : Nat) (f : Option Nat) :
    SlotFilled s c v r a (vnote u k va n f) := by
  obtain ⟨_, eq, -⟩ := vnote_onlyWalksCounted u k va n f
  rw [eq]
  exact h

/-- The next slot lies in one line, so the completion is written in one piece; then its frame may close. -/
theorem complete_posts (v : Cpl) (found : findRec s c = some r) (fresh : r.isDone = false)
    (target : xlate s (s.queue c.q).ctxNo (ringSlot (s.queue c.q)) true = .pa a) (memory : (inHbm a || inCs a) = true)
    (sound : lateDie s a = false) : ∃ u, complete s c v = closeFrame u c.q ∧ Posted s c v r a u := by
  have fits : ringSlot (s.queue c.q) % 64 + 32 ≤ 64 := by rw [ringSlot]; omega
  have writable := vwriteFault_of_line fits (by decide) target memory
  have len := length_toLE 32 (cplWord s c.q r v)
  have written := vwrite_of_line fits (by decide) target memory len false
  have frame := (postFrame_writeMem (List.ne_nil_of_length_pos (by rw [len]; decide)) sound false c.q).trans
    (postFrame_vnote _ (s.queue c.q).ctxNo (ringSlot (s.queue c.q)) 32 none c.q)
  have posted := posted_completionCounted found frame (by rw [ledgers_vnote, ledgers_writeMem])
    ((slotFilled_writeMem v r c sound).vnote _ _ _ _)
  simp only [ringSlot] at writable written posted
  simp only [complete, postOne, found, fresh, writable, written, Option.isSome_none, Bool.false_eq_true, if_false,
    Bool.not_false, Bool.and_true]
  split
  · exact ⟨_, rfl, posted.sendMsix _ _⟩
  · exact ⟨_, rfl, posted⟩

end

/-- Settles O19: the completion is posted (`complete_posts`), and its frame then stays open or closes
(`closeFrame_cases`). -/
theorem completionsArePosted : Obligations.CompletionsArePosted := by
  unfold Obligations.CompletionsArePosted
  intro s c v r a found fresh target memory sound
  obtain ⟨u, eq, frame, record, count, bytes⟩ := complete_posts v found fresh target memory sound
  have read (x : Nat) : readByte (complete s c v) x = readByte u x := by rw [readByte, eq, closeFrame_mem, readByte]
  refine ⟨?frame, ?record, ?count, fun k hk => ?slot, fun b hb => ?others⟩
  case frame =>
    rw [eq]
    exact frame.trans (postFrame_closeFrame u c.q)
  case record =>
    rw [eq]
    rcases closeFrame_cases u c.q with stays | ⟨_, _, closes, ended, -⟩
    · rw [stays]
      exact .inl record
    · rw [closes, queue_setQueue]
      exact .inr ended
  case count => rw [eq, completed_closeFrame, count]
  case slot => rw [read, bytes, if_pos (by omega), Nat.add_sub_cancel_left]
  case others => rw [read, bytes, if_neg (by omega)]

end Sys2Proof.Machine

namespace Sys2Proof.Machine

/-! ### The entries that a SCALE command names (R262, R267) -/

section
variable {s : State} {c : CmdRef} {r : Rec} {l : List (Bool × Nat)}

theorem checked_of_firstStatus (passes : firstStatus l = 0) (c : CmdRef) (k : State) : checked s c l k = k := by
  rw [checked, passes]
  exact if_neg (not_not_intro rfl)

/-- Of checks that pass none has found its fault. -/
theorem passes_of_firstStatus (coded : ∀ e ∈ l, e.2 ≠ 0) (passes : firstStatus l = 0) : ∀ e ∈ l, e.1 = false := by
  induction l with
  | nil => exact fun _ he => absurd he List.not_mem_nil
  | cons e l ih =>
    obtain ⟨bad, st⟩ := e
    cases bad with
    | true => exact absurd passes (coded (true, st) List.mem_cons_self)
    | false => exact List.forall_mem_cons.mpr ⟨rfl, ih (fun e he => coded e (List.mem_cons_of_mem _ he)) passes⟩

/-- R252: a SCALE command that passes its checks names entries of the table. -/
theorem entries_of_scaleChecks (passes : firstStatus (scaleChecks r) = 0) : r.f 83 68 + r.f 100 84 ≤ 65536 := by
  have coded : ∀ e ∈ scaleChecks r, e.2 ≠ 0 := by simp [scaleChecks]
  have inside := passes_of_firstStatus coded passes (decide (65536 < r.f 83 68 + r.f 100 84), 0x1B) (by simp [scaleChecks])
  exact Nat.not_lt.mp (of_decide_eq_false inside)

end

theorem entry_putEntry (s : State) (n t m i : Nat) (e : Entry) : (putEntry s n t e).entry m i =
    if m * 65536 + i = n * 65536 + t then e else s.entry m i :=
  tabGet_tabSet s.numx.tab {} e (n * 65536 + t) (m * 65536 + i)

theorem queue_of_queues {s u : State} (h : u.queues = s.queues) (q : Nat) : u.queue q = s.queue q := by
  rw [State.queue, h, State.queue]

section
variable {s u : State} {n first cnt : Nat} {f : Nat → Entry → Entry}

theorem Rescaled.zero (s : State) (n first : Nat) (f : Nat → Entry → Entry) : Rescaled s s n first 0 f :=
  ⟨fun _ h => absurd h (Nat.not_lt_zero _), fun _ _ _ _ => rfl, rfl, rfl, rfl⟩

/-- The entries of a partition are written one after another, each once. -/
theorem Rescaled.succ (h : Rescaled s u n first cnt f) (fits : first + cnt < 65536) :
    Rescaled s (putEntry u n (first + cnt) (f cnt (u.entry n (first + cnt)))) n first (cnt + 1) f where
  named k hk := by
    rw [entry_putEntry]
    split
    next own =>
      obtain rfl : k = cnt := by omega
      rw [h.others n _ fits (.inr (.inr (Nat.le_refl _)))]
    next other => exact h.named k (by omega)
  others m t ht out := by
    rw [entry_putEntry, if_neg (by omega)]
    exact h.others m t ht (by omega)
  mem := h.mem
  queues := h.queues
  fences := h.fences

theorem rescaled_forUp (s : State) (n : Nat) (f : Nat → Entry → Entry) (fits : first + cnt ≤ 65536) :
    Rescaled s (forUp cnt (fun i t => putEntry t n (first + i) (f i (t.entry n (first + i)))) s) n first cnt f := by
  induction cnt with
  | zero => exact .zero s n first f
  | succ cnt ih =>
    rw [forUp_succ]
    exact (ih (by omega)).succ (by omega)

/-- What a SCALE command makes of its entries it makes of them in a state that holds the same. -/
theorem Rescaled.of_walks {t : State} (walks : OnlyWalksCounted s t) (h : Rescaled t u n first cnt f) :
    Rescaled s u n first cnt f := by
  obtain ⟨_, rfl, -⟩ := walks
  exact ⟨h.named, h.others, h.mem, h.queues, h.fences⟩

end

/-! ### The SCALE commands (R252, R267) -/

/-- R267: SOP 0 leaves every entry cold. -/
theorem coldCount_clear (s : State) (n first cnt : Nat) : coldCount s 0 n first cnt = cnt := by
  simp [coldCount, scaleCold, upTo]

/-- The cold entries among those that a SCALE command has made. -/
theorem coldCount_of_rescaled {s u : State} {n first cnt : Nat} {f : Nat → Entry → Entry} (h : Rescaled s u n first cnt f)
    (sop : Nat) : coldCount u sop n first cnt =
      ((upTo cnt).filter fun k => scaleCold sop (f k (s.entry n (first + k)))).length := by
  have made : ∀ k ∈ upTo cnt, scaleCold sop (u.entry n (first + k)) = scaleCold sop (f k (s.entry n (first + k))) :=
    fun k hk => congrArg (scaleCold sop) (h.named k (List.mem_range.mp hk))
  rw [coldCount, List.filter_congr made]

/-- A count of cold entries looks at the scale tables only. -/
theorem coldCount_of_numx {s u : State} (h : u.numx = s.numx) (sop n first cnt : Nat) :
    coldCount u sop n first cnt = coldCount s sop n first cnt := by
  simp only [coldCount, State.entry, h]

/-- R545: the walks over the buffer of a SCALE command are counted. -/
def bufferNoted (s : State) (q : Nat) (r : Rec) : State :=
  vnote s (s.queue q).ctxNo (r.f 175 128) (128 * r.f 100 84) none

theorem bufferNoted_onlyWalksCounted (s : State) (q : Nat) (r : Rec) : OnlyWalksCounted s (bufferNoted s q r) :=
  vnote_onlyWalksCounted ..

section
variable {s u : State} {q n : Nat} {r : Rec}

/-- A SCALE command that passes its checks runs. -/
theorem scaleCmd_of_passes (starts : Starts s q n r) (op : r.opcode = 0x18) {own : Nat → Bool} (mine : own r.sop = true)
    (passes : firstStatus (scaleChecks r) = 0) : scaleCmd s q n own = sramSweep (scaleRun s ⟨q, n⟩ r) :=
  (starts.dispatchOrRetry (by simp [isOp_eq_true op, mine]) _).trans (checked_of_firstStatus passes _ _)

/-- The completion of a SCALE command whose queue is as it was. -/
theorem scaleDone_of_part (part : (u.queue q).part = (s.queue q).part) (bad : Bool) : scaleDone u ⟨q, n⟩ r bad =
    complete u ⟨q, n⟩ {
      res0 := r.f 100 84, res1 := coldCount u r.sop (s.queue q).part (r.f 83 68) (r.f 100 84), poison := bad } := by
  rw [scaleDone, part]

theorem scaleRun_load {v : VRead} (sop : r.sop = 1) (reads : v = vread s (s.queue q).ctxNo (r.f 175 128) (128 * r.f 100 84))
    (fault : v.fault = none) (clean : v.bad = false)
    (valid : ∀ k, k < r.f 100 84 → imageOk (ofLE ((v.data.drop (128 * k)).take 128)) = true) :
    scaleRun s ⟨q, n⟩ r = scaleDone (scaleLoadAll (bufferNoted s q r) (s.queue q).part (r.f 83 68) (r.f 100 84) v.data)
      ⟨q, n⟩ r false := by
  have counted := bufferNoted_onlyWalksCounted s q r
  have still := vdetect_of_clean (s := bufferNoted s q r) (by rw [counted.vread, ← reads, fault])
    (by rw [counted.vread, ← reads, clean])
  have images : ((upTo (r.f 100 84)).all fun k => imageOk (ofLE ((v.data.drop (128 * k)).take 128))) = true :=
    List.all_eq_true.mpr fun k hk => valid k (List.mem_range.mp hk)
  rw [bufferNoted] at still
  simp only [scaleRun, bufferNoted, sop, ← reads, fault, clean, still, images, Bool.not_false, Bool.true_and, if_true]

theorem scaleRun_store (sop : r.sop = 2)
    (idle : ∀ k, k < r.f 100 84 → (s.entry (s.queue q).part (r.f 83 68 + k)).scaling = false)
    (writable : vwriteFault s (s.queue q).ctxNo (r.f 175 128) (128 * r.f 100 84) = none)
    (noted : u = bufferNoted s q r) : scaleRun s ⟨q, n⟩ r =
      scaleDone (vwrite u (s.queue q).ctxNo (r.f 175 128) (scaleImages u (s.queue q).part (r.f 83 68) (r.f 100 84)) false)
        ⟨q, n⟩ r false := by
  have waits : ((upTo (r.f 100 84)).any fun k => (s.entry (s.queue q).part (r.f 83 68 + k)).scaling) = false :=
    List.any_eq_false.mpr fun k hk => Bool.eq_false_iff.mp (idle k (List.mem_range.mp hk))
  rw [bufferNoted] at noted
  simp only [scaleRun, sop, waits, writable, ← noted, Bool.false_eq_true, if_false]

end

theorem storeLeaves_vwrite (s : State) (c dva : Nat) (bs : List Byte) (bad : Bool) : StoreLeaves s (vwrite s c dva bs bad) := by
  refine .foldl (fun t pc => ?_) _ s
  split
  · exact .refl t
  · split
    · exact storeLeaves_writeMem ..
    · exact .refl t

/-- Settles O22: each command runs its SOP (`scaleCmd_of_passes`), which writes its entries one after another
(`rescaled_forUp`) or their images. -/
theorem scaleCommandsChangeTheirEntries : Obligations.ScaleCommandsChangeTheirEntries := by
  unfold Obligations.ScaleCommandsChangeTheirEntries
  refine ⟨?clear, ?rescale, ?load, ?store⟩
  case clear =>
    intro q n s r starts op sop passes
    have entries := rescaled_forUp s (s.queue q).part (fun _ _ => {}) (entries_of_scaleChecks passes)
    refine ⟨_, congrArg Host.Outcome.next ((scaleCmd_of_passes starts op (by rw [sop]; rfl) passes).trans ?_), entries⟩
    simp only [scaleRun, sop, scaleClearAll]
    rw [scaleDone_of_part (congrArg Queue.part (queue_of_queues entries.queues q)), sop, coldCount_clear]
  case rescale =>
    intro q n s r starts op sop passes
    have entries := rescaled_forUp s (s.queue q).part (fun _ e => { e with force := true, scaleSet := false })
      (entries_of_scaleChecks passes)
    have ran := scaleCmd_of_passes starts op (own := fun k => k == 3) (by rw [sop]; rfl) passes
    refine ⟨_, _, congrArg Host.Outcome.next (ran.trans ?_), rfl, entries⟩
    simp only [scaleRun, sop, scaleRescaleAll]
    rw [scaleDone_of_part (congrArg Queue.part (queue_of_queues entries.queues q)), sop,
      coldCount_of_rescaled entries]
    rfl
  case load =>
    intro q n s r v starts op sop passes reads fault clean valid
    have entries := (rescaled_forUp _ (s.queue q).part (fun k _ => entryOf (ofLE ((v.data.drop (128 * k)).take 128)))
      (entries_of_scaleChecks passes)).of_walks (bufferNoted_onlyWalksCounted s q r)
    have ran := scaleCmd_of_passes starts op (own := fun k => k == 1) (by rw [sop]; rfl) passes
    refine ⟨_, _, congrArg Host.Outcome.next (ran.trans ?_), rfl, entries⟩
    rw [scaleRun_load sop reads fault clean valid, scaleLoadAll,
      scaleDone_of_part (congrArg Queue.part (queue_of_queues entries.queues q)), sop]
  case store =>
    intro q n s u r starts op sop passes idle writable noted
    refine congrArg Host.Outcome.next ((scaleCmd_of_passes starts op (by rw [sop]; rfl) passes).trans ?_)
    have kept : ledgers u = ledgers s := by rw [noted, ledgers_vnote]
    have part (bs : List Byte) : ((vwrite u (s.queue q).ctxNo (r.f 175 128) bs false).queue q).part = (s.queue q).part :=
      (congrArg Queue.part (congrFun ((ledgers_vwrite ..).trans kept) q) :)
    have numx : u.numx = s.numx := by
      obtain ⟨_, walks, -⟩ := bufferNoted_onlyWalksCounted s q r
      exact (congrArg State.numx (noted.trans walks) :)
    rw [scaleRun_store sop idle writable noted, scaleDone_of_part (part _), sop,
      coldCount_of_numx ((storeLeaves_vwrite ..).numx.trans numx)]

end Sys2Proof.Machine

namespace Sys2Proof.Machine

/-! ### Records that enter a stream of their core (R211) -/

/-- Nothing but core `p` differs. -/
def OnlyCore (s u : State) (p : Nat) : Prop := ∃ cores, u = { s with cores := cores } ∧ ∀ k, k ≠ p → u.core k = s.core k

theorem OnlyCore.refl (s : State) (p : Nat) : OnlyCore s s p := ⟨_, rfl, fun _ _ => rfl⟩

theorem OnlyCore.trans {s t u : State} {p : Nat} (h : OnlyCore s t p) (k : OnlyCore t u p) : OnlyCore s u p := by
  obtain ⟨_, rfl, first⟩ := h
  obtain ⟨_, rfl, second⟩ := k
  exact ⟨_, rfl, fun j other => (second j other).trans (first j other)⟩

theorem onlyCore_setCore (s : State) (p : Nat) (x : Core) : OnlyCore s (s.setCore p x) p :=
  ⟨_, rfl, fun _ other => core_setCore_ne _ _ _ _ other⟩

theorem onlyCore_scaleReads (s : State) (p q : Nat) (r : Rec) : OnlyCore s (scaleReads s p q r) p := by
  have read (t : State) (n i : Nat) : OnlyCore t (scaleRead t p n i) p := by
    simp only [scaleRead]
    split
    · exact .refl t p
    · exact onlyCore_setCore ..
  exact ((read s _ _).trans (read _ _ _)).trans (read _ _ _)

/-- A record that is changed as its core takes it is found so; memory and the other cores stay. -/
theorem OnlyCore.entered {s u : State} {p : Nat} {c : CmdRef} {r : Rec} {f : Rec → Rec} (h : OnlyCore (mapRec s c f) u p)
    (found : findRec s c = some r) (named : ∀ x, (f x).n = x.n) :
    findRec u c = some (f r) ∧ u.mem = s.mem ∧ ∀ k, k ≠ p → u.core k = s.core k := by
  obtain ⟨_, rfl, others⟩ := h
  exact ⟨findRec_mapRec found named, rfl, others⟩

section
variable {s : State} {q n : Nat} {r : Rec} (starts : Starts s q n r)
include starts

theorem tileRun_of_passes (op : r.opcode = 1) (passes : firstStatus (tileChecks s r) = 0) :
    tileRun s q n = mxaEnqueue s q n r.coreNo :=
  (starts.dispatch (isOp_eq_true op) _).trans (checked_of_firstStatus passes _ _)

theorem drainRun_of_passes {o : Nat} (op : r.opcode = o) (passes : firstStatus (drainChecks s r) = 0) : drainRun s q n o =
    if r.dKind = 0 then mxaEnqueue s q n r.coreNo else scaleReads (mxaEnqueue s q n r.coreNo) r.coreNo q r :=
  (starts.dispatch (isOp_eq_true op) _).trans (checked_of_firstStatus passes _ _)

theorem veProgRun_of_passes (op : r.opcode = 4) (spare : r.zero 511 384 = true) (unused : r.zero 127 87 = true)
    (aligned : r.f 86 64 % 8 = 0) (inside : r.f 86 64 < csSize) : veProgRun s q n =
      veKick (setVe (setRecSt s ⟨q, n⟩ .waiting) r.coreNo { (s.core r.coreNo).ve with
        waiting := (s.core r.coreNo).ve.waiting ++ [⟨q, n⟩] }) r.coreNo := by
  refine (starts.dispatch (isOp_eq_true op) _).trans (checked_of_passes ?_ _ _)
  simp [spare, unused, aligned, inside]

theorem heronRun_of_passes {pf : Bool} (op : r.opcode = if pf then 9 else 8) (fields : heronFields r pf = false)
    (cap : r.hMode = 2 → capOk s 11 = true) (extents : heronExtents r pf = false) : heronRun s q n pf =
      heronKick ((setRecSt s ⟨q, n⟩ .waiting).setHeng r.coreNo (heronPlace s r) { s.heng r.coreNo (heronPlace s r) with
        waiting := (s.heng r.coreNo (heronPlace s r)).waiting ++ [⟨q, n⟩] }) r.coreNo (heronPlace s r) := by
  have mine : (r.opcode == if pf then 9 else 8) = true := beq_iff_eq.mpr op
  refine (starts.dispatch (own := fun r => r.opcode == if pf then 9 else 8) mine _).trans (checked_of_passes ?_ _ _)
  simpa [fields, extents] using cap

end

section
variable {s u : State} {q n p : Nat} {r : Rec} (found : findRec s ⟨q, n⟩ = some r)
include found

/-- A record waits in the array's stream, last, whatever scales are read for it. -/
theorem mxaEnqueue_entered (only : OnlyCore (mxaEnqueue s q n p) u p)
    (same : (u.core p).mxa.waiting = ((mxaEnqueue s q n p).core p).mxa.waiting) :
    (u.core p).mxa.waiting = (s.core p).mxa.waiting ++ [⟨q, n⟩]
      ∧ findRec u ⟨q, n⟩ = some { r with st := .waiting, at_ := s.tick.last }
      ∧ u.mem = s.mem ∧ (∀ k, k ≠ p → u.core k = s.core k) := by
  refine ⟨same.trans ?_, ((onlyCore_setCore ..).trans only).entered found fun _ => rfl⟩
  rw [mxaEnqueue, core_setCore]
  rfl

end

/-- Settles O23: each record enters its core's stream (`OnlyCore.entered`), last. -/
theorem coreRecordsEnterTheirStream : Obligations.CoreRecordsEnterTheirStream := by
  unfold Obligations.CoreRecordsEnterTheirStream
  refine ⟨?tile, ?drain, ?veProg, ?heron⟩
  case tile =>
    intro q n s r starts op passes
    exact ⟨_, congrArg Host.Outcome.next (tileRun_of_passes starts op passes),
      mxaEnqueue_entered starts.found (.refl ..) rfl⟩
  case drain =>
    intro c row q n s r starts op passes
    have ran : exec (c.1 q n) s = .next (drainRun s q n c.2) := by
      rcases List.mem_pair.mp row with rfl | rfl <;> rfl
    refine ⟨_, ran.trans (congrArg Host.Outcome.next (drainRun_of_passes starts op passes)), ?_⟩
    split
    · exact mxaEnqueue_entered starts.found (.refl ..) rfl
    · obtain ⟨_, _, mxa⟩ := (scaleReads_prepared (mxaEnqueue s q n r.coreNo) r.coreNo q r).mxa
      exact mxaEnqueue_entered starts.found (onlyCore_scaleReads ..) (congrArg Mxa.waiting mxa :)
  case veProg =>
    intro q n s r starts op spare unused aligned inside
    refine ⟨_, congrArg Host.Outcome.next (veProgRun_of_passes starts op spare unused aligned inside), setVe_ve .., ?_⟩
    exact (onlyCore_setCore ..).entered starts.found fun _ => rfl
  case heron =>
    intro c row q n s r starts op fields cap extents
    have ran : exec (c.1 q n) s = .next (heronRun s q n c.2.2) ∧ c.2.1 = if c.2.2 then 9 else 8 := by
      rcases List.mem_pair.mp row with rfl | rfl <;> exact ⟨rfl, rfl⟩
    refine ⟨_, _, ran.1.trans (congrArg Host.Outcome.next (heronRun_of_passes starts (op.trans ran.2) fields cap extents)),
      rfl, by rw [heng_setHeng], ?_⟩
    exact (onlyCore_setCore ..).entered starts.found fun _ => rfl

end Sys2Proof.Machine

namespace Sys2Proof.Machine

/-! ### A write of GUEST.CTRL with a reserved bit (R338, R525, R537) -/

/-- Site 0 in its trained state, in a package whose host takes the message of cause ERR. -/
def trainedSite : State := { State.reset with
  pst := .active
  guests := [(0, { st := 1 })]
  host := { State.reset.host with linkUp := true, msix := [(76, { masked := false })] } }

/-- GUEST.CTRL with its lowest reserved bit. -/
def reservedCtrl : W64 := 8

/-- The reserved bit is no ground to refuse the guest. -/
theorem admitCheck_trainedSite :
    admitCheck (trainedSite.setGuest 0 { trainedSite.guest 0 with ctrl := guestCtrl reservedCtrl }) 0 = 0 := by
  decide +kernel

/-- R525, R537: the reserved bit is BAD_ACCESS, and its interrupt is sent before the guest is told of its admission. -/
theorem exec_guestAdmit_reserved : ∃ u, exec (.guestAdmit 0 reservedCtrl) trainedSite = .next u
    ∧ u.sent = [.msix 0 76, .guestMsg 0 0x11 0 (toLE 8 (guestBase 0))] :=
  ⟨_, rfl, by decide +kernel⟩

/-- Refutes O47: a write of GUEST.CTRL that admits a guest but sets a reserved bit also sends the interrupt of BAD_ACCESS
(`exec_guestAdmit_reserved`), and the statement allows the message to the guest alone. -/
theorem not_guestsAreAdmittedServedAndRemoved : ¬ Obligations.GuestsAreAdmittedServedAndRemoved := by
  unfold Obligations.GuestsAreAdmittedServedAndRemoved
  rintro ⟨admits, -⟩
  obtain ⟨admitted, -⟩ := admits 0 reservedCtrl trainedSite _ _ (by decide) rfl rfl (by decide) rfl
  obtain ⟨u, ran, -, -, sent⟩ := admitted admitCheck_trainedSite
  obtain ⟨v, ran', sent'⟩ := exec_guestAdmit_reserved
  obtain rfl : u = v := Host.Outcome.next.inj (ran.symm.trans ran')
  rw [sent'] at sent
  exact absurd (congrArg List.length sent) (by decide)

end Sys2Proof.Machine

namespace Sys2Proof.Machine

/-! ### Interrupt causes (R537) -/

@[simp] theorem irqStat_sendMsix (s : State) (fn vec : Nat) : (sendMsix s fn vec).host.irqStat = s.host.irqStat := by
  rw [sendMsix]
  split
  · rfl
  · split <;> rfl

/-- R537: raising a cause sets its bit, and leaves the others. -/
theorem irqStat_raiseIrq (s : State) (b c : Nat) :
    (raiseIrq s b).host.irqStat.getLsbD c = (s.host.irqStat.getLsbD c || (decide (c < 8) && b == c)) := by
  rw [raiseIrq]
  split
  next raised =>
    by_cases own : b = c
    · rw [← own, raised, Bool.true_or]
    · rw [beq_eq_false_iff_ne.mpr own, Bool.and_false, Bool.or_false]
  next =>
    rw [apply_ite State.host, apply_ite HostIf.irqStat, irqStat_sendMsix, ite_self, BitVec.getLsbD_or, BitVec.getLsbD_ofNat,
      Nat.testBit_two_pow, beq_eq_decide]

/-- The causes raised before are raised still. -/
def CausesStand (s u : State) : Prop := ∀ c, s.host.irqStat.getLsbD c = true → u.host.irqStat.getLsbD c = true

theorem CausesStand.trans {s t u : State} (h : CausesStand s t) (k : CausesStand t u) : CausesStand s u :=
  fun c raised => k c (h c raised)

theorem CausesStand.of_host {s u : State} (h : u.host = s.host := by rfl) : CausesStand s u := fun c raised => by rwa [h]

theorem causesStand_raiseIrq (s : State) (b : Nat) : CausesStand s (raiseIrq s b) := fun c raised => by
  rw [irqStat_raiseIrq, raised, Bool.true_or]

theorem raiseIrq_raises (s : State) {b : Nat} (hb : b < 8) : (raiseIrq s b).host.irqStat.getLsbD b = true := by
  simp [irqStat_raiseIrq, hb]

theorem causesStand_logStore (s : State) (e : LogIn) : CausesStand s (logStore s e) := by
  rw [logStore]
  split
  · dsimp only
    exact CausesStand.trans (t := { s with log := _, bit := _ }) .of_host (causesStand_raiseIrq _ 6)
  · exact .of_host

theorem causesStand_logAdd (s : State) (e : LogIn) : CausesStand s (logAdd s e) := by
  have logged (t : State) (same : t.host = s.host) : CausesStand s (logStore t e) :=
    (CausesStand.of_host same).trans (causesStand_logStore t e)
  rw [logAdd]
  split
  · exact logged s rfl
  · split
    · exact logged _ rfl
    · split
      · exact logged _ rfl
      · dsimp only
        split
        · exact logged _ rfl
        · exact .of_host

theorem raiseIrq_logged (s : State) (b : Nat) : Logged s (raiseIrq s b) := by
  obtain ⟨host, sent, eq⟩ := raiseIrq_eq s b
  exact ⟨host, s.log, s.bit, sent, eq⟩

theorem Logged.trans {s t u : State} (h : Logged s t) (k : Logged t u) : Logged s u := by
  obtain ⟨_, _, _, _, rfl⟩ := h
  obtain ⟨_, _, _, _, rfl⟩ := k
  exact ⟨_, _, _, _, rfl⟩

section
variable {s u : State} (h : Logged s u)
include h

theorem Logged.module (l m : Nat) : u.module l m = s.module l m := by obtain ⟨_, _, _, _, rfl⟩ := h; rfl
theorem Logged.guest (g : Nat) : u.guest g = s.guest g := by obtain ⟨_, _, _, _, rfl⟩ := h; rfl
theorem Logged.guests : u.guests = s.guests := by obtain ⟨_, _, _, _, rfl⟩ := h; rfl
theorem Logged.agt : u.agt = s.agt := by obtain ⟨_, _, _, _, rfl⟩ := h; rfl

end

end Sys2Proof.Machine

namespace Sys2Proof.Machine

/-! ### What completions and copies leave of the dies in service (R235, R352, R484) -/

/-- The links, the partitions, the dies and cores in service, the dies fenced late and the interrupt causes. -/
structure ServiceView where
  links : Tab Link
  partOf : Tab Nat
  agt : Agt
  late : BitVec 4
  causes : BitVec 8

/-- The view of a state. -/
def serviceView (s : State) : ServiceView := ⟨s.links, s.partOf, s.agt, s.bring.lateDies, s.host.irqStat⟩

@[simp] theorem serviceView_ite {c : Prop} [Decidable c] (s t : State) :
    serviceView (if c then s else t) = if c then serviceView s else serviceView t := apply_ite serviceView c s t

theorem CopiesDrop.serviceView {s u : State} (h : CopiesDrop s u) : serviceView u = serviceView s := by
  obtain ⟨_, _, _, _, _, _, rfl, -⟩ := h
  rfl

@[simp] theorem serviceView_sendMsix (s : State) (fn vec : Nat) : serviceView (sendMsix s fn vec) = serviceView s := by
  have causes := irqStat_sendMsix s fn vec
  obtain ⟨_, _, eq⟩ := sendMsix_eq s fn vec
  rw [eq] at causes ⊢
  exact congrArg (ServiceView.mk s.links s.partOf s.agt s.bring.lateDies) causes

@[simp] theorem serviceView_vnote (s : State) (c va n : Nat) (f : Option Nat) :
    serviceView (vnote s c va n f) = serviceView s := by
  obtain ⟨_, eq, -⟩ := vnote_onlyWalksCounted s c va n f
  rw [eq]
  rfl

@[simp] theorem serviceView_storeBytes (s : State) (a : Nat) (bs : List Byte) (bad : Bool) :
    serviceView (storeBytes s a bs bad) = serviceView s := by
  rw [storeBytes]
  split <;> rfl

@[simp] theorem serviceView_writeMem (s : State) (a : Nat) (bs : List Byte) (bad : Bool) :
    serviceView (writeMem s a bs bad) = serviceView s := by
  have struck (t : State) (p : Nat) (x : Core) (us : List Nat) :
      serviceView { t.setCore p x with latent := us } = serviceView t := rfl
  simp only [writeMem, serviceView_ite, struck, serviceView_storeBytes, ite_self,
    foldl_kept serviceView fun t l => (copiesDrop_invalidateLine t l).serviceView]

@[simp] theorem serviceView_vwrite (s : State) (c va : Nat) (bs : List Byte) (bad : Bool) :
    serviceView (vwrite s c va bs bad) = serviceView s := by
  refine foldl_kept serviceView (fun t pc => ?_) _ s
  split
  · rfl
  · simp only [serviceView_ite, serviceView_writeMem, ite_self]

@[simp] theorem serviceView_setCore (s : State) (p : Nat) (x : Core) : serviceView (s.setCore p x) = serviceView s := rfl
@[simp] theorem serviceView_clearStore (s : State) (p : Nat) : serviceView (clearStore s p) = serviceView s := rfl
theorem serviceView_coreResets (s : State) (l : List Nat) :
    serviceView { s with bring := { s.bring with coreResets := l } } = serviceView s := rfl
@[simp] theorem serviceView_setQueue (s : State) (q : Nat) (x : Queue) : serviceView (s.setQueue q x) = serviceView s := rfl
@[simp] theorem serviceView_setRecSt (s : State) (c : CmdRef) (st : RecSt) :
    serviceView (setRecSt s c st) = serviceView s := rfl

@[simp] theorem serviceView_postOne (s : State) (c : CmdRef) (v : Cpl) : serviceView (postOne s c v).1 = serviceView s := by
  rw [postOne]
  split
  · rfl
  · split
    · rfl
    · simp only [serviceView_ite, serviceView_sendMsix, serviceView_setRecSt, serviceView_setQueue, serviceView_vnote,
        serviceView_vwrite, ite_self]

@[simp] theorem serviceView_closeFrame (s : State) (q : Nat) : serviceView (closeFrame s q) = serviceView s := by
  rcases closeFrame_cases s q with stays | ⟨_, _, closes, -⟩
  · rw [stays]
  · rw [closes]; rfl

@[simp] theorem serviceView_fetchTo (s : State) (q n : Nat) : serviceView (fetchTo s q n) = serviceView s := by
  refine foldl_kept serviceView (fun t _ => ?_) _ s
  dsimp only
  split <;> rfl

@[simp] theorem serviceView_failRecs (s : State) (q : Nat) (rs : List Rec) (cpl : Rec → Cpl) :
    serviceView (failRecs s q rs cpl) = serviceView s := by
  rw [failRecs, serviceView_closeFrame]
  exact foldl_kept serviceView (fun t r => serviceView_postOne t ⟨q, r.n⟩ (cpl r)) _ _

@[simp] theorem serviceView_failUnstarted (s : State) (q st : Nat) : serviceView (failUnstarted s q st) = serviceView s := by
  rw [failUnstarted, serviceView_failRecs]
  split
  · exact serviceView_fetchTo ..
  · rfl

@[simp] theorem serviceView_stopQueue (s : State) (q code : Nat) : serviceView (stopQueue s q code) = serviceView s := by
  simp only [stopQueue, serviceView_ite, serviceView_sendMsix, serviceView_failUnstarted, serviceView_setQueue, ite_self]

@[simp] theorem serviceView_completeSt (s : State) (c : CmdRef) (st : Nat) :
    serviceView (completeSt s c st) = serviceView s := by
  simp only [completeSt, complete, serviceView_closeFrame, serviceView_ite, serviceView_stopQueue, serviceView_postOne,
    ite_self]

@[simp] theorem serviceView_sendMsg (s : State) (m : DieMsg) : serviceView (sendMsg s m) = serviceView s := rfl
@[simp] theorem serviceView_mapDir (s : State) (l : Nat) (f : DirEntry → DirEntry) :
    serviceView (mapDir s l f) = serviceView s := rfl
@[simp] theorem serviceView_dropDir (s : State) (l : Nat) : serviceView (dropDir s l) = serviceView s :=
  (copiesDrop_dropDir s l).serviceView
@[simp] theorem serviceView_uncache (s : State) (d l : Nat) : serviceView (uncache s d l) = serviceView s :=
  (copiesDrop_uncache s d l).serviceView
@[simp] theorem serviceView_unstageAll (s : State) (p : Nat) : serviceView (unstageAll s p) = serviceView s :=
  foldl_kept serviceView (fun t (x : StageLine) => (copiesDrop_unstage t p x.addr).serviceView) _ s

@[simp] theorem serviceView_dropFlight (s : State) (p : Nat) : serviceView (dropFlight s p) = serviceView s := by
  refine foldl_kept serviceView (fun t f => ?_) _ _
  split
  · exact ((copiesDrop_coreCtr ..).trans (copiesDrop_queueCtr ..)).serviceView
  · exact foldl_kept serviceView (fun u w => serviceView_sendMsg u _) _ t

/-- R352: a die that is forgotten takes its copies and messages with it, and nothing that is in service. -/
theorem serviceView_forgetDie (s : State) (d : Nat) : serviceView (forgetDie s d) = serviceView s := by
  have uncaches (g : Nat → Bool) (l : Nat) (t : State) :
      serviceView (forUp 4 (fun k u => if g k then uncache u k l else u) t) = serviceView t :=
    foldl_kept serviceView (fun u k => by simp only [serviceView_ite, serviceView_uncache, ite_self]) _ t
  rw [forgetDie]
  refine (foldl_kept serviceView (fun t h => serviceView_sendMsg t _) _ _).trans ?_
  refine (foldl_kept serviceView (fun t e => ?sharing) _ _).trans
    ((foldl_kept serviceView (fun t (x : RcLine) => serviceView_uncache t d x.addr) _ _).trans
      (foldl_kept serviceView (fun t e => ?homed) _ s))
  case homed =>
    split
    · exact uncaches _ _ t
    · rfl
  case sharing =>
    simp only [serviceView_ite, serviceView_dropDir, serviceView_sendMsg, serviceView_mapDir, ite_self]

end Sys2Proof.Machine

namespace Sys2Proof.Machine

/-! ### A die is fenced after ready (R352, R480, R484) -/

/-- Nothing returns into service: the links, the partitions, the dies in service and those fenced late are as they were, the
causes raised are raised still, and a core that is off stays off. -/
structure ServiceStands (s u : State) : Prop where
  links : u.links = s.links
  partOf : u.partOf = s.partOf
  dies : u.agt.diesActive = s.agt.diesActive
  late : u.bring.lateDies = s.bring.lateDies
  causes : CausesStand s u
  off : ∀ p, coreOn s p = false → coreOn u p = false

theorem ServiceStands.refl (s : State) : ServiceStands s s := ⟨rfl, rfl, rfl, rfl, .of_host, fun _ => id⟩

theorem ServiceStands.trans {s t u : State} (h : ServiceStands s t) (k : ServiceStands t u) : ServiceStands s u where
  links := k.links.trans h.links
  partOf := k.partOf.trans h.partOf
  dies := k.dies.trans h.dies
  late := k.late.trans h.late
  causes := h.causes.trans k.causes
  off p hp := k.off p (h.off p hp)

theorem ServiceStands.foldl {α : Type} {g : State → α → State} (hg : ∀ t e, ServiceStands t (g t e)) (l : List α)
    (s : State) : ServiceStands s (l.foldl g s) := by
  induction l generalizing s with
  | nil => exact .refl s
  | cons e l ih => exact (hg s e).trans (ih (g s e))

theorem ServiceStands.of_view {s u : State} (h : serviceView u = serviceView s) : ServiceStands s u := by
  obtain ⟨links, partOf, agt, late, causes⟩ := ServiceView.mk.inj h
  exact ⟨links, partOf, by rw [agt], late, fun c raised => by rwa [causes], fun p off => by rwa [coreOn, agt]⟩

theorem ServiceStands.of_logged {s u : State} (h : Logged s u) (causes : CausesStand s u) : ServiceStands s u := by
  obtain ⟨_, _, _, _, rfl⟩ := h
  exact ⟨rfl, rfl, rfl, rfl, causes, fun _ => id⟩

theorem serviceStands_logAdd (s : State) (e : LogIn) : ServiceStands s (logAdd s e) :=
  .of_logged (logAdd_logged s e) (causesStand_logAdd s e)

theorem serviceStands_raiseIrq (s : State) (b : Nat) : ServiceStands s (raiseIrq s b) :=
  .of_logged (raiseIrq_logged s b) (causesStand_raiseIrq s b)

/-- The AGT takes core `p` out of service. -/
def coreWithdrawn (s : State) (p : Nat) : State := agtUpdate s (fun a => { a with
  enabled := a.enabled &&& ~~~BitVec.ofNat 256 (2 ^ p), lateFenced := a.lateFenced ||| BitVec.ofNat 256 (2 ^ p) })

/-- R480: a core is taken out of service, its commands complete, and the fence is told. -/
theorem fenceCore_told {s : State} {p : Nat} (on : coreOn s p = true) (cause st : Nat) : ∃ u,
    serviceView u = serviceView (coreWithdrawn s p)
      ∧ fenceCore s p cause st = logAdd (raiseIrq u 1) { code := 0x30, inst := p, src := 1, sev := 3, args := [cause] } := by
  rw [fenceCore, on, Bool.not_true, if_neg Bool.false_ne_true]
  refine ⟨_, ?_, rfl⟩
  refine (foldl_kept serviceView (fun t r => serviceView_completeSt t r _) _ _).trans
    ((foldl_kept serviceView (fun t r => serviceView_completeSt t r _) _ _).trans ?_)
  refine (serviceView_coreResets _ _).trans ((serviceView_clearStore _ _).trans ((serviceView_setCore _ _ _).trans ?_))
  rw [serviceView_dropFlight, serviceView_unstageAll, coreWithdrawn]

theorem serviceStands_fenceCore (s : State) (p cause st : Nat) : ServiceStands s (fenceCore s p cause st) := by
  cases on : coreOn s p with
  | false =>
    rw [fenceCore, on, Bool.not_false, if_pos rfl]
    exact .refl s
  | true =>
    obtain ⟨u, view, eq⟩ := fenceCore_told on cause st
    obtain ⟨links, partOf, agt, late, causes⟩ := ServiceView.mk.inj view
    have told : ServiceStands u (fenceCore s p cause st) :=
      eq ▸ (serviceStands_raiseIrq u 1).trans (serviceStands_logAdd ..)
    exact {
      links := told.links.trans links
      partOf := told.partOf.trans partOf
      dies := told.dies.trans (by rw [agt]; rfl)
      late := told.late.trans late
      causes := CausesStand.trans (fun c raised => by rw [causes]; exact raised) told.causes
      off := (fenceCore_onlyFences s p cause st).off }

/-- Every core that is fenced in turn is off. -/
theorem coreOn_foldl_fenceCore {p : Nat} {ps : List Nat} (named : p ∈ ps) (cause st : Nat) (s : State) :
    coreOn (ps.foldl (fun t p => fenceCore t p cause st) s) p = false := by
  induction ps generalizing s with
  | nil => cases named
  | cons k ps ih =>
    rcases List.mem_cons.mp named with rfl | later
    · refine (ServiceStands.foldl (fun t k => serviceStands_fenceCore t k cause st) ps _).off _ ?_
      rw [coreOn_fenceCore, bne_self_eq_false, Bool.and_false]
    · exact ih later _

/-- R484: what a die leaves that is fenced after ready. -/
structure DieFenced (s u : State) (d : Nat) : Prop where
  links : u.links = s.links
  die : u.agt.diesActive.getLsbD d = false
  late : u.bring.lateDies.getLsbD d = true
  cores : ∀ p, p / 64 = d → coreOn u p = false
  clusters : ∀ c, c / 8 = d → tabGet u.partOf 255 c = 255
  told : u.host.irqStat.getLsbD 1 = true
  causes : CausesStand s u

/-- The AGT takes die `d` out of service with its stacks. -/
def dieWithdrawn (s : State) (d : Nat) : State := agtUpdate s (fun a => { a with
  diesActive := a.diesActive &&& ~~~dieBit d
  stacksActive := a.stacksActive &&& ~~~(BitVec.ofNat 32 (0xFF * 2 ^ (8 * d))) })

/-- Die `d` withdrawn, its cores fenced and its lines forgotten. -/
def dieStopped (s : State) (d : Nat) : State :=
  forgetDie ((dieCores d).foldl (fun t p => fenceCore t p 9 0xA0) (dieWithdrawn s d)) d

theorem dieStopped_stands (s : State) (d : Nat) : ServiceStands (dieWithdrawn s d) (dieStopped s d) :=
  (ServiceStands.foldl (fun t p => serviceStands_fenceCore t p 9 0xA0) _ _).trans (.of_view (serviceView_forgetDie _ d))

theorem coreOn_dieStopped (s : State) {d p : Nat} (own : p / 64 = d) : coreOn (dieStopped s d) p = false := by
  refine (ServiceStands.of_view (serviceView_forgetDie _ d)).off p (coreOn_foldl_fenceCore ?_ 9 0xA0 _)
  exact List.mem_map.mpr ⟨p % 64, List.mem_range.mpr (Nat.mod_lt p (by decide)), by omega⟩

/-- The clusters of die `d` leave their partitions. -/
def clustersFreed (s : State) (d : Nat) : State := forUp 8 (fun c t => { t with partOf := tabSet t.partOf (8 * d + c) 255 }) s

theorem tabGet_clustersFreed (s : State) (d : Nat) {c : Nat} (own : c / 8 = d) :
    tabGet (clustersFreed s d).partOf 255 c = 255 := by
  have freed (n : Nat) : ∀ k < n, tabGet (forUp n (fun c t => { t with partOf := tabSet t.partOf (8 * d + c) 255 }) s).partOf
      255 (8 * d + k) = 255 := by
    induction n with
    | zero => exact fun k none => absurd none (Nat.not_lt_zero k)
    | succ n ih =>
      intro k before
      rw [forUp_succ, tabGet_tabSet]
      split
      · rfl
      · exact ih k (by omega)
  rw [show c = 8 * d + c % 8 by omega]
  exact freed 8 _ (Nat.mod_lt c (by decide))

theorem clustersFreed_eq (s : State) (d : Nat) : ∃ partOf, clustersFreed s d = { s with partOf := partOf } := by
  have freed (n : Nat) : ∃ partOf, forUp n (fun c (t : State) => { t with partOf := tabSet t.partOf (8 * d + c) 255 }) s
      = { s with partOf := partOf } := by
    induction n with
    | zero => exact ⟨_, rfl⟩
    | succ n ih =>
      obtain ⟨_, eq⟩ := ih
      exact ⟨_, by rw [forUp_succ, eq]⟩
  exact freed 8

/-- Die `d` counts as fenced late. -/
def lateMarked (s : State) (d : Nat) : State := { s with bring := { s.bring with lateDies := s.bring.lateDies ||| dieBit d } }

/-- The clusters of a stopped die leave their partitions, and its fence is told. -/
def dieTold (s : State) (d : Nat) : State :=
  logAdd (raiseIrq (clustersFreed (lateMarked s d) d) 1) { code := 0x43, inst := d, src := 2, sev := 3, args := [5] }

theorem fenceDie_of_active {s : State} {d : Nat} (active : s.agt.diesActive.getLsbD d = true) :
    fenceDie s d = dieTold (dieStopped s d) d := by
  unfold fenceDie dieTold clustersFreed lateMarked dieStopped dieWithdrawn
  rw [active, Bool.not_true, if_neg Bool.false_ne_true]

theorem fenceDie_of_inactive {s : State} {d : Nat} (out : s.agt.diesActive.getLsbD d = false) : fenceDie s d = s := by
  rw [fenceDie, out, Bool.not_false, if_pos rfl]

theorem getLsbD_dieBit {d : Nat} (hd : d < 4) : (dieBit d).getLsbD d = true := by
  rw [dieBit, BitVec.getLsbD_ofNat, Nat.testBit_two_pow_self, decide_eq_true hd, Bool.true_and]

theorem dieTold_stands (s : State) (d : Nat) : ServiceStands (clustersFreed (lateMarked s d) d) (dieTold s d) :=
  (serviceStands_raiseIrq _ 1).trans (serviceStands_logAdd ..)

theorem dieTold_raises (s : State) (d : Nat) : (dieTold s d).host.irqStat.getLsbD 1 = true :=
  causesStand_logAdd _ _ 1 (raiseIrq_raises _ (by decide))

theorem DieFenced.of_stopped {s t : State} {d : Nat} (hd : d < 4) (stopped : ServiceStands (dieWithdrawn s d) t)
    (off : ∀ p, p / 64 = d → coreOn t p = false) : DieFenced s (dieTold t d) d := by
  have told := dieTold_stands t d
  have clusters (c : Nat) := tabGet_clustersFreed (lateMarked t d) d (c := c)
  obtain ⟨partOf, freed⟩ := clustersFreed_eq (lateMarked t d) d
  rw [freed] at told clusters
  have withdrawn : t.agt.diesActive = s.agt.diesActive &&& ~~~dieBit d := stopped.dies
  have marked : (dieTold t d).bring.lateDies = t.bring.lateDies ||| dieBit d := told.late
  exact {
    links := told.links.trans stopped.links
    die := by
      rw [told.dies.trans withdrawn, BitVec.getLsbD_and, BitVec.getLsbD_not, getLsbD_dieBit hd, Bool.not_true, Bool.and_false,
        Bool.and_false]
    late := by rw [marked, BitVec.getLsbD_or, getLsbD_dieBit hd, Bool.or_true]
    cores := fun p own => told.off p (off p own)
    clusters := fun c own => by rw [told.partOf, clusters c own]
    told := dieTold_raises t d
    causes := CausesStand.trans (t := t) stopped.causes told.causes }

theorem dieFenced_fenceDie {s : State} {d : Nat} (active : s.agt.diesActive.getLsbD d = true) :
    DieFenced s (fenceDie s d) d := by
  rw [fenceDie_of_active active]
  exact .of_stopped (BitVec.lt_of_getLsbD active) (dieStopped_stands s d) fun p own => coreOn_dieStopped s own

end Sys2Proof.Machine

namespace Sys2Proof.Machine

/-! ### Events of a UCIe module (R331 to R333, R354) -/

theorem module_setModule (s : State) (l m : Nat) (x : Module) : (s.setModule l m x).module l m = x := by
  rw [State.module, State.setModule, link_setLink, tabGet_tabSet_same]

theorem sameUnits_setModule (s : State) (l m : Nat) (x : Module) : SameUnits s (s.setModule l m x) :=
  ⟨rfl, rfl, rfl, rfl, rfl, rfl, rfl, rfl, rfl, rfl, rfl⟩

theorem sameUnits_setGuest (s : State) (g : Nat) (x : Guest) : SameUnits s (s.setGuest g x) :=
  ⟨rfl, rfl, rfl, rfl, rfl, rfl, rfl, rfl, rfl, rfl, rfl⟩

theorem onModule_of_usable {s : State} {l m : Nat} (usable : (s.module l m).usable = true) (f : Module → Module) :
    onModule s l m f = s.setModule l m (f (s.module l m)) := by
  rw [onModule, if_pos usable]

theorem onModule_of_unusable {s : State} {l m : Nat} (dead : (s.module l m).usable = false) (f : Module → Module) :
    onModule s l m f = s := by
  rw [onModule, dead, if_neg Bool.false_ne_true]

/-- R331: an acknowledgement frees flits and does nothing else. -/
theorem Module.ack_eq (x : Module) (a : Nat) : ∃ n, x.ack a = { x with unacked := n } := by
  rw [Module.ack]
  split
  · exact ⟨_, rfl⟩
  · exact ⟨_, rfl⟩

/-- What an acknowledgement frees depends on the sender's side alone. -/
theorem Module.unacked_ack_congr {x y : Module} (seq : y.txSeq = x.txSeq) (waiting : y.unacked = x.unacked) (a : Nat) :
    (y.ack a).unacked = (x.ack a).unacked := by
  simp only [Module.ack, seq, waiting, apply_ite Module.unacked]

/-- R331: the acknowledgement of flit `n` of those that wait frees it with those before it. -/
theorem Module.ack_of_waiting {x : Module} {n : Nat} (waits : n < x.unacked) (room : x.unacked ≤ 256) :
    x.ack (x.txSeq + 1024 - x.unacked + n) = { x with unacked := x.unacked - (n + 1) } := by
  have freed : ((x.txSeq + 1024 - x.unacked + n) % 1024 + 1025 - (x.txSeq + 1024 - x.unacked % 1024) % 1024) % 1024
      = n + 1 := by omega
  rw [Module.ack, freed, if_pos (Nat.succ_le_of_lt waits)]

/-- R331, R354: what a module has done since its last such command, before the acknowledgement that arrives. -/
def Module.moved (x : Module) (tx rx stall : Nat) : Module := { x with
  txSeq := (x.txSeq + min tx (256 - x.unacked)) % 1024
  unacked := x.unacked + min tx (256 - x.unacked)
  rxSeq := if x.discarding then x.rxSeq else (x.rxSeq + rx) % 1024
  ctr := ctrAdd (ctrAdd x.ctr 0x200 (min tx (256 - x.unacked))) 0x218 stall }

theorem exec_ucieFlitAck {l : Fin 6} {m : Fin 16} {s : State} (usable : (s.module l m).usable = true)
    (ack tx rx stall : Nat) : exec (.ucieFlitAck l m ack tx rx stall) s
      = .next (s.setModule l m (((s.module l m).moved tx rx stall).ack ack)) :=
  congrArg Host.Outcome.next (onModule_of_usable usable _)

/-- R333: a module in its window, marked and told of where the window had too many errors. -/
theorem monitorWindow_cases {s : State} {l m : Nat} (usable : (s.module l m).usable = true) :
    if (s.link l).thresh < (ctrGet (s.module l m).ctr 0x208).toNat - (s.module l m).base then
      Logged (s.setModule l m { s.module l m with
        base := (ctrGet (s.module l m).ctr 0x208).toNat, marginal := true, logged := true }) (monitorWindow s l m)
        ∧ (monitorWindow s l m).host.irqStat.getLsbD 2 = true
    else monitorWindow s l m = s.setModule l m { s.module l m with base := (ctrGet (s.module l m).ctr 0x208).toNat } := by
  rw [monitorWindow, usable, Bool.not_true, if_neg Bool.false_ne_true]
  dsimp only
  split
  next =>
    refine ⟨Logged.trans ?_ (raiseIrq_logged _ 2), raiseIrq_raises _ (by decide)⟩
    split
    · exact ⟨_, _, _, _, rfl⟩
    · exact logAdd_logged ..
  next => rfl

/-! ### A module goes down (R332, R352) -/

/-- The state in which a module is Down, with its log entry and its interrupt. -/
def downNoted (s : State) (l m cause : Nat) : State :=
  raiseIrq (logAdd (s.setModule l m { s.module l m with st := 5 })
    { code := 0x41, inst := l, src := 4, sev := 3, args := [m, cause + 1] }) 2

theorem moduleDown_of_usable {s : State} {l m : Nat} (usable : (s.module l m).usable = true) (cause : Nat) :
    moduleDown s l m cause = if l < 4 then fenceDie (downNoted s l m cause) l
      else guestRemove (downNoted s l m cause) (l - 4) 11 := by
  rw [moduleDown, usable, Bool.not_true, if_neg Bool.false_ne_true]
  rfl

section
variable (s : State) (l m cause : Nat)

theorem downNoted_logged : Logged (s.setModule l m { s.module l m with st := 5 }) (downNoted s l m cause) :=
  (logAdd_logged ..).trans (raiseIrq_logged ..)

theorem module_downNoted : (downNoted s l m cause).module l m = { s.module l m with st := 5 } := by
  rw [(downNoted_logged s l m cause).module, module_setModule]

theorem guest_downNoted (g : Nat) : (downNoted s l m cause).guest g = s.guest g := (downNoted_logged s l m cause).guest g

theorem agt_downNoted : (downNoted s l m cause).agt = s.agt := (downNoted_logged s l m cause).agt

theorem downNoted_raises : (downNoted s l m cause).host.irqStat.getLsbD 2 = true := raiseIrq_raises _ (by decide)

theorem sameUnits_downNoted : SameUnits s (downNoted s l m cause) :=
  (sameUnits_setModule ..).trans (downNoted_logged s l m cause).units

end

/-- R344: the removal of a site in use starts. -/
theorem guestRemove_of_used {s : State} {g : Nat} (used : (s.guest g).st = 1 ∨ (s.guest g).st = 2)
    (stays : (s.guest g).removing = false) (reason : Nat) : guestRemove s g reason = s.setGuest g { s.guest g with
      removing := true, admitting := false, reason := reason } := by
  rw [guestRemove, if_pos ⟨used, by rw [stays, Bool.not_false]⟩]

/-- A site out of use, or whose removal has begun, is not removed again. -/
theorem guestRemove_of_unused {s : State} {g : Nat}
    (unused : (s.guest g).removing = true ∨ ((s.guest g).st ≠ 1 ∧ (s.guest g).st ≠ 2)) (reason : Nat) :
    guestRemove s g reason = s := by
  rw [guestRemove, if_neg]
  rintro ⟨used, stays⟩
  rcases unused with leaves | ⟨other, other'⟩
  · rw [leaves] at stays
    exact Bool.false_ne_true stays
  · exact used.elim other other'

theorem module_of_links {s u : State} (h : u.links = s.links) (l m : Nat) : u.module l m = s.module l m := by
  rw [State.module, State.link, h, State.module, State.link]

theorem moduleDown_of_unusable {s : State} {l m : Nat} (dead : (s.module l m).usable = false) (cause : Nat) :
    moduleDown s l m cause = s := by
  rw [moduleDown, dead, Bool.not_false, if_pos rfl]

theorem monitorWindow_of_unusable {s : State} {l m : Nat} (dead : (s.module l m).usable = false) :
    monitorWindow s l m = s := by
  rw [monitorWindow, dead, Bool.not_false, if_pos rfl]

/-- Settles O46, by the events on a usable module (`onModule_of_usable`, `monitorWindow_cases`) and, for one that goes down,
by what its fenced die (`dieFenced_fenceDie`) or its removed guest (`guestRemove_of_used`) leaves. -/
theorem modulesRetryAndFail : Obligations.ModulesRetryAndFail := by
  unfold Obligations.ModulesRetryAndFail
  refine ⟨?nak, fun x n waits room => Module.ack_of_waiting waits room, ?crcErr, ?replay, ?flits, ?monitor, ?fences, ?removes,
    ?stays, ?dead⟩
  case nak =>
    rintro l m ack s _ rfl usable
    obtain ⟨n, freed⟩ := (s.module l m).ack_eq ack
    refine congrArg Host.Outcome.next ((onModule_of_usable usable _).trans ?_)
    simp only [freed]
  case crcErr =>
    rintro l m s _ rfl usable
    exact congrArg Host.Outcome.next (onModule_of_usable usable _)
  case replay =>
    rintro l m seq s _ rfl usable -
    refine congrArg Host.Outcome.next ((onModule_of_usable usable _).trans ?_)
    simp only [beq_iff_eq]
    split <;> rfl
  case flits =>
    rintro l m ack tx rx stall s _ rfl usable
    obtain ⟨n, freed⟩ := ((s.module l m).moved tx rx stall).ack_eq ack
    have unacked := Module.unacked_ack_congr (x := { s.module l m with
      txSeq := ((s.module l m).moved tx rx stall).txSeq
      unacked := (s.module l m).unacked + min tx (256 - (s.module l m).unacked) })
      (y := (s.module l m).moved tx rx stall) rfl rfl ack
    refine ⟨_, exec_ucieFlitAck usable ack tx rx stall, ?_⟩
    rw [freed] at unacked ⊢
    refine ⟨rfl, rfl, rfl, unacked, rfl, rfl, ?_, ?_, ?_⟩
    · exact (ctrGet_ctrAdd_ne (by decide) _ _).trans (ctrGet_ctrAdd_same ..)
    · exact (ctrGet_ctrAdd_ne (by decide) _ _).trans (ctrGet_ctrAdd_ne (by decide) _ _)
    · exact (ctrGet_ctrAdd_same ..).trans (congrArg (· + _) (ctrGet_ctrAdd_ne (by decide) _ _))
  case monitor =>
    rintro l m s _ rfl usable
    refine ⟨monitorWindow s l m, rfl, ?_⟩
    have window := monitorWindow_cases usable
    split at window
    next exceeds =>
      obtain ⟨logged, raised⟩ := window
      rw [logged.module, module_setModule]
      exact ⟨rfl, rfl, by rw [decide_eq_true exceeds, Bool.or_true], fun _ => ⟨rfl, raised⟩,
        (sameUnits_setModule ..).trans logged.units⟩
    next fine =>
      rw [window, module_setModule]
      exact ⟨rfl, rfl, by rw [decide_eq_false fine, Bool.or_false], fun exceeds => absurd exceeds fine,
        sameUnits_setModule ..⟩
  case fences =>
    intro l m cause s usable liram active
    have fenced := dieFenced_fenceDie (s := downNoted s l m cause) (d := l) (by rwa [agt_downNoted])
    refine ⟨fenceDie (downNoted s l m cause) l,
      congrArg Host.Outcome.next ((moduleDown_of_usable usable cause).trans (if_pos liram)), ?_, fenced.die, fenced.late,
      fenced.cores, fenced.clusters, fenced.told, fenced.causes 2 (downNoted_raises ..)⟩
    rw [module_of_links fenced.links, module_downNoted]
  case removes =>
    rintro l m cause s _ usable site rfl used stays
    have removed := guestRemove_of_used (s := downNoted s l m cause) (g := l - 4) (by rwa [guest_downNoted])
      (by rwa [guest_downNoted]) 11
    refine ⟨_, congrArg Host.Outcome.next ((moduleDown_of_usable usable cause).trans ((if_neg (by omega)).trans removed)),
      congrArg Module.st (module_downNoted s l m cause), ?_, ?_, downNoted_raises s l m cause,
      (sameUnits_downNoted s l m cause).trans (sameUnits_setGuest ..)⟩
    · rw [guest_setGuest]
    · rw [guest_setGuest]
  case stays =>
    intro l m cause s usable inactive unused
    refine ⟨downNoted s l m cause, congrArg Host.Outcome.next ((moduleDown_of_usable usable cause).trans ?_), ?_,
      (downNoted_logged s l m cause).guests, agt_downNoted .., downNoted_raises .., sameUnits_downNoted ..⟩
    · split
      next liram => exact fenceDie_of_inactive (by rw [agt_downNoted]; exact inactive liram)
      next site => exact guestRemove_of_unused (by rw [guest_downNoted]; exact unused (Nat.le_of_not_lt site)) 11
    · rw [module_downNoted]
  case dead =>
    intro l m cause ack seq tx rx stall s dead
    exact ⟨congrArg Host.Outcome.next (onModule_of_unusable dead _), congrArg Host.Outcome.next (onModule_of_unusable dead _),
      congrArg Host.Outcome.next (onModule_of_unusable dead _), congrArg Host.Outcome.next (onModule_of_unusable dead _),
      congrArg Host.Outcome.next (monitorWindow_of_unusable dead),
      congrArg Host.Outcome.next (moduleDown_of_unusable dead cause)⟩

end Sys2Proof.Machine

namespace Sys2Proof.Machine

/-! ### Messages between dies that arrive and leave (R347) -/

section
variable {s : State} {i t : Nat} {m : DieMsg} (arrives : Arrives s i t m)
include arrives

theorem Arrives.msgAt : msgAt s i t = some m := by
  obtain ⟨here, type⟩ := arrives
  simp only [Machine.msgAt, here, type, if_true]

theorem Arrives.onMsg (f : State → DieMsg → State) : onMsg s i t f = f (dropMsg s i) m := by
  rw [Machine.onMsg, arrives.msgAt]

end

theorem DieFrame.refl (s : State) : DieFrame s s := ⟨rfl, rfl, rfl, rfl, rfl, rfl, rfl, rfl, rfl⟩

theorem DieFrame.trans {s t u : State} (h : DieFrame s t) (k : DieFrame t u) : DieFrame s u where
  mem := k.mem.trans h.mem
  fences := k.fences.trans h.fences
  numx := k.numx.trans h.numx
  fab := k.fab.trans h.fab
  ce := k.ce.trans h.ce
  upd := k.upd.trans h.upd
  tick := k.tick.trans h.tick
  agt := k.agt.trans h.agt
  homeWr := k.homeWr.trans h.homeWr

/-- Cores and queues, the coherence of copies, messages, errors and what is told of them are no part of the frame. -/
theorem dieFrame_of_others (s : State) {cores dies dir dirCtr msgs xbar queues poison latent freeN host log bit sent} :
    DieFrame s { s with
      cores := cores, dies := dies, dir := dir, dirCtr := dirCtr, msgs := msgs, xbar := xbar, queues := queues
      poison := poison, latent := latent, freeN := freeN, host := host, log := log, bit := bit, sent := sent } :=
  ⟨rfl, rfl, rfl, rfl, rfl, rfl, rfl, rfl, rfl⟩

theorem dieFrame_dropMsg (s : State) (i : Nat) : DieFrame s (dropMsg s i) := dieFrame_of_others s

theorem dieFrame_sendMsg (s : State) (m : DieMsg) : DieFrame s (sendMsg s m) := dieFrame_of_others s

theorem dieFrame_dirBump (s : State) (o n : Nat) : DieFrame s (dirBump s o n) := dieFrame_of_others s

theorem dieFrame_mapDir (s : State) (l : Nat) (f : DirEntry → DirEntry) : DieFrame s (mapDir s l f) := dieFrame_of_others s

theorem msgs_sendMsg (s : State) (m : DieMsg) : (sendMsg s m).msgs = s.msgs ++ [m] := rfl

/-- Messages that are sent in turn stand behind those in flight, in order. -/
theorem sendAll_eq (mk : Nat → DieMsg) (ds : List Nat) (s : State) : ∃ xbar,
    ds.foldl (fun t d => sendMsg t (mk d)) s = { s with msgs := s.msgs ++ ds.map mk, xbar := xbar } := by
  induction ds generalizing s with
  | nil => exact ⟨s.xbar, by rw [List.map_nil, List.append_nil]; rfl⟩
  | cons d ds ih =>
    obtain ⟨xbar, eq⟩ := ih (sendMsg s (mk d))
    exact ⟨xbar, by rw [List.foldl_cons, eq, msgs_sendMsg, List.append_assoc]; rfl⟩

/-- R349, R351: an INV is sent to each die named. -/
theorem sendInv_sends (s : State) (l : Nat) (v : BitVec 4) (flag : Bool) : DieFrame s (sendInv s l v flag)
    ∧ (sendInv s l v flag).dir = s.dir
    ∧ (sendInv s l v flag).msgs = s.msgs ++ (diesOf v).map (fun d => { mtype := 6, line := l, die := d, flag := flag }) := by
  obtain ⟨xbar, eq⟩ := sendAll_eq (fun d => { mtype := 6, line := l, die := d, flag := flag }) (diesOf v) s
  rw [sendInv, eq]
  exact ⟨dieFrame_of_others s, rfl, rfl⟩

/-! ### The directory (R345) -/

theorem dirFind_of_dir {s u : State} (h : u.dir = s.dir) (l : Nat) : dirFind u l = dirFind s l := by rw [dirFind, h, dirFind]

theorem line_of_dirFind {s : State} {l : Nat} {e : DirEntry} (found : dirFind s l = some e) : e.line = l :=
  beq_iff_eq.mp (List.find?_some (p := fun x : DirEntry => x.line == l) found)

/-- What changes an entry, but not its line, is found in it. -/
theorem dirFind_mapDir {s : State} {l : Nat} {e : DirEntry} {f : DirEntry → DirEntry} (found : dirFind s l = some e)
    (same : ∀ x, (f x).line = x.line) : dirFind (mapDir s l f) l = some (f e) := by
  have own (x : DirEntry) : ((if x.line == l then f x else x).line == l) = (x.line == l) := by
    split
    · rw [same]
    · rfl
  have mapped : dirFind (mapDir s l f) l = (dirFind s l).map (fun x => if x.line == l then f x else x) := by
    simp only [dirFind, mapDir, List.find?_map, Function.comp_def, own]
  rw [mapped, found, Option.map_some, line_of_dirFind found, beq_self_eq_true, if_pos rfl]

/-- The directory without the entries of a line. -/
def dirWithout (d : List DirEntry) (l : Nat) : List DirEntry := d.filter (fun x => !(x.line == l))

theorem find?_dirWithout_same (d : List DirEntry) (l : Nat) : (dirWithout d l).find? (fun x => x.line == l) = none := by
  refine List.find?_eq_none.mpr fun x hx => ?_
  have other := (List.mem_filter.mp hx).2
  rwa [Bool.not_eq_true', ← Bool.not_eq_true] at other

theorem find?_dirWithout_ne (d : List DirEntry) {l k : Nat} (other : k ≠ l) :
    (dirWithout d l).find? (fun x => x.line == k) = d.find? (fun x => x.line == k) := by
  rw [dirWithout, List.find?_filter]
  congr 1
  funext x
  by_cases own : x.line = k
  · simp [own, other]
  · simp [own]

/-- R345, R349: the entry of line `l` is gone, its home is sent FDEC, and INV_DONE if it waits. -/
structure Freed (s u : State) (l : Nat) (home : Bool) : Prop where
  frame : DieFrame s u
  gone : dirFind u l = none
  msgs : u.msgs = s.msgs ++ { mtype := 10, line := l, die := homeDie l }
    :: (if home then [{ mtype := 8, line := l, die := homeDie l }] else [])

/-- An entry with a sharer or an answer outstanding stays. -/
theorem settleDir_of_shared {s : State} {l : Nat} {e : DirEntry} (found : dirFind s l = some e)
    (shared : e.sharers ≠ 0 ∨ e.acks ≠ 0) : settleDir s l = s := by
  rw [settleDir, found]
  dsimp only
  rw [if_neg (not_and_or.mpr shared)]

theorem settleDir_of_unshared {s : State} {l : Nat} {e : DirEntry} (found : dirFind s l = some e) (sharers : e.sharers = 0)
    (acks : e.acks = 0) : Freed s (settleDir s l) l e.home := by
  have gone : (s.dir.filter (fun x => !(x.line == l))).find? (fun x => x.line == l) = none := find?_dirWithout_same s.dir l
  rw [settleDir, found]
  dsimp only
  rw [if_pos ⟨sharers, acks⟩]
  cases e.home with
  | true => exact ⟨dieFrame_of_others s, gone, List.append_assoc ..⟩
  | false => exact ⟨dieFrame_of_others s, gone, rfl⟩

/-- Die `d` answers an INV: it holds no copy. -/
def DirEntry.answered (e : DirEntry) (d : Nat) : DirEntry := { e with
  sharers := e.sharers &&& ~~~dieBit d, acks := e.acks &&& ~~~dieBit d }

/-- Die `d` has evicted its copy. -/
def DirEntry.evicted (e : DirEntry) (d : Nat) : DirEntry := { e with sharers := e.sharers &&& ~~~dieBit d }

section
variable {s : State} {l : Nat} {e : DirEntry} (found : dirFind s l = some e) {f : DirEntry → DirEntry}
  (same : ∀ x, (f x).line = x.line)
include found same

/-- A changed entry is freed where no sharer is left. -/
theorem freed_of_unshared (home : (f e).home = e.home) (sharers : (f e).sharers = 0) (acks : (f e).acks = 0) :
    Freed s (settleDir (mapDir s l f) l) l e.home := by
  obtain ⟨frame, gone, msgs⟩ := settleDir_of_unshared (dirFind_mapDir found same) sharers acks
  exact ⟨(dieFrame_mapDir ..).trans frame, gone, home ▸ msgs⟩

/-- A changed entry stays while it is shared. -/
theorem kept_of_shared (shared : (f e).sharers ≠ 0 ∨ (f e).acks ≠ 0) : DieFrame s (settleDir (mapDir s l f) l)
    ∧ (settleDir (mapDir s l f) l).msgs = s.msgs ∧ dirFind (settleDir (mapDir s l f) l) l = some (f e) := by
  have left := dirFind_mapDir found same
  rw [settleDir_of_shared left shared]
  exact ⟨dieFrame_mapDir .., rfl, left⟩

end

/-! ### Presence filters (R346) -/

/-- The presence-filter counter of a line at its home. -/
def filterCount (s : State) (l : Nat) : Nat := tabGet (s.die (homeDie l)).filter 0 (filterIdx l)

theorem filterInc_eq (s : State) (l : Nat) : ∃ dies dirCtr, filterInc s l = { s with dies := dies, dirCtr := dirCtr } := by
  rw [filterInc]
  split
  · exact ⟨_, _, rfl⟩
  · dsimp only
    split <;> exact ⟨_, _, rfl⟩

theorem filterCount_filterInc {s : State} {l : Nat} (room : filterCount s l < 255) :
    filterCount (filterInc s l) l = filterCount s l + 1 := by
  have open_ : ¬ tabGet (s.die (homeDie l)).filter 0 (filterIdx l) = 255 := Nat.ne_of_lt room
  have bumped (t : State) (c : Prop) [Decidable c] : filterCount (if c then dirBump t 0x130 1 else t) l = filterCount t l := by
    split <;> rfl
  rw [filterInc, if_neg open_]
  dsimp only
  rw [bumped, filterCount, die_setDie, tabGet_tabSet_same, filterCount]

theorem filterDec_of_counted {s : State} {l : Nat} (some_ : 0 < filterCount s l) (sound : filterCount s l < 255) :
    DieFrame s (filterDec s l) ∧ (filterDec s l).dir = s.dir ∧ (filterDec s l).msgs = s.msgs
      ∧ filterCount (filterDec s l) l = filterCount s l - 1 := by
  have counts : ¬ (tabGet (s.die (homeDie l)).filter 0 (filterIdx l) = 255
      ∨ tabGet (s.die (homeDie l)).filter 0 (filterIdx l) = 0) :=
    not_or.mpr ⟨Nat.ne_of_lt sound, Nat.ne_of_gt some_⟩
  rw [filterDec, if_neg counts]
  refine ⟨dieFrame_of_others s, rfl, rfl, ?_⟩
  rw [filterCount, die_setDie, tabGet_tabSet_same, filterCount]

theorem filterDec_of_stuck {s : State} {l : Nat} (stuck : filterCount s l = 0 ∨ filterCount s l = 255) :
    filterDec s l = s := by
  rw [filterDec]
  exact if_pos stuck.symm

/-! ### Reads (R348, R351) -/

/-- Detection tells of errors and moves them. -/
def Detected (s u : State) : Prop := ∃ cores poison latent freeN host log bit sent, u = { s with
  cores := cores, poison := poison, latent := latent, freeN := freeN, host := host, log := log, bit := bit, sent := sent }

theorem detectUnit_detected (s : State) (u : Nat) : Detected s (detectUnit s u) := by
  rw [detectUnit]
  split
  · dsimp only
    split
    all_goals
      obtain ⟨_, _, _, _, eq⟩ := logAdd_logged _ _
      rw [eq]
      exact ⟨_, _, _, _, _, _, _, _, rfl⟩
  · exact ⟨_, _, _, _, _, _, _, _, rfl⟩

theorem Detected.trans {s t u : State} (h : Detected s t) (k : Detected t u) : Detected s u := by
  obtain ⟨_, _, _, _, _, _, _, _, rfl⟩ := h
  obtain ⟨_, _, _, _, _, _, _, _, rfl⟩ := k
  exact ⟨_, _, _, _, _, _, _, _, rfl⟩

theorem detect_detected (s : State) (a n : Nat) : Detected s (detect s a n) := by
  rw [detect]
  generalize unitsOf a n = us
  induction us generalizing s with
  | nil => exact ⟨_, _, _, _, _, _, _, _, rfl⟩
  | cons u us ih => exact (detectUnit_detected s u).trans (ih (detectUnit s u))

/-- A line is read, and its answer sent. -/
theorem answered_of_line (s : State) (l : Nat) (m : DieMsg) :
    DieFrame s (sendMsg (readLine s l).1 m) ∧ (sendMsg (readLine s l).1 m).dir = s.dir
      ∧ (sendMsg (readLine s l).1 m).dies = s.dies ∧ (sendMsg (readLine s l).1 m).msgs = s.msgs ++ [m] := by
  obtain ⟨_, _, _, _, _, _, _, _, eq⟩ := detect_detected s l 64
  rw [show (readLine s l).1 = detect s l 64 from rfl, eq]
  exact ⟨dieFrame_of_others s, rfl, rfl, rfl⟩

theorem readDirect_eq (s : State) (m : DieMsg) : ∃ bad, readDirect s m = sendMsg (readLine s m.line).1
    { mtype := 3, line := m.line, die := m.die, req := m.req, data := readBytes s m.line 64, bad := bad } := by
  rw [← (readLine_eq s m.line).1]
  exact ⟨if (paStatus s m.line).isSome then List.replicate 8 true else (readLine s m.line).2.2, rfl⟩

theorem readAtHome_eq (s : State) (m : DieMsg) (t : State) (counted : t = if m.flag then filterInc s m.line else s) :
    ∃ bad, readAtHome s m = sendMsg (readLine t m.line).1
      { mtype := 3, line := m.line, die := m.die, flag := m.req.isNone, toK := true, req := m.req
        data := readBytes t m.line 64, bad := bad } := by
  subst counted
  rw [← (readLine_eq _ m.line).1]
  exact ⟨(readLine (if m.flag then filterInc s m.line else s) m.line).2.2, rfl⟩

section
variable {s : State} {i : Nat} {m : DieMsg} (active : s.agt.diesActive.getLsbD m.die = true)
include active

theorem readAtK_direct (direct : m.toK = false ∨ inCs m.line = true ∨ lateDie s m.line = true) :
    readAtK s i m = readDirect (dropMsg s i) m := by
  have served : (!m.toK || inCs m.line || lateDie s m.line) = true := by
    rcases direct with h | h | h
    all_goals simp only [h, Bool.not_false, Bool.or_true, Bool.true_or]
  simp only [readAtK, active, Bool.not_true, Bool.false_eq_true, if_false, served, if_true]

variable (atK : m.toK = true) (hbm : inCs m.line = false) (sound : lateDie s m.line = false)
include atK hbm sound

theorem readAtK_waits (noted : sentBefore s i (fun x => x.mtype == 9 && x.line == m.line && x.die == m.die) = true) :
    readAtK s i m = s := by
  simp only [readAtK, active, atK, hbm, sound, noted, Bool.not_true, Bool.or_false, Bool.false_eq_true, if_false, if_true]

variable (clear : sentBefore s i (fun x => x.mtype == 9 && x.line == m.line && x.die == m.die) = false)
include clear

theorem readAtK_found {e : DirEntry} (found : dirFind s m.line = some e) :
    readAtK s i m = if e.home || e.acks != 0 then s else dirFill (dropMsg s i) m e false := by
  simp only [readAtK, active, atK, hbm, sound, clear, found, Bool.not_true, Bool.or_false, Bool.false_eq_true, if_false]

theorem readAtK_absent (absent : dirFind s m.line = none) {set : List DirEntry}
    (members : set = s.dir.filter (fun x => dirSet x.line == dirSet m.line)) :
    readAtK s i m = if set.length < 16 then
        dirFill (dirBump (dropMsg s i) 0x108 1) m { line := m.line, sharers := 0 } true
      else if set.any (fun x => x.acks != 0) then s
      else match set.find? (fun x => x.fill == 0) with
        | none => s
        | some v => sendInv (dirBump (mapDir s v.line (fun x => { x with acks := x.sharers })) 0x110 1) v.line v.sharers
            true := by
  subst members
  simp only [readAtK, active, atK, hbm, sound, clear, absent, Bool.not_true, Bool.or_false, Bool.false_eq_true,
    if_false] <;> rfl

end

/-- R348: K marks the sharer as being filled and asks the home. -/
theorem dirFill_fills (s : State) {m : DieMsg} {e : DirEntry} (own : e.line = m.line) (new : Bool) :
    DieFrame s (dirFill s m e new)
      ∧ dirFind (dirFill s m e new) m.line = some { e with
          sharers := e.sharers ||| dieBit m.die, fill := e.fill ||| dieBit m.die }
      ∧ (∀ l, l ≠ m.line → dirFind (dirFill s m e new) l = dirFind s l)
      ∧ (dirFill s m e new).msgs = s.msgs ++ [{ m with mtype := 2, flag := new }] := by
  have found (l : Nat) : dirFind (dirFill s m e new) l = (dirWithout s.dir m.line ++ [{ e with
      sharers := e.sharers ||| dieBit m.die, fill := e.fill ||| dieBit m.die }]).find? (fun x => x.line == l) := rfl
  refine ⟨dieFrame_of_others s, ?_, fun l other => ?_, rfl⟩
  · rw [found, List.find?_append, find?_dirWithout_same, Option.none_or, List.find?_singleton, own, beq_self_eq_true,
      if_pos rfl]
  · rw [found, List.find?_append, find?_dirWithout_ne _ other, List.find?_singleton, own,
      beq_eq_false_iff_ne.mpr other.symm, if_neg Bool.false_ne_true, Option.or_none, dirFind]

/-- R350: a fill of die `d` ends for an entry; one that was invalidated meanwhile leaves no sharer. -/
def DirEntry.filled (e : DirEntry) (d : Nat) : DirEntry := { e with
  fill := e.fill &&& ~~~dieBit d, dead := e.dead &&& ~~~dieBit d
  sharers := if e.dead.getLsbD d then e.sharers &&& ~~~dieBit d else e.sharers }

/-- An answer that did not pass K goes to its request. -/
theorem readBack_direct (s : State) {m : DieMsg} {w : ReqId} (req : m.req = some w) (direct : m.toK = false) :
    readBack s m = settleDir (deliverLine s w m.line m.data m.bad) m.line := by
  simp only [readBack, req, direct, Bool.false_and, Bool.false_eq_true, if_false]

section
variable {s : State} {m : DieMsg} {e : DirEntry} (atK : m.toK = true) (found : dirFind s m.line = some e)
  (fills : e.fill.getLsbD m.die = true) (alive : e.dead.getLsbD m.die = false)
  (active : s.agt.diesActive.getLsbD m.die = true)
include atK found fills alive active

/-- R348: the fill ends, the line is installed, and the demand that asked for it is served. -/
theorem readBack_demand {w : ReqId} (req : m.req = some w) : readBack s m = settleDir
    (deliverLine (installLine (mapDir s m.line (·.filled m.die)) m.die m.line none) w m.line m.data m.bad) m.line := by
  simp only [readBack, req, atK, found, fills, alive, active, Bool.not_false, Bool.and_true, Bool.or_true, if_true]
  rfl

/-- R348: the fill ends for a prefetch. -/
theorem readBack_prefetch (req : m.req = none) {p : Nat} (flight : remoteFlight s m.die m.line = some p) :
    readBack s m = settleDir (fillPrefetch (mapDir s m.line (·.filled m.die)) p m.line true m.data m.bad) m.line := by
  have flight' : remoteFlight (mapDir s m.line (·.filled m.die)) m.die m.line = some p := flight
  simp only [DirEntry.filled] at flight' ⊢
  simp only [readBack, req, atK, found, fills, alive, active, Bool.not_false, Bool.and_true, Bool.or_true, if_true, flight']

end

end Sys2Proof.Machine

namespace Sys2Proof.Machine

/-! ### Writes (R349) -/

/-- The messages in flight, and the writes that wait at their homes. -/
def inFlight (s : State) : List DieMsg × List HomeWr := (s.msgs, s.homeWr)

@[simp] theorem inFlight_ite {c : Prop} [Decidable c] (s t : State) :
    inFlight (if c then s else t) = if c then inFlight s else inFlight t := apply_ite inFlight c s t

theorem CopiesDrop.inFlight {s u : State} (h : CopiesDrop s u) : inFlight u = inFlight s := by
  obtain ⟨_, _, _, _, _, _, rfl, -⟩ := h
  rfl

@[simp] theorem inFlight_storeBytes (s : State) (a : Nat) (bs : List Byte) (bad : Bool) :
    inFlight (storeBytes s a bs bad) = inFlight s := by
  rw [storeBytes]
  split <;> rfl

@[simp] theorem inFlight_writeMem (s : State) (a : Nat) (bs : List Byte) (bad : Bool) :
    inFlight (writeMem s a bs bad) = inFlight s := by
  have struck (t : State) (p : Nat) (x : Core) (us : List Nat) : inFlight { t.setCore p x with latent := us } = inFlight t := rfl
  simp only [writeMem, inFlight_ite, struck, inFlight_storeBytes, ite_self,
    foldl_kept inFlight fun t l => (copiesDrop_invalidateLine t l).inFlight]

/-- Stores, each with its own mark of poison, leave the byte of the last one that covers an address. -/
theorem readByte_markedStores {α : Type} (run : α → Nat × List Byte) (bad : α → Bool) (ws : List α) {s : State}
    (sound : s.bring.lateDies = 0) (x : Nat) :
    readByte (ws.foldl (fun u w => writeMem u (run w).1 (run w).2 (bad w)) s) x
      = (runByte (ws.map run) x).getD (readByte s x) := by
  induction ws generalizing s with
  | nil => rfl
  | cons w ws ih =>
    rw [List.foldl_cons, ih ((storeLeaves_writeMem ..).late.trans sound), readByte_writeMem sound, List.map_cons, runByte]
    cases runByte (ws.map run) x with
    | some b => rfl
    | none =>
      rw [Option.none_or]
      split <;> rfl

/-- The word of a write at `a` that starts at `w.1`, with its bytes. -/
def wordRun (a : Nat) (bs : List Byte) (w : Nat × Nat) : Nat × List Byte := (w.1, (bs.drop (w.1 - a)).take w.2)

/-- The words of a write cover its bytes and no others. -/
theorem runByte_wordRuns (a : Nat) (bs : List Byte) (x : Nat) : runByte ((wordParts a bs.length).map (wordRun a bs)) x
    = if a ≤ x ∧ x < a + bs.length then some (bs.getD (x - a) 0) else none := by
  have length {w : Nat × Nat} (part : w ∈ wordParts a bs.length) : (wordRun a bs w).2.length = w.2 := by
    have within := within_of_wordParts part
    simp only [wordRun, List.length_take, List.length_drop]
    omega
  rw [runByte_of_agree (f := fun y => bs.getD (y - a) 0)]
  · refine if_congr ⟨?_, ?_⟩ rfl rfl
    · rintro ⟨_, named, lo, hi⟩
      obtain ⟨w, part, rfl⟩ := List.mem_map.mp named
      rw [length part] at hi
      have within := within_of_wordParts part
      simp only [wordRun] at lo hi
      omega
    · rintro ⟨lo, hi⟩
      obtain ⟨w, part, first, last⟩ := exists_wordPart lo hi
      exact ⟨_, List.mem_map_of_mem part, first, by rwa [length part]⟩
  · intro v named lo hi
    obtain ⟨w, part, rfl⟩ := List.mem_map.mp named
    rw [length part] at hi
    have within := within_of_wordParts part
    have near : x - w.1 < w.2 := by simp only [wordRun] at lo hi; omega
    have index : w.1 - a + (x - w.1) = x - a := by simp only [wordRun] at lo; omega
    simp only [wordRun, List.getD_eq_getElem?_getD, List.getElem?_take_of_lt near, List.getElem?_drop, index]

/-- R349: a write to a core store: the words of the message, each poisoned where its bit says so. -/
def storeWritten (s : State) (m : DieMsg) : State := (wordParts (m.line + m.ofs) m.data.length).foldl
  (fun u w => writeMem u (wordRun (m.line + m.ofs) m.data w).1 (wordRun (m.line + m.ofs) m.data w).2
    (m.bad.getD (w.1 / 8 - m.line / 8) false)) s

theorem readByte_storeWritten {s : State} (sound : s.bring.lateDies = 0) (m : DieMsg) (x : Nat) :
    readByte (storeWritten s m) x = if m.line + m.ofs ≤ x ∧ x < m.line + m.ofs + m.data.length
      then m.data.getD (x - (m.line + m.ofs)) 0 else readByte s x := by
  rw [storeWritten, readByte_markedStores (wordRun (m.line + m.ofs) m.data)
    (fun w : Nat × Nat => m.bad.getD (w.1 / 8 - m.line / 8) false) _ sound, runByte_wordRuns]
  split <;> rfl

theorem inFlight_storeWritten (s : State) (m : DieMsg) : inFlight (storeWritten s m) = inFlight s :=
  foldl_kept inFlight (fun t _ => inFlight_writeMem t ..) _ s

/-- R175, R349: the home stores the bytes, and its cores drop their staged copies of the line. -/
def homeWritten (s : State) (l a : Nat) (bs : List Byte) (bad : Bool) : State :=
  (storeBytes s a bs bad).cores.foldl (fun u (c : Nat × Core) => if c.1 / 64 = homeDie l then unstage u c.1 l else u)
    (storeBytes s a bs bad)

theorem unstage_dies (s : State) (p l : Nat) : (unstage s p l).dies = s.dies := by
  rw [unstage]
  split
  · rfl
  · simp only [apply_ite State.dies, queueCtr, coreCtr]
    repeat' split
    all_goals rfl

section
variable (s : State) (l a : Nat) (bs : List Byte) (bad : Bool)

theorem homeWritten_copiesDrop : CopiesDrop (storeBytes s a bs bad) (homeWritten s l a bs bad) :=
  .foldl (fun t (c : Nat × Core) => .ite _ (copiesDrop_unstage t c.1 l) (.refl t)) _ _

theorem inFlight_homeWritten : inFlight (homeWritten s l a bs bad) = inFlight s :=
  (homeWritten_copiesDrop s l a bs bad).inFlight.trans (inFlight_storeBytes ..)

theorem filterCount_homeWritten : filterCount (homeWritten s l a bs bad) l = filterCount s l := by
  have dies : (homeWritten s l a bs bad).dies = s.dies := by
    refine (foldl_kept State.dies (fun t (c : Nat × Core) => ?_) _ _).trans ?_
    · rw [apply_ite State.dies, unstage_dies, ite_self]
    · rw [storeBytes]
      split <;> rfl
  rw [filterCount, State.die, dies, filterCount, State.die]

theorem readByte_homeWritten {s : State} (sound : s.bring.lateDies = 0) (l a : Nat) (bs : List Byte) (bad : Bool) (x : Nat) :
    readByte (homeWritten s l a bs bad) x = if a ≤ x ∧ x < a + bs.length then bs.getD (x - a) 0 else readByte s x := by
  rw [(homeWritten_copiesDrop s l a bs bad).readByte, ← readByte_writeMem sound a bs bad x]
  by_cases none : bs = []
  · subst none
    rw [storeBytes, writeMem]
    rfl
  · exact ((copiesDrop_writeMem none (lateDie_of_none sound a) bad).readByte x).symm

/-- R349: a home with no remote copy recorded acknowledges at once, any other asks K. -/
theorem homeStore_eq (req : Option ReqId) (own : a / 64 * 64 = l) : homeStore s req a bs bad =
    if filterCount s l = 0 then (homeWritten s l a bs bad, false)
    else (sendMsg { homeWritten s l a bs bad with homeWr := (homeWritten s l a bs bad).homeWr ++ [⟨req, l⟩] }
      { mtype := 6, line := l, die := homeDie l, toK := true }, true) := by
  subst own
  rw [← filterCount_homeWritten s (a / 64 * 64) a bs bad]
  rfl

end

section
variable {s : State} {i : Nat} {m : DieMsg}

/-- A write waits while another one's copies are invalidated, and behind an older write of its line. -/
theorem writeAtHome_waits (busy : s.homeWr.any (fun h => h.line == m.line) = true
    ∨ sentBefore s i (fun x => x.mtype == 4 && x.line == m.line) = true) : writeAtHome s i m = s := by
  rw [writeAtHome]
  exact if_pos (Bool.or_eq_true_iff.mpr busy)

/-- The acknowledgement of a write. -/
def DieMsg.acknowledged (m : DieMsg) : DieMsg := { m with mtype := 5, data := [], bad := [] }

variable (free : s.homeWr.any (fun h => h.line == m.line) = false)
  (first : sentBefore s i (fun x => x.mtype == 4 && x.line == m.line) = false)
include free first

theorem writeAtHome_store (store : inCs m.line = true) (target : paStatus s m.line = none) :
    writeAtHome s i m = sendMsg (storeWritten (dropMsg s i) m) m.acknowledged := by
  have refused : (paStatus s m.line).isSome = false := by rw [target]; rfl
  simp only [writeAtHome, free, first, store, refused, Bool.or_self, Bool.false_eq_true, if_false, if_true, Nat.sub_sub]
  rfl

theorem writeAtHome_hbm (store : inCs m.line = false) (sound : lateDie s m.line = false)
    (own : (m.line + m.ofs) / 64 * 64 = m.line) : writeAtHome s i m =
    if filterCount s m.line = 0 then
      sendMsg (homeWritten (dropMsg s i) m.line (m.line + m.ofs) m.data (m.bad.any id)) m.acknowledged
    else sendMsg { homeWritten (dropMsg s i) m.line (m.line + m.ofs) m.data (m.bad.any id) with
        homeWr := (homeWritten (dropMsg s i) m.line (m.line + m.ofs) m.data (m.bad.any id)).homeWr ++ [⟨m.req, m.line⟩] }
      { mtype := 6, line := m.line, die := homeDie m.line, toK := true } := by
  simp only [writeAtHome, free, first, store, sound, Bool.or_self, Bool.false_eq_true, if_false,
    homeStore_eq (dropMsg s i) m.line _ _ _ m.req own]
  rw [show filterCount (dropMsg s i) m.line = filterCount s m.line from rfl]
  split <;> rfl

end

theorem inHbm_of_inCs {a : Nat} (h : inCs a = true) : inHbm a = false := by
  simp only [inCs, inHbm, Bool.and_eq_true, decide_eq_true_eq, decide_eq_false_iff_not] at h ⊢
  omega

/-- R349: a write that runs stores its bytes and no others; with no remote copy recorded it is acknowledged, else K is
asked to invalidate them and the write waits. -/
theorem writeAtHome_runs {s : State} {i : Nat} {m : DieMsg} (target : inHbm m.line = true ∨ paStatus s m.line = none)
    (aligned : m.line % 64 = 0) (inside : m.ofs < 64) (sound : s.bring.lateDies = 0)
    (free : s.homeWr.any (fun h => h.line == m.line) = false)
    (first : sentBefore s i (fun x => x.mtype == 4 && x.line == m.line) = false) :
    (∀ a, readByte (writeAtHome s i m) a = if m.line + m.ofs ≤ a ∧ a < m.line + m.ofs + m.data.length
        then m.data.getD (a - (m.line + m.ofs)) 0 else readByte s a)
      ∧ ((inCs m.line = true ∨ filterCount s m.line = 0) →
          (writeAtHome s i m).msgs = s.msgs.eraseIdx i ++ [m.acknowledged] ∧ (writeAtHome s i m).homeWr = s.homeWr)
      ∧ (inCs m.line = false → filterCount s m.line ≠ 0 →
          (writeAtHome s i m).msgs = s.msgs.eraseIdx i ++ [{ mtype := 6, line := m.line, die := homeDie m.line, toK := true }]
            ∧ (writeAtHome s i m).homeWr = s.homeWr ++ [⟨m.req, m.line⟩]) := by
  cases store : inCs m.line with
  | true =>
    have near : paStatus s m.line = none :=
      target.resolve_left fun hbm => Bool.false_ne_true ((inHbm_of_inCs store).symm.trans hbm)
    obtain ⟨msgs, homeWr⟩ := Prod.mk.inj (inFlight_storeWritten (dropMsg s i) m)
    rw [writeAtHome_store free first store near]
    refine ⟨readByte_storeWritten (s := dropMsg s i) sound m, fun _ => ⟨?_, homeWr⟩, fun other => absurd other (by decide)⟩
    rw [msgs_sendMsg, msgs]
    rfl
  | false =>
    have stored := readByte_homeWritten (s := dropMsg s i) sound m.line (m.line + m.ofs) m.data (m.bad.any id)
    obtain ⟨msgs, homeWr⟩ := Prod.mk.inj (inFlight_homeWritten (dropMsg s i) m.line (m.line + m.ofs) m.data (m.bad.any id))
    rw [writeAtHome_hbm free first store (lateDie_of_none sound _) (by omega)]
    split
    next none =>
      refine ⟨stored, fun _ => ⟨?_, homeWr⟩, fun _ some_ => absurd none some_⟩
      rw [msgs_sendMsg, msgs]
      rfl
    next some_ =>
      refine ⟨stored, fun none => absurd none (not_or.mpr ⟨Bool.false_ne_true, some_⟩), fun _ _ => ⟨?_, ?_⟩⟩
      · rw [msgs_sendMsg]
        exact congrArg (· ++ _) msgs
      · exact congrArg (· ++ _) homeWr

end Sys2Proof.Machine

namespace Sys2Proof.Machine

/-! ### Invalidations (R349 to R351) -/

/-- R348: a remote cache that is asked for it loses the line, and nothing else of the frame changes. -/
theorem uncache_eq (s : State) (d l : Nat) : ∃ cores dies queues,
    uncache s d l = { s with cores := cores, dies := dies, queues := queues } := by
  rw [uncache]
  split
  · exact ⟨_, _, _, rfl⟩
  · simp only [queueCtr, coreCtr]
    split
    · exact ⟨_, _, _, rfl⟩
    · exact ⟨_, _, _, rfl⟩

theorem die_coreCtr (s : State) (p o n d : Nat) : (coreCtr s p o n).die d = s.die d := by
  rw [coreCtr]
  split <;> rfl

theorem die_queueCtr (s : State) (q o n d : Nat) : (queueCtr s q o n).die d = s.die d := by
  rw [queueCtr]
  split <;> rfl

theorem rc_uncache (s : State) (d l : Nat) : ∀ x ∈ ((uncache s d l).die d).rc, x.addr ≠ l := by
  rw [uncache]
  split
  next none => exact fun x hx same => List.find?_eq_none.mp none x hx (beq_iff_eq.mpr same)
  next =>
    have gone : ∀ x ∈ (s.die d).rc.filter (fun z => !(z.addr == l)), x.addr ≠ l := fun x hx same => by
      have other := (List.mem_filter.mp hx).2
      rw [same, beq_self_eq_true] at other
      exact Bool.false_ne_true other
    split
    · rw [die_queueCtr, die_coreCtr, die_setDie]
      exact gone
    · rw [die_setDie]
      exact gone

theorem invAtCache_drops (s : State) (m : DieMsg) : DieFrame s (invAtCache s m) ∧ (invAtCache s m).dir = s.dir
    ∧ (∀ x ∈ ((invAtCache s m).die m.die).rc, x.addr ≠ m.line) ∧ (invAtCache s m).msgs = s.msgs ++ [{ m with mtype := 7 }] := by
  obtain ⟨_, _, _, eq⟩ := uncache_eq s m.die m.line
  have gone := rc_uncache s m.die m.line
  rw [invAtCache]
  rw [eq] at gone ⊢
  exact ⟨dieFrame_of_others s, rfl, gone, rfl⟩

section
variable {s : State} {m : DieMsg}

theorem invAtK_absent (absent : dirFind s m.line = none) : DieFrame s (invAtK s m) ∧ (invAtK s m).dir = s.dir
    ∧ (invAtK s m).msgs = s.msgs ++ [{ mtype := 8, line := m.line, die := homeDie m.line }] := by
  have absent' : dirFind (dirBump s 0x118 1) m.line = none := absent
  rw [invAtK]
  simp only [absent']
  exact ⟨dieFrame_of_others s, rfl, rfl⟩

/-- R349, R350: K marks the copies of a line that it asks to go, and the fills that end without one. -/
def recalled (s : State) (l : Nat) (held : BitVec 4) : State := mapDir (dirBump s 0x118 1) l (fun x => { x with
  home := true, acks := x.acks ||| held, dead := x.fill })

variable {e : DirEntry} (found : dirFind s m.line = some e)
include found

theorem invAtK_eq : invAtK s m = settleDir (sendInv (recalled s m.line (e.sharers &&& ~~~e.fill &&& ~~~e.acks)) m.line
    (e.sharers &&& ~~~e.fill &&& ~~~e.acks) false) m.line := by
  have found' : dirFind (dirBump s 0x118 1) m.line = some e := found
  simp only [invAtK, found', recalled]

theorem invAtK_found {held : BitVec 4} (holders : held = e.sharers &&& ~~~e.fill &&& ~~~e.acks) (shared : e.sharers ≠ 0) :
    DieFrame s (invAtK s m)
      ∧ dirFind (invAtK s m) m.line = some { e with home := true, acks := e.acks ||| held, dead := e.fill }
      ∧ (invAtK s m).msgs = s.msgs ++ (diesOf held).map (fun d => { mtype := 6, line := m.line, die := d, flag := false }) := by
  have marked : dirFind (recalled s m.line held) m.line = some { e with home := true, acks := e.acks ||| held, dead := e.fill } :=
    dirFind_mapDir (s := dirBump s 0x118 1) (e := e) found fun _ => rfl
  obtain ⟨frame, dir, msgs⟩ := sendInv_sends (recalled s m.line held) m.line held false
  rw [← dirFind_of_dir dir] at marked
  rw [invAtK_eq found, ← holders, settleDir_of_shared marked (.inl shared)]
  exact ⟨DieFrame.trans (dieFrame_of_others s) frame, marked, msgs⟩

theorem invAcked_found : invAcked s m = settleDir (mapDir s m.line (·.answered m.die)) m.line := by
  simp only [invAcked, found, DirEntry.answered]

/-- R349: the last INV_ACK frees the entry. -/
theorem invAcked_last (sharers : e.sharers &&& ~~~dieBit m.die = 0) (acks : e.acks &&& ~~~dieBit m.die = 0) :
    Freed s (invAcked s m) m.line e.home := by
  rw [invAcked_found found]
  exact freed_of_unshared found (f := (·.answered m.die)) (fun _ => rfl) rfl sharers acks

theorem invAcked_shared (shared : e.sharers &&& ~~~dieBit m.die ≠ 0 ∨ e.acks &&& ~~~dieBit m.die ≠ 0) :
    DieFrame s (invAcked s m) ∧ (invAcked s m).msgs = s.msgs
      ∧ dirFind (invAcked s m) m.line = some (e.answered m.die) := by
  rw [invAcked_found found]
  exact kept_of_shared found (f := (·.answered m.die)) (fun _ => rfl) shared

/-- R350: an EVICT_NOTE that crosses a fill or an INV changes nothing. -/
theorem evictNoted_crossed (crossed : e.fill.getLsbD m.die = true ∨ e.acks.getLsbD m.die = true) : evictNoted s m = s := by
  simp only [evictNoted, found]
  exact if_pos (Bool.or_eq_true_iff.mpr crossed)

variable (filled : e.fill.getLsbD m.die = false) (asked : e.acks.getLsbD m.die = false)
include filled asked

theorem evictNoted_found : evictNoted s m = settleDir (mapDir s m.line (·.evicted m.die)) m.line := by
  simp only [evictNoted, found, filled, asked, Bool.or_self, Bool.false_eq_true, if_false, DirEntry.evicted]

theorem evictNoted_last (sharers : e.sharers &&& ~~~dieBit m.die = 0) (acks : e.acks = 0) :
    Freed s (evictNoted s m) m.line e.home := by
  rw [evictNoted_found found filled asked]
  exact freed_of_unshared found (f := (·.evicted m.die)) (fun _ => rfl) rfl sharers acks

theorem evictNoted_shared (shared : e.sharers &&& ~~~dieBit m.die ≠ 0 ∨ e.acks ≠ 0) :
    DieFrame s (evictNoted s m) ∧ (evictNoted s m).msgs = s.msgs
      ∧ dirFind (evictNoted s m) m.line = some (e.evicted m.die) := by
  rw [evictNoted_found found filled asked]
  exact kept_of_shared found (f := (·.evicted m.die)) (fun _ => rfl) shared

end

/-- R349: an INV_ACK for an entry that is gone: with the last of them the home gets its INV_DONE. -/
theorem invAcked_absent {s : State} {m : DieMsg} (absent : dirFind s m.line = none) : DieFrame s (invAcked s m)
    ∧ (invAcked s m).dir = s.dir ∧ (invAcked s m).msgs = s.msgs ++ (if s.homeWr.any (fun h => h.line == m.line) = true
        ∧ s.msgs.any (fun x => [6, 7, 8].contains x.mtype && x.line == m.line) = false
      then [{ mtype := 8, line := m.line, die := homeDie m.line }] else []) := by
  simp only [invAcked, absent, Bool.and_eq_true, Bool.not_eq_true']
  split
  · exact ⟨dieFrame_sendMsg .., rfl, rfl⟩
  · exact ⟨.refl s, rfl, (List.append_nil _).symm⟩

/-- R349: the home acknowledges the write that waited, directly to a core of its own die. -/
theorem invFinished_found {s : State} {m : DieMsg} {h : HomeWr} (waits : s.homeWr.find? (fun h => h.line == m.line) = some h)
    {d : Nat} (writer : d = match h.req with | some w => w.p / 64 | none => m.die) : invFinished s m =
    if d = homeDie m.line then writeBack { s with homeWr := s.homeWr.filter (fun x => x.line != m.line) }
      { mtype := 5, line := m.line, die := d, req := h.req }
    else sendMsg { s with homeWr := s.homeWr.filter (fun x => x.line != m.line) }
      { mtype := 5, line := m.line, die := d, req := h.req } := by
  subst writer
  simp only [invFinished, waits] <;> rfl

theorem writeBack_of_req {s : State} {m : DieMsg} {w : ReqId} (req : m.req = some w) : writeBack s m =
    heronRetire (keepSegs s w (fun g => !g.inLine m.line)) w.p w.eng w.id := by
  rw [writeBack, req]

end Sys2Proof.Machine

namespace Sys2Proof.Machine

/-! ### The statement about messages between dies -/

section
variable {s : State} {i : Nat} {m : DieMsg}

theorem exec_rd (arrives : Arrives s i 1 m) : exec (.rd i) s = .next (sramSweep (readAtK s i m)) := by
  change execRd i s = _
  rw [execRd, arrives.msgAt]

theorem exec_wr (arrives : Arrives s i 4 m) : exec (.wr i) s = .next (writeAtHome s i m) := by
  change execWr i s = _
  rw [execWr, arrives.msgAt]

theorem exec_rdRc (arrives : Arrives s i 2 m) : exec (.rdRc i) s = .next (readAtHome (dropMsg s i) m) :=
  congrArg Host.Outcome.next (arrives.onMsg readAtHome)

theorem exec_rsp (arrives : Arrives s i 3 m) : exec (.rsp i) s = .next (sramSweep (readBack (dropMsg s i) m)) :=
  congrArg (fun t => Host.Outcome.next (sramSweep t)) (arrives.onMsg readBack)

theorem exec_wrAck (arrives : Arrives s i 5 m) : exec (.wrAck i) s = .next (writeBack (dropMsg s i) m) :=
  congrArg Host.Outcome.next (arrives.onMsg writeBack)

theorem exec_inv (arrives : Arrives s i 6 m) :
    exec (.inv i) s = .next (if m.toK then invAtK (dropMsg s i) m else invAtCache (dropMsg s i) m) :=
  congrArg Host.Outcome.next (arrives.onMsg fun t m => if m.toK then invAtK t m else invAtCache t m)

theorem exec_invAck (arrives : Arrives s i 7 m) : exec (.invAck i) s = .next (invAcked (dropMsg s i) m) :=
  congrArg Host.Outcome.next (arrives.onMsg invAcked)

theorem exec_invDone (arrives : Arrives s i 8 m) : exec (.invDone i) s = .next (invFinished (dropMsg s i) m) :=
  congrArg Host.Outcome.next (arrives.onMsg invFinished)

theorem exec_evictNote (arrives : Arrives s i 9 m) : exec (.evictNote i) s = .next (evictNoted (dropMsg s i) m) :=
  congrArg Host.Outcome.next (arrives.onMsg evictNoted)

theorem exec_fdec (arrives : Arrives s i 10 m) : exec (.fdec i) s = .next (filterDec (dropMsg s i) m.line) :=
  congrArg Host.Outcome.next (arrives.onMsg fun t m => filterDec t m.line)

/-- R348: an RD for a line that K holds no entry of is answered with the line. -/
theorem rd_direct (arrives : Arrives s i 1 m) (active : s.agt.diesActive.getLsbD m.die = true)
    (direct : m.toK = false ∨ inCs m.line = true ∨ lateDie s m.line = true) :
    ∃ u bad, exec (.rd i) s = .next (sramSweep u) ∧ DieFrame s u ∧ u.dir = s.dir
      ∧ u.msgs = s.msgs.eraseIdx i ++ [{ mtype := 3, line := m.line, die := m.die, req := m.req
                                         data := readBytes s m.line 64, bad := bad }] := by
  obtain ⟨bad, eq⟩ := readDirect_eq (dropMsg s i) m
  obtain ⟨frame, dir, -, msgs⟩ := answered_of_line (dropMsg s i) m.line { mtype := 3, line := m.line, die := m.die
                                                                          req := m.req, data := readBytes s m.line 64, bad := bad }
  exact ⟨_, bad, (exec_rd arrives).trans (by rw [readAtK_direct active direct, eq]; rfl), (dieFrame_dropMsg s i).trans frame,
    dir, msgs⟩

/-- R346, R348: an RD_RC is answered with the line, and counted first where it made an entry. -/
theorem rdRc_answered (arrives : Arrives s i 2 m) :
    ∃ u bad, exec (.rdRc i) s = .next u ∧ DieFrame s u ∧ u.dir = s.dir
      ∧ u.msgs = s.msgs.eraseIdx i ++ [{ mtype := 3, line := m.line, die := m.die, flag := m.req.isNone, toK := true
                                         req := m.req, data := readBytes s m.line 64, bad := bad }]
      ∧ (m.flag = true → filterCount s m.line < 255 → filterCount u m.line = filterCount s m.line + 1) := by
  have counted : ∃ t, t = (if m.flag then filterInc (dropMsg s i) m.line else dropMsg s i)
      ∧ (∃ dies dirCtr, t = { dropMsg s i with dies := dies, dirCtr := dirCtr })
      ∧ (m.flag = true → filterCount s m.line < 255 → filterCount t m.line = filterCount s m.line + 1) := by
    cases m.flag with
    | false => exact ⟨_, rfl, ⟨_, _, rfl⟩, fun new => absurd new (by decide)⟩
    | true => exact ⟨_, rfl, filterInc_eq .., fun _ room => filterCount_filterInc (s := dropMsg s i) room⟩
  obtain ⟨t, eq, ⟨_, _, same⟩, count⟩ := counted
  obtain ⟨bad, answer⟩ := readAtHome_eq (dropMsg s i) m t eq
  obtain ⟨frame, dir, dies, msgs⟩ := answered_of_line t m.line { mtype := 3, line := m.line, die := m.die
                                                                 flag := m.req.isNone, toK := true, req := m.req
                                                                 data := readBytes t m.line 64, bad := bad }
  rw [← answer] at frame dir dies msgs
  have counts : filterCount (readAtHome (dropMsg s i) m) m.line = filterCount t m.line := by
    rw [filterCount, State.die, dies, filterCount, State.die]
  refine ⟨_, bad, exec_rdRc arrives, DieFrame.trans ?_ frame, ?_, ?_, fun new room => counts.trans (count new room)⟩
  · rw [same]; exact dieFrame_of_others s
  · rw [dir, same]; rfl
  · rw [msgs, same]; rfl

end

/-- Settles O54, message by message: what an RD meets at K (`readAtK_found`, `readAtK_absent`), the write at its home
(`writeAtHome_runs`), the invalidation at K and at a cache (`invAtK_found`, `invAtCache_drops`), and the entry that its last
sharer frees (`settleDir_of_unshared`) or another keeps (`settleDir_of_shared`). -/
theorem dieMessagesKeepCopiesCoherent : Obligations.DieMessagesKeepCopiesCoherent := by
  unfold Obligations.DieMessagesKeepCopiesCoherent
  refine ⟨fun i s m => rd_direct, ?rdAtK, fun i s m => rdRc_answered, ?rspDirect, ?rspAtK, ?wrWaits, ?wr, ?wrAck, ?invAtCache,
    ?invAtK, ?invAck, ?invAckAbsent, ?invDone, ?evictNote, ?fdec⟩
  case rdAtK =>
    intro i s m set arrives active atK hbm sound members
    refine ⟨fun noted => ?noted, fun clear => ⟨fun e found home acks => ?fills, fun e found busy => ?busy,
      fun absent room => ?allocates, fun absent full stuck => ?stuck, fun v absent full calm pick held => ?evicts⟩⟩
    case noted => rw [exec_rd arrives, readAtK_waits active atK hbm sound noted]
    case fills =>
      obtain ⟨frame, own, others, msgs⟩ := dirFill_fills (dropMsg s i) (line_of_dirFind found) false
      refine ⟨_, ?_, (dieFrame_dropMsg s i).trans frame, own, others, msgs⟩
      rw [exec_rd arrives, readAtK_found active atK hbm sound clear found, home, acks]
      rfl
    case busy =>
      rw [exec_rd arrives, readAtK_found active atK hbm sound clear found, if_pos]
      rcases busy with home | acks
      · rw [home, Bool.true_or]
      · rw [bne_iff_ne.mpr acks, Bool.or_true]
    case allocates =>
      obtain ⟨frame, own, others, msgs⟩ := dirFill_fills (dirBump (dropMsg s i) 0x108 1) (m := m)
        (e := { line := m.line, sharers := 0 }) rfl true
      refine ⟨_, ?_, DieFrame.trans (dieFrame_of_others s) frame, ?_, others, msgs⟩
      · rw [exec_rd arrives, readAtK_absent active atK hbm sound clear absent members, if_pos room]
      · exact own.trans (by simp only [BitVec.ofNat_eq_ofNat, BitVec.zero_or])
    case stuck =>
      rw [exec_rd arrives, readAtK_absent active atK hbm sound clear absent members, if_neg (Nat.not_lt.mpr full)]
      rcases stuck with busy | none
      · rw [if_pos busy]
      · rw [none, ite_self]
    case evicts =>
      obtain ⟨frame, dir, msgs⟩ := sendInv_sends (dirBump (mapDir s v.line (fun x => { x with acks := x.sharers })) 0x110 1)
        v.line v.sharers true
      refine ⟨_, ?_, DieFrame.trans (dieFrame_of_others s) frame, (dirFind_of_dir dir v.line).trans ?_, msgs⟩
      · rw [exec_rd arrives, readAtK_absent active atK hbm sound clear absent members, if_neg (Nat.not_lt.mpr full), calm, pick,
          if_neg Bool.false_ne_true]
      · exact dirFind_mapDir held (f := fun x => { x with acks := x.sharers }) fun _ => rfl
  case rspDirect =>
    intro i s m w arrives req direct
    rw [exec_rsp arrives, readBack_direct _ req direct]
  case rspAtK =>
    intro i s m e arrives atK found fills alive active
    have ended := dirFind_mapDir (s := dropMsg s i) found (f := (·.filled m.die)) fun _ => rfl
    refine ⟨mapDir (dropMsg s i) m.line (·.filled m.die), ended.trans ?_, rfl, dieFrame_of_others s, fun w req => ?_,
      fun p req flight => ?_⟩
    · rw [DirEntry.filled, alive, if_neg Bool.false_ne_true]
    · rw [exec_rsp arrives, readBack_demand (s := dropMsg s i) atK found fills alive active req]
    · rw [exec_rsp arrives, readBack_prefetch (s := dropMsg s i) atK found fills alive active req flight]
  case wrWaits =>
    intro i s m arrives busy
    rw [exec_wr arrives, writeAtHome_waits busy]
  case wr =>
    intro i s m arrives target memory aligned inside _ sound free first
    exact ⟨_, exec_wr arrives, writeAtHome_runs target aligned inside sound free first⟩
  case wrAck =>
    intro i s m w arrives req
    rw [exec_wrAck arrives, writeBack_of_req req]
  case invAtCache =>
    intro i s m arrives near
    obtain ⟨frame, dir, gone, msgs⟩ := invAtCache_drops (dropMsg s i) m
    refine ⟨_, ?_, (dieFrame_dropMsg s i).trans frame, dir, gone, msgs⟩
    rw [exec_inv arrives, near, if_neg Bool.false_ne_true]
  case invAtK =>
    intro i s m arrives atK
    have ran : exec (.inv i) s = .next (invAtK (dropMsg s i) m) := by rw [exec_inv arrives, atK, if_pos rfl]
    refine ⟨fun absent => ?absent, fun e held found holders shared => ?found⟩
    case absent =>
      obtain ⟨frame, dir, msgs⟩ := invAtK_absent (s := dropMsg s i) absent
      exact ⟨_, ran, (dieFrame_dropMsg s i).trans frame, dir, msgs⟩
    case found =>
      obtain ⟨frame, own, msgs⟩ := invAtK_found (s := dropMsg s i) found holders shared
      exact ⟨_, ran, (dieFrame_dropMsg s i).trans frame, own, msgs⟩
  case invAck =>
    intro i s m e arrives found
    refine ⟨fun sharers acks => ?last, fun shared => ?shared⟩
    case last =>
      obtain ⟨frame, gone, msgs⟩ := invAcked_last (s := dropMsg s i) found sharers acks
      exact ⟨_, exec_invAck arrives, (dieFrame_dropMsg s i).trans frame, gone, msgs⟩
    case shared =>
      obtain ⟨frame, msgs, own⟩ := invAcked_shared (s := dropMsg s i) found shared
      exact ⟨_, exec_invAck arrives, (dieFrame_dropMsg s i).trans frame, msgs, own⟩
  case invAckAbsent =>
    intro i s m arrives absent
    obtain ⟨frame, dir, msgs⟩ := invAcked_absent (s := dropMsg s i) absent
    exact ⟨_, exec_invAck arrives, (dieFrame_dropMsg s i).trans frame, dir, msgs⟩
  case invDone =>
    rintro i s _ m h d arrives waits writer rfl
    have finished := invFinished_found (s := dropMsg s i) waits writer
    refine ⟨fun far => ?_, fun w near req => ?_⟩
    · rw [exec_invDone arrives, finished, if_neg far]
      rfl
    · rw [exec_invDone arrives, finished, if_pos near, writeBack_of_req req]
      rfl
  case evictNote =>
    intro i s m e arrives found
    refine ⟨fun crossed => ?crossed, fun filled asked => ⟨fun shared => ?shared, fun sharers acks => ?last⟩⟩
    case crossed => rw [exec_evictNote arrives, evictNoted_crossed (s := dropMsg s i) found crossed]
    case shared =>
      obtain ⟨frame, msgs, own⟩ := evictNoted_shared (s := dropMsg s i) found filled asked shared
      exact ⟨_, exec_evictNote arrives, (dieFrame_dropMsg s i).trans frame, msgs, own⟩
    case last =>
      obtain ⟨frame, gone, msgs⟩ := evictNoted_last (s := dropMsg s i) found filled asked sharers acks
      exact ⟨_, exec_evictNote arrives, (dieFrame_dropMsg s i).trans frame, gone, msgs⟩
  case fdec =>
    rintro i s m _ arrives rfl
    refine ⟨fun counted sound => ?_, fun stuck => ?_⟩
    · obtain ⟨frame, dir, msgs, count⟩ := filterDec_of_counted (s := dropMsg s i) counted sound
      exact ⟨_, exec_fdec arrives, (dieFrame_dropMsg s i).trans frame, dir, msgs, count⟩
    · rw [exec_fdec arrives, filterDec_of_stuck (s := dropMsg s i) stuck]

end Sys2Proof.Machine

namespace Sys2Proof.Machine

/-! ### One flit leaves a port (R359, R365, R366, R372) -/

/-- A table made of the numbers below `n` reads at each of them what it was made of. -/
theorem tabGet_upTo_map {α : Type} (f : Nat → α) (d : α) {n v : Nat} (below : v < n) :
    tabGet ((upTo n).map (fun i => (i, f i))) d v = f v := by
  suffices h : ∀ l : List Nat, v ∈ l → tabGet (l.map (fun i => (i, f i))) d v = f v from h _ (List.mem_range.mpr below)
  intro l listed
  induction l with
  | nil => cases listed
  | cons i l ih =>
    rw [List.map_cons, tabGet]
    split
    next own => rw [own]
    next other => exact ih ((List.mem_cons.mp listed).resolve_left fun e => other e.symm)

theorem port_withSent (s : State) (l : List Out) (j : Nat) : ({ s with sent := l } : State).port j = s.port j := rfl

theorem port_withPools (s : State) (pools : Tab Nat) (l : List Out) (j : Nat) :
    ({ s with fab := { s.fab with pools := pools }, sent := l } : State).port j = s.port j := rfl

/-- The units are none of the fabric's. -/
theorem sameUnits_fabric (s : State) (fab : Fab) (l : List Out) : SameUnits s { s with fab := fab, sent := l } :=
  ⟨rfl, rfl, rfl, rfl, rfl, rfl, rfl, rfl, rfl, rfl, rfl⟩

theorem portUp_of_up {s : State} {k : Nat} (up : (s.port k).st = .up) : portUp s k = true := beq_iff_eq.mpr up

/-- A port after a control message has left it, `rest` being what still waits. -/
def Port.ctlSent (x : Port) (m : CtlMsg) (rest : List CtlMsg) : Port := { x with
  cq := rest, replay := x.replay ++ [.ctl m], txSeq := (x.txSeq + 1) % 4096, ctr := ctrAdd x.ctr 0x158 1 }

/-- R372: a flit takes a floor credit of its VC while there is one. -/
def Port.floorCredit (x : Port) (e : Packet × Nat) : Bool := decide (0 < tabGet x.floor 0 e.1.vc)

/-- The flit that leaves is the last of its packet. -/
def lastFlit (e : Packet × Nat) : Bool := decide (packetFlits e.1 ≤ e.2 + 1)

/-- A port after the next flit of packet `e` has left it. -/
def Port.packetFlitSent (x : Port) (e : Packet × Nat) : Port := { x with
  floor := if x.floorCredit e then tabSet x.floor e.1.vc (tabGet x.floor 0 e.1.vc - 1) else x.floor
  shared := if x.floorCredit e then x.shared else x.shared - 1
  replay := x.replay ++ [.b e.1 e.2 (x.floorCredit e)]
  txSeq := (x.txSeq + 1) % 4096
  bq := if lastFlit e then x.bq.erase e
    else x.bq.map (fun f => if f == e then (packetSent e.1 (x.floorCredit e), f.2 + 1) else f)
  ctr := ctrAdd x.ctr 0x148 1 }

/-- What a port sends with the next flit of packet `e`: its trailer, and the packet with its last flit. -/
def Port.packetFlitOut (x : Port) (k : Nat) (e : Packet × Nat) : List Out :=
  .trailer k { x.trail 1 with vc := e.1.vc, floor := x.floorCredit e, head := e.2 == 0, tail := lastFlit e }
    :: (if lastFlit e then [.packet k { packetSent e.1 (x.floorCredit e) with back := none }] else [])

section
variable {s : State} {k : Nat}

/-- R365, R367: nothing leaves a port that is not Up, has no room to replay or has nothing that may go. -/
theorem pumpOne_of_idle (idle : (s.port k).st ≠ .up ∨ 3072 ≤ (s.port k).replay.length
    ∨ ((s.port k).cq = [] ∧ (s.port k).nextB = none)) : pumpOne s k = s := by
  simp only [pumpOne]
  split
  next => rfl
  next free =>
    rcases idle with down | full | ⟨quiet, none⟩
    · exact absurd (.inl down) free
    · exact absurd (.inr full) free
    · rw [quiet, none]

variable (up : (s.port k).st = .up) (room : (s.port k).replay.length < 3072)
include up room

theorem unblocked_of_room : ¬ ((s.port k).st ≠ .up ∨ replayCap ≤ (s.port k).replay.length) :=
  not_or.mpr ⟨not_not_intro up, Nat.not_le.mpr room⟩

/-- R366: the next control message goes first. -/
theorem pumpOne_of_ctl {m : CtlMsg} {rest : List CtlMsg} (next : (s.port k).cq = m :: rest) :
    pumpOne s k = { s.setPort k ((s.port k).ctlSent m rest) with
      sent := s.sent ++ [.trailer k ((s.port k).trail 4), .ctl k m] } := by
  simp only [pumpOne, if_neg (unblocked_of_room up room), next, portCtr_eq, port_setPort, setPort_setPort]
  rfl

/-- R366, R372: without one, the next B flit that holds a credit. -/
theorem pumpOne_of_packet {e : Packet × Nat} (quiet : (s.port k).cq = []) (next : (s.port k).nextB = some e) :
    pumpOne s k = flitForwarded { s.setPort k ((s.port k).packetFlitSent e) with
      sent := s.sent ++ (s.port k).packetFlitOut k e } e.1 := by
  simp only [pumpOne, if_neg (unblocked_of_room up room), quiet, next, portCtr_eq, port_setPort, setPort_setPort,
    Port.packetFlitSent, Port.packetFlitOut, Port.floorCredit, lastFlit]
  rfl

end

/-- R371, R372: flits that leave a receive pool change the pools and what is sent. -/
theorem creditBack_eq (s : State) (j v n fl : Nat) : ∃ pools credit,
    creditBack s j v n fl = { s with fab := { s.fab with pools := pools }, sent := s.sent ++ credit } := by
  simp only [creditBack]
  split
  · exact ⟨s.fab.pools, [], by rw [List.append_nil]⟩
  · split
    · exact ⟨_, _, rfl⟩
    · exact ⟨_, [], by rw [List.append_nil]⟩

/-- R372: forwarding a flit gives its credit back, if it came from a port of this package. -/
theorem flitForwarded_eq (s : State) (p : Packet) : ∃ pools credit,
    flitForwarded s p = { s with fab := { s.fab with pools := pools }, sent := s.sent ++ credit }
      ∧ (p.back = none → credit = []) := by
  rw [flitForwarded]
  split
  next own => exact ⟨s.fab.pools, [], by rw [List.append_nil], fun _ => rfl⟩
  next b back =>
    obtain ⟨pools, credit, eq⟩ := creditBack_eq s b.1 b.2.1 1 b.2.2
    exact ⟨pools, credit, eq, fun own => by rw [back] at own; cases own⟩

/-- R372: the next B flit is of a VC that has a credit. -/
theorem credits_of_nextB {x : Port} {e : Packet × Nat} (next : x.nextB = some e) : 0 < x.credits e.1.vc := by
  have chosen := List.find?_some next
  rw [Bool.and_eq_true, decide_eq_true_iff] at chosen
  exact chosen.1

/-- R372: a B flit takes one credit of its VC. -/
theorem credits_packetFlitSent {x : Port} {e : Packet × Nat} (next : x.nextB = some e) :
    (x.packetFlitSent e).credits e.1.vc + 1 = x.credits e.1.vc := by
  have some_ := credits_of_nextB next
  by_cases floor : 0 < tabGet x.floor 0 e.1.vc
  · simp only [Port.packetFlitSent, Port.credits, Port.floorCredit, floor, decide_true, if_true, tabGet_tabSet_same]
    omega
  · simp only [Port.credits] at some_
    simp only [Port.packetFlitSent, Port.credits, Port.floorCredit, floor, decide_false, Bool.false_eq_true, if_false]
    omega

/-! ### Acknowledgements and replays (R364, R367) -/

/-- R367: an acknowledgement changes the replay buffer, and the run of replays, only. -/
theorem ackFlits_eq (x : Port) (ack : Nat) : ∃ replay replays, ackFlits x ack = { x with replay := replay, replays := replays } := by
  simp only [ackFlits]
  split
  · exact ⟨_, _, rfl⟩
  · exact ⟨_, _, rfl⟩

/-- R367: the acknowledgement of flit `n` of those that wait frees it and those before it. -/
theorem ackFlits_of_waiting {x : Port} {n : Nat} (waits : n < x.replay.length) (room : x.replay.length < 4096) :
    ackFlits x (x.txSeq + 4096 - x.replay.length + n) = { x with replay := x.replay.drop (n + 1), replays := 0 } := by
  have freed : ((x.txSeq + 4096 - x.replay.length + n) % 4096 + 4097 - (x.txSeq + 4096 - x.replay.length % 4096) % 4096) % 4096
      = n + 1 := by omega
  simp only [ackFlits, freed, if_pos (Nat.succ_le_of_lt waits), Nat.succ_ne_zero, if_false]

/-- A counter of a port's page advances by any number: nothing else of the port, and no other port, changes. -/
theorem portCtr_setPort (s : State) (k : Nat) (x : Port) (o n : Nat) :
    portCtr (s.setPort k x) k o n = s.setPort k { x with ctr := ctrAdd x.ctr o n } := by
  rw [portCtr]
  split
  next zero => rw [zero, ctrAdd, if_pos rfl]
  next => rw [port_setPort, setPort_setPort]

/-- A port that answers a NAK, whose acknowledgement has left it `x`: the replays of its flits counted. -/
def Port.replayed (x : Port) : Port := { x with
  replays := x.replays + 1
  ctr := ctrAdd (ctrAdd (ctrAdd x.ctr 0x168 1) 0x148 (x.replay.filter (fun f => !isCtl f)).length) 0x158
    (x.replay.filter isCtl).length }

/-- R367: a replay is counted once. -/
theorem ctrGet_replayed (x : Port) : ctrGet x.replayed.ctr 0x168 = ctrGet x.ctr 0x168 + 1 := by
  rw [Port.replayed, ctrGet_ctrAdd_ne (by decide), ctrGet_ctrAdd_ne (by decide), ctrGet_ctrAdd_same]
  rfl

section
variable {k : Fin 64} {ack : Nat} {s : State} (up : (s.port k).st = .up)
include up

/-- R367: a NAK repeats what is left. -/
theorem exec_causewayReplay (few : (ackFlits (s.port k) ack).replays < 16) : exec (.causewayReplay k ack) s =
    .next (pump { s.setPort k (ackFlits (s.port k) ack).replayed with
      sent := s.sent ++ (ackFlits (s.port k) ack).replayTrails.map (Out.trailer k)
        ++ [.replay k (ackFlits (s.port k) ack).replay.length] } k) := by
  simp only [exec, execCausewayReplay, portUp_of_up up, Bool.not_true, Bool.false_eq_true, if_false,
    if_neg (Nat.not_le.mpr few), portCtr_setPort]
  rfl

/-- R364: a NAK after 16 replays of one flit takes the port Down. -/
theorem exec_causewayReplay_spent (many : 16 ≤ (ackFlits (s.port k) ack).replays) :
    exec (.causewayReplay k ack) s = .next (sendAllDirect (portSet s k .down 6)) := by
  simp only [exec, execCausewayReplay, portUp_of_up up, Bool.not_true, Bool.false_eq_true, if_false, if_pos many]

end

/-- A port whose receiver meets a bad flit after the flits `got` by VC have arrived: they are received, and what follows is
discarded. -/
def Port.flitBad (x : Port) (got : List Nat) (cw : Option Nat) (n : Nat) : Port := { x with
  discarding := true, nak := true, rxSeq := (x.rxSeq + n) % 4096
  part := if n = 0 then x.part
    else forUp 6 (fun v t => if got.getD v 0 = 0 then t else tabSet t v (tabGet t 0 v + got.getD v 0)) x.part
  ctr := ctrAdd x.ctr 0x160 (match cw with | some c => codewordFlits c | none => 1) }

/-- R367, R368: a bad flit is answered with NAK. -/
theorem exec_cwCrcErr {k : Fin 64} {s : State} (up : (s.port k).st = .up) (got : List Nat) (cw : Option Nat) {n : Nat}
    (arrived : n = if (s.port k).discarding then 0 else (got.take 6).sum) : ∃ pools, exec (.cwCrcErr ⟨k, got, cw⟩) s = .next
      (let t := s.setPort k ((s.port k).flitBad got cw n)
       { t with fab := { t.fab with pools := pools }, sent := s.sent ++ [.trailer k (((s.port k).flitBad got cw n).trail 0)] }) := by
  subst arrived
  simp only [exec, execCwCrcErr, portUp_of_up up, Bool.not_true, Bool.false_eq_true, if_false]
  exact ⟨_, rfl⟩

/-- A port to which credits have come back: never more than its neighbour gave (R372). -/
def Port.credited (x : Port) (floors : List Nat) (shared stall : Nat) : Port := { x with
  floor := (upTo 6).map (fun v => (v, min 32 (tabGet x.floor 0 v + floors.getD v 0)))
  shared := min 2208 (x.shared + shared)
  ctr := ctrAdd x.ctr 0x178 stall }

theorem exec_creditReturn {k : Fin 64} {s : State} (up : (s.port k).st = .up) (floors : List Nat) (shared stall : Nat) :
    exec (.creditReturn k floors shared stall) s =
      .next (pump (s.setPort k ((s.port k).credited floors shared stall)) k) := by
  simp only [exec, execCreditReturn, portUp_of_up up, if_true, portCtr_setPort]
  rfl

/-- Settles O45: one flit by `pumpOne`'s three cases, acknowledgements by `ackFlits_of_waiting`, and each arrival by the port
that it leaves. -/
theorem flitsAreSentAndAcknowledged : Obligations.FlitsAreSentAndAcknowledged := by
  unfold Obligations.FlitsAreSentAndAcknowledged
  refine ⟨?ctl, ?packet, ?idle, ?ack, ?acked, ?replay, ?spent, ?bad, ?expected, ?credit⟩
  case ctl =>
    intro s k m rest up room next
    rw [pumpOne_of_ctl up room next, port_withSent, port_setPort]
    exact ⟨rfl, rfl, rfl, rfl, rfl, fun j other => port_setPort_ne _ _ _ _ other⟩
  case packet =>
    rintro s k e _ _ up room quiet next rfl rfl
    rw [pumpOne_of_packet up room quiet next]
    obtain ⟨pools, credit, forwarded, unasked⟩ := flitForwarded_eq { s.setPort k ((s.port k).packetFlitSent e) with
      sent := s.sent ++ (s.port k).packetFlitOut k e } e.1
    rw [forwarded, port_withPools, port_withSent, port_setPort]
    refine ⟨rfl, rfl, credits_packetFlitSent next, fun floor => if_pos floor, ⟨credit, ?_, unasked⟩,
      fun j other => port_setPort_ne _ _ _ _ other⟩
    exact List.append_assoc ..
  case idle => exact fun s k idle => pumpOne_of_idle (.inr idle)
  case ack =>
    intro k ack stall s up
    exact congrArg Host.Outcome.next (if_pos (portUp_of_up up))
  case acked => exact fun x n => ackFlits_of_waiting
  case replay =>
    rintro k ack s _ up rfl few
    obtain ⟨replay, replays, left⟩ := ackFlits_eq (s.port k) ack
    have counted : ctrGet (ackFlits (s.port k) ack).ctr 0x168 = ctrGet (s.port k).ctr 0x168 := by rw [left]
    refine ⟨_, exec_causewayReplay up few, ?_⟩
    rw [port_withSent, port_setPort, ctrGet_replayed, counted]
    exact ⟨rfl, rfl, rfl, rfl, fun j other => port_setPort_ne _ _ _ _ other, sameUnits_fabric ..⟩
  case spent => exact fun k ack s => exec_causewayReplay_spent
  case bad =>
    intro k got cw s n up arrived
    obtain ⟨pools, eq⟩ := exec_cwCrcErr up got cw arrived
    refine ⟨_, eq, ?_⟩
    dsimp only
    rw [port_withPools, port_setPort]
    exact ⟨rfl, rfl, rfl, rfl, rfl, fun j other => port_setPort_ne _ _ _ _ other, sameUnits_fabric ..⟩
  case expected =>
    intro k seq s up discarding
    simp only [exec, execCwReplayFlit, portUp_of_up up, discarding, Bool.and_self, Bool.true_and, beq_iff_eq]
  case credit =>
    intro k floors shared stall s up
    refine ⟨_, exec_creditReturn up floors shared stall, ?_⟩
    rw [port_setPort]
    exact ⟨rfl, fun v below => tabGet_upTo_map _ _ below, rfl, fun j other => port_setPort_ne _ _ _ _ other, rfl, sameUnits_fabric ..⟩

end Sys2Proof.Machine

namespace Sys2Proof.Machine

/-! ### What control messages change of a port (R366) -/

/-- What control messages leave of a port: one that is not Up stays as it is; one with no B flit queued changes only in its
queue of messages, its replay buffer, its sequence number and its counters. -/
def CtlSent (x y : Port) : Prop :=
  (x.st ≠ .up → y = x)
    ∧ (x.bq = [] → ∃ cq replay txSeq ctr, y = { x with cq := cq, replay := replay, txSeq := txSeq, ctr := ctr })

theorem CtlSent.refl (x : Port) : CtlSent x x := ⟨fun _ => rfl, fun _ => ⟨_, _, _, _, rfl⟩⟩

theorem CtlSent.trans {x y z : Port} (h : CtlSent x y) (k : CtlSent y z) : CtlSent x z := by
  refine ⟨fun down => ?_, fun empty => ?_⟩
  · cases h.1 down
    exact k.1 down
  · obtain ⟨_, _, _, _, rfl⟩ := h.2 empty
    obtain ⟨_, _, _, _, rfl⟩ := k.2 empty
    exact ⟨_, _, _, _, rfl⟩

/-- Ports change only by control messages. -/
structure PortsTell (s u : State) : Prop where
  port : ∀ j, CtlSent (s.port j) (u.port j)

theorem PortsTell.of_ports {s u : State} (h : u.fab.ports = s.fab.ports := by rfl) : PortsTell s u := ⟨fun j => by
  rw [State.port, State.port, h]
  exact .refl _⟩

theorem PortsTell.trans {s t u : State} (h : PortsTell s t) (k : PortsTell t u) : PortsTell s u :=
  ⟨fun j => (h.port j).trans (k.port j)⟩

theorem PortsTell.ite {s t u : State} (c : Prop) [Decidable c] (ht : PortsTell s t) (hu : PortsTell s u) :
    PortsTell s (if c then t else u) := by
  split <;> assumption

theorem PortsTell.foldl {α : Type} {g : State → α → State} (hg : ∀ t e, PortsTell t (g t e)) (l : List α) (s : State) :
    PortsTell s (l.foldl g s) := by
  induction l generalizing s with
  | nil => exact .of_ports
  | cons e l ih => exact (hg s e).trans (ih (g s e))

theorem portsTell_setPort {s : State} {k : Nat} {x : Port} (own : CtlSent (s.port k) x) : PortsTell s (s.setPort k x) := by
  refine ⟨fun j => ?_⟩
  by_cases same : j = k
  · rw [same, port_setPort]; exact own
  · rw [port_setPort_ne _ _ _ _ same]; exact .refl _

theorem portsTell_pumpOne (s : State) (k : Nat) : PortsTell s (pumpOne s k) := by
  by_cases up : (s.port k).st = .up
  case neg => rw [pumpOne_of_idle (.inl up)]; exact .of_ports
  by_cases room : (s.port k).replay.length < 3072
  case neg => rw [pumpOne_of_idle (.inr (.inl (Nat.not_lt.mp room)))]; exact .of_ports
  cases queued : (s.port k).cq with
  | cons m rest =>
    rw [pumpOne_of_ctl up room queued]
    exact PortsTell.trans (portsTell_setPort ⟨fun down => absurd up down, fun _ => ⟨_, _, _, _, rfl⟩⟩) .of_ports
  | nil =>
    cases next : (s.port k).nextB with
    | none => rw [pumpOne_of_idle (.inr (.inr ⟨queued, next⟩))]; exact .of_ports
    | some e =>
      obtain ⟨_, _, forwarded, -⟩ := flitForwarded_eq { s.setPort k ((s.port k).packetFlitSent e) with
        sent := s.sent ++ (s.port k).packetFlitOut k e } e.1
      rw [pumpOne_of_packet up room queued next, forwarded]
      refine PortsTell.trans (portsTell_setPort ⟨fun down => absurd up down, fun empty => ?_⟩) .of_ports
      rw [Port.nextB, empty] at next
      cases next

theorem portsTell_pump (s : State) (k : Nat) : PortsTell s (pump s k) := .foldl (fun t _ => portsTell_pumpOne t k) _ s

theorem portsTell_sendCtl (s : State) (k : Nat) (m : CtlMsg) : PortsTell s (sendCtl s k m) := by
  rw [sendCtl]
  split
  next up =>
    exact PortsTell.trans (portsTell_setPort ⟨fun down => absurd (beq_iff_eq.mp up) down, fun _ => ⟨_, _, _, _, rfl⟩⟩)
      (portsTell_pump ..)
  next => exact .of_ports

theorem portsTell_flood (s : State) (from_ : Option Nat) (m : CtlMsg) : PortsTell s (flood s from_ m) :=
  .foldl (fun _ _ => .ite _ .of_ports (portsTell_sendCtl ..)) _ s

/-! ### What a change of a port's state does to the domain (R200, R381) -/

theorem ports_reelect (s : State) : (reelect s).fab.ports = s.fab.ports := by
  rcases reelect_cases s with eq | ⟨-, eq⟩ | ⟨m, b, -, eq | ⟨-, eq⟩⟩
  all_goals rw [eq] <;> rfl

theorem portsTell_firstSeen (s : State) (k : Nat × Nat × Nat) : PortsTell s (firstSeen s k).2 := by
  obtain ⟨_, eq⟩ := firstSeen_eq s k
  rw [eq]
  exact .of_ports

theorem portsTell_announce (s : State) : PortsTell s (announce s) :=
  PortsTell.trans .of_ports ((portsTell_firstSeen ..).trans (portsTell_flood ..))

/-- A parent is chosen, or left as it is. -/
theorem chooseParent_told (s : State) : Told s (chooseParent s) ∧ (chooseParent s).fab.ports = s.fab.ports := by
  rw [chooseParent]
  split
  · exact ⟨PortsSend.told (.refl s), rfl⟩
  · exact ⟨told_tick, rfl⟩

theorem portsTell_portDomain (s : State) (k : Nat) : PortsTell s (portDomain s k) := by
  refine .ite _ .of_ports (.ite _ ?up ?gone)
  case up => exact PortsTell.trans (.ite _ (portsTell_announce s) .of_ports) (.of_ports (ports_reelect _))
  case gone => exact .of_ports ((ports_reelect _).trans (chooseParent_told _).2)

theorem portDomain_told (s : State) (k : Nat) : Told s (portDomain s k) := by
  refine .ite _ (PortsSend.told (.refl s)) (.ite _ ?up ?gone)
  case up => exact Told.trans (.ite _ (announce_told s) (PortsSend.told (.refl s))) (reelect_told _)
  case gone => exact Told.trans told_tick ((chooseParent_told _).1.trans (reelect_told _))

/-! ### What a change of a port's state leaves -/

theorem PortFrame.refl (s : State) (k : Nat) : PortFrame s s k := ⟨.refl s, fun _ _ => rfl, rfl, rfl, rfl, rfl, rfl, rfl⟩

theorem PortFrame.trans {s t u : State} {k : Nat} (h : PortFrame s t k) (j : PortFrame t u k) : PortFrame s u k := by
  obtain ⟨units, others, cfg, slots, rtl, rtg, cwin, reqs⟩ := h
  obtain ⟨units', others', cfg', slots', rtl', rtg', cwin', reqs'⟩ := j
  exact ⟨units.trans units', fun n other => (others' n other).trans (others n other), cfg'.trans cfg, slots'.trans slots,
    rtl'.trans rtl, rtg'.trans rtg, cwin'.trans cwin, reqs'.trans reqs⟩

theorem PortFrame.ite {s t u : State} {k : Nat} (c : Prop) [Decidable c] (ht : PortFrame s t k) (hu : PortFrame s u k) :
    PortFrame s (if c then t else u) k := by
  split <;> assumption

theorem portFrame_setPort (s : State) (k : Nat) (x : Port) : PortFrame s (s.setPort k x) k :=
  ⟨sameUnits_fabric .., fun j other => by rw [port_setPort_ne _ _ _ _ other], rfl, rfl, rfl, rfl, rfl, rfl⟩

/-- Where the switch is as it was, so is all that a frame names, beside the units. -/
theorem PortFrame.of_fab {s u : State} {k : Nat} (units : SameUnits s u) (same : u.fab = s.fab) : PortFrame s u k := by
  refine ⟨units, fun j _ => ?_, ?_, ?_, ?_, ?_, ?_, ?_⟩
  · rw [State.port, State.port, same]
  all_goals rw [same]

theorem Logged.fab {s u : State} (h : Logged s u) : u.fab = s.fab := by obtain ⟨_, _, _, _, rfl⟩ := h; rfl

theorem Logged.bring {s u : State} (h : Logged s u) : u.bring = s.bring := by obtain ⟨_, _, _, _, rfl⟩ := h; rfl

theorem Logged.port {s u : State} (h : Logged s u) (j : Nat) : u.port j = s.port j := by rw [State.port, h.fab, State.port]

theorem Logged.portFrame {s u : State} (h : Logged s u) (k : Nat) : PortFrame s u k := .of_fab h.units h.fab

theorem Told.portFrame {s u : State} (h : Told s u) (k : Nat) : PortFrame s u k := by
  obtain ⟨_, -, -, _, _, _, _, _, rfl, states⟩ := h
  exact ⟨⟨rfl, rfl, rfl, rfl, rfl, rfl, rfl, rfl, rfl, rfl, rfl⟩, fun j _ => states j, rfl, rfl, rfl, rfl, rfl, rfl⟩

theorem sameUnits_agtUpdate (s : State) (f : Agt → Agt) : SameUnits s (agtUpdate s f) :=
  ⟨rfl, rfl, rfl, rfl, rfl, rfl, rfl, rfl, rfl, rfl, rfl⟩

/-! ### A port takes a state (R364, R394) -/

/-- Nothing differs but receive pools and what was sent. -/
def OnlyPools (s u : State) : Prop := ∃ pools sent, u = { s with fab := { s.fab with pools := pools }, sent := sent }

theorem OnlyPools.foldl {α : Type} {g : State → α → State} (hg : ∀ t e, OnlyPools t (g t e)) (l : List α) (s : State) :
    OnlyPools s (l.foldl g s) := by
  induction l generalizing s with
  | nil => exact ⟨_, _, rfl⟩
  | cons e l ih =>
    obtain ⟨_, _, first⟩ := hg s e
    obtain ⟨pools, sent, rest⟩ := ih (g s e)
    exact ⟨pools, sent, by rw [List.foldl_cons, rest, first]⟩

theorem OnlyPools.withPools {s u : State} (h : OnlyPools s u) (pools : Tab Nat) :
    OnlyPools s { u with fab := { u.fab with pools := pools } } := by
  obtain ⟨_, _, rfl⟩ := h
  exact ⟨_, _, rfl⟩

/-- R394: the flits of one packet that was queued leave their buffer. -/
def bufferFreed (s : State) (e : Packet × Nat) : State :=
  match e.1.back with
  | some b => creditBack s b.1 b.2.1 (packetFlits e.1 - e.2) b.2.2
  | none => s

/-- R394: flits that are discarded leave their buffers. -/
theorem dropQueued_onlyPools (s : State) (k : Nat) : OnlyPools s (dropQueued s k) := by
  have freed (t : State) (e : Packet × Nat) : OnlyPools t (bufferFreed t e) := by
    rw [bufferFreed]
    split
    next b _ =>
      obtain ⟨pools, credit, eq⟩ := creditBack_eq t b.1 b.2.1 (packetFlits e.1 - e.2) b.2.2
      exact ⟨pools, _, eq⟩
    next => exact ⟨_, _, rfl⟩
  exact (OnlyPools.foldl freed (s.port k).bq s).withPools _

theorem port_dropQueued (s : State) (k j : Nat) : (dropQueued s k).port j = s.port j := by
  obtain ⟨_, _, eq⟩ := dropQueued_onlyPools s k
  rw [eq, port_withPools]

/-- R364: a change of state is logged and told to the host. -/
theorem portChanged_logged (s : State) (k : Nat) : Logged (agtUpdate s (fun a => a)) (portChanged s k) :=
  (logAdd_logged ..).trans (raiseIrq_logged ..)

/-- The state in which port `k` has dropped what it had queued and has taken a state with a cause, which is logged. -/
def portMoved (s : State) (k : Nat) (st : PortSt) (cause : Nat) : State :=
  portChanged ((dropQueued s k).setPort k { (s.port k).drop with st := st, cause := cause }) k

section
variable (s : State) (k : Nat) (st : PortSt) (cause : Nat)

theorem port_portMoved : (portMoved s k st cause).port k = { (s.port k).drop with st := st, cause := cause } :=
  ((portChanged_logged ..).port k).trans (port_setPort ..)

theorem portFrame_portMoved : PortFrame s (portMoved s k st cause) k := by
  have dropped : PortFrame s (dropQueued s k) k := by
    obtain ⟨_, _, eq⟩ := dropQueued_onlyPools s k
    rw [eq]
    exact ⟨sameUnits_fabric .., fun _ _ => rfl, rfl, rfl, rfl, rfl, rfl, rfl⟩
  exact (dropped.trans (portFrame_setPort ..)).trans
    ((PortFrame.of_fab (sameUnits_agtUpdate ..) rfl).trans ((portChanged_logged ..).portFrame k))

/-- R358: a feed that is switched changes its port's record of it. -/
theorem port_feedSet (on : Bool) : ∃ laser, (feedSet s k on).port k = { s.port k with laser := laser } := by
  simp only [feedSet]
  split
  · exact ⟨_, rfl⟩
  · exact ⟨on, port_setPort ..⟩

theorem portFrame_feedSet (on : Bool) : PortFrame s (feedSet s k on) k := by
  simp only [feedSet]
  exact .ite _ (.refl s k) ((portFrame_setPort ..).trans (.of_fab (sameUnits_fabric ..) rfl))

/-- So moved, with the feed disabled where it failed (R572). -/
def portSettled (s : State) (k : Nat) (st : PortSt) (cause : Nat) : State :=
  if st = .down ∧ cause = 3 then feedSet (portMoved s k st cause) k false else portMoved s k st cause

theorem portFrame_portSettled : PortFrame s (portSettled s k st cause) k :=
  .ite _ ((portFrame_portMoved ..).trans (portFrame_feedSet ..)) (portFrame_portMoved ..)

theorem port_portSettled : ∃ laser,
    (portSettled s k st cause).port k = { (s.port k).drop with st := st, cause := cause, laser := laser } := by
  rw [portSettled]
  split
  · obtain ⟨laser, eq⟩ := port_feedSet (portMoved s k st cause) k false
    exact ⟨laser, by rw [eq, port_portMoved]⟩
  · exact ⟨_, port_portMoved ..⟩

theorem portSet_eq : portSet s k st cause = if (s.port k).st = .up ∨ st = .up
    then portDomain (portSettled s k st cause) k else portSettled s k st cause := by
  simp only [portSet, port_dropQueued, portSettled, portMoved]

theorem portFrame_portSet : PortFrame s (portSet s k st cause) k := by
  rw [portSet_eq]
  exact .ite _ ((portFrame_portSettled ..).trans ((portDomain_told ..).portFrame k)) (portFrame_portSettled ..)

/-- R394: the port has dropped what it had queued; its feed may have changed, and once it is Up it may tell the domain. -/
theorem port_portSet : ∃ laser,
    CtlSent { (s.port k).drop with st := st, cause := cause, laser := laser } ((portSet s k st cause).port k) := by
  obtain ⟨laser, own⟩ := port_portSettled s k st cause
  refine ⟨laser, ?_⟩
  rw [portSet_eq, ← own]
  split
  · exact (portsTell_portDomain _ k).port k
  · exact .refl _

/-- R394: a port that takes a state other than Up. -/
theorem port_portSet_of_notUp (notUp : st ≠ .up) : ∃ laser,
    (portSet s k st cause).port k = { (s.port k).drop with st := st, cause := cause, laser := laser } := by
  obtain ⟨laser, quiet, -⟩ := port_portSet s k st cause
  exact ⟨laser, quiet notUp⟩

/-- A port that comes Up has at most told the domain so. -/
theorem port_portSet_up : ∃ laser cq replay txSeq ctr, (portSet s k .up cause).port k = { (s.port k).drop with
    st := .up, cause := cause, laser := laser, cq := cq, replay := replay, txSeq := txSeq, ctr := ctr } := by
  obtain ⟨laser, -, empty⟩ := port_portSet s k .up cause
  obtain ⟨_, _, _, _, eq⟩ := empty rfl
  exact ⟨laser, _, _, _, _, eq⟩

end

/-! ### Training (R361 to R363, R372) -/

/-- R391, R395: a port in training counts anew. -/
def Port.cleared (x : Port) : Port := { x with
  marginal := false, marginLogged := false, firstWin := false, ctr := tabSet [] 0x110 (ctrGet x.ctr 0x110) }

theorem portFrame_portTrain (s : State) (k : Nat) : PortFrame s (portTrain s k) k :=
  (portFrame_feedSet ..).trans ((portFrame_setPort ..).trans (portFrame_portSet ..))

theorem port_portTrain (s : State) (k : Nat) : ∃ laser, (portTrain s k).port k =
    { (s.port k).cleared.drop with st := .training, cause := 0, laser := laser } := by
  obtain ⟨_, fed⟩ := port_feedSet s k true
  obtain ⟨laser, eq⟩ := port_portSet_of_notUp
    ((feedSet s k true).setPort k ((feedSet s k true).port k).cleared) k .training 0 (by decide)
  refine ⟨laser, Eq.trans eq ?_⟩
  rw [port_setPort, fed]
  rfl

/-- R361: a port whose enable bit was clear, or that is Disabled, trains, or is Down where ports may not train. -/
theorem portEnable_of_off {s : State} {k : Nat} (present : portPresent s k = true)
    (off : (s.port k).en = false ∨ (s.port k).st = .disabled) : portEnable s k =
    if portsRun s then portTrain (s.setPort k { s.port k with en := true }) k
    else portSet (s.setPort k { s.port k with en := true }) k .down 8 := by
  have starts : ((s.port k).en && (s.port k).st != .disabled) = false := by
    rcases off with en | st
    · rw [en, Bool.false_and]
    · rw [st]; exact Bool.and_false _
  simp only [portEnable, present, port_setPort, starts, Bool.not_true, Bool.false_eq_true, if_false]
  rfl

/-- R393: a port that is not Disabled is Disabled at once. -/
theorem portDisable_of_on {s : State} {k : Nat} (present : portPresent s k = true) (on : (s.port k).st ≠ .disabled) :
    portDisable s k = portSet (s.setPort k { s.port k with en := false }) k .disabled 8 := by
  simp only [portDisable, present, port_setPort, if_neg on, Bool.not_true, Bool.false_eq_true, if_false]

/-- The state in which port `k` has exchanged the flits of training and knows its neighbour. -/
def neighbourMet (s : State) (k nd np : Nat) : State :=
  (trainingFlits s k).setPort k { (trainingFlits s k).port k with nbrDev := nd, nbrPort := np }

/-- R372: a port with the round trip measured and the credits that its neighbour's receiver gave. -/
def Port.connected (x : Port) (rt pipe : Nat) : Port := { x with
  lengthM := ((rt - pipe) + 1280) / 2560
  floor := (upTo 6).map (fun v => (v, 32)), shared := 2208, txSeq := 0, rxSeq := 4095, firstWin := true }

theorem portFrame_neighbourMet (s : State) (k nd np : Nat) : PortFrame s (neighbourMet s k nd np) k := by
  have told : PortsSend s (trainingFlits s k) :=
    PortsSend.trans (t := { s with sent := _, freeN := s.freeN + 16 }) ⟨_, _, _, _, _, rfl, fun _ => rfl⟩ (portsSend_portCtr ..)
  exact (told.told.portFrame k).trans (portFrame_setPort ..)

/-- R362, R363: training ends Up, or Down where the neighbour is wrong. -/
theorem portUpWith_of_training {s : State} {k : Nat} (training : (s.port k).st = .training) (run : portsRun s = true)
    (nd np rt pipe : Nat) : portUpWith s k nd np rt pipe =
    if nd = devId s then portSet (neighbourMet s k nd np) k .down 4
    else if s.fab.cfg.getLsbD 28 && expectNbr s k != some (nd, np) then portSet (neighbourMet s k nd np) k .down 5
    else portSet ((neighbourMet s k nd np).setPort k (((neighbourMet s k nd np).port k).connected rt pipe)) k .up 0 := by
  have trains : ¬ ((s.port k).st ≠ .training ∨ !portsRun s) := by simp [training, run]
  rw [portUpWith, if_neg trains]
  rfl

end Sys2Proof.Machine

namespace Sys2Proof.Machine

/-! ### The ends of training and of service (R362 to R364, R394) -/

section
variable {k : Nat} {s : State}

/-- R363: a wrong neighbour. -/
theorem portUpWith_of_wrong {nd np : Nat} (training : (s.port k).st = .training) (run : portsRun s = true)
    (wrong : nd = devId s ∨ (s.fab.cfg.getLsbD 28 = true ∧ expectNbr s k ≠ some (nd, np))) (rt pipe : Nat) :
    portUpWith s k nd np rt pipe = portSet (neighbourMet s k nd np) k .down (if nd = devId s then 4 else 5) := by
  rw [portUpWith_of_training training run]
  by_cases self : nd = devId s
  · rw [if_pos self, if_pos self]
  · obtain ⟨checks, other⟩ := wrong.resolve_left self
    rw [if_neg self, if_neg self, if_pos (by simp [checks, other])]

/-- R362: the right neighbour. -/
theorem portUpWith_of_right {nd np : Nat} (training : (s.port k).st = .training) (run : portsRun s = true)
    (other : nd ≠ devId s) (right : s.fab.cfg.getLsbD 28 = true → expectNbr s k = some (nd, np)) (rt pipe : Nat) :
    portUpWith s k nd np rt pipe =
      portSet ((neighbourMet s k nd np).setPort k (((neighbourMet s k nd np).port k).connected rt pipe)) k .up 0 := by
  have unchecked : ¬ (s.fab.cfg.getLsbD 28 && expectNbr s k != some (nd, np)) = true := by
    rw [Bool.and_eq_true, bne_iff_ne, not_and, not_not]
    exact right
  rw [portUpWith_of_training training run, if_neg other, if_neg unchecked]

theorem port_neighbourMet (nd np : Nat) :
    (neighbourMet s k nd np).port k = { (trainingFlits s k).port k with nbrDev := nd, nbrPort := np } := port_setPort ..

end

/-! ### Windows of the error monitor (R391, R469) -/

/-- A port after a window of its error monitor. -/
def Port.windowed (x : Port) (w : PortWindow) : Port := { x with
  ctr := forUp 4 (fun l t => ctrAdd t (0x128 + 8 * l) (w.syms.getD l 0))
    (ctrAdd (ctrAdd (tabSet x.ctr 0x110 (BitVec.ofNat 64 w.bits)) 0x118 w.codewords) 0x120 w.uncorr)
  firstWin := false
  marginal := x.marginal || decide (17000000 < w.bits)
  marginLogged := x.marginLogged || decide (17000000 < w.bits) }

/-- R391: BER_LAST is the window's count. -/
theorem ctrGet_windowed (x : Port) (w : PortWindow) : ctrGet (x.windowed w).ctr 0x110 = BitVec.ofNat 64 w.bits := by
  have lanes (n : Nat) (c : Ctrs) :
      ctrGet (forUp n (fun l t => ctrAdd t (0x128 + 8 * l) (w.syms.getD l 0)) c) 0x110 = ctrGet c 0x110 := by
    induction n with
    | zero => rfl
    | succ n ih => rw [forUp_succ, ctrGet_ctrAdd_ne (by omega), ih]
  rw [Port.windowed, lanes, ctrGet_ctrAdd_ne (by decide), ctrGet_ctrAdd_ne (by decide)]
  exact tabGet_tabSet_same ..

/-- The state in which a window is counted, and logged where it is the first that is marginal. -/
def windowLogged (s : State) (k : Nat) (w : PortWindow) : State :=
  if decide (17000000 < w.bits) && !(s.port k).marginLogged then
    logAdd (s.setPort k ((s.port k).windowed w)) { code := 0x51, inst := k, src := 5, sev := 1, args := [w.bits] }
  else s.setPort k ((s.port k).windowed w)

/-- R469: so counted, and in a power-on sequence the port is ready after a sound first window. -/
def windowReady (s : State) (k : Nat) (w : PortWindow) : State :=
  let t := windowLogged s k w
  if t.bring.run && (s.port k).firstWin && decide (w.bits < 17000000) then
    { t with bring := { t.bring with ports := setDel t.bring.ports k } } else t

section
variable (s : State) (k : Nat) (w : PortWindow)

theorem windowLogged_logged : Logged (s.setPort k ((s.port k).windowed w)) (windowLogged s k w) := by
  rw [windowLogged]
  split
  · exact logAdd_logged ..
  · exact ⟨_, _, _, _, rfl⟩

theorem windowReady_eq : windowReady s k w = { windowLogged s k w with bring := { s.bring with ports :=
    (if s.bring.run = true ∧ (s.port k).firstWin = true ∧ w.bits < 17000000 then setDel s.bring.ports k
      else s.bring.ports) } } := by
  have bring : (windowLogged s k w).bring = s.bring := (windowLogged_logged s k w).bring
  simp only [windowReady, bring, Bool.and_eq_true, decide_eq_true_iff, and_assoc]
  split
  · rfl
  · rw [← bring]

theorem port_windowReady (j : Nat) : (windowReady s k w).port j = (s.setPort k ((s.port k).windowed w)).port j := by
  rw [windowReady_eq]
  exact (windowLogged_logged s k w).port j

theorem portFrame_windowReady : PortFrame s (windowReady s k w) k := by
  rw [windowReady_eq]
  exact (portFrame_setPort ..).trans (((windowLogged_logged s k w).portFrame k).trans
    (.of_fab ⟨rfl, rfl, rfl, rfl, rfl, rfl, rfl, rfl, rfl, rfl, rfl⟩ rfl))

end

/-- R364, R469: a window above 10⁻⁴, or a ready window that is marginal, takes the port Down. -/
theorem portWindow_of_up {s : State} {k : Nat} (up : (s.port k).st = .up) (w : PortWindow) : portWindow s k w =
    if 85000000 < w.bits ∨ (s.bring.run = true ∧ (s.port k).firstWin = true ∧ 17000000 ≤ w.bits)
    then portSet (windowReady s k w) k .down 7 else windowReady s k w := by
  have run : (windowReady s k w).bring.run = s.bring.run := by rw [windowReady_eq]
  have unfolded : portWindow s k w =
      if decide (85000000 < w.bits) || ((windowReady s k w).bring.run && (s.port k).firstWin && decide (17000000 ≤ w.bits))
      then portSet (windowReady s k w) k .down 7 else windowReady s k w := if_neg (not_not_intro up)
  simp only [unfolded, run, Bool.or_eq_true, Bool.and_eq_true, decide_eq_true_iff, and_assoc]

/-! ### Registers of the switch (R392, R397) -/

theorem putBits_of_clear {v hi lo : Nat} (clear : bits v hi lo = 0) : putBits v hi lo 0 = v := by
  simp [putBits, clear]

/-- R392: a legal value of FAB.CFG is taken while no port is in use. -/
theorem fabCfgWrite_of_legal {s : State} {v : W64}
    (idle : ∀ k, k < 64 → (s.port k).st = .disabled ∨ (s.port k).st = .down) (least : 1 ≤ bits v.toNat 45 35)
    (most : bits v.toNat 45 35 ≤ 1024) (pg : bits v.toNat 34 29 ∈ ([0, 2, 18, 34] : List Nat))
    (limit : bits v.toNat 11 4 ≠ 0) (spare : bits v.toNat 3 1 = 0) :
    (fabCfgWrite s v.toNat).fab = { s.fab with cfg := v } ∧ SameUnits s (fabCfgWrite s v.toNat) := by
  have free : ((upTo 64).all fun k => (s.port k).st == .disabled || (s.port k).st == .down) = true :=
    List.all_eq_true.mpr fun k below => by simpa using idle k (List.mem_range.mp below)
  have taken : fabCfgWrite s v.toNat = (let t := { s with fab := { s.fab with cfg := v } }
      if devId t = devId s then t else agtUpdate t (fun a => a)) := by
    have legal : [0, 2, 18, 34].contains (bits v.toNat 34 29) = true := List.contains_iff_mem.mpr pg
    simp only [fabCfgWrite, free, decide_eq_true least, decide_eq_true most, legal, bne_iff_ne.mpr limit, Bool.and_self,
      Bool.not_true, Bool.false_eq_true, if_false, if_pos spare, putBits_of_clear spare, BitVec.ofNat_toNat, BitVec.setWidth_eq]
  rw [taken]
  dsimp only
  split
  · exact ⟨rfl, sameUnits_fabric ..⟩
  · exact ⟨rfl, (sameUnits_fabric ..).trans (sameUnits_agtUpdate ..)⟩

theorem bits_of_testBit_false {v i : Nat} (clear : v.testBit i = false) : bits v i i = 0 := by
  rw [Nat.testBit_eq_decide_div_mod_eq, decide_eq_false_iff_not] at clear
  rw [bits, Nat.shiftRight_eq_div_pow, Nat.add_sub_cancel_left, pow_one]
  omega

theorem lt_of_bits_eq_zero {v : W64} {lo : Nat} (below : lo ≤ 63) (clear : bits v.toNat 63 lo = 0) : v.toNat < 2 ^ lo := by
  have fits : v.toNat / 2 ^ lo < 2 ^ (64 - lo) :=
    Nat.div_lt_of_lt_mul (by rw [← pow_add, Nat.add_sub_cancel' (by omega)]; exact v.isLt)
  rw [bits, Nat.shiftRight_eq_div_pow, Nat.mod_eq_of_lt fits, Nat.div_eq_zero_iff] at clear
  exact clear.resolve_left (by positivity)

/-- R397: a legal member table entry waits for the next tick. -/
theorem memberWrite_of_legal {s : State} {i : Nat} {self : Bool} {v : W64} (free : slotBusy s i = false)
    (entry : self = false → bits v.toNat 63 45 ≤ 262144 ∧ v.getLsbD 44 = false ∧ bits v.toNat 5 0 = 0)
    (own : self = true → bits v.toNat 63 18 = 0) : memberWrite s i self v.toNat = { s with ce := { s.ce with
      pend := tabSet s.ce.pend (0x100 + 16 * i + (if self then 8 else 0)) v } } := by
  cases self with
  | false =>
    obtain ⟨device, bit44, low⟩ := entry rfl
    have bit44' : v.toNat.testBit 44 = false := bit44
    simp only [memberWrite, free, Bool.not_false, Bool.true_and, Bool.false_or, decide_eq_true_iff,
      if_neg (Nat.not_lt.mpr device), Bool.false_eq_true, if_false, bit44', low, bne_self_eq_false, Bool.or_self,
      putBits_of_clear (bits_of_testBit_false bit44'), putBits_of_clear low, BitVec.ofNat_toNat, BitVec.setWidth_eq]
  | true =>
    have small : v.toNat < 2 ^ 18 := lt_of_bits_eq_zero (by decide) (own rfl)
    have spare : bits v.toNat 31 19 = 0 := by
      rw [bits, Nat.shiftRight_eq_div_pow, Nat.div_eq_of_lt (by omega), Nat.zero_mod]
    simp only [memberWrite, free, Bool.not_true, Bool.false_and, Bool.or_self, Bool.false_eq_true, if_false, if_true, spare,
      bne_self_eq_false, bits_eq_self small, BitVec.ofNat_toNat, BitVec.setWidth_eq]

end Sys2Proof.Machine

namespace Sys2Proof.Machine

/-! ### The statement about the states of ports -/

/-- Settles O44: every change of a port's state goes through `portSet`, whose port `port_portSet` gives and whose frame is
`portFrame_portSet`; windows by `portWindow_of_up`, registers by their writes. -/
theorem portsTrainAndGoDown : Obligations.PortsTrainAndGoDown := by
  unfold Obligations.PortsTrainAndGoDown
  refine ⟨?enable, ?disable, ?absent, ?up, ?wrong, ?untrained, ?fail, ?retrain, ?noRetrain, ?down, ?high, ?sound, ?commit,
    ?config, ?member⟩
  case enable =>
    intro k s serves present off
    refine ⟨_, congrArg Host.Outcome.next (pfAccess_of_served serves _), ?_⟩
    rw [portEnable_of_off present off]
    cases run : portsRun s with
    | true =>
      obtain ⟨_, own⟩ := port_portTrain (s.setPort k { s.port k with en := true }) k
      rw [port_setPort] at own
      rw [if_pos rfl, own]
      exact ⟨rfl, (portFrame_setPort ..).trans (portFrame_portTrain ..), fun _ => ⟨rfl, rfl, rfl⟩, nofun⟩
    | false =>
      obtain ⟨_, own⟩ := port_portSet_of_notUp (s.setPort k { s.port k with en := true }) k .down 8 (by decide)
      rw [port_setPort] at own
      rw [if_neg Bool.false_ne_true, own]
      exact ⟨rfl, (portFrame_setPort ..).trans (portFrame_portSet ..), nofun, fun _ => ⟨rfl, rfl⟩⟩
  case disable =>
    intro k s serves present on
    obtain ⟨_, own⟩ := port_portSet_of_notUp (s.setPort k { s.port k with en := false }) k .disabled 8 (by decide)
    rw [port_setPort] at own
    refine ⟨_, congrArg Host.Outcome.next (pfAccess_of_served serves _), ?_⟩
    rw [portDisable_of_on present on, own]
    exact ⟨rfl, rfl, rfl, rfl, rfl, (portFrame_setPort ..).trans (portFrame_portSet ..)⟩
  case absent =>
    intro k s serves absent
    simp only [exec, execPortEnable, execPortDisable, execSchedCommit, pfAccess_of_served serves, portEnable, portDisable,
      portCommit, absent, Bool.not_false, Bool.false_eq_true, if_true, if_false, portPage, and_self]
  case up =>
    intro k nd np rt pipe s training run other right
    refine ⟨_, congrArg Host.Outcome.next (portUpWith_of_right training run other right rt pipe), ?_⟩
    obtain ⟨_, _, _, _, _, own⟩ := port_portSet_up
      ((neighbourMet s k nd np).setPort k (((neighbourMet s k nd np).port k).connected rt pipe)) k 0
    rw [port_setPort] at own
    rw [own]
    exact ⟨rfl, congrArg Port.nbrDev (port_neighbourMet ..), congrArg Port.nbrPort (port_neighbourMet ..), rfl, rfl,
      fun v below => tabGet_upTo_map (fun _ => 32) 0 below, rfl,
      (portFrame_neighbourMet ..).trans ((portFrame_setPort ..).trans (portFrame_portSet ..))⟩
  case wrong =>
    intro k nd np rt pipe s training run wrong
    refine ⟨_, congrArg Host.Outcome.next (portUpWith_of_wrong training run wrong rt pipe), ?_⟩
    obtain ⟨_, own⟩ := port_portSet_of_notUp (neighbourMet s k nd np) k .down (if nd.val = devId s then 4 else 5) (by decide)
    rw [own]
    exact ⟨rfl, rfl, (portFrame_neighbourMet ..).trans (portFrame_portSet ..)⟩
  case untrained =>
    intro k nd np rt pipe s idle
    have stays : (s.port k).st ≠ .training ∨ !portsRun s := idle.imp id fun run => by rw [run]; rfl
    exact congrArg Host.Outcome.next (if_pos stays)
  case fail =>
    intro k cause s training
    obtain ⟨_, own⟩ := port_portSet_of_notUp s k .down (if [1, 2, 3].contains cause then cause else 9) (by decide)
    refine ⟨_, congrArg Host.Outcome.next (if_pos training), ?_⟩
    rw [own]
    exact ⟨rfl, by simp only [List.contains_iff_mem], portFrame_portSet ..⟩
  case retrain =>
    intro k s down auto en run
    obtain ⟨_, own⟩ := port_portTrain s k
    refine ⟨_, congrArg Host.Outcome.next (if_pos ⟨down, auto, en, run⟩), ?_⟩
    rw [own]
    exact ⟨rfl, portFrame_portTrain ..⟩
  case noRetrain =>
    intro k s off
    refine congrArg Host.Outcome.next (if_neg ?_)
    rintro ⟨-, auto, -, run⟩
    rcases off with off | off
    · rw [auto] at off; cases off
    · rw [run] at off; cases off
  case down =>
    intro k cause s serves
    have goes : ((s.port k).st = .up ∧ [1, 3, 6, 7].contains cause) ∨ ((s.port k).st = .training ∧ cause = 3) :=
      serves.imp (And.imp_right List.contains_iff_mem.mpr) id
    obtain ⟨_, own⟩ := port_portSet_of_notUp s k .down cause (by decide)
    refine ⟨_, congrArg Host.Outcome.next (if_pos goes), ?_⟩
    rw [own]
    exact ⟨rfl, rfl, rfl, rfl, portFrame_portSet ..⟩
  case high =>
    intro k w s up errors
    obtain ⟨_, own⟩ := port_portSet_of_notUp (windowReady s k w) k .down 7 (by decide)
    refine ⟨_, rfl, ?_⟩
    rw [portWindow_of_up up, if_pos errors, own]
    exact ⟨rfl, rfl, (portFrame_windowReady ..).trans (portFrame_portSet ..)⟩
  case sound =>
    intro k w s up few ready
    have small (run : s.bring.run = true) (first : (s.port k).firstWin = true) : w.bits < 17000000 := by
      simpa [run, first] using ready
    have stays : ¬ (85000000 < w.bits ∨ (s.bring.run = true ∧ (s.port k).firstWin = true ∧ 17000000 ≤ w.bits)) := by
      rintro (high | ⟨run, first, high⟩)
      · exact absurd few (Nat.not_le.mpr high)
      · exact absurd (small run first) (Nat.not_lt.mpr high)
    refine ⟨_, rfl, ?_⟩
    rw [portWindow_of_up up, if_neg stays, port_windowReady, port_setPort]
    refine ⟨up, rfl, rfl, ctrGet_windowed .., fun j other => ?others, ?ports, portFrame_windowReady ..⟩
    case others => rw [port_windowReady, port_setPort_ne _ _ _ _ other]
    case ports =>
      rw [windowReady_eq]
      refine if_congr ⟨fun ⟨run, first, _⟩ => ⟨run, first⟩, fun ⟨run, first⟩ => ⟨run, first, small run first⟩⟩ rfl rfl
  case commit =>
    intro k s serves present
    exact congrArg Host.Outcome.next ((pfAccess_of_served serves _).trans (if_pos present))
  case config =>
    intro v s serves idle least most pg limit spare
    exact ⟨_, congrArg Host.Outcome.next (pfAccess_of_served serves _), fabCfgWrite_of_legal idle least most pg limit spare⟩
  case member =>
    intro i self v s serves free entry own
    exact congrArg Host.Outcome.next ((pfAccess_of_served serves _).trans (memberWrite_of_legal free entry own))

end Sys2Proof.Machine

namespace Sys2Proof.Machine

/-! ### The contributions of a collective (R400, R420) -/

/-- A collective has its contributions from the start, one to each destination, but for a gather that has yet to read its
shard: that has none (R420). -/
theorem dst_collPairs (r : Rec) (c : Coll) (version : Nat) :
    (collPairs r c version).sends.map (fun x => x.dst) = if c.unread = true then [] else c.dests r := by
  have sends : (collPairs r c version).sends = collSends r c version := rfl
  rw [sends, collSends]
  split
  case isTrue => rfl
  case isFalse => exact List.map_map.trans (List.map_id' _)

/-! ### A gather whose shard is being written (R420) -/

/-- Record 1 of queue 0: a PARAM_GATHER into 0x10000 of 32 MXFP8 elements whose shard header stands at address 0. -/
def gatherRec : Rec :=
  ⟨1, BitVec.ofNat 512 (0x10 + 7 * 2 ^ 80 + 8 * 2 ^ 84 + 0x10000 * 2 ^ 176 + 32 * 2 ^ 224), .fetched, 0⟩

/-- The tables of a context that maps the first GiB one to one, readable and writable: (address, entry). -/
def gatherTables : List (Nat × Nat) := [(0x40000000, 0x40001001), (0x40001000, 0xF), (0x40001008, 0x4000000F)]

/-- The update unit is in the write phase of record 0, an UPDATE of the shard at address 0; record 1 gathers that shard. -/
def writingShard : State :=
  { State.reset with
    pst := .active
    agt := { State.reset.agt with diesActive := 15, stacksActive := BitVec.allOnes 32 }
    mem := gatherTables.foldl (fun m (e : Nat × Nat) => cellsSet m e.1 (toLE 8 e.2)) State.reset.mem
    queues := [(0, { st := .running, recs := [⟨0, 0x11, .started, 0⟩, gatherRec] })]
    upd := { State.reset.upd with run := some { ref := ⟨0, 0⟩, hdr := ⟨0, 0, 0, 0, 0, 0, 0⟩, map := [(0, 0)] } } }
  |>.setCtx 0 { root := 0x8000000040000000 }

/-- The gather's collective at member 0 of two, with its shard yet to be read. -/
def waitingGather : Coll := {
  ref := ⟨0, 1⟩, part := 0, group := 0, seq := 0, epoch := 0, op := 7, sched := 0, self := 0, devs := [0, 1], shares := [32, 32]
  dst := 0x10000, dstLen := 66, elems := 64, unread := true }

/-- R420, step 1: the gather starts, and waits for the write phase before it reads its shard. -/
theorem collPlan_writingShard :
    (collPlan writingShard ⟨0, 1⟩ gatherRec [0, 1] 0 0).coll = some (collPairs gatherRec waitingGather 0) := by
  decide +kernel

/-- So it starts with no contribution, though it is to send to member 1. -/
theorem gather_starts_without_contributions : ∃ c, c.dests gatherRec = [1]
    ∧ (collPlan writingShard ⟨0, 1⟩ gatherRec [0, 1] 0 0).coll = some (collPairs gatherRec c 0)
    ∧ (collPairs gatherRec c 0).sends.map (fun x => x.dst) = [] :=
  ⟨waitingGather, rfl, collPlan_writingShard, (dst_collPairs ..).trans (if_pos rfl)⟩

/-- Refutes O27: a PARAM_GATHER whose shard the update unit is writing starts without contributions
(`gather_starts_without_contributions`); they are formed once it has read its shard. Every other collective starts with one
contribution to each destination (`dst_collPairs`). -/
theorem not_evenSharesFollowTheirRule : ¬ Obligations.EvenSharesFollowTheirRule := by
  unfold Obligations.EvenSharesFollowTheirRule
  rintro ⟨-, pairs, -⟩
  obtain ⟨c, toMember1, -, empty⟩ := gather_starts_without_contributions
  obtain ⟨all, -⟩ := pairs gatherRec c 0
  rw [empty, toMember1] at all
  cases all

end Sys2Proof.Machine

namespace Sys2Proof.Machine

/-! ### What every command keeps (R432, R463, R508) -/

/-- Every command keeps memory's form, the queue, the fuses and SVN_MIN: each arm by its command's own law. -/
theorem exec_keeps (i : Instr) (s : State) : OutKeeps s (exec i s) :=
  match i with
  | .vinApplied .. => execVinApplied_keeps .rfl
  | .vinRemoved => execVinRemoved_keeps .rfl
  | .controllerBoot .. => execControllerBoot_keeps .rfl
  | .initialClaimTimeout => execInitialClaimTimeout_keeps .rfl
  | .heartbeatTimeout .. => execHeartbeatTimeout_keeps .rfl
  | .watchdogExpiry .. => execWatchdogExpiry_keeps .rfl
  | .handover => execHandover_keeps .rfl
  | .managementWrite .. => execManagementWrite_keeps .rfl
  | .logEntry .. => execLogEntry_keeps .rfl
  | .logSuppressWindow .. => execLogSuppressWindow_keeps .rfl
  | .logPersist => execLogPersist_keeps .rfl
  | .requestUpdate .. => execRequestUpdate_keeps .rfl
  | .firmwareVerify .. => execFirmwareVerify_keeps .rfl
  | .activateFirmware .. => execActivateFirmware_keeps .rfl
  | .trialTimeout => execTrialTimeout_keeps .rfl
  | .fwCommit .. => execFwCommit_keeps .rfl
  | .svnCommit .. => execSvnCommit_keeps .rfl
  | .getState .. => execGetState_keeps .rfl
  | .setState .. => execSetState_keeps .rfl
  | .dieLinkWindow .. => execDieLinkWindow_keeps .rfl
  | .portDropped .. => execPortDropped_keeps .rfl
  | .sequenceTimeLimit => execSequenceTimeLimit_keeps .rfl
  | .ready .. => execReady_keeps .rfl
  | .omcHandover .. => execOmcHandover_keeps .rfl
  | .readReg .. => execReadReg_keeps .rfl
  | .logRead .. => execLogRead_keeps .rfl
  | .logFlashRead .. => execLogFlashRead_keeps .rfl
  | .ethCfg .. => execEthCfg_keeps .rfl
  | .ethDatagram .. => execEthDatagram_keeps .rfl
  | .getVersion .. => execGetVersion_keeps .rfl
  | .getCapabilities .. => execGetCapabilities_keeps .rfl
  | .negotiateAlgorithms .. => execNegotiateAlgorithms_keeps .rfl
  | .getDigests .. => execGetDigests_keeps .rfl
  | .getCertificate .. => execGetCertificate_keeps .rfl
  | .challenge .. => execChallenge_keeps .rfl
  | .getMeasurements .. => execGetMeasurements_keeps .rfl
  | .getSensorReading .. => execGetSensorReading_keeps .rfl
  | .mctpControl .. => execMctpControl_keeps .rfl
  | .i3cIsolate .. => execI3cIsolate_keeps .rfl
  | .i3cRejoin => execI3cRejoin_keeps .rfl
  | .lsmIsolate .. => execLsmIsolate_keeps .rfl
  | .lsmInterrupt .. => execLsmInterrupt_keeps .rfl
  | .thermistorSample .. => execThermistorSample_keeps .rfl
  | .thermalSample .. => execThermalSample_keeps .rfl
  | .coolFlowLow .. => execCoolFlowLow_keeps .rfl
  | .inputFault .. => execInputFault_keeps .rfl
  | .remoteSenseOpen => execRemoteSenseOpen_keeps .rfl
  | .stageFail .. => execStageFail_keeps .rfl
  | .railOvercurrent .. => execRailOvercurrent_keeps .rfl
  | .droopDetect .. => execDroopDetect_keeps .rfl
  | .droopPersist .. => execDroopPersist_keeps .rfl
  | .diodeMismatch .. => execDiodeMismatch_keeps .rfl
  | .fastLimiterSample .. => execFastLimiterSample_keeps .rfl
  | .refclkBLoss => execRefclkBLoss_keeps .rfl
  | .refclkBReturn => execRefclkBReturn_keeps .rfl
  | .refclkALoss => execRefclkALoss_keeps .rfl
  | .perst => execPerst_keeps .rfl
  | .functionLevelReset .. => execFunctionLevelReset_keeps .rfl
  | .flrTimeout => execFlrTimeout_keeps .rfl
  | .vfEnableClear => execVfEnableClear_keeps .rfl
  | .dormantRequest => execDormantRequest_keeps .rfl
  | .wakeRequest => execWakeRequest_keeps .rfl
  | .standbyRequest => execStandbyRequest_keeps .rfl
  | .standbyDrainTimeout => execStandbyDrainTimeout_keeps .rfl
  | .pwrCtrlWrite .. => execPwrCtrlWrite_keeps .rfl
  | .sluiceTick .. => execSluiceTick_keeps .rfl
  | .hintExpiry .. => execHintExpiry_keeps .rfl
  | .overrun .. => execOverrun_keeps .rfl
  | .holdLimitAbort .. => execHoldLimitAbort_keeps .rfl
  | .periodRequest .. => execPeriodRequest_keeps .rfl
  | .periodChange .. => execPeriodChange_keeps .rfl
  | .periodAdoption .. => execPeriodAdoption_keeps .rfl
  | .masterTakeover => execMasterTakeover_keeps .rfl
  | .timeExchangeMissing => execTimeExchangeMissing_keeps .rfl
  | .timeReq .. => execTimeReq_keeps .rfl
  | .timeRsp .. => execTimeRsp_keeps .rfl
  | .beacon .. => execBeacon_keeps .rfl
  | .candidate .. => execCandidate_keeps .rfl
  | .holdMsg .. => execHoldMsg_keeps .rfl
  | .abortMsg .. => execAbortMsg_keeps .rfl
  | .periodMsg .. => execPeriodMsg_keeps .rfl
  | .queueEnable .. => execQueueEnable_keeps .rfl
  | .queueDisable .. => execQueueDisable_keeps .rfl
  | .disableComplete .. => execDisableComplete_keeps .rfl
  | .sqTail .. => execSqTail_keeps .rfl
  | .cqHead .. => execCqHead_keeps .rfl
  | .commandFetch .. => execCommandFetch_keeps .rfl
  | .nop .. => execNop_keeps .rfl
  | .tile .. => execTile_keeps .rfl
  | .tileIssue .. => execTileIssue_keeps .rfl
  | .tileComplete .. => execTileComplete_keeps .rfl
  | .drain .. => execDrain_keeps .rfl
  | .peatFlush .. => execPeatFlush_keeps .rfl
  | .drainStart .. => execDrainStart_keeps .rfl
  | .scaleAnswer .. => execScaleAnswer_keeps .rfl
  | .scaleWaitTimeout .. => execScaleWaitTimeout_keeps .rfl
  | .wispResult .. => execWispResult_keeps .rfl
  | .parityError .. => execParityError_keeps .rfl
  | .veProg .. => execVeProg_keeps .rfl
  | .veIllegalInstruction .. => execVeIllegalInstruction_keeps .rfl
  | .veNop .. => execVeNop_keeps .rfl
  | .endProg .. => execEndProg_keeps .rfl
  | .br .. => execBr_keeps .rfl
  | .bz .. => execBz_keeps .rfl
  | .bnz .. => execBnz_keeps .rfl
  | .blt .. => execBlt_keeps .rfl
  | .loopS .. => execLoopS_keeps .rfl
  | .setvl .. => execSetvl_keeps .rfl
  | .setvli .. => execSetvli_keeps .rfl
  | .add .. => execAdd_keeps .rfl
  | .sub .. => execSub_keeps .rfl
  | .mul .. => execMul_keeps .rfl
  | .andS .. => execAndS_keeps .rfl
  | .orS .. => execOrS_keeps .rfl
  | .xorS .. => execXorS_keeps .rfl
  | .shl .. => execShl_keeps .rfl
  | .shr .. => execShr_keeps .rfl
  | .sar .. => execSar_keeps .rfl
  | .smin .. => execSmin_keeps .rfl
  | .smax .. => execSmax_keeps .rfl
  | .addi .. => execAddi_keeps .rfl
  | .li .. => execLi_keeps .rfl
  | .lsh .. => execLsh_keeps .rfl
  | .fadd .. => execFadd_keeps .rfl
  | .fmul .. => execFmul_keeps .rfl
  | .fmax .. => execFmax_keeps .rfl
  | .fmin .. => execFmin_keeps .rfl
  | .sacc .. => execSacc_keeps .rfl
  | .w2f .. => execW2f_keeps .rfl
  | .f2w .. => execF2w_keeps .rfl
  | .vext .. => execVext_keeps .rfl
  | .sld .. => execSld_keeps .rfl
  | .sst .. => execSst_keeps .rfl
  | .strd .. => execStrd_keeps .rfl
  | .stclr .. => execStclr_keeps .rfl
  | .vaddF .. => execVaddF_keeps .rfl
  | .vsubF .. => execVsubF_keeps .rfl
  | .vmulF .. => execVmulF_keeps .rfl
  | .vfmaF .. => execVfmaF_keeps .rfl
  | .vfmsF .. => execVfmsF_keeps .rfl
  | .vfnmaF .. => execVfnmaF_keeps .rfl
  | .vminF .. => execVminF_keeps .rfl
  | .vmaxF .. => execVmaxF_keeps .rfl
  | .vabsF .. => execVabsF_keeps .rfl
  | .vnegF .. => execVnegF_keeps .rfl
  | .vcpsF .. => execVcpsF_keeps .rfl
  | .vmov .. => execVmov_keeps .rfl
  | .vbc .. => execVbc_keeps .rfl
  | .vsel .. => execVsel_keeps .rfl
  | .vaddB .. => execVaddB_keeps .rfl
  | .vsubB .. => execVsubB_keeps .rfl
  | .vmulB .. => execVmulB_keeps .rfl
  | .vfmaB .. => execVfmaB_keeps .rfl
  | .vminB .. => execVminB_keeps .rfl
  | .vmaxB .. => execVmaxB_keeps .rfl
  | .vabsB .. => execVabsB_keeps .rfl
  | .vnegB .. => execVnegB_keeps .rfl
  | .vaddI .. => execVaddI_keeps .rfl
  | .vsubI .. => execVsubI_keeps .rfl
  | .vmulI .. => execVmulI_keeps .rfl
  | .vaddsI .. => execVaddsI_keeps .rfl
  | .vsubsI .. => execVsubsI_keeps .rfl
  | .vand .. => execVand_keeps .rfl
  | .vor .. => execVor_keeps .rfl
  | .vxor .. => execVxor_keeps .rfl
  | .vshl .. => execVshl_keeps .rfl
  | .vshr .. => execVshr_keeps .rfl
  | .vsar .. => execVsar_keeps .rfl
  | .vminI .. => execVminI_keeps .rfl
  | .vmaxI .. => execVmaxI_keeps .rfl
  | .viota .. => execViota_keeps .rfl
  | .vcmpF .. => execVcmpF_keeps .rfl
  | .vcmpI .. => execVcmpI_keeps .rfl
  | .vnan .. => execVnan_keeps .rfl
  | .mand .. => execMand_keeps .rfl
  | .mor .. => execMor_keeps .rfl
  | .mxor .. => execMxor_keeps .rfl
  | .mandn .. => execMandn_keeps .rfl
  | .mnot .. => execMnot_keeps .rfl
  | .mvl .. => execMvl_keeps .rfl
  | .mpop .. => execMpop_keeps .rfl
  | .mfirst .. => execMfirst_keeps .rfl
  | .mld .. => execMld_keeps .rfl
  | .mst .. => execMst_keeps .rfl
  | .vexp2 .. => execVexp2_keeps .rfl
  | .vlog2 .. => execVlog2_keeps .rfl
  | .vrcp .. => execVrcp_keeps .rfl
  | .vrsq .. => execVrsq_keeps .rfl
  | .vsqrt .. => execVsqrt_keeps .rfl
  | .vtanh .. => execVtanh_keeps .rfl
  | .vsig .. => execVsig_keeps .rfl
  | .vsilu .. => execVsilu_keeps .rfl
  | .vgelu .. => execVgelu_keeps .rfl
  | .rsum .. => execRsum_keeps .rfl
  | .rssq .. => execRssq_keeps .rfl
  | .rmax .. => execRmax_keeps .rfl
  | .rmin .. => execRmin_keeps .rfl
  | .ramax .. => execRamax_keeps .rfl
  | .rsumW .. => execRsumW_keeps .rfl
  | .rssqW .. => execRssqW_keeps .rfl
  | .argmax .. => execArgmax_keeps .rfl
  | .rsumI .. => execRsumI_keeps .rfl
  | .vperm .. => execVperm_keeps .rfl
  | .vpermh .. => execVpermh_keeps .rfl
  | .vsldn .. => execVsldn_keeps .rfl
  | .vslup .. => execVslup_keeps .rfl
  | .vcomp .. => execVcomp_keeps .rfl
  | .vexpd .. => execVexpd_keeps .rfl
  | .vrev .. => execVrev_keeps .rfl
  | .vf2i .. => execVf2i_keeps .rfl
  | .vi2f .. => execVi2f_keeps .rfl
  | .vpack .. => execVpack_keeps .rfl
  | .vunlo .. => execVunlo_keeps .rfl
  | .vunhi .. => execVunhi_keeps .rfl
  | .vqnt .. => execVqnt_keeps .rfl
  | .wadd .. => execWadd_keeps .rfl
  | .waddf .. => execWaddf_keeps .rfl
  | .wfrom .. => execWfrom_keeps .rfl
  | .wto .. => execWto_keeps .rfl
  | .wfromi .. => execWfromi_keeps .rfl
  | .vld .. => execVld_keeps .rfl
  | .vst .. => execVst_keeps .rfl
  | .vlds .. => execVlds_keeps .rfl
  | .vsts .. => execVsts_keeps .rfl
  | .vldx .. => execVldx_keeps .rfl
  | .vstx .. => execVstx_keeps .rfl
  | .vldcF .. => execVldcF_keeps .rfl
  | .vldcI .. => execVldcI_keeps .rfl
  | .vstcF .. => execVstcF_keeps .rfl
  | .vstcI .. => execVstcI_keeps .rfl
  | .splLd .. => execSplLd_keeps .rfl
  | .splSt .. => execSplSt_keeps .rfl
  | .splFold .. => execSplFold_keeps .rfl
  | .lwait .. => execLwait_keeps .rfl
  | .lpeek .. => execLpeek_keeps .rfl
  | .lld .. => execLld_keeps .rfl
  | .lldw .. => execLldw_keeps .rfl
  | .lrel .. => execLrel_keeps .rfl
  | .gather .. => execGather_keeps .rfl
  | .prefetch .. => execPrefetch_keeps .rfl
  | .heronRequestIssue .. => execHeronRequestIssue_keeps .rfl
  | .pageWalk .. => execPageWalk_keeps .rfl
  | .heronReadResponse .. => execHeronReadResponse_keeps .rfl
  | .heronWriteAck .. => execHeronWriteAck_keeps .rfl
  | .prefetchFill .. => execPrefetchFill_keeps .rfl
  | .scrub .. => execScrub_keeps .rfl
  | .reduceScatter .. => execReduceScatter_keeps .rfl
  | .allGather .. => execAllGather_keeps .rfl
  | .allReduce .. => execAllReduce_keeps .rfl
  | .broadcast .. => execBroadcast_keeps .rfl
  | .allToAll .. => execAllToAll_keeps .rfl
  | .seqRing .. => execSeqRing_keeps .rfl
  | .amaxMax .. => execAmaxMax_keeps .rfl
  | .paramGather .. => execParamGather_keeps .rfl
  | .sWindowOpen .. => execSWindowOpen_keeps .rfl
  | .sSlotMiss .. => execSSlotMiss_keeps .rfl
  | .reserveWindow .. => execReserveWindow_keeps .rfl
  | .sFlitReceive .. => execSFlitReceive_keeps .rfl
  | .coll .. => execColl_keeps .rfl
  | .resend .. => execResend_keeps .rfl
  | .ack .. => execAck_keeps .rfl
  | .reissue .. => execReissue_keeps .rfl
  | .update .. => execUpdate_keeps .rfl
  | .updateArm => execUpdateArm_keeps .rfl
  | .updateWritePhase .. => execUpdateWritePhase_keeps .rfl
  | .scaleClear .. => execScaleClear_keeps .rfl
  | .scaleLoad .. => execScaleLoad_keeps .rfl
  | .scaleStore .. => execScaleStore_keeps .rfl
  | .scaleRescale .. => execScaleRescale_keeps .rfl
  | .hint .. => execHint_keeps .rfl
  | .fenceSignal .. => execFenceSignal_keeps .rfl
  | .fenceWait .. => execFenceWait_keeps .rfl
  | .tickWait .. => execTickWait_keeps .rfl
  | .epoch .. => execEpoch_keeps .rfl
  | .rd .. => execRd_keeps .rfl
  | .rdRc .. => execRdRc_keeps .rfl
  | .rsp .. => execRsp_keeps .rfl
  | .wr .. => execWr_keeps .rfl
  | .wrAck .. => execWrAck_keeps .rfl
  | .inv .. => execInv_keeps .rfl
  | .invAck .. => execInvAck_keeps .rfl
  | .invDone .. => execInvDone_keeps .rfl
  | .evictNote .. => execEvictNote_keeps .rfl
  | .fdec .. => execFdec_keeps .rfl
  | .linkReplay .. => execLinkReplay_keeps .rfl
  | .moduleDown .. => execModuleDown_keeps .rfl
  | .linkMonitorWindow .. => execLinkMonitorWindow_keeps .rfl
  | .guestAdmit .. => execGuestAdmit_keeps .rfl
  | .guestAdmitAck .. => execGuestAdmitAck_keeps .rfl
  | .guestRemove .. => execGuestRemove_keeps .rfl
  | .guestRailOff .. => execGuestRailOff_keeps .rfl
  | .guestRequest .. => execGuestRequest_keeps .rfl
  | .guestPowerSample .. => execGuestPowerSample_keeps .rfl
  | .portEnable .. => execPortEnable_keeps .rfl
  | .portDisable .. => execPortDisable_keeps .rfl
  | .portUp .. => execPortUp_keeps .rfl
  | .portTrainingFail .. => execPortTrainingFail_keeps .rfl
  | .portRetrain .. => execPortRetrain_keeps .rfl
  | .portDown .. => execPortDown_keeps .rfl
  | .berWindow .. => execBerWindow_keeps .rfl
  | .schedCommit .. => execSchedCommit_keeps .rfl
  | .causewayReplay .. => execCausewayReplay_keeps .rfl
  | .packetRoute .. => execPacketRoute_keeps .rfl
  | .rdReq .. => execRdReq_keeps .rfl
  | .rdRsp .. => execRdRsp_keeps .rfl
  | .cwWr .. => execCwWr_keeps .rfl
  | .cwWrAck .. => execCwWrAck_keeps .rfl
  | .fenceSig .. => execFenceSig_keeps .rfl
  | .fenceAck .. => execFenceAck_keeps .rfl
  | .fabricTimeout .. => execFabricTimeout_keeps .rfl
  | .fabCfgWrite .. => execFabCfgWrite_keeps .rfl
  | .memberTableWrite .. => execMemberTableWrite_keeps .rfl
  | .coreReset .. => execCoreReset_keeps .rfl
  | .clusterReset .. => execClusterReset_keeps .rfl
  | .partitionReset .. => execPartitionReset_keeps .rfl
  | .partitionClusterResets .. => execPartitionClusterResets_keeps .rfl
  | .fenceCoreRequest .. => execFenceCoreRequest_keeps .rfl
  | .fenceClusterRequest .. => execFenceClusterRequest_keeps .rfl
  | .injectCsUncorr .. => execInjectCsUncorr_keeps .rfl
  | .injectDrainParity .. => execInjectDrainParity_keeps .rfl
  | .injectVeParity .. => execInjectVeParity_keeps .rfl
  | .injectMxaParity .. => execInjectMxaParity_keeps .rfl
  | .injectRegParity .. => execInjectRegParity_keeps .rfl
  | .partitionMapWrite .. => execPartitionMapWrite_keeps .rfl
  | .fenceMapWrite .. => execFenceMapWrite_keeps .rfl
  | .fenceCntWrite .. => execFenceCntWrite_keeps .rfl
  | .bar4BaseWrite .. => execBar4BaseWrite_keeps .rfl
  | .bar4Read .. => execBar4Read_keeps .rfl
  | .bar4Write .. => execBar4Write_keeps .rfl
  | .xlatRootWrite .. => execXlatRootWrite_keeps .rfl
  | .xlatInv .. => execXlatInv_keeps .rfl
  | .xlatInvComplete .. => execXlatInvComplete_keeps .rfl
  | .registerWrite .. => execRegisterWrite_keeps .rfl
  | .ucieCrcErr .. => execUcieCrcErr_keeps .rfl
  | .ucieReplayFlit .. => execUcieReplayFlit_keeps .rfl
  | .ucieFlitAck .. => execUcieFlitAck_keeps .rfl
  | .cwCrcErr .. => execCwCrcErr_keeps .rfl
  | .cwReplayFlit .. => execCwReplayFlit_keeps .rfl
  | .cwFlitAck .. => execCwFlitAck_keeps .rfl
  | .creditReturn .. => execCreditReturn_keeps .rfl
  | .droopEnd .. => execDroopEnd_keeps .rfl
  | .parityAgeOut .. => execParityAgeOut_keeps .rfl
  | .wakeComplete => execWakeComplete_keeps .rfl
  | .dormantEntryComplete => execDormantEntryComplete_keeps .rfl
  | .coreResetEnd .. => execCoreResetEnd_keeps .rfl
  | .clusterResetEnd .. => execClusterResetEnd_keeps .rfl
  | .lsmRejoin .. => execLsmRejoin_keeps .rfl
  | .perstRelease => execPerstRelease_keeps .rfl
  | .alertTimeout => execAlertTimeout_keeps .rfl
  | .remoteSenseRestored => execRemoteSenseRestored_keeps .rfl
  | .vfEnable .. => execVfEnable_keeps .rfl
  | .bar4Resize .. => execBar4Resize_keeps .rfl
  | .registerRead .. => execRegisterRead_keeps .rfl
  | .tapClock .. => execTapClock_keeps .rfl

/-- A step leaves what its front command keeps, on the state without that command; with none waiting it idles. -/
theorem keeps_of_step {s u : State} (run : step s = .next u) : Keeps { s with pending := s.pending.tail } u := by
  unfold step at run
  split at run
  · next none =>
    obtain rfl := Host.Outcome.next.inj run
    exact ⟨id, by rw [none]; rfl, rfl, Nat.le_refl _, Nat.le_refl _⟩
  · next front rest waits =>
    rw [waits]
    exact exec_keeps front _ u run

/-- Settles O60: a step is its front command on the rest of the queue (`keeps_of_step`), and every command keeps all four
(`exec_keeps`). -/
theorem noStepUndoesTheseInvariants : Obligations.NoStepUndoesTheseInvariants := by
  unfold Obligations.NoStepUndoesTheseInvariants
  intro s u run canonical
  have kept := keeps_of_step run
  exact ⟨kept.mem canonical, kept.pending, kept.fuse, kept.svn⟩

end Sys2Proof.Machine

namespace Sys2Proof.Machine

/-! ### What the log leaves of Bittern and of the sensors (R497, R500, R557) -/

/-- Nothing differs but the host's side, the log, when alert_n ends, and what was sent. -/
def Noted (s u : State) : Prop := ∃ host log alert sent,
  u = { s with host := host, log := log, bit := { s.bit with alertUntil := alert }, sent := sent }

theorem Noted.refl (s : State) : Noted s s := ⟨s.host, s.log, s.bit.alertUntil, s.sent, rfl⟩

theorem Noted.trans {s t u : State} (h : Noted s t) (k : Noted t u) : Noted s u := by
  obtain ⟨_, _, _, _, rfl⟩ := h
  obtain ⟨_, _, _, _, rfl⟩ := k
  exact ⟨_, _, _, _, rfl⟩

theorem Noted.of_log {s u : State} {log : Log} (h : Noted { s with log := log } u) : Noted s u := by
  obtain ⟨_, _, _, _, rfl⟩ := h
  exact ⟨_, _, _, _, rfl⟩

theorem raiseIrq_noted (s : State) (b : Nat) : Noted s (raiseIrq s b) := by
  obtain ⟨host, sent, eq⟩ := raiseIrq_eq s b
  exact ⟨host, s.log, s.bit.alertUntil, sent, eq⟩

theorem logStore_noted (s : State) (e : LogIn) : Noted s (logStore s e) := by
  simp only [logStore]
  split
  · obtain ⟨host, sent, eq⟩ := raiseIrq_eq { s with
      log := _, bit := { s.bit with alertUntil := some (s.uptime + 10000000) } } 6
    exact ⟨host, _, _, sent, eq⟩
  · exact ⟨s.host, _, s.bit.alertUntil, s.sent, rfl⟩

theorem logAdd_noted (s : State) (e : LogIn) : Noted s (logAdd s e) := by
  simp only [logAdd]
  split
  · exact logStore_noted s e
  · split
    · exact (logStore_noted _ e).of_log
    · split
      · exact (logStore_noted _ e).of_log
      · split
        · exact (logStore_noted _ e).of_log
        · exact ⟨s.host, _, s.bit.alertUntil, s.sent, rfl⟩

section
variable {s u : State} (h : Noted s u)
include h

theorem Noted.pst : u.pst = s.pst := by obtain ⟨_, _, _, _, rfl⟩ := h; rfl
theorem Noted.uptime : u.uptime = s.uptime := by obtain ⟨_, _, _, _, rfl⟩ := h; rfl
theorem Noted.pwr : u.pwr = s.pwr := by obtain ⟨_, _, _, _, rfl⟩ := h; rfl
theorem Noted.bring : u.bring = s.bring := by obtain ⟨_, _, _, _, rfl⟩ := h; rfl
theorem Noted.agt : u.agt = s.agt := by obtain ⟨_, _, _, _, rfl⟩ := h; rfl
theorem Noted.sensors : u.bit.sensors = s.bit.sensors := by obtain ⟨_, _, _, _, rfl⟩ := h; rfl

/-- An entry of the log is a sample of no unit. -/
theorem Noted.sampleFrame : SampleFrame s u := by
  obtain ⟨_, _, _, _, rfl⟩ := h
  exact ⟨⟨rfl, rfl, rfl, rfl, rfl, rfl, rfl, rfl, rfl, rfl, rfl⟩, rfl, rfl, rfl, rfl, rfl, rfl⟩

end

/-! ### What a sample leaves (R442, R445, R447) -/

theorem SampleFrame.trans {s t u : State} (h : SampleFrame s t) (k : SampleFrame t u) : SampleFrame s u where
  units := h.units.trans k.units
  pst := k.pst.trans h.pst
  tick := k.tick.trans h.tick
  fab := k.fab.trans h.fab
  bring := k.bring.trans h.bring
  links := k.links.trans h.links
  agt := k.agt.trans h.agt

/-- The power page and Bittern's readings are no part of the frame. -/
theorem sampleFrame_readings (s : State) (p : Pwr) (b : Bittern) : SampleFrame s { s with pwr := p, bit := b } :=
  ⟨⟨rfl, rfl, rfl, rfl, rfl, rfl, rfl, rfl, rfl, rfl, rfl⟩, rfl, rfl, rfl, rfl, rfl, rfl⟩

/-! ### Without rails (R452, R454, R473) -/

/-- What outlives the rails is the same: cores' records, uptime, fuses, authority, counters of power, and the queue. -/
structure Outlives (s t : State) : Prop where
  cores : t.cores = s.cores
  uptime : t.uptime = s.uptime
  fuse : t.fuse = s.fuse
  key : t.bit.key = s.bit.key
  svn : t.bit.svnMin = s.bit.svnMin
  ctr : t.pwr.ctr = s.pwr.ctr
  pending : t.pending = s.pending

theorem Outlives.refl (s : State) : Outlives s s := ⟨rfl, rfl, rfl, rfl, rfl, rfl, rfl⟩

theorem Outlives.trans {s t u : State} (h : Outlives s t) (k : Outlives t u) : Outlives s u :=
  ⟨k.cores.trans h.cores, k.uptime.trans h.uptime, k.fuse.trans h.fuse, k.key.trans h.key, k.svn.trans h.svn,
    k.ctr.trans h.ctr, k.pending.trans h.pending⟩

theorem Noted.outlives {s u : State} (h : Noted s u) : Outlives s u := by
  obtain ⟨_, _, _, _, rfl⟩ := h
  exact ⟨rfl, rfl, rfl, rfl, rfl, rfl, rfl⟩

theorem Told.outlives {s u : State} (h : Told s u) : Outlives s u := by
  obtain ⟨_, -, -, _, _, _, _, _, rfl, -⟩ := h
  exact ⟨rfl, rfl, rfl, rfl, rfl, rfl, rfl⟩

theorem Outlives.foldl {α : Type} {g : State → α → State} (hg : ∀ t e, Outlives t (g t e)) (l : List α) (s : State) :
    Outlives s (l.foldl g s) := by
  induction l generalizing s with
  | nil => exact .refl s
  | cons e l ih => exact (hg s e).trans (ih (g s e))

theorem announceAbort_told (s : State) (gid st : Nat) : Told s (announceAbort s gid st) := by
  obtain ⟨_, eq⟩ := firstAbort_eq s gid (devId s)
  rw [announceAbort]
  split
  · rw [eq]
    exact Told.trans told_tick (portsSend_forwardGroup ..).told
  · exact (PortsSend.refl s).told

/-- R419: what a package tells its groups when it leaves Active. -/
theorem outlives_leaveGroups (s : State) : Outlives s (leaveGroups s) := by
  refine .foldl (fun t q => ?_) _ s
  split
  · exact (announceAbort_told ..).outlives
  · exact .refl t

/-- A core without rails keeps its record alone. -/
theorem core_powerDown (s : State) (st : PkgSt) (p : Nat) : (powerDown s st).core p = { ras := (s.core p).ras.keep } :=
  tabGet_map (fun c : Core => { ras := c.ras.keep }) rfl s.cores p

theorem railsOff_powerDown (s : State) (st : PkgSt) : RailsOff s (powerDown s st) where
  mem := rfl
  poison := rfl
  queues := rfl
  hubq := rfl
  fences := rfl
  numx := rfl
  xlat := rfl
  fab := rfl
  ce := rfl
  upd := rfl
  dir := rfl
  partOf := rfl
  mxa p := by rw [core_powerDown]
  ve p := by rw [core_powerDown]
  heron p := by rw [core_powerDown]
  causes p := by rw [core_powerDown]; rfl
  parity p := by rw [core_powerDown]; rfl
  uptime := rfl
  fuse := rfl
  key := rfl
  svn := rfl
  energy _ _ := rfl
  pending := rfl

theorem RailsOff.of_outlives {s t u : State} (h : Outlives s t) (off : RailsOff t u) : RailsOff s u := { off with
  causes := fun p => (off.causes p).trans (by rw [core_congr h.cores])
  parity := fun p => (off.parity p).trans (by rw [core_congr h.cores])
  uptime := off.uptime.trans h.uptime
  fuse := off.fuse.trans h.fuse
  key := off.key.trans h.key
  svn := off.svn.trans h.svn
  energy := fun o other => (off.energy o other).trans (by rw [h.ctr])
  pending := off.pending.trans h.pending }

/-- The power page but for its counters and the records of bring-up are no part of it. -/
theorem RailsOff.records {s t : State} (off : RailsOff s t) (p : Pwr) (b : Bring) (same : p.ctr = t.pwr.ctr := by rfl) :
    RailsOff s { t with pwr := p, bring := b } :=
  { off with energy := fun o other => (congrArg (ctrGet · o) same).trans (off.energy o other) }

theorem RailsOff.noted {s t u : State} (off : RailsOff s t) (n : Noted t u) : RailsOff s u := by
  obtain ⟨_, _, _, _, rfl⟩ := n
  exact { off with }

theorem RailsOff.stateEnergy {s t : State} (off : RailsOff s t) : RailsOff s (stateEnergy t) :=
  { off with energy := fun o other => (tabGet_tabSet_ne _ _ _ _ _ other).trans (off.energy o other) }

theorem logState_noted (s : State) (old : PkgSt) : Noted (stateEnergy s) (logState s old) := logAdd_noted ..

/-- R457, R499: a change of the package state is logged, and its energy counts. -/
theorem RailsOff.logState {s t : State} (off : RailsOff s t) (old : PkgSt) : RailsOff s (logState t old) :=
  off.stateEnergy.noted (logState_noted ..)

@[simp] theorem pst_logState (s : State) (old : PkgSt) : (logState s old).pst = s.pst := (logState_noted s old).pst

/-- R452: a package whose rails go off in Standby. -/
theorem enterStandby_rails (s : State) : (enterStandby s).pst = .standby ∧ RailsOff s (enterStandby s) :=
  ⟨pst_logState .., (railsOff_powerDown ..).logState _⟩

/-! ### Trips (R454) -/

/-- The package has tripped with a cause, and every rail but VSB is off. -/
def Trips (s : State) (cause : Nat) (u : State) : Prop := u.pst = .tripped ∧ u.pwr.tripCause = cause ∧ RailsOff s u

theorem Trips.of_outlives {s t u : State} {cause : Nat} (h : Outlives s t) (trips : Trips t cause u) : Trips s cause u := by
  obtain ⟨pst, recorded, off⟩ := trips
  exact ⟨pst, recorded, .of_outlives h off⟩

theorem Trips.noted {s t u : State} {cause : Nat} (trips : Trips s cause t) (n : Noted t u) : Trips s cause u := by
  obtain ⟨pst, recorded, off⟩ := trips
  exact ⟨n.pst.trans pst, by rw [n.pwr, recorded], off.noted n⟩

theorem Trips.logState {s t : State} {cause : Nat} (trips : Trips s cause t) (old : PkgSt) :
    Trips s cause (logState t old) := by
  obtain ⟨pst, recorded, off⟩ := trips
  exact Trips.noted (t := stateEnergy t) ⟨pst, recorded, off.stateEnergy⟩ (logState_noted ..)

/-- R454: any state but Off and Tripped is left for Tripped. -/
theorem trip_trips {s : State} (powered : s.pst ≠ .off) (up : s.pst ≠ .tripped) (cause sensor reading : Nat) :
    Trips s cause (trip s cause sensor reading) := by
  have left : Outlives s (if s.pst = .active then leaveGroups s else s) := by
    split
    · exact outlives_leaveGroups s
    · exact .refl s
  have stays : ¬ (s.pst = .off ∨ s.pst = .tripped) := not_or.mpr ⟨powered, up⟩
  simp only [trip, if_neg stays]
  generalize (if s.pst = .active then leaveGroups s else s) = t at left ⊢
  refine (Trips.noted (t := ite _ _ _) ?_ (logAdd_noted ..)).logState _ |>.of_outlives left
  split
  all_goals exact ⟨rfl, rfl, (railsOff_powerDown t .tripped).records _ _⟩

/-- So also after an event that is recorded and logged. -/
theorem trip_trips_noted {s t u : State} (same : Outlives s t) (noted : Noted t u) (powered : t.pst ≠ .off)
    (up : t.pst ≠ .tripped) (cause sensor reading : Nat) : Trips s cause (trip u cause sensor reading) :=
  .of_outlives (same.trans noted.outlives) (trip_trips (noted.pst.trans_ne powered) (noted.pst.trans_ne up) ..)

end Sys2Proof.Machine

namespace Sys2Proof.Machine

/-! ### What completions, copies and halts leave of power, Bittern, the switch and fences (R233, R262, R451, R480) -/

/-- The power page, Bittern, the switch, and why each core was fenced. -/
structure RestView where
  pwr : Pwr
  bit : Bittern
  fab : Fab
  cause : Nat → Nat

/-- The view of a state. -/
def restView (s : State) : RestView := ⟨s.pwr, s.bit, s.fab, fun p => (s.core p).ras.fenceCause⟩

theorem bit_of_restView {s u : State} (h : restView u = restView s) : u.bit = s.bit := congrArg RestView.bit h

@[simp] theorem restView_ite {c : Prop} [Decidable c] (s t : State) :
    restView (if c then s else t) = if c then restView s else restView t := apply_ite restView c s t

theorem restView_setCore {s : State} {p : Nat} {x : Core} (h : x.ras.fenceCause = (s.core p).ras.fenceCause := by rfl) :
    restView (s.setCore p x) = restView s := by
  refine congrArg (RestView.mk s.pwr s.bit s.fab) (funext fun n => ?_)
  by_cases own : n = p
  · rw [own, core_setCore, h]
  · rw [core_setCore_ne _ _ _ _ own]

/-- Cores that are all changed without their fence causes. -/
theorem restView_mapCores {s : State} {f : Core → Core} (default : f {} = {} := by rfl)
    (h : ∀ c, (f c).ras.fenceCause = c.ras.fenceCause := by exact fun _ => rfl) (hubq : HubQ) :
    restView { s with cores := s.cores.map (fun c => (c.1, f c.2)), hubq := hubq } = restView s := by
  refine congrArg (RestView.mk s.pwr s.bit s.fab) (funext fun n => ?_)
  exact (congrArg (fun c : Core => c.ras.fenceCause) (tabGet_map f default s.cores n)).trans (h _)

@[simp] theorem restView_setQueue (s : State) (q : Nat) (x : Queue) : restView (s.setQueue q x) = restView s := rfl
@[simp] theorem restView_setDie (s : State) (d : Nat) (x : Die) : restView (s.setDie d x) = restView s := rfl
@[simp] theorem restView_dirBump (s : State) (o n : Nat) : restView (dirBump s o n) = restView s := rfl
@[simp] theorem restView_mapDir (s : State) (l : Nat) (f : DirEntry → DirEntry) : restView (mapDir s l f) = restView s := rfl
@[simp] theorem restView_setRecSt (s : State) (c : CmdRef) (st : RecSt) : restView (setRecSt s c st) = restView s := rfl
@[simp] theorem restView_sendMsg (s : State) (m : DieMsg) : restView (sendMsg s m) = restView s := rfl

@[simp] theorem restView_coreCtr (s : State) (p o n : Nat) : restView (coreCtr s p o n) = restView s := by
  rw [coreCtr]
  split
  · rfl
  · exact restView_setCore

@[simp] theorem restView_queueCtr (s : State) (q o n : Nat) : restView (queueCtr s q o n) = restView s := by
  rw [queueCtr, restView_ite, restView_setQueue, ite_self]

@[simp] theorem restView_sendMsix (s : State) (fn vec : Nat) : restView (sendMsix s fn vec) = restView s := by
  obtain ⟨_, _, eq⟩ := sendMsix_eq s fn vec
  rw [eq]
  rfl

/-! #### Memory and its copies -/

@[simp] theorem restView_unstage (s : State) (p l : Nat) : restView (unstage s p l) = restView s := by
  rw [unstage]
  split
  · rfl
  · simp only [restView_ite, restView_queueCtr, restView_coreCtr, ite_self]
    exact restView_setCore

@[simp] theorem restView_uncache (s : State) (d l : Nat) : restView (uncache s d l) = restView s := by
  rw [uncache]
  split
  · rfl
  · split
    · simp only [restView_queueCtr, restView_coreCtr, restView_setDie]
    · rfl

@[simp] theorem restView_dropDir (s : State) (l : Nat) : restView (dropDir s l) = restView s := by
  simp only [dropDir, filterDec, restView_ite, restView_setDie, ite_self]
  rfl

@[simp] theorem restView_recallLine (s : State) (l : Nat) : restView (recallLine s l) = restView s := by
  have recalled (held : BitVec 4) (t : State) :
      restView (forUp 4 (fun k t => if held.getLsbD k then uncache t k l else t) t) = restView t :=
    foldl_kept restView (fun t k => by simp only [restView_ite, restView_uncache, ite_self]) _ t
  rw [recallLine]
  split
  · rfl
  · simp only [restView_ite, restView_dropDir, restView_mapDir, recalled, restView_dirBump, ite_self]

@[simp] theorem restView_invalidateLine (s : State) (l : Nat) : restView (invalidateLine s l) = restView s := by
  have unstaged (cs : Tab Core) (t : State) :
      restView (cs.foldl (fun t c => if c.1 / 64 = homeDie l then unstage t c.1 l else t) t) = restView t :=
    foldl_kept restView (fun t c => by simp only [restView_ite, restView_unstage, ite_self]) _ t
  simp only [invalidateLine, restView_ite, restView_recallLine, restView_dirBump, unstaged, ite_self]

@[simp] theorem restView_writeMem (s : State) (a : Nat) (bs : List Byte) (bad : Bool) :
    restView (writeMem s a bs bad) = restView s := by
  have stored : restView (storeBytes s a bs bad) = restView s := by
    rw [storeBytes]
    split <;> rfl
  have struck (t : State) (p : Nat) (us : List Nat) : restView { t.setCore p
      { t.core p with ras := { (t.core p).ras with injCs := false } } with latent := us } = restView t :=
    restView_setCore (x := { t.core p with ras := { (t.core p).ras with injCs := false } })
  simp only [writeMem, restView_ite, foldl_kept restView restView_invalidateLine, stored, struck, ite_self]

@[simp] theorem restView_vwrite (s : State) (c va : Nat) (bs : List Byte) (bad : Bool) :
    restView (vwrite s c va bs bad) = restView s := by
  refine foldl_kept restView (fun t pc => ?_) _ s
  split
  · rfl
  · simp only [restView_ite, restView_writeMem, ite_self]

@[simp] theorem restView_vnote (s : State) (c va n : Nat) (f : Option Nat) : restView (vnote s c va n f) = restView s := by
  obtain ⟨_, eq, -⟩ := vnote_onlyWalksCounted s c va n f
  rw [eq]
  rfl

/-! #### Records, frames and queues -/

@[simp] theorem restView_postOne (s : State) (c : CmdRef) (v : Cpl) : restView (postOne s c v).1 = restView s := by
  rw [postOne]
  split
  · rfl
  · split
    · rfl
    · simp only [restView_ite, restView_sendMsix, restView_setRecSt, restView_setQueue, restView_vnote, restView_vwrite,
        ite_self]

@[simp] theorem restView_closeFrame (s : State) (q : Nat) : restView (closeFrame s q) = restView s := by
  rcases closeFrame_cases s q with stays | ⟨_, _, closes, -⟩
  · rw [stays]
  · rw [closes]
    rfl

@[simp] theorem restView_fetchTo (s : State) (q n : Nat) : restView (fetchTo s q n) = restView s := by
  refine foldl_kept restView (fun t _ => ?_) _ s
  dsimp only
  split <;> rfl

@[simp] theorem restView_failRecs (s : State) (q : Nat) (rs : List Rec) (cpl : Rec → Cpl) :
    restView (failRecs s q rs cpl) = restView s := by
  rw [failRecs, restView_closeFrame]
  exact (foldl_kept restView (fun t r => restView_postOne t ⟨q, r.n⟩ (cpl r)) _ _).trans
    (restView_mapCores (f := fun c => c.purge q) (hubq := _))

@[simp] theorem restView_stopQueue (s : State) (q code : Nat) : restView (stopQueue s q code) = restView s := by
  have failed (t : State) : restView (failUnstarted t q 0xA4) = restView t := by
    rw [failUnstarted, restView_failRecs]
    split
    · exact restView_fetchTo ..
    · rfl
  simp only [stopQueue, restView_ite, restView_sendMsix, failed, restView_setQueue, ite_self]

@[simp] theorem restView_complete (s : State) (c : CmdRef) (v : Cpl) : restView (complete s c v) = restView s := by
  simp only [complete, restView_closeFrame, restView_ite, restView_stopQueue, restView_postOne, ite_self]

theorem restView_completeAll (cs : List CmdRef) (st : Nat) (s : State) :
    restView (cs.foldl (fun t c => completeSt t c st) s) = restView s :=
  foldl_kept restView (fun t c => restView_complete t c _) cs s

@[simp] theorem restView_exitQueue (s : State) (q : Nat) : restView (exitQueue s q) = restView s := by
  simp only [exitQueue, restView_ite, restView_failRecs, restView_fetchTo, ite_self]

/-! #### Copies that cores hold, and cores that halt -/

@[simp] theorem restView_unstageAll (s : State) (p : Nat) : restView (unstageAll s p) = restView s :=
  foldl_kept restView (fun t (x : StageLine) => restView_unstage t p x.addr) _ s

@[simp] theorem restView_dropFlight (s : State) (p : Nat) : restView (dropFlight s p) = restView s := by
  refine (foldl_kept restView (fun t f => ?_) _ _).trans restView_setCore
  split
  · simp only [restView_queueCtr, restView_coreCtr]
  · exact foldl_kept restView (fun u w => restView_sendMsg u _) _ t

@[simp] theorem restView_haltCore (s : State) (p st : Nat) : restView (haltCore s p st) = restView s := by
  rw [haltCore, restView_completeAll, restView_setCore, restView_dropFlight, restView_unstageAll]

@[simp] theorem restView_discardCopies (s : State) : restView (discardCopies s) = restView s := by
  refine (foldl_kept restView (fun t (d : Nat × Die) => ?_) _ _).trans
    (foldl_kept restView (fun t (c : Nat × Core) => ?_) _ s)
  · exact foldl_kept restView (fun u (x : RcLine) => restView_uncache u d.1 x.addr) _ t
  · simp only [restView_unstageAll, restView_dropFlight]

@[simp] theorem restView_scaleWriteBack (s : State) (ks : List Nat) : restView (scaleWriteBack s ks) = restView s := by
  have cleaned (t : State) (x : Numx) : restView { t with numx := x } = restView t := rfl
  refine foldl_kept restView (fun t k => ?_) ks s
  simp only [restView_ite, restView_writeMem, cleaned, ite_self]

/-! #### Fences (R480) -/

/-- R480: a core that is fenced keeps the cause. -/
theorem fenceCause_fenceCore {s : State} {p : Nat} (on : coreOn s p = true) (cause st : Nat) :
    ((fenceCore s p cause st).core p).ras.fenceCause = cause := by
  have caused (t : State) (x : Core) (l : List Nat) (fenced : x.ras.fenceCause = cause) : (restView
      { clearStore (t.setCore p x) p with bring := { (clearStore (t.setCore p x) p).bring with coreResets := l } }).cause p
      = cause := by
    rw [← fenced]
    exact congrArg (fun c : Core => c.ras.fenceCause) (core_setCore t p x)
  have told (t : State) (b : Nat) (e : LogIn) : (logAdd (raiseIrq t b) e).core p = t.core p := by
    obtain ⟨_, _, eq⟩ := raiseIrq_eq t b
    rw [core_logAdd, eq]
    rfl
  rw [fenceCore, on, Bool.not_true, if_neg Bool.false_ne_true, told]
  exact (congrFun (congrArg RestView.cause ((restView_completeAll ..).trans (restView_completeAll ..))) p).trans
    (caused _ _ _ rfl)

end Sys2Proof.Machine

namespace Sys2Proof.Machine

/-! ### First stages and rails (R448, R449, R479) -/

/-- R449: a first stage's failure, recorded, logged and told. -/
def stageNoted (s : State) (i : Fin 24) : State :=
  let p := { s.pwr with stagesBad := s.pwr.stagesBad ||| BitVec.ofNat 24 (2 ^ i.val) }
  raiseIrq (logAdd { s with pwr := p } { code := 0x72, inst := i, src := 7, sev := 2, args := [stagesOk p] }) 5

theorem exec_stageFail {s : State} {i : Fin 24} {n : Nat} (powered : s.pst ≠ .off) (up : s.pst ≠ .tripped)
    (sound : s.pwr.stagesBad.getLsbD i = false)
    (bad : popCount 24 (s.pwr.stagesBad ||| BitVec.ofNat 24 (2 ^ i.val)).toNat = n) : exec (.stageFail i) s = .next
      (if 24 - n < 12 then trip (stageNoted s i) 7 (0x501 + i) (24 - n) else stageNoted s i) := by
  have acts : ¬ (s.pst = .off ∨ s.pst = .tripped ∨ s.pwr.stagesBad.getLsbD i = true) :=
    not_or.mpr ⟨powered, not_or.mpr ⟨up, Bool.eq_false_iff.mp sound⟩⟩
  rw [← bad]
  exact congrArg Host.Outcome.next (if_neg acts)

/-- An event of the power supply that is logged and told changes nothing else. -/
theorem told_noted (s : State) (e : LogIn) (b : Nat) : Noted s (raiseIrq (logAdd s e) b) :=
  (logAdd_noted ..).trans (raiseIrq_noted ..)

theorem sameUnits_bring (s : State) (b : Bring) : SameUnits s { s with bring := b } :=
  ⟨rfl, rfl, rfl, rfl, rfl, rfl, rfl, rfl, rfl, rfl, rfl⟩

/-- The overcurrents of a rail within 24 h, with the present one. -/
def railEvents (s : State) (r : Nat) : List Nat :=
  (tabGet s.bring.railOc [] r).filter (fun t => decide (s.uptime < t + dayNs)) ++ [s.uptime]

/-- Those of them within 1 s. -/
def railNear (s : State) (r : Nat) : Nat :=
  ((railEvents s r).filter (fun t => decide (s.uptime < t + 1000000000))).length

/-- BRING with the overcurrents of a rail. -/
def railBring (s : State) (r : Nat) : Bring := { s.bring with railOc := tabSet s.bring.railOc r (railEvents s r) }

/-- R448: an overcurrent, recorded, logged and told. -/
def railNoted (s : State) (r : Nat) : State :=
  raiseIrq (logAdd { s with bring := railBring s r }
    { code := 0x73, inst := (0x519 + r) % 256, src := 7, sev := 2, args := [railNear s r] }) 5

theorem railNoted_noted (s : State) (r : Nat) : Noted { s with bring := railBring s r } (railNoted s r) := told_noted ..

/-- R448: a third-level rail trips the package. -/
theorem exec_railOvercurrent_third {s : State} {r : Fin 50} (powered : s.pst ≠ .off) (up : s.pst ≠ .tripped)
    (third : 32 ≤ r.val) (reading : Nat) :
    exec (.railOvercurrent r reading) s = .next (trip (railNoted s r) 7 (0x519 + r.val) reading) :=
  congrArg Host.Outcome.next ((if_neg (not_or.mpr ⟨powered, up⟩)).trans (if_neg (Nat.not_lt.mpr third)))

/-- R479: a cluster's rail fences its cores at the third overcurrent in 24 h, and resets the cluster at the second in 1 s. -/
theorem exec_railOvercurrent_cluster {s : State} {r : Fin 50} (active : s.pst = .active) (cluster : r.val < 32)
    (reading : Nat) : exec (.railOvercurrent r reading) s = .next
      (if 3 ≤ (railEvents s r).length then (clusterCores r.val).foldl (fun t p => fenceCore t p 8 0xA0) (railNoted s r)
        else if 2 ≤ railNear s r then resetCluster (railNoted s r) r.val 0xA3 else railNoted s r) := by
  have acts : ¬ (s.pst = .off ∨ s.pst = .tripped) := by simp [active]
  have runs : ¬ (railNoted s r).pst ≠ .active := not_not.mpr ((railNoted_noted s r).pst.trans active)
  exact congrArg Host.Outcome.next ((if_neg acts).trans ((if_pos cluster).trans (if_neg runs)))

/-- R477, R485: a cluster with a core that is on is under reset, by this reset or by one before. -/
theorem resetCluster_resets {s : State} {c : Nat} (on : (clusterCores c).any (coreOn s) = true) (st : Nat) :
    (resetCluster s c st).bring.clusterResets.contains c = true := by
  cases resets : s.bring.clusterResets.contains c with
  | true => rwa [resetCluster, resets, Bool.true_or, if_pos rfl]
  | false =>
    rw [resetCluster, resets, on, Bool.not_true, Bool.or_false, if_neg Bool.false_ne_true]
    simp

theorem mem_clusterCores {p r : Nat} (own : p / 8 = r) : p ∈ clusterCores r :=
  List.mem_map.mpr ⟨p % 8, List.mem_range.mpr (Nat.mod_lt p (by decide)), by omega⟩

/-! ### Thermistors (R447, R562) -/

/-- A thermistor in range gives its temperature, and is no longer one that was logged. -/
def thermistorRead (s : State) (i mv : Nat) : State := { s with
  bit := { s.bit with sensors := tabSet s.bit.sensors (0x700 + i) (thermDeci mv) }
  pwr := { s.pwr with
    sensorLogged := setDel s.pwr.sensorLogged i
    inletLogged := if decide (31815 * invKelvin mv < 100 * (fxOne : Int)) then setIns s.pwr.inletLogged i
      else setDel s.pwr.inletLogged i } }

/-- R447: a thermistor in range is read, and logged where it is newly too hot. -/
theorem thermistor_inRange (s : State) (i : Nat) {mv : Nat} (low : 25 < mv) (high : mv < 2450) :
    Noted (thermistorRead s i mv) (thermistor s i mv) := by
  have read : thermistor s i mv =
      if decide (31815 * invKelvin mv < 100 * (fxOne : Int)) && !s.pwr.inletLogged.contains i then
        logAdd (thermistorRead s i mv) { code := 0x81, inst := i, src := 8, sev := 1, args := [(thermDeci mv).toNat] }
      else thermistorRead s i mv := (if_neg (Nat.not_le.mpr high)).trans (if_neg (Nat.not_le.mpr low))
  rw [read]
  split
  · exact logAdd_noted ..
  · exact .refl _

/-- R447: one that reads open or shorted is logged once and ignored. -/
theorem thermistor_outOfRange {s : State} {i mv : Nat} (out : 2450 ≤ mv ∨ mv ≤ 25) : thermistor s i mv =
    if s.pwr.sensorLogged.contains i then s
    else logAdd { s with pwr := { s.pwr with sensorLogged := setIns s.pwr.sensorLogged i } }
      { code := 0x82, inst := i, src := 8, sev := 1, args := [if 2450 ≤ mv then 1 else 2] } := by
  by_cases above : 2450 ≤ mv
  · rw [thermistor, if_pos above, if_pos above]
  · rw [thermistor, if_neg above, if_pos (out.resolve_left above), if_neg above]

/-! ### Diodes (R445) -/

/-- A diode at 110 °C whose sensor trips. -/
def tripsAt (e : Nat × Int) : Bool := decide (1100 ≤ e.2) && decide (e.1 < 0x318)

/-- R445: what a sample of every diode records. -/
def diodesRead (s : State) (r : ThermalRead) : State := { s with
  pwr := { s.pwr with
    over106 := hotRuns s.pwr (thermalTemps r), therm103 := stretched s.pwr r
    hot := r.core.any (fun t => decide (950 < t)) || ((r.other.drop 24).take 32).any (fun t => decide (950 < t))
    cool := r.core.all (fun t => decide (t < 920)) && ((r.other.drop 24).take 32).all (fun t => decide (t < 920)) }
  bit := { s.bit with sensors := (thermalTemps r).foldl (fun l e => tabSet l e.1 e.2) s.bit.sensors } }

/-- The diodes that trip are the cores', from 0x100, and the first 24 of the others, from 0x300. -/
theorem tripsAt_eq :
    (fun e : Nat × Int => decide (1100 ≤ e.2) && (decide (e.1 < 0x300) || decide (e.1 < 0x318))) = tripsAt := by
  funext e
  rw [tripsAt, ← Bool.decide_or]
  congr 2
  exact propext (by omega)

theorem find?_of_any {α : Type} {p : α → Bool} {l : List α} (h : l.any p = true) : ∃ e, l.find? p = some e :=
  Option.isSome_iff_exists.mp (List.find?_isSome.mpr (List.any_eq_true.mp h))

theorem find?_of_not_any {α : Type} {p : α → Bool} {l : List α} (h : l.any p = false) : l.find? p = none :=
  List.find?_eq_none.mpr (List.any_eq_false.mp h)

section
variable {s : State} {r : ThermalRead} (powered : s.pst ≠ .off)
include powered

/-- R445: a diode at 110 °C trips the package. -/
theorem thermalSample_hot (hot : (thermalTemps r).any tripsAt = true) :
    ∃ sensor reading, thermalSample s r = trip (diodesRead s r) 1 sensor reading := by
  obtain ⟨e, found⟩ := find?_of_any hot
  refine ⟨e.1, e.2.toNat, ?_⟩
  simp only [thermalSample, if_neg powered, tripsAt_eq, found]
  rfl

variable (cooler : (thermalTemps r).any tripsAt = false)
include cooler

/-- R445: else a diode that has been at 106 °C for 100 samples trips it. -/
theorem thermalSample_long (long : (hotRuns s.pwr (thermalTemps r)).any (fun e => decide (100 ≤ e.2)) = true) :
    ∃ sensor reading, thermalSample s r = trip (diodesRead s r) 2 sensor reading := by
  obtain ⟨e, found⟩ := find?_of_any long
  refine ⟨e.1, (tabGet (diodesRead s r).bit.sensors 0 e.1).toNat, ?_⟩
  simp only [thermalSample, if_neg powered, tripsAt_eq, find?_of_not_any cooler, found]
  rfl

/-- R445: else the sample is recorded. -/
theorem thermalSample_recorded (short : (hotRuns s.pwr (thermalTemps r)).any (fun e => decide (100 ≤ e.2)) = false) :
    thermalSample s r = diodesRead s r := by
  simp only [thermalSample, if_neg powered, tripsAt_eq, find?_of_not_any cooler, find?_of_not_any short]
  rfl

end

theorem outlives_diodesRead (s : State) (r : ThermalRead) : Outlives s (diodesRead s r) :=
  ⟨rfl, rfl, rfl, rfl, rfl, rfl, rfl⟩

/-! ### The fast limiter (R442) -/

/-- The power page with a sample of 100 ns. -/
def drawTaken (p : Pwr) (watts vin10 : Nat) : Pwr := { p with
  draws := (watts :: p.draws).take 10000, fastN := min 10000 (p.fastN + 1), vin10 := vin10
  pinW := sampleSum ((watts :: p.draws).take 10000) / ((watts :: p.draws).take 10000).length
  rangeLogged := p.rangeLogged && !(decide (3600 ≤ vin10) && decide (vin10 ≤ 4400)) }

/-- R442: in Active a sample also moves S, at once to 15 beyond the hard limits. -/
theorem fastSample_active {s : State} (active : s.pst = .active) (watts vin10 clk : Nat) : fastSample s watts vin10 clk =
    { s with pwr := { drawTaken s.pwr watts vin10 with
      fast10 := if 5000 < watts ∨ 125 * vin10 < 100 * watts then 150
        else if limiterRises s (drawTaken s.pwr watts vin10) then min 150 (s.pwr.fast10 + 4)
        else if watts < 5000 then s.pwr.fast10 - 1 else s.pwr.fast10
      ctr := ctrAdd s.pwr.ctr 0x190 clk } } := by
  simp only [fastSample, active, ne_eq, not_true_eq_false, if_false, Bool.or_eq_true, decide_eq_true_eq]
  rfl

theorem fastSample_inactive {s : State} (inactive : s.pst ≠ .active) (watts vin10 clk : Nat) :
    fastSample s watts vin10 clk = { s with pwr := drawTaken s.pwr watts vin10 } := if_pos inactive

/-! ### PWR.CTRL (R436, R459) -/

/-- Legal fields of PWR.CTRL. -/
def capLegal (s : State) (v : Nat) : Prop :=
  1200 ≤ bits v 15 0 ∧ bits v 15 0 ≤ partTdp s.partNo ∧ bits v 15 0 % 10 = 0 ∧ s.agt.opEn.getLsbD (bits v 35 32) = true
    ∧ bits v 63 36 = 0 ∧ bits v 31 17 = 0

/-- R459: a legal write waits for the next tick; any other is ignored. -/
theorem pwrCtrlWrite_of_legal {s : State} {v : W64} (legal : capLegal s v.toNat) :
    pwrCtrlWrite s v.toNat = { s with pwr := { s.pwr with next := some v } } := by
  obtain ⟨floor, tdp, tens, point, high, low⟩ := legal
  simp [pwrCtrlWrite, floor, tdp, tens, point, high, low]

theorem pwrCtrlWrite_of_illegal {s : State} {v : Nat} (illegal : ¬ capLegal s v) :
    pwrCtrlWrite s v = writeIgnored s 2 0x100 := by
  refine if_neg fun ok => illegal ?_
  simp only [Bool.and_eq_true, decide_eq_true_eq, beq_iff_eq, and_assoc] at ok
  exact ok

end Sys2Proof.Machine

namespace Sys2Proof.Machine

/-! ### The statement about protections -/

/-- R446: the reading of the coolant's signal when it is lost. -/
def coolantLost (s : State) : State := { s with bit := { s.bit with sensors := tabSet s.bit.sensors 0x711 0 } }

theorem outlives_coolantLost (s : State) : Outlives s (coolantLost s) := ⟨rfl, rfl, rfl, rfl, rfl, rfl, rfl⟩

theorem exec_coolFlowLow_lost {s : State} {us : Nat} (powered : s.pst ≠ .off) (long : 50000 ≤ us) :
    exec (.coolFlowLow us) s = .next (trip (coolantLost s) 3 0x711 0) :=
  congrArg Host.Outcome.next ((if_neg powered).trans (if_pos long))

/-- R448: the three faults of the input trip the package. -/
theorem exec_inputFault {s : State} (powered : s.pst ≠ .off) (up : s.pst ≠ .tripped) {k : Fin 4} (fault : k.val < 3)
    (reading : Nat) : ∃ u, exec (.inputFault k reading) s = .next u ∧ Trips s (4 + k.val) u :=
  match k, fault with
  | 0, _ => ⟨_, rfl, trip_trips powered up 4 _ reading⟩
  | 1, _ => ⟨_, rfl, trip_trips powered up 5 _ reading⟩
  | 2, _ => ⟨_, rfl, trip_trips powered up 6 _ reading⟩

/-- A sense line that opens is recorded, logged and told. -/
theorem exec_remoteSenseOpen {s : State} (powered : s.pst ≠ .off) (sound : s.pwr.rsenseLost = false) :
    exec .remoteSenseOpen s = .next (raiseIrq (logAdd { s with pwr := { s.pwr with rsenseLost := true } }
      { code := 0x74, src := 7, sev := 1 }) 5) :=
  congrArg Host.Outcome.next (if_neg (not_or.mpr ⟨powered, Bool.eq_false_iff.mp sound⟩))

theorem exec_thermistorSample {s : State} (powered : s.pst ≠ .off) (mv0 mv1 : Nat) :
    exec (.thermistorSample mv0 mv1) s = .next (thermistor (thermistor s 0 mv0) 1 mv1) :=
  congrArg Host.Outcome.next (if_neg powered)

/-- R480: a core of an Active package that is fenced is off with the cause, and the others are as they were. -/
theorem fenceCore_fences {s : State} {p : Fin 256} (on : coreOn s p = true) (cause st : Nat) :
    coreOn (fenceCore s p cause st) p = false ∧ ((fenceCore s p cause st).core p).ras.fenceCause = cause
      ∧ ∀ n, n ≠ p.val → coreOn (fenceCore s p cause st) n = coreOn s n := by
  refine ⟨?_, fenceCause_fenceCore on cause st, fun n other => ?_⟩
  · rw [coreOn_fenceCore, bne_self_eq_false, Bool.and_false]
  · rw [coreOn_fenceCore, bne_iff_ne.mpr other, Bool.and_true]

/-- Faults past their limits trip the package. -/
theorem protections_trip :
    (∀ (k : Fin 4) (reading : Nat) (s : State), k.val < 3 → s.pst ≠ .off → s.pst ≠ .tripped →
      ∃ u, exec (.inputFault k reading) s = .next u ∧ Trips s (4 + k.val) u)
    ∧ (∀ (us : Nat) (s : State), s.pst ≠ .off → s.pst ≠ .tripped → 50000 ≤ us →
      ∃ u, exec (.coolFlowLow us) s = .next u ∧ Trips s 3 u)
    ∧ (∀ (r : ThermalRead) (s : State), s.pst ≠ .off → s.pst ≠ .tripped → (thermalTemps r).any tripsAt = true →
      ∃ u, exec (.thermalSample r) s = .next u ∧ Trips s 1 u)
    ∧ (∀ (i : Fin 24) (s : State), s.pst ≠ .off → s.pst ≠ .tripped → s.pwr.stagesBad.getLsbD i = false →
      popCount 24 (s.pwr.stagesBad ||| BitVec.ofNat 24 (2 ^ i.val)).toNat > 12 →
      ∃ u, exec (.stageFail i) s = .next u ∧ Trips s 7 u)
    ∧ (∀ (r : Fin 50) (reading : Nat) (s : State), s.pst ≠ .off → s.pst ≠ .tripped → 32 ≤ r.val →
      ∃ u, exec (.railOvercurrent r reading) s = .next u ∧ Trips s 7 u) := by
  refine ⟨?input, ?coolant, ?diode, ?stages, ?rail⟩
  case input => exact fun k reading s fault powered up => exec_inputFault powered up fault reading
  case coolant =>
    intro us s powered up long
    refine ⟨_, exec_coolFlowLow_lost powered long, ?_⟩
    exact (trip_trips (s := coolantLost s) powered up 3 _ _).of_outlives (outlives_coolantLost s)
  case diode =>
    intro r s powered up hot
    obtain ⟨_, _, tripped⟩ := thermalSample_hot powered hot
    exact ⟨_, congrArg Host.Outcome.next tripped,
      (trip_trips (s := diodesRead s r) powered up 1 _ _).of_outlives (outlives_diodesRead s r)⟩
  case stages =>
    intro i s powered up sound few
    obtain ⟨n, bad⟩ : ∃ n, popCount 24 (s.pwr.stagesBad ||| BitVec.ofNat 24 (2 ^ i.val)).toNat = n := ⟨_, rfl⟩
    rw [bad] at few
    have noted : Noted _ (stageNoted s i) := told_noted ..
    refine ⟨_, (exec_stageFail powered up sound bad).trans (congrArg _ (if_pos (by omega))), ?_⟩
    refine trip_trips_noted ?_ noted powered up 7 _ _
    exact ⟨rfl, rfl, rfl, rfl, rfl, rfl, rfl⟩
  case rail =>
    intro r reading s powered up third
    have noted := railNoted_noted s r
    refine ⟨_, exec_railOvercurrent_third powered up third reading, ?_⟩
    refine trip_trips_noted ?_ noted powered up 7 _ _
    exact ⟨rfl, rfl, rfl, rfl, rfl, rfl, rfl⟩

/-- Settles O34: past their limits faults trip the package (`protections_trip`); short of them each event's equation says
what it records, and an entry of the log changes nothing else (`Noted`). -/
theorem protectionsTripOrActOnTheirSamples : Obligations.ProtectionsTripOrActOnTheirSamples := by
  unfold Obligations.ProtectionsTripOrActOnTheirSamples
  refine ⟨protections_trip, ?coolant, ?range, ?rangeAgain, ?senseAgain, ?sense, fun _ => rfl, ?stage, ?rail, ?railReset,
    ?railFence, ?droop, fun _ _ => rfl, ?fence, ?thermistors, fun _ _ _ powered => exec_thermistorSample powered _ _, ?broken,
    ?hot, ?sample, ?draw, fun _ => rfl, ?cap, ?illegal⟩
  case coolant =>
    exact fun us s powered short =>
      congrArg Host.Outcome.next ((if_neg powered).trans (if_neg (Nat.not_le.mpr short)))
  case range =>
    exact fun reading s powered new =>
      congrArg Host.Outcome.next (if_neg (not_or.mpr ⟨powered, Bool.eq_false_iff.mp new⟩))
  case rangeAgain => exact fun reading s logged => congrArg Host.Outcome.next (if_pos (.inr logged))
  case senseAgain => exact fun s open_ => congrArg Host.Outcome.next (if_pos (.inr open_))
  case sense =>
    intro s powered sound
    have noted := told_noted { s with pwr := { s.pwr with rsenseLost := true } } { code := 0x74, src := 7, sev := 1 } 5
    exact ⟨_, exec_remoteSenseOpen powered sound, rfl, noted.pwr, raiseIrq_raises _ (by decide),
      (sampleFrame_readings s _ s.bit).trans noted.sampleFrame⟩
  case stage =>
    intro i s powered up sound enough
    obtain ⟨n, bad⟩ : ∃ n, popCount 24 (s.pwr.stagesBad ||| BitVec.ofNat 24 (2 ^ i.val)).toNat = n := ⟨_, rfl⟩
    rw [bad] at enough
    have noted : Noted _ (stageNoted s i) := told_noted ..
    refine ⟨stageNoted s i, (exec_stageFail powered up sound bad).trans (congrArg _ (if_neg (by omega))), ?_, noted.pwr,
      raiseIrq_raises _ (by decide), (sampleFrame_readings s _ s.bit).trans noted.sampleFrame⟩
    rw [noted.pwr]
    rfl
  case rail =>
    intro r reading s active cluster first
    have noted := railNoted_noted s r
    have events : railEvents s r = [s.uptime] := by rw [railEvents, first]; rfl
    have near : railNear s r = 1 := by simp [railNear, events]
    refine ⟨railNoted s r, ?_, ?_, noted.pwr, ?_, raiseIrq_raises _ (by decide), ?_⟩
    · rw [exec_railOvercurrent_cluster active cluster, events, near]
      rfl
    · rw [noted.bring, railBring, tabGet_tabSet_same, events]
    · rw [noted.bring, railNoted, near]
    · exact (sameUnits_bring ..).trans noted.sampleFrame.units
  case railReset =>
    intro r reading s t active cluster once second on
    have noted := railNoted_noted s r
    have within : s.uptime < t + dayNs := Nat.lt_trans second (Nat.add_lt_add_left (by decide) t)
    have events : railEvents s r = [t, s.uptime] := by simp [railEvents, once, within]
    have near : railNear s r = 2 := by simp [railNear, events, second]
    refine ⟨resetCluster (railNoted s r) r.val 0xA3, ?_, resetCluster_resets ?_ _⟩
    · rw [exec_railOvercurrent_cluster active cluster, events, near]
      rfl
    · have same : coreOn (railNoted s r) = coreOn s := by funext p; rw [coreOn, noted.agt, coreOn]
      rw [same]
      exact on
  case railFence =>
    intro r reading s t v active cluster twice first second
    have events : railEvents s r = [t, v, s.uptime] := by simp [railEvents, twice, first, second]
    refine ⟨_, (exec_railOvercurrent_cluster active cluster reading).trans (congrArg _ (if_pos ?_)), fun p own => ?_⟩
    · rw [events]
      exact Nat.le_refl 3
    · exact coreOn_foldl_fenceCore (mem_clusterCores own) 8 0xA0 _
  case droop =>
    intro c s active new
    exact congrArg Host.Outcome.next (if_neg (not_or.mpr ⟨not_not.mpr active, Bool.eq_false_iff.mp new⟩))
  case fence =>
    intro p s active on
    obtain ⟨offU, causeU, othersU⟩ := fenceCore_fences on 7 0xA0
    obtain ⟨offV, causeV, othersV⟩ := fenceCore_fences on 6 0xA0
    exact ⟨_, _, congrArg Host.Outcome.next (if_pos active), congrArg Host.Outcome.next (if_pos active), offU, offV, causeU,
      causeV, fun n other _ => ⟨othersU n other, othersV n other⟩⟩
  case thermistors =>
    intro mv0 mv1 s powered low0 high0 low1 high1
    have first := thermistor_inRange s 0 low0 high0
    have second := thermistor_inRange (thermistor s 0 mv0) 1 low1 high1
    refine ⟨_, exec_thermistorSample powered mv0 mv1, ?_, ?_, ?_, ?_, ?_⟩
    · exact ((sampleFrame_readings s _ _).trans first.sampleFrame).trans
        ((sampleFrame_readings (thermistor s 0 mv0) _ _).trans second.sampleFrame)
    · rw [second.sensors, thermistorRead, tabGet_tabSet_ne _ _ _ _ _ (by decide), first.sensors, thermistorRead]
      exact tabGet_tabSet_same ..
    · rw [second.sensors, thermistorRead]
      exact tabGet_tabSet_same ..
    · rw [second.pwr, thermistorRead, contains_setDel, first.pwr, thermistorRead, contains_setDel, bne_self_eq_false,
        Bool.and_false, Bool.false_and]
    · rw [second.pwr, thermistorRead, contains_setDel, bne_self_eq_false, Bool.and_false]
  case broken =>
    intro i mv s out
    refine ⟨fun logged => ?_, fun new => ?_⟩
    · rw [thermistor_outOfRange out, if_pos logged]
    · rw [thermistor_outOfRange out, new, if_neg Bool.false_ne_true]
  case hot =>
    intro r s powered up cooler long
    obtain ⟨_, _, tripped⟩ := thermalSample_long powered cooler long
    exact ⟨_, congrArg Host.Outcome.next tripped,
      (trip_trips (s := diodesRead s r) powered up 2 _ _).of_outlives (outlives_diodesRead s r)⟩
  case sample =>
    exact fun r s powered cooler short => congrArg Host.Outcome.next (thermalSample_recorded powered cooler short)
  case draw =>
    intro watts vin10 clk s powered
    refine ⟨_, congrArg Host.Outcome.next (if_neg powered), ?_⟩
    by_cases active : s.pst = .active
    · rw [fastSample_active active]
      refine ⟨sampleFrame_readings s _ s.bit, rfl, rfl, rfl, rfl, rfl, fun _ hard => if_pos hard, fun _ soft => ?_⟩
      dsimp only
      rw [if_neg soft]
      split
      · exact .inl rfl
      · exact .inr rfl
    · rw [fastSample_inactive active]
      exact ⟨sampleFrame_readings s _ s.bit, rfl, rfl, rfl, rfl, rfl, fun runs => absurd runs active,
        fun runs => absurd runs active⟩
  case cap =>
    intro v s on floor tdp tens point high low
    exact congrArg Host.Outcome.next
      ((pfAccess_of_served on _).trans (pwrCtrlWrite_of_legal ⟨floor, tdp, tens, point, high, low⟩))
  case illegal =>
    intro v s on bad
    refine congrArg Host.Outcome.next ((pfAccess_of_served on _).trans (pwrCtrlWrite_of_illegal ?_))
    rintro ⟨floor, tdp, tens, point, high, low⟩
    rcases bad with h | h | h | h | h | h
    · exact Nat.not_lt.mpr floor h
    · exact Nat.not_lt.mpr tdp h
    · exact h tens
    · exact Bool.false_ne_true (h.symm.trans point)
    · exact h high
    · exact h low

end Sys2Proof.Machine

namespace Sys2Proof.Machine

/-! ### What ports and guests leave of the package's power (R361 to R364, R451, R453) -/

/-- The package state, uptime and the power page. -/
def powerView (s : State) : PkgSt × Nat × Pwr := (s.pst, s.uptime, s.pwr)

/-- Neither the units that compute and hold data nor the package's power differ. -/
structure PowerFrame (s u : State) : Prop where
  units : SameUnits s u
  power : powerView u = powerView s

theorem PowerFrame.refl (s : State) : PowerFrame s s := ⟨.refl s, rfl⟩

theorem PowerFrame.trans {s t u : State} (h : PowerFrame s t) (k : PowerFrame t u) : PowerFrame s u :=
  ⟨h.units.trans k.units, k.power.trans h.power⟩

theorem PowerFrame.ite {s t u : State} (c : Prop) [Decidable c] (ht : PowerFrame s t) (hu : PowerFrame s u) :
    PowerFrame s (if c then t else u) := by
  split <;> assumption

theorem PowerFrame.forUp {g : Nat → State → State} (hg : ∀ k t, PowerFrame t (g k t)) (n : Nat) (s : State) :
    PowerFrame s (Machine.forUp n g s) := by
  induction n with
  | zero => exact .refl s
  | succ n ih =>
    rw [forUp_succ]
    exact ih.trans (hg n _)

section
variable {s u : State} (h : PowerFrame s u)
include h

theorem PowerFrame.pst : u.pst = s.pst := congrArg Prod.fst h.power
theorem PowerFrame.uptime : u.uptime = s.uptime := congrArg (fun v => v.2.1) h.power
theorem PowerFrame.pwr : u.pwr = s.pwr := congrArg (fun v => v.2.2) h.power

end

theorem Logged.powerFrame {s u : State} (h : Logged s u) : PowerFrame s u := by
  refine ⟨h.units, ?_⟩
  obtain ⟨_, _, _, _, rfl⟩ := h
  rfl

theorem Told.powerFrame {s u : State} (h : Told s u) : PowerFrame s u := by
  refine ⟨h.units, ?_⟩
  obtain ⟨_, -, -, _, _, _, _, _, rfl, -⟩ := h
  rfl

theorem powerFrame_agtUpdate (s : State) (f : Agt → Agt) : PowerFrame s (agtUpdate s f) := ⟨sameUnits_agtUpdate s f, rfl⟩
theorem powerFrame_setPort (s : State) (k : Nat) (x : Port) : PowerFrame s (s.setPort k x) := ⟨sameUnits_fabric .., rfl⟩
theorem powerFrame_setGuest (s : State) (g : Nat) (x : Guest) : PowerFrame s (s.setGuest g x) := ⟨sameUnits_setGuest .., rfl⟩
theorem powerFrame_sent (s : State) (l : List Out) : PowerFrame s { s with sent := l } := ⟨sameUnits_fabric .., rfl⟩

section
variable (s : State) (k : Nat)

theorem powerFrame_feedSet (on : Bool) : PowerFrame s (feedSet s k on) :=
  .ite _ (.refl s) ((powerFrame_setPort ..).trans (powerFrame_sent ..))

theorem powerFrame_portSet (st : PortSt) (cause : Nat) : PowerFrame s (portSet s k st cause) := by
  have dropped : PowerFrame s (dropQueued s k) := by
    obtain ⟨_, _, eq⟩ := dropQueued_onlyPools s k
    rw [eq]
    exact ⟨sameUnits_fabric .., rfl⟩
  have moved : PowerFrame s (portMoved s k st cause) := (dropped.trans (powerFrame_setPort ..)).trans
    ((powerFrame_agtUpdate ..).trans (portChanged_logged ..).powerFrame)
  have settled : PowerFrame s (portSettled s k st cause) := .ite _ (moved.trans (powerFrame_feedSet ..)) moved
  rw [portSet_eq]
  exact .ite _ (settled.trans (portDomain_told ..).powerFrame) settled

theorem powerFrame_portTrain : PowerFrame s (portTrain s k) :=
  (powerFrame_feedSet ..).trans ((powerFrame_setPort ..).trans (powerFrame_portSet ..))

end

/-! ### Entry to Dormant (R451) -/

/-- R451: a port that is not Disabled goes Down, and its feed is disabled. -/
def portClosed (s : State) (k : Nat) : State :=
  match (s.port k).st with
  | .disabled => s
  | .down => feedSet (s.setPort k { s.port k with cause := 8 }) k false
  | _ => feedSet (portSet s k .down 8) k false

section
variable (s : State) (k : Nat)

theorem powerFrame_portClosed : PowerFrame s (portClosed s k) := by
  rw [portClosed]
  split
  · exact .refl s
  · exact (powerFrame_setPort ..).trans (powerFrame_feedSet ..)
  · exact (powerFrame_portSet ..).trans (powerFrame_feedSet ..)

theorem portFrame_portClosed : PortFrame s (portClosed s k) k := by
  rw [portClosed]
  split
  · exact .refl s k
  · exact (portFrame_setPort ..).trans (portFrame_feedSet ..)
  · exact (portFrame_portSet ..).trans (portFrame_feedSet ..)

theorem port_portClosed : ((portClosed s k).port k).st = .disabled ∨ ((portClosed s k).port k).st = .down := by
  rw [portClosed]
  split
  next off => exact .inl off
  next down =>
    obtain ⟨_, eq⟩ := port_feedSet (s.setPort k { s.port k with cause := 8 }) k false
    rw [eq, port_setPort]
    exact .inr down
  next =>
    obtain ⟨_, eq⟩ := port_feedSet (portSet s k .down 8) k false
    obtain ⟨_, down⟩ := port_portSet_of_notUp s k .down 8 (by decide)
    rw [eq, down]
    exact .inr rfl

end

/-- Ports that are closed in turn are all closed. -/
theorem port_portsClosed (s : State) (n : Nat) : ∀ k, k < n →
    ((forUp n (fun k t => portClosed t k) s).port k).st = .disabled
      ∨ ((forUp n (fun k t => portClosed t k) s).port k).st = .down := by
  induction n with
  | zero => exact fun k none => absurd none (Nat.not_lt_zero k)
  | succ n ih =>
    intro k before
    rw [forUp_succ]
    by_cases last : k = n
    · rw [last]
      exact port_portClosed ..
    · obtain ⟨-, others, -⟩ := portFrame_portClosed (forUp n (fun k t => portClosed t k) s) n
      rw [others k last]
      exact ih k (by omega)

/-- R451: a guest in service is told the power that remains. -/
def guestLimited (g : Nat) (s : State) : State :=
  if (s.guest g).st = 2 then
    { s.setGuest g { s.guest g with railW := 5 } with
      sent := (s.setGuest g { s.guest g with railW := 5 }).sent ++ [.guestMsg g 0x12 5 []] }
  else s

theorem powerFrame_guestLimited (g : Nat) (s : State) : PowerFrame s (guestLimited g s) :=
  .ite _ ((powerFrame_setGuest ..).trans (powerFrame_sent ..)) (.refl s)

theorem fab_guestLimited (g : Nat) (s : State) : (guestLimited g s).fab = s.fab := by
  rw [guestLimited]
  split <;> rfl

/-- REQ 1 in an Active package with no queue enabled and no reset under way. -/
theorem reqDormant_of_idle {s : State} (active : s.pst = .active) (entering : s.pwr.entering = false)
    (exiting : s.pwr.exiting = false) (unreset : anyReset s = false)
    (unqueued : s.queues.any (fun e => e.2.st != .disabled) = false) : reqDormant s =
    forUp 2 guestLimited (forUp 64 (fun k t => portClosed t k) { s with pwr := { s.pwr with entering := true } }) := by
  refine if_neg ?_
  rw [active, entering, exiting, unreset, unqueued]
  decide

/-- The state of the copies of memory is no part of memory. -/
theorem CopiesDrop.mem {s u : State} (h : CopiesDrop s u) : u.mem = s.mem := by
  obtain ⟨_, _, _, _, _, _, rfl, -⟩ := h
  rfl

theorem mem_dropFlight (s : State) (p : Nat) : (dropFlight s p).mem = s.mem := by
  refine (foldl_kept State.mem (fun t f => ?_) _ _).trans rfl
  split
  · exact ((copiesDrop_coreCtr ..).trans (copiesDrop_queueCtr ..)).mem
  · exact foldl_kept State.mem (fun u w => (rfl : (sendMsg u _).mem = u.mem)) _ t

theorem mem_discardCopies (s : State) : (discardCopies s).mem = s.mem := by
  refine (foldl_kept State.mem (fun t (d : Nat × Die) => ?_) _ _).trans
    (foldl_kept State.mem (fun t (c : Nat × Core) => ?_) _ s)
  · exact foldl_kept State.mem (fun u (x : RcLine) => (copiesDrop_uncache u d.1 x.addr).mem) _ t
  · exact (foldl_kept State.mem (fun u (x : StageLine) => unstage_mem u c.1 x.addr) _ _).trans (mem_dropFlight ..)

/-- Memory of which some addresses are kept reads 0 at every other. -/
theorem cellGet_filter (keep : Nat → Bool) (m : List Host.Cell) (a : Nat) :
    cellGet (m.filter (fun c => keep c.1)) a = if keep a then cellGet m a else 0 := by
  induction m with
  | nil => exact (ite_self _).symm
  | cons c m ih =>
    obtain ⟨k, b⟩ := c
    cases kept : keep k with
    | true =>
      rw [List.filter_cons_of_pos (by exact kept), cellGet, tabGet, cellGet, tabGet]
      by_cases own : k = a
      · rw [if_pos own, if_pos own, if_pos (own ▸ kept)]
      · rw [if_neg own, if_neg own]
        exact ih
    | false =>
      rw [List.filter_cons_of_neg (by exact Bool.eq_false_iff.mp kept), ih]
      by_cases own : k = a
      · rw [← own, kept, if_neg Bool.false_ne_true, if_neg Bool.false_ne_true]
      · rw [cellGet, cellGet, tabGet, if_neg own]

/-- R451: the scale entries are written back, copies are discarded and the core stores cleared. -/
def dormantStores (s : State) : State := clearStores (discardCopies (scaleWriteBack s s.numx.dirty))

theorem readByte_dormantStores (s : State) (a : Nat) :
    readByte (dormantStores s) a = if inCs a then 0 else readByte (scaleWriteBack s s.numx.dirty) a := by
  refine (cellGet_filter (fun a => !inCs a) _ a).trans ?_
  rw [mem_discardCopies]
  cases inCs a <;> rfl

theorem dormantStores_rest (s : State) : (dormantStores s).pwr = s.pwr ∧ (dormantStores s).fab = s.fab := by
  have kept := (restView_discardCopies (scaleWriteBack s s.numx.dirty)).trans (restView_scaleWriteBack s _)
  exact ⟨congrArg RestView.pwr kept, congrArg RestView.fab kept⟩

/-- R451: the power page in Dormant. -/
def dormantPwr (p : Pwr) : Pwr := { p with
  entering := false, waking := p.wakeWait, wakeWait := false, curOp := 0, nextOp := 0, idleN := 0
  idleNext := false, idleNow := false, fast10 := 0, hints := [], govern := 0 }

/-- R451: Dormant is entered with the stores cleared; what the controller logs changes nothing else. -/
theorem enterDormant_eq {s : State} (entering : s.pwr.entering = true) : ∃ t, Noted (dormantStores s) t ∧
    enterDormant s =
      logState (agtUpdate { t with pst := .dormant, pwr := dormantPwr t.pwr } (fun a => a)) .active := by
  refine ⟨if (dormantStores s).pwr.idleN = 0 then dormantStores s else capFloor (dormantStores s) 0, ?_, if_neg ?_⟩
  · split
    · exact .refl _
    · exact told_noted ..
  · rw [entering]
    decide

/-! ### Exit from Dormant (R453) -/

/-- R453: the package is Active again, with a fresh tick. -/
def woken (s : State) : State := freshTick { s with
  pst := .active, uptime := s.uptime + 3000000
  pwr := { s.pwr with waking := false, phaseMem := [], curOp := 0, nextOp := 0 } }

/-- R453: a guest in service has its budget again. -/
def guestWoken (g : Nat) (s : State) : State :=
  if (s.guest g).st = 2 then s.setGuest g { s.guest g with railW := (s.guest g).budget } else s

/-- R453: the wake ends Active, with the interrupt, and the ports that are enabled train. -/
theorem wakeDone_eq {s : State} (dormant : s.pst = .dormant) (waking : s.pwr.waking = true) : ∃ t, PowerFrame (woken s) t ∧
    wakeDone s = logState (raiseIrq t 3) .dormant := by
  have trained (t : State) : PowerFrame t (forUp (partPorts s.partNo) (fun k t => if (t.port k).en then portTrain t k else t)
      t) := .forUp (fun k t => .ite _ (powerFrame_portTrain t k) (.refl t)) _ t
  have budgeted (t : State) : PowerFrame t (forUp 2 guestWoken t) :=
    .forUp (fun g t => .ite _ (powerFrame_setGuest ..) (.refl t)) _ t
  have same : (reelect (woken s)).partNo = s.partNo := by
    obtain ⟨_, -, -, _, _, _, _, _, eq, -⟩ := reelect_told (woken s)
    rw [eq]
    rfl
  refine ⟨_, (reelect_told (woken s)).powerFrame.trans
    ((trained _).trans ((budgeted _).trans (powerFrame_agtUpdate _ (fun a => a)))), ?_⟩
  rw [← same]
  refine if_neg ?_
  rw [dormant, waking]
  decide

/-! ### Exit to Standby (R452) -/

/-- R452 steps 4 to 6: every command completes, and every core halts. -/
def drained (s : State) : State :=
  (upTo 64).foldl (fun t q => ((frameRecs (t.queue q)).filter (fun r => !r.isDone)).foldl
      (fun u r => complete u ⟨q, r.n⟩ (ownStatus r 0xA3)) t)
    (((upTo 64).foldl exitQueue s).cores.foldl (fun t c => haltCore t c.1 0xA3) ((upTo 64).foldl exitQueue s))

theorem restView_drained (s : State) : restView (drained s) = restView s := by
  refine (foldl_kept restView (fun t q => ?_) _ _).trans ((foldl_kept restView (fun t (c : Nat × Core) => ?_) _ _).trans
    (foldl_kept restView restView_exitQueue _ s))
  · exact foldl_kept restView (fun u r => restView_complete u ..) _ t
  · exact restView_haltCore ..

theorem drainOver_eq {s : State} (active : s.pst = .active) (exiting : s.pwr.exiting = true) :
    drainOver s = enterStandby (drained s) := by
  refine if_neg ?_
  rw [active, exiting]
  decide

/-! ### SET_STATE (R454, R461, R514) -/

/-- A SET_STATE that is answered, over a medium that may carry it. -/
theorem exec_setState {m : Medium} {s : State} (heard : answers s m = true) (out : m ≠ .pcie) (req : Nat) (x : SeqInput)
    (unmet : Fin 4) : exec (.setState m req x unmet) s = .next (setState s req x unmet) := by
  have carries : ([.i3c, .ethernet] : List Medium).contains m = true := by
    cases m with
    | i3c => rfl
    | ethernet => rfl
    | pcie => exact absurd rfl out
  refine congrArg Host.Outcome.next ?_
  rw [omc, heard, carries]
  rfl

end Sys2Proof.Machine

namespace Sys2Proof.Machine

/-! ### The statement about the package states -/

theorem served_of_linked {s : State} (linked : s.host.linkUp = true) (awake : s.pst = .active ∨ s.pst = .dormant) :
    served s = true := by
  rw [served, linked]
  rcases awake with active | dormant
  · rw [active]; rfl
  · rw [dormant]; rfl

/-- R451: REQ 1 closes every port of an idle package, and leaves its units. -/
theorem exec_dormantRequest {s : State} (linked : s.host.linkUp = true) (active : s.pst = .active)
    (entering : s.pwr.entering = false) (exiting : s.pwr.exiting = false) (unreset : anyReset s = false)
    (unqueued : s.queues.any (fun e => e.2.st != .disabled) = false) : ∃ u, exec .dormantRequest s = .next u
      ∧ PowerFrame { s with pwr := { s.pwr with entering := true } } u
      ∧ ∀ k, k < 64 → (u.port k).st = .disabled ∨ (u.port k).st = .down := by
  refine ⟨_, congrArg Host.Outcome.next ((pfAccess_of_served (served_of_linked linked (.inl active)) _).trans
    (reqDormant_of_idle active entering exiting unreset unqueued)), ?_, ?_⟩
  · exact (PowerFrame.forUp (fun k t => powerFrame_portClosed t k) ..).trans (.forUp powerFrame_guestLimited ..)
  · intro k before
    have told (t : State) : (forUp 2 guestLimited t).port k = t.port k :=
      congrArg (fun f : Fab => tabGet f.ports {} k) (foldl_kept State.fab (fun t g => fab_guestLimited g t) _ t)
    rw [told]
    exact port_portsClosed _ 64 k before

/-- R452: REQ 3 in Active, where no queue of a group runs. -/
theorem exec_standbyRequest_active {s : State} (linked : s.host.linkUp = true) (active : s.pst = .active)
    (entering : s.pwr.entering = false) (exiting : s.pwr.exiting = false)
    (ungrouped : ∀ q, q < 64 → ((s.queue q).groupEn && (s.queue q).st == .running) = false) :
    exec .standbyRequest s = .next { s with pwr := { s.pwr with exiting := true } } := by
  have awake : ¬ s.pst = .dormant := by rw [active]; decide
  have free : s.pst = .active ∧ (!s.pwr.entering) = true ∧ (!s.pwr.exiting) = true :=
    ⟨active, by rw [entering]; rfl, by rw [exiting]; rfl⟩
  refine congrArg Host.Outcome.next ((pfAccess_of_served (served_of_linked linked (.inl active)) _).trans
    ((if_neg awake).trans ((if_pos free).trans (foldl_eq_self fun q named => if_neg ?_))))
  exact Bool.eq_false_iff.mp (ungrouped q (List.mem_range.mp named))

/-- Settles O33: each request by its equation; rails that go off by `enterStandby_rails`, ports by `port_portsClosed`, and
completions and halts by `restView`. -/
theorem packageStatesFollowTheirRequests : Obligations.PackageStatesFollowTheirRequests := by
  unfold Obligations.PackageStatesFollowTheirRequests
  refine ⟨?applied, ?removed, ?request, ?entry, ?dormant, ?wake, ?standby, ?drain, ?start, ?clear⟩
  case applied =>
    intro mv slew dbg s off low high
    exact ⟨_, congrArg Host.Outcome.next (if_pos ⟨off, low, high⟩), rfl, rfl, rfl, rfl, rfl, rfl, rfl, rfl, rfl, rfl, rfl, rfl,
      rfl, rfl, rfl, rfl⟩
  case removed =>
    intro s unpowered
    exact ⟨_, congrArg Host.Outcome.next (if_pos unpowered), rfl, rfl, rfl, rfl, rfl, rfl, rfl, rfl, rfl, rfl⟩
  case request =>
    intro s linked active entering exiting unreset unqueued
    obtain ⟨u, run, frame, closed⟩ := exec_dormantRequest linked active entering exiting unreset unqueued
    refine ⟨u, run, by rw [frame.pwr], frame.pst.trans active, fun k before => ?_, frame.units.mem, frame.units.queues,
      frame.units.cores⟩
    rcases closed k before with off | down
    · rw [off]; decide
    · rw [down]; decide
  case entry =>
    intro s entering
    obtain ⟨t, noted, eq⟩ := enterDormant_eq entering
    obtain ⟨pwr, fab⟩ := dormantStores_rest s
    obtain ⟨_, _, _, _, logged⟩ := logState_noted
      (agtUpdate { t with pst := .dormant, pwr := dormantPwr t.pwr } (fun a => a)) .active
    refine ⟨_, congrArg Host.Outcome.next (eq.trans logged), ?_⟩
    obtain ⟨_, _, _, _, rfl⟩ := noted
    exact ⟨rfl, rfl, congrArg Pwr.wakeWait pwr, rfl, rfl, fab, readByte_dormantStores s⟩
  case dormant =>
    intro s linked dormant
    have accessed := pfAccess_of_served (served_of_linked linked (.inr dormant))
    exact ⟨congrArg Host.Outcome.next ((accessed _).trans (if_pos dormant)), _,
      congrArg Host.Outcome.next ((accessed _).trans (if_pos dormant)), enterStandby_rails s⟩
  case wake =>
    intro s dormant waking
    obtain ⟨t, frame, eq⟩ := wakeDone_eq dormant waking
    have told := raiseIrq_noted t 3
    obtain ⟨_, _, _, _, logged⟩ := logState_noted (raiseIrq t 3) .dormant
    have raised : (logState (raiseIrq t 3) .dormant).host.irqStat.getLsbD 3 = true :=
      causesStand_logAdd (stateEnergy (raiseIrq t 3)) _ 3 (raiseIrq_raises t (by decide))
    have units : SameUnits s (raiseIrq t 3) :=
      SameUnits.trans (t := woken s) ⟨rfl, rfl, rfl, rfl, rfl, rfl, rfl, rfl, rfl, rfl, rfl⟩
        (frame.units.trans told.sampleFrame.units)
    refine ⟨_, congrArg Host.Outcome.next eq, ?_⟩
    rw [logged] at raised ⊢
    exact ⟨told.pst.trans frame.pst, congrArg Pwr.waking (told.pwr.trans frame.pwr), told.uptime.trans frame.uptime,
      congrArg Pwr.phaseMem (told.pwr.trans frame.pwr), raised, units.mem, units.cores, units.queues⟩
  case standby =>
    exact fun s linked active entering exiting ungrouped =>
      exec_standbyRequest_active linked active entering exiting ungrouped
  case drain =>
    intro s active exiting
    obtain ⟨pst, off⟩ := enterStandby_rails (drained s)
    have run : exec .standbyDrainTimeout s = .next (enterStandby (drained s)) :=
      congrArg Host.Outcome.next (drainOver_eq active exiting)
    exact ⟨_, run, pst, off.mem, off.queues, off.fab, fun p => ⟨off.mxa p, off.ve p⟩, (exec_keeps _ s _ run).fuse,
      off.key.trans (by rw [bit_of_restView (restView_drained s)])⟩
  case start =>
    intro m x unmet s heard out standby idle
    refine (exec_setState heard out 2 x unmet).trans (congrArg _ ((if_pos ⟨standby, rfl⟩).trans (if_neg ?_)))
    exact Bool.eq_false_iff.mp idle
  case clear =>
    intro m x s heard out tripped
    have past : ¬ (s.pst = .standby ∧ 1 = 2) := fun h => absurd h.2 (by decide)
    refine ⟨⟨_, (exec_setState heard out 1 x 0).trans (congrArg _ ((if_neg past).trans
      ((if_pos ⟨tripped, rfl⟩).trans (if_pos rfl)))), ?_, rfl, ?_⟩, fun c unmet => ⟨_, (exec_setState heard out 1 x c).trans
      (congrArg _ ((if_neg past).trans ((if_pos ⟨tripped, rfl⟩).trans (if_neg ?_)))), ?_, rfl, ?_⟩⟩
    · exact pst_logState ..
    · exact { (railsOff_powerDown s .standby).logState .tripped with }
    · exact fun zero => unmet (Fin.ext zero)
    · exact (logAdd_noted ..).pst.trans tripped
    · exact (logAdd_noted s _).sampleFrame.units.trans ⟨rfl, rfl, rfl, rfl, rfl, rfl, rfl, rfl, rfl, rfl, rfl⟩

end Sys2Proof.Machine

namespace Sys2Proof.Machine

/-! ### Steps -/

/-- Settles O58: a step is the front command's meaning on the state with the rest of the queue. -/
theorem stepsRunTheFrontCommand : Obligations.StepsRunTheFrontCommand := by
  unfold Obligations.StepsRunTheFrontCommand
  refine ⟨fun c rest s waiting => ?_, fun s idle => ?_, fun _ _ _ => ⟨rfl, rfl⟩⟩
  · rw [step, waiting]
  · rw [step, idle]

end Sys2Proof.Machine

namespace Sys2Proof.Machine

/-! ### Doorbells (R522, R533, R534) -/

/-- R522: a doorbell write of 32 bits sets no reserved bit. -/
theorem doorbellRsv_of_fits {v : Nat} (fits : v < 2 ^ 32) (s : State) (q ofs : Nat) : doorbellRsv s q ofs v = s := if_pos fits

section
variable {s : State} {f : Fin 9} {v : W64} (linked : served s = true) (present : fnExists s f = true)
  (fits : v.toNat < 2 ^ 32)
include linked present fits

/-- R518, R533: a doorbell write that is served. -/
theorem exec_sqTail (q : Fin 64) : exec (.sqTail f q v) s = .next (sqTailWrite s f q v.toNat) := by
  refine congrArg Host.Outcome.next ((if_pos ?_).trans (by rw [doorbellRsv_of_fits fits]))
  rw [linked, present]
  rfl

theorem exec_cqHead (q : Fin 64) : exec (.cqHead f q v) s = .next (cqHeadWrite s f q v.toNat) := by
  refine congrArg Host.Outcome.next ((if_pos ?_).trans (by rw [doorbellRsv_of_fits fits]))
  rw [linked, present]
  rfl

end

section
variable {s : State} {f q v : Nat}

/-- R524: a doorbell of another function's queue. -/
theorem sqTailWrite_of_foreign (foreign : (s.queue q).func ≠ f) : sqTailWrite s f q v = foreignWrite s (queuePage q) 0 :=
  if_pos foreign

theorem cqHeadWrite_of_foreign (foreign : (s.queue q).func ≠ f) : cqHeadWrite s f q v = foreignWrite s (queuePage q) 8 :=
  if_pos foreign

variable (active : s.pst = .active) (own : (s.queue q).func = f) (runs : (s.queue q).st = .running) (fits : v < 2 ^ 32)
include active own runs fits

/-- R534: a submission doorbell that moves forward, to no more records than the ring holds. -/
theorem sqTailWrite_of_forward (forward : (v + 2 ^ 32 - (s.queue q).sqTail.toNat) % 2 ^ 32 < 2 ^ 31)
    (within : (v + 2 ^ 32 - (s.queue q).cqHead.toNat) % 2 ^ 32 ≤ (s.queue q).size) :
    sqTailWrite s f q v = s.setQueue q { s.queue q with sqTail := BitVec.ofNat 32 v } := by
  rw [sqTailWrite, Nat.mod_eq_of_lt fits]
  exact (if_neg (not_not_intro own)).trans (if_pos ⟨active, runs, forward, within⟩)

/-- R534: a completion doorbell that moves forward, to no more records than have completed. -/
theorem cqHeadWrite_of_forward (forward : (v + 2 ^ 32 - (s.queue q).cqHead.toNat) % 2 ^ 32 < 2 ^ 31)
    (within : ((s.queue q).completed % 2 ^ 32 + 2 ^ 32 - v) % 2 ^ 32 < 2 ^ 31) :
    cqHeadWrite s f q v = s.setQueue q { s.queue q with cqHead := BitVec.ofNat 32 v } := by
  rw [cqHeadWrite, Nat.mod_eq_of_lt fits]
  exact (if_neg (not_not_intro own)).trans (if_pos ⟨active, runs, forward, within⟩)

end

/-- Settles O16: each doorbell by its equation, forward or foreign. -/
theorem doorbellsMoveForward : Obligations.DoorbellsMoveForward := by
  unfold Obligations.DoorbellsMoveForward
  refine ⟨?tail, ?head, ?foreign⟩
  case tail =>
    intro f q v s active linked present fits own runs forward within
    rw [exec_sqTail (served_of_linked linked (.inl active)) present fits,
      sqTailWrite_of_forward active own runs fits forward within]
  case head =>
    intro f q v s active linked present fits own runs forward within
    rw [exec_cqHead (served_of_linked linked (.inl active)) present fits,
      cqHeadWrite_of_forward active own runs fits forward within]
  case foreign =>
    intro f q v s linked present fits foreign
    rw [exec_sqTail linked present fits, exec_cqHead linked present fits, sqTailWrite_of_foreign foreign,
      cqHeadWrite_of_foreign foreign]
    exact ⟨rfl, rfl⟩

end Sys2Proof.Machine

namespace Sys2Proof.Machine

/-! ### Accesses to the register space (R520 to R524) -/

/-- R526: every page of the index lies below the doorbells and the AGT. -/
theorem page_lt_of_indexed {pg : Nat} (indexed : (pageBlock pg).isSome = true) : pg < 0x1100 := by
  obtain ⟨b, found⟩ := Option.isSome_iff_exists.mp indexed
  have inside := List.find?_some found
  have ends : ∀ b ∈ pageIndex, b.page + b.count ≤ 0x1100 := by decide
  have last := ends b (List.mem_of_find?_eq_some found)
  rw [Bool.and_eq_true, decide_eq_true_eq, decide_eq_true_eq] at inside
  omega

theorem regSpace_page {pg o : Nat} (indexed : (pageBlock pg).isSome = true) (inside : o < 4096) :
    regSpace (4096 * pg + o) = .page pg o := by
  have low := page_lt_of_indexed indexed
  have page : (4096 * pg + o) / 4096 = pg := by omega
  have ofs : (4096 * pg + o) % 4096 = o := by omega
  rw [regSpace, if_neg (by omega), if_neg (by omega), if_neg (by omega), page, ofs, if_pos ⟨by omega, indexed⟩]

theorem regSpace_agt {o : Nat} (inside : o < 4096) : regSpace (0x3FF0000 + o) = .agt o := by
  rw [regSpace, if_pos ⟨by omega, by omega⟩, Nat.add_sub_cancel_left]

/-- R6: a number is spelled by its low bytes. -/
theorem ofLE_toLE (n x : Nat) : ofLE (toLE n x) = x % 256 ^ n := by
  induction n generalizing x with
  | zero => rw [Nat.pow_zero, Nat.mod_one]; rfl
  | succ n ih => rw [toLE, ofLE, ih, BitVec.toNat_ofNat, Nat.mod_mod, Nat.pow_succ', Nat.mod_mul]

/-- R522: a run of eight bytes at the offset of a register is that register. -/
theorem runRegs_of_register {o : Nat} (aligned : o % 8 = 0) {bs : List Byte} (whole : bs.length = 8) :
    runRegs o bs = [(o, some (ofLE bs))] := by
  have one : (o + 8 + 7) / 8 - o / 8 = 1 := by omega
  have place : o / 8 * 8 = o := by omega
  simp only [runRegs, whole, one, upTo, List.range_one, List.map_cons, List.map_nil, Nat.add_zero, place, le_refl, and_self,
    if_true, Nat.sub_self, List.drop_zero]
  rw [List.take_of_length_le (by omega)]

theorem runBytes_of_register (get : Nat → Nat) {o : Nat} (aligned : o % 8 = 0) : runBytes get o 8 = toLE 8 (get o) := by
  have one : (o + 8 + 7 - o) / 8 = 1 := by omega
  have place : o / 8 * 8 = o := by omega
  simp only [runBytes, one, place, upTo, List.range_one, List.flatMap_cons, List.flatMap_nil, Nat.mul_zero, Nat.add_zero,
    Nat.sub_self, List.drop_zero, List.append_nil]
  rw [List.take_of_length_le (by rw [length_toLE])]

theorem runOk_of_register {o : Nat} (inside : o < 4096) (aligned : o % 8 = 0) : runOk o 8 = true := by
  have ends : o + 8 ≤ 4096 := by omega
  simp [runOk, aligned, ends]

section
variable {s : State} {f : Fin 9} (linked : served s = true) (present : fnExists s f = true)
include linked present

theorem exec_registerWrite (ofs dt : Nat) (data : List Byte) :
    exec (.registerWrite f ofs dt data) s = .next (spaceWrite s dt f ofs data) := by
  refine congrArg Host.Outcome.next (if_pos ?_)
  rw [linked, present]
  rfl

theorem exec_registerRead (ofs dt n : Nat) : exec (.registerRead f ofs dt n) s
    = .next (respond (spaceRead s dt f ofs n).1 0 (spaceRead s dt f ofs n).2) := by
  refine congrArg Host.Outcome.next (if_pos ?_)
  rw [linked, present]
  rfl

end

section
variable {s : State} {f ofs : Nat} (dt : Nat)

/-- R533: what no page of the index covers takes no write. -/
theorem spaceWrite_unmapped {bs : List Byte} (some_ : bs.length ≠ 0) (space : regSpace ofs = .unmapped) :
    spaceWrite s dt f ofs bs = hostCtr s 0x248 1 := by
  simp only [spaceWrite, some_, space, if_false]

/-- R32: the AGT takes no write. -/
theorem spaceWrite_agt {bs : List Byte} {o : Nat} (some_ : bs.length ≠ 0) (space : regSpace ofs = .agt o) :
    spaceWrite s dt f ofs bs = pageErr s 0 4 0 := by
  simp only [spaceWrite, some_, space, if_false]

section
variable {pg o : Nat} (space : regSpace ofs = .page pg o)
include space

/-- R524: a page that the function does not see. -/
theorem spaceWrite_hidden {bs : List Byte} (some_ : bs.length ≠ 0) (hidden : seesPage s f pg = false) :
    spaceWrite s dt f ofs bs = foreignWrite s pg o := by
  simp only [spaceWrite, some_, space, hidden, if_false, Bool.not_false, if_true]

theorem spaceRead_hidden (n : Nat) (hidden : seesPage s f pg = false) :
    spaceRead s dt f ofs n = (s, List.replicate n 0) := by
  simp only [spaceRead, space, hidden, Bool.not_false, if_true]

variable (seen : seesPage s f pg = true) (inside : o < 4096) (aligned : o % 8 = 0)
include seen inside aligned

/-- R522: one register of a page that the function sees. -/
theorem spaceWrite_register {bs : List Byte} (whole : bs.length = 8) :
    spaceWrite s dt f ofs bs = regPutBy s dt f pg o (ofLE bs) := by
  have fits : ¬ 4096 < o + 8 := by omega
  simp only [spaceWrite, whole, space, seen, fits, runRegs_of_register aligned whole, Bool.not_true, Bool.false_eq_true,
    if_false, List.foldl_cons, List.foldl_nil, OfNat.ofNat_ne_zero]

theorem spaceRead_register : spaceRead s dt f ofs 8 = (s, toLE 8 (regGet s dt pg o)) := by
  simp only [spaceRead, space, seen, runOk_of_register inside aligned, runBytes_of_register _ aligned, Bool.not_true,
    Bool.false_eq_true, if_false]

end

theorem spaceRead_unmapped (n : Nat) (space : regSpace ofs = .unmapped) :
    spaceRead s dt f ofs n = (s, List.replicate n 0) := by
  simp only [spaceRead, space]

theorem spaceRead_agt {o : Nat} (n : Nat) (space : regSpace ofs = .agt o) :
    spaceRead s dt f ofs n = (s, agtBytes s o n) := by
  simp only [spaceRead, space]

end

/-- R524: the PF sees every page, and writes every register. -/
theorem seesPage_pf (s : State) (pg : Nat) : seesPage s 0 pg = true := by
  rw [seesPage, beq_self_eq_true, Bool.true_or]

/-! ### LOG.SEL (R516) -/

theorem regPut_logSel {v : W64} (high : bits v.toNat 63 32 = 0) (s : State) (dt : Nat) :
    regPut s dt 5 0x110 v.toNat = { s with log := { s.log with sel := v } } := by
  have clear : Nat.land v.toNat (mask 63 32) = 0 := by rw [land_mask, high, Nat.zero_mul]
  change logSelWrite s v.toNat = _
  rw [logSelWrite, rsvCheck_of_land clear, without_of_land clear]

theorem regGet_logSel (s : State) (dt : Nat) : regGet s dt 5 0x110 = s.log.sel.toNat := by
  change s.log.sel.toNat % 2 ^ 64 = _
  exact Nat.mod_eq_of_lt s.log.sel.isLt

/-- Settles O39: an access goes where its offset leads (`regSpace_page`, `regSpace_agt`). -/
theorem registersAreReadAndWritten : Obligations.RegistersAreReadAndWritten := by
  unfold Obligations.RegistersAreReadAndWritten
  refine ⟨?register, ?unmapped, ?hidden, ?agt, ?sel⟩
  case register =>
    intro pg o dt v s linked indexed inside aligned
    have space := regSpace_page indexed inside
    have seen := seesPage_pf s pg
    have value : ofLE (toLE 8 v.toNat) = v.toNat := (ofLE_toLE 8 _).trans (Nat.mod_eq_of_lt v.isLt)
    rw [exec_registerWrite linked rfl, exec_registerRead linked rfl]
    refine ⟨congrArg Host.Outcome.next ?_, congrArg Host.Outcome.next ?_⟩
    · exact (spaceWrite_register dt space seen inside aligned (length_toLE 8 _)).trans
        ((if_pos (.inl rfl)).trans (by rw [value]))
    · rw [show ((0 : Fin 9) : Nat) = 0 from rfl, spaceRead_register dt space seen inside aligned]
      rfl
  case unmapped =>
    intro f ofs dt b data s linked present space
    rw [exec_registerWrite linked present, spaceWrite_unmapped dt (bs := b :: data) (Nat.succ_ne_zero _) space]
    refine ⟨rfl, fun n => ?_⟩
    rw [exec_registerRead linked present, spaceRead_unmapped dt n space]
    rfl
  case hidden =>
    intro f pg o dt v s linked present indexed inside aligned hidden
    have space := regSpace_page indexed inside
    rw [exec_registerWrite linked present, exec_registerRead linked present,
      spaceWrite_hidden dt space (by rw [length_toLE]; decide) hidden, spaceRead_hidden dt space 8 hidden]
    exact ⟨rfl, rfl⟩
  case agt =>
    intro f o n dt b data s linked present inside
    have space := regSpace_agt inside
    rw [exec_registerWrite linked present, exec_registerRead linked present,
      spaceWrite_agt dt (bs := b :: data) (Nat.succ_ne_zero _) space, spaceRead_agt dt n space]
    exact ⟨rfl, rfl⟩
  case sel => exact fun s dt v _ high => ⟨regPut_logSel high s dt, regGet_logSel _ dt⟩

end Sys2Proof.Machine

namespace Sys2Proof.Machine

/-! ### Enables and disables (R529, R530) -/

/-- R518, R524: an access to a queue's register that is served, by a function that may write it. -/
theorem queueAccess_of_owner {s : State} {f q : Nat} (linked : served s = true) (present : fnExists s f = true)
    (own : ownsQueue s f q = true) (ofs : Nat) (k : State) : queueAccess s f q ofs k = k := by
  rw [queueAccess, linked, present, own]
  rfl

/-- R204, R529: the queue as an enable leaves it: only what its registers hold stays, and every count is zero. -/
def Queue.enabled (x : Queue) (s : State) : Queue where
  ctrl := x.ctrl
  ring := x.ring
  cring := x.cring
  origin := x.origin
  irq := x.irq
  st := .running
  epoch := bits x.ctrl.toNat 15 0
  gcount := countSince s x.origin.toNat
  ctr := tabSet [] 0x188 (ctrGet x.ctr 0x188)

theorem enableQueue_of_ok {s : State} {q : Nat} (ok : enableOk s q = true) :
    enableQueue s q = s.setQueue q ((s.queue q).enabled s) := by
  rw [enableQueue, ok]
  rfl

theorem enableQueue_of_refused {s : State} {q : Nat} (refused : enableOk s q = false) :
    enableQueue s q = writeIgnored s (queuePage q) 0x108 := by
  rw [enableQueue, refused]
  rfl

/-- R530: a disable of a queue that is enabled and whose collectives are over. -/
theorem disableQueue_of_enabled {s : State} {q : Nat} (enabled : (s.queue q).st ≠ .disabled)
    (fresh : (s.queue q).draining = false) (rests : collPending s q = false) : disableQueue s q =
    failUnstarted (s.setQueue q { s.queue q with st := .stopped, stopCode := 0, draining := true }) q 0xA4 := by
  have goes : ¬ ((s.queue q).st = .disabled ∨ (s.queue q).draining = true) :=
    not_or.mpr ⟨enabled, Bool.eq_false_iff.mp fresh⟩
  have same (x : Queue) : collPending (s.setQueue q x) q = false := rests
  simp only [disableQueue, if_neg goes, same, Bool.false_eq_true, if_false]

/-! ### The end of a drain (R530, R549) -/

/-- A core that holds nothing has nothing to release. -/
theorem release_default (q : Nat) : ({} : Core).release q = {} := by
  simp [Core.release]

/-- R530: what the end of a drain leaves: the queue Disabled without records, and the cores without what they held for it. -/
def drainEnded (s : State) (q : Nat) : State :=
  { s with cores := s.cores.map (fun (c : Nat × Core) => (c.1, c.2.release q)) }.setQueue q
    { s.queue q with st := .disabled, draining := false, recs := [] }

theorem disableDone_of_drained {s : State} {q : Nat} (drains : (s.queue q).draining = true)
    (rests : (s.queue q).frame = none) :
    disableDone s q = sendMsix (drainEnded s q) (s.queue q).func (s.queue q).stopVec := by
  have ends : ¬ (!(s.queue q).draining || (s.queue q).frame.isSome) = true := by
    rw [drains, rests]
    decide
  exact if_neg ends

theorem core_drainEnded (s : State) (q p : Nat) : (drainEnded s q).core p = (s.core p).release q :=
  tabGet_map (fun c : Core => c.release q) (release_default q) s.cores p

/-- R549: the sweep of function resets changes their list and the MSI-X tables alone. -/
theorem flrSweep_eq (s : State) : ∃ flrs msix, flrSweep s = { s with host := { s.host with flrs := flrs, msix := msix } } := by
  have ended (t : State) (f : Nat) : ∃ flrs msix, flrEnd t f = { t with host := { t.host with flrs := flrs, msix := msix } } := by
    rw [flrEnd]
    split
    · exact ⟨_, _, rfl⟩
    · exact ⟨_, _, rfl⟩
  have all (fs : List Nat) (t : State) :
      ∃ flrs msix, fs.foldl flrEnd t = { t with host := { t.host with flrs := flrs, msix := msix } } := by
    induction fs generalizing t with
    | nil => exact ⟨_, _, rfl⟩
    | cons f fs ih =>
      obtain ⟨_, _, first⟩ := ended t f
      obtain ⟨flrs, msix, rest⟩ := ih (flrEnd t f)
      exact ⟨flrs, msix, by rw [List.foldl_cons, rest, first]⟩
  exact all _ s

/-- R530: the drain of queue `q` ends; the host's side and the message apart, `drainEnded` is what is left. -/
theorem exec_disableComplete {q : Fin 64} {s : State} (drains : (s.queue q).draining = true)
    (rests : (s.queue q).frame = none) : ∃ host sent, exec (.disableComplete q) s
      = .next { drainEnded s q with host := host, sent := sent } := by
  obtain ⟨_, sent, told⟩ := sendMsix_eq (drainEnded s q) (s.queue q).func (s.queue q).stopVec
  obtain ⟨_, _, swept⟩ := flrSweep_eq (disableDone s q)
  exact ⟨_, sent, congrArg Host.Outcome.next (by rw [swept, disableDone_of_drained drains rests, told])⟩

/-- Settles O15: an enable by `enableQueue_of_ok` or `enableQueue_of_refused`, a disable by `disableQueue_of_enabled`, the
end of its drain by `exec_disableComplete`. -/
theorem queuesAreEnabledAndDisabled : Obligations.QueuesAreEnabledAndDisabled := by
  unfold Obligations.QueuesAreEnabledAndDisabled
  refine ⟨?enables, ?refuses, ?disables, ?ends⟩
  case enables =>
    intro f q s linked present own ok
    refine ⟨s.setQueue q ((s.queue q).enabled s), congrArg Host.Outcome.next ?_, ?_⟩
    · rw [queueAccess_of_owner linked present own, enableQueue_of_ok ok]
    · rw [queue_setQueue]
      exact ⟨rfl, rfl, rfl, rfl, rfl, rfl, rfl, rfl, rfl, rfl, rfl, rfl,
        fun p other => queue_setQueue_ne _ _ _ _ other, rfl, rfl, rfl⟩
  case refuses =>
    intro f q s linked present own refused
    refine congrArg Host.Outcome.next ?_
    rw [queueAccess_of_owner linked present own, enableQueue_of_refused refused]
    rfl
  case disables =>
    intro f q s linked present own enabled fresh rests
    refine congrArg Host.Outcome.next ?_
    rw [queueAccess_of_owner linked present own, disableQueue_of_enabled enabled fresh rests]
  case ends =>
    intro q s drains rests
    obtain ⟨host, sent, run⟩ := exec_disableComplete drains rests
    refine ⟨_, run, ?_⟩
    have left : State.queue { drainEnded s q with host := host, sent := sent } q
        = { s.queue q with st := .disabled, draining := false, recs := [] } := queue_setQueue ..
    rw [left]
    exact ⟨rfl, rfl, rfl, core_drainEnded s q, fun p other => queue_setQueue_ne _ _ _ _ other, rfl⟩

end Sys2Proof.Machine

namespace Sys2Proof.Machine

/-! ### Entries of the event log (R497, R500) -/

/-- R498: the entry that the ring takes. -/
def entryTaken (s : State) (e : LogIn) : LogEntry where
  ev := e
  seq := s.log.seq + 1
  auth := s.bit.key.epoch
  tick := if s.pst = .active then s.tick.last % 2 ^ 32 else 0
  uptime := s.uptime / 1000

/-- R497: the log with an entry that its ring has taken. -/
def Log.taken (l : Log) (x : LogEntry) : Log := { l with ring := (x :: l.ring).take 16384, seq := l.seq + 1 }

/-- R497: an entry that is not critical enters the ring and does nothing else. -/
theorem logStore_of_minor (s : State) {e : LogIn} (minor : e.sev ≠ 3) : logStore s e =
    { s with log := s.log.taken (entryTaken s e) } := if_neg minor

/-- R500: an entry waits for the flash, or is lost where the persistence queue is full. -/
def Log.persisted (l : Log) (x : LogEntry) : Log :=
  if l.persist.length < 256 then { l with persist := l.persist ++ [x] } else { l with lost := l.lost + 1 }

/-- R497, R500: a critical entry. -/
theorem logStore_of_critical (s : State) {e : LogIn} (critical : e.sev = 3) : logStore s e = raiseIrq { s with
    log := (s.log.taken (entryTaken s e)).persisted (entryTaken s e)
    bit := { s.bit with alertUntil := some (s.uptime + 10000000) } } 6 := if_pos critical

theorem logAdd_of_critical (s : State) {e : LogIn} (critical : e.sev = 3) : logAdd s e = logStore s e := if_pos critical

/-- R500: the first entry of a CODE and INSTANCE opens their window. -/
theorem logAdd_of_new {s : State} {e : LogIn} (minor : e.sev ≠ 3)
    (new : s.log.wins.find? (fun w => w.code == e.code && w.inst == e.inst) = none) : logAdd s e =
      logStore { s with log := { s.log with wins := s.log.wins ++ [⟨e.code, e.inst, s.uptime, 1⟩] } } e := by
  rw [logAdd, if_neg minor, new]

/-- R500: beyond 16 entries in a window an entry is only counted. -/
theorem logAdd_of_suppressed {s : State} {e : LogIn} {w : LogWin} (minor : e.sev ≠ 3)
    (known : s.log.wins.find? (fun w => w.code == e.code && w.inst == e.inst) = some w)
    (lasts : s.uptime < w.start + 1000000000) (full : 16 ≤ w.count) : logAdd s e = { s with log := { s.log with
      wins := s.log.wins.map (fun v => if v.code == e.code && v.inst == e.inst then { v with count := v.count + 1 } else v) } } := by
  rw [logAdd, if_neg minor, known]
  exact (if_neg (fun h => absurd h.1 (Nat.not_le.mpr lasts))).trans (if_neg (Nat.not_lt.mpr full))

/-! #### What the persistence queue leaves -/

theorem ring_persisted (l : Log) (x : LogEntry) : (l.persisted x).ring = l.ring := by rw [Log.persisted]; split <;> rfl
theorem seq_persisted (l : Log) (x : LogEntry) : (l.persisted x).seq = l.seq := by rw [Log.persisted]; split <;> rfl

theorem persisted_of_room {l : Log} (room : l.persist.length < 256) (x : LogEntry) :
    l.persisted x = { l with persist := l.persist ++ [x] } := if_pos room

theorem persisted_of_full {l : Log} (full : 256 ≤ l.persist.length) (x : LogEntry) :
    l.persisted x = { l with lost := l.lost + 1 } := if_neg (Nat.not_lt.mpr full)

/-- An interrupt is no entry of the log, and leaves Bittern. -/
theorem log_raiseIrq (s : State) (b : Nat) : (raiseIrq s b).log = s.log ∧ (raiseIrq s b).bit = s.bit := by
  obtain ⟨_, _, eq⟩ := raiseIrq_eq s b
  rw [eq]
  exact ⟨rfl, rfl⟩

/-- R500: what a critical entry leaves of the log and of Bittern. -/
theorem logAdd_critical_log (s : State) {e : LogIn} (critical : e.sev = 3) : (logAdd s e).log =
    (s.log.taken (entryTaken s e)).persisted (entryTaken s e) := by
  rw [logAdd_of_critical s critical, logStore_of_critical s critical, (log_raiseIrq _ 6).1]

theorem logAdd_critical_alert (s : State) {e : LogIn} (critical : e.sev = 3) :
    (logAdd s e).bit.alertUntil = some (s.uptime + 10000000) := by
  rw [logAdd_of_critical s critical, logStore_of_critical s critical, (log_raiseIrq _ 6).2]

theorem logAdd_critical_raises (s : State) {e : LogIn} (critical : e.sev = 3) :
    (logAdd s e).host.irqStat.getLsbD 6 = true := by
  rw [logAdd_of_critical s critical, logStore_of_critical s critical]
  exact raiseIrq_raises _ (by decide)

/-- R500: what the first entry of a window leaves. -/
theorem logAdd_new_eq {s : State} {e : LogIn} (minor : e.sev ≠ 3)
    (new : s.log.wins.find? (fun w => w.code == e.code && w.inst == e.inst) = none) : logAdd s e = { s with log :=
      { s.log.taken (entryTaken s e) with wins := s.log.wins ++ [⟨e.code, e.inst, s.uptime, 1⟩] } } :=
  (logAdd_of_new minor new).trans (logStore_of_minor _ minor)

/-- R518: an entry of the log by a powered package. -/
theorem exec_logEntry {s : State} (powered : s.pst ≠ .off) {code : Fin 65536} (named : code.val ≠ 0) (inst : Fin 256)
    (src : Fin 16) (sev : Fin 4) (ctrl : Bool) (args : List W64) : exec (.logEntry code inst src sev ctrl args) s = .next
      (logAdd s { code := code, inst := inst, src := src, sev := sev, ctrl := ctrl, args := args.map BitVec.toNat }) :=
  congrArg Host.Outcome.next (if_pos ⟨bne_iff_ne.mpr powered, named⟩)

/-! ### The end of a window (R500) -/

/-- R500: a window is gone. -/
def windowGone (s : State) (w : LogWin) : State := { s with log := { s.log with wins := s.log.wins.filter (fun v => v != w) } }

theorem exec_logSuppressWindow {code : Fin 65536} {inst : Fin 256} {s : State} {w : LogWin}
    (known : s.log.wins.find? (fun w => w.code == code.val && w.inst == inst.val) = some w) :
    exec (.logSuppressWindow code inst) s = .next (if 16 < w.count then
      logStore (windowGone s w) { code := 0x15, src := 0, sev := 0, args := [w.code, w.inst, w.count - 16] }
      else windowGone s w) := by
  refine congrArg Host.Outcome.next ?_
  rw [known]
  rfl

/-! ### Requests that are answered (R490, R514) -/

/-- R514: a command over a medium that may carry it. -/
theorem omc_of_answered {s : State} {m : Medium} (heard : answers s m = true) {media : List Medium}
    (carried : media.contains m = true) (f : State) : omc s m media f = f := by
  rw [omc, heard, carried]
  rfl

theorem carried_of_all (m : Medium) : allMedia.contains m = true := by cases m <;> rfl

/-- Settles O28: what enters the log by `logStore_of_critical` and `logStore_of_minor`, windows by `logAdd_of_new`,
`logAdd_of_suppressed` and `exec_logSuppressWindow`. -/
theorem logEntriesAreStored : Obligations.LogEntriesAreStored := by
  unfold Obligations.LogEntriesAreStored
  refine ⟨?enters, ?suppressed, ?window, ?persist, ?read, ?flash⟩
  case enters =>
    intro code inst src sev ctrl args s powered named first
    generalize taken : ({ code := code, inst := inst, src := src, sev := sev, ctrl := ctrl, args := args.map BitVec.toNat } : LogIn)
      = e
    have sameSev : e.sev = sev := by rw [← taken]
    refine ⟨logAdd s e, entryTaken s e, by rw [← taken]; exact exec_logEntry powered named .., (logAdd_logged ..).units, ?_⟩
    by_cases critical : e.sev = 3
    · rw [logAdd_critical_log s critical, ring_persisted, seq_persisted]
      refine ⟨rfl, rfl, rfl, rfl, rfl, rfl, rfl, fun _ => ⟨logAdd_critical_raises s critical,
        logAdd_critical_alert s critical, fun room => ?_, fun full => ?_⟩, fun minor => absurd (sameSev ▸ critical) minor⟩
      · rw [persisted_of_room (l := s.log.taken _) room]
        exact ⟨rfl, rfl⟩
      · rw [persisted_of_full (l := s.log.taken _) full]
        exact ⟨rfl, rfl⟩
    · have new : s.log.wins.find? (fun w => w.code == e.code && w.inst == e.inst) = none := by
        rw [← taken]
        exact first.resolve_left (sameSev ▸ critical)
      rw [logAdd_new_eq critical new]
      refine ⟨rfl, rfl, rfl, rfl, rfl, rfl, rfl, fun grave => absurd (sameSev.trans grave) critical,
        fun _ => ⟨rfl, rfl, ?_⟩⟩
      rw [← taken]
  case suppressed =>
    intro code inst src sev ctrl args s w powered named minor known lasts full
    rw [exec_logEntry powered named, logAdd_of_suppressed minor known lasts full]
  case window =>
    intro code inst s w known
    refine ⟨_, exec_logSuppressWindow known, ?_⟩
    by_cases many : 16 < w.count
    · rw [if_pos many, logStore_of_minor _ (by decide : (0 : Nat) ≠ 3)]
      exact ⟨⟨rfl, rfl, rfl, rfl, rfl, rfl, rfl, rfl, rfl, rfl, rfl⟩, rfl, fun few => absurd many (Nat.not_lt.mpr few),
        fun _ => ⟨_, rfl, rfl⟩⟩
    · rw [if_neg many]
      exact ⟨⟨rfl, rfl, rfl, rfl, rfl, rfl, rfl, rfl, rfl, rfl, rfl⟩, rfl, fun _ => rfl, fun more => absurd more many⟩
  case persist =>
    intro s acts
    exact congrArg Host.Outcome.next (if_neg (by rwa [Option.isNone_iff_eq_none]))
  case read =>
    intro m seq n s heard few
    refine congrArg Host.Outcome.next ?_
    rw [heard]
    exact if_neg (Nat.not_lt.mpr few)
  case flash =>
    intro m place n s heard few
    refine congrArg Host.Outcome.next ((omc_of_answered heard (carried_of_all m) _).trans ?_)
    exact if_neg (Nat.not_lt.mpr few)

end Sys2Proof.Machine

namespace Sys2Proof.Machine

/-! ### The controllers (R490, R492) -/

@[simp] theorem ctl_setCtl (s : State) (c : Bool) (x : Ctl) : (s.setCtl c x).ctl c = x := by cases c <;> rfl

@[simp] theorem ctl_setCtl_not (s : State) (c : Bool) (x : Ctl) : (s.setCtl c x).ctl (!c) = s.ctl (!c) := by cases c <;> rfl

/-- A controller is told by Bittern alone. -/
theorem ctl_congr {s u : State} (a : u.bit.bma = s.bit.bma) (b : u.bit.bmb = s.bit.bmb) (c : Bool) : u.ctl c = s.ctl c := by
  cases c
  · exact a
  · exact b

theorem Noted.ctl {s u : State} (h : Noted s u) (c : Bool) : u.ctl c = s.ctl c := by
  obtain ⟨_, _, _, _, rfl⟩ := h
  exact ctl_congr rfl rfl c

theorem Noted.units {s u : State} (h : Noted s u) : SameUnits s u := h.sampleFrame.units

/-- What Bittern holds is no unit that computes. -/
theorem sameUnits_bit (s : State) (b : Bittern) : SameUnits s { s with bit := b } :=
  ⟨rfl, rfl, rfl, rfl, rfl, rfl, rfl, rfl, rfl, rfl, rfl⟩

theorem sameUnits_setCtl (s : State) (c : Bool) (x : Ctl) : SameUnits s (s.setCtl c x) := sameUnits_bit ..

theorem ctlLog_noted (s : State) (c : Bool) (e : LogIn) : Noted s (ctlLog s c e) := logAdd_noted ..

/-- R490: the acting controller acts. -/
theorem ctl_of_acting {s : State} {a : Bool} (acts : acting s = some a) : (s.ctl a).st = .acting := by
  rw [acting] at acts
  split at acts
  next left right =>
    cases a
    · exact left
    · exact right
  next left _ =>
    cases acts
    exact left
  next right _ =>
    cases acts
    exact right
  next => cases acts

theorem ctl_of_standby {s : State} {b : Bool} (waits : standbyCtl s = some b) : (s.ctl b).st = .standby := by
  rw [standbyCtl] at waits
  split at waits
  next first =>
    cases waits
    exact first
  next =>
    split at waits
    next second =>
      cases waits
      exact second
    next => cases waits

/-- The standby controller is the one that does not act. -/
theorem standby_other {s : State} {a b : Bool} (acts : acting s = some a) (waits : standbyCtl s = some b) : a = !b := by
  have acts := ctl_of_acting acts
  have waits := ctl_of_standby waits
  refine Bool.eq_not.mpr fun same => ?_
  rw [same, waits] at acts
  cases acts

/-! ### Claims (R493 to R495) -/

/-- R495: a takeover ends a transfer, whose slot is emptied, and the SPDM exchanges. -/
theorem dropWork_eq (s : State) : ∃ a b, dropWork s = { s with bit := { s.bit with
    slot0 := a, slot1 := b, xfer := none, spdm := [] } } := by
  rw [dropWork]
  split
  next k _ => by_cases first : k = 0 <;> exact ⟨_, _, by rw [State.setSlot]; simp only [first, if_true, if_false]; rfl⟩
  next => exact ⟨_, _, rfl⟩

/-- R493: a claim that is in range and not stale succeeds. -/
theorem claimed_claimAuth {s : State} {c : Bool} (ok : ClaimOk s c) (cause : Nat) : Claimed s (claimAuth s c cause) c := by
  obtain ⟨range, fresh⟩ := ok
  obtain ⟨_, _, dropped⟩ := dropWork_eq (s.setCtl c { s.ctl c with
    st := .acting, seen := (s.ctl c).seen + 1, claim := (s.ctl c).seen + 1 })
  simp only [claimAuth, if_neg (Nat.not_le.mpr range), fresh, Bool.false_eq_true, if_false, dropped]
  split
  all_goals
    obtain ⟨_, _, _, _, logged⟩ := ctlLog_noted _ c { code := 0x10, src := 0, sev := 3, args := [s.bit.key.epoch % 2 ^ 32 + cause * 2 ^ 32] }
    rw [logged]
    cases c
    all_goals exact ⟨rfl, rfl, rfl, rfl, rfl, rfl, rfl, rfl, rfl, ⟨rfl, rfl, rfl, rfl, rfl, rfl, rfl, rfl, rfl, rfl, rfl⟩⟩

/-- R494: a controller that acted and learns of a key drops to standby, and logs it. -/
theorem loseAuth_noted {s : State} {c : Bool} (acts : (s.ctl c).st = .acting) : Noted
    (s.setCtl c { s.ctl c with seen := max (s.ctl c).seen s.bit.key.epoch, st := .standby }) (loseAuth s c) := by
  simp only [loseAuth, acts, beq_self_eq_true, if_true]
  exact ctlLog_noted ..

/-- R492: a claim that succeeds against a controller that acts leaves what a claim leaves with that one on standby, which
knows the new epoch. -/
theorem claimed_claimFrom {s : State} {b : Bool} (ok : ClaimOk s b) (acts : (s.ctl (!b)).st = .acting) (cause : Nat) :
    Claimed (s.setCtl (!b) { s.ctl (!b) with st := .standby, seen := max (s.ctl (!b)).seen ((s.ctl b).seen + 1) })
      (claimFrom s (some (!b)) b cause) b := by
  obtain ⟨key, acting', claim, seen, slot, other, xfer, spdm, trial, units⟩ := claimed_claimAuth ok cause
  have lost := loseAuth_noted (s := claimAuth s b cause) (c := !b) (by rw [other, acts])
  rw [key, other] at lost
  obtain ⟨_, _, _, _, left⟩ := lost
  simp only [claimFrom, acting', if_true, left]
  obtain ⟨mem, poison, cores, queues, fences, numx, xlat, ce, upd, fuse, pending⟩ := units
  cases b
  all_goals exact ⟨key, acting', claim, seen, slot, rfl, xfer, spdm, trial,
    ⟨mem, poison, cores, queues, fences, numx, xlat, ce, upd, fuse, pending⟩⟩

/-- A claim of the epoch after the highest that stands is never stale. -/
theorem claimOk_of_seen {s : State} {c : Bool} (range : (s.ctl c).seen < 0xFFFFFFFF) (known : s.bit.key.epoch ≤ (s.ctl c).seen) :
    ClaimOk s c := by
  refine ⟨range, ?_⟩
  have above : ¬ (s.ctl c).seen + 1 < s.bit.key.epoch := by omega
  have apart : (s.ctl c).seen + 1 ≠ s.bit.key.epoch := by omega
  rw [AuthKey.below, decide_eq_false above, beq_eq_false_iff_ne.mpr apart]
  rfl

/-! ### Boots (R492, R504) -/

/-- R504: the slots that fail before a controller boots, each logged. -/
def bootTried (s : State) (c : Bool) : State :=
  (([s.bit.primary, 1 - s.bit.primary] : List Nat).takeWhile (fun k => bootCheck s k != 0)).foldl (fun t k =>
    ctlLog t c { code := 0x21, inst := k, src := 10, sev := 3, args := [bootCheck s k] }) s

theorem Noted.foldl {α : Type} {g : State → α → State} (hg : ∀ t e, Noted t (g t e)) (l : List α) (s : State) :
    Noted s (l.foldl g s) := by
  induction l generalizing s with
  | nil => exact .refl s
  | cons e l ih => exact (hg s e).trans (ih (g s e))

theorem bootTried_noted (s : State) (c : Bool) : Noted s (bootTried s c) := .foldl (fun _ _ => ctlLog_noted ..) _ s

theorem Noted.slot {s u : State} (h : Noted s u) (k : Nat) : u.slot k = s.slot k := by
  obtain ⟨_, _, _, _, rfl⟩ := h
  rfl

section
variable {s : State} {c : Bool} (powered : s.pst ≠ .off) (boots : (s.ctl c).st = .resetting) (selfTest : Bool)
include powered boots

theorem boots_of_reset : ¬ ((!vsbUp s) = true ∨ (s.ctl c).st ≠ .resetting) := by
  rw [vsbUp, bne_iff_ne.mpr powered]
  exact not_or.mpr ⟨by decide, not_not_intro boots⟩

/-- R504: without a slot that passes a controller enters recovery. -/
theorem controllerBoot_of_none
    (fails : ([s.bit.primary, 1 - s.bit.primary] : List Nat).find? (fun k => bootCheck s k == 0) = none) :
    controllerBoot s c selfTest =
      (bootTried s c).setCtl c { (bootTried s c).ctl c with st := .recovery, slot := none } := by
  simp only [controllerBoot, if_neg (boots_of_reset powered boots), fails]
  rfl

end

/-- R504: a controller has logged the image that it boots. -/
def bootLogged (s : State) (c : Bool) (k : Nat) : State :=
  ctlLog (bootTried s c) c { code := 0x20, inst := k, src := 10, sev := 0, args :=
    [((bootTried s c).slot k).img.version, ((bootTried s c).slot k).img.svn, b2n (((bootTried s c).slot k).st == .trial)] }

theorem bootLogged_noted (s : State) (c : Bool) (k : Nat) : Noted s (bootLogged s c k) :=
  (bootTried_noted s c).trans (ctlLog_noted ..)

/-- R492: a controller that has booted an image which is not on trial stands by. -/
theorem bootDone_of_settled {s : State} {c : Bool} {k : Nat} (idle : s.bit.trial ≠ some k)
    (late : s.bit.claimedOnce = true ∨ c = true) : bootDone s c k =
      s.setCtl c { s.ctl c with slot := some k, seen := max (s.ctl c).seen s.bit.key.epoch, st := .standby } := by
  cases c
  · exact (if_neg idle).trans (if_neg (by simp [State.setCtl, late.resolve_right Bool.false_ne_true]))
  · exact (if_neg idle).trans (if_neg (by simp))

/-- R492, R504: so does one in reset, with the image of the first slot that passes. -/
theorem controllerBoot_of_settled {s : State} {c : Bool} {k : Nat} (powered : s.pst ≠ .off)
    (boots : (s.ctl c).st = .resetting) (selfTest : Bool)
    (first : ([s.bit.primary, 1 - s.bit.primary] : List Nat).find? (fun k => bootCheck s k == 0) = some k)
    (settled : (s.slot k).st ≠ .trial) (idle : s.bit.trial ≠ some k) (late : s.bit.claimedOnce = true ∨ c = true) :
    controllerBoot s c selfTest = (bootLogged s c k).setCtl c { (bootLogged s c k).ctl c with
      slot := some k, seen := max ((bootLogged s c k).ctl c).seen (bootLogged s c k).bit.key.epoch, st := .standby } := by
  have untried : (((bootTried s c).slot k).st == .trial) = false :=
    beq_eq_false_iff_ne.mpr (by rwa [(bootTried_noted s c).slot])
  have booted : controllerBoot s c selfTest = if (((bootTried s c).slot k).st == .trial && !selfTest) = true
      then rollBack (bootLogged s c k) k else bootDone (bootLogged s c k) c k := by
    simp only [controllerBoot, if_neg (boots_of_reset powered boots), first]
    rfl
  obtain ⟨_, _, _, _, logged⟩ := bootLogged_noted s c k
  rw [booted, untried]
  exact bootDone_of_settled (by rwa [logged]) (by rwa [logged])

/-! ### Watchdogs and handovers (R492) -/

/-- R506: the trial of the slot that a controller runs, when there is one, rolls back. -/
def trialEnded (s : State) (c : Bool) : State :=
  match (s.ctl c).slot with
  | some k => if s.bit.trial = some k then rollBack s k else s
  | none => s

theorem trialEnded_of_settled {s : State} {c : Bool} (settled : ∀ k, (s.ctl c).slot = some k → s.bit.trial ≠ some k) :
    trialEnded s c = s := by
  rw [trialEnded]
  split
  next k runs => exact if_neg (settled k runs)
  next => rfl

/-- R492: a controller is reset, and where the other is on standby and the first `acted`, that one claims. -/
def watchdogLeft (s : State) (c acted : Bool) : State :=
  if acted && ((resetCtl s c).ctl (!c)).st == .standby then
    claimAuth ((resetCtl s c).setCtl (!c) { (resetCtl s c).ctl (!c) with
      seen := max ((resetCtl s c).ctl (!c)).seen (resetCtl s c).bit.key.epoch }) (!c) 2
  else resetCtl s c

/-- R506: a watchdog that expires while no trial runs on the controller rolls nothing back. -/
theorem watchdog_of_settled {s : State} {c : Bool} (powered : s.pst ≠ .off) (up : (s.ctl c).st ≠ .resetting)
    (settled : ∀ k, (s.ctl c).slot = some k → s.bit.trial ≠ some k) :
    watchdog s c = watchdogLeft s c ((s.ctl c).st == .acting) := by
  have runs : ¬ ((!vsbUp s) = true ∨ (s.ctl c).st = .resetting) := by
    rw [vsbUp, bne_iff_ne.mpr powered]
    exact not_or.mpr ⟨by decide, up⟩
  have expired : watchdog s c = watchdogLeft (trialEnded s c) c ((s.ctl c).st == .acting) := if_neg runs
  rw [expired, trialEnded_of_settled settled]

theorem setCtl_comm (s : State) (c : Bool) (x y : Ctl) :
    (s.setCtl c x).setCtl (!c) y = (s.setCtl (!c) y).setCtl c x := by cases c <;> rfl

/-- R492: a handover leaves the standby controller acting, and the other on standby with the new epoch. -/
theorem claimed_handOver {a b : Bool} {s t : State} (acts : acting s = some a) (waits : standbyCtl s = some b)
    (range : max (s.ctl b).seen s.bit.key.epoch < 0xFFFFFFFF)
    (left : t = (s.setCtl a { s.ctl a with
        st := .standby, seen := max (s.ctl a).seen (max (s.ctl b).seen s.bit.key.epoch + 1) }).setCtl b
      { s.ctl b with seen := max (s.ctl b).seen s.bit.key.epoch }) : Claimed t (handOver s 3) b := by
  have other := standby_other acts waits
  subst other
  have ok : ClaimOk (s.setCtl b { s.ctl b with seen := max (s.ctl b).seen s.bit.key.epoch }) b :=
    claimOk_of_seen (by rwa [ctl_setCtl]) (by
      rw [ctl_setCtl]
      exact (congrArg AuthKey.epoch (by cases b <;> rfl)).trans_le (Nat.le_max_right (s.ctl b).seen s.bit.key.epoch))
  have claimed := claimed_claimFrom ok (by rw [ctl_setCtl_not]; exact ctl_of_acting acts) 3
  rw [ctl_setCtl, ctl_setCtl_not, setCtl_comm] at claimed
  rw [left, handOver, acts, waits]
  exact claimed

/-- Settles O29: boots by `controllerBoot_of_settled` and `controllerBoot_of_none`, claims by `claimed_claimAuth`,
handovers by `claimed_handOver`. -/
theorem authorityPassesByClaims : Obligations.AuthorityPassesByClaims := by
  unfold Obligations.AuthorityPassesByClaims
  refine ⟨?boots, ?recovers, ?initial, ?heartbeat, ?expires, ?takes, ?hands, ?writes⟩
  case boots =>
    intro c selfTest s k powered boots first settled idle late
    refine ⟨_, congrArg Host.Outcome.next (controllerBoot_of_settled powered boots selfTest first settled idle late),
      (bootLogged_noted s c k).units.trans (sameUnits_setCtl ..), ?_⟩
    obtain ⟨_, _, _, _, logged⟩ := bootLogged_noted s c k
    rw [ctl_setCtl, ctl_setCtl_not, logged]
    refine ⟨rfl, rfl, rfl, ?_, ?_⟩ <;> cases c <;> rfl
  case recovers =>
    intro c selfTest s powered boots fails
    refine ⟨_, congrArg Host.Outcome.next (controllerBoot_of_none powered boots selfTest fails),
      (bootTried_noted s c).units.trans (sameUnits_setCtl ..), ?_⟩
    obtain ⟨_, _, _, _, logged⟩ := bootTried_noted s c
    rw [ctl_setCtl, ctl_setCtl_not, logged]
    refine ⟨rfl, rfl, ?_, ?_⟩ <;> cases c <;> rfl
  case initial =>
    intro s powered unclaimed waits ok
    refine ⟨_, congrArg Host.Outcome.next (if_pos ⟨bne_iff_ne.mpr powered, by rw [unclaimed]; rfl, waits⟩), claimed_claimAuth ok 5⟩
  case heartbeat =>
    intro c s powered claimed waits ok
    exact ⟨_, congrArg Host.Outcome.next (if_pos ⟨bne_iff_ne.mpr powered, claimed, .inl waits⟩), claimed_claimAuth ok 1⟩
  case expires =>
    intro c s powered up idle settled
    refine congrArg Host.Outcome.next ((watchdog_of_settled powered up settled).trans ?_)
    rw [watchdogLeft, beq_eq_false_iff_ne.mpr idle]
    rfl
  case takes =>
    intro c s t powered acts waits settled range left
    refine ⟨_, congrArg Host.Outcome.next (watchdog_of_settled powered (by rw [acts]; decide) settled), ?_⟩
    have key : (resetCtl s c).bit.key = s.bit.key := by cases c <;> rfl
    have ok : ClaimOk t (!c) := claimOk_of_seen (by rwa [left, ctl_setCtl]) (by
      rw [left, ctl_setCtl]
      exact (congrArg AuthKey.epoch (by cases c <;> rfl)).trans_le (Nat.le_max_right (s.ctl (!c)).seen s.bit.key.epoch))
    rw [watchdogLeft, key, resetCtl, ctl_setCtl_not, acts, waits, beq_self_eq_true, beq_self_eq_true, Bool.and_true,
      if_pos rfl, ← left]
    exact claimed_claimAuth ok 2
  case hands =>
    intro a b s t acts waits range left
    have claimed := claimed_handOver acts waits range left
    refine ⟨fun linked => ⟨_, congrArg Host.Outcome.next (pfAccess_of_served linked _), claimed⟩,
      fun m heard settled => ⟨_, congrArg Host.Outcome.next ?_, claimed⟩⟩
    rw [omc_of_answered heard (carried_of_all m), acts, waits]
    show respond (handOver (trialEnded s a) 3) 0 [] = _
    rw [trialEnded_of_settled settled]
    rfl
  case writes =>
    intro block c s powered acts
    refine congrArg Host.Outcome.next (if_neg ?_)
    rw [vsbUp, bne_iff_ne.mpr powered, acts]
    decide

end Sys2Proof.Machine

namespace Sys2Proof.Machine

/-! ### Image slots (R504 to R508) -/

@[simp] theorem slot_setSlot (s : State) (k : Nat) (x : Slot) : (s.setSlot k x).slot k = x := by
  by_cases first : k = 0 <;> simp [State.setSlot, State.slot, first]

/-- There are two slots. -/
theorem slot_setSlot_other (s : State) {k : Nat} (two : k < 2) (x : Slot) :
    (s.setSlot k x).slot (1 - k) = s.slot (1 - k) ∧ (s.setSlot (1 - k) x).slot k = s.slot k := by
  obtain rfl | rfl : k = 0 ∨ k = 1 := by omega
  · exact ⟨rfl, rfl⟩
  · exact ⟨rfl, rfl⟩

/-- Slots are told by Bittern's two. -/
theorem slot_congr {s u : State} (first : u.bit.slot0 = s.bit.slot0) (second : u.bit.slot1 = s.bit.slot1) (k : Nat) :
    u.slot k = s.slot k := by rw [State.slot, State.slot, first, second]

/-- What a slot's replacement leaves of Bittern. -/
theorem bit_setSlot (s : State) (k : Nat) (x : Slot) : ∃ a b, (s.setSlot k x).bit = { s.bit with slot0 := a, slot1 := b } := by
  by_cases first : k = 0
  · exact ⟨_, _, if_pos first⟩
  · exact ⟨_, _, if_neg first⟩

theorem ctl_setSlot (s : State) (k : Nat) (x : Slot) (c : Bool) : (s.setSlot k x).ctl c = s.ctl c := by
  obtain ⟨_, _, left⟩ := bit_setSlot s k x
  exact ctl_congr (by rw [left]) (by rw [left]) c

theorem sameUnits_respond (s : State) (code : Nat) (d : List Byte) : SameUnits s (respond s code d) :=
  ⟨rfl, rfl, rfl, rfl, rfl, rfl, rfl, rfl, rfl, rfl, rfl⟩

theorem fwLog_noted (s : State) (k action : Nat) : Noted s (fwLog s k action) := logAdd_noted ..

/-- Who acts and who stands by is told by the two controllers and the key. -/
theorem standbyCtl_congr {s u : State} (a : u.bit.bma = s.bit.bma) (b : u.bit.bmb = s.bit.bmb) : standbyCtl u = standbyCtl s := by
  rw [standbyCtl, standbyCtl, a, b]

theorem acting_congr {s u : State} (a : u.bit.bma = s.bit.bma) (b : u.bit.bmb = s.bit.bmb) (key : u.bit.key = s.bit.key) :
    acting u = acting s := by rw [acting, acting, a, b, key]

/-! ### Updates (R505) -/

/-- R514: a request of an update that is answered. -/
theorem pldmFw_of_answered {s : State} {m : Medium} (heard : answersAny s m = true) (r : State × Bool) :
    pldmFw s m r = respond r.1 (b2n !r.2) [] := by
  rw [pldmFw, heard]
  rfl

theorem requestUpdate_of_idle {s : State} {k : Nat} (isOpen : updateOpen s = true) (free : s.bit.xfer = none)
    (idle : s.bit.trial = none) (room : idleSlot s = some k) (i : ImageFacts) : requestUpdate s i =
      ({ (s.setSlot k { img := i }) with bit := { (s.setSlot k { img := i }).bit with xfer := some k, verified := false } }, true) := by
  simp only [requestUpdate, room, isOpen, free, idle, Option.isNone_none, Bool.and_true, if_true]

/-- A transfer has ended. -/
def transferred (s : State) : State := { s with bit := { s.bit with xfer := none } }

/-- R505 step 2: an image that passes the boot checks. -/
def verified (s : State) (k : Nat) : State :=
  { (transferred s).setSlot k { s.slot k with st := .valid } with
    bit := { ((transferred s).setSlot k { s.slot k with st := .valid }).bit with verified := true } }

theorem verifyUpdate_of_good {s : State} {k : Nat} (sent : s.bit.xfer = some k) (good : imageCheck s (s.slot k).img = 0) :
    verifyUpdate s = (fwLog (verified s k) k 1, true) := by
  rw [verifyUpdate, sent]
  exact if_pos good

theorem verifyUpdate_of_bad {s : State} {k : Nat} (sent : s.bit.xfer = some k) (bad : imageCheck s (s.slot k).img ≠ 0) :
    verifyUpdate s = ((transferred s).setSlot k {}, false) := by
  rw [verifyUpdate, sent]
  exact if_neg bad

/-- R505 step 3: a slot goes on trial. -/
def onTrial (s : State) (k : Nat) : State :=
  { s.setSlot k { s.slot k with st := .trial } with
    bit := { (s.setSlot k { s.slot k with st := .trial }).bit with verified := false, trial := some k, primary := k } }

/-- R505 step 3: the controller that is to boot the trial's slot is the one on standby, else the acting one. -/
theorem activate_of_valid {s : State} {k : Nat} {c : Bool} (isOpen : updateOpen s = true) (good : s.bit.verified = true)
    (idle : s.bit.trial = none) (room : idleSlot s = some k) (valid : (s.slot k).st = .valid)
    (boots : standbyCtl s = some c ∨ (standbyCtl s = none ∧ acting s = some c)) :
    activate s = (resetCtl (fwLog (onTrial s k) k 2) c, true) := by
  obtain ⟨_, _, _, _, logged⟩ := fwLog_noted (onTrial s k) k 2
  obtain ⟨_, _, left⟩ := bit_setSlot s k { s.slot k with st := .trial }
  have waits : standbyCtl (fwLog (onTrial s k) k 2) = standbyCtl s :=
    standbyCtl_congr (by rw [logged]; simp only [onTrial, left]) (by rw [logged]; simp only [onTrial, left])
  have acts : acting (fwLog (onTrial s k) k 2) = acting s :=
    acting_congr (by rw [logged]; simp only [onTrial, left]) (by rw [logged]; simp only [onTrial, left])
      (by rw [logged]; simp only [onTrial, left])
  have allowed : (updateOpen s && s.bit.verified && s.bit.trial.isNone && (s.slot k).st == .valid) = true := by
    rw [isOpen, good, idle, valid]
    rfl
  simp only [activate, room, allowed, if_true]
  change (match standbyCtl (fwLog (onTrial s k) k 2), acting (fwLog (onTrial s k) k 2) with
    | some c, _ => (resetCtl (fwLog (onTrial s k) k 2) c, true)
    | none, some c => (resetCtl (fwLog (onTrial s k) k 2) c, true)
    | none, none => (resetCtl (resetCtl (fwLog (onTrial s k) k 2) false) true, true)) = _
  rw [waits, acts]
  obtain first | ⟨alone, first⟩ := boots
  · rw [first]
  · rw [alone, first]

/-- R505 step 4: the trial's slot is confirmed and the other stays VALID. -/
def confirmed (s : State) (k : Nat) : State :=
  { (s.setSlot k { s.slot k with st := .confirmed }).setSlot (1 - k)
      { (s.setSlot k { s.slot k with st := .confirmed }).slot (1 - k) with st := .valid } with
    bit := { ((s.setSlot k { s.slot k with st := .confirmed }).setSlot (1 - k)
      { (s.setSlot k { s.slot k with st := .confirmed }).slot (1 - k) with st := .valid }).bit with trial := none } }

theorem confirmed_slots (s : State) {k : Nat} (two : k < 2) : (confirmed s k).slot k = { s.slot k with st := .confirmed }
    ∧ ((confirmed s k).slot (1 - k)).st = .valid := by
  obtain rfl | rfl : k = 0 ∨ k = 1 := by omega
  · exact ⟨rfl, rfl⟩
  · exact ⟨rfl, rfl⟩

/-- R505 step 4: what the end of a trial leaves. -/
structure TrialEnds (s u : State) (k : Nat) (a : Bool) : Prop where
  units : SameUnits s u
  trial : u.bit.trial = none
  confirmed : (u.slot k).st = .confirmed
  valid : (u.slot (1 - k)).st = .valid
  image : (u.slot k).img = (s.slot k).img
  acts : (u.ctl a).st = (s.ctl a).st

theorem confirmed_ctl (s : State) (k : Nat) (c : Bool) : (confirmed s k).ctl c = s.ctl c := by
  obtain ⟨_, _, first⟩ := bit_setSlot s k { s.slot k with st := .confirmed }
  obtain ⟨_, _, second⟩ := bit_setSlot (s.setSlot k { s.slot k with st := .confirmed }) (1 - k)
    { (s.setSlot k { s.slot k with st := .confirmed }).slot (1 - k) with st := .valid }
  exact ctl_congr (by simp only [confirmed, second, first]) (by simp only [confirmed, second, first]) c

/-- R492: a reset of the controller on standby is none of the acting one. -/
theorem ctl_resetCtl_of_acting {s : State} {a c : Bool} (acts : (s.ctl a).st = .acting) (waits : standbyCtl s = some c) :
    (resetCtl s c).ctl a = s.ctl a := by
  obtain rfl : a = !c := by
    refine Bool.eq_not.mpr fun same => ?_
    rw [same, ctl_of_standby waits] at acts
    cases acts
  exact ctl_setCtl_not ..

theorem trialEnds_commitTrial {s : State} {k : Nat} {a : Bool} (two : k < 2) (acts : (s.ctl a).st = .acting) :
    TrialEnds s (commitTrial s k) k a := by
  have logged := fwLog_noted (confirmed s k) k 3
  obtain ⟨slot, other⟩ := confirmed_slots s two
  have units : SameUnits s (fwLog (confirmed s k) k 3) := (sameUnits_bit ..).trans logged.units
  have same := (logged.ctl a).trans (confirmed_ctl s k a)
  rw [← logged.slot] at slot other
  have committed : commitTrial s k = match standbyCtl (fwLog (confirmed s k) k 3) with
    | some c => resetCtl (fwLog (confirmed s k) k 3) c
    | none => fwLog (confirmed s k) k 3 := rfl
  have trial : (fwLog (confirmed s k) k 3).bit.trial = none := by
    obtain ⟨_, _, _, _, left⟩ := logged
    rw [left]
    rfl
  rw [committed]
  split
  next c waits =>
    have slots : ∀ j, (resetCtl (fwLog (confirmed s k) k 3) c).slot j = (fwLog (confirmed s k) k 3).slot j :=
      slot_congr (by cases c <;> rfl) (by cases c <;> rfl)
    refine ⟨units.trans (sameUnits_setCtl ..), ?_, by rw [slots, slot], by rw [slots, other], by rw [slots, slot], ?_⟩
    · rw [← trial]
      cases c <;> rfl
    · rw [ctl_resetCtl_of_acting (by rw [same, acts]) waits, same]
  next => exact ⟨units, trial, by rw [slot], other, by rw [slot], by rw [same]⟩

/-- R508: SVN_MIN never falls. -/
theorem execSvnCommit_eq {m : Medium} {s : State} {k : Nat} (heard : answers s m = true) (held : m ≠ .ethernet)
    (found : confirmedSlot s = some k) : ∃ t, Noted { s with bit := { s.bit with
        svnMin := max s.bit.svnMin (s.slot k).img.svn } } t ∧ execSvnCommit m s = .next (respond t 0 []) := by
  have carried : ([.i3c, .pcie] : List Medium).contains m = true := by
    cases m
    case ethernet => exact absurd rfl held
    all_goals rfl
  rw [execSvnCommit, omc_of_answered heard carried, found]
  by_cases higher : s.bit.svnMin < (s.slot k).img.svn
  · refine ⟨_, fwLog_noted _ k 5, congrArg Host.Outcome.next ((if_pos higher).trans ?_)⟩
    rw [Nat.max_eq_right higher.le]
  · refine ⟨s, ?_, congrArg Host.Outcome.next (if_neg higher)⟩
    rw [Nat.max_eq_left (Nat.not_lt.mp higher)]
    exact .refl s

/-- Settles O30: the steps of an update by `requestUpdate_of_idle`, `verifyUpdate_of_good`, `activate_of_valid`,
`trialEnds_commitTrial` and `execSvnCommit_eq`. -/
theorem firmwareIsUpdatedInSteps : Obligations.FirmwareIsUpdatedInSteps := by
  unfold Obligations.FirmwareIsUpdatedInSteps
  refine ⟨?request, ?passes, ?fails, ?activates, ?ends, ?svn⟩
  case request =>
    intro m i s k heard isOpen free idle room
    refine congrArg Host.Outcome.next ((pldmFw_of_answered heard _).trans ?_)
    rw [requestUpdate_of_idle isOpen free idle room]
    rfl
  case passes =>
    intro m s k heard two sent good
    refine ⟨_, congrArg Host.Outcome.next (pldmFw_of_answered heard _), ?_⟩
    rw [verifyUpdate_of_good sent good]
    have logged := fwLog_noted (verified s k) k 1
    have slots : ∀ j, (respond (fwLog (verified s k) k 1) (b2n !true) []).slot j
        = ((transferred s).setSlot k { s.slot k with st := .valid }).slot j :=
      fun j => (slot_congr rfl rfl j).trans ((logged.slot j).trans (slot_congr rfl rfl j))
    rw [slots, slots, slot_setSlot, (slot_setSlot_other _ two _).1]
    have units : SameUnits s (fwLog (verified s k) k 1) := (sameUnits_bit ..).trans logged.units
    refine ⟨units.trans (sameUnits_respond ..), ?_, ?_, rfl, slot_congr rfl rfl _, rfl⟩
    · obtain ⟨_, _, _, _, left⟩ := logged
      obtain ⟨_, _, kept⟩ := bit_setSlot (transferred s) k { s.slot k with st := .valid }
      refine (congrArg (fun u : State => u.bit.xfer) left).trans ?_
      simp only [verified, kept]
      rfl
    · obtain ⟨_, _, _, _, left⟩ := logged
      exact congrArg (fun u : State => u.bit.verified) left
  case fails =>
    intro m s k heard two sent bad
    refine ⟨_, congrArg Host.Outcome.next (pldmFw_of_answered heard _), ?_⟩
    rw [verifyUpdate_of_bad sent bad]
    have slots : ∀ j, (respond ((transferred s).setSlot k {}) (b2n !false) []).slot j = ((transferred s).setSlot k {}).slot j :=
      slot_congr rfl rfl
    rw [slots, slots, slot_setSlot, (slot_setSlot_other _ two _).1]
    obtain ⟨_, _, kept⟩ := bit_setSlot (transferred s) k {}
    refine ⟨(sameUnits_bit s _).trans (sameUnits_respond ..), ?_, ?_, rfl, slot_congr rfl rfl _, rfl⟩
    all_goals
      simp only [respond, kept]
      rfl
  case activates =>
    intro m s k c heard isOpen good idle room valid boots
    refine ⟨_, congrArg Host.Outcome.next (pldmFw_of_answered heard _), ?_⟩
    rw [activate_of_valid isOpen good idle room valid boots]
    have logged := fwLog_noted (onTrial s k) k 2
    have same : ∀ b, (fwLog (onTrial s k) k 2).ctl b = s.ctl b :=
      fun b => (logged.ctl b).trans ((ctl_congr rfl rfl b).trans (ctl_setSlot s k _ b))
    have slots : (fwLog (onTrial s k) k 2).slot k = { s.slot k with st := .trial } :=
      (logged.slot k).trans ((slot_congr rfl rfl k).trans (slot_setSlot ..))
    have ctls : ∀ b, (respond (resetCtl (fwLog (onTrial s k) k 2) c) (b2n !true) []).ctl b
        = ((fwLog (onTrial s k) k 2).setCtl c { seen := ((fwLog (onTrial s k) k 2).ctl c).seen }).ctl b := ctl_congr rfl rfl
    have units : SameUnits s (fwLog (onTrial s k) k 2) := (sameUnits_bit ..).trans logged.units
    rw [ctls, ctls, ctl_setCtl, ctl_setCtl_not, same, same]
    refine ⟨(units.trans (sameUnits_setCtl ..)).trans (sameUnits_respond ..), ?_, ?_, ?_, rfl, rfl, rfl, rfl⟩
    · obtain ⟨_, _, _, _, left⟩ := logged
      rw [left]
      cases c <;> rfl
    · obtain ⟨_, _, _, _, left⟩ := logged
      rw [left]
      cases c <;> rfl
    · exact (slot_congr (by cases c <;> rfl) (by cases c <;> rfl) k).trans slots
  case ends =>
    intro s k a two trial acts runs
    obtain ⟨units, idle, confirmed, valid, image, same⟩ := trialEnds_commitTrial two (ctl_of_acting acts)
    refine ⟨⟨commitTrial s k, ?_, units, idle, confirmed, valid, image, same⟩, fun m heard =>
      ⟨respond (commitTrial s k) 0 [], ?_, units.trans (sameUnits_respond ..), idle, confirmed, valid, image, same, rfl⟩⟩
    · refine congrArg Host.Outcome.next ?_
      rw [trial, acts]
      exact if_pos runs
    · refine congrArg Host.Outcome.next ((omc_of_answered heard (carried_of_all m) _).trans ?_)
      rw [trial, acts]
      exact if_pos runs
  case svn =>
    intro m s k heard held found
    obtain ⟨t, ⟨_, _, _, _, left⟩, ran⟩ := execSvnCommit_eq heard held found
    refine ⟨_, ran, ?_⟩
    rw [left]
    exact ⟨⟨rfl, rfl, rfl, rfl, rfl, rfl, rfl, rfl, rfl, rfl, rfl⟩, rfl, rfl, rfl, rfl, rfl⟩

end Sys2Proof.Machine

namespace Sys2Proof.Machine

/-! ### SPDM (R509, R510) -/

theorem spdmReq_of_ready {s : State} {m : Medium} {ok : Bool} (heard : answers s m = true) (ready : ok = true) (f : State) :
    spdmReq s m ok f = f := by
  rw [spdmReq, heard, ready]
  rfl

theorem length_drawBytes (s : State) (n : Nat) : (drawBytes s n).1.length = n :=
  (List.length_map ..).trans List.length_range

/-- A request that is answered with free bytes. -/
theorem respondFree_eq (s : State) (n : Nat) :
    ∃ d, d.length = n ∧ respondFree s n = { s with freeN := s.freeN + n, reply := some ⟨0, d⟩ } :=
  ⟨_, length_drawBytes s n, rfl⟩

/-- R510: a measurement is a digest, which is zero for a slot without an image, and its signature. -/
theorem exec_getMeasurements {s : State} {m : Medium} {index : Nat} (heard : answers s m = true)
    (agreed : spdmAt s m = .negotiated) (low : 1 ≤ index) (high : index ≤ 6) (signed : Bool) :
    ∃ d k, d.length = 48 + (if signed then 96 else 0) ∧ s.freeN ≤ k ∧ exec (.getMeasurements m index signed) s =
      .next { s with freeN := k, reply := some ⟨0, d⟩ } := by
  have ready : (spdmAt s m == .negotiated && decide (1 ≤ index) && decide (index ≤ 6)) = true := by
    rw [agreed, decide_eq_true low, decide_eq_true high]
    rfl
  have ran (f : State) : spdmReq s m (spdmAt s m == .negotiated && decide (1 ≤ index) && decide (index ≤ 6)) f = f :=
    spdmReq_of_ready heard ready f
  by_cases empty : index = 3 ∧ (ctlImage s (standbyCtl s)).isNone
  · refine ⟨_, _, ?_, Nat.le_add_right _ (if signed then 96 else 0),
      congrArg Host.Outcome.next ((ran _).trans (if_pos empty))⟩
    rw [List.length_append, List.length_replicate, length_drawBytes]
  · refine ⟨_, _, ?_, (Nat.le_add_right _ (if signed then 96 else 0)).trans (Nat.le_add_right _ 48),
      congrArg Host.Outcome.next ((ran _).trans (if_neg empty))⟩
    rw [List.length_append, length_drawBytes, length_drawBytes]

/-- Settles O31: requests of recovery by `answersAny`, of the acting controller by `omc_of_answered`, SPDM by
`spdmReq_of_ready`. -/
theorem managementRequestsAreAnswered : Obligations.ManagementRequestsAreAnswered := by
  unfold Obligations.ManagementRequestsAreAnswered
  refine ⟨?state, ?register, ?ethernet, ?datagram, ?sensor, ?mctp, ?spdm⟩
  case state =>
    intro m s heard
    refine congrArg Host.Outcome.next ?_
    rw [heard]
    rfl
  case register =>
    intro m pg o s heard low high inside whole
    refine congrArg Host.Outcome.next ((omc_of_answered heard (carried_of_all m) _).trans ?_)
    exact if_pos ⟨low, high, inside, whole⟩
  case ethernet =>
    intro enable dhcp addr mask gateway allow s heard few
    refine congrArg Host.Outcome.next ((omc_of_answered (media := [.i3c]) heard rfl _).trans ?_)
    exact if_neg (Nat.not_lt.mpr few)
  case datagram =>
    intro peer s powered enabled
    have up : mediumUp s .ethernet = true := by
      rw [mediumUp, vsbUp, bne_iff_ne.mpr powered, enabled]
      rfl
    refine congrArg Host.Outcome.next ?_
    rw [up]
    cases s.bit.eth.allow.contains peer <;> rfl
  case sensor =>
    intro m id v s heard known present notPower notVin sampled
    have value : sensorValue s id = (s, toLE 4 (toBits 32 v)) := by
      rw [sensorValue, if_neg notPower, if_neg notVin, sampled]
    refine congrArg Host.Outcome.next ?_
    simp only [heard, known, present, value, Bool.not_true, Bool.false_eq_true, if_false]
    rfl
  case mctp =>
    intro m e s heard
    refine ⟨congrArg Host.Outcome.next ?_, congrArg Host.Outcome.next ?_⟩
    all_goals
      rw [heard]
      rfl
  case spdm =>
    intro m s heard
    refine ⟨congrArg Host.Outcome.next (spdmReq_of_ready heard rfl _), fun begun => ?_, fun agreed => ?_,
      fun agreed n index signed low high => ⟨?_, ?_, ?_, exec_getMeasurements heard agreed low high signed⟩⟩
    · exact congrArg Host.Outcome.next (spdmReq_of_ready heard (bne_iff_ne.mpr begun) _)
    · refine congrArg Host.Outcome.next (spdmReq_of_ready heard ?_ _)
      obtain come | come := agreed <;> rw [come] <;> rfl
    · obtain ⟨d, length, answer⟩ := respondFree_eq s 48
      exact ⟨d, length, congrArg Host.Outcome.next ((spdmReq_of_ready heard (by rw [agreed]; rfl) _).trans answer)⟩
    · obtain ⟨d, length, answer⟩ := respondFree_eq s n
      exact ⟨d, length, congrArg Host.Outcome.next ((spdmReq_of_ready heard (by rw [agreed]; rfl) _).trans answer)⟩
    · obtain ⟨d, length, answer⟩ := respondFree_eq s 96
      exact ⟨d, length, congrArg Host.Outcome.next ((spdmReq_of_ready heard (by rw [agreed]; rfl) _).trans answer)⟩

/-! ### Isolated buses (R513, R563) -/

theorem Noted.forUp {g : Nat → State → State} (hg : ∀ i t, Noted t (g i t)) (n : Nat) (s : State) : Noted s (forUp n g s) := by
  induction n with
  | zero => exact .refl s
  | succ n ih => rw [forUp_succ]; exact ih.trans (hg n _)

/-- The two laser management buses are isolated one by one. -/
theorem laserBus_isolated (x : BitVec 2) (b c : Fin 2) : (x ||| BitVec.ofNat 2 (2 ^ b.val)).getLsbD b.val = true
    ∧ (c ≠ b → (x ||| BitVec.ofNat 2 (2 ^ b.val)).getLsbD c.val = x.getLsbD c.val) := by
  revert x b c
  decide

theorem laserBus_rejoined (x : BitVec 2) (b c : Fin 2) : (x &&& ~~~BitVec.ofNat 2 (2 ^ b.val)).getLsbD b.val = false
    ∧ (c ≠ b → (x &&& ~~~BitVec.ofNat 2 (2 ^ b.val)).getLsbD c.val = x.getLsbD c.val) := by
  revert x b c
  decide

/-! ### The test access port (R564) -/

/-- The state after an edge in state `st` of the diagram, with the registers of `x`. -/
def tapMoved (s : State) (st : TapSt) (tms : Bool) (x : Tap) : State :=
  { s with bit := { s.bit with tap := { x with
    st := tapNext st tms, ir := if tapNext st tms = .tlr then .idcode else x.ir } } }

/-- The boundary register is all that an edge captures of free values. -/
theorem tapCapture_free (s : State) : ∃ n d, tapCapture s = ({ s with freeN := n }, d) := by
  have drawn : ∀ (l : List Nat) (r : State × List Bool), ∃ n d, l.foldl (fun (r : State × List Bool) _ =>
      ((drawChoice r.1 2).2, r.2 ++ [(drawChoice r.1 2).1 == 1])) r = ({ r.1 with freeN := n }, d) := by
    intro l
    induction l with
    | nil => exact fun r => ⟨r.1.freeN, r.2, rfl⟩
    | cons _ l ih => exact fun r => ih _
  rw [tapCapture]
  split
  · exact ⟨s.freeN, _, rfl⟩
  · exact drawn _ (s, [])
  · exact drawn _ (s, [])
  · exact ⟨s.freeN, _, rfl⟩

section
variable {s : State} (tms tdi : Bool)

theorem tapEdge_of_capDr (state : s.bit.tap.st = .capDr) : ∃ n, tapEdge s tms tdi =
    tapMoved { s with freeN := n } .capDr tms { s.bit.tap with dr := (tapCapture s).2 } := by
  obtain ⟨n, d, free⟩ := tapCapture_free s
  refine ⟨n, ?_⟩
  simp only [tapEdge, state, free]
  rfl

theorem tapEdge_of_shDr (state : s.bit.tap.st = .shDr) : tapEdge s tms tdi = tapMoved s .shDr tms { s.bit.tap with
    dr := s.bit.tap.dr.drop 1 ++ [tdi], tdo := s.bit.tap.dr.headD tdi } := by
  simp only [tapEdge, state]
  rfl

theorem tapEdge_of_shIr (state : s.bit.tap.st = .shIr) : tapEdge s tms tdi = tapMoved s .shIr tms { s.bit.tap with
    irShift := s.bit.tap.irShift.drop 1 ++ [tdi], tdo := s.bit.tap.irShift.headD tdi } := by
  simp only [tapEdge, state]
  rfl

theorem tapEdge_of_capIr (state : s.bit.tap.st = .capIr) : tapEdge s tms tdi = tapMoved s .capIr tms { s.bit.tap with
    irShift := (upTo Config.tapIrLen).map (fun i => i == 0) } := by
  simp only [tapEdge, state]
  rfl

theorem tapEdge_of_updIr (state : s.bit.tap.st = .updIr) : tapEdge s tms tdi = tapMoved s .updIr tms { s.bit.tap with
    ir := tapDecode s.bit.tap.irShift } := by
  simp only [tapEdge, state]
  rfl

/-- An edge moves the port along the diagram, and nothing but its registers and the free values it drew. -/
theorem tapEdge_moved : ∃ n x, tapEdge s tms tdi = tapMoved { s with freeN := n } s.bit.tap.st tms x := by
  cases state : s.bit.tap.st
  case capDr =>
    obtain ⟨n, moved⟩ := tapEdge_of_capDr tms tdi state
    exact ⟨n, _, moved⟩
  case shDr => exact ⟨s.freeN, _, tapEdge_of_shDr tms tdi state⟩
  case shIr => exact ⟨s.freeN, _, tapEdge_of_shIr tms tdi state⟩
  case capIr => exact ⟨s.freeN, _, tapEdge_of_capIr tms tdi state⟩
  case updIr => exact ⟨s.freeN, _, tapEdge_of_updIr tms tdi state⟩
  all_goals
    refine ⟨s.freeN, s.bit.tap, ?_⟩
    simp only [tapEdge, state]
    rfl

end

/-- R564: the port that serves has its number. -/
def tapServing (s : State) (seven : Bool) : State := { s with bit := { s.bit with tapPort := if seven then 2 else 1 } }

section
variable {s : State} {seven : Bool} (powered : s.pst ≠ .off)
  (port : s.bit.tapPort = 0 ∨ s.bit.tapPort = (if seven then 2 else 1)) (tms tdi : Bool)
include powered port

theorem tap_serves : ¬ ((!vsbUp s) = true ∨ (s.bit.tapPort ≠ 0 ∧ s.bit.tapPort ≠ (if seven then 2 else 1))) := by
  rw [vsbUp, bne_iff_ne.mpr powered]
  exact not_or.mpr ⟨by decide, fun ⟨used, other⟩ => port.elim used other⟩

theorem exec_tapClock_reset : exec (.tapClock seven tms tdi true) s = .next { s with
    bit := { s.bit with tapPort := if seven then 2 else 1, tap := {} } } := if_neg (tap_serves powered port)

theorem exec_tapClock_private (loaded : tapServed s s.bit.tap.ir = .priv ∧ s.bit.tap.st = .capDr) :
    exec (.tapClock seven tms tdi false) s = .refused .privateTest :=
  (if_neg (tap_serves powered port)).trans ((if_neg (by decide)).trans (if_pos loaded))

theorem exec_tapClock_edge (known : ¬ (tapServed s s.bit.tap.ir = .priv ∧ s.bit.tap.st = .capDr)) :
    exec (.tapClock seven tms tdi false) s = .next (tapEdge (tapServing s seven) tms tdi) :=
  (if_neg (tap_serves powered port)).trans ((if_neg (by decide)).trans (if_neg known))

end

/-- R564: an edge at the port that serves. -/
theorem tapEdge_follows (s : State) (seven tms tdi : Bool) (u : State) (edge : tapEdge (tapServing s seven) tms tdi = u) :
    SameUnits s u ∧ u.bit.tapPort = (if seven then 2 else 1) ∧ u.bit.tap.st = tapNext s.bit.tap.st tms
      ∧ (tapNext s.bit.tap.st tms = .tlr → u.bit.tap.ir = .idcode) := by
  obtain ⟨n, x, moved⟩ := tapEdge_moved (s := tapServing s seven) tms tdi
  rw [← edge, moved]
  exact ⟨⟨rfl, rfl, rfl, rfl, rfl, rfl, rfl, rfl, rfl, rfl, rfl⟩, rfl, rfl, fun reset => if_pos reset⟩

/-- R564: the identity is what Capture-DR loads under IDCODE. -/
theorem tapCapture_of_idcode {s : State} (identity : s.bit.tap.ir = .idcode) :
    (tapCapture s).2 = (upTo 32).map (fun i => (tapIdcode s.fuse.ka.stepping).testBit i) := by
  rw [tapCapture, identity]
  rfl

/-- Settles O32: buses by what an entry of the log keeps, edges by `tapEdge_follows` and the equations of `tapEdge`. -/
theorem busesRejoinAndTapFollowsItsDiagram : Obligations.BusesRejoinAndTapFollowsItsDiagram := by
  unfold Obligations.BusesRejoinAndTapFollowsItsDiagram
  refine ⟨⟨?isolates, ?rejoins, ?lasers, ?laserRejoins, ?interrupt⟩, ?edge, ?other, ?reset, ?refuses⟩
  case isolates =>
    intro scl sda s powered whole low
    have acts : ¬ (((!vsbUp s) || s.bit.i3cIsolated || !(scl || sda)) = true) := by
      rw [vsbUp, bne_iff_ne.mpr powered, whole, (Bool.or_eq_true _ _).mpr low]
      decide
    refine ⟨_, congrArg Host.Outcome.next (if_neg acts), rfl, ?_, (sameUnits_bit ..).trans (logAdd_noted ..).units⟩
    obtain ⟨_, _, _, _, left⟩ := logAdd_noted { s with bit := { s.bit with i3cIsolated := true } }
      { code := 0x14, src := 0, sev := 1, args := [b2n scl + 2 * b2n sda] }
    exact congrArg (fun u : State => u.bit.i3cIsolated) left
  case rejoins =>
    intro s isolated
    refine ⟨_, congrArg Host.Outcome.next (if_neg (by rw [isolated]; decide)), rfl, ?_,
      (sameUnits_bit ..).trans (logAdd_noted ..).units⟩
    obtain ⟨_, _, _, _, left⟩ := logAdd_noted { s with bit := { s.bit with i3cIsolated := false } }
      { code := 0x14, src := 0, sev := 1, args := [0, 1] }
    exact congrArg (fun u : State => u.bit.i3cIsolated) left
  case lasers =>
    intro b s powered whole
    have acts : ¬ (((!vsbUp s) || s.bit.lsmIsolated.getLsbD b) = true) := by
      rw [vsbUp, bne_iff_ne.mpr powered, whole]
      decide
    have logged := Noted.forUp (fun k t => logAdd_noted t
      { code := 0x53, inst := 8 * b + k, src := 5, sev := 1, args := [0, 0xFFFFFFFF] }) 8
      { s with bit := { s.bit with lsmIsolated := s.bit.lsmIsolated ||| BitVec.ofNat 2 (2 ^ b.val) } }
    refine ⟨_, congrArg Host.Outcome.next (if_neg acts), rfl, ?_, (sameUnits_bit ..).trans logged.units, fun c apart => ?_⟩
    · obtain ⟨_, _, _, _, left⟩ := logged
      rw [left]
      exact (laserBus_isolated s.bit.lsmIsolated b b).1
    · obtain ⟨_, _, _, _, left⟩ := logged
      rw [left]
      exact (laserBus_isolated s.bit.lsmIsolated b c).2 apart
  case laserRejoins =>
    intro b s
    exact ⟨_, rfl, (laserBus_rejoined s.bit.lsmIsolated b b).1, fun c apart => (laserBus_rejoined s.bit.lsmIsolated b c).2 apart, rfl⟩
  case interrupt =>
    intro e feed flags s acts whole
    refine congrArg Host.Outcome.next (if_neg ?_)
    rw [whole, Option.isNone_eq_false_iff.mpr (Option.isSome_iff_ne_none.mpr acts)]
    decide
  case edge =>
    intro seven tms tdi s powered port known
    obtain ⟨units, served, next, identity⟩ := tapEdge_follows s seven tms tdi _ rfl
    refine ⟨_, exec_tapClock_edge powered port tms tdi known, units, served, next, identity, fun state => ?_, fun state => ?_,
      fun state loaded => ?_⟩
    · rw [tapEdge_of_shDr (s := tapServing s seven) tms tdi state]
      exact ⟨rfl, rfl, rfl⟩
    · rw [tapEdge_of_shIr (s := tapServing s seven) tms tdi state]
      exact ⟨rfl, rfl, rfl⟩
    · obtain ⟨n, moved⟩ := tapEdge_of_capDr (s := tapServing s seven) tms tdi state
      rw [moved]
      exact tapCapture_of_idcode (s := tapServing s seven) loaded
  case other =>
    intro seven tms tdi trst s used other
    exact if_pos (.inr ⟨used, other⟩)
  case reset => exact fun seven tms tdi s powered port => exec_tapClock_reset powered port tms tdi
  case refuses =>
    intro seven tms tdi s powered port loaded isOpen state
    refine exec_tapClock_private powered (.inr port) tms tdi ⟨?_, state⟩
    rw [loaded, tapServed, isOpen]
    rfl

end Sys2Proof.Machine

namespace Sys2Proof.Machine

/-! ### BAR4 (R541, R542) -/

/-- R541: a base within its field, aligned and inside HBM, is taken as written. -/
theorem bar4BaseWrite_of_fits {s : State} {v : W64} (high : bits v.toNat 63 44 = 0) (low : bits v.toNat 29 0 = 0)
    (aligned : v.toNat % 2 ^ s.host.bar4Log = 0) (inside : v.toNat + 2 ^ s.host.bar4Log ≤ 0x20000000000) :
    bar4BaseWrite s v.toNat = { s with host := { s.host with bar4Base := v } } := by
  have legal : Nat.land v.toNat (mask 63 44 + mask 29 0) = 0 := by
    rw [land_mask_add_mask _ _ _ _ _ (by decide), land_mask, land_mask, high, low]
    rfl
  have field : bits v.toNat 43 30 * 2 ^ 30 = v.toNat := by
    have word := v.isLt
    simp only [bits, Nat.shiftRight_eq_div_pow] at high low ⊢
    omega
  simp only [bar4BaseWrite, rsvCheck_of_land legal, field]
  rw [if_pos ⟨aligned, inside⟩, BitVec.ofNat_toNat, BitVec.setWidth_eq]

/-- R541: memory that BAR4 reaches is of no die that is fenced late. -/
theorem sound_of_bar4Hbm {s : State} {a n : Nat} (nonempty : n ≠ 0) (reached : bar4Hbm s a n = true) : lateDie s a = false := by
  have first : a / 64 * 64 ∈ linesOf a n := by
    rw [linesOf, if_neg nonempty]
    exact List.mem_map.mpr ⟨0, List.mem_range.mpr (Nat.zero_lt_succ _), rfl⟩
  have sound := List.all_eq_true.mp reached _ first
  rw [Bool.and_eq_true, Bool.not_eq_true'] at sound
  have home : homeDie (a / 64 * 64) = homeDie a := by
    simp only [homeDie, Nat.shiftRight_eq_div_pow]
    omega
  have space : inHbm (a / 64 * 64) = inHbm a := decide_eq_decide.mpr (by omega)
  rw [lateDie, ← space, ← home]
  exact sound.2

/-- R541: a target lies in memory that BAR4 reaches. -/
theorem bar4Hbm_of_target {s : State} {f o n a : Nat} {wr : Bool} (target : bar4Target s f o n wr = some a) :
    bar4Hbm s a n = true := by
  rw [bar4Target] at target
  split at target
  · dsimp only at target
    split at target
    next fits =>
      cases target
      exact fits.2
    next => cases target
  · dsimp only at target
    split at target
    · cases target
    · split at target
      next =>
        split at target
        next fits =>
          cases target
          exact fits.2
        next => cases target
      next => cases target

/-- R541: the PF's BAR4 shows HBM from BAR4_BASE. -/
theorem bar4Target_pf (s : State) (o n : Nat) (wr : Bool) : bar4Target s 0 o n wr =
    if o + n ≤ 2 ^ s.host.bar4Log ∧ bar4Hbm s (s.host.bar4Base.toNat + o) n = true
    then some (s.host.bar4Base.toNat + o) else none := rfl

/-- R545: a walk of a context is counted. -/
theorem bar4Note_counted (s : State) (f o n : Nat) (wr : Bool) : OnlyWalksCounted s (bar4Note s f o n wr) := by
  rw [bar4Note]
  split
  · exact ⟨_, rfl, fun _ => rfl⟩
  · exact vnote_onlyWalksCounted ..

section
variable {s : State} {f : Fin 9} (linked : served s = true) (present : fnExists s f = true) (active : s.pst = .active) (o : Nat)
include linked present active

theorem exec_bar4Read {n : Nat} (nonempty : 0 < n) : exec (.bar4Read f o n) s = .next (
    match bar4Target s f o n false with
    | none => respond (hostCtr (bar4Note s f o n false) 0x250 1) 1 []
    | some a => respond (detect (bar4Note s f o n false) a n)
        (if rangeBad (detect (bar4Note s f o n false) a n) a n then 2 else 0)
        (readBytes (detect (bar4Note s f o n false) a n) a n)) := by
  have runs : ¬ ((!served s || !fnExists s f || n = 0) = true) := by
    rw [linked, present, decide_eq_false (Nat.pos_iff_ne_zero.mp nonempty)]
    decide
  refine congrArg Host.Outcome.next ((if_neg runs).trans ((if_neg (by rw [active]; decide)).trans ?_))
  cases bar4Target s f o n false <;> rfl

theorem exec_bar4Write {data : List Byte} (nonempty : data ≠ []) (ep : Bool) : exec (.bar4Write f o data ep) s = .next (
    if ep then hostCtr s 0x250 1
    else match bar4Target s f o data.length true with
      | none => hostCtr (bar4Note s f o data.length true) 0x250 1
      | some a => writeMem (bar4Note s f o data.length true) a data false) := by
  have runs : ¬ ((!served s || !fnExists s f || data.isEmpty || s.pst == .dormant) = true) := by
    rw [linked, present, active, List.isEmpty_eq_false_iff.mpr nonempty]
    decide
  refine congrArg Host.Outcome.next ((if_neg runs).trans ?_)
  cases ep
  · cases bar4Target s f o data.length true <;> rfl
  · rfl

/-- R541: a read answers the bytes of its target, marked where detection leaves one poisoned. -/
theorem exec_bar4Read_of_target {n a : Nat} (nonempty : 0 < n) (target : bar4Target s f o n false = some a) :
    ∃ u, exec (.bar4Read f o n) s = .next u
      ∧ u.reply = some ⟨if rangeBad (detect (bar4Note s f o n false) a n) a n then 2 else 0, readBytes s a n⟩
      ∧ u.mem = s.mem ∧ u.queues = s.queues ∧ u.fences = s.fences := by
  have ran := exec_bar4Read linked present active o nonempty
  rw [target] at ran
  dsimp only at ran
  have bytes : readBytes (detect (bar4Note s f o n false) a n) a n = readBytes s a n := by
    obtain ⟨_, counted, -⟩ := bar4Note_counted s f o n false
    refine List.map_congr_left fun i _ => (readByte_detect ..).trans ?_
    rw [counted]
    rfl
  rw [bytes] at ran
  refine ⟨_, ran, rfl, ?_⟩
  obtain ⟨_, _, _, _, _, _, _, _, told⟩ := detect_detected (bar4Note s f o n false) a n
  obtain ⟨_, counted, -⟩ := bar4Note_counted s f o n false
  rw [told, counted]
  exact ⟨rfl, rfl, rfl⟩

/-- R541: a write stores its bytes at its target and nothing else. -/
theorem exec_bar4Write_of_target {data : List Byte} {a : Nat} (nonempty : data ≠ [])
    (target : bar4Target s f o data.length true = some a) : ∃ u, exec (.bar4Write f o data false) s = .next u
      ∧ (∀ b, readByte u b = if a ≤ b ∧ b < a + data.length then data.getD (b - a) 0 else readByte s b)
      ∧ u.fences = s.fences ∧ u.tick = s.tick ∧ u.fab = s.fab := by
  have ran := exec_bar4Write linked present active o nonempty false
  rw [if_neg (by decide), target] at ran
  have sound := sound_of_bar4Hbm (mt List.length_eq_zero_iff.mp nonempty) (bar4Hbm_of_target target)
  obtain ⟨_, counted, -⟩ := bar4Note_counted s f o data.length true
  rw [counted] at ran
  dsimp only at ran
  have sound' (xlat) : lateDie { s with xlat := xlat } a = false := sound
  refine ⟨_, ran, readByte_writeMem_of_sound (sound' _) data false, ?_⟩
  obtain ⟨_, _, _, _, _, _, dropped, -⟩ := copiesDrop_writeMem nonempty (sound' _) false
  rw [dropped, storeBytes]
  split <;> exact ⟨rfl, rfl, rfl⟩

end

/-- R542: an access that BAR4 may not reach is counted. -/
theorem refused_counted (s : State) (f o n : Nat) (wr : Bool) :
    ctrGet (hostCtr (bar4Note s f o n wr) 0x250 1).host.ctr 0x250 = ctrGet s.host.ctr 0x250 + 1
      ∧ (hostCtr (bar4Note s f o n wr) 0x250 1).mem = s.mem := by
  obtain ⟨_, counted, -⟩ := bar4Note_counted s f o n wr
  rw [counted]
  exact ⟨ctrGet_ctrAdd_same s.host.ctr 0x250 1, rfl⟩

/-- Settles O37: reads by `exec_bar4Read_of_target`, writes by `exec_bar4Write_of_target`, for the PF with the target of
`bar4Target_pf`. -/
theorem bar4ReachesHbm : Obligations.Bar4ReachesHbm := by
  unfold Obligations.Bar4ReachesHbm
  refine ⟨?resize, ?base, ?pfRead, ?pfWrite, ?refused, ?read, ?write⟩
  case resize => exact fun k s linked => congrArg Host.Outcome.next (if_pos linked)
  case base =>
    intro v s linked high low aligned inside
    exact congrArg Host.Outcome.next ((pfAccess_of_served linked _).trans (bar4BaseWrite_of_fits high low aligned inside))
  case pfRead =>
    intro o n s linked active nonempty inside reached
    exact exec_bar4Read_of_target linked rfl active o nonempty ((bar4Target_pf ..).trans (if_pos ⟨inside, reached⟩))
  case pfWrite =>
    intro o data s a linked active nonempty place inside reached
    subst place
    exact exec_bar4Write_of_target linked rfl active o nonempty ((bar4Target_pf ..).trans (if_pos ⟨inside, reached⟩))
  case refused =>
    intro o n data s linked active nonempty full unread unwritten
    have read : bar4Target s 0 o n false = none :=
      (bar4Target_pf ..).trans (if_neg fun fits => Bool.false_ne_true (unread.symm.trans fits.2))
    have write : bar4Target s 0 o data.length true = none :=
      (bar4Target_pf ..).trans (if_neg fun fits => Bool.false_ne_true (unwritten.symm.trans fits.2))
    refine ⟨(exec_bar4Read linked rfl active o nonempty).trans ?_, (exec_bar4Write linked rfl active o full false).trans ?_⟩
    · exact congrArg Host.Outcome.next (by rw [show ((0 : Fin 9) : Nat) = 0 from rfl, read]; rfl)
    · exact congrArg Host.Outcome.next (by rw [show ((0 : Fin 9) : Nat) = 0 from rfl, write]; rfl)
  case read =>
    intro f o n s linked present active nonempty
    refine ⟨fun a target => ?_, fun target => ?_⟩
    · obtain ⟨u, ran, reply, mem, -⟩ := exec_bar4Read_of_target linked present active o nonempty target
      refine ⟨u, _, ran, reply, ?_, mem⟩
      split
      · exact .inr rfl
      · exact .inl rfl
    · have ran := exec_bar4Read linked present active o nonempty
      rw [target] at ran
      exact ⟨_, ran, rfl, refused_counted s f o n false⟩
  case write =>
    intro f o data s linked present active nonempty
    refine ⟨fun a target => ?_, fun target => ?_, exec_bar4Write linked present active o nonempty true⟩
    · obtain ⟨u, ran, bytes, -⟩ := exec_bar4Write_of_target linked present active o nonempty target
      exact ⟨u, ran, bytes⟩
    · have ran := exec_bar4Write linked present active o nonempty false
      rw [if_neg (by decide), target] at ran
      exact ⟨_, ran, refused_counted s f o data.length true⟩

end Sys2Proof.Machine

namespace Sys2Proof.Machine

/-! ### Sequences that fail (R471) -/

/-- R471: a sequence that fails leaves the package in Standby with its rails off and the cause recorded. -/
theorem bringFail_fails (s : State) (step cause : Nat) : (bringFail s step cause).pst = .standby
    ∧ (bringFail s step cause).bring.run = false ∧ (bringFail s step cause).bring.result = 2
    ∧ (bringFail s step cause).bring.step = step ∧ (bringFail s step cause).bring.failCause = cause
    ∧ RailsOff s (bringFail s step cause) := by
  have logged := logAdd_noted { powerDown s .standby with bring := { (powerDown s .standby).bring with
    result := 2, step := step, failCause := cause, wait := none } } { code := 1, src := 0, sev := 3, args := [step, cause] }
  have off := ((railsOff_powerDown s .standby).records (powerDown s .standby).pwr { (powerDown s .standby).bring with
    result := 2, step := step, failCause := cause, wait := none }).noted logged
  refine ⟨logged.pst, ?_, ?_, ?_, ?_, off⟩
  all_goals exact (congrArg _ logged.bring).trans rfl

/-! ### Dies in service at bring-up (R466) -/

theorem diesUp_congr {s u : State} (part : u.partNo = s.partNo) (fenced : u.bring.diesFenced = s.bring.diesFenced) :
    diesUp u = diesUp s := by rw [diesUp, diesUp, part, fenced]

theorem diesUp_below {s : State} {d : Nat} (up : d ∈ diesUp s) : d < 4 := by
  have listed := List.mem_range.mp (List.mem_filter.mp up).1
  have parts : partDies s.partNo ≤ 4 := by cases s.partNo <;> decide
  omega

/-- R466: a die that is fenced at bring-up leaves the dies in service. -/
theorem diesUp_of_fenced {s u : State} {l : Nat} (part : u.partNo = s.partNo)
    (fenced : u.bring.diesFenced = s.bring.diesFenced ||| dieBit l) : diesUp u = (diesUp s).filter (fun d => d != l) := by
  rw [diesUp, diesUp, part, fenced, List.filter_filter]
  refine List.filter_congr fun d listed => ?_
  have parts : partDies s.partNo ≤ 4 := by cases s.partNo <;> decide
  have below : d < 4 := (List.mem_range.mp listed).trans_le parts
  rw [BitVec.getLsbD_or, dieBit, BitVec.getLsbD_ofNat, decide_eq_true below, Nat.testBit_two_pow, Bool.true_and]
  by_cases own : l = d
  · rw [own, decide_eq_true rfl, bne_self_eq_false, Bool.or_true]
    rfl
  · rw [decide_eq_false own, Bool.or_false, bne_iff_ne.mpr (Ne.symm own), Bool.true_and]

/-- R466: the last die in service is the one whose fence leaves none. -/
theorem diesUp_last {s : State} {l : Nat} :
    (((diesUp s).filter (fun d => d != l)).isEmpty && !(diesUp s).isEmpty) = true ↔ diesUp s = [l] := by
  rw [Bool.and_eq_true, Bool.not_eq_true', List.isEmpty_iff, List.isEmpty_eq_false_iff, List.filter_eq_nil_iff]
  refine ⟨fun ⟨gone, nonempty⟩ => ?_, fun last => ?_⟩
  · have same : ∀ d ∈ diesUp s, d = l := fun d up => by simpa using gone d up
    have copies := List.eq_replicate_of_mem same
    have distinct : (diesUp s).Nodup := List.nodup_range.filter _
    rw [copies, List.nodup_replicate] at distinct
    have full := List.length_pos_iff.mpr nonempty
    rw [copies, show (diesUp s).length = 1 by omega]
    rfl
  · rw [last]
    exact ⟨fun d listed => by simp [List.mem_singleton.mp listed], List.cons_ne_nil _ _⟩

/-! ### Modules (R323 to R325) -/

/-- Whether a module is usable is told by its state. -/
theorem usable_of_st {x y : Module} (same : x.st = y.st) : x.usable = y.usable := by rw [Module.usable, Module.usable, same]

theorem count_tabSet {f : Module → Bool} {x y : Module} (same : f x = f y) (t : Tab Module) (m : Nat) :
    ((tabSet t m x).filter (fun e => f e.2)).length = ((tabSet t m y).filter (fun e => f e.2)).length := by
  have swap (t : Tab Module) : (((m, x) :: t).filter (fun e => f e.2)).length = (((m, y) :: t).filter (fun e => f e.2)).length := by
    simp only [List.filter_cons, same]
    split <;> rfl
  induction t with
  | nil => exact swap []
  | cons e t ih =>
    obtain ⟨k, z⟩ := e
    simp only [tabSet]
    split
    next own => rw [own, swap]
    next =>
      split
      · exact swap _
      · simp only [List.filter_cons]
        split
        · exact congrArg (· + 1) ih
        · exact ih

/-- How many modules of a link are usable is told by their states. -/
theorem usable_setModule {s u : State} {l : Nat} (link : u.link l = s.link l) (m : Nat) {x y : Module} (same : x.st = y.st) :
    ((u.setModule l m x).link l).usable = ((s.setModule l m y).link l).usable := by
  rw [State.setModule, State.setModule, link_setLink, link_setLink, link]
  exact count_tabSet (usable_of_st same) ..

theorem Noted.links {s u : State} (h : Noted s u) : u.links = s.links := by obtain ⟨_, _, _, _, rfl⟩ := h; rfl

theorem Noted.module {s u : State} (h : Noted s u) (l m : Nat) : u.module l m = s.module l m := by
  obtain ⟨_, _, _, _, rfl⟩ := h; rfl

/-! ### Ready windows (R468) -/

/-- The window `w` is over. -/
def windowClosed (s : State) (w : ReadyWin) : State := { s with bring := { s.bring with wins := s.bring.wins.filter (fun v => v != w) } }

/-- R468: a window that had an error disables or retrains its module, and the link's steering follows. -/
def windowErred (s : State) (l m : Nat) (second trained : Bool) (lanes : Nat) : State :=
  let t := if second then s.setModule l m { s.module l m with st := 4 } else windowRetrain s l m trained lanes
  t.setLink l (t.link l).trained

/-- R326, R468: a die's link with too few modules fences the die, a guest's without any refuses the guest. -/
def linkJudged (s : State) (l : Nat) : State :=
  if l < 4 then dieModules s l
  else if (s.guest (l - 4)).st = 1 ∧ (s.link l).usable = 0 then guestRefuse s (l - 4) 8 else s

/-- R466, R468: the windows of fenced dies are over; the last die's fence ends the sequence. -/
def windowLeft (s t : State) : State :=
  if (diesUp t).isEmpty && !(diesUp s).isEmpty then bringFail t 6 7
  else { t with bring := { t.bring with wins := t.bring.wins.filter (fun v =>
    decide (4 ≤ v.link) || !t.bring.diesFenced.getLsbD v.link) } }

theorem windowEnds_of_found {s : State} {l m : Nat} {w : ReadyWin}
    (found : s.bring.wins.find? (fun v => v.link == l && v.mod == m) = some w) (trained : Bool) (lanes : Nat) :
    windowEnds s l m trained lanes = windowLeft s (linkJudged (if ctrGet (s.module l m).ctr 0x208 = 0 then windowClosed s w
      else windowErred (windowClosed s w) l m w.second trained lanes) l) := by
  simp only [windowEnds, found]
  rfl

/-- What modules and their links leave of the package. -/
structure WindowFrame (s u : State) : Prop where
  units : SameUnits s u
  outlives : Outlives s u
  part : u.partNo = s.partNo

theorem WindowFrame.refl (s : State) : WindowFrame s s := ⟨.refl s, .refl s, rfl⟩

theorem WindowFrame.trans {s t u : State} (h : WindowFrame s t) (k : WindowFrame t u) : WindowFrame s u :=
  ⟨h.units.trans k.units, h.outlives.trans k.outlives, k.part.trans h.part⟩

theorem Noted.windowFrame {s u : State} (h : Noted s u) : WindowFrame s u := by
  refine ⟨h.units, h.outlives, ?_⟩
  obtain ⟨_, _, _, _, rfl⟩ := h
  rfl

theorem windowFrame_records (s : State) (a : Agt) (links : Tab Link) (guests : Tab Guest) (b : Bring) :
    WindowFrame s { s with agt := a, links := links, guests := guests, bring := b } :=
  ⟨⟨rfl, rfl, rfl, rfl, rfl, rfl, rfl, rfl, rfl, rfl, rfl⟩, ⟨rfl, rfl, rfl, rfl, rfl, rfl, rfl⟩, rfl⟩

section
variable (s : State) (l m : Nat) (trained : Bool) (lanes : Nat)

/-- R324, R325: a module that retrains after its first window starts anew in the state of its training. -/
theorem windowTrained_eq : ∃ v, Noted s v ∧ (if l < 4 then trainLanes s s.bring.cold (fusedLanes s l m) l m trained lanes
      else trainModule s l m s.bring.cold trained lanes)
    = v.setModule l m { st := windowState s l m false trained lanes, logged := (s.module l m).logged } := by
  have trains {v : State} (noted : Noted s v) (cold : Bool) (lanes : Nat) : trainModule v l m cold trained lanes
      = v.setModule l m { st := if cold then moduleCold trained lanes else moduleLater (s.module l m) trained lanes
                          logged := (s.module l m).logged } := by
    rw [trainModule, noted.module]
  rw [windowState, if_neg Bool.false_ne_true]
  by_cases die : l < 4
  · have disagreed : Noted s (if s.bring.cold && fusedLanes s l m != lanes then
        logAdd s { code := 0x42, inst := l, src := 4, sev := 1, args := [m, laneMap (fusedLanes s l m), laneMap lanes] } else s) := by
      split
      · exact logAdd_noted ..
      · exact .refl s
    refine ⟨_, disagreed, (if_pos die).trans ((trains disagreed ..).trans ?_)⟩
    rw [if_pos die]
    cases s.bring.cold
    · simp only [Bool.false_eq_true, if_false]
    · simp only [if_true]
  · refine ⟨s, .refl s, (if_neg die).trans ((trains (.refl s) ..).trans ?_)⟩
    rw [if_neg die]

theorem windowRetrain_eq : ∃ v wins, Noted s v ∧ windowRetrain s l m trained lanes =
    { v.setModule l m { st := windowState s l m false trained lanes, logged := (s.module l m).logged } with
      bring := { s.bring with retrained := min 255 (s.bring.retrained + 1), wins := wins } } := by
  obtain ⟨v, noted, eq⟩ := windowTrained_eq s l m trained lanes
  have records : (v.setModule l m { st := windowState s l m false trained lanes, logged := (s.module l m).logged }).bring
      = s.bring := noted.bring
  simp only [windowRetrain, eq, records]
  split
  · exact ⟨v, _, noted, rfl⟩
  · exact ⟨v, s.bring.wins, noted, rfl⟩

/-- R468: what a window with an error leaves before its link is judged. -/
theorem windowErred_eq (second : Bool) : ∃ v x b, Noted s v ∧ x.st = windowState s l m second trained lanes
    ∧ (second = false → ctrGet x.ctr 0x208 = 0) ∧ b.diesFenced = s.bring.diesFenced
    ∧ b.retrained = (if second then s.bring.retrained else min 255 (s.bring.retrained + 1))
    ∧ windowErred s l m second trained lanes
      = { (v.setModule l m x).setLink l ((v.setModule l m x).link l).trained with bring := b } := by
  cases second
  · obtain ⟨v, wins, noted, eq⟩ := windowRetrain_eq s l m trained lanes
    refine ⟨v, { st := windowState s l m false trained lanes, logged := (s.module l m).logged },
      { s.bring with retrained := min 255 (s.bring.retrained + 1), wins := wins }, noted, rfl, fun _ => rfl, rfl, rfl, ?_⟩
    simp only [windowErred, Bool.false_eq_true, if_false, eq]
    rfl
  · exact ⟨s, { s.module l m with st := 4 }, s.bring, .refl s, rfl, fun first => absurd first (by decide), rfl, rfl, rfl⟩

/-- R468: a window's error leaves the package, the dies in service, and the module in the state of its training. -/
structure Erred (s u : State) (l m : Nat) (second : Bool) (st : Nat) : Prop where
  frame : WindowFrame s u
  state : (u.module l m).st = st
  cleared : second = false → ctrGet (u.module l m).ctr 0x208 = 0
  usable : (u.link l).usable = ((s.setModule l m { s.module l m with st := st }).link l).usable
  fenced : u.bring.diesFenced = s.bring.diesFenced
  retrained : u.bring.retrained = (if second then s.bring.retrained else min 255 (s.bring.retrained + 1))

theorem windowErred_erred (second : Bool) :
    Erred s (windowErred s l m second trained lanes) l m second (windowState s l m second trained lanes) := by
  obtain ⟨v, x, b, noted, state, cleared, fenced, retrained, eq⟩ := windowErred_eq s l m trained lanes second
  rw [eq]
  have link : ({ (v.setModule l m x).setLink l ((v.setModule l m x).link l).trained with bring := b } : State).link l
      = ((v.setModule l m x).link l).trained := link_setLink ..
  have own : ({ (v.setModule l m x).setLink l ((v.setModule l m x).link l).trained with bring := b } : State).module l m = x := by
    rw [State.module, link]
    exact module_setModule v l m x
  refine ⟨noted.windowFrame.trans (windowFrame_records v v.agt _ v.guests b), by rw [own, state], fun first => by
    rw [own, cleared first], ?_, fenced, retrained⟩
  rw [link]
  exact usable_setModule (by rw [State.link, noted.links, State.link]) m state

end

/-- R326, R468: a judged link has the modules it had; it fences its die where too few of them are usable. -/
structure Judged (s u : State) (l : Nat) : Prop where
  frame : WindowFrame s u
  module : ∀ m, u.module l m = s.module l m
  retrained : u.bring.retrained = s.bring.retrained
  up : diesUp u = if l < 4 ∧ (s.link l).usable < 12 then (diesUp s).filter (fun d => d != l) else diesUp s

/-- R466: a die's fence at bring-up. -/
theorem fenceAtBringup_judged {s : State} {l : Nat} (die : l < 4) (few : (s.link l).usable < 12) (cause : Nat) :
    Judged s (fenceAtBringup s l cause) l := by
  rw [fenceAtBringup]
  split
  next known =>
    refine ⟨.refl s, fun _ => rfl, rfl, ?_⟩
    rw [if_pos ⟨die, few⟩]
    refine (List.filter_eq_self.mpr fun d up => bne_iff_ne.mpr fun own => ?_).symm
    have stays := (List.mem_filter.mp up).2
    rw [own, known] at stays
    cases stays
  next =>
    have logged := logAdd_noted { s with
      bring := { s.bring with diesFenced := s.bring.diesFenced ||| dieBit l }
      agt := { s.agt with capDie := s.agt.capDie.set l 0 } } { code := 0x43, inst := l, src := 2, sev := 3, args := [cause] }
    have frame := WindowFrame.trans (windowFrame_records s _ s.links s.guests _) logged.windowFrame
    refine ⟨frame, logged.module l, by rw [logged.bring], ?_⟩
    rw [if_pos ⟨die, few⟩]
    exact diesUp_of_fenced frame.part (congrArg Bring.diesFenced logged.bring)

/-- R336: a guest's site is refused. -/
theorem guestRefuse_judged {s : State} {l : Nat} (guest : ¬ l < 4) (g reason : Nat) : Judged s (guestRefuse s g reason) l := by
  have judged : ∀ u : State, Noted u (guestRefuse s g reason) → (∃ a guests, u = { s with agt := a, guests := guests }) →
      Judged s (guestRefuse s g reason) l := by
    rintro _ noted ⟨a, guests, rfl⟩
    have frame := (windowFrame_records s a s.links guests s.bring).trans noted.windowFrame
    refine ⟨frame, noted.module l, by rw [noted.bring], ?_⟩
    rw [if_neg fun h => guest h.1]
    exact diesUp_congr frame.part (by rw [noted.bring])
  exact judged _ ((raiseIrq_noted ..).trans (logAdd_noted ..)) ⟨_, _, rfl⟩

theorem linkJudged_judged (s : State) (l : Nat) : Judged s (linkJudged s l) l := by
  have kept (many : ¬ (l < 4 ∧ (s.link l).usable < 12)) : Judged s s l := ⟨.refl s, fun _ => rfl, rfl, (if_neg many).symm⟩
  rw [linkJudged]
  split
  next die =>
    rw [dieModules]
    split
    next few => exact fenceAtBringup_judged die few 3
    next many => exact kept fun h => many h.2
  next guest =>
    split
    · exact guestRefuse_judged guest ..
    · exact kept fun h => guest h.1

/-- A link with modules enough is judged without effect. -/
theorem linkJudged_of_enough {s : State} {l : Nat} (die : l < 4 → 12 ≤ (s.link l).usable)
    (guest : 4 ≤ l → (s.guest (l - 4)).st = 1 → 0 < (s.link l).usable) : linkJudged s l = s := by
  rw [linkJudged]
  split
  next here => exact if_neg (Nat.not_lt.mpr (die here))
  next there =>
    exact if_neg fun h => absurd h.2 (Nat.pos_iff_ne_zero.mp (guest (Nat.not_lt.mp there) h.1))

/-- R468: what a window with an error leaves once its link is judged. -/
theorem windowErred_judged (s : State) (w : ReadyWin) (l m : Nat) (trained : Bool) (lanes : Nat) :
    ∃ t u, Erred (windowClosed s w) t l m w.second (windowState s l m w.second trained lanes) ∧ Judged t u l
      ∧ diesUp t = diesUp s ∧ linkJudged (windowErred (windowClosed s w) l m w.second trained lanes) l = u := by
  have erred := windowErred_erred (windowClosed s w) l m trained lanes w.second
  exact ⟨_, _, erred, linkJudged_judged _ l, diesUp_congr erred.frame.part erred.fenced, rfl⟩

theorem windowClosed_frame (s : State) (w : ReadyWin) : WindowFrame s (windowClosed s w) :=
  windowFrame_records s s.agt s.links s.guests _

/-! ### Ports that are dropped (R469) -/

theorem bring_portSet (s : State) (k : Nat) (st : PortSt) (cause : Nat) : (portSet s k st cause).bring = s.bring := by
  have moved : (portMoved s k st cause).bring = s.bring := by
    obtain ⟨_, _, eq⟩ := dropQueued_onlyPools s k
    exact (portChanged_logged ..).bring.trans (by rw [eq]; rfl)
  have settled : (portSettled s k st cause).bring = s.bring := by
    rw [portSettled]
    split
    · rw [feedSet]
      split <;> exact moved
    · exact moved
  rw [portSet_eq]
  split
  · obtain ⟨_, -, -, _, _, _, _, _, eq, -⟩ := portDomain_told (portSettled s k st cause) k
    rw [eq]
    exact settled
  · exact settled

/-- R469: the state of a port that is dropped before its record is. -/
def portRefused (s : State) (k : Nat) : State :=
  portSet (s.setPort k { s.port k with en := false }) k .disabled (if 17000000 ≤ (ctrGet (s.port k).ctr 0x110).toNat then 7 else 9)

theorem portDropped_of_waiting {s : State} {k : Nat} (runs : s.bring.run = true) (waits : s.bring.ports.contains k = true) :
    portDropped s k = logAdd { portRefused s k with bring := { (portRefused s k).bring with
      ports := setDel (portRefused s k).bring.ports k, portsDropped := (portRefused s k).bring.portsDropped + 1 } }
      { code := 0x52, inst := k, src := 5, sev := 1
        args := [if 17000000 ≤ (ctrGet (s.port k).ctr 0x110).toNat then 7 else 9] } := by
  refine if_neg ?_
  rw [runs, waits]
  decide

theorem exec_portDropped {s : State} {k : Fin 64} (runs : s.bring.run = true) (waits : s.bring.ports.contains k.val = true) :
    ∃ u, exec (.portDropped k) s = .next u ∧ (u.port k).st = .disabled ∧ (u.port k).en = false
      ∧ (u.port k).cause = (if 17000000 ≤ (ctrGet (s.port k).ctr 0x110).toNat then 7 else 9)
      ∧ u.bring.ports = setDel s.bring.ports k ∧ u.bring.portsDropped = s.bring.portsDropped + 1 ∧ PortFrame s u k := by
  refine ⟨_, congrArg Host.Outcome.next (portDropped_of_waiting runs waits), ?_⟩
  have records : (portRefused s k).bring = s.bring := bring_portSet ..
  obtain ⟨laser, own⟩ := port_portSet_of_notUp (s.setPort k { s.port k with en := false }) k .disabled
    (if 17000000 ≤ (ctrGet (s.port k).ctr 0x110).toNat then 7 else 9) (by decide)
  have frame : PortFrame s (portRefused s k) k := (portFrame_setPort ..).trans (portFrame_portSet ..)
  rw [port_setPort] at own
  generalize told : ({ code := 0x52, inst := k, src := 5, sev := 1, args := _ } : LogIn) = e
  have logged := logAdd_logged { portRefused s k with bring := { (portRefused s k).bring with
    ports := setDel (portRefused s k).bring.ports k, portsDropped := (portRefused s k).bring.portsDropped + 1 } } e
  have port := logged.port k
  rw [port, logged.bring]
  have kept : (portRefused s k).port k = _ := own
  refine ⟨congrArg Port.st kept, congrArg Port.en kept, congrArg Port.cause kept, ?_, ?_, ?_⟩
  · exact congrArg (fun b : Bring => setDel b.ports k) records
  · exact congrArg (fun b : Bring => b.portsDropped + 1) records
  · exact frame.trans ((PortFrame.of_fab (sameUnits_bring ..) rfl).trans (logged.portFrame k))

end Sys2Proof.Machine

namespace Sys2Proof.Machine

/-! ### The host's link (R566, R569) -/

/-- The link, its clock and its reset. -/
def linkView (s : State) : Bool × Bool × Bool := (s.host.linkUp, s.host.refclkA, s.host.perst)

@[simp] theorem linkView_sendMsix (s : State) (fn vec : Nat) : linkView (sendMsix s fn vec) = linkView s := by
  simp only [sendMsix]
  split
  · rfl
  · split <;> rfl

@[simp] theorem linkView_raiseIrq (s : State) (b : Nat) : linkView (raiseIrq s b) = linkView s := by
  simp only [raiseIrq]
  split
  · rfl
  · split
    · rfl
    · exact linkView_sendMsix ..

theorem linkView_logStore (s : State) (e : LogIn) : linkView (logStore s e) = linkView s := by
  simp only [logStore]
  split
  · exact linkView_raiseIrq ..
  · rfl

@[simp] theorem linkView_logAdd (s : State) (e : LogIn) : linkView (logAdd s e) = linkView s := by
  simp only [logAdd]
  split
  · exact linkView_logStore ..
  · split
    · exact linkView_logStore ..
    · split
      · exact linkView_logStore ..
      · split
        · exact linkView_logStore ..
        · rfl

/-! ### Ready (R470 to R472) -/

theorem enabledCores_congr {s u : State} (up : diesUp u = diesUp s) (agt : u.agt = s.agt) : enabledCores u = enabledCores s := by
  rw [enabledCores, enabledCores, up, agt]

theorem capEffective_congr {s u : State} (up : diesUp u = diesUp s) (agt : u.agt = s.agt) : capEffective u = capEffective s := by
  rw [capEffective, capEffective, up, agt]

/-- R464: the verdicts that differ are logged. -/
def readyNoted (s : State) : State :=
  (disagreements s).foldl (fun t e => logAdd t { code := 5, inst := e.1, src := 0, sev := 1
                                                 args := [b2n (s.agt.fuseBad.getLsbD e.1), e.2.1, e.2.2] }) s

theorem readyNoted_noted (s : State) : Noted s (readyNoted s) := .foldl (fun _ _ => logAdd_noted ..) _ s

theorem linkView_readyNoted (s : State) : linkView (readyNoted s) = linkView s :=
  foldl_kept linkView (fun t _ => linkView_logAdd t _) _ s

/-- R470: the AGT at ready. -/
def readyAgt (s : State) : State := agtUpdate s (fun a => { a with
  valid := true, cap := capEffective s, enabled := enabledCores s
  diesActive := BitVec.ofNat 4 ((diesUp s).foldl (fun n d => n + 2 ^ d) 0)
  stacksActive := a.stacksActive &&& BitVec.ofNat 32 ((diesUp s).foldl (fun n d => n + 0xFF * 2 ^ (8 * d)) 0) })

/-- R489: only cores change their records. -/
theorem readyCores_eq (s : State) : ∃ cores, readyCores s = { s with cores := cores } := by
  rw [readyCores]
  generalize upTo (64 * partDies s.partNo) = ps
  have marks : ∀ t : State, ∃ cores, ps.foldl (fun t p =>
      if readyCause s p = (t.core p).ras.fenceCause then t
      else t.setCore p { t.core p with ras := { (t.core p).ras with fenceCause := readyCause s p } }) t = { t with cores := cores } := by
    induction ps with
    | nil => exact fun t => ⟨t.cores, rfl⟩
    | cons p ps ih =>
      intro t
      rw [List.foldl_cons]
      split
      · exact ih t
      · obtain ⟨cores, eq⟩ := ih (t.setCore p { t.core p with ras := { (t.core p).ras with fenceCause := readyCause s p } })
        exact ⟨cores, eq⟩
  exact marks s

/-- R26, R470, R479: with cores marked, clusters placed and the rails of the rest off, the package is Active. -/
def readyActive (s : State) (ms n : Nat) : State :=
  let t := readyParts (readyCores s)
  { t with
    pst := .active
    uptime := t.uptime + ms * 1000000
    bring := { t.bring with
      off := BitVec.ofNat 256 (2 ^ (64 * partDies t.partNo) - 1) &&& ~~~(t.agt.enabled ||| t.agt.fuseBad ||| t.agt.lateFenced)
      result := 1, step := 12, run := false, readyMs := ms % 65536, disagree := min 255 n, tests := [] }
    host := { t.host with linkUp := t.host.refclkA && !t.host.perst } }

/-- R470, R537: the host is told that the package is ready. -/
def readyTold (s : State) : State :=
  let t := logState (raiseIrq (reelect (freshTick s)) 0) .standby
  if t.host.irqStat.getLsbD 6 && !t.host.irqMask.getLsbD 6 then sendMsix t 0 78 else t

theorem ready11_of_met {s : State} (runs : s.bring.run = true) (step : s.bring.step = 11) (wins : s.bring.wins = [])
    (ports : s.bring.ports = []) (ms : Nat) : ready11 s ms =
      readyTold (belowGrade (readyActive (readyAgt (readyNoted s)) ms (disagreements s).length)) := by
  refine if_neg ?_
  rw [runs, step, wins, ports]
  decide

/-- R472: a package below its grade is logged. -/
theorem belowGrade_noted (s : State) : ∃ below, Noted { s with bring := { s.bring with belowGrade := below } } (belowGrade s)
    ∧ linkView (belowGrade s) = linkView s := by
  rw [belowGrade]
  split
  · exact ⟨s.bring.belowGrade, .refl s, rfl⟩
  · exact ⟨true, logAdd_noted .., linkView_logAdd ..⟩

theorem reelect_tick (s : State) : ∃ t, reelect s = { s with tick := t } := by
  rcases reelect_cases s with eq | ⟨-, eq⟩ | ⟨m, b, -, eq | ⟨-, eq⟩⟩
  all_goals exact ⟨_, eq⟩

/-- R470: what is told changes domain time, the power page's energy and the log; the cause of ready stands. -/
theorem readyTold_eq (s : State) : ∃ tick pwr freeN,
    Noted { s with tick := tick, pwr := pwr, freeN := freeN } (readyTold s)
      ∧ linkView (readyTold s) = linkView s ∧ (readyTold s).host.irqStat.getLsbD 0 = true := by
  obtain ⟨tick, elected⟩ := reelect_tick (freshTick s)
  have raised := raiseIrq_noted (reelect (freshTick s)) 0
  have logged := logState_noted (raiseIrq (reelect (freshTick s)) 0) .standby
  have link : linkView (logState (raiseIrq (reelect (freshTick s)) 0) .standby) = linkView s := by
    refine (linkView_logAdd ..).trans ((linkView_raiseIrq ..).trans ?_)
    rw [elected]
    rfl
  have cause : (logState (raiseIrq (reelect (freshTick s)) 0) .standby).host.irqStat.getLsbD 0 = true :=
    causesStand_logAdd _ _ 0 (raiseIrq_raises _ (by decide))
  have noted : ∃ tick pwr freeN, Noted { s with tick := tick, pwr := pwr, freeN := freeN }
      (logState (raiseIrq (reelect (freshTick s)) 0) .standby) := by
    obtain ⟨_, _, _, _, eq⟩ := raised
    rw [elected] at eq
    rw [elected, eq] at logged ⊢
    obtain ⟨_, _, _, _, eq'⟩ := logged
    exact ⟨_, _, _, _, _, _, _, eq'⟩
  obtain ⟨tick, pwr, freeN, noted⟩ := noted
  refine ⟨tick, pwr, freeN, ?_⟩
  rw [readyTold]
  split
  · obtain ⟨_, _, eq⟩ := sendMsix_eq (logState (raiseIrq (reelect (freshTick s)) 0) .standby) 0 78
    refine ⟨noted.trans ⟨_, _, _, _, eq⟩, (linkView_sendMsix ..).trans link, ?_⟩
    rw [irqStat_sendMsix]
    exact cause
  · exact ⟨noted, link, cause⟩

/-- A cluster that a partition lists. -/
theorem tabGet_listed {l : List Nat} {c : Nat} (listed : c ∈ l) (v d : Nat) : tabGet (l.map (fun c => (c, v))) d c = v := by
  induction l with
  | nil => cases listed
  | cons k l ih =>
    rw [List.map_cons, tabGet]
    split
    next => rfl
    next other => exact ih ((List.mem_cons.mp listed).resolve_left fun own => other own.symm)

/-- R470: the package is ready. -/
theorem exec_ready {s : State} (runs : s.bring.run = true) (step : s.bring.step = 11) (wins : s.bring.wins = [])
    (ports : s.bring.ports = []) (ms : Nat) : ∃ u, exec (.ready ms) s = .next u ∧ u.pst = .active ∧ u.bring.run = false
      ∧ u.bring.result = 1 ∧ u.bring.step = 12 ∧ u.bring.readyMs = ms % 65536 ∧ u.uptime = s.uptime + ms * 1000000
      ∧ u.agt.valid = true ∧ u.agt.enabled = enabledCores s ∧ u.agt.cap = capEffective s
      ∧ u.agt.generation = s.agt.generation + 2
      ∧ (∀ d ∈ diesUp s, ∀ i, i < 8 → tabGet u.partOf 255 (8 * d + i) = 0)
      ∧ u.host.linkUp = (s.host.refclkA && !s.host.perst) ∧ u.host.irqStat.getLsbD 0 = true ∧ u.mem = s.mem
      ∧ u.queues = s.queues ∧ u.fuse = s.fuse := by
  refine ⟨_, congrArg Host.Outcome.next (ready11_of_met runs step wins ports ms), ?_⟩
  have noted := readyNoted_noted s
  have up : diesUp (readyNoted s) = diesUp s := diesUp_congr noted.windowFrame.part (congrArg Bring.diesFenced noted.bring)
  have enabled := enabledCores_congr up noted.agt
  have cap := capEffective_congr up noted.agt
  have link : linkView (readyNoted s) = linkView s := linkView_readyNoted s
  generalize readyNoted s = v at *
  obtain ⟨cores, marked⟩ := readyCores_eq (readyAgt v)
  generalize active : readyActive (readyAgt v) ms (disagreements s).length = a
  obtain ⟨below, graded, gradedLink⟩ := belowGrade_noted a
  obtain ⟨tick, pwr, freeN, told, toldLink, cause⟩ := readyTold_eq (belowGrade a)
  have linkUp := (congrArg Prod.fst (toldLink.trans gradedLink))
  have clock : v.host.refclkA = s.host.refclkA := congrArg (fun x => x.2.1) link
  have held : v.host.perst = s.host.perst := congrArg (fun x => x.2.2) link
  obtain ⟨_, _, _, _, graded⟩ := graded
  obtain ⟨_, _, _, _, told⟩ := told
  generalize readyTold (belowGrade a) = u at *
  rw [graded] at told
  rw [readyActive, readyParts, marked] at active
  subst active
  obtain ⟨_, _, _, _, rfl⟩ := noted
  refine ⟨?_, ?_, ?_, ?_, ?_, ?_, ?_, ?_, ?_, ?_, ?_, ?_, cause, ?_⟩
  case refine_12 =>
    refine linkUp.trans ?_
    rw [← clock, ← held]
    rfl
  all_goals rw [told]
  case refine_8 => exact enabled
  case refine_9 => exact cap
  case refine_11 =>
    intro d here i below
    refine tabGet_listed (List.mem_flatMap.mpr ⟨d, ?_, List.mem_map.mpr ⟨i, List.mem_range.mpr below, rfl⟩⟩) 0 255
    rw [← up] at here
    exact here
  case refine_13 => exact ⟨rfl, rfl, rfl⟩
  all_goals rfl

/-- Settles O48: windows by `windowEnds_of_found`, `linkJudged_of_enough` and `windowErred_judged`, failures by
`bringFail_fails`, ports by `exec_portDropped`, ready by `exec_ready`. -/
theorem sequencesFailOrBecomeReady : Obligations.SequencesFailOrBecomeReady := by
  unfold Obligations.SequencesFailOrBecomeReady
  refine ⟨?closes, ?retrains, ?lastDie, ?dropped, ?limit, ?ready, ?unready, ?idle⟩
  case closes =>
    intro l m trained lanes s w runs found clean die guest
    refine ⟨_, congrArg Host.Outcome.next ((if_pos runs).trans (windowEnds_of_found found trained lanes)), ?_⟩
    rw [if_pos clean, linkJudged_of_enough (s := windowClosed s w) die guest, windowLeft,
      diesUp_congr (s := s) (u := windowClosed s w) rfl rfl, if_neg (by cases (diesUp s).isEmpty <;> decide)]
    exact ⟨rfl, rfl, rfl, rfl, rfl, sameUnits_bring s _⟩
  case retrains =>
    intro l m trained lanes s w st runs found errors state stays
    obtain ⟨t, u, erred, judged, up, eq⟩ := windowErred_judged s w l m trained lanes
    rw [← state] at erred
    have goesOn : ¬ (((diesUp u).isEmpty && !(diesUp s).isEmpty) = true) := by
      rw [judged.up, up]
      split
      next few =>
        rw [diesUp_last]
        exact stays.resolve_right (Nat.not_le.mpr (erred.usable ▸ few.2))
      next => cases (diesUp s).isEmpty <;> decide
    refine ⟨_, congrArg Host.Outcome.next ((if_pos runs).trans (windowEnds_of_found found trained lanes)), ?_⟩
    rw [if_neg errors, eq, windowLeft, if_neg goesOn]
    refine ⟨(congrArg Module.st (judged.module m)).trans erred.state,
      ((sameUnits_bring s _).trans (erred.frame.units.trans judged.frame.units)).trans (sameUnits_bring u _),
      judged.retrained.trans erred.retrained, fun first => ?_⟩
    exact (congrArg (fun x : Module => ctrGet x.ctr 0x208) (judged.module m)).trans (erred.cleared first)
  case lastDie =>
    intro l m trained lanes s w st runs found errors state last few
    obtain ⟨t, u, erred, judged, up, eq⟩ := windowErred_judged s w l m trained lanes
    rw [← state] at erred
    have die : l.val < 4 := diesUp_below (by rw [last]; exact List.mem_singleton.mpr rfl)
    have fails : ((diesUp u).isEmpty && !(diesUp s).isEmpty) = true := by
      rw [judged.up, if_pos ⟨die, by rw [erred.usable]; exact few⟩, up]
      exact diesUp_last.mpr last
    refine ⟨_, congrArg Host.Outcome.next ((if_pos runs).trans (windowEnds_of_found found trained lanes)), ?_⟩
    rw [if_neg errors, eq, windowLeft, if_pos fails]
    obtain ⟨standby, stopped, result, step, cause, off⟩ := bringFail_fails u 6 7
    exact ⟨standby, stopped, result, step, cause, .of_outlives
      ((windowClosed_frame s w).outlives.trans (erred.frame.outlives.trans judged.frame.outlives)) off⟩
  case dropped => exact fun k s runs waits => exec_portDropped runs waits
  case limit =>
    intro s runs
    obtain ⟨standby, stopped, result, step, cause, off⟩ := bringFail_fails s (stepReached s) 9
    exact ⟨_, congrArg Host.Outcome.next (if_pos runs), standby, stopped, result, cause, step, off⟩
  case ready => exact fun ms s runs step wins ports => exec_ready runs step wins ports ms
  case unready =>
    intro ms s unmet
    refine congrArg Host.Outcome.next (if_pos ?_)
    simp only [Bool.or_eq_true, Bool.not_eq_true', bne_iff_ne, List.isEmpty_eq_false_iff]
    obtain stopped | early | wins | ports := unmet
    · exact .inl (.inl (.inl stopped))
    · exact .inl (.inl (.inr early))
    · exact .inl (.inr wins)
    · exact .inr ports
  case idle =>
    intro l m trained lanes k s stopped
    have unmet : ¬ s.bring.run = true := by rw [stopped]; decide
    refine ⟨congrArg Host.Outcome.next (if_neg unmet), congrArg Host.Outcome.next (if_pos ?_), congrArg Host.Outcome.next (if_neg unmet)⟩
    rw [stopped]
    rfl

end Sys2Proof.Machine

namespace Sys2Proof.Machine

/-! ### What completions leave of the host's link -/

@[simp] theorem linkView_ite {c : Prop} [Decidable c] (s t : State) :
    linkView (if c then s else t) = if c then linkView s else linkView t := apply_ite linkView c s t

/-- A store changes nothing, or stores its bytes and drops copies of them. -/
theorem writeMem_cases (s : State) (a : Nat) (bs : List Byte) (bad : Bool) :
    writeMem s a bs bad = s ∨ CopiesDrop (storeBytes s a bs bad) (writeMem s a bs bad) := by
  by_cases empty : bs = []
  · left
    rw [empty]
    rfl
  · by_cases late : lateDie s a = true
    · exact .inl (if_pos (by rw [late, Bool.or_true]))
    · exact .inr (copiesDrop_writeMem empty (Bool.eq_false_of_not_eq_true late) bad)

@[simp] theorem linkView_writeMem (s : State) (a : Nat) (bs : List Byte) (bad : Bool) :
    linkView (writeMem s a bs bad) = linkView s := by
  obtain same | ⟨_, _, _, _, _, _, dropped, -⟩ := writeMem_cases s a bs bad
  · rw [same]
  · rw [dropped, storeBytes]
    split <;> rfl

@[simp] theorem linkView_vwrite (s : State) (c va : Nat) (bs : List Byte) (bad : Bool) :
    linkView (vwrite s c va bs bad) = linkView s := by
  refine foldl_kept linkView (fun t pc => ?_) _ s
  split
  · rfl
  · simp only [linkView_ite, linkView_writeMem, ite_self]

@[simp] theorem linkView_vnote (s : State) (c va n : Nat) (f : Option Nat) : linkView (vnote s c va n f) = linkView s := by
  obtain ⟨_, eq, -⟩ := vnote_onlyWalksCounted s c va n f
  rw [eq]
  rfl

/-! ### What completions leave of the queues (R188, R230, R233) -/

/-- A record that is done with a status if its number is `n`. -/
def Rec.marked (r : Rec) (n st : Nat) : Rec := if r.n == n then { r with st := .done st } else r

/-- A queue whose records of number `n` are done with a status. -/
def Queue.marked (x : Queue) (n st : Nat) : Queue := { x with recs := x.recs.map (fun r => r.marked n st) }

theorem ledgers_setQueue (s : State) (q : Nat) (x : Queue) :
    ledgers (s.setQueue q x) = Function.update (ledgers s) q { x with ctr := [] } := by
  funext j
  by_cases own : j = q
  · rw [own, Function.update_self, ledgers, queue_setQueue]
  · rw [Function.update_of_ne own, ledgers, queue_setQueue_ne _ _ _ _ own, ledgers]

@[simp] theorem ledgers_sendMsix (s : State) (fn vec : Nat) : ledgers (sendMsix s fn vec) = ledgers s := by
  obtain ⟨_, _, eq⟩ := sendMsix_eq s fn vec
  rw [eq]
  rfl

/-- R235: a completion is posted for a record that is found and not done, and marks it; another changes nothing. -/
theorem postOne_cases (s : State) (c : CmdRef) (v : Cpl) :
    ((postOne s c v).1 = s ∧ ∀ r, findRec s c = some r → r.isDone = true)
      ∨ ∃ n, ledgers (postOne s c v).1
          = Function.update (ledgers s) c.q { (ledgers s c.q).marked c.n v.status with completed := n } := by
  rw [postOne]
  split
  next absent => exact .inl ⟨rfl, fun r found => by cases absent.symm.trans found⟩
  next r found =>
    split
    next done =>
      refine .inl ⟨rfl, fun r' found' => ?_⟩
      cases found.symm.trans found'
      exact done
    next =>
      refine .inr ⟨(s.queue c.q).completed + 1, ?_⟩
      have posted (t : State) (same : ledgers t = ledgers s) :
          ledgers (setRecSt (t.setQueue c.q { t.queue c.q with completed := (s.queue c.q).completed + 1 }) c (.done v.status))
            = Function.update (ledgers s) c.q
              { (ledgers s c.q).marked c.n v.status with completed := (s.queue c.q).completed + 1 } := by
        rw [setRecSt, mapRec, ledgers_setQueue, ledgers_setQueue, queue_setQueue, Function.update_idem, same, ← same]
        rfl
      simp only [ledgers_ite, ledgers_sendMsix, ite_self]
      exact posted _ (by simp only [ledgers_vnote, ledgers_ite, ledgers_vwrite, ite_self])

theorem linkView_postOne (s : State) (c : CmdRef) (v : Cpl) : linkView (postOne s c v).1 = linkView s := by
  have counted (t : State) (x : Queue) : linkView (setRecSt (t.setQueue c.q x) c (.done v.status)) = linkView t := rfl
  rw [postOne]
  split
  · rfl
  · split
    · rfl
    · simp only [linkView_ite, linkView_sendMsix, counted, linkView_vnote, linkView_vwrite, ite_self]

/-- R188, R233: completions and aborts leave a queue's function and its drain; a frame closes, or a Running queue stops. -/
structure QueueEnds (x y : Queue) : Prop where
  func : y.func = x.func
  draining : y.draining = x.draining
  st : y.st = x.st ∨ (x.st = .running ∧ y.st = .stopped)
  frame : x.frame = none → y.frame = none

theorem QueueEnds.refl (x : Queue) : QueueEnds x x := ⟨rfl, rfl, .inl rfl, id⟩

theorem QueueEnds.trans {x y z : Queue} (h : QueueEnds x y) (k : QueueEnds y z) : QueueEnds x z := by
  refine ⟨k.func.trans h.func, k.draining.trans h.draining, ?_, k.frame ∘ h.frame⟩
  obtain same | ⟨ran, stops⟩ := h.st
  · rw [← same]
    exact k.st
  · obtain same | ⟨ran', -⟩ := k.st
    · exact .inr ⟨ran, same.trans stops⟩
    · cases ran'.symm.trans stops

/-- So of every queue, and the link is as it was. -/
def Ends (s u : State) : Prop := linkView u = linkView s ∧ ∀ q, QueueEnds (ledgers s q) (ledgers u q)

theorem Ends.refl (s : State) : Ends s s := ⟨rfl, fun _ => .refl _⟩

theorem Ends.trans {s t u : State} (h : Ends s t) (k : Ends t u) : Ends s u :=
  ⟨k.1.trans h.1, fun q => (h.2 q).trans (k.2 q)⟩

theorem Ends.ite {s t u : State} (c : Prop) [Decidable c] (ht : Ends s t) (hu : Ends s u) : Ends s (if c then t else u) := by
  split <;> assumption

theorem Ends.foldl {α : Type} {g : State → α → State} (hg : ∀ t e, Ends t (g t e)) (l : List α) (s : State) :
    Ends s (l.foldl g s) := by
  induction l generalizing s with
  | nil => exact .refl s
  | cons e l ih => exact (hg s e).trans (ih (g s e))

theorem ends_of_ledgers {s u : State} (link : linkView u = linkView s := by rfl) (same : ledgers u = ledgers s := by rfl) :
    Ends s u := ⟨link, fun q => by rw [same]; exact .refl _⟩

theorem ends_setQueue {s : State} {q : Nat} {x : Queue} (h : QueueEnds (s.queue q) x) : Ends s (s.setQueue q x) := by
  refine ⟨rfl, fun j => ?_⟩
  rw [ledgers_setQueue]
  by_cases own : j = q
  · rw [own, Function.update_self]
    exact ⟨h.func, h.draining, h.st, h.frame⟩
  · rw [Function.update_of_ne own]
    exact .refl _

theorem ends_sendMsix (s : State) (fn vec : Nat) : Ends s (sendMsix s fn vec) :=
  ends_of_ledgers (linkView_sendMsix ..) (ledgers_sendMsix ..)

theorem ends_postOne (s : State) (c : CmdRef) (v : Cpl) : Ends s (postOne s c v).1 := by
  obtain ⟨same, -⟩ | ⟨n, posted⟩ := postOne_cases s c v
  · rw [same]
    exact .refl s
  · refine ⟨linkView_postOne .., fun j => ?_⟩
    rw [posted]
    by_cases own : j = c.q
    · rw [own, Function.update_self]
      exact ⟨rfl, rfl, .inl rfl, id⟩
    · rw [Function.update_of_ne own]
      exact .refl _

theorem ends_closeFrame (s : State) (q : Nat) : Ends s (closeFrame s q) := by
  rw [closeFrame]
  split
  · exact .refl s
  · exact .ite _ (Ends.trans (t := { s with upd := _ }) ends_of_ledgers
      (ends_setQueue ⟨rfl, rfl, .inl rfl, fun _ => rfl⟩)) (.refl s)

theorem ends_fetchTo (s : State) (q n : Nat) : Ends s (fetchTo s q n) := by
  refine .foldl (fun t _ => ?_) _ s
  dsimp only
  split
  · exact Ends.trans (t := (drawBytes t 64).2) ends_of_ledgers (ends_setQueue ⟨rfl, rfl, .inl rfl, id⟩)
  · exact ends_setQueue ⟨rfl, rfl, .inl rfl, id⟩

theorem ends_failRecs (s : State) (q : Nat) (rs : List Rec) (cpl : Rec → Cpl) : Ends s (failRecs s q rs cpl) :=
  (Ends.trans (t := { s with cores := _, hubq := _ }) ends_of_ledgers
    (.foldl (fun t (r : Rec) => ends_postOne t ⟨q, r.n⟩ (cpl r)) _ _)).trans (ends_closeFrame ..)

theorem ends_failUnstarted (s : State) (q st : Nat) : Ends s (failUnstarted s q st) := by
  rw [failUnstarted]
  split
  · exact (ends_fetchTo ..).trans (ends_failRecs ..)
  · exact ends_failRecs ..

theorem ends_stopQueue (s : State) (q code : Nat) : Ends s (stopQueue s q code) := by
  by_cases runs : (s.queue q).st = .running
  · have stops : Ends s (s.setQueue q { s.queue q with st := .stopped, stopCode := code }) :=
      ends_setQueue ⟨rfl, rfl, .inr ⟨runs, rfl⟩, id⟩
    rw [stopQueue, if_pos runs]
    exact stops.trans ((ends_failUnstarted ..).trans (ends_sendMsix ..))
  · rw [stopQueue, if_neg runs]
    exact .refl s

theorem ends_complete (s : State) (c : CmdRef) (v : Cpl) : Ends s (complete s c v) :=
  (Ends.ite _ ((ends_postOne ..).trans (ends_stopQueue ..)) (ends_postOne ..)).trans (ends_closeFrame ..)

/-! ### Aborts (R210, R419) -/

theorem Told.ends {s u : State} (h : Told s u) : Ends s u := by
  obtain ⟨_, -, -, _, _, _, _, _, eq, -⟩ := h
  rw [eq]
  exact ends_of_ledgers

theorem ends_abortColl (s : State) (c : Coll) (st : Nat) : Ends s (abortColl s c st) := by
  have freed (t : State) : Ends t (freeResult t c.ref.q c.dst c.dstLen) := by
    rw [freeResult]
    refine .ite _ (.refl t) (Ends.trans (t := (drawBytes t c.dstLen).2) ends_of_ledgers ?_)
    exact ends_of_ledgers (linkView_vwrite ..) (ledgers_vwrite ..)
  exact Ends.trans (t := { s with ce := _, upd := _ }) ends_of_ledgers ((freed _).trans (ends_complete ..))

theorem ends_failLate (s : State) (q : Nat) : Ends s (failLate s q) := by
  rw [failLate]
  split
  · exact .refl s
  · exact .ite _ (.refl s) ((ends_fetchTo ..).trans ((ends_failRecs ..).trans (.foldl (fun t (r : Rec) => ends_complete ..) _ _)))

end Sys2Proof.Machine

namespace Sys2Proof.Machine

theorem Ends.withUnits {s u : State} (h : Ends s u) (ce : Ce) (hubq : HubQ) (upd : Upd) :
    Ends s { u with ce := ce, hubq := hubq, upd := upd } := h.trans ends_of_ledgers

/-- R310: the update unit's work for queue `q` ends where it has begun. -/
def updAborted (s : State) (q st : Nat) : State :=
  match s.upd.run with
  | some u => if u.ref.q = q ∧ u.rs.isSome then completeSt { s with upd := { s.upd with run := none } } u.ref st else s
  | none => s

theorem ends_updAborted (s : State) (q st : Nat) : Ends s (updAborted s q st) := by
  rw [updAborted]
  split
  next u _ => exact .ite _ (Ends.trans (t := { s with upd := { s.upd with run := none } }) ends_of_ledgers (ends_complete ..)) (.refl s)
  next => exact .refl s

theorem ends_abortLocal (s : State) (gid st : Nat) : Ends s (abortLocal s gid st) := by
  have ends (q : Nat) (t : State) : Ends t (stopQueue (if st = 0x64 then failLate t q else t) q st) :=
    (Ends.ite _ (ends_failLate ..) (.refl t)).trans (ends_stopQueue ..)
  rw [abortLocal]
  split
  · exact .refl s
  next q _ =>
    refine Ends.trans ?_ (ends q _)
    refine Ends.withUnits (u := updAborted _ q st) ?_ _ _ _
    refine Ends.trans ?_ (ends_updAborted ..)
    refine Ends.trans ?_ (.foldl (fun t r => ends_complete t r _) _ _)
    refine Ends.withUnits ?_ _ _ _
    refine Ends.trans ?_ (.foldl (fun t c => ends_abortColl t c st) _ _)
    exact Ends.withUnits (.refl s) _ _ _

theorem ends_abortOf (s : State) (q st : Nat) : Ends s (abortOf s q st) :=
  .ite _ ((announceAbort_told ..).ends.trans (ends_abortLocal ..)) (.refl s)

/-! ### Disables and function resets (R530, R549) -/

/-- A queue under a disable keeps its function, does not start to run, and does not run while it drains. -/
structure QueueQuiets (x y : Queue) : Prop where
  func : y.func = x.func
  runs : y.st = .running → x.st = .running
  drains : y.st = .running → y.draining = true → x.draining = true

/-- So of every queue, and the link is as it was. -/
def Quiets (s u : State) : Prop := linkView u = linkView s ∧ ∀ q, QueueQuiets (ledgers s q) (ledgers u q)

theorem QueueEnds.quiets {x y : Queue} (h : QueueEnds x y) : QueueQuiets x y := by
  refine ⟨h.func, fun runs => ?_, fun _ drains => by rw [← h.draining, drains]⟩
  obtain same | ⟨ran, -⟩ := h.st
  · rw [← same, runs]
  · exact ran

theorem Ends.quiets {s u : State} (h : Ends s u) : Quiets s u := ⟨h.1, fun q => (h.2 q).quiets⟩

theorem Quiets.trans {s t u : State} (h : Quiets s t) (k : Quiets t u) : Quiets s u :=
  ⟨k.1.trans h.1, fun q =>
    ⟨(k.2 q).func.trans (h.2 q).func, fun runs => (h.2 q).runs ((k.2 q).runs runs), fun runs drains =>
      (h.2 q).drains ((k.2 q).runs runs) ((k.2 q).drains runs drains)⟩⟩

theorem Quiets.foldl {α : Type} {g : State → α → State} (hg : ∀ t e, Quiets t (g t e)) (l : List α) (s : State) :
    Quiets s (l.foldl g s) := by
  induction l generalizing s with
  | nil => exact (Ends.refl s).quiets
  | cons e l ih => exact (hg s e).trans (ih (g s e))

/-- A queue that is put where it does not run. -/
theorem quiets_setQueue {s : State} {q : Nat} {x : Queue} (func : x.func = (s.queue q).func) (quiet : x.st ≠ .running) :
    Quiets s (s.setQueue q x) := by
  refine ⟨rfl, fun j => ?_⟩
  rw [ledgers_setQueue]
  by_cases own : j = q
  · rw [own, Function.update_self]
    exact ⟨func, fun runs => absurd runs quiet, fun runs => absurd runs quiet⟩
  · rw [Function.update_of_ne own]
    exact (QueueEnds.refl _).quiets

/-- R530: from a queue that is put to drain, a disable goes on by completions and aborts. -/
theorem disableQueue_of_running {s : State} {q : Nat} (runs : ¬ ((s.queue q).st = .disabled ∨ (s.queue q).draining = true)) :
    Ends (s.setQueue q { s.queue q with st := .stopped, stopCode := 0, draining := true }) (disableQueue s q) := by
  rw [disableQueue, if_neg runs]
  exact (Ends.ite _ (ends_abortOf ..) (.refl _)).trans (ends_failUnstarted ..)

theorem quiets_disableQueue (s : State) (q : Nat) : Quiets s (disableQueue s q) := by
  by_cases rests : (s.queue q).st = .disabled ∨ (s.queue q).draining = true
  · rw [disableQueue, if_pos rests]
    exact (Ends.refl s).quiets
  · have stopped : Quiets s (s.setQueue q { s.queue q with st := .stopped, stopCode := 0, draining := true }) :=
      quiets_setQueue rfl QueueSt.noConfusion
    exact stopped.trans (disableQueue_of_running rests).quiets

/-- R530: a queue that drains only where it does not run has stopped after a disable. -/
theorem disableQueue_stops {s : State} {q : Nat} (quiet : (s.queue q).draining = true → (s.queue q).st ≠ .running) :
    ((disableQueue s q).queue q).st ≠ .running := by
  by_cases rests : (s.queue q).st = .disabled ∨ (s.queue q).draining = true
  · rw [disableQueue, if_pos rests]
    exact rests.elim (fun off => by rw [off]; decide) quiet
  · have ended := ((disableQueue_of_running rests).quiets.2 q).runs
    rw [ledgers_setQueue, Function.update_self] at ended
    exact fun runs => QueueSt.noConfusion (ended runs)

/-- R530: a queue that does not drain, or whose frame goes on, is left. -/
theorem disableDone_of_held {s : State} {q : Nat} (holds : ¬ ((s.queue q).draining = true ∧ (s.queue q).frame = none)) :
    disableDone s q = s := by
  refine if_pos ?_
  rw [Bool.or_eq_true, Bool.not_eq_true', Option.isSome_iff_ne_none]
  by_cases drains : (s.queue q).draining = true
  · exact .inr fun rests => holds ⟨drains, rests⟩
  · exact .inl (Bool.eq_false_of_not_eq_true drains)

theorem quiets_disableDone (s : State) (q : Nat) : Quiets s (disableDone s q) := by
  by_cases drains : (s.queue q).draining = true ∧ (s.queue q).frame = none
  · rw [disableDone_of_drained drains.1 drains.2]
    refine Quiets.trans ?_ (ends_sendMsix ..).quiets
    exact quiets_setQueue (s := { s with cores := s.cores.map (fun (c : Nat × Core) => (c.1, c.2.release q)) }) rfl
      QueueSt.noConfusion
  · rw [disableDone_of_held drains]
    exact (Ends.refl s).quiets

/-- An entry that differs from the default is listed. -/
theorem mem_of_tabGet {α : Type} {t : Tab α} {d : α} {k : Nat} (listed : tabGet t d k ≠ d) : (k, tabGet t d k) ∈ t := by
  induction t with
  | nil => exact absurd rfl listed
  | cons e t ih =>
    obtain ⟨j, x⟩ := e
    rw [tabGet] at listed ⊢
    split at listed
    next own =>
      rw [if_pos own, own]
      exact List.mem_cons_self
    next other =>
      rw [if_neg other]
      exact List.mem_cons_of_mem _ (ih listed)

/-- R549: the queues that a reset of function `f` disables. -/
def flrQueues (s : State) (f : Nat) : List Nat :=
  (s.queues.filter (fun e => (flrScope f).contains e.2.func && e.2.st != .disabled)).map (fun e => e.1)

/-- R549: with the reset noted, each of them is disabled, and Disabled where nothing of it is left to drain. -/
def flrStopped (s : State) (f : Nat) : State :=
  (flrQueues s f).foldl (fun t q => disableDone (disableQueue t q) q)
    { s with host := { s.host with flrs := (flrScope f).foldl setIns s.host.flrs } }

/-- R549: a running queue of the functions under reset is one that stops. -/
theorem mem_flrQueues {s : State} {f q : Nat} (scope : (flrScope f).contains (s.queue q).func = true)
    (runs : (s.queue q).st = .running) : q ∈ flrQueues s f := by
  have listed : (q, s.queue q) ∈ s.queues := mem_of_tabGet fun blank => by
    have same : (s.queue q).st = ({} : Queue).st := congrArg Queue.st blank
    rw [runs] at same
    cases same
  refine List.mem_map.mpr ⟨_, List.mem_filter.mpr ⟨listed, ?_⟩, rfl⟩
  rw [scope, runs]
  rfl

/-- A state in which no queue runs while it drains. -/
def DrainsQuietly (s : State) : Prop := ∀ q, (s.queue q).draining = true → (s.queue q).st ≠ .running

theorem Quiets.drainsQuietly {s u : State} (h : Quiets s u) (quiet : DrainsQuietly s) : DrainsQuietly u :=
  fun q drains runs => quiet q ((h.2 q).drains runs drains) ((h.2 q).runs runs)

theorem quiets_disables (qs : List Nat) (s : State) :
    Quiets s (qs.foldl (fun t q => disableDone (disableQueue t q) q) s) :=
  .foldl (fun t q => (quiets_disableQueue t q).trans (quiets_disableDone _ q)) qs s

/-- R549: of queues that are disabled in turn none runs at the end. -/
theorem disables_stop {qs : List Nat} {s : State} (quiet : DrainsQuietly s) {q : Nat} (listed : q ∈ qs) :
    ((qs.foldl (fun t q => disableDone (disableQueue t q) q) s).queue q).st ≠ .running := by
  induction qs generalizing s with
  | nil => cases listed
  | cons p qs ih =>
    have first := (quiets_disableQueue s p).trans (quiets_disableDone _ p)
    obtain rfl | later := List.mem_cons.mp listed
    · refine fun runs => disableQueue_stops (quiet q) ?_
      exact ((quiets_disableDone _ q).2 q).runs (((quiets_disables qs _).2 q).runs runs)
    · exact ih (first.drainsQuietly quiet) later

/-- R549: the host's page after a reset of the PF. -/
def hostCleared (s : State) : State :=
  { s with host := { s.host with irqStat := 0, irqMask := 0, bar4Base := 0, vfEnable := false } }

theorem flrStart_eq (s : State) (f : Nat) :
    flrStart s f = flrSweep (if f = 0 then hostCleared (flrStopped s f) else flrStopped s f) := rfl

theorem quiets_flrStart (s : State) (f : Nat) : Quiets s (flrStart s f) := by
  have noted : Quiets s { s with host := { s.host with flrs := (flrScope f).foldl setIns s.host.flrs } } :=
    Ends.quiets ends_of_ledgers
  have stopped : Quiets s (flrStopped s f) := noted.trans (quiets_disables _ _)
  rw [flrStart_eq]
  obtain ⟨_, _, swept⟩ := flrSweep_eq (if f = 0 then hostCleared (flrStopped s f) else flrStopped s f)
  rw [swept]
  split
  · exact stopped.trans (Ends.quiets ends_of_ledgers)
  · exact stopped.trans (Ends.quiets ends_of_ledgers)

/-- R549: after a function's reset none of its queues runs. -/
theorem flrStart_stops {s : State} {f q : Nat} (quiet : DrainsQuietly s) (scope : (flrScope f).contains (s.queue q).func = true) :
    ((flrStart s f).queue q).st ≠ .running := by
  have same : (flrStart s f).queue q = (flrStopped s f).queue q := by
    obtain ⟨_, _, swept⟩ := flrSweep_eq (if f = 0 then hostCleared (flrStopped s f) else flrStopped s f)
    rw [flrStart_eq, swept]
    split <;> rfl
  rw [same]
  by_cases runs : (s.queue q).st = .running
  · exact disables_stop (s := { s with host := { s.host with flrs := (flrScope f).foldl setIns s.host.flrs } }) quiet
      (mem_flrQueues scope runs)
  · have stopped := quiets_disables (flrQueues s f) { s with host := { s.host with flrs := (flrScope f).foldl setIns s.host.flrs } }
    exact fun still => runs ((stopped.2 q).runs still)

/-- R549: a reset of the PF clears the host's page. -/
theorem flrStart_clears (s : State) : (flrStart s 0).host.irqStat = 0 ∧ (flrStart s 0).host.irqMask = 0
    ∧ (flrStart s 0).host.bar4Base = 0 ∧ (flrStart s 0).host.vfEnable = false := by
  obtain ⟨_, _, swept⟩ := flrSweep_eq (hostCleared (flrStopped s 0))
  rw [flrStart_eq, if_pos rfl, swept]
  exact ⟨rfl, rfl, rfl, rfl⟩

/-- R549: the PF's reset is every function's. -/
theorem flrScope_pf {f : Nat} (function : f ≤ 8) : (flrScope 0).contains f = true := by
  rw [List.contains_iff_mem]
  exact List.mem_range.mpr (by omega)

/-- R549: a function's reset is its own. -/
theorem flrScope_own (f : Nat) : (flrScope f).contains f = true := by
  rw [flrScope]
  split
  next pf => rw [pf]; decide
  next => simp

/-- R566, R569: in Active and Dormant the loss of the link has the effect of a reset of every function. -/
theorem linkDown_resets {s : State} (up : s.pst = .active ∨ s.pst = .dormant) (quiet : DrainsQuietly s) :
    linkView (linkDown s) = (false, s.host.refclkA, s.host.perst) ∧ (linkDown s).host.irqStat = 0
      ∧ (linkDown s).host.irqMask = 0 ∧ (linkDown s).host.bar4Base = 0 ∧ (linkDown s).host.vfEnable = false
      ∧ (∀ q, (s.queue q).func ≤ 8 → ((linkDown s).queue q).st ≠ .running) := by
  have down : linkDown s = flrStart { s with host := { s.host with linkUp := false } } 0 :=
    if_pos (by rw [Bool.or_eq_true, beq_iff_eq, beq_iff_eq]; exact up)
  rw [down]
  obtain ⟨stat, mask, base, vf⟩ := flrStart_clears { s with host := { s.host with linkUp := false } }
  exact ⟨(quiets_flrStart _ 0).1, stat, mask, base, vf, fun q function =>
    flrStart_stops (s := { s with host := { s.host with linkUp := false } }) quiet (flrScope_pf function)⟩

/-- R519: resets of the functions 1 to `n` in turn. -/
theorem vfResets {s : State} (quiet : DrainsQuietly s) (n : Nat) :
    Quiets s (forUp n (fun v t => flrStart t (v + 1)) s)
      ∧ ∀ q, 1 ≤ (s.queue q).func → (s.queue q).func ≤ n →
        ((forUp n (fun v t => flrStart t (v + 1)) s).queue q).st ≠ .running := by
  induction n with
  | zero => exact ⟨(Ends.refl s).quiets, fun q low high => by omega⟩
  | succ n ih =>
    obtain ⟨kept, stops⟩ := ih
    rw [forUp_succ]
    refine ⟨kept.trans (quiets_flrStart ..), fun q low high => ?_⟩
    by_cases last : (s.queue q).func = n + 1
    · refine flrStart_stops (kept.drainsQuietly quiet) ?_
      have own : ((forUp n (fun v t => flrStart t (v + 1)) s).queue q).func = n + 1 := (kept.2 q).func.trans last
      rw [own]
      exact flrScope_own _
    · exact fun runs => stops q low (by omega) (((quiets_flrStart _ (n + 1)).2 q).runs runs)

end Sys2Proof.Machine

namespace Sys2Proof.Machine

/-! ### Completions and the other queues -/

section
variable {s : State} {p q : Nat} (other : q ≠ p)
include other

theorem ledgers_setQueue_ne (x : Queue) : ledgers (s.setQueue p x) q = ledgers s q := by
  rw [ledgers_setQueue, Function.update_of_ne other]

theorem ledgers_closeFrame_ne : ledgers (closeFrame s p) q = ledgers s q := by
  rcases closeFrame_cases s p with stays | ⟨_, _, closes, -⟩
  · rw [stays]
  · rw [closes]
    exact ledgers_setQueue_ne other _

theorem ledgers_postOne_ne (n : Nat) (v : Cpl) : ledgers (postOne s ⟨p, n⟩ v).1 q = ledgers s q := by
  obtain ⟨same, -⟩ | ⟨_, posted⟩ := postOne_cases s ⟨p, n⟩ v
  · rw [same]
  · rw [posted, Function.update_of_ne other]

theorem ledgers_fetchTo_ne (n : Nat) : ledgers (fetchTo s p n) q = ledgers s q := by
  refine foldl_kept (fun t => ledgers t q) (fun t _ => ?_) _ s
  dsimp only
  split
  · exact ledgers_setQueue_ne (s := (drawBytes t 64).2) other _
  · exact ledgers_setQueue_ne other _

theorem ledgers_failRecs_ne (rs : List Rec) (cpl : Rec → Cpl) : ledgers (failRecs s p rs cpl) q = ledgers s q :=
  (ledgers_closeFrame_ne other).trans (foldl_kept (fun t => ledgers t q) (fun _ (r : Rec) => ledgers_postOne_ne other r.n (cpl r)) _ _)

theorem ledgers_stopQueue_ne (code : Nat) : ledgers (stopQueue s p code) q = ledgers s q := by
  have failed (t : State) : ledgers (failUnstarted t p 0xA4) q = ledgers t q := by
    rw [failUnstarted, ledgers_failRecs_ne other]
    split
    · exact ledgers_fetchTo_ne other _
    · rfl
  rw [stopQueue]
  split
  · rw [ledgers_sendMsix, failed, ledgers_setQueue_ne other]
  · rfl

/-- A completion is of its own queue alone. -/
theorem ledgers_complete_ne (n : Nat) (v : Cpl) : ledgers (complete s ⟨p, n⟩ v) q = ledgers s q := by
  rw [complete, ledgers_closeFrame_ne other]
  split
  · exact (ledgers_stopQueue_ne other _).trans (ledgers_postOne_ne other ..)
  · exact ledgers_postOne_ne other ..

theorem queue_disableDone_ne : (disableDone s p).queue q = s.queue q := by
  by_cases drains : (s.queue p).draining = true ∧ (s.queue p).frame = none
  · obtain ⟨_, _, told⟩ := sendMsix_eq (drainEnded s p) (s.queue p).func (s.queue p).stopVec
    rw [disableDone_of_drained drains.1 drains.2, told]
    exact queue_setQueue_ne _ _ _ _ other
  · rw [disableDone_of_held drains]

end

/-! ### The end of a frame (R194, R235) -/

@[simp] theorem n_marked (r : Rec) (n st : Nat) : (r.marked n st).n = r.n := by
  rw [Rec.marked]
  split <;> rfl

theorem isDone_marked (r : Rec) (n st : Nat) : (r.marked n st).isDone = (r.n == n || r.isDone) := by
  rw [Rec.marked]
  split
  next own => rw [own]; rfl
  next other => rw [Bool.eq_false_of_not_eq_true other, Bool.false_or]

theorem frameRecs_marked (x : Queue) (n st : Nat) : frameRecs (x.marked n st) = (frameRecs x).map (fun r => r.marked n st) := by
  rw [frameRecs, frameRecs]
  cases frame : x.frame with
  | none => simp only [Queue.marked, frame, List.map_nil]
  | some f =>
    simp only [Queue.marked, frame, List.filter_map]
    exact congrArg _ (List.filter_congr fun r _ => by simp only [Function.comp_apply, n_marked])

/-- The numbers of the records of a queue's frame that are not done. -/
def undone (x : Queue) : List Nat := ((frameRecs x).filter (fun r => !r.isDone)).map (fun r => r.n)

theorem undone_marked (x : Queue) (n st : Nat) : undone (x.marked n st) = (undone x).filter (fun k => k != n) := by
  rw [undone, undone, frameRecs_marked, List.filter_map, List.map_map, List.filter_map, List.filter_filter]
  have number : (fun r : Rec => r.n) ∘ (fun r : Rec => r.marked n st) = fun r : Rec => r.n := funext fun r => n_marked r n st
  rw [number]
  refine congrArg _ (List.filter_congr fun r _ => ?_)
  simp only [Function.comp_apply, isDone_marked, Bool.not_or]
  rfl

/-- A frame that is left to end in a queue that does not run: it has its records, each under its own number. -/
structure Left (x : Queue) (f : Frame) : Prop where
  frame : x.frame = some f
  st : x.st ≠ .running
  whole : (frameRecs x).length = f.len
  found : ∀ r ∈ frameRecs x, x.recs.find? (fun e => e.n == r.n) = some r

/-- Only the frame, the standing and the records of a queue matter to it. -/
theorem Left.of_same {x y : Queue} {f : Frame} (h : Left x f) (frame : y.frame = x.frame) (st : y.st = x.st)
    (recs : y.recs = x.recs) : Left y f := by
  have same : frameRecs y = frameRecs x := by rw [frameRecs, frameRecs, frame, recs]
  exact ⟨frame.trans h.frame, by rw [st]; exact h.st, by rw [same]; exact h.whole, by rw [same, recs]; exact h.found⟩

theorem undone_of_same {x y : Queue} (frame : y.frame = x.frame) (recs : y.recs = x.recs) : undone y = undone x := by
  rw [undone, undone, frameRecs, frameRecs, frame, recs]

theorem Left.marked {x : Queue} {f : Frame} (h : Left x f) (n st : Nat) : Left (x.marked n st) f := by
  refine ⟨h.frame, h.st, ?_, fun r listed => ?_⟩
  · rw [frameRecs_marked, List.length_map]
    exact h.whole
  · rw [frameRecs_marked] at listed
    obtain ⟨e, here, rfl⟩ := List.mem_map.mp listed
    have first := h.found e here
    rw [Queue.marked, List.find?_map, n_marked]
    have keyed : (fun k : Rec => k.n == e.n) ∘ (fun r : Rec => r.marked n st) = fun k : Rec => k.n == e.n :=
      funext fun k => by simp only [Function.comp_apply, n_marked]
    rw [keyed, first]
    rfl

/-- Where no record of number `n` is found that is not done, the frame has none left of that number. -/
theorem Left.not_undone {x : Queue} {f : Frame} (h : Left x f) {n : Nat}
    (done : ∀ r, x.recs.find? (fun e => e.n == n) = some r → r.isDone = true) : n ∉ undone x := fun listed => by
  obtain ⟨r, here, number⟩ := List.mem_map.mp listed
  obtain ⟨here, unfinished⟩ := List.mem_filter.mp here
  have first := h.found r here
  rw [number] at first
  rw [done r first] at unfinished
  cases unfinished

/-- R194: a frame whose records are all there closes once none is left. -/
theorem closeFrame_of_left {s : State} {q : Nat} {f : Frame} (h : Left (ledgers s q) f) :
    ((closeFrame s q).queue q).frame = none ∨ (closeFrame s q = s ∧ undone (ledgers s q) ≠ []) := by
  have frame : (s.queue q).frame = some f := h.frame
  by_cases ended : ((frameRecs (s.queue q)).all Rec.isDone && decide ((frameRecs (s.queue q)).length = f.len)) = true
  · left
    rw [closeFrame]
    simp only [frame, ended, if_true]
    rw [queue_setQueue]
  · right
    refine ⟨?_, fun finished => ended ?_⟩
    · rw [closeFrame]
      simp only [frame, ended, Bool.false_eq_true, if_false]
    · rw [Bool.and_eq_true, List.all_eq_true, decide_eq_true_eq]
      refine ⟨fun r here => ?_, h.whole⟩
      by_contra unfinished
      have listed : r.n ∈ undone (ledgers s q) :=
        List.mem_map.mpr ⟨r, List.mem_filter.mpr ⟨here, by rw [Bool.eq_false_of_not_eq_true unfinished]; rfl⟩, rfl⟩
      rw [finished] at listed
      cases listed

/-- R235: a completion in a queue with a frame that is left to end: the frame ends, or its record is one less. -/
theorem complete_left {s : State} {q : Nat} {f : Frame} (h : Left (ledgers s q) f) (n : Nat) (v : Cpl) :
    (ledgers (complete s ⟨q, n⟩ v) q).frame = none ∨ (Left (ledgers (complete s ⟨q, n⟩ v) q) f
      ∧ undone (ledgers (complete s ⟨q, n⟩ v) q) = (undone (ledgers s q)).filter (fun k => k != n)
      ∧ undone (ledgers (complete s ⟨q, n⟩ v) q) ≠ []) := by
  have posted : Left (ledgers (postOne s ⟨q, n⟩ v).1 q) f
      ∧ undone (ledgers (postOne s ⟨q, n⟩ v).1 q) = (undone (ledgers s q)).filter (fun k => k != n) := by
    obtain ⟨same, done⟩ | ⟨k, marked⟩ := postOne_cases s ⟨q, n⟩ v
    · rw [same]
      refine ⟨h, (List.filter_eq_self.mpr fun k listed => bne_iff_ne.mpr fun own => ?_).symm⟩
      exact h.not_undone done (own ▸ listed)
    · rw [marked, Function.update_self]
      exact ⟨(h.marked n v.status).of_same rfl rfl rfl, (undone_of_same (x := (ledgers s q).marked n v.status) rfl rfl).trans (undone_marked ..)⟩
  have quiet (code : Nat) : stopQueue (postOne s ⟨q, n⟩ v).1 q code = (postOne s ⟨q, n⟩ v).1 := if_neg posted.1.st
  have closes : complete s ⟨q, n⟩ v = closeFrame (postOne s ⟨q, n⟩ v).1 q := by simp only [complete, quiet, ite_self]
  rw [closes]
  obtain ended | ⟨stays, nonempty⟩ := closeFrame_of_left posted.1
  · exact .inl ended
  · rw [stays]
    exact .inr ⟨posted.1, posted.2, nonempty⟩

/-- R233, R549: a queue whose frame can be ended by completions, or that has none. -/
def Ending (x : Queue) : Prop := x.frame = none ∨ ∃ f, Left x f ∧ undone x ≠ []

theorem ending_complete {s : State} {q : Nat} (h : Ending (ledgers s q)) (c : CmdRef) (v : Cpl) :
    Ending (ledgers (complete s c v) q) := by
  obtain ⟨p, n⟩ := c
  by_cases own : q = p
  · subst own
    obtain free | ⟨f, left, -⟩ := h
    · exact .inl (((ends_complete s ⟨q, n⟩ v).2 q).frame free)
    · exact (complete_left left n v).imp_right fun ⟨left, _, nonempty⟩ => ⟨f, left, nonempty⟩
  · rw [ledgers_complete_ne own]
    exact h

/-- R233: completing all that is left of a frame ends it. -/
theorem frame_of_completed {q : Nat} {f : Frame} {rs : List Rec} {s : State} (h : Left (ledgers s q) f)
    (nonempty : undone (ledgers s q) ≠ []) (all : ∀ n ∈ undone (ledgers s q), n ∈ rs.map (fun r => r.n)) (st : Nat) :
    (ledgers (rs.foldl (fun u r => completeSt u ⟨q, r.n⟩ st) s) q).frame = none := by
  induction rs generalizing s with
  | nil =>
    obtain ⟨n, listed⟩ := List.exists_mem_of_ne_nil _ nonempty
    cases all n listed
  | cons r rs ih =>
    obtain ended | ⟨left, less, more⟩ := complete_left h r.n { status := st }
    · exact ((Ends.foldl (fun t (e : Rec) => ends_complete t ⟨q, e.n⟩ { status := st }) rs _).2 q).frame ended
    · have rest := ih left more fun n listed => by
        rw [less, List.mem_filter] at listed
        exact (List.mem_cons.mp (all n listed.1)).resolve_left (bne_iff_ne.mp listed.2)
      exact rest

/-! ### The time limit of a function's reset (R549) -/

@[simp] theorem ledgers_unstageAll (s : State) (p : Nat) : ledgers (unstageAll s p) = ledgers s :=
  foldl_kept ledgers (fun t (x : StageLine) => ledgers_unstage t p x.addr) _ s

@[simp] theorem ledgers_sendMsg (s : State) (m : DieMsg) : ledgers (sendMsg s m) = ledgers s := rfl

theorem ledgers_bring (s : State) (b : Bring) : ledgers { s with bring := b } = ledgers s := rfl

@[simp] theorem ledgers_dropFlight (s : State) (p : Nat) : ledgers (dropFlight s p) = ledgers s := by
  refine (foldl_kept ledgers (fun t f => ?_) _ _).trans rfl
  split
  · simp only [ledgers_queueCtr, ledgers_coreCtr]
  · exact foldl_kept ledgers (fun u w => ledgers_sendMsg u _) _ t

/-- A queue that is Disabled and does not drain. -/
def Gone (x : Queue) : Prop := x.st = .disabled ∧ x.draining = false

/-- A queue on its way to Disabled: it drains and its frame can be ended, or it is Disabled. -/
def Leaving (x : Queue) : Prop := (x.draining = true ∧ Ending x) ∨ Gone x

theorem QueueEnds.gone {x y : Queue} (h : QueueEnds x y) (gone : Gone x) : Gone y := by
  refine ⟨?_, h.draining.trans gone.2⟩
  obtain same | ⟨ran, -⟩ := h.st
  · exact same.trans gone.1
  · cases gone.1.symm.trans ran

theorem leaving_complete {s : State} {q : Nat} (h : Leaving (ledgers s q)) (c : CmdRef) (v : Cpl) :
    Leaving (ledgers (complete s c v) q) := by
  have ends := (ends_complete s c v).2 q
  exact h.imp (fun ⟨drains, ending⟩ => ⟨ends.draining.trans drains, ending_complete ending c v⟩) ends.gone

theorem leaving_foldl {α : Type} {g : State → α → State} {q : Nat} (hg : ∀ t e, Leaving (ledgers t q) → Leaving (ledgers (g t e) q))
    (l : List α) {s : State} (h : Leaving (ledgers s q)) : Leaving (ledgers (l.foldl g s) q) := by
  induction l generalizing s with
  | nil => exact h
  | cons e l ih => exact ih (hg s e h)

theorem leaving_resetCore {s : State} {q : Nat} (h : Leaving (ledgers s q)) (p st : Nat) :
    Leaving (ledgers (resetCore s p st) q) := by
  have halted : Leaving (ledgers (haltCore s p st) q) := by
    refine leaving_foldl (fun t c left => leaving_complete left c _) _ ?_
    have same (t : State) (x : Core) : ledgers (t.setCore p x) = ledgers t := rfl
    rw [same, ledgers_dropFlight, ledgers_unstageAll]
    exact h
  rw [resetCore]
  split
  · exact h
  · rw [ledgers_bring, bringCtr, ledgers_bring]
    exact halted

/-- R549: what is left of a queue's frame is ended. -/
def frameEnded (s : State) (q : Nat) : State :=
  ((frameRecs (s.queue q)).filter (fun r => !r.isDone)).foldl (fun u r => completeSt u ⟨q, r.n⟩ 0xA3) s

theorem ends_frameEnded (s : State) (q : Nat) : Ends s (frameEnded s q) :=
  .foldl (fun t (r : Rec) => ends_complete t ⟨q, r.n⟩ _) _ s

/-- R549: and then the queue's drain. -/
def flrDrained (s : State) (q : Nat) : State := disableDone (frameEnded s q) q

/-- R549: the queues of the functions under reset that still drain. -/
def flrDraining (s : State) : List Nat :=
  (s.queues.filter (fun e => s.host.flrs.contains e.2.func && e.2.draining)).map (fun e => e.1)

/-- R549: the cores that still execute for them. -/
def flrBusy (s : State) : List Nat :=
  (s.cores.filter (fun (c : Nat × Core) => (executing c.2).any (fun r => (flrDraining s).contains r.q))).map (fun c => c.1)

theorem flrTimeout_eq (s : State) : flrTimeout s =
    flrSweep ((flrDraining s).foldl flrDrained ((flrBusy s).foldl (fun t p => resetCore t p 0xA3) s)) := rfl

theorem gone_disableDone {s : State} {q : Nat} (gone : Gone (s.queue q)) (p : Nat) : Gone ((disableDone s p).queue q) := by
  by_cases own : q = p
  · subst own
    rw [disableDone_of_held fun drains => Bool.false_ne_true (gone.2.symm.trans drains.1)]
    exact gone
  · rw [queue_disableDone_ne own]
    exact gone

/-- R530: a queue whose drain ends is Disabled. -/
theorem gone_of_drained {s : State} {q : Nat} (drains : (s.queue q).draining = true) (rests : (s.queue q).frame = none) :
    Gone ((disableDone s q).queue q) := by
  obtain ⟨_, _, told⟩ := sendMsix_eq (drainEnded s q) (s.queue q).func (s.queue q).stopVec
  rw [disableDone_of_drained drains rests, told]
  have left : (drainEnded s q).queue q = { s.queue q with st := .disabled, draining := false, recs := [] } := queue_setQueue ..
  exact ⟨congrArg Queue.st left, congrArg Queue.draining left⟩

/-- A queue on its way to Disabled is Disabled once it is its turn. -/
theorem flrDrained_gone {s : State} {q : Nat} (h : Leaving (ledgers s q)) : Gone ((flrDrained s q).queue q) := by
  have ends := ends_frameEnded s q
  obtain ⟨drains, ending⟩ | gone := h
  · have ended : (ledgers (frameEnded s q) q).frame = none := by
      obtain free | ⟨f, left, nonempty⟩ := ending
      · exact (ends.2 q).frame free
      · exact frame_of_completed left nonempty (fun n listed => listed) 0xA3
    exact gone_of_drained ((ends.2 q).draining.trans drains) ended
  · exact gone_disableDone ((ends.2 q).gone gone) q

theorem flrDrained_leaving {s : State} {q : Nat} (h : Leaving (ledgers s q)) (p : Nat) : Leaving (ledgers (flrDrained s p) q) := by
  by_cases own : q = p
  · subst own
    exact .inr (flrDrained_gone h)
  · have done : Leaving (ledgers (frameEnded s p) q) :=
      leaving_foldl (fun t (r : Rec) left => leaving_complete left ⟨p, r.n⟩ _) _ h
    rw [flrDrained, ledgers, queue_disableDone_ne own]
    exact done

theorem flrDrained_stays {s : State} {q : Nat} (gone : Gone (s.queue q)) (p : Nat) : Gone ((flrDrained s p).queue q) :=
  gone_disableDone (((ends_frameEnded s p).2 q).gone gone) p

theorem flrDrained_all {ps : List Nat} {s : State} {q : Nat} (h : Leaving (ledgers s q)) (listed : q ∈ ps) :
    Gone ((ps.foldl flrDrained s).queue q) := by
  have stays (l : List Nat) : ∀ {t : State}, Gone (t.queue q) → Gone ((l.foldl flrDrained t).queue q) := by
    induction l with
    | nil => exact id
    | cons p l ih => exact fun gone => ih (flrDrained_stays gone p)
  induction ps generalizing s with
  | nil => cases listed
  | cons p ps ih =>
    obtain rfl | later := List.mem_cons.mp listed
    · exact stays ps (flrDrained_gone h)
    · exact ih (flrDrained_leaving h p) later

/-- R549: 90 ms after a reset a queue of its functions that still drains is Disabled. -/
theorem flrTimeout_ends {s : State} {q : Nat} (drains : (s.queue q).draining = true)
    (reset : s.host.flrs.contains (s.queue q).func = true) (ending : Ending (s.queue q)) : Gone ((flrTimeout s).queue q) := by
  have listed : q ∈ flrDraining s := by
    have entry : (q, s.queue q) ∈ s.queues := mem_of_tabGet fun blank => by
      have same : (s.queue q).draining = ({} : Queue).draining := congrArg Queue.draining blank
      rw [drains] at same
      cases same
    refine List.mem_map.mpr ⟨_, List.mem_filter.mpr ⟨entry, ?_⟩, rfl⟩
    rw [reset, drains]
    rfl
  have left : Leaving (ledgers s q) := .inl ⟨drains, ending.imp_right fun ⟨f, left, nonempty⟩ => ⟨f, left.of_same rfl rfl rfl, nonempty⟩⟩
  have cleared := leaving_foldl (fun t p left => leaving_resetCore left p 0xA3) (flrBusy s) left
  obtain ⟨_, _, swept⟩ := flrSweep_eq ((flrDraining s).foldl flrDrained ((flrBusy s).foldl (fun t p => resetCore t p 0xA3) s))
  rw [flrTimeout_eq, swept]
  exact flrDrained_all cleared listed

/-- Settles O36: the link's loss by `linkDown_resets`, resets by `flrStart_stops` and `vfResets`, their time limit by
`flrTimeout_ends`. -/
theorem theHostLinkComesAndGoes : Obligations.TheHostLinkComesAndGoes := by
  unfold Obligations.TheHostLinkComesAndGoes
  refine ⟨?idle, ?down, ?release, ?resets, ?timeout, ?enable, ?clear⟩
  case idle =>
    intro s idle
    have powered : vsbUp s = true := by obtain st | st := idle <;> rw [vsbUp, st] <;> rfl
    have still : (s.pst == .active || s.pst == .dormant) = false := by obtain st | st := idle <;> rw [st] <;> rfl
    refine ⟨congrArg Host.Outcome.next ?_, fun released => congrArg Host.Outcome.next ?_⟩
    · rw [powered]
      exact if_neg (Bool.eq_false_iff.mp still)
    · rw [powered, released]
      exact if_neg (Bool.eq_false_iff.mp still)
  case down =>
    intro s up quiet
    have powered : vsbUp s = true := by obtain st | st := up <;> rw [vsbUp, st] <;> rfl
    refine ⟨⟨_, congrArg Host.Outcome.next (if_pos powered), ?_⟩, fun released =>
      ⟨_, congrArg Host.Outcome.next (if_pos (by rw [powered, released]; rfl)), ?_⟩⟩
    · obtain ⟨link, page⟩ := linkDown_resets (s := { s with host := { s.host with refclkA := false } }) up quiet
      exact ⟨congrArg Prod.fst link, congrArg (fun v => v.2.1) link, page⟩
    · obtain ⟨link, page⟩ := linkDown_resets (s := { s with host := { s.host with perst := true } }) up quiet
      exact ⟨congrArg Prod.fst link, congrArg (fun v => v.2.2) link, page⟩
  case release =>
    intro s powered
    refine congrArg Host.Outcome.next (if_neg ?_)
    rw [vsbUp, bne_iff_ne.mpr powered]
    decide
  case resets =>
    intro f s linked present quiet
    refine ⟨_, congrArg Host.Outcome.next (if_pos (by rw [linked, present]; rfl)), fun q own =>
      flrStart_stops quiet (by rw [own]; exact flrScope_own f), fun pf => ?_⟩
    rw [pf]
    exact flrStart_clears s
  case timeout =>
    intro s q drains reset frame
    refine ⟨_, rfl, flrTimeout_ends drains reset (frame.imp_right fun ⟨stopped, f, is, whole, found, r, here, unfinished⟩ => ?_)⟩
    refine ⟨f, ⟨is, by rw [stopped]; decide, whole, found⟩, List.ne_nil_of_mem (a := r.n) ?_⟩
    exact List.mem_map.mpr ⟨r, List.mem_filter.mpr ⟨here, by rw [unfinished]; rfl⟩, rfl⟩
  case enable =>
    intro n s linked off
    exact congrArg Host.Outcome.next (if_pos (by rw [linked, off]; rfl))
  case clear =>
    intro s linked on quiet
    obtain ⟨kept, stops⟩ := vfResets quiet s.host.numVfs
    exact ⟨_, congrArg Host.Outcome.next (if_pos (by rw [linked, on]; rfl)), rfl, congrArg Prod.fst kept.1, stops⟩

end Sys2Proof.Machine
